-- ==== Sys2Proof/Word.lean ====
section
/-! DEFINITION. The byte, and sequences of bytes. Every wider quantity of the manual (object values, packet fields, times in ns)
is a natural number with the width its table gives. -/

namespace Sys2Proof

/-- One byte. -/
abbrev Byte := BitVec 8

/-- A sequence of bytes, lowest address first (R12). -/
abbrev Bytes := List Byte

end Sys2Proof
end

