-- ==== Sys2Proof/Syntax.lean ====
section
/-! DEFINITION. The commands of the block: one constructor of Instr per row of spec/opcode_table.json, with the packets, frames
and measurements they carry. The first operand dt of every command is the time, in ns of the device's own clock, that has passed
since the command before it (assumption 1). -/

namespace Sys2Proof

/-- A packet on a head lane (R36, R37): the header fields, the payload words and the CRC as received; `unknown` is the TYPE
octet where it is none of R39's, none where the packet is of the type its command names. -/
structure HeadPkt where
  seq : Nat
  ver : Nat
  len : Nat
  words : List Nat
  crc : Nat
  unknown : Option Nat
  deriving DecidableEq, Repr

/-- A LINE packet with what the station says to the lines that it delivers: drop where its buffer cannot accept them (R23). -/
structure LineIn where
  pkt : HeadPkt
  drop : Bool
  deriving DecidableEq, Repr

/-- A ring frame as it arrives at a port (R402, R403): port 0 east, 1 west; aborted when it ends in K30.7; skew how far the port's lanes
are apart as it arrives, in symbol times (R400). -/
structure RingFrame where
  port : Fin 2
  ty : Nat
  dst : Nat
  wrapped : Bool
  src : Nat
  ring : Nat
  hops : Nat
  len : Nat
  seq : Nat
  epoch : Nat
  info : Nat
  hcrc : Nat
  payload : Bytes
  crc : Nat
  aborted : Bool
  skew : Nat := 0
  deriving DecidableEq, Repr

/-- Who makes an object access (R433): a ring address 0-63, 0x40 the debug port, 0x41 the partner; and the epoch it carries. -/
structure Origin where
  src : Nat
  epoch : Nat
  deriving DecidableEq, Repr

/-- The envelope of a partner message (R479, R482): the partner lane PL0-PL3 it arrives on; valid when its framing, header and CRC check. -/
structure PartnerMsg where
  lane : Fin 4
  epoch : Nat
  valid : Bool
  deriving DecidableEq, Repr

/-- A part of the content of OFFSETS (R480): up to 8 KiB of offsets from index `first` on. -/
structure OffsPart where
  first : Nat
  offs : List Int
  deriving DecidableEq, Repr

/-- A channel or bank in DIAG_STATE (R480, R499): its fault, its newest observation with the count of it, and the count of NO_CURRENT
observations, 0 for a bank. -/
structure DiagEntry where
  unit : Nat
  fault : Nat
  obs : Nat
  obsN : Nat
  curN : Nat
  deriving DecidableEq, Repr

/-- A training word (R370): TYPE, F0-F3 and the CRC-8 as received. -/
structure TrainWord where
  ty : Nat
  f0 : Nat
  f1 : Nat
  f2 : Nat
  f3 : Nat
  crc : Nat
  deriving DecidableEq, Repr

/-- What the tick of R24 takes from outside: zones that miss step 2 (R224), SHS_b in mV of proportional banks (R295), and the
R_est values in mOhm formed for proportional channels over the tick (R270). -/
structure TickIn where
  late : List Nat
  shs : List (Nat × Nat)
  rest : List (Nat × Nat)
  deriving DecidableEq, Repr

/-- Offset in 1/16 ADC code and gain in 1/32,768 that the calibration gives one sense input (R307). -/
structure SenseCal where
  off : Int
  gain : Nat
  deriving DecidableEq, Repr

/-- What a lane's receiver reports: invalid symbols since its last report, and whether a condition of R380 holds, so that it declares
LOSS. -/
structure LossIn where
  codeErr : Nat
  declared : Bool := true
  deriving DecidableEq, Repr

/-- What a lane's receiver has seen when a stage reaches its limit: signal detect, and comma alignment (R372, R374). -/
structure StageSeen where
  signal : Bool
  aligned : Bool
  deriving DecidableEq, Repr

/-- What the calibration of one channel gives (R307): offsets in 1/16 ADC code and gains in 1/32,768 of its current and its drain
input, the trims of its threshold DACs, and, for position 0 of a bank, offset and gain of SHS_b. -/
structure CalVals where
  csOff : Int
  csGain : Nat
  dsOff : Int
  dsGain : Nat
  trims : List Int
  shsOff : Int
  shsGain : Nat
  deriving DecidableEq, Repr

/-- A request waiting at a subchannel's scheduler: its class, ns since it arrived there, its 64-byte block, and whether it writes
(R342-R344, R356). -/
structure MemReq where
  cls : Fin 5
  age : Nat
  block : Nat
  write : Bool
  deriving DecidableEq, Repr

/-- A completed DRAM read: subchannel, local data address of the block (R341), and what it served: an item of R326 with its instance
and the block's byte offset in the item, or item 0 for region 3, the host and the debug port; 128 more for the read of a partial write
to it (R336). errors are the erroneous symbols of the codeword, as positions 0-67 (64-67 the check symbols) and what was added to each;
tag is word 60 of the check block, its ROW_TAG, as it was read (R333-R335); waiting are the requests left, in order of arrival. -/
structure MemRead where
  subch : Fin 16
  local_ : Nat
  item : Nat
  inst : Nat
  offset : Nat
  errors : List (Nat × Nat)
  tag : Nat
  waiting : List MemReq
  deriving DecidableEq, Repr

/-- One column of a sweep of a byte lane (R349): read or write delay, VREF, and the delay steps that passed twice, step k in bit k. -/
structure LaneSweep where
  lane : Fin 4
  write : Bool
  vref : Nat
  pass : Nat
  deriving DecidableEq, Repr

/-- The values of one housekeeping round (R515): TS0-TS15 in 0.1 degC, rails 0-13 in mV, DRAM temperatures in degC. -/
structure HouseIn where
  ts : List Int
  rails : List Nat
  dram : List Int
  deriving DecidableEq, Repr

/-- The HEARTBEAT payload of R481. -/
structure HeartbeatIn where
  role : Nat
  flags : Nat
  leaseLeft : Nat
  tick : Nat
  handoverEpoch : Nat
  serial : Bytes
  deriving DecidableEq, Repr

/-- A set as ARMED_SET and CONFIG_SYNC carry it (R480): head, tag, head settings and pipeline parameters as register values,
SKIM codes, patch entries, SUB_REF, and whether an internal commit made it, which binds the slots of the current set (R152). -/
structure SetIn where
  head : Fin 32
  tag : Nat
  vals : List (Nat × Nat)
  skim : Bytes
  patches : List (Nat × Nat × Nat)
  subRef : Int
  inner : Bool
  deriving DecidableEq, Repr

/-- What one subchannel's start-up training found (R331, R349): device density in Gb (0 absent), and the sweeps of its byte lanes. -/
structure TrainIn where
  density : Nat
  sweeps : List LaneSweep
  deriving DecidableEq, Repr

/-- The commands. One constructor per row of the table, in the table's order. -/
inductive Instr where
  | tickStart (dt : Nat) (i : TickIn)
  | d2dHeartbeatTx (dt : Nat)
  | d2dLoss (dt : Nat)
  | d2dRecovered (dt : Nat)
  | stopNLow (dt : Nat) (width : Nat)
  | stopNRelease (dt : Nat)
  | vgateLow (dt : Nat) (mv : Nat)
  | floatingSupplyLow (dt : Nat) (b : Fin 24) (boost : Bool) (mv : Nat) (dur : Nat)
  | commit (dt : Nat) (h : Fin 32) (o : Origin) (v : Nat)
  | sof (dt : Nat) (h : Fin 32) (p : HeadPkt)
  | line (dt : Nat) (h : Fin 32) (p : LineIn)
  | eof (dt : Nat) (h : Fin 32) (p : HeadPkt)
  | frameTimeout (dt : Nat) (h : Fin 32)
  | frameLate (dt : Nat) (h : Fin 32)
  | reply (dt : Nat) (h : Fin 32) (p : HeadPkt)
  | tableData (dt : Nat) (h : Fin 32) (p : HeadPkt)
  | headEvent (dt : Nat) (h : Fin 32) (p : HeadPkt)
  | timeProbe (dt : Nat) (h : Fin 32)
  | cmdTimeout (dt : Nat) (h : Fin 32)
  | busyRetry (dt : Nat) (h : Fin 32)
  | authRetry (dt : Nat) (h : Fin 32)
  | attachRetry (dt : Nat) (h : Fin 32)
  | streamMinute (dt : Nat) (h : Fin 32)
  | lifeWriteDue (dt : Nat) (h : Fin 32)
  | writebackPacket (dt : Nat) (h : Fin 32)
  | rebind (dt : Nat) (h : Fin 32) (o : Origin) (v : Nat)
  | coefFetchDone (dt : Nat) (h : Fin 32) (upTo : Nat)
  | persistClear (dt : Nat) (h : Fin 32) (o : Origin) (v : Nat)
  | tauCommit (dt : Nat) (h : Fin 32) (o : Origin) (v : Nat)
  | tableBlockWrite (dt : Nat) (t : Fin 40) (o : Origin) (offset : Nat) (data : Bytes)
  | driftConfUpdate (dt : Nat) (h : Fin 32)
  | foldTrigger (dt : Nat) (h : Fin 32)
  | foldNow (dt : Nat) (h : Fin 32) (o : Origin) (v : Nat)
  | foldClosingLimit (dt : Nat) (h : Fin 32)
  | foldCheckDone (dt : Nat) (h : Fin 32)
  | shutterOpenRetry (dt : Nat) (h : Fin 32)
  | encEdge (dt : Nat) (e : Fin 4) (a b : Bool)
  | encLatch (dt : Nat)
  | encCoarseCopy (dt : Nat)
  | speed (dt : Nat)
  | coverage (dt : Nat) (f : RingFrame)
  | headAbsent (dt : Nat) (st : Fin 8) (slot : Fin 8)
  | stationRun (dt : Nat) (st : Fin 8) (o : Origin) (v : Nat)
  | slotHead (dt : Nat) (st : Fin 8) (slot : Fin 8) (o : Origin) (v : Nat)
  | slotMap (dt : Nat) (st : Fin 8) (slot : Fin 8) (o : Origin) (offset : Nat) (data : Bytes)
  | covEnable (dt : Nat) (o : Origin) (v : Nat)
  | zoneRun (dt : Nat) (z : Fin 192) (o : Origin) (v : Nat)
  | demands (dt : Nat) (m : PartnerMsg) (tick : Nat) (zs : List (Nat × Nat))
  | arm (dt : Nat) (b : Fin 24) (o : Origin)
  | disarm (dt : Nat) (b : Fin 24) (o : Origin)
  | testPulse (dt : Nat) (n : Fin 192) (o : Origin) (v : Nat)
  | requestEligible (dt : Nat) (n : Fin 192) (pts : List Int)
  | requestDeadline (dt : Nat) (n : Fin 192)
  | boostEnd (dt : Nat) (n : Fin 192) (i : Nat)
  | fallEnd (dt : Nat) (n : Fin 192) (i : Nat)
  | peakEnd (dt : Nat) (n : Fin 192) (i : Nat)
  | phDropEnd (dt : Nat) (n : Fin 192) (i : Nat)
  | chopThreshold (dt : Nat) (n : Fin 192) (i : Nat)
  | durationEnd (dt : Nat) (n : Fin 192) (i : Nat)
  | tSlowEnd (dt : Nat) (n : Fin 192)
  | decayEnd (dt : Nat) (n : Fin 192) (i : Nat) (rEst : Nat)
  | decayLong (dt : Nat) (n : Fin 192)
  | bankFree (dt : Nat) (b : Fin 24) (pts : List Int)
  | railSample (dt : Nat) (b : Fin 24) (boost : Bool) (shs : Nat)
  | pwmPeriod (dt : Nat) (n : Fin 192) (iAvg : Nat)
  | overcurrent (dt : Nat) (n : Fin 192) (i : Nat) (vds : Nat)
  | openCheck (dt : Nat) (n : Fin 192) (i : Nat)
  | offTestRound (dt : Nat) (b : Fin 24)
  | railOffTestSample (dt : Nat) (b : Fin 24) (vd vr : Nat)
  | railOnTestSample (dt : Nat) (n : Fin 192) (vd vr : Nat)
  | diagClear (dt : Nat) (n : Fin 192) (o : Origin) (v : Nat)
  | bankDiagClear (dt : Nat) (b : Fin 24) (o : Origin) (v : Nat)
  | cdWindowOpen (dt : Nat) (n : Fin 192)
  | cdWindowEnd (dt : Nat) (n : Fin 192) (pts : List Int)
  | channelCalDone (dt : Nat) (n : Fin 192) (cs ds shs : SenseCal) (trims : List Int)
  | calOverdue (dt : Nat) (n : Fin 192)
  | calNow (dt : Nat) (o : Origin) (v : Nat)
  | restore (dt : Nat)
  | segmentCopyDone (dt : Nat) (h : Fin 32)
  | intentWrite (dt : Nat) (o : Origin) (station : Bool) (i : Fin 32) (sub : Nat) (v : Nat)
  | streamWrite (dt : Nat) (x : Fin 64) (o : Origin) (sub : Nat) (v : Nat)
  | powerLimit (dt : Nat) (o : Origin) (v : Nat)
  | refreshDue (dt : Nat) (d : Fin 16) (waiting : List MemReq) (sweeps : List LaneSweep)
  | memReadDone (dt : Nat) (r : MemRead)
  | scrubRead (dt : Nat) (r : MemRead) (odecc : Nat)
  | subchannelRetrain (dt : Nat) (d : Fin 16) (o : Origin) (v : Nat)
  | stageADone (dt : Nat) (l : Fin 96)
  | stageTimeout (dt : Nat) (l : Fin 96) (seen : StageSeen)
  | cap (dt : Nat) (l : Fin 96) (w : TrainWord)
  | capAck (dt : Nat) (l : Fin 96) (w : TrainWord)
  | rateGo (dt : Nat) (l : Fin 96) (w : TrainWord)
  | eqReq (dt : Nat) (l : Fin 96) (w : TrainWord)
  | eqStatus (dt : Nat) (l : Fin 96) (w : TrainWord)
  | eqMeasure (dt : Nat) (l : Fin 96) (eyeH eyeW : Nat)
  | ctleStep (dt : Nat) (l : Fin 96) (eyeH eyeW : Nat)
  | eqDone (dt : Nat) (l : Fin 96) (w : TrainWord)
  | lull (dt : Nat) (l : Fin 96) (w : TrainWord)
  | rxStatus (dt : Nat) (l : Fin 96) (w : TrainWord)
  | rxStatusTimeout (dt : Nat) (l : Fin 96)
  | loss (dt : Nat) (l : Fin 96) (i : LossIn)
  | cdrLock (dt : Nat) (l : Fin 96)
  | relockTimeout (dt : Nat) (l : Fin 96)
  | absentRetry (dt : Nat) (l : Fin 96)
  | signalDetect (dt : Nat) (l : Fin 96)
  | laneRetrain (dt : Nat) (l : Fin 96) (o : Origin) (v : Nat)
  | exportLaneFree (dt : Nat) (x : Fin 48)
  | stripeRejoin (dt : Nat) (x : Fin 48)
  | auxMode (dt : Nat) (a : Fin 4) (o : Origin) (v : Nat)
  | bitSlip (dt : Nat) (a : Fin 4) (o : Origin) (v : Nat)
  | captureArm (dt : Nat) (a : Fin 4) (o : Origin) (v : Nat)
  | matchWrite (dt : Nat) (a : Fin 4) (o : Origin) (mask : Bool) (v : Nat)
  | lullReq (dt : Nat) (a : Fin 4) (o : Origin) (v : Nat)
  | ringFrameForward (dt : Nat) (f : RingFrame)
  | frameInsert (dt : Nat) (collide : Bool)
  | ringStatus (dt : Nat) (f : RingFrame)
  | ringStatusTx (dt : Nat)
  | ringStatusTimeout (dt : Nat) (p : Fin 2)
  | unwrap (dt : Nat) (p : Fin 2)
  | delayExchange (dt : Nat) (t1 : List Nat)
  | delayReq (dt : Nat) (f : RingFrame) (t2 t3 : Nat)
  | delayRsp (dt : Nat) (f : RingFrame) (t4 : Nat)
  | timeSync (dt : Nat) (f : RingFrame) (residence : Nat)
  | masterTimeLost (dt : Nat)
  | estop (dt : Nat) (f : RingFrame)
  | estopClear (dt : Nat) (f : RingFrame)
  | enum (dt : Nat) (f : RingFrame)
  | ringReset (dt : Nat) (f : RingFrame)
  | ringJoin (dt : Nat) (o : Origin) (v : Nat)
  | grantTake (dt : Nat) (f : RingFrame)
  | grantRenew (dt : Nat) (f : RingFrame)
  | grantRevoke (dt : Nat) (f : RingFrame)
  | objReqRead (dt : Nat) (f : RingFrame)
  | objReqWrite (dt : Nat) (f : RingFrame)
  | blockRead (dt : Nat) (f : RingFrame)
  | blockWrite (dt : Nat) (f : RingFrame)
  | rangeRead (dt : Nat) (f : RingFrame)
  | rangeWrite (dt : Nat) (f : RingFrame)
  | blockData (dt : Nat) (f : RingFrame)
  | xferTimeout (dt : Nat) (src xfer : Nat)
  | cyclic (dt : Nat) (f : RingFrame)
  | mapEnable (dt : Nat) (m : Fin 8) (o : Origin) (v : Nat)
  | mirrorWrite (dt : Nat)
  | nvmWriteDone (dt : Nat) (bank : Fin 4)
  | nvmProgramDone (dt : Nat) (bank : Fin 4)
  | heartbeat (dt : Nat) (m : PartnerMsg) (p : HeadPkt)
  | partnerHeartbeatTx (dt : Nat)
  | partnerDown (dt : Nat)
  | objFwd (dt : Nat) (m : PartnerMsg) (key : Nat) (data : Bytes)
  | armedSet (dt : Nat) (m : PartnerMsg) (i : SetIn)
  | offsets (dt : Nat) (m : PartnerMsg) (h : Fin 32) (tag : Nat) (part : OffsPart)
  | diagState (dt : Nat) (m : PartnerMsg) (chs banks : List DiagEntry)
  | candidate (dt : Nat) (m : PartnerMsg) (vals : List (Nat × Nat))
  | verdict (dt : Nat) (m : PartnerMsg) (code : Nat)
  | verdictTimeout (dt : Nat)
  | configSync (dt : Nat) (m : PartnerMsg) (vals : List (Nat × Nat)) (blocks : List (Nat × Bytes)) (sets : List SetIn)
  | authorityRefresh (dt : Nat)
  | claimLapsed (dt : Nat)
  | peerClaimEdge (dt : Nat)
  | peerClaimTimeout (dt : Nat)
  | claimSettle (dt : Nat)
  | claimBackoff (dt : Nat)
  | leaseExpired (dt : Nat)
  | handover (dt : Nat) (o : Origin) (v : Nat)
  | stateReq (dt : Nat) (o : Origin) (v : Nat)
  | domainSwitch (dt : Nat)
  | quadrantIdle (dt : Nat) (q : Fin 4)
  | clockCheck (dt : Nat) (sysHz laneAHz laneBHz : Nat) (crystalHz : Nat)
  | housekeepingRound (dt : Nat) (i : HouseIn)
  | orderlyStopEnd (dt : Nat)
  | thermalRecovery (dt : Nat) (ts : List Int)
  | cutoff (dt : Nat) (sensor : Fin 16)
  | flashPoll (dt : Nat) (busy : Bool)
  | spiSel (dt : Nat) (o : Origin) (v : Nat)
  | selTimeout (dt : Nat)
  | spiGo (dt : Nat) (o : Origin) (v : Nat)
  | spiShiftDone (dt : Nat) (miso : Nat)
  | configSave (dt : Nat) (o : Origin) (v : Nat)
  | configClear (dt : Nat) (o : Origin) (v : Nat)
  | powerOn (dt : Nat) (vaoLow : Bool) (dur : Nat)
  | rstN (dt : Nat) (width : Nat)
  | watchdog (dt : Nat)
  | resetRelease (dt : Nat) (pairId : Fin 2) (rails : List Nat)
  | supplyRecheck (dt : Nat) (rails : List Nat)
  | nvmRecoveryDone (dt : Nat) (rdid : Nat) (headerOk : Bool)
  | firmwareStart (dt : Nat) (residentOk : Bool)
  | dramTrainingDone (dt : Nat) (r : List TrainIn)
  | dramWipeDone (dt : Nat)
  | startTimeWait (dt : Nat)
  | startWaitExpired (dt : Nat)
  | lcReq (dt : Nat) (o : Origin) (v : Nat)
  | ownerKey (dt : Nat) (o : Origin) (offset : Nat) (key : Bytes)
  | debugReset (dt : Nat) (o : Origin) (v : Nat)
  | tapReset (dt : Nat)
  | idcode (dt : Nat)
  | samplePreload (dt : Nat) (pins : List Bool) (update : List Bool)
  | extest (dt : Nat) (pins : List Bool) (update : List Bool)
  | clamp (dt : Nat)
  | highz (dt : Nat)
  | bypass (dt : Nat)
  | dbgStatus (dt : Nat)
  | dbgUnlock (dt : Nat) (response : Bytes)
  | unlockLockoutEnd (dt : Nat)
  | dbgRelock (dt : Nat) (o : Origin) (v : Nat)
  | dbgObjRead (dt : Nat) (index sub : Nat)
  | dbgObjWrite (dt : Nat) (index sub : Nat) (length : Nat) (data : Nat)
  | dbgObjBlockRead (dt : Nat) (index sub : Nat) (length : Nat) (offset : Nat)
  | dbgObjBlockStage (dt : Nat) (length : Nat) (offset : Nat) (data : Nat)
  | dbgObjBlockApply (dt : Nat) (index sub : Nat) (offset : Nat)
  | dbgMemRead (dt : Nat) (space : Fin 4) (addr : Nat) (autoinc : Bool)
  | dbgMemWrite (dt : Nat) (space : Fin 4) (addr : Nat) (autoinc : Bool) (data : Nat)
  | haltPipes (dt : Nat) (o : Origin) (v : Nat)
  | haltStations (dt : Nat) (o : Origin) (v : Nat)
  | haltZones (dt : Nat) (o : Origin) (v : Nat)
  | liveAct (dt : Nat) (o : Origin) (v : Nat)
  | stepPipes (dt : Nat) (o : Origin) (v : Nat)
  | stepStations (dt : Nat) (o : Origin) (v : Nat)
  | stepTick (dt : Nat) (o : Origin) (v : Nat)
  | auxReceivedWord (dt : Nat) (a : Fin 4) (w : Nat)
  | watchdogService (dt : Nat)
  | fullTrainingDone (dt : Nat) (d : Fin 16) (sweeps : List LaneSweep)
  | decayLimit (dt : Nat) (n : Fin 192)
  | gateReleaseAfterD2dLoss (dt : Nat)
  deriving DecidableEq, Repr

end Sys2Proof
end

