-- ==== Sys2Proof/Decode.lean ====
section
/-! DEFINITION. The command a word spells. The operation table of this hardware gives no row any bits, so no word spells a command. -/

namespace Sys2Proof

/-- The command spelled by the nbits bits of w: none, since no row of the operation table has bits. -/
def decodeTableWord (_nbits _w : Nat) : Option Instr := none

end Sys2Proof
end

