-- ==== Sys2Proof/Config.lean ====
section
/-! DEFINITION. What the manual leaves open: constants without a body, so that no proof can see a value of them. Each is applied
to the State's counter of free values, which every use advances (assumption 2). -/

namespace Sys2Proof.Config

/-- A freshly drawn or unstated number: nonces and challenges (R62, R579), request and ESTOP identifiers the device chooses. -/
opaque freeNat : Nat → Nat

/-- A fresh run of bytes: the challenges N of R62 and R579. -/
opaque freeBytes : Nat → Nat → List (BitVec 8)

/-- Whether a pulse whose width the manual leaves between "ignored" and "acts" acts (R564, R603). -/
opaque freeBool : Nat → Bool

/-- The firmware's default responsivity table for a MODEL (R153), header and entries; the manual gives no contents (assumption 3). -/
opaque respDefault : Nat → List (BitVec 8)

/-- The standard inverse table (R153), header and entries; the manual gives no contents (assumption 3). -/
opaque invDefault : List (BitVec 8)

/-- Phase of bank b's dither triangle at own time 0, ns (R280): the manual gives its shape and the channels' offsets, not its origin. -/
opaque ditherPhase : Nat → Nat

/-- Where the drain clamp of channel n acts within 72 V ± 4 V (R257), before it is brought into that range. -/
opaque drainClamp : Nat → Nat

end Sys2Proof.Config
end

