-- ==== Sys2Proof/Machine/Num.lean ====
section
/-! DEFINITION. Numbers and tables the whole model is built from: sparse tables in one canonical form, bit fields, two's complement,
little-endian bytes, the manual's rounding (halves away from zero), the CRCs, and the exponentials of the sharpening table. -/

namespace Sys2Proof.Machine

/-! Sparse tables: strictly rising keys, no entry equal to the default. -/

/-- The entry at key k of a table whose unlisted keys hold d. -/
def tget {α : Type} (d : α) : List (Nat × α) → Nat → α
  | [], _ => d
  | (j, x) :: t, k => if j = k then x else tget d t k

/-- Insert a key in rising order. -/
def tins {α : Type} (k : Nat) (x : α) : List (Nat × α) → List (Nat × α)
  | [] => [(k, x)]
  | (j, y) :: t => if k < j then (k, x) :: (j, y) :: t else (j, y) :: tins k x t

/-- Take a key out. -/
def tdel {α : Type} (k : Nat) : List (Nat × α) → List (Nat × α)
  | [] => []
  | (j, y) :: t => if j = k then tdel k t else (j, y) :: tdel k t

/-- Write a key: writing the default removes the entry. -/
def tset {α : Type} [DecidableEq α] (d : α) (t : List (Nat × α)) (k : Nat) (x : α) : List (Nat × α) :=
  if x = d then tdel k t else tins k x (tdel k t)

/-- Write a run of consecutive keys. -/
def tsetRun {α : Type} [DecidableEq α] (d : α) (t : List (Nat × α)) (k : Nat) : List α → List (Nat × α)
  | [] => t
  | x :: xs => tsetRun d (tset d t k x) (k + 1) xs

/-- Read a run of n consecutive keys. -/
def tgetRun {α : Type} (d : α) (t : List (Nat × α)) (k n : Nat) : List α :=
  (List.range n).map fun j => tget d t (k + j)

/-- Keep the keys that p keeps. -/
def tkeep {α : Type} (p : Nat → Bool) (t : List (Nat × α)) : List (Nat × α) := t.filter fun e => p e.1

/-- Keys rise strictly. -/
def tsorted {α : Type} : List (Nat × α) → Bool
  | [] => true
  | [_] => true
  | (j, _) :: (k, y) :: t => decide (j < k) && tsorted ((k, y) :: t)

/-- The canonical form of a table: keys rise strictly and no entry is the default. -/
def twf {α : Type} [DecidableEq α] (d : α) (t : List (Nat × α)) : Bool :=
  tsorted t && t.all fun e => decide (e.2 ≠ d)

/-! Bit fields (R11), two's complement and bytes (R12). -/

/-- Bits [hi:lo] of a value. -/
def bits (hi lo v : Nat) : Nat := (v >>> lo) % 2 ^ (hi + 1 - lo)

/-- Bit k of a value. -/
def bit (k v : Nat) : Bool := v.testBit k

/-- 1 or 0. -/
def b2n (b : Bool) : Nat := if b then 1 else 0

/-- Set or clear bit k. -/
def setBit (k : Nat) (b : Bool) (v : Nat) : Nat :=
  if b then v ||| (1 <<< k) else if v.testBit k then v - 1 <<< k else v

/-- The integer a w-bit two's complement field stands for. -/
def sgn (w v : Nat) : Int := if v % 2 ^ w < 2 ^ (w - 1) then (v % 2 ^ w : Nat) else (v % 2 ^ w : Nat) - (2 ^ w : Nat)

/-- The w-bit two's complement field of an integer. -/
def enc2 (w : Nat) (i : Int) : Nat := (i % (2 ^ w : Nat)).toNat

/-- Clamp an integer. -/
def clampI (lo hi x : Int) : Int := if x < lo then lo else if hi < x then hi else x

/-- Saturate an integer to a signed w-bit field. -/
def sat2 (w : Nat) (i : Int) : Nat := enc2 w (clampI (-(2 ^ (w - 1) : Nat)) ((2 ^ (w - 1) : Nat) - 1) i)

/-- n bytes of a value, lowest first. -/
def leBytes : Nat → Nat → Bytes
  | 0, _ => []
  | n + 1, v => BitVec.ofNat 8 v :: leBytes n (v / 256)

/-- The value of a run of bytes, lowest first. -/
def leNat : Bytes → Nat
  | [] => 0
  | b :: t => b.toNat + 256 * leNat t

/-- The n-byte field at offset o of a byte sequence. -/
def fld (o n : Nat) (b : Bytes) : Nat := leNat ((b.drop o).take n)

/-- The 32-bit words of a payload as bytes. -/
def wordBytes (w : List Nat) : Bytes := (w.map (leBytes 4)).flatten

/-- A sequence cut or zero-padded to n bytes. -/
def padTo (n : Nat) (b : Bytes) : Bytes := (b ++ List.replicate (n - b.length) 0).take n

/-- Replace bytes o .. of a sequence. -/
def patchBytes (b : Bytes) (o : Nat) (d : Bytes) : Bytes := b.take o ++ d ++ b.drop (o + d.length)

/-- The ASCII bytes of a string, padded to n bytes (R430). -/
def strBytes (n : Nat) (s : String) : Bytes := padTo n (s.toList.map fun c => BitVec.ofNat 8 c.toNat)

/-! Rounding: to nearest, halves away from zero; ceilings of square roots. -/

/-- Nearest integer, halves away from zero. -/
def roundHA (q : Rat) : Int := if q < 0 then -((-q + 1 / 2).floor) else (q + 1 / 2).floor

/-- Nearest multiple of 1/m, halves away from zero, as a count of 1/m. -/
def roundTo (m : Nat) (q : Rat) : Int := roundHA (q * m)

/-- The square root of n, rounded down: fuel bits from the top. -/
def isqrtAux (n : Nat) : Nat → Nat → Nat
  | 0, r => r
  | k + 1, r => isqrtAux n k (if (r + 2 ^ k) * (r + 2 ^ k) ≤ n then r + 2 ^ k else r)

/-- The square root of n, rounded down. -/
def isqrt (n : Nat) : Nat := isqrtAux n (n.log2 / 2 + 1) 0

/-- The least k with k * k >= q. -/
def ceilSqrt (q : Rat) : Nat :=
  let c := q.ceil.toNat
  let r := isqrt c
  if (r * r : Nat) = c then r else r + 1

/-! CRCs. -/

/-- One bit of the reflected CRC-32 of R38. -/
def crcBit (c : Nat) : Nat := if c % 2 = 1 then (c / 2) ^^^ 0xEDB88320 else c / 2

/-- One byte of CRC-32. -/
def crcByte (c : Nat) (b : Byte) : Nat :=
  crcBit (crcBit (crcBit (crcBit (crcBit (crcBit (crcBit (crcBit (c ^^^ b.toNat))))))))

/-- CRC-32 with the parameters of R38: 0x04C11DB7 reflected, initial value and final XOR 0xFFFFFFFF. -/
def crc32 (b : Bytes) : Nat := b.foldl crcByte 0xFFFFFFFF ^^^ 0xFFFFFFFF

/-- One bit of a left-shifting CRC of width w. -/
def crcStep (w poly c : Nat) (b : Bool) : Nat :=
  let top := c.testBit (w - 1) != b
  let sh := (c * 2) % 2 ^ w
  if top then sh ^^^ poly else sh

/-- Bits of a byte, most significant first. -/
def msbBits (b : Byte) : List Bool := (List.range 8).map fun k => b.toNat.testBit (7 - k)

/-- CRC-16 of the ring header (R403): 0x1021, initial value 0xFFFF, not reflected. -/
def crc16 (b : Bytes) : Nat := (b.map msbBits).flatten.foldl (crcStep 16 0x1021) 0xFFFF

/-- CRC-8 of a training word (R370): x^8 + x^2 + x + 1, initial value 0. -/
def crc8 (b : Bytes) : Nat := (b.map msbBits).flatten.foldl (crcStep 8 0x07) 0

/-! Exponentials (R139, R142), in fixed point with 128 fraction bits (assumption 9). -/

/-- One in fixed point. -/
def fxOne : Nat := 2 ^ 128

/-- Taylor sum of exp: term is x^j / j!, n terms left. -/
def fxExpAux (x : Nat) : Nat → Nat → Nat → Nat → Nat
  | 0, _, _, acc => acc
  | n + 1, j, term, acc => fxExpAux x n (j + 1) (term * x / fxOne / (j + 1)) (acc + term)

/-- Square k times. -/
def fxSq : Nat → Nat → Nat
  | 0, x => x
  | k + 1, x => fxSq k (x * x / fxOne)

/-- exp(x) for 0 <= x, x in fixed point: exp(x / 2^12) by 24 terms, squared 12 times. -/
def fxExp (x : Nat) : Nat := fxSq 12 (fxExpAux (x / 2 ^ 12) 24 0 fxOne 0)

/-- 2^(c/64) in fixed point: the 64th root by six square roots. -/
def fxPow2 (c : Nat) : Nat :=
  let r (n : Nat) := isqrt (n * fxOne)
  r (r (r (r (r (r (fxOne * 2 ^ (c % 64))))))) * 2 ^ (c / 64)

/-- dt / tau in fixed point, for tau = 1 ms * 2^(c/64) and dt in ns. -/
def fxRatio (dt c : Nat) : Nat := dt * fxOne * fxOne / (1000000 * fxPow2 c)

/-- The sharpening entry of R139: round(4,096 * min(k / (1 - k), G - 1)) with k = exp(-dt/tau_c), G = gmax / 256.
k / (1 - k) = 1 / (exp(dt/tau) - 1). -/
def sharpEntry (dt gmax c : Nat) : Nat :=
  if c = 0 then 0 else
  let capV := 16 * (gmax - 256)
  let x := fxRatio dt (2 * c)
  if x = 0 then capV else
  if 64 * fxOne < x then 0 else
  let e := fxExp x - fxOne
  if e = 0 then capV else
  min capV ((2 * 4096 * fxOne + e) / (2 * e))

/-- code_m of R142 for the ratio d2/d1 = num/den: the count of half-code thresholds exp(-dt/tau) at or below the ratio. -/
def tauCode (dt : Nat) (num den : Nat) : Nat :=
  1 + ((List.range 254).filter fun j =>
    let c2 := 2 * (j + 1) + 1
    decide (den * fxOne ≤ num * fxExp (min (64 * fxOne) (fxRatio dt c2)))).length

end Sys2Proof.Machine
end

