-- ==== Sys2Proof/Machine/Eye.lean ====
section
/-! DEFINITION. What a training or a retrain of a DRAM subchannel chooses from its sweeps (R349, R351, R352). -/

namespace Sys2Proof.Machine

/-- One more delay step of a search for the widest run of passing steps: the running window and the widest so far, each as first step
and width. -/
def windowStep (mask : Nat) (a : (Nat × Nat) × (Nat × Nat)) (k : Nat) : (Nat × Nat) × (Nat × Nat) :=
  let cur := if mask.testBit k then (if a.1.2 = 0 then (k, 1) else (a.1.1, a.1.2 + 1)) else (0, 0)
  (cur, if a.2.2 < cur.2 then cur else a.2)

/-- The widest contiguous passing window among steps lo to hi: first step and width; the lowest of equally wide ones (log 104). -/
def widest (mask lo hi : Nat) : Nat × Nat :=
  ((List.range (hi + 1 - lo)).foldl (fun a k => windowStep mask a (lo + k)) ((0, 0), (0, 0))).2

/-- A setting of one byte lane in one direction: VREF, delay, and the width of the window it is the centre of. -/
structure Eye where
  vref : Nat := 0
  delay : Nat := 0
  width : Nat := 0
  deriving DecidableEq, Repr

/-- The eye that a column offers: the centre of its widest window, rounded down. -/
def eyeAt (vref mask lo hi : Nat) : Eye :=
  let w := widest mask lo hi
  ⟨vref, (2 * w.1 + w.2 - 1) / 2, w.2⟩

/-- The better of two eyes: the wider window, the lower VREF on a tie. -/
def eyeBest (a b : Eye) : Eye := if a.width < b.width ∨ (a.width = b.width ∧ b.vref < a.vref) then b else a

/-- Eight settings of a subchannel: key 2 x lane + 1 for write. -/
def eyeKeys : List Nat := List.range 8

/-- The columns of a key. -/
def columnsOf (sweeps : List LaneSweep) (k : Nat) : List LaneSweep := sweeps.filter fun e => decide (2 * e.lane.val + b2n e.write = k)

/-- The best of some eyes; without one, no window. -/
def bestOf : List Eye → Eye
  | [] => {}
  | e :: l => l.foldl eyeBest e

/-- The choices of a full training: delays 0 to 127 at every VREF (R349). -/
def fullEyes (sweeps : List LaneSweep) : List (Nat × Eye) :=
  eyeKeys.map fun k => (k, bestOf ((columnsOf sweeps k).map fun e => eyeAt e.vref e.pass 0 127))

/-- Columns within 4 VREF steps of a setting. -/
def nearColumns (cur : Eye) (l : List LaneSweep) : List LaneSweep :=
  l.filter fun e => decide (e.vref ≤ cur.vref + 4 ∧ cur.vref ≤ e.vref + 4)

/-- The choices of a tracking retrain: 16 steps to either side of the current delay, 4 of the current VREF (R351). -/
def trackEyes (cur : List (Nat × Eye)) (sweeps : List LaneSweep) : List (Nat × Eye) :=
  eyeKeys.map fun k =>
    let c := tget {} cur k
    (k, bestOf ((nearColumns c (columnsOf sweeps k)).map fun e => eyeAt e.vref e.pass (c.delay - 16) (min 127 (c.delay + 16))))

/-- Has a tracking retrain swept every column of every byte lane? -/
def trackSwept (cur : List (Nat × Eye)) (sweeps : List LaneSweep) : Bool :=
  eyeKeys.all fun k => let c := tget {} cur k
    decide (9 ≤ ((nearColumns c (columnsOf sweeps k)).map LaneSweep.vref).eraseDups.length)

/-- The narrowest of the chosen windows. -/
def narrowest (eyes : List (Nat × Eye)) : Nat := eyes.foldl (fun m e => min m e.2.width) 128

end Sys2Proof.Machine
end

