-- ==== Sys2Proof/Machine/ObjTable.lean ====
section
/-! DEFINITION. The object table of the dictionary (R428-R432 and the object tables of every chapter): one row per
object, one group per index formula. A row gives subindex, type, access code, default and range. -/

namespace Sys2Proof.Machine

/-- Object types of R430. -/
inductive Ty where
  | u8 | u16 | u32 | u64 | i16 | i32 | bool | enum8 | str | block
  deriving DecidableEq, Repr

/-- Access codes of R432. -/
inductive Acc where
  | ro | rw | rws | wo | act
  deriving DecidableEq, Repr

/-- The range column of an object's table (R431). -/
inductive Chk where
  | any
  | range (lo hi : Int)
  | orElse (alt lo hi : Int)
  | mult (lo hi m : Int)
  | oneOf (l : List Int)
  deriving DecidableEq, Repr

/-- One object of a group. -/
structure ObjRow where
  sub : Nat
  ty : Ty
  acc : Acc
  dflt : Nat
  chk : Chk
  deriving DecidableEq, Repr

/-- One group of objects: instance i has index base + stride * i. -/
structure ObjGroup where
  base : Nat
  stride : Nat
  count : Nat
  rows : List ObjRow
  deriving DecidableEq, Repr

/-- Group id: base 0x1000, stride 0, 1 instance(s) (R459). -/
def rows_id : List ObjRow :=
  [⟨0x01, .str, .ro, 0, .any⟩,
   ⟨0x02, .str, .ro, 0, .any⟩,
   ⟨0x03, .str, .ro, 0, .any⟩,
   ⟨0x04, .u16, .ro, 257, .any⟩,
   ⟨0x05, .u32, .ro, 16777217, .any⟩,
   ⟨0x06, .u16, .ro, 1, .any⟩,
   ⟨0x07, .u16, .ro, 0, .any⟩,
   ⟨0x08, .enum8, .ro, 0, .any⟩]

/-- Group rst: base 0x1001, stride 0, 1 instance(s) (R588). -/
def rows_rst : List ObjRow :=
  [⟨0x01, .enum8, .ro, 0, .any⟩,
   ⟨0x02, .u32, .ro, 0, .any⟩,
   ⟨0x03, .u32, .ro, 0, .any⟩,
   ⟨0x04, .u8, .ro, 0, .any⟩,
   ⟨0x05, .u32, .ro, 0, .any⟩,
   ⟨0x06, .u32, .ro, 0, .any⟩]

/-- Group lc: base 0x1002, stride 0, 1 instance(s) (R589). -/
def rows_lc : List ObjRow :=
  [⟨0x01, .u8, .act, 0, .any⟩,
   ⟨0x02, .enum8, .ro, 0, .any⟩,
   ⟨0x03, .block, .wo, 0, .any⟩,
   ⟨0x04, .bool, .ro, 0, .any⟩,
   ⟨0x05, .u8, .ro, 0, .any⟩]

/-- Group node: base 0x1100, stride 0, 1 instance(s) (R425). -/
def rows_node : List ObjRow :=
  [⟨0x01, .u8, .rw, 255, .orElse 255 1 63⟩,
   ⟨0x02, .u8, .ro, 255, .any⟩,
   ⟨0x03, .enum8, .ro, 0, .any⟩,
   ⟨0x04, .u8, .act, 0, .any⟩,
   ⟨0x05, .bool, .ro, 0, .any⟩,
   ⟨0x06, .bool, .rw, 0, .range 0 1⟩,
   ⟨0x07, .u8, .ro, 0, .any⟩,
   ⟨0x08, .u32, .ro, 0, .any⟩,
   ⟨0x09, .u32, .ro, 0, .any⟩]

/-- Group port: base 0x1101, stride 1, 2 instance(s) (R426). -/
def rows_port : List ObjRow :=
  [⟨0x01, .enum8, .ro, 0, .any⟩,
   ⟨0x02, .bool, .ro, 0, .any⟩,
   ⟨0x03, .u32, .ro, 0, .any⟩,
   ⟨0x04, .i32, .rw, 0, .range (-16000) 16000⟩,
   ⟨0x05, .u8, .ro, 255, .any⟩,
   ⟨0x06, .u32, .ro, 0, .any⟩,
   ⟨0x07, .u32, .ro, 0, .any⟩,
   ⟨0x08, .u32, .ro, 0, .any⟩,
   ⟨0x09, .u32, .ro, 0, .any⟩,
   ⟨0x0A, .u32, .ro, 0, .any⟩,
   ⟨0x0B, .u32, .ro, 0, .any⟩,
   ⟨0x0C, .u32, .ro, 0, .any⟩]

/-- Group time: base 0x1103, stride 0, 1 instance(s) (R427). -/
def rows_time : List ObjRow :=
  [⟨0x01, .enum8, .ro, 0, .any⟩,
   ⟨0x02, .u64, .ro, 0, .any⟩,
   ⟨0x03, .i32, .ro, 0, .any⟩,
   ⟨0x04, .u32, .rw, 1000, .range 100 10000⟩,
   ⟨0x05, .u32, .ro, 0, .any⟩,
   ⟨0x06, .u32, .ro, 0, .any⟩,
   ⟨0x07, .u32, .ro, 0, .any⟩]

/-- Group map: base 0x1110, stride 1, 8 instance(s) (R455). -/
def rows_map : List ObjRow :=
  [⟨0x01, .bool, .rw, 0, .range 0 1⟩,
   ⟨0x02, .u16, .rws, 0, .range 0 65535⟩,
   ⟨0x03, .enum8, .rws, 0, .range 0 1⟩,
   ⟨0x04, .u16, .rws, 0, .range 0 16383⟩,
   ⟨0x05, .u8, .rws, 0, .range 0 32⟩,
   ⟨0x06, .block, .rws, 0, .any⟩,
   ⟨0x07, .u16, .ro, 0, .any⟩,
   ⟨0x08, .u32, .ro, 0, .any⟩,
   ⟨0x09, .u32, .ro, 0, .any⟩]

/-- Group act: base 0x1200, stride 0, 1 instance(s) (R460). -/
def rows_act : List ObjRow :=
  [⟨0x01, .u16, .rw, 0, .range 1 65535⟩,
   ⟨0x02, .enum8, .ro, 0, .any⟩,
   ⟨0x03, .u32, .ro, 0, .any⟩,
   ⟨0x04, .u8, .ro, 0, .any⟩,
   ⟨0x05, .u16, .ro, 0, .any⟩]

/-- Group ev: base 0x1201, stride 0, 1 instance(s) (R460). -/
def rows_ev : List ObjRow :=
  [⟨0x01, .u32, .ro, 0, .any⟩,
   ⟨0x02, .block, .ro, 0, .any⟩,
   ⟨0x03, .bool, .rw, 1, .range 0 1⟩,
   ⟨0x04, .u16, .rw, 100, .range 0 10000⟩]

/-- Group tly: base 0x1210, stride 0, 1 instance(s) (R474). -/
def rows_tly : List ObjRow :=
  [⟨0x01, .u32, .ro, 0, .any⟩,
   ⟨0x02, .u32, .ro, 0, .any⟩,
   ⟨0x03, .u32, .ro, 0, .any⟩,
   ⟨0x04, .block, .ro, 0, .any⟩,
   ⟨0x05, .block, .ro, 0, .any⟩,
   ⟨0x06, .u32, .ro, 4294967295, .any⟩,
   ⟨0x07, .u32, .ro, 0, .any⟩,
   ⟨0x08, .u32, .ro, 0, .any⟩,
   ⟨0x09, .u32, .ro, 0, .any⟩,
   ⟨0x0A, .u32, .ro, 0, .any⟩]

/-- Group op: base 0x2000, stride 0, 1 instance(s) (R461). -/
def rows_op : List ObjRow :=
  [⟨0x01, .enum8, .ro, 1, .any⟩,
   ⟨0x02, .u8, .act, 0, .any⟩,
   ⟨0x03, .u32, .ro, 0, .any⟩,
   ⟨0x04, .u16, .rws, 1000, .range 250 4000⟩,
   ⟨0x05, .u64, .ro, 0, .any⟩,
   ⟨0x06, .u16, .rw, 800, .range 300 850⟩]

/-- Group su: base 0x2001, stride 0, 1 instance(s) (R590). -/
def rows_su : List ObjRow :=
  [⟨0x01, .enum8, .rw, 3, .range 1 3⟩,
   ⟨0x02, .u32, .rw, 5000, .range 1000 60000⟩]

/-- Group shp: base 0x2100, stride 0, 1 instance(s) (R327). -/
def rows_shp : List ObjRow :=
  [⟨0x01, .enum8, .ro, 0, .any⟩,
   ⟨0x02, .u32, .ro, 0, .any⟩,
   ⟨0x03, .block, .ro, 0, .any⟩,
   ⟨0x04, .u32, .ro, 0, .any⟩,
   ⟨0x05, .enum8, .ro, 0, .any⟩,
   ⟨0x06, .u8, .ro, 0, .any⟩,
   ⟨0x07, .u32, .ro, 0, .any⟩,
   ⟨0x08, .u32, .ro, 0, .any⟩,
   ⟨0x09, .u16, .ro, 0, .any⟩,
   ⟨0x0A, .u8, .ro, 0, .any⟩,
   ⟨0x0B, .u32, .ro, 0, .any⟩,
   ⟨0x0C, .u8, .ro, 0, .any⟩,
   ⟨0x0D, .u32, .ro, 0, .any⟩,
   ⟨0x0E, .u16, .rw, 6000, .range 100 6000⟩,
   ⟨0x0F, .u32, .rw, 10000, .range 1000 600000⟩,
   ⟨0x10, .u32, .ro, 0, .any⟩]

/-- Group hint: base 0x2110, stride 1, 32 instance(s) (R328). -/
def rows_hint : List ObjRow :=
  [⟨0x01, .u8, .rw, 4, .range 0 7⟩,
   ⟨0x02, .enum8, .rw, 0, .range 0 2⟩,
   ⟨0x03, .u16, .rw, 0, .orElse 0 1 4096⟩,
   ⟨0x04, .u16, .rw, 0, .orElse 0 1 4096⟩]

/-- Group sint: base 0x2130, stride 1, 8 instance(s) (R328). -/
def rows_sint : List ObjRow :=
  [⟨0x01, .u8, .rw, 4, .range 0 7⟩,
   ⟨0x02, .enum8, .rw, 0, .range 0 2⟩]

/-- Group strm: base 0x2140, stride 1, 64 instance(s) (R329). -/
def rows_strm : List ObjRow :=
  [⟨0x01, .enum8, .rw, 0, .range 0 4⟩,
   ⟨0x02, .u8, .rw, 0, .range 0 31⟩,
   ⟨0x03, .enum8, .rw, 0, .range 0 2⟩,
   ⟨0x04, .u8, .rw, 4, .range 0 7⟩,
   ⟨0x05, .u8, .rw, 3, .range 0 3⟩,
   ⟨0x06, .u8, .rw, 255, .orElse 255 0 11⟩,
   ⟨0x07, .enum8, .ro, 0, .any⟩,
   ⟨0x08, .u8, .ro, 255, .any⟩,
   ⟨0x09, .enum8, .ro, 0, .any⟩,
   ⟨0x0A, .u32, .ro, 0, .any⟩]

/-- Group grp: base 0x2180, stride 1, 12 instance(s) (R330). -/
def rows_grp : List ObjRow :=
  [⟨0x01, .u8, .ro, 0, .any⟩,
   ⟨0x02, .u32, .ro, 0, .any⟩,
   ⟨0x03, .u32, .ro, 0, .any⟩]

/-- Group mem: base 0x2200, stride 0, 1 instance(s) (R361). -/
def rows_mem : List ObjRow :=
  [⟨0x01, .enum8, .ro, 0, .any⟩,
   ⟨0x02, .u16, .rw, 6400, .oneOf [4800, 5600, 6400, 7200, 8000]⟩,
   ⟨0x03, .u16, .ro, 0, .any⟩,
   ⟨0x04, .u8, .ro, 0, .any⟩,
   ⟨0x05, .u16, .ro, 0, .any⟩,
   ⟨0x06, .u16, .ro, 0, .any⟩,
   ⟨0x07, .u16, .ro, 0, .any⟩,
   ⟨0x08, .u8, .ro, 0, .any⟩,
   ⟨0x09, .enum8, .rw, 0, .range 0 2⟩,
   ⟨0x0A, .u8, .rw, 12, .range 4 32⟩,
   ⟨0x0B, .u32, .rw, 1000, .orElse 0 1 1000000⟩,
   ⟨0x0C, .u16, .rw, 240, .range 10 10080⟩,
   ⟨0x0D, .u32, .ro, 0, .any⟩,
   ⟨0x0E, .block, .ro, 0, .any⟩,
   ⟨0x0F, .u32, .ro, 0, .any⟩,
   ⟨0x10, .enum8, .ro, 0, .any⟩]

/-- Group age: base 0x2201, stride 0, 1 instance(s) (R362). -/
def rows_age : List ObjRow :=
  [⟨0x01, .u32, .rw, 2000, .range 500 1000000⟩,
   ⟨0x02, .u32, .rw, 8000, .range 500 1000000⟩,
   ⟨0x03, .u32, .rw, 20000, .range 500 10000000⟩,
   ⟨0x04, .u32, .rw, 100000, .range 1000 100000000⟩,
   ⟨0x05, .u32, .rw, 1000000, .range 1000 1000000000⟩]

/-- Group rgn: base 0x2210, stride 1, 4 instance(s) (R363). -/
def rows_rgn : List ObjRow :=
  [⟨0x01, .u8, .rw, 11, .range 8 16⟩,
   ⟨0x02, .u8, .ro, 0, .any⟩,
   ⟨0x03, .u64, .ro, 0, .any⟩,
   ⟨0x04, .u64, .ro, 0, .any⟩]

/-- Group sub: base 0x2220, stride 1, 16 instance(s) (R364). -/
def rows_sub : List ObjRow :=
  [⟨0x01, .enum8, .ro, 0, .any⟩,
   ⟨0x02, .i16, .ro, 0, .any⟩,
   ⟨0x03, .enum8, .ro, 0, .any⟩,
   ⟨0x04, .u8, .ro, 0, .any⟩,
   ⟨0x05, .u8, .act, 0, .any⟩,
   ⟨0x06, .u32, .ro, 0, .any⟩,
   ⟨0x07, .u64, .ro, 0, .any⟩,
   ⟨0x08, .u32, .ro, 0, .any⟩,
   ⟨0x09, .u32, .ro, 0, .any⟩,
   ⟨0x0A, .u32, .ro, 0, .any⟩,
   ⟨0x0B, .u32, .ro, 0, .any⟩,
   ⟨0x0C, .u32, .ro, 0, .any⟩,
   ⟨0x0D, .u32, .ro, 0, .any⟩]

/-- Group lane: base 0x2300, stride 1, 96 instance(s) (R395). -/
def rows_lane : List ObjRow :=
  [⟨0x01, .enum8, .ro, 0, .any⟩,
   ⟨0x02, .u8, .ro, 0, .any⟩,
   ⟨0x03, .u8, .rw, 4, .range 1 4⟩,
   ⟨0x04, .u8, .ro, 4, .any⟩,
   ⟨0x05, .u8, .ro, 0, .any⟩,
   ⟨0x06, .u8, .act, 0, .any⟩,
   ⟨0x07, .u8, .ro, 2, .any⟩,
   ⟨0x08, .u8, .ro, 53, .any⟩,
   ⟨0x09, .u8, .ro, 8, .any⟩,
   ⟨0x0A, .u8, .ro, 0, .any⟩,
   ⟨0x0B, .u16, .ro, 0, .any⟩,
   ⟨0x0C, .u8, .ro, 0, .any⟩,
   ⟨0x0D, .u32, .ro, 0, .any⟩,
   ⟨0x0E, .u32, .ro, 0, .any⟩,
   ⟨0x0F, .u32, .ro, 0, .any⟩,
   ⟨0x10, .u32, .ro, 0, .any⟩,
   ⟨0x11, .u32, .ro, 0, .any⟩,
   ⟨0x12, .enum8, .ro, 0, .any⟩]

/-- Group cls: base 0x2360, stride 0, 1 instance(s) (R396). -/
def rows_cls : List ObjRow :=
  [⟨0x01, .bool, .rw, 0, .range 0 1⟩,
   ⟨0x02, .bool, .rw, 0, .range 0 1⟩]

/-- Group aux: base 0x2370, stride 1, 4 instance(s) (R398). -/
def rows_aux : List ObjRow :=
  [⟨0x01, .enum8, .rw, 0, .range 0 2⟩,
   ⟨0x02, .u8, .rw, 1, .range 1 4⟩,
   ⟨0x03, .u8, .rw, 20, .oneOf [10, 16, 20, 32]⟩,
   ⟨0x04, .u8, .act, 0, .any⟩,
   ⟨0x05, .u8, .ro, 0, .any⟩,
   ⟨0x06, .u32, .rw, 0, .any⟩,
   ⟨0x07, .u32, .rw, 0, .any⟩,
   ⟨0x08, .u32, .ro, 0, .any⟩,
   ⟨0x09, .u8, .act, 0, .any⟩,
   ⟨0x0A, .block, .ro, 0, .any⟩,
   ⟨0x0B, .enum8, .rw, 0, .range 0 3⟩,
   ⟨0x0C, .u32, .rw, 0, .any⟩,
   ⟨0x0D, .u8, .rw, 0, .range 0 3⟩]

/-- Group grc: base 0x2380, stride 1, 12 instance(s) (R397). -/
def rows_grc : List ObjRow :=
  [⟨0x01, .u32, .ro, 0, .any⟩,
   ⟨0x02, .u32, .ro, 0, .any⟩,
   ⟨0x03, .u32, .ro, 0, .any⟩,
   ⟨0x04, .u32, .ro, 0, .any⟩]

/-- Group thm: base 0x2400, stride 0, 1 instance(s) (R531). -/
def rows_thm : List ObjRow :=
  [⟨0x01, .i16, .ro, 0, .any⟩,
   ⟨0x02, .u8, .ro, 0, .any⟩,
   ⟨0x03, .enum8, .ro, 0, .any⟩,
   ⟨0x04, .u16, .ro, 800, .any⟩,
   ⟨0x05, .u8, .ro, 0, .any⟩,
   ⟨0x06, .u8, .ro, 0, .any⟩,
   ⟨0x07, .u16, .rw, 1150, .range 1050 1170⟩,
   ⟨0x08, .enum8, .ro, 0, .any⟩,
   ⟨0x09, .u64, .ro, 0, .any⟩,
   ⟨0x0A, .u32, .ro, 0, .any⟩,
   ⟨0x0B, .u32, .ro, 0, .any⟩,
   ⟨0x0C, .u32, .ro, 0, .any⟩,
   ⟨0x0D, .u8, .ro, 0, .any⟩]

/-- Group ts: base 0x2401, stride 0, 1 instance(s) (R532). -/
def rows_ts : List ObjRow :=
  [⟨0x01, .i16, .ro, 0, .any⟩,
   ⟨0x02, .i16, .ro, 0, .any⟩,
   ⟨0x03, .i16, .ro, 0, .any⟩,
   ⟨0x04, .i16, .ro, 0, .any⟩,
   ⟨0x05, .i16, .ro, 0, .any⟩,
   ⟨0x06, .i16, .ro, 0, .any⟩,
   ⟨0x07, .i16, .ro, 0, .any⟩,
   ⟨0x08, .i16, .ro, 0, .any⟩,
   ⟨0x09, .i16, .ro, 0, .any⟩,
   ⟨0x0A, .i16, .ro, 0, .any⟩,
   ⟨0x0B, .i16, .ro, 0, .any⟩,
   ⟨0x0C, .i16, .ro, 0, .any⟩,
   ⟨0x0D, .i16, .ro, 0, .any⟩,
   ⟨0x0E, .i16, .ro, 0, .any⟩,
   ⟨0x0F, .i16, .ro, 0, .any⟩,
   ⟨0x10, .i16, .ro, 0, .any⟩,
   ⟨0x11, .i16, .ro, 0, .any⟩]

/-- Group rail: base 0x2402, stride 0, 1 instance(s) (R532). -/
def rows_rail : List ObjRow :=
  [⟨0x01, .u16, .ro, 0, .any⟩,
   ⟨0x02, .u16, .ro, 0, .any⟩,
   ⟨0x03, .u16, .ro, 0, .any⟩,
   ⟨0x04, .u16, .ro, 0, .any⟩,
   ⟨0x05, .u16, .ro, 0, .any⟩,
   ⟨0x06, .u16, .ro, 0, .any⟩,
   ⟨0x07, .u16, .ro, 0, .any⟩,
   ⟨0x08, .u16, .ro, 0, .any⟩,
   ⟨0x09, .u16, .ro, 0, .any⟩,
   ⟨0x0A, .u16, .ro, 0, .any⟩,
   ⟨0x0B, .u16, .ro, 0, .any⟩,
   ⟨0x0C, .u16, .ro, 0, .any⟩,
   ⟨0x0D, .u16, .ro, 0, .any⟩,
   ⟨0x0E, .u16, .ro, 0, .any⟩,
   ⟨0x0F, .u16, .ro, 0, .any⟩,
   ⟨0x10, .u16, .ro, 0, .any⟩]

/-- Group cal: base 0x2403, stride 0, 1 instance(s) (R533). -/
def rows_cal : List ObjRow :=
  [⟨0x01, .u8, .rw, 10, .range 2 30⟩,
   ⟨0x02, .u8, .act, 0, .any⟩,
   ⟨0x03, .enum8, .ro, 0, .any⟩,
   ⟨0x04, .enum8, .ro, 0, .any⟩,
   ⟨0x05, .u32, .ro, 0, .any⟩,
   ⟨0x06, .u64, .ro, 0, .any⟩,
   ⟨0x07, .i16, .ro, 0, .any⟩,
   ⟨0x08, .enum8, .ro, 0, .any⟩]

/-- Group nvm: base 0x2500, stride 0, 1 instance(s) (R560). -/
def rows_nvm : List ObjRow :=
  [⟨0x01, .enum8, .ro, 0, .any⟩,
   ⟨0x02, .u8, .ro, 0, .any⟩,
   ⟨0x03, .u16, .ro, 0, .any⟩,
   ⟨0x04, .u32, .ro, 0, .any⟩,
   ⟨0x05, .u32, .ro, 0, .any⟩,
   ⟨0x06, .u32, .ro, 0, .any⟩,
   ⟨0x07, .u32, .ro, 0, .any⟩]

/-- Group fl: base 0x2501, stride 0, 1 instance(s) (R561). -/
def rows_fl : List ObjRow :=
  [⟨0x01, .u32, .ro, 0, .any⟩,
   ⟨0x02, .u8, .ro, 0, .any⟩,
   ⟨0x03, .u8, .rw, 8, .range 2 32⟩,
   ⟨0x04, .enum8, .rw, 1, .range 0 2⟩,
   ⟨0x05, .u8, .rw, 8, .range 0 15⟩,
   ⟨0x06, .u32, .ro, 0, .any⟩,
   ⟨0x07, .u32, .ro, 0, .any⟩]

/-- Group spi: base 0x2502, stride 0, 1 instance(s) (R561). -/
def rows_spi : List ObjRow :=
  [⟨0x01, .u8, .rw, 0, .any⟩,
   ⟨0x02, .u8, .rw, 8, .range 1 64⟩,
   ⟨0x03, .u64, .rw, 0, .any⟩,
   ⟨0x04, .u8, .act, 0, .any⟩,
   ⟨0x05, .u32, .ro, 0, .any⟩,
   ⟨0x06, .u64, .ro, 0, .any⟩]

/-- Group cfg: base 0x2503, stride 0, 1 instance(s) (R562). -/
def rows_cfg : List ObjRow :=
  [⟨0x01, .u8, .act, 0, .any⟩,
   ⟨0x02, .u8, .act, 0, .any⟩,
   ⟨0x03, .enum8, .ro, 0, .any⟩,
   ⟨0x04, .u32, .ro, 0, .any⟩,
   ⟨0x05, .enum8, .ro, 0, .any⟩,
   ⟨0x06, .u32, .ro, 0, .any⟩]

/-- Group pr: base 0x2600, stride 0, 1 instance(s) (R504). -/
def rows_pr : List ObjRow :=
  [⟨0x01, .bool, .rw, 0, .range 0 1⟩,
   ⟨0x02, .u8, .ro, 0, .any⟩,
   ⟨0x03, .u32, .ro, 0, .any⟩,
   ⟨0x04, .enum8, .ro, 0, .any⟩,
   ⟨0x05, .enum8, .ro, 0, .any⟩,
   ⟨0x06, .enum8, .ro, 0, .any⟩,
   ⟨0x07, .bool, .ro, 0, .any⟩,
   ⟨0x08, .u16, .ro, 0, .any⟩,
   ⟨0x09, .bool, .ro, 0, .any⟩,
   ⟨0x0A, .str, .ro, 0, .any⟩,
   ⟨0x0B, .u8, .act, 0, .any⟩,
   ⟨0x0C, .enum8, .ro, 0, .any⟩,
   ⟨0x0D, .u32, .ro, 0, .any⟩,
   ⟨0x0E, .u32, .ro, 0, .any⟩,
   ⟨0x0F, .u32, .ro, 0, .any⟩,
   ⟨0x10, .u32, .ro, 0, .any⟩,
   ⟨0x11, .u64, .ro, 0, .any⟩]

/-- Group hd: base 0x3000, stride 8, 32 instance(s) (R85). -/
def rows_hd : List ObjRow :=
  [⟨0x01, .str, .ro, 0, .any⟩,
   ⟨0x02, .u16, .ro, 0, .any⟩,
   ⟨0x03, .u16, .ro, 0, .any⟩,
   ⟨0x04, .u16, .ro, 0, .any⟩,
   ⟨0x05, .u16, .ro, 0, .any⟩,
   ⟨0x06, .enum8, .ro, 0, .any⟩,
   ⟨0x07, .enum8, .ro, 0, .any⟩,
   ⟨0x08, .str, .ro, 0, .any⟩,
   ⟨0x09, .u8, .act, 0, .any⟩,
   ⟨0x0A, .str, .ro, 0, .any⟩,
   ⟨0x0B, .u32, .ro, 0, .any⟩,
   ⟨0x0C, .i32, .ro, 0, .any⟩]

/-- Group hs: base 0x3001, stride 8, 32 instance(s) (R86). -/
def rows_hs : List ObjRow :=
  [⟨0x01, .u16, .rw, 1024, .mult 64 1024 32⟩,
   ⟨0x02, .u16, .rw, 512, .mult 64 512 16⟩,
   ⟨0x03, .u32, .rw, 1000000, .range 1000000 16000000⟩,
   ⟨0x04, .u32, .rw, 40000, .range 2000 100000⟩,
   ⟨0x05, .u16, .rw, 0, .range 0 4095⟩,
   ⟨0x06, .block, .rw, 0, .any⟩,
   ⟨0x07, .u16, .rw, 4096, .orElse 0 1024 12288⟩,
   ⟨0x08, .u8, .act, 0, .any⟩,
   ⟨0x09, .u32, .ro, 0, .any⟩,
   ⟨0x0A, .u16, .ro, 0, .any⟩,
   ⟨0x0B, .u16, .ro, 65535, .any⟩,
   ⟨0x0C, .u8, .rw, 25, .range 5 100⟩]

/-- Group hl: base 0x3002, stride 8, 32 instance(s) (R183, R184, R88). -/
def rows_hl : List ObjRow :=
  [⟨0x01, .u32, .ro, 0, .any⟩,
   ⟨0x02, .u32, .ro, 0, .any⟩,
   ⟨0x03, .u32, .ro, 0, .any⟩,
   ⟨0x04, .u32, .ro, 0, .any⟩,
   ⟨0x05, .u16, .ro, 0, .any⟩,
   ⟨0x06, .u16, .ro, 0, .any⟩,
   ⟨0x07, .u8, .ro, 0, .any⟩,
   ⟨0x08, .enum8, .ro, 0, .any⟩,
   ⟨0x09, .u8, .rw, 90, .range 50 99⟩,
   ⟨0x0A, .u64, .ro, 0, .any⟩,
   ⟨0x20, .u16, .rw, 50, .range 5 500⟩,
   ⟨0x21, .u32, .rw, 30000, .range 1000 3600000⟩,
   ⟨0x22, .u8, .rw, 50, .orElse 0 1 99⟩,
   ⟨0x23, .u8, .rw, 4, .range 0 100⟩,
   ⟨0x24, .u8, .rw, 5, .range 0 100⟩,
   ⟨0x25, .u16, .rw, 60, .range 10 500⟩,
   ⟨0x26, .u16, .rw, 32, .mult 8 256 2⟩,
   ⟨0x27, .u16, .rw, 32, .range 4 4095⟩,
   ⟨0x28, .u16, .rw, 64, .range 4 4095⟩,
   ⟨0x29, .u16, .rw, 10, .range 1 200⟩,
   ⟨0x2A, .u16, .rw, 1024, .range 4 32767⟩,
   ⟨0x2B, .bool, .rw, 1, .range 0 1⟩,
   ⟨0x2C, .u8, .act, 0, .any⟩,
   ⟨0x2D, .u32, .ro, 0, .any⟩,
   ⟨0x30, .enum8, .ro, 0, .any⟩,
   ⟨0x31, .u32, .ro, 0, .any⟩,
   ⟨0x32, .u64, .ro, 0, .any⟩,
   ⟨0x33, .u8, .ro, 0, .any⟩,
   ⟨0x34, .u32, .ro, 0, .any⟩,
   ⟨0x35, .bool, .ro, 0, .any⟩,
   ⟨0x36, .u8, .ro, 100, .any⟩,
   ⟨0x37, .enum8, .ro, 0, .any⟩,
   ⟨0x38, .u32, .ro, 0, .any⟩,
   ⟨0x39, .u32, .ro, 0, .any⟩,
   ⟨0x3A, .i16, .ro, 0, .any⟩,
   ⟨0x3B, .u16, .ro, 0, .any⟩,
   ⟨0x3C, .enum8, .ro, 0, .any⟩,
   ⟨0x3D, .u32, .ro, 0, .any⟩]

/-- Group hc: base 0x3003, stride 8, 32 instance(s) (R89). -/
def rows_hc : List ObjRow :=
  [⟨0x01, .u32, .ro, 0, .any⟩,
   ⟨0x02, .u32, .ro, 0, .any⟩,
   ⟨0x03, .u32, .ro, 0, .any⟩,
   ⟨0x04, .u32, .ro, 0, .any⟩,
   ⟨0x05, .u32, .ro, 0, .any⟩,
   ⟨0x06, .u32, .ro, 0, .any⟩,
   ⟨0x07, .u32, .ro, 0, .any⟩,
   ⟨0x08, .u32, .ro, 0, .any⟩,
   ⟨0x09, .u32, .ro, 0, .any⟩,
   ⟨0x0A, .u32, .ro, 0, .any⟩,
   ⟨0x0B, .u32, .ro, 0, .any⟩,
   ⟨0x0C, .u32, .ro, 0, .any⟩,
   ⟨0x0D, .u32, .ro, 0, .any⟩,
   ⟨0x0E, .u32, .ro, 0, .any⟩,
   ⟨0x0F, .u32, .ro, 0, .any⟩]

/-- Group pp: base 0x3004, stride 8, 32 instance(s) (R128, R158). -/
def rows_pp : List ObjRow :=
  [⟨0x01, .bool, .rw, 1, .range 0 1⟩,
   ⟨0x02, .u16, .rw, 1000, .range 50 2000⟩,
   ⟨0x03, .u16, .rw, 16383, .range 8192 16383⟩,
   ⟨0x04, .enum8, .rw, 0, .range 0 1⟩,
   ⟨0x05, .enum8, .rw, 0, .range 0 2⟩,
   ⟨0x06, .u8, .rw, 8, .range 0 8⟩,
   ⟨0x07, .u16, .rw, 0, .range 0 1023⟩,
   ⟨0x08, .u16, .rw, 0, .range 0 511⟩,
   ⟨0x09, .u16, .rw, 0, .orElse 0 1 1024⟩,
   ⟨0x0A, .u16, .rw, 0, .orElse 0 1 512⟩,
   ⟨0x0B, .u16, .rw, 100, .range 1 1024⟩,
   ⟨0x20, .u16, .rw, 2048, .range 256 4096⟩,
   ⟨0x21, .u32, .rw, 20000000, .range 2000000 250000000⟩,
   ⟨0x22, .bool, .rw, 0, .range 0 1⟩,
   ⟨0x23, .u16, .rw, 1000, .range 100 8000⟩,
   ⟨0x24, .u8, .rw, 0, .range 0 3⟩,
   ⟨0x25, .enum8, .rw, 0, .range 0 1⟩,
   ⟨0x26, .u16, .rw, 31130, .range 1639 32768⟩,
   ⟨0x27, .u16, .rw, 30, .range 0 500⟩,
   ⟨0x28, .enum8, .rw, 0, .range 0 2⟩,
   ⟨0x29, .u16, .rw, 29815, .range 20000 60000⟩,
   ⟨0x2A, .bool, .rw, 1, .range 0 1⟩,
   ⟨0x2B, .u16, .rw, 96, .range 0 4095⟩,
   ⟨0x2C, .u8, .rw, 32, .range 16 255⟩,
   ⟨0x2D, .u16, .rw, 30, .range 0 500⟩,
   ⟨0x2E, .u16, .rw, 20, .range 0 500⟩,
   ⟨0x2F, .u16, .rw, 8, .range 0 4095⟩]

/-- Group pc: base 0x3005, stride 8, 32 instance(s) (R129, R159). -/
def rows_pc : List ObjRow :=
  [⟨0x01, .enum8, .ro, 0, .any⟩,
   ⟨0x02, .u32, .ro, 0, .any⟩,
   ⟨0x03, .i16, .ro, 0, .any⟩,
   ⟨0x04, .u16, .rw, 0, .range 0 256⟩,
   ⟨0x05, .block, .rw, 0, .any⟩,
   ⟨0x06, .bool, .rw, 0, .range 0 1⟩,
   ⟨0x07, .u16, .ro, 0, .any⟩,
   ⟨0x08, .u8, .act, 0, .any⟩,
   ⟨0x09, .u32, .rw, 0, .any⟩,
   ⟨0x0A, .block, .ro, 0, .any⟩,
   ⟨0x0B, .block, .ro, 0, .any⟩,
   ⟨0x0C, .u16, .ro, 65535, .any⟩,
   ⟨0x20, .u8, .act, 0, .any⟩,
   ⟨0x21, .u32, .ro, 0, .any⟩,
   ⟨0x22, .u32, .ro, 0, .any⟩,
   ⟨0x23, .u32, .ro, 0, .any⟩]

/-- Group pst: base 0x3006, stride 8, 32 instance(s) (R132). -/
def rows_pst : List ObjRow :=
  [⟨0x01, .u32, .ro, 0, .any⟩,
   ⟨0x02, .u16, .ro, 65535, .any⟩,
   ⟨0x03, .enum8, .ro, 0, .any⟩,
   ⟨0x04, .u32, .ro, 0, .any⟩,
   ⟨0x05, .u16, .ro, 0, .any⟩,
   ⟨0x06, .u64, .ro, 0, .any⟩,
   ⟨0x07, .u64, .ro, 0, .any⟩,
   ⟨0x08, .u16, .ro, 0, .any⟩,
   ⟨0x09, .u16, .ro, 0, .any⟩,
   ⟨0x0A, .u16, .ro, 0, .any⟩,
   ⟨0x0B, .u16, .ro, 0, .any⟩,
   ⟨0x0C, .u32, .ro, 0, .any⟩,
   ⟨0x0D, .u32, .ro, 0, .any⟩,
   ⟨0x0E, .u32, .ro, 0, .any⟩,
   ⟨0x0F, .u32, .ro, 0, .any⟩]

/-- Group pk: base 0x3007, stride 8, 32 instance(s) (R133, R160). -/
def rows_pk : List ObjRow :=
  [⟨0x01, .enum8, .ro, 0, .any⟩,
   ⟨0x02, .u32, .ro, 0, .any⟩,
   ⟨0x03, .u32, .ro, 0, .any⟩,
   ⟨0x04, .u32, .ro, 0, .any⟩,
   ⟨0x05, .u32, .ro, 0, .any⟩,
   ⟨0x06, .u32, .ro, 0, .any⟩,
   ⟨0x07, .u32, .ro, 0, .any⟩,
   ⟨0x08, .u32, .ro, 0, .any⟩,
   ⟨0x09, .u32, .ro, 0, .any⟩,
   ⟨0x0A, .u32, .ro, 0, .any⟩,
   ⟨0x0B, .u32, .ro, 0, .any⟩,
   ⟨0x0C, .u32, .ro, 0, .any⟩,
   ⟨0x20, .u32, .ro, 0, .any⟩,
   ⟨0x21, .u32, .ro, 0, .any⟩,
   ⟨0x22, .u32, .ro, 0, .any⟩,
   ⟨0x23, .u32, .ro, 0, .any⟩,
   ⟨0x24, .u8, .ro, 0, .any⟩]

/-- Group resp: base 0x3200, stride 1, 32 instance(s) (R161). -/
def rows_resp : List ObjRow :=
  [⟨0x01, .block, .rw, 0, .any⟩,
   ⟨0x02, .u8, .ro, 0, .any⟩,
   ⟨0x03, .u8, .ro, 0, .any⟩,
   ⟨0x04, .u32, .ro, 0, .any⟩,
   ⟨0x05, .enum8, .ro, 0, .any⟩]

/-- Group inv: base 0x3240, stride 1, 4 instance(s) (R161). -/
def rows_inv : List ObjRow :=
  [⟨0x01, .block, .rw, 0, .any⟩,
   ⟨0x02, .u8, .ro, 0, .any⟩,
   ⟨0x03, .u8, .ro, 0, .any⟩,
   ⟨0x04, .u32, .ro, 0, .any⟩,
   ⟨0x05, .enum8, .ro, 0, .any⟩]

/-- Group ink: base 0x3250, stride 1, 4 instance(s) (R161). -/
def rows_ink : List ObjRow :=
  [⟨0x01, .block, .rw, 0, .any⟩,
   ⟨0x02, .u8, .ro, 0, .any⟩,
   ⟨0x03, .u8, .ro, 0, .any⟩,
   ⟨0x04, .u32, .ro, 0, .any⟩,
   ⟨0x05, .enum8, .ro, 0, .any⟩]

/-- Group amb: base 0x3280, stride 0, 1 instance(s) (R163). -/
def rows_amb : List ObjRow :=
  [⟨0x01, .u16, .rw, 29815, .range 20000 60000⟩,
   ⟨0x02, .u16, .rw, 29815, .range 20000 60000⟩,
   ⟨0x03, .u16, .rw, 29815, .range 20000 60000⟩,
   ⟨0x04, .u16, .rw, 29815, .range 20000 60000⟩,
   ⟨0x05, .u16, .rw, 29815, .range 20000 60000⟩,
   ⟨0x06, .u16, .rw, 29815, .range 20000 60000⟩,
   ⟨0x07, .u16, .rw, 29815, .range 20000 60000⟩,
   ⟨0x08, .u16, .rw, 29815, .range 20000 60000⟩]

/-- Group st: base 0x3400, stride 16, 8 instance(s) (R213). -/
def rows_st : List ObjRow :=
  [⟨0x01, .enum8, .rw, 0, .range 0 1⟩,
   ⟨0x02, .u8, .rws, 0, .range 0 3⟩,
   ⟨0x03, .i32, .rws, 0, .range (-1000000000) 1000000000⟩,
   ⟨0x04, .u16, .rws, 800, .range 250 4000⟩,
   ⟨0x05, .u16, .rws, 800, .range 250 4000⟩,
   ⟨0x06, .i32, .rws, 0, .range (-10000000) 10000000⟩,
   ⟨0x07, .u16, .rws, 4125, .range 1 8192⟩,
   ⟨0x08, .u8, .rws, 4, .range 1 16⟩,
   ⟨0x09, .bool, .rws, 0, .range 0 1⟩]

/-- Group sst: base 0x3401, stride 16, 8 instance(s) (R214). -/
def rows_sst : List ObjRow :=
  [⟨0x01, .enum8, .ro, 0, .any⟩,
   ⟨0x02, .u32, .ro, 0, .any⟩,
   ⟨0x03, .u64, .ro, 0, .any⟩,
   ⟨0x04, .u16, .ro, 0, .any⟩,
   ⟨0x05, .i32, .ro, 0, .any⟩,
   ⟨0x06, .i32, .ro, 0, .any⟩,
   ⟨0x07, .i32, .ro, 0, .any⟩,
   ⟨0x08, .u8, .ro, 0, .any⟩]

/-- Group sc: base 0x3402, stride 16, 8 instance(s) (R215). -/
def rows_sc : List ObjRow :=
  [⟨0x01, .u32, .ro, 0, .any⟩,
   ⟨0x02, .u32, .ro, 0, .any⟩,
   ⟨0x03, .u32, .ro, 0, .any⟩,
   ⟨0x04, .u32, .ro, 0, .any⟩,
   ⟨0x05, .u32, .ro, 0, .any⟩,
   ⟨0x06, .u32, .ro, 0, .any⟩,
   ⟨0x07, .u32, .ro, 0, .any⟩,
   ⟨0x08, .u32, .ro, 0, .any⟩]

/-- Group sw: base 0x3403, stride 16, 8 instance(s) (R216). -/
def rows_sw : List ObjRow :=
  [⟨0x01, .u32, .rw, 0, .any⟩,
   ⟨0x02, .block, .ro, 0, .any⟩,
   ⟨0x03, .u32, .ro, 0, .any⟩]

/-- Group slot: base 0x3408, stride 16, 64 instance(s) (R217). -/
def rows_slot : List ObjRow :=
  [⟨0x01, .u8, .rws, 255, .orElse 255 0 31⟩,
   ⟨0x02, .block, .rws, 0, .any⟩,
   ⟨0x03, .u32, .ro, 0, .any⟩,
   ⟨0x04, .enum8, .ro, 0, .any⟩]

/-- Group enc: base 0x3480, stride 1, 4 instance(s) (R218). -/
def rows_enc : List ObjRow :=
  [⟨0x01, .u32, .rws, 15625000, .range 100000 100000000⟩,
   ⟨0x02, .bool, .rws, 0, .range 0 1⟩,
   ⟨0x03, .u16, .rws, 20, .range 0 1000⟩,
   ⟨0x04, .u64, .ro, 0, .any⟩,
   ⟨0x05, .i32, .ro, 0, .any⟩,
   ⟨0x06, .u64, .ro, 0, .any⟩,
   ⟨0x07, .u32, .ro, 0, .any⟩,
   ⟨0x08, .u32, .ro, 0, .any⟩,
   ⟨0x09, .u32, .ro, 0, .any⟩,
   ⟨0x0A, .u32, .ro, 0, .any⟩]

/-- Group cov: base 0x3488, stride 0, 1 instance(s) (R219). -/
def rows_cov : List ObjRow :=
  [⟨0x01, .bool, .rw, 0, .range 0 1⟩,
   ⟨0x02, .u16, .rws, 4000, .range 1000 16000⟩,
   ⟨0x03, .u16, .rws, 4000, .range 1000 16000⟩,
   ⟨0x04, .i32, .rws, 0, .range (-10000000) 10000000⟩,
   ⟨0x05, .u16, .rws, 825, .range 1 2048⟩,
   ⟨0x06, .u32, .rws, 16384, .range 1024 65536⟩,
   ⟨0x07, .u32, .rw, 2000, .range 100 100000⟩,
   ⟨0x08, .u32, .ro, 0, .any⟩,
   ⟨0x09, .u32, .ro, 0, .any⟩,
   ⟨0x0A, .u32, .ro, 0, .any⟩]

/-- Group zb: base 0x4000, stride 6, 192 instance(s) (R249). -/
def rows_zb : List ObjRow :=
  [⟨0x01, .enum8, .rw, 0, .range 0 2⟩,
   ⟨0x02, .u8, .rws, 255, .orElse 255 0 7⟩,
   ⟨0x03, .u16, .rws, 0, .range 0 8191⟩,
   ⟨0x04, .u16, .rws, 1, .range 1 512⟩,
   ⟨0x05, .enum8, .rw, 0, .range 0 2⟩,
   ⟨0x06, .u8, .rw, 50, .range 1 100⟩,
   ⟨0x07, .u8, .rw, 13, .range 0 31⟩,
   ⟨0x08, .u16, .rw, 20, .range 1 10000⟩,
   ⟨0x09, .u8, .rw, 3, .range 1 100⟩,
   ⟨0x0A, .u16, .rw, 50, .orElse 0 1 6000⟩]

/-- Group zc: base 0x4001, stride 6, 192 instance(s) (R250). -/
def rows_zc : List ObjRow :=
  [⟨0x01, .u16, .rw, 33315, .range 20000 65000⟩,
   ⟨0x02, .enum8, .rws, 0, .range 0 1⟩,
   ⟨0x03, .u16, .rw, 100, .range 0 65535⟩,
   ⟨0x04, .u32, .rw, 1000, .orElse 0 10 600000⟩,
   ⟨0x05, .u16, .rw, 0, .range 0 10000⟩,
   ⟨0x06, .u16, .rw, 10000, .range 0 10000⟩,
   ⟨0x07, .u16, .rw, 10000, .range 1 10000⟩,
   ⟨0x08, .u16, .rw, 0, .range 0 65535⟩,
   ⟨0x09, .u32, .rw, 0, .range 0 600000⟩,
   ⟨0x0A, .i32, .rws, 0, .range (-1000000000) 1000000000⟩,
   ⟨0x0B, .i32, .rws, 0, .range (-1000000) 1000000⟩,
   ⟨0x0C, .u16, .rw, 0, .range 0 10000⟩]

/-- Group zf: base 0x4002, stride 6, 192 instance(s) (R251). -/
def rows_zf : List ObjRow :=
  [⟨0x01, .i16, .rw, 0, .range (-10000) 10000⟩,
   ⟨0x02, .u32, .rw, 0, .range 0 2000000⟩,
   ⟨0x03, .u16, .rw, 256, .range 0 512⟩,
   ⟨0x04, .u16, .rw, 256, .range 0 512⟩,
   ⟨0x05, .u16, .rw, 256, .range 0 512⟩,
   ⟨0x06, .u16, .rw, 256, .range 0 512⟩,
   ⟨0x07, .u16, .rw, 100, .range 0 10000⟩,
   ⟨0x08, .u8, .rw, 0, .range 0 255⟩,
   ⟨0x09, .u8, .rws, 255, .orElse 255 0 191⟩,
   ⟨0x0A, .u8, .rws, 255, .orElse 255 0 191⟩,
   ⟨0x0B, .u16, .rw, 0, .range 0 1000⟩,
   ⟨0x0C, .u16, .rw, 4096, .range 2048 4096⟩,
   ⟨0x0D, .u16, .rw, 0, .range 0 1000⟩]

/-- Group zo: base 0x4003, stride 6, 192 instance(s) (R252). -/
def rows_zo : List ObjRow :=
  [⟨0x01, .u8, .rws, 0, .orElse 255 0 191⟩,
   ⟨0x02, .u8, .rw, 4, .range 0 7⟩,
   ⟨0x03, .enum8, .rw, 1, .range 0 3⟩,
   ⟨0x04, .u16, .rw, 0, .range 0 10000⟩,
   ⟨0x05, .u16, .rw, 0, .range 0 10000⟩,
   ⟨0x06, .u16, .rw, 0, .range 0 10000⟩]

/-- Group zs: base 0x4004, stride 6, 192 instance(s) (R253). -/
def rows_zs : List ObjRow :=
  [⟨0x01, .enum8, .ro, 0, .any⟩,
   ⟨0x02, .u8, .ro, 0, .any⟩,
   ⟨0x03, .u16, .ro, 0, .any⟩,
   ⟨0x04, .i16, .ro, 0, .any⟩,
   ⟨0x05, .i16, .ro, 0, .any⟩,
   ⟨0x06, .i32, .ro, 0, .any⟩,
   ⟨0x07, .u16, .ro, 0, .any⟩,
   ⟨0x08, .u16, .ro, 0, .any⟩,
   ⟨0x09, .u32, .ro, 0, .any⟩,
   ⟨0x0A, .u8, .ro, 0, .any⟩,
   ⟨0x0B, .i32, .ro, 0, .any⟩,
   ⟨0x0C, .u8, .ro, 0, .any⟩]

/-- Group zk: base 0x4005, stride 6, 192 instance(s) (R254). -/
def rows_zk : List ObjRow :=
  [⟨0x01, .u32, .ro, 0, .any⟩,
   ⟨0x02, .u32, .ro, 0, .any⟩,
   ⟨0x03, .u32, .ro, 0, .any⟩,
   ⟨0x04, .u32, .ro, 0, .any⟩,
   ⟨0x05, .u32, .ro, 0, .any⟩,
   ⟨0x06, .u32, .ro, 0, .any⟩,
   ⟨0x07, .u32, .ro, 0, .any⟩,
   ⟨0x08, .u32, .ro, 0, .any⟩]

/-- Group bk: base 0x5000, stride 8, 24 instance(s) (R282). -/
def rows_bk : List ObjRow :=
  [⟨0x01, .enum8, .rws, 0, .range 0 2⟩,
   ⟨0x02, .u8, .act, 0, .any⟩,
   ⟨0x03, .u32, .ro, 0, .any⟩,
   ⟨0x04, .enum8, .ro, 0, .any⟩,
   ⟨0x05, .u8, .ro, 0, .any⟩,
   ⟨0x06, .bool, .rw, 0, .range 0 1⟩,
   ⟨0x07, .u16, .rw, 20, .range 0 1000⟩,
   ⟨0x08, .u16, .rw, 100, .range 20 1000⟩,
   ⟨0x09, .u16, .rws, 10000, .range 2000 50000⟩,
   ⟨0x0A, .u16, .ro, 25000, .any⟩,
   ⟨0x0B, .u16, .rw, 0, .orElse 0 240 650⟩]

/-- Group pfc: base 0x5001, stride 8, 24 instance(s) (R283). -/
def rows_pfc : List ObjRow :=
  [⟨0x01, .u16, .rw, 10000, .range 0 16000⟩,
   ⟨0x02, .u16, .rw, 1000, .range 10 10000⟩,
   ⟨0x03, .u16, .rw, 8000, .range 0 12000⟩,
   ⟨0x04, .u16, .rw, 500, .range 100 2000⟩,
   ⟨0x05, .u16, .rw, 1000, .range 0 20000⟩,
   ⟨0x06, .enum8, .rw, 1, .range 0 1⟩,
   ⟨0x07, .u16, .rw, 2500, .range 0 4000⟩,
   ⟨0x08, .u16, .rw, 300, .range 50 1000⟩,
   ⟨0x09, .enum8, .rw, 1, .range 0 2⟩,
   ⟨0x0A, .u16, .rw, 200, .range 0 10000⟩,
   ⟨0x0B, .u16, .rw, 5000, .range 100 20000⟩]

/-- Group pfn: base 0x5002, stride 8, 24 instance(s) (R283). -/
def rows_pfn : List ObjRow :=
  [⟨0x01, .u16, .rw, 10000, .range 0 16000⟩,
   ⟨0x02, .u16, .rw, 1000, .range 10 10000⟩,
   ⟨0x03, .u16, .rw, 8000, .range 0 12000⟩,
   ⟨0x04, .u16, .rw, 500, .range 100 2000⟩,
   ⟨0x05, .u16, .rw, 1000, .range 0 20000⟩,
   ⟨0x06, .enum8, .rw, 1, .range 0 1⟩,
   ⟨0x07, .u16, .rw, 2500, .range 0 4000⟩,
   ⟨0x08, .u16, .rw, 300, .range 50 1000⟩,
   ⟨0x09, .enum8, .rw, 1, .range 0 2⟩,
   ⟨0x0A, .u16, .rw, 200, .range 0 10000⟩,
   ⟨0x0B, .u16, .rw, 5000, .range 100 20000⟩]

/-- Group pfh: base 0x5003, stride 8, 24 instance(s) (R283). -/
def rows_pfh : List ObjRow :=
  [⟨0x01, .u16, .rw, 10000, .range 0 16000⟩,
   ⟨0x02, .u16, .rw, 1000, .range 10 10000⟩,
   ⟨0x03, .u16, .rw, 8000, .range 0 12000⟩,
   ⟨0x04, .u16, .rw, 500, .range 100 2000⟩,
   ⟨0x05, .u16, .rw, 1000, .range 0 20000⟩,
   ⟨0x06, .enum8, .rw, 1, .range 0 1⟩,
   ⟨0x07, .u16, .rw, 2500, .range 0 4000⟩,
   ⟨0x08, .u16, .rw, 300, .range 50 1000⟩,
   ⟨0x09, .enum8, .rw, 1, .range 0 2⟩,
   ⟨0x0A, .u16, .rw, 200, .range 0 10000⟩,
   ⟨0x0B, .u16, .rw, 5000, .range 100 20000⟩]

/-- Group bst: base 0x5004, stride 8, 24 instance(s) (R284). -/
def rows_bst : List ObjRow :=
  [⟨0x01, .u8, .ro, 0, .any⟩,
   ⟨0x02, .u8, .ro, 0, .any⟩,
   ⟨0x03, .u16, .ro, 0, .any⟩,
   ⟨0x04, .u16, .ro, 0, .any⟩,
   ⟨0x05, .u32, .ro, 0, .any⟩,
   ⟨0x06, .u32, .ro, 0, .any⟩,
   ⟨0x07, .u32, .ro, 0, .any⟩,
   ⟨0x08, .u32, .ro, 0, .any⟩,
   ⟨0x09, .u32, .ro, 0, .any⟩,
   ⟨0x0A, .u32, .ro, 0, .any⟩]

/-- Group prp: base 0x5005, stride 8, 24 instance(s) (R285). -/
def rows_prp : List ObjRow :=
  [⟨0x01, .u16, .rws, 20000, .range 4000 40000⟩,
   ⟨0x02, .u16, .rw, 150, .range 50 400⟩,
   ⟨0x03, .u8, .rw, 5, .range 0 20⟩,
   ⟨0x04, .u16, .rw, 20, .range 0 4095⟩,
   ⟨0x05, .u16, .rw, 2, .range 0 4095⟩]

/-- Group bdg: base 0x5006, stride 8, 24 instance(s) (R310). -/
def rows_bdg : List ObjRow :=
  [⟨0x01, .bool, .rw, 1, .range 0 1⟩,
   ⟨0x02, .u16, .rw, 10, .range 1 1000⟩,
   ⟨0x03, .u16, .rw, 500, .range 50 5000⟩,
   ⟨0x04, .u16, .rw, 200, .range 20 2000⟩,
   ⟨0x05, .u16, .rw, 18000, .range 500 22500⟩,
   ⟨0x06, .u16, .rw, 30, .range 5 200⟩,
   ⟨0x07, .u8, .rw, 50, .range 10 90⟩,
   ⟨0x08, .u8, .rw, 3, .range 1 16⟩,
   ⟨0x09, .enum8, .ro, 0, .any⟩,
   ⟨0x0A, .u8, .act, 0, .any⟩,
   ⟨0x0B, .bool, .rw, 0, .range 0 1⟩,
   ⟨0x0C, .u16, .ro, 0, .any⟩,
   ⟨0x0D, .u32, .ro, 0, .any⟩]

/-- Group bcd: base 0x5007, stride 8, 24 instance(s) (R311). -/
def rows_bcd : List ObjRow :=
  [⟨0x01, .u16, .rw, 100, .range 0 5000⟩,
   ⟨0x02, .u16, .rw, 3000, .range 100 20000⟩,
   ⟨0x03, .u8, .rw, 10, .range 2 64⟩,
   ⟨0x04, .u16, .rw, 40, .range 5 5000⟩,
   ⟨0x05, .enum8, .rw, 0, .range 0 1⟩]

/-- Group ch: base 0x5400, stride 3, 192 instance(s) (R286). -/
def rows_ch : List ObjRow :=
  [⟨0x01, .u8, .rw, 8, .range 1 64⟩,
   ⟨0x02, .u8, .rw, 0, .range 0 63⟩,
   ⟨0x03, .u16, .rw, 0, .range 0 3970⟩,
   ⟨0x04, .u32, .rw, 8000, .range 100 400000⟩,
   ⟨0x05, .u32, .rw, 500, .range 0 200000⟩,
   ⟨0x06, .u32, .rw, 20000, .range 100 400000⟩,
   ⟨0x07, .u16, .rw, 2000, .range 0 65535⟩,
   ⟨0x08, .enum8, .rw, 1, .range 0 2⟩,
   ⟨0x09, .u16, .rw, 500, .range 0 10000⟩,
   ⟨0x0A, .u16, .rw, 1000, .range 0 3000⟩,
   ⟨0x0B, .u16, .rw, 1500, .range 100 60000⟩,
   ⟨0x0C, .i16, .rw, 200, .range (-400) 1500⟩,
   ⟨0x0D, .i16, .rw, 300, .range (-400) 1500⟩,
   ⟨0x0E, .i16, .rw, 900, .range (-400) 1500⟩,
   ⟨0x0F, .u32, .act, 0, .any⟩,
   ⟨0x10, .enum8, .ro, 0, .any⟩]

/-- Group chs: base 0x5401, stride 3, 192 instance(s) (R288). -/
def rows_chs : List ObjRow :=
  [⟨0x01, .enum8, .ro, 0, .any⟩,
   ⟨0x02, .enum8, .ro, 1, .any⟩,
   ⟨0x03, .i16, .ro, 32768, .any⟩,
   ⟨0x04, .u16, .ro, 0, .any⟩,
   ⟨0x05, .u64, .ro, 0, .any⟩,
   ⟨0x06, .u32, .ro, 0, .any⟩,
   ⟨0x07, .u32, .ro, 0, .any⟩,
   ⟨0x08, .u16, .ro, 0, .any⟩,
   ⟨0x09, .u16, .ro, 0, .any⟩,
   ⟨0x0A, .u16, .ro, 0, .any⟩,
   ⟨0x0B, .u32, .ro, 0, .any⟩,
   ⟨0x0C, .u32, .ro, 0, .any⟩,
   ⟨0x0D, .u32, .ro, 0, .any⟩,
   ⟨0x0E, .u32, .ro, 0, .any⟩,
   ⟨0x0F, .u32, .ro, 0, .any⟩,
   ⟨0x10, .u32, .ro, 0, .any⟩,
   ⟨0x11, .u32, .ro, 0, .any⟩]

/-- Group chd: base 0x5402, stride 3, 192 instance(s) (R312). -/
def rows_chd : List ObjRow :=
  [⟨0x01, .enum8, .ro, 0, .any⟩,
   ⟨0x02, .u8, .act, 0, .any⟩,
   ⟨0x03, .enum8, .ro, 0, .any⟩,
   ⟨0x04, .u64, .ro, 0, .any⟩,
   ⟨0x05, .bool, .rw, 0, .range 0 1⟩,
   ⟨0x06, .u16, .ro, 65535, .any⟩,
   ⟨0x07, .u32, .ro, 0, .any⟩,
   ⟨0x08, .u32, .ro, 0, .any⟩,
   ⟨0x09, .u32, .ro, 0, .any⟩,
   ⟨0x0A, .u32, .ro, 0, .any⟩,
   ⟨0x0B, .i16, .ro, 0, .any⟩,
   ⟨0x0C, .u16, .ro, 32768, .any⟩,
   ⟨0x0D, .i16, .ro, 0, .any⟩,
   ⟨0x0E, .u16, .ro, 32768, .any⟩,
   ⟨0x0F, .bool, .ro, 0, .any⟩,
   ⟨0x10, .u64, .ro, 0, .any⟩,
   ⟨0x11, .u32, .ro, 0, .any⟩]

/-- Group dbg: base 0x6000, stride 0, 1 instance(s) (R591). -/
def rows_dbg : List ObjRow :=
  [⟨0x01, .u32, .rw, 0, .any⟩,
   ⟨0x02, .u8, .rw, 0, .any⟩,
   ⟨0x03, .bool, .rw, 0, .range 0 1⟩,
   ⟨0x04, .bool, .rw, 0, .range 0 1⟩,
   ⟨0x05, .u32, .act, 0, .any⟩,
   ⟨0x06, .u8, .act, 0, .any⟩,
   ⟨0x07, .u8, .act, 0, .any⟩,
   ⟨0x08, .enum8, .ro, 0, .any⟩,
   ⟨0x09, .u32, .ro, 0, .any⟩,
   ⟨0x0A, .u8, .ro, 0, .any⟩,
   ⟨0x0B, .bool, .ro, 0, .any⟩,
   ⟨0x0C, .u8, .act, 0, .any⟩,
   ⟨0x0D, .enum8, .ro, 0, .any⟩,
   ⟨0x0E, .u8, .act, 0, .any⟩,
   ⟨0x0F, .u8, .ro, 0, .any⟩]

/-- Group bp: base 0x6010, stride 1, 8 instance(s) (R592). -/
def rows_bp : List ObjRow :=
  [⟨0x01, .enum8, .rw, 0, .range 0 4⟩,
   ⟨0x02, .u16, .rw, 0, .any⟩,
   ⟨0x03, .u8, .rw, 255, .any⟩,
   ⟨0x04, .u16, .rw, 0, .range 0 1023⟩,
   ⟨0x05, .u16, .rw, 0, .range 0 511⟩,
   ⟨0x06, .enum8, .rw, 0, .range 0 1⟩,
   ⟨0x07, .u32, .rw, 0, .any⟩,
   ⟨0x08, .u32, .rw, 0, .any⟩,
   ⟨0x09, .u8, .rw, 0, .any⟩,
   ⟨0x0A, .bool, .rw, 0, .range 0 1⟩,
   ⟨0x0B, .bool, .rw, 0, .range 0 1⟩,
   ⟨0x0C, .u32, .ro, 0, .any⟩,
   ⟨0x0D, .u64, .ro, 0, .any⟩]

/-- Every group of the dictionary (R428). The slot objects of R217 lie at 0x3408 + 16 s + j, as eight groups. -/
def objGroups : List ObjGroup :=
  [⟨0x1000, 0, 1, rows_id⟩,
   ⟨0x1001, 0, 1, rows_rst⟩,
   ⟨0x1002, 0, 1, rows_lc⟩,
   ⟨0x1100, 0, 1, rows_node⟩,
   ⟨0x1101, 1, 2, rows_port⟩,
   ⟨0x1103, 0, 1, rows_time⟩,
   ⟨0x1110, 1, 8, rows_map⟩,
   ⟨0x1200, 0, 1, rows_act⟩,
   ⟨0x1201, 0, 1, rows_ev⟩,
   ⟨0x1210, 0, 1, rows_tly⟩,
   ⟨0x2000, 0, 1, rows_op⟩,
   ⟨0x2001, 0, 1, rows_su⟩,
   ⟨0x2100, 0, 1, rows_shp⟩,
   ⟨0x2110, 1, 32, rows_hint⟩,
   ⟨0x2130, 1, 8, rows_sint⟩,
   ⟨0x2140, 1, 64, rows_strm⟩,
   ⟨0x2180, 1, 12, rows_grp⟩,
   ⟨0x2200, 0, 1, rows_mem⟩,
   ⟨0x2201, 0, 1, rows_age⟩,
   ⟨0x2210, 1, 4, rows_rgn⟩,
   ⟨0x2220, 1, 16, rows_sub⟩,
   ⟨0x2300, 1, 96, rows_lane⟩,
   ⟨0x2360, 0, 1, rows_cls⟩,
   ⟨0x2370, 1, 4, rows_aux⟩,
   ⟨0x2380, 1, 12, rows_grc⟩,
   ⟨0x2400, 0, 1, rows_thm⟩,
   ⟨0x2401, 0, 1, rows_ts⟩,
   ⟨0x2402, 0, 1, rows_rail⟩,
   ⟨0x2403, 0, 1, rows_cal⟩,
   ⟨0x2500, 0, 1, rows_nvm⟩,
   ⟨0x2501, 0, 1, rows_fl⟩,
   ⟨0x2502, 0, 1, rows_spi⟩,
   ⟨0x2503, 0, 1, rows_cfg⟩,
   ⟨0x2600, 0, 1, rows_pr⟩,
   ⟨0x3000, 8, 32, rows_hd⟩,
   ⟨0x3001, 8, 32, rows_hs⟩,
   ⟨0x3002, 8, 32, rows_hl⟩,
   ⟨0x3003, 8, 32, rows_hc⟩,
   ⟨0x3004, 8, 32, rows_pp⟩,
   ⟨0x3005, 8, 32, rows_pc⟩,
   ⟨0x3006, 8, 32, rows_pst⟩,
   ⟨0x3007, 8, 32, rows_pk⟩,
   ⟨0x3200, 1, 32, rows_resp⟩,
   ⟨0x3240, 1, 4, rows_inv⟩,
   ⟨0x3250, 1, 4, rows_ink⟩,
   ⟨0x3280, 0, 1, rows_amb⟩,
   ⟨0x3400, 16, 8, rows_st⟩,
   ⟨0x3401, 16, 8, rows_sst⟩,
   ⟨0x3402, 16, 8, rows_sc⟩,
   ⟨0x3403, 16, 8, rows_sw⟩,
   ⟨0x3480, 1, 4, rows_enc⟩,
   ⟨0x3488, 0, 1, rows_cov⟩,
   ⟨0x4000, 6, 192, rows_zb⟩,
   ⟨0x4001, 6, 192, rows_zc⟩,
   ⟨0x4002, 6, 192, rows_zf⟩,
   ⟨0x4003, 6, 192, rows_zo⟩,
   ⟨0x4004, 6, 192, rows_zs⟩,
   ⟨0x4005, 6, 192, rows_zk⟩,
   ⟨0x5000, 8, 24, rows_bk⟩,
   ⟨0x5001, 8, 24, rows_pfc⟩,
   ⟨0x5002, 8, 24, rows_pfn⟩,
   ⟨0x5003, 8, 24, rows_pfh⟩,
   ⟨0x5004, 8, 24, rows_bst⟩,
   ⟨0x5005, 8, 24, rows_prp⟩,
   ⟨0x5006, 8, 24, rows_bdg⟩,
   ⟨0x5007, 8, 24, rows_bcd⟩,
   ⟨0x5400, 3, 192, rows_ch⟩,
   ⟨0x5401, 3, 192, rows_chs⟩,
   ⟨0x5402, 3, 192, rows_chd⟩,
   ⟨0x6000, 0, 1, rows_dbg⟩,
   ⟨0x6010, 1, 8, rows_bp⟩]
  ++ (List.range 8).map fun j => ⟨0x3408 + j, 16, 8, rows_slot⟩

end Sys2Proof.Machine
end

