-- ==== Sys2Proof/Machine/Regs.lean ====
section
/-! DEFINITION. The names of the registers: every object of the dictionary by its spec name, prefixed with its group, as the key
index * 256 + subindex of the register file. -/

namespace Sys2Proof.Machine.Reg


/-! Group id (R459, spec/14_object_dictionary.md). -/
def idVENDOR : Nat := 0x100001
def idDEVICE : Nat := 0x100002
def idSERIAL : Nat := 0x100003
def idSILICON_REV : Nat := 0x100004
def idFW_VERSION : Nat := 0x100005
def idOD_VERSION : Nat := 0x100006
def idOBJECT_COUNT : Nat := 0x100007
def idLIFE_CYCLE : Nat := 0x100008

/-! Group rst (R588, spec/19_reset_lifecycle_debug.md). -/
def rstRESET_CAUSE : Nat := 0x100101
def rstBOOT_COUNT : Nat := 0x100102
def rstWATCHDOG_RESETS : Nat := 0x100103
def rstSTART_STEP : Nat := 0x100104
def rstSTART_TIME : Nat := 0x100105
def rstWIPE_TIME : Nat := 0x100106

/-! Group lc (R589, spec/19_reset_lifecycle_debug.md). -/
def lcLC_REQ : Nat := 0x100201
def lcLC_RESULT : Nat := 0x100202
def lcOWNER_KEY : Nat := 0x100203
def lcOWNER_KEY_SET : Nat := 0x100204
def lcLC_TRANSITIONS : Nat := 0x100205

/-! Group node (R425, spec/13_nirom_ring.md). -/
def nodeNODE_ADDR : Nat := 0x110001
def nodeACTIVE_ADDR : Nat := 0x110002
def nodeRING_STATE : Nat := 0x110003
def nodeRING_JOIN : Nat := 0x110004
def nodeADDR_CONFLICT : Nat := 0x110005
def nodeESTOP_ON_STOPN : Nat := 0x110006
def nodeESTOP_ACTIVE : Nat := 0x110007
def nodeWRAPS : Nat := 0x110008
def nodeRESET_REFUSED : Nat := 0x110009

/-! Group port (R426, spec/13_nirom_ring.md). -/
def portPORT_STATE (i : Nat) : Nat := 0x110101 + 256 * i
def portSTILE (i : Nat) : Nat := 0x110102 + 256 * i
def portLINK_DELAY (i : Nat) : Nat := 0x110103 + 256 * i
def portDELAY_ASYM (i : Nat) : Nat := 0x110104 + 256 * i
def portNEIGHBOUR (i : Nat) : Nat := 0x110105 + 256 * i
def portHDR_ERR (i : Nat) : Nat := 0x110106 + 256 * i
def portCRC_ERR (i : Nat) : Nat := 0x110107 + 256 * i
def portABORTED (i : Nat) : Nat := 0x110108 + 256 * i
def portHOPS_EXPIRED (i : Nat) : Nat := 0x110109 + 256 * i
def portUNDELIVERED (i : Nat) : Nat := 0x11010A + 256 * i
def portINSERT_ABORT (i : Nat) : Nat := 0x11010B + 256 * i
def portFORWARDED (i : Nat) : Nat := 0x11010C + 256 * i

/-! Group time (R427, spec/13_nirom_ring.md). -/
def timeTIME_STATE : Nat := 0x110301
def timeRING_TIME : Nat := 0x110302
def timeOFFSET : Nat := 0x110303
def timeSYNC_EXPECT : Nat := 0x110304
def timeSYNC_RX : Nat := 0x110305
def timeTIME_STEPS : Nat := 0x110306
def timeTICK_SKIP : Nat := 0x110307

/-! Group map (R455, spec/14_object_dictionary.md). -/
def mapMAP_ENABLE (i : Nat) : Nat := 0x111001 + 256 * i
def mapMAP_ID (i : Nat) : Nat := 0x111002 + 256 * i
def mapDIRECTION (i : Nat) : Nat := 0x111003 + 256 * i
def mapSLOT_OFFSET (i : Nat) : Nat := 0x111004 + 256 * i
def mapENTRY_COUNT (i : Nat) : Nat := 0x111005 + 256 * i
def mapENTRIES (i : Nat) : Nat := 0x111006 + 256 * i
def mapSLOT_LEN (i : Nat) : Nat := 0x111007 + 256 * i
def mapCYC_FRAMES (i : Nat) : Nat := 0x111008 + 256 * i
def mapCYC_ERR (i : Nat) : Nat := 0x111009 + 256 * i

/-! Group act (R460, spec/14_object_dictionary.md). -/
def actQUERY_TOKEN : Nat := 0x120001
def actQUERY_STATE : Nat := 0x120002
def actQUERY_OBJECT : Nat := 0x120003
def actQUERY_SOURCE : Nat := 0x120004
def actLAST_TOKEN : Nat := 0x120005

/-! Group ev (R460, spec/14_object_dictionary.md). -/
def evEVENT_SEQ : Nat := 0x120101
def evEVENT_LOG : Nat := 0x120102
def evEVENT_ENABLE : Nat := 0x120103
def evEVENT_HOLDOFF : Nat := 0x120104

/-! Group tly (R474, spec/15_tally_recovery.md). -/
def tlyNEXT_SEQ : Nat := 0x121001
def tlyOLDEST_SEQ : Nat := 0x121002
def tlyHWM : Nat := 0x121003
def tlyJOURNAL : Nat := 0x121004
def tlyMIRROR : Nat := 0x121005
def tlyMIRROR_SEQ : Nat := 0x121006
def tlyLIFE_START_SEQ : Nat := 0x121007
def tlyPREV_LAST_SEQ : Nat := 0x121008
def tlyOVERRUN : Nat := 0x121009
def tlyMIRROR_SKIP : Nat := 0x12100A

/-! Group op (R461, spec/14_object_dictionary.md). -/
def opDEVICE_STATE : Nat := 0x200001
def opSTATE_REQ : Nat := 0x200002
def opSTATE_RESULT : Nat := 0x200003
def opTICK_PERIOD : Nat := 0x200004
def opTICK_COUNT : Nat := 0x200005
def opPOWER_LIMIT : Nat := 0x200006

/-! Group su (R590, spec/19_reset_lifecycle_debug.md). -/
def suBOOT_TARGET : Nat := 0x200101
def suSTART_WAIT : Nat := 0x200102

/-! Group shp (R327, spec/10_shepherd.md). -/
def shpSHEP_STATE : Nat := 0x210001
def shpMAP_SEQ : Nat := 0x210002
def shpMAP : Nat := 0x210003
def shpCHECK_RESULT : Nat := 0x210004
def shpLAST_CAUSE : Nat := 0x210005
def shpDRAM_LOAD : Nat := 0x210006
def shpB_REQ : Nat := 0x210007
def shpC_REQ : Nat := 0x210008
def shpP_EST : Nat := 0x210009
def shpPOOL_SLOTS : Nat := 0x21000A
def shpSHED_HEADS : Nat := 0x21000B
def shpSHED_STATIONS : Nat := 0x21000C
def shpSHED_HISTORY : Nat := 0x21000D
def shpV_MAX : Nat := 0x21000E
def shpRESTORE_HOLD : Nat := 0x21000F
def shpREPLACEMENTS : Nat := 0x210010

/-! Group hint (R328, spec/10_shepherd.md). -/
def hintHEAD_PRIO (i : Nat) : Nat := 0x211001 + 256 * i
def hintSEG_PREF (i : Nat) : Nat := 0x211002 + 256 * i
def hintRAW_DEPTH (i : Nat) : Nat := 0x211003 + 256 * i
def hintFS_DEPTH (i : Nat) : Nat := 0x211004 + 256 * i

/-! Group sint (R328, spec/10_shepherd.md). -/
def sintST_PRIO (i : Nat) : Nat := 0x213001 + 256 * i
def sintBAND_PREF (i : Nat) : Nat := 0x213002 + 256 * i

/-! Group strm (R329, spec/10_shepherd.md). -/
def strmKIND (i : Nat) : Nat := 0x214001 + 256 * i
def strmSOURCE (i : Nat) : Nat := 0x214002 + 256 * i
def strmFORMAT (i : Nat) : Nat := 0x214003 + 256 * i
def strmSTREAM_PRIO (i : Nat) : Nat := 0x214004 + 256 * i
def strmPOLICY (i : Nat) : Nat := 0x214005 + 256 * i
def strmGROUP_PIN (i : Nat) : Nat := 0x214006 + 256 * i
def strmSTREAM_STATE (i : Nat) : Nat := 0x214007 + 256 * i
def strmPLACED_GROUP (i : Nat) : Nat := 0x214008 + 256 * i
def strmPLACED_FORMAT (i : Nat) : Nat := 0x214009 + 256 * i
def strmLOAD (i : Nat) : Nat := 0x21400A + 256 * i

/-! Group grp (R330, spec/10_shepherd.md). -/
def grpLANES_UP (i : Nat) : Nat := 0x218001 + 256 * i
def grpGROUP_CAP (i : Nat) : Nat := 0x218002 + 256 * i
def grpGROUP_LOAD (i : Nat) : Nat := 0x218003 + 256 * i

/-! Group mem (R361, spec/11_memory.md). -/
def memMEM_STATE : Nat := 0x220001
def memRATE : Nat := 0x220002
def memRATE_ACTIVE : Nat := 0x220003
def memDENSITY : Nat := 0x220004
def memCAPACITY : Nat := 0x220005
def memIN_SERVICE : Nat := 0x220006
def memFAILED : Nat := 0x220007
def memMIRROR_LOST : Nat := 0x220008
def memECC_MODE : Nat := 0x220009
def memEYE_MIN : Nat := 0x22000A
def memCE_RETRAIN : Nat := 0x22000B
def memSCRUB_PERIOD : Nat := 0x22000C
def memSCRUB_PASS : Nat := 0x22000D
def memERROR_LOG : Nat := 0x22000E
def memLOG_SEQ : Nat := 0x22000F
def memFAIL_CAUSE : Nat := 0x220010

/-! Group age (R362, spec/11_memory.md). -/
def ageAGE_SC0 : Nat := 0x220101
def ageAGE_SC1 : Nat := 0x220102
def ageAGE_SC2 : Nat := 0x220103
def ageAGE_SC3 : Nat := 0x220104
def ageAGE_SC4 : Nat := 0x220105

/-! Group rgn (R363, spec/11_memory.md). -/
def rgnGRAIN (i : Nat) : Nat := 0x221001 + 256 * i
def rgnGRAIN_ACTIVE (i : Nat) : Nat := 0x221002 + 256 * i
def rgnSIZE (i : Nat) : Nat := 0x221003 + 256 * i
def rgnUSED (i : Nat) : Nat := 0x221004 + 256 * i

/-! Group sub (R364, spec/11_memory.md). -/
def subSUB_STATE (i : Nat) : Nat := 0x222001 + 256 * i
def subDEV_TEMP (i : Nat) : Nat := 0x222002 + 256 * i
def subBAND (i : Nat) : Nat := 0x222003 + 256 * i
def subBACKLOG (i : Nat) : Nat := 0x222004 + 256 * i
def subRETRAIN (i : Nat) : Nat := 0x222005 + 256 * i
def subRETRAIN_RESULT (i : Nat) : Nat := 0x222006 + 256 * i
def subLAST_TRAIN (i : Nat) : Nat := 0x222007 + 256 * i
def subRETRAINS (i : Nat) : Nat := 0x222008 + 256 * i
def subCE_SYMBOLS (i : Nat) : Nat := 0x222009 + 256 * i
def subUE_BLOCKS (i : Nat) : Nat := 0x22200A + 256 * i
def subTAG_FAULT (i : Nat) : Nat := 0x22200B + 256 * i
def subODECC_COUNT (i : Nat) : Nat := 0x22200C + 256 * i
def subPOSTPONED (i : Nat) : Nat := 0x22200D + 256 * i

/-! Group lane (R395, spec/12_serial_lanes.md). -/
def laneLANE_STATE (i : Nat) : Nat := 0x230001 + 256 * i
def laneRATE_ACTIVE (i : Nat) : Nat := 0x230002 + 256 * i
def laneRATE_MAX (i : Nat) : Nat := 0x230003 + 256 * i
def laneRATE_CAP (i : Nat) : Nat := 0x230004 + 256 * i
def laneLULL (i : Nat) : Nat := 0x230005 + 256 * i
def laneRETRAIN (i : Nat) : Nat := 0x230006 + 256 * i
def laneTAP_PRE (i : Nat) : Nat := 0x230007 + 256 * i
def laneTAP_MAIN (i : Nat) : Nat := 0x230008 + 256 * i
def laneTAP_POST (i : Nat) : Nat := 0x230009 + 256 * i
def laneCTLE (i : Nat) : Nat := 0x23000A + 256 * i
def laneEYE_H (i : Nat) : Nat := 0x23000B + 256 * i
def laneEYE_W (i : Nat) : Nat := 0x23000C + 256 * i
def laneLOSSES (i : Nat) : Nat := 0x23000D + 256 * i
def laneRELOCKS (i : Nat) : Nat := 0x23000E + 256 * i
def laneRETRAINS (i : Nat) : Nat := 0x23000F + 256 * i
def laneFAILED_ATTEMPTS (i : Nat) : Nat := 0x230010 + 256 * i
def laneCODE_ERR (i : Nat) : Nat := 0x230011 + 256 * i
def laneABSENT_CAUSE (i : Nat) : Nat := 0x230012 + 256 * i

/-! Group cls (R396, spec/12_serial_lanes.md). -/
def clsSSC_HEAD : Nat := 0x236001
def clsSSC_EXPORT : Nat := 0x236002

/-! Group aux (R398, spec/12_serial_lanes.md). -/
def auxAUX_MODE (i : Nat) : Nat := 0x237001 + 256 * i
def auxAUX_RATE (i : Nat) : Nat := 0x237002 + 256 * i
def auxAUX_WIDTH (i : Nat) : Nat := 0x237003 + 256 * i
def auxBIT_SLIP (i : Nat) : Nat := 0x237004 + 256 * i
def auxSLIP_POS (i : Nat) : Nat := 0x237005 + 256 * i
def auxMATCH_WORD (i : Nat) : Nat := 0x237006 + 256 * i
def auxMATCH_MASK (i : Nat) : Nat := 0x237007 + 256 * i
def auxMATCH_COUNT (i : Nat) : Nat := 0x237008 + 256 * i
def auxCAPTURE_ARM (i : Nat) : Nat := 0x237009 + 256 * i
def auxAUX_CAPTURE (i : Nat) : Nat := 0x23700A + 256 * i
def auxAUX_TX (i : Nat) : Nat := 0x23700B + 256 * i
def auxTX_WORD (i : Nat) : Nat := 0x23700C + 256 * i
def auxLULL_REQ (i : Nat) : Nat := 0x23700D + 256 * i

/-! Group grc (R397, spec/12_serial_lanes.md). -/
def grcPACKETS (i : Nat) : Nat := 0x238001 + 256 * i
def grcDROPPED (i : Nat) : Nat := 0x238002 + 256 * i
def grcLANE_LOSS (i : Nat) : Nat := 0x238003 + 256 * i
def grcBUF_PEAK (i : Nat) : Nat := 0x238004 + 256 * i

/-! Group thm (R531, spec/17_power_clocks_thermal.md). -/
def thmT_MAX : Nat := 0x240001
def thmT_MAX_SENSOR : Nat := 0x240002
def thmTHERMAL_BAND : Nat := 0x240003
def thmP_LIM : Nat := 0x240004
def thmLADDER_LEVEL : Nat := 0x240005
def thmTHROTTLED_ST : Nat := 0x240006
def thmSAFE_T : Nat := 0x240007
def thmSTOP_CAUSE : Nat := 0x240008
def thmSTOP_TIME : Nat := 0x240009
def thmCUTOFFS : Nat := 0x24000A
def thmLADDER_STEPS : Nat := 0x24000B
def thmDOMAINS_UP : Nat := 0x24000C
def thmCLOCK_STATE : Nat := 0x24000D

/-! Group ts (R532, spec/17_power_clocks_thermal.md). -/
def tsTS0 : Nat := 0x240101
def tsTS1 : Nat := 0x240102
def tsTS2 : Nat := 0x240103
def tsTS3 : Nat := 0x240104
def tsTS4 : Nat := 0x240105
def tsTS5 : Nat := 0x240106
def tsTS6 : Nat := 0x240107
def tsTS7 : Nat := 0x240108
def tsTS8 : Nat := 0x240109
def tsTS9 : Nat := 0x24010A
def tsTS10 : Nat := 0x24010B
def tsTS11 : Nat := 0x24010C
def tsTS12 : Nat := 0x24010D
def tsTS13 : Nat := 0x24010E
def tsTS14 : Nat := 0x24010F
def tsTS15 : Nat := 0x240110
def tsA_DIE_MEAN : Nat := 0x240111

/-! Group rail (R532, spec/17_power_clocks_thermal.md). -/
def railVCORE_N : Nat := 0x240201
def railVCORE_S : Nat := 0x240202
def railVSRAM : Nat := 0x240203
def railVAO : Nat := 0x240204
def railVLANE09_E : Nat := 0x240205
def railVLANE09_W : Nat := 0x240206
def railVLANE12 : Nat := 0x240207
def railVDDQ_N : Nat := 0x240208
def railVDDQ_S : Nat := 0x240209
def railVIO18 : Nat := 0x24020A
def railVIO33 : Nat := 0x24020B
def railVGATE : Nat := 0x24020C
def railVBOOST : Nat := 0x24020D
def railVHOLD : Nat := 0x24020E
def railRAIL_WARN : Nat := 0x24020F
def railRAIL_FAULT : Nat := 0x240210

/-! Group cal (R533, spec/17_power_clocks_thermal.md). -/
def calCAL_DT : Nat := 0x240301
def calCAL_NOW : Nat := 0x240302
def calCAL_RESULT : Nat := 0x240303
def calCAL_STATE : Nat := 0x240304
def calCAL_RUNS : Nat := 0x240305
def calCAL_LAST : Nat := 0x240306
def calCAL_REF_T : Nat := 0x240307
def calCAL_CAUSE : Nat := 0x240308

/-! Group nvm (R560, spec/18_nvm_boot_flash.md). -/
def nvmNVM_STATE : Nat := 0x250001
def nvmBANK_BUSY : Nat := 0x250002
def nvmWRITES_QUEUED : Nat := 0x250003
def nvmTWIN_FIXES : Nat := 0x250004
def nvmRECORDS_LOST : Nat := 0x250005
def nvmRECOVERED_OPS : Nat := 0x250006
def nvmRECOVERY_TIME : Nat := 0x250007

/-! Group fl (R561, spec/18_nvm_boot_flash.md). -/
def flFLASH_ID : Nat := 0x250101
def flFLASH_SIZE : Nat := 0x250102
def flFLASH_DIV : Nat := 0x250103
def flFLASH_READ : Nat := 0x250104
def flFLASH_DUMMY : Nat := 0x250105
def flFLASH_FAULTS : Nat := 0x250106
def flSTALL_MAX : Nat := 0x250107

/-! Group spi (R561, spec/18_nvm_boot_flash.md). -/
def spiSPI_SEL : Nat := 0x250201
def spiSPI_BITS : Nat := 0x250202
def spiSPI_TX : Nat := 0x250203
def spiSPI_GO : Nat := 0x250204
def spiSPI_RESULT : Nat := 0x250205
def spiSPI_RX : Nat := 0x250206

/-! Group cfg (R562, spec/18_nvm_boot_flash.md). -/
def cfgCONFIG_SAVE : Nat := 0x250301
def cfgCONFIG_CLEAR : Nat := 0x250302
def cfgCONFIG_RESULT : Nat := 0x250303
def cfgCONFIG_SEQ : Nat := 0x250304
def cfgCONFIG_SOURCE : Nat := 0x250305
def cfgCONFIG_SKIPPED : Nat := 0x250306

/-! Group pr (R504, spec/16_redundant_pair.md). -/
def prPAIR_MODE : Nat := 0x260001
def prPAIR_ID : Nat := 0x260002
def prPAIR_EPOCH : Nat := 0x260003
def prROLE : Nat := 0x260004
def prPARTNER_STATE : Nat := 0x260005
def prPEER_CLAIM_STATE : Nat := 0x260006
def prCLAIM_LAPSED : Nat := 0x260007
def prLEASE_LEFT : Nat := 0x260008
def prMASTER_OK : Nat := 0x260009
def prPARTNER_SERIAL : Nat := 0x26000A
def prHANDOVER : Nat := 0x26000B
def prHANDOVER_RESULT : Nat := 0x26000C
def prTAKEOVERS : Nat := 0x26000D
def prDEMOTIONS : Nat := 0x26000E
def prCOLLISIONS : Nat := 0x26000F
def prLEASE_EXPIRIES : Nat := 0x260010
def prLAST_TAKEOVER : Nat := 0x260011

/-! Group hd (R85, spec/02_sensor_heads.md). -/
def hdSERIAL (i : Nat) : Nat := 0x300001 + 2048 * i
def hdMODEL (i : Nat) : Nat := 0x300002 + 2048 * i
def hdNATIVE_W (i : Nat) : Nat := 0x300003 + 2048 * i
def hdNATIVE_H (i : Nat) : Nat := 0x300004 + 2048 * i
def hdHEAD_FW (i : Nat) : Nat := 0x300005 + 2048 * i
def hdATTACH_STATE (i : Nat) : Nat := 0x300006 + 2048 * i
def hdREFUSE_CAUSE (i : Nat) : Nat := 0x300007 + 2048 * i
def hdBOUND_SERIAL (i : Nat) : Nat := 0x300008 + 2048 * i
def hdREBIND (i : Nat) : Nat := 0x300009 + 2048 * i
def hdREBIND_RESULT (i : Nat) : Nat := 0x30000A + 2048 * i
def hdHEAD_EPOCH (i : Nat) : Nat := 0x30000B + 2048 * i
def hdTIME_RESID (i : Nat) : Nat := 0x30000C + 2048 * i

/-! Group hs (R86, spec/02_sensor_heads.md). -/
def hsWIDTH (i : Nat) : Nat := 0x300101 + 2048 * i
def hsHEIGHT (i : Nat) : Nat := 0x300102 + 2048 * i
def hsFRAME_INTERVAL (i : Nat) : Nat := 0x300103 + 2048 * i
def hsINTEGRATION (i : Nat) : Nat := 0x300104 + 2048 * i
def hsBIAS (i : Nat) : Nat := 0x300105 + 2048 * i
def hsSKIM (i : Nat) : Nat := 0x300106 + 2048 * i
def hsSKIM_TARGET (i : Nat) : Nat := 0x300107 + 2048 * i
def hsCOMMIT (i : Nat) : Nat := 0x300108 + 2048 * i
def hsCOMMIT_RESULT (i : Nat) : Nat := 0x300109 + 2048 * i
def hsCURRENT_TAG (i : Nat) : Nat := 0x30010A + 2048 * i
def hsARMED_TAG (i : Nat) : Nat := 0x30010B + 2048 * i
def hsLATE_TOL (i : Nat) : Nat := 0x30010C + 2048 * i

/-! Group hl (R88, spec/02_sensor_heads.md). -/
def hlSHUTTER_CNT (i : Nat) : Nat := 0x300201 + 2048 * i
def hlSHUTTER_RATED (i : Nat) : Nat := 0x300202 + 2048 * i
def hlWINDOW_EQ (i : Nat) : Nat := 0x300203 + 2048 * i
def hlWINDOW_RATED (i : Nat) : Nat := 0x300204 + 2048 * i
def hlWINDOW_T (i : Nat) : Nat := 0x300205 + 2048 * i
def hlT_FLOOR (i : Nat) : Nat := 0x300206 + 2048 * i
def hlLIFE_USED (i : Nat) : Nat := 0x300207 + 2048 * i
def hlLIFE_STATE (i : Nat) : Nat := 0x300208 + 2048 * i
def hlLIFE_WARN (i : Nat) : Nat := 0x300209 + 2048 * i
def hlLIFE_WRITE_TIME (i : Nat) : Nat := 0x30020A + 2048 * i
def hlFOLD_DT (i : Nat) : Nat := 0x300220 + 2048 * i
def hlFOLD_MIN_INT (i : Nat) : Nat := 0x300221 + 2048 * i
def hlCONF_MIN (i : Nat) : Nat := 0x300222 + 2048 * i
def hlCONF_AGE (i : Nat) : Nat := 0x300223 + 2048 * i
def hlCONF_WIN (i : Nat) : Nat := 0x300224 + 2048 * i
def hlFOLD_SETTLE (i : Nat) : Nat := 0x300225 + 2048 * i
def hlFOLD_FRAMES (i : Nat) : Nat := 0x300226 + 2048 * i
def hlFOLD_SIGMA_MAX (i : Nat) : Nat := 0x300227 + 2048 * i
def hlFOLD_STAB_MAX (i : Nat) : Nat := 0x300228 + 2048 * i
def hlFOLD_SUB_SPAN (i : Nat) : Nat := 0x300229 + 2048 * i
def hlFOLD_DO_MAX (i : Nat) : Nat := 0x30022A + 2048 * i
def hlFOLD_AUTO (i : Nat) : Nat := 0x30022B + 2048 * i
def hlFOLD_NOW (i : Nat) : Nat := 0x30022C + 2048 * i
def hlFOLD_RESULT (i : Nat) : Nat := 0x30022D + 2048 * i
def hlFOLD_STATE (i : Nat) : Nat := 0x300230 + 2048 * i
def hlFOLD_RUNS (i : Nat) : Nat := 0x300231 + 2048 * i
def hlFOLD_LAST_OK (i : Nat) : Nat := 0x300232 + 2048 * i
def hlFOLD_FAIL_SEQ (i : Nat) : Nat := 0x300233 + 2048 * i
def hlFOLD_FAILS (i : Nat) : Nat := 0x300234 + 2048 * i
def hlSHUTTER_SUSPECT (i : Nat) : Nat := 0x300235 + 2048 * i
def hlDRIFT_CONF (i : Nat) : Nat := 0x300236 + 2048 * i
def hlFOLD_CAUSE (i : Nat) : Nat := 0x300237 + 2048 * i
def hlSHUTTER_SPREAD (i : Nat) : Nat := 0x300238 + 2048 * i
def hlFOLD_KEPT (i : Nat) : Nat := 0x300239 + 2048 * i
def hlWIN_REF (i : Nat) : Nat := 0x30023A + 2048 * i
def hlLAST_SIGMA (i : Nat) : Nat := 0x30023B + 2048 * i
def hlWRITEBACK_STATE (i : Nat) : Nat := 0x30023C + 2048 * i
def hlLAST_FOLD_RESULT (i : Nat) : Nat := 0x30023D + 2048 * i

/-! Group hc (R89, spec/02_sensor_heads.md). -/
def hcFRAMES (i : Nat) : Nat := 0x300301 + 2048 * i
def hcFRAME_LATE (i : Nat) : Nat := 0x300302 + 2048 * i
def hcFRAME_SKIP (i : Nat) : Nat := 0x300303 + 2048 * i
def hcFRAME_SHORT (i : Nat) : Nat := 0x300304 + 2048 * i
def hcFRAME_LONG (i : Nat) : Nat := 0x300305 + 2048 * i
def hcLINE_SHORT (i : Nat) : Nat := 0x300306 + 2048 * i
def hcLINE_LONG (i : Nat) : Nat := 0x300307 + 2048 * i
def hcLINE_GAP (i : Nat) : Nat := 0x300308 + 2048 * i
def hcLINE_STRAY (i : Nat) : Nat := 0x300309 + 2048 * i
def hcLINK_DISCARD (i : Nat) : Nat := 0x30030A + 2048 * i
def hcSEQ_GAP (i : Nat) : Nat := 0x30030B + 2048 * i
def hcGEOMETRY_MISMATCH (i : Nat) : Nat := 0x30030C + 2048 * i
def hcCMD_TIMEOUT (i : Nat) : Nat := 0x30030D + 2048 * i
def hcAUTH_FAIL (i : Nat) : Nat := 0x30030E + 2048 * i
def hcHEAD_SILENT (i : Nat) : Nat := 0x30030F + 2048 * i

/-! Group pp (R128, spec/03_correction_pipeline.md). -/
def ppDRIFT_ENABLE (i : Nat) : Nat := 0x300401 + 2048 * i
def ppDRIFT_RANGE (i : Nat) : Nat := 0x300402 + 2048 * i
def ppSAT_LEVEL (i : Nat) : Nat := 0x300403 + 2048 * i
def ppNOISY_ACTION (i : Nat) : Nat := 0x300404 + 2048 * i
def ppUSER_ACTION (i : Nat) : Nat := 0x300405 + 2048 * i
def ppREPLACE_REACH (i : Nat) : Nat := 0x300406 + 2048 * i
def ppSTAT_X0 (i : Nat) : Nat := 0x300407 + 2048 * i
def ppSTAT_Y0 (i : Nat) : Nat := 0x300408 + 2048 * i
def ppSTAT_W (i : Nat) : Nat := 0x300409 + 2048 * i
def ppSTAT_H (i : Nat) : Nat := 0x30040A + 2048 * i
def ppSTAT_FRAMES (i : Nat) : Nat := 0x30040B + 2048 * i
def ppSHARP_GAIN_MAX (i : Nat) : Nat := 0x300420 + 2048 * i
def ppSHARP_MAX_DT (i : Nat) : Nat := 0x300421 + 2048 * i
def ppTAU_LEARN (i : Nat) : Nat := 0x300422 + 2048 * i
def ppTAU_MIN_STEP (i : Nat) : Nat := 0x300423 + 2048 * i
def ppINV_SEL (i : Nat) : Nat := 0x300424 + 2048 * i
def ppEPS_SOURCE (i : Nat) : Nat := 0x300425 + 2048 * i
def ppEPS_DEFAULT (i : Nat) : Nat := 0x300426 + 2048 * i
def ppEPS_U_DEFAULT (i : Nat) : Nat := 0x300427 + 2048 * i
def ppAMB_SOURCE (i : Nat) : Nat := 0x300428 + 2048 * i
def ppAMB_T (i : Nat) : Nat := 0x300429 + 2048 * i
def ppWIN_CORR (i : Nat) : Nat := 0x30042A + 2048 * i
def ppNOISE_CNT (i : Nat) : Nat := 0x30042B + 2048 * i
def ppNOISY_FACTOR (i : Nat) : Nat := 0x30042C + 2048 * i
def ppCAL_U (i : Nat) : Nat := 0x30042D + 2048 * i
def ppREPLACE_U (i : Nat) : Nat := 0x30042E + 2048 * i
def ppDRIFT_U (i : Nat) : Nat := 0x30042F + 2048 * i

/-! Group pc (R129, spec/03_correction_pipeline.md). -/
def pcSEG_LOCATION (i : Nat) : Nat := 0x300501 + 2048 * i
def pcSEG_RECORDS (i : Nat) : Nat := 0x300502 + 2048 * i
def pcSUB_REF (i : Nat) : Nat := 0x300503 + 2048 * i
def pcPATCH_COUNT (i : Nat) : Nat := 0x300504 + 2048 * i
def pcPATCH (i : Nat) : Nat := 0x300505 + 2048 * i
def pcPATCH_PERSIST (i : Nat) : Nat := 0x300506 + 2048 * i
def pcPERSIST_COUNT (i : Nat) : Nat := 0x300507 + 2048 * i
def pcPERSIST_CLEAR (i : Nat) : Nat := 0x300508 + 2048 * i
def pcREAD_INDEX (i : Nat) : Nat := 0x300509 + 2048 * i
def pcREAD_WINDOW (i : Nat) : Nat := 0x30050A + 2048 * i
def pcCLASS_COUNTS (i : Nat) : Nat := 0x30050B + 2048 * i
def pcAPPLIED_TAG (i : Nat) : Nat := 0x30050C + 2048 * i
def pcTAU_COMMIT (i : Nat) : Nat := 0x300520 + 2048 * i
def pcTAU_RESULT (i : Nat) : Nat := 0x300521 + 2048 * i
def pcTAU_PROPOSED (i : Nat) : Nat := 0x300522 + 2048 * i
def pcTAU_MEASURED (i : Nat) : Nat := 0x300523 + 2048 * i

/-! Group pst (R132, spec/03_correction_pipeline.md). -/
def pstSTAT_SEQ (i : Nat) : Nat := 0x300601 + 2048 * i
def pstSTAT_TAG (i : Nat) : Nat := 0x300602 + 2048 * i
def pstSTAT_CAUSE (i : Nat) : Nat := 0x300603 + 2048 * i
def pstFIRST_FRAME (i : Nat) : Nat := 0x300604 + 2048 * i
def pstFRAMES_USED (i : Nat) : Nat := 0x300605 + 2048 * i
def pstT_START (i : Nat) : Nat := 0x300606 + 2048 * i
def pstT_END (i : Nat) : Nat := 0x300607 + 2048 * i
def pstMEAN_T (i : Nat) : Nat := 0x300608 + 2048 * i
def pstMIN_T (i : Nat) : Nat := 0x300609 + 2048 * i
def pstMAX_T (i : Nat) : Nat := 0x30060A + 2048 * i
def pstSTD_T (i : Nat) : Nat := 0x30060B + 2048 * i
def pstSAMPLES (i : Nat) : Nat := 0x30060C + 2048 * i
def pstREPLACED (i : Nat) : Nat := 0x30060D + 2048 * i
def pstSATURATED (i : Nat) : Nat := 0x30060E + 2048 * i
def pstUNREPLACEABLE (i : Nat) : Nat := 0x30060F + 2048 * i

/-! Group pk (R133, spec/03_correction_pipeline.md). -/
def pkPIPE_STATE (i : Nat) : Nat := 0x300701 + 2048 * i
def pkFRAMES_DONE (i : Nat) : Nat := 0x300702 + 2048 * i
def pkTAG_MISMATCH (i : Nat) : Nat := 0x300703 + 2048 * i
def pkTAG_TIMEOUT (i : Nat) : Nat := 0x300704 + 2048 * i
def pkEXPORT_DROP (i : Nat) : Nat := 0x300705 + 2048 * i
def pkSTATION_DROP (i : Nat) : Nat := 0x300706 + 2048 * i
def pkCOEF_STALL (i : Nat) : Nat := 0x300707 + 2048 * i
def pkLINE_OVERRUN (i : Nat) : Nat := 0x300708 + 2048 * i
def pkCLIPPED (i : Nat) : Nat := 0x300709 + 2048 * i
def pkUNREPLACEABLE (i : Nat) : Nat := 0x30070A + 2048 * i
def pkDRIFT_RANGE (i : Nat) : Nat := 0x30070B + 2048 * i
def pkREADOUT_ERR (i : Nat) : Nat := 0x30070C + 2048 * i
def pkSHARP_RESTART (i : Nat) : Nat := 0x300720 + 2048 * i
def pkK_REBUILD (i : Nat) : Nat := 0x300721 + 2048 * i
def pkEPS_FALLBACK (i : Nat) : Nat := 0x300722 + 2048 * i
def pkRANGE_OUT (i : Nat) : Nat := 0x300723 + 2048 * i
def pkBOUND_SLOTS (i : Nat) : Nat := 0x300724 + 2048 * i

/-! Group resp (R161, spec/04_sharpening_radiometry.md). -/
def respTABLE (i : Nat) : Nat := 0x320001 + 256 * i
def respNEWEST_SLOT (i : Nat) : Nat := 0x320002 + 256 * i
def respSLOT_USE (i : Nat) : Nat := 0x320003 + 256 * i
def respCRC (i : Nat) : Nat := 0x320004 + 256 * i
def respORIGIN (i : Nat) : Nat := 0x320005 + 256 * i

/-! Group inv (R161, spec/04_sharpening_radiometry.md). -/
def invTABLE (i : Nat) : Nat := 0x324001 + 256 * i
def invNEWEST_SLOT (i : Nat) : Nat := 0x324002 + 256 * i
def invSLOT_USE (i : Nat) : Nat := 0x324003 + 256 * i
def invCRC (i : Nat) : Nat := 0x324004 + 256 * i
def invORIGIN (i : Nat) : Nat := 0x324005 + 256 * i

/-! Group ink (R161, spec/04_sharpening_radiometry.md). -/
def inkTABLE (i : Nat) : Nat := 0x325001 + 256 * i
def inkNEWEST_SLOT (i : Nat) : Nat := 0x325002 + 256 * i
def inkSLOT_USE (i : Nat) : Nat := 0x325003 + 256 * i
def inkCRC (i : Nat) : Nat := 0x325004 + 256 * i
def inkORIGIN (i : Nat) : Nat := 0x325005 + 256 * i

/-! Group amb (R163, spec/04_sharpening_radiometry.md). -/
def ambAMB_ST0 : Nat := 0x328001
def ambAMB_ST1 : Nat := 0x328002
def ambAMB_ST2 : Nat := 0x328003
def ambAMB_ST3 : Nat := 0x328004
def ambAMB_ST4 : Nat := 0x328005
def ambAMB_ST5 : Nat := 0x328006
def ambAMB_ST6 : Nat := 0x328007
def ambAMB_ST7 : Nat := 0x328008

/-! Group st (R213, spec/06_web_registration.md). -/
def stRUN (i : Nat) : Nat := 0x340001 + 4096 * i
def stENC_SEL (i : Nat) : Nat := 0x340002 + 4096 * i
def stDATUM (i : Nat) : Nat := 0x340003 + 4096 * i
def stCELL_W (i : Nat) : Nat := 0x340004 + 4096 * i
def stCELL_L (i : Nat) : Nat := 0x340005 + 4096 * i
def stMAP_X0 (i : Nat) : Nat := 0x340006 + 4096 * i
def stMAP_CELLS (i : Nat) : Nat := 0x340007 + 4096 * i
def stQ_FLOOR (i : Nat) : Nat := 0x340008 + 4096 * i
def stRESTART_USE (i : Nat) : Nat := 0x340009 + 4096 * i

/-! Group sst (R214, spec/06_web_registration.md). -/
def sstST_STATE (i : Nat) : Nat := 0x340101 + 4096 * i
def sstWL_SEQ (i : Nat) : Nat := 0x340102 + 4096 * i
def sstNEXT_LINE (i : Nat) : Nat := 0x340103 + 4096 * i
def sstBAND_LINES (i : Nat) : Nat := 0x340104 + 4096 * i
def sstLEAD_MIN (i : Nat) : Nat := 0x340105 + 4096 * i
def sstA_MIN (i : Nat) : Nat := 0x340106 + 4096 * i
def sstA_MAX (i : Nat) : Nat := 0x340107 + 4096 * i
def sstABSENT (i : Nat) : Nat := 0x340108 + 4096 * i

/-! Group sc (R215, spec/06_web_registration.md). -/
def scLATE_SAMPLE (i : Nat) : Nat := 0x340201 + 4096 * i
def scBAND_OVERFLOW (i : Nat) : Nat := 0x340202 + 4096 * i
def scOFF_MAP (i : Nat) : Nat := 0x340203 + 4096 * i
def scENC_HISTORY (i : Nat) : Nat := 0x340204 + 4096 * i
def scLINES_INCOMPLETE (i : Nat) : Nat := 0x340205 + 4096 * i
def scCOV_LATE (i : Nat) : Nat := 0x340206 + 4096 * i
def scCOV_EVICTED (i : Nat) : Nat := 0x340207 + 4096 * i
def scMAP_MISMATCH (i : Nat) : Nat := 0x340208 + 4096 * i

/-! Group sw (R216, spec/06_web_registration.md). -/
def swREAD_SEQ (i : Nat) : Nat := 0x340301 + 4096 * i
def swREAD_LINE (i : Nat) : Nat := 0x340302 + 4096 * i
def swOLDEST_SEQ (i : Nat) : Nat := 0x340303 + 4096 * i

/-! Group slot (R217, spec/06_web_registration.md). -/
def slotHEAD (i : Nat) : Nat := 0x340801 + 4096 * (i / 8) + 256 * (i % 8)
def slotMAP (i : Nat) : Nat := 0x340802 + 4096 * (i / 8) + 256 * (i % 8)
def slotMAP_CRC (i : Nat) : Nat := 0x340803 + 4096 * (i / 8) + 256 * (i % 8)
def slotSLOT_STATE (i : Nat) : Nat := 0x340804 + 4096 * (i / 8) + 256 * (i % 8)

/-! Group enc (R218, spec/06_web_registration.md). -/
def encENC_SCALE (i : Nat) : Nat := 0x348001 + 256 * i
def encENC_INVERT (i : Nat) : Nat := 0x348002 + 256 * i
def encENC_FILTER (i : Nat) : Nat := 0x348003 + 256 * i
def encPOSITION (i : Nat) : Nat := 0x348004 + 256 * i
def encSPEED (i : Nat) : Nat := 0x348005 + 256 * i
def encSYNC_OFFSET (i : Nat) : Nat := 0x348006 + 256 * i
def encENC_ERR (i : Nat) : Nat := 0x348007 + 256 * i
def encREVERSE (i : Nat) : Nat := 0x348008 + 256 * i
def encSYNC_JUMP (i : Nat) : Nat := 0x348009 + 256 * i
def encSYNC_STALE (i : Nat) : Nat := 0x34800A + 256 * i

/-! Group cov (R219, spec/06_web_registration.md). -/
def covCOV_ENABLE : Nat := 0x348801
def covCOV_PITCH : Nat := 0x348802
def covCOV_COL_W : Nat := 0x348803
def covCOV_X0 : Nat := 0x348804
def covCOV_COLS : Nat := 0x348805
def covCOV_DEPTH : Nat := 0x348806
def covCOV_SYNC_TOL : Nat := 0x348807
def covCOV_FRAMES : Nat := 0x348808
def covCOV_SEQ_GAP : Nat := 0x348809
def covCOV_FORMAT_ERR : Nat := 0x34880A

/-! Group zb (R249, spec/07_zone_control.md). -/
def zbZONE_RUN (i : Nat) : Nat := 0x400001 + 1536 * i
def zbSRC_STATION (i : Nat) : Nat := 0x400002 + 1536 * i
def zbFIRST_CELL (i : Nat) : Nat := 0x400003 + 1536 * i
def zbCELL_COUNT (i : Nat) : Nat := 0x400004 + 1536 * i
def zbPV_SEL (i : Nat) : Nat := 0x400005 + 1536 * i
def zbMIN_FILL (i : Nat) : Nat := 0x400006 + 1536 * i
def zbFLAG_REJECT (i : Nat) : Nat := 0x400007 + 1536 * i
def zbSTALE_MAX (i : Nat) : Nat := 0x400008 + 1536 * i
def zbRECOVER_N (i : Nat) : Nat := 0x400009 + 1536 * i
def zbV_STOP (i : Nat) : Nat := 0x40000A + 1536 * i

/-! Group zc (R250, spec/07_zone_control.md). -/
def zcSETPOINT (i : Nat) : Nat := 0x400101 + 1536 * i
def zcACTION (i : Nat) : Nat := 0x400102 + 1536 * i
def zcKP (i : Nat) : Nat := 0x400103 + 1536 * i
def zcTI (i : Nat) : Nat := 0x400104 + 1536 * i
def zcOUT_MIN (i : Nat) : Nat := 0x400105 + 1536 * i
def zcOUT_MAX (i : Nat) : Nat := 0x400106 + 1536 * i
def zcRATE_MAX (i : Nat) : Nat := 0x400107 + 1536 * i
def zcMODEL_GAIN (i : Nat) : Nat := 0x400108 + 1536 * i
def zcMODEL_TAU (i : Nat) : Nat := 0x400109 + 1536 * i
def zcACT_POS (i : Nat) : Nat := 0x40010A + 1536 * i
def zcDELAY_TRIM (i : Nat) : Nat := 0x40010B + 1536 * i
def zcMAN_DEMAND (i : Nat) : Nat := 0x40010C + 1536 * i

/-! Group zf (R251, spec/07_zone_control.md). -/
def zfFF_GAIN (i : Nat) : Nat := 0x400201 + 1536 * i
def zfFF_ADV (i : Nat) : Nat := 0x400202 + 1536 * i
def zfFF_W0 (i : Nat) : Nat := 0x400203 + 1536 * i
def zfFF_W1 (i : Nat) : Nat := 0x400204 + 1536 * i
def zfFF_W2 (i : Nat) : Nat := 0x400205 + 1536 * i
def zfFF_W3 (i : Nat) : Nat := 0x400206 + 1536 * i
def zfFF_HOLD (i : Nat) : Nat := 0x400207 + 1536 * i
def zfFF_DEFAULT (i : Nat) : Nat := 0x400208 + 1536 * i
def zfNB_LEFT (i : Nat) : Nat := 0x400209 + 1536 * i
def zfNB_RIGHT (i : Nat) : Nat := 0x40020A + 1536 * i
def zfSPREAD_L (i : Nat) : Nat := 0x40020B + 1536 * i
def zfSPREAD_C (i : Nat) : Nat := 0x40020C + 1536 * i
def zfSPREAD_R (i : Nat) : Nat := 0x40020D + 1536 * i

/-! Group zo (R252, spec/07_zone_control.md). -/
def zoCHANNEL (i : Nat) : Nat := 0x400301 + 1536 * i
def zoZONE_PRIO (i : Nat) : Nat := 0x400302 + 1536 * i
def zoDEG_MODE (i : Nat) : Nat := 0x400303 + 1536 * i
def zoDEG_DEMAND (i : Nat) : Nat := 0x400304 + 1536 * i
def zoSAFE_DEMAND (i : Nat) : Nat := 0x400305 + 1536 * i
def zoSTOP_DEMAND (i : Nat) : Nat := 0x400306 + 1536 * i

/-! Group zs (R253, spec/07_zone_control.md). -/
def zsZONE_STATE (i : Nat) : Nat := 0x400401 + 1536 * i
def zsSAFE_CAUSE (i : Nat) : Nat := 0x400402 + 1536 * i
def zsPV (i : Nat) : Nat := 0x400403 + 1536 * i
def zsERROR (i : Nat) : Nat := 0x400404 + 1536 * i
def zsU_FF (i : Nat) : Nat := 0x400405 + 1536 * i
def zsINTEGRAL (i : Nat) : Nat := 0x400406 + 1536 * i
def zsDEMAND (i : Nat) : Nat := 0x400407 + 1536 * i
def zsSTALE_CNT (i : Nat) : Nat := 0x400408 + 1536 * i
def zsNEWEST_SEQ (i : Nat) : Nat := 0x400409 + 1536 * i
def zsENGINE (i : Nat) : Nat := 0x40040A + 1536 * i
def zsDELAY_DIST (i : Nat) : Nat := 0x40040B + 1536 * i
def zsZONE_FLAGS (i : Nat) : Nat := 0x40040C + 1536 * i

/-! Group zk (R254, spec/07_zone_control.md). -/
def zkSTALE_TICKS (i : Nat) : Nat := 0x400501 + 1536 * i
def zkDEGRADED_ENTRIES (i : Nat) : Nat := 0x400502 + 1536 * i
def zkSAFE_ENTRIES (i : Nat) : Nat := 0x400503 + 1536 * i
def zkWINDUP_TICKS (i : Nat) : Nat := 0x400504 + 1536 * i
def zkDELAY_CLIP (i : Nat) : Nat := 0x400505 + 1536 * i
def zkFF_MISSING (i : Nat) : Nat := 0x400506 + 1536 * i
def zkENGINE_OVERRUN (i : Nat) : Nat := 0x400507 + 1536 * i
def zkWEB_STOP_ENTRIES (i : Nat) : Nat := 0x400508 + 1536 * i

/-! Group bk (R282, spec/08_actuation.md). -/
def bkBANK_TYPE (i : Nat) : Nat := 0x500001 + 2048 * i
def bkARM (i : Nat) : Nat := 0x500002 + 2048 * i
def bkARM_RESULT (i : Nat) : Nat := 0x500003 + 2048 * i
def bkBANK_STATE (i : Nat) : Nat := 0x500004 + 2048 * i
def bkSTOP_CAUSE (i : Nat) : Nat := 0x500005 + 2048 * i
def bkAUTO_REARM (i : Nat) : Nat := 0x500006 + 2048 * i
def bkBANK_GAP (i : Nat) : Nat := 0x500007 + 2048 * i
def bkI_END (i : Nat) : Nat := 0x500008 + 2048 * i
def bkSHUNT (i : Nat) : Nat := 0x500009 + 2048 * i
def bkSENSE_FS (i : Nat) : Nat := 0x50000A + 2048 * i
def bkVBOOST_MIN (i : Nat) : Nat := 0x50000B + 2048 * i

/-! Group pfc (R283, spec/08_actuation.md). -/
def pfcI_BOOST (i : Nat) : Nat := 0x500101 + 2048 * i
def pfcT_BOOST_MAX (i : Nat) : Nat := 0x500102 + 2048 * i
def pfcI_PEAK (i : Nat) : Nat := 0x500103 + 2048 * i
def pfcPEAK_HYST (i : Nat) : Nat := 0x500104 + 2048 * i
def pfcT_PEAK (i : Nat) : Nat := 0x500105 + 2048 * i
def pfcPH_DECAY (i : Nat) : Nat := 0x500106 + 2048 * i
def pfcI_HOLD (i : Nat) : Nat := 0x500107 + 2048 * i
def pfcHOLD_HYST (i : Nat) : Nat := 0x500108 + 2048 * i
def pfcDECAY (i : Nat) : Nat := 0x500109 + 2048 * i
def pfcT_SLOW (i : Nat) : Nat := 0x50010A + 2048 * i
def pfcDECAY_MAX (i : Nat) : Nat := 0x50010B + 2048 * i

/-! Group pfn (R283, spec/08_actuation.md). -/
def pfnI_BOOST (i : Nat) : Nat := 0x500201 + 2048 * i
def pfnT_BOOST_MAX (i : Nat) : Nat := 0x500202 + 2048 * i
def pfnI_PEAK (i : Nat) : Nat := 0x500203 + 2048 * i
def pfnPEAK_HYST (i : Nat) : Nat := 0x500204 + 2048 * i
def pfnT_PEAK (i : Nat) : Nat := 0x500205 + 2048 * i
def pfnPH_DECAY (i : Nat) : Nat := 0x500206 + 2048 * i
def pfnI_HOLD (i : Nat) : Nat := 0x500207 + 2048 * i
def pfnHOLD_HYST (i : Nat) : Nat := 0x500208 + 2048 * i
def pfnDECAY (i : Nat) : Nat := 0x500209 + 2048 * i
def pfnT_SLOW (i : Nat) : Nat := 0x50020A + 2048 * i
def pfnDECAY_MAX (i : Nat) : Nat := 0x50020B + 2048 * i

/-! Group pfh (R283, spec/08_actuation.md). -/
def pfhI_BOOST (i : Nat) : Nat := 0x500301 + 2048 * i
def pfhT_BOOST_MAX (i : Nat) : Nat := 0x500302 + 2048 * i
def pfhI_PEAK (i : Nat) : Nat := 0x500303 + 2048 * i
def pfhPEAK_HYST (i : Nat) : Nat := 0x500304 + 2048 * i
def pfhT_PEAK (i : Nat) : Nat := 0x500305 + 2048 * i
def pfhPH_DECAY (i : Nat) : Nat := 0x500306 + 2048 * i
def pfhI_HOLD (i : Nat) : Nat := 0x500307 + 2048 * i
def pfhHOLD_HYST (i : Nat) : Nat := 0x500308 + 2048 * i
def pfhDECAY (i : Nat) : Nat := 0x500309 + 2048 * i
def pfhT_SLOW (i : Nat) : Nat := 0x50030A + 2048 * i
def pfhDECAY_MAX (i : Nat) : Nat := 0x50030B + 2048 * i

/-! Group bst (R284, spec/08_actuation.md). -/
def bstQUEUE_DEPTH (i : Nat) : Nat := 0x500401 + 2048 * i
def bstBUSY_PCT (i : Nat) : Nat := 0x500402 + 2048 * i
def bstLOAD_PCT (i : Nat) : Nat := 0x500403 + 2048 * i
def bstBOOST_V (i : Nat) : Nat := 0x500404 + 2048 * i
def bstEVENTS (i : Nat) : Nat := 0x500405 + 2048 * i
def bstBANK_OVERLAP (i : Nat) : Nat := 0x500406 + 2048 * i
def bstWAIT_MAX (i : Nat) : Nat := 0x500407 + 2048 * i
def bstSTOPS (i : Nat) : Nat := 0x500408 + 2048 * i
def bstLOW_BOOST (i : Nat) : Nat := 0x500409 + 2048 * i
def bstDECAY_LONG (i : Nat) : Nat := 0x50040A + 2048 * i

/-! Group prp (R285, spec/08_actuation.md). -/
def prpPWM_FREQ (i : Nat) : Nat := 0x500501 + 2048 * i
def prpDITHER_FREQ (i : Nat) : Nat := 0x500502 + 2048 * i
def prpDITHER_AMP (i : Nat) : Nat := 0x500503 + 2048 * i
def prpCUR_KP (i : Nat) : Nat := 0x500504 + 2048 * i
def prpCUR_KI (i : Nat) : Nat := 0x500505 + 2048 * i

/-! Group bdg (R310, spec/09_actuator_diagnostics.md). -/
def bdgDIAG_ENABLE (i : Nat) : Nat := 0x500601 + 2048 * i
def bdgOFF_PERIOD (i : Nat) : Nat := 0x500602 + 2048 * i
def bdgI_OPEN (i : Nat) : Nat := 0x500603 + 2048 * i
def bdgT_OPEN_CHK (i : Nat) : Nat := 0x500604 + 2048 * i
def bdgI_OC (i : Nat) : Nat := 0x500605 + 2048 * i
def bdgV_DESAT (i : Nat) : Nat := 0x500606 + 2048 * i
def bdgRAIL_RISE (i : Nat) : Nat := 0x500607 + 2048 * i
def bdgCONFIRM_N (i : Nat) : Nat := 0x500608 + 2048 * i
def bdgBANK_FAULT (i : Nat) : Nat := 0x500609 + 2048 * i
def bdgBANK_DIAG_CLEAR (i : Nat) : Nat := 0x50060A + 2048 * i
def bdgCAL_INSERT (i : Nat) : Nat := 0x50060B + 2048 * i
def bdgROUND_AGE (i : Nat) : Nat := 0x50060C + 2048 * i
def bdgBANK_FAULTS (i : Nat) : Nat := 0x50060D + 2048 * i

/-! Group bcd (R311, spec/09_actuator_diagnostics.md). -/
def bcdCD_START (i : Nat) : Nat := 0x500701 + 2048 * i
def bcdCD_LEN (i : Nat) : Nat := 0x500702 + 2048 * i
def bcdCD_SPAN (i : Nat) : Nat := 0x500703 + 2048 * i
def bcdCD_THRESH (i : Nat) : Nat := 0x500704 + 2048 * i
def bcdCD_POLARITY (i : Nat) : Nat := 0x500705 + 2048 * i

/-! Group ch (R286, spec/08_actuation.md). -/
def chEV_PERIOD (i : Nat) : Nat := 0x540001 + 768 * i
def chEV_PHASE (i : Nat) : Nat := 0x540002 + 768 * i
def chEV_OFFSET (i : Nat) : Nat := 0x540003 + 768 * i
def chT_FULL (i : Nat) : Nat := 0x540004 + 768 * i
def chEV_MIN (i : Nat) : Nat := 0x540005 + 768 * i
def chMAX_ON (i : Nat) : Nat := 0x540006 + 768 * i
def chEV_DEADLINE (i : Nat) : Nat := 0x540007 + 768 * i
def chMERGE_MODE (i : Nat) : Nat := 0x540008 + 768 * i
def chMERGE_WIN (i : Nat) : Nat := 0x540009 + 768 * i
def chI_FULL (i : Nat) : Nat := 0x54000A + 768 * i
def chCOIL_RES_REF (i : Nat) : Nat := 0x54000B + 768 * i
def chCOIL_T_REF (i : Nat) : Nat := 0x54000C + 768 * i
def chT_COLD (i : Nat) : Nat := 0x54000D + 768 * i
def chT_HOT (i : Nat) : Nat := 0x54000E + 768 * i
def chTEST_PULSE (i : Nat) : Nat := 0x54000F + 768 * i
def chTEST_RESULT (i : Nat) : Nat := 0x540010 + 768 * i

/-! Group chs (R288, spec/08_actuation.md). -/
def chsCH_STATE (i : Nat) : Nat := 0x540101 + 768 * i
def chsVARIANT (i : Nat) : Nat := 0x540102 + 768 * i
def chsCOIL_T (i : Nat) : Nat := 0x540103 + 768 * i
def chsCOIL_RES (i : Nat) : Nat := 0x540104 + 768 * i
def chsLAST_START (i : Nat) : Nat := 0x540105 + 768 * i
def chsLAST_ON (i : Nat) : Nat := 0x540106 + 768 * i
def chsCARRY (i : Nat) : Nat := 0x540107 + 768 * i
def chsI_SET (i : Nat) : Nat := 0x540108 + 768 * i
def chsI_AVG (i : Nat) : Nat := 0x540109 + 768 * i
def chsDUTY (i : Nat) : Nat := 0x54010A + 768 * i
def chsEVENTS (i : Nat) : Nat := 0x54010B + 768 * i
def chsBANK_OVERLAP (i : Nat) : Nat := 0x54010C + 768 * i
def chsMERGES (i : Nat) : Nat := 0x54010D + 768 * i
def chsRESTARTS (i : Nat) : Nat := 0x54010E + 768 * i
def chsBOOST_TIMEOUT (i : Nat) : Nat := 0x54010F + 768 * i
def chsMAX_ON_CUT (i : Nat) : Nat := 0x540110 + 768 * i
def chsDUTY_SAT (i : Nat) : Nat := 0x540111 + 768 * i

/-! Group chd (R312, spec/09_actuator_diagnostics.md). -/
def chdCH_FAULT (i : Nat) : Nat := 0x540201 + 768 * i
def chdDIAG_CLEAR (i : Nat) : Nat := 0x540202 + 768 * i
def chdLAST_OFF (i : Nat) : Nat := 0x540203 + 768 * i
def chdLAST_OFF_TIME (i : Nat) : Nat := 0x540204 + 768 * i
def chdCD_ENABLE (i : Nat) : Nat := 0x540205 + 768 * i
def chdCLOSE_DELAY (i : Nat) : Nat := 0x540206 + 768 * i
def chdCD_DETECT (i : Nat) : Nat := 0x540207 + 768 * i
def chdCD_MISS (i : Nat) : Nat := 0x540208 + 768 * i
def chdCD_CUT (i : Nat) : Nat := 0x540209 + 768 * i
def chdOVERCURRENT (i : Nat) : Nat := 0x54020A + 768 * i
def chdCS_OFFSET (i : Nat) : Nat := 0x54020B + 768 * i
def chdCS_GAIN (i : Nat) : Nat := 0x54020C + 768 * i
def chdDS_OFFSET (i : Nat) : Nat := 0x54020D + 768 * i
def chdDS_GAIN (i : Nat) : Nat := 0x54020E + 768 * i
def chdCAL_OVERDUE (i : Nat) : Nat := 0x54020F + 768 * i
def chdCAL_TIME (i : Nat) : Nat := 0x540210 + 768 * i
def chdFAULTS (i : Nat) : Nat := 0x540211 + 768 * i

/-! Group dbg (R591, spec/19_reset_lifecycle_debug.md). -/
def dbgHALT_PIPES : Nat := 0x600001
def dbgHALT_STATIONS : Nat := 0x600002
def dbgHALT_ZONES : Nat := 0x600003
def dbgLIVE_ACT : Nat := 0x600004
def dbgSTEP_PIPES : Nat := 0x600005
def dbgSTEP_STATIONS : Nat := 0x600006
def dbgSTEP_TICK : Nat := 0x600007
def dbgSTEP_RESULT : Nat := 0x600008
def dbgHALTED_PIPES : Nat := 0x600009
def dbgHALTED_STATIONS : Nat := 0x60000A
def dbgZONES_HALTED : Nat := 0x60000B
def dbgDEBUG_RESET : Nat := 0x60000C
def dbgDBG_LOCK : Nat := 0x60000D
def dbgDBG_RELOCK : Nat := 0x60000E
def dbgUNLOCK_FAILS : Nat := 0x60000F

/-! Group bp (R592, spec/19_reset_lifecycle_debug.md). -/
def bpBP_KIND (i : Nat) : Nat := 0x601001 + 256 * i
def bpBP_UNIT (i : Nat) : Nat := 0x601002 + 256 * i
def bpBP_SUB (i : Nat) : Nat := 0x601003 + 256 * i
def bpBP_X (i : Nat) : Nat := 0x601004 + 256 * i
def bpBP_Y (i : Nat) : Nat := 0x601005 + 256 * i
def bpBP_CMP (i : Nat) : Nat := 0x601006 + 256 * i
def bpBP_VALUE (i : Nat) : Nat := 0x601007 + 256 * i
def bpBP_HALT_PIPES (i : Nat) : Nat := 0x601008 + 256 * i
def bpBP_HALT_ST (i : Nat) : Nat := 0x601009 + 256 * i
def bpBP_HALT_ZONES (i : Nat) : Nat := 0x60100A + 256 * i
def bpBP_ONESHOT (i : Nat) : Nat := 0x60100B + 256 * i
def bpBP_HITS (i : Nat) : Nat := 0x60100C + 256 * i
def bpBP_LAST (i : Nat) : Nat := 0x60100D + 256 * i

end Sys2Proof.Machine.Reg
end

