-- ==== Sys2Proof/Machine/State.lean ====
section
/-! DEFINITION. The state of the block: the register file of the object dictionary, the engines' state that no object shows, the
storage, and the queue of waiting commands. -/

namespace Sys2Proof.Machine

/-- The faults of the block. -/
inductive Fault where
  /-- Raised by no command: every rule of the manual that stops a part of the device names the state it leaves (safe). -/
  | stopped
  deriving DecidableEq, Repr

/-- The refusals of the block. -/
inductive Refusal where
  /-- Raised by an arm of exec whose command has no meaning yet (safe). -/
  | notModelled (mnemonic : String)
  deriving DecidableEq, Repr

/-! Time (R14, R417, R420). -/

/-- The ring time counter in 1/16 ns, the device's own monotone time in ns, and the correction still to be made. -/
structure Clk where
  ring16 : Nat := 0
  up : Nat := 0
  /-- Offset still to be removed, 1/16 ns. -/
  slew : Int := 0
  /-- True while the counter runs at half rate, false while it is trimmed by 100 ppm. -/
  half : Bool := false
  /-- Part of the next 1/16 ns that the trim has come to, in 1/10,000 of it (R420). -/
  trim : Nat := 0
  /-- Consecutive syncs within 50 ns. -/
  good : Nat := 0
  /-- Own time of the last valid TIME_SYNC. -/
  lastSync : Nat := 0
  deriving DecidableEq, Repr

/-! Events, actions and transfers (R437-R457). -/

/-- A logged event (R456). -/
structure Evt where
  seq : Nat
  code : Nat
  inst : Nat
  data : Nat
  repeats : Nat
  time : Nat
  deriving DecidableEq, Repr

/-- The hold-off state of one CODE and INSTANCE: own time of the last logged one and the merges since (R457). -/
structure Hold where
  at_ : Nat
  merged : Nat
  deriving DecidableEq, Repr

/-- A token of the newest 64 (R451). -/
structure Tok where
  tok : Nat
  key : Nat
  src : Nat
  done : Bool
  deriving DecidableEq, Repr

/-- The newest request of an ACT object (R449, R450). -/
structure ActReq where
  tok : Nat := 0
  busy : Bool := false
  src : Nat := 0
  /-- Its place among the accepted requests (R450: the newest). -/
  order : Nat := 0
  deriving DecidableEq, Repr

/-- A kept response (R440). -/
structure Kept where
  src : Nat
  req : Nat
  at_ : Nat
  payload : Bytes
  deriving DecidableEq, Repr

/-- An open block or range write (R446, R447). -/
structure Xfer where
  src : Nat
  xfer : Nat
  op : Nat
  sub : Nat
  index : Nat
  count : Nat
  offset : Nat
  length : Nat
  epoch : Nat
  last : Nat
  segs : List (Nat × Bytes)
  deriving DecidableEq, Repr

/-- The outcome of the newest access made by a command: status and token (R436, R448). -/
structure Rsp where
  status : Nat := 0
  token : Nat := 0
  data : Bytes := []
  deriving DecidableEq, Repr

/-- The object dictionary's own state. -/
structure Od where
  log : List Evt := []
  holds : List (Nat × Hold) := []
  tokens : List Tok := []
  acts : List (Nat × ActReq) := []
  /-- How many requests have been accepted since the wiping reset. -/
  reqN : Nat := 0
  kept : List Kept := []
  xfers : List Xfer := []
  rsp : Rsp := {}
  /-- Last sequence number of a CYCLIC frame processed for input maps, by INFO (R452). -/
  cycSeen : List (Nat × Option Nat) := []
  deriving DecidableEq, Repr

/-! Tally (R462-R474). -/

/-- A journal entry (R464). -/
structure TEntry where
  seq : Nat
  epoch : Nat
  src : Nat
  kind : Nat
  index : Nat
  sub : Nat
  result : Nat
  token : Nat
  value : Nat
  time : Nat
  deriving DecidableEq, Repr

/-- The empty slot. -/
def TEntry.empty : TEntry := ⟨0, 0, 0, 0, 0, 0, 0, 0, 0, 0⟩

/-- The journal's state beside its registers. -/
structure Tally where
  slots : List (Nat × TEntry) := []
  /-- Entries waiting for a sequence number (R468), oldest first. -/
  held : List TEntry := []
  /-- Entries not yet mirrored, oldest first, with the own time they were made. -/
  waiting : List (Nat × TEntry) := []
  /-- The newest mirror page's entries while it has fewer than 7 (R471). -/
  open_ : List TEntry := []
  pageGen : Nat := 0
  lastMirror : Option Nat := none
  /-- Whether a new HWM is being stored (R466), and the OVERRUN entry that is owed (R468). -/
  hwmBusy : Bool := false
  owed : Nat := 0
  /-- Is START still to come (R467)? Until it is made, entries wait behind it. -/
  awaits : Bool := true
  deriving DecidableEq, Repr

/-! Non-volatile storage (R535-R549). -/

/-- One operation of the NVM controller: a page write, or the program of one cell (R535). -/
inductive NvmOp where
  | page (n : Nat) (data : Bytes)
  | cell (n : Nat) (bits : List Nat)
  deriving DecidableEq, Repr

/-- What a finished NVM job brings about. -/
inductive NvmDone where
  | none
  | hwm (v : Nat)
  | epoch (v : Nat)
  | spreadStep (c : Nat)
  | rollShadow (c gen : Nat)
  | rollStep (c gen : Nat)
  | rollDone (c gen : Nat)
  | mirror (seq : Nat)
  | lcPart
  | lcDone
  deriving DecidableEq, Repr

/-- A job: its class (R537), the record it stores (0 none) with the data while no bank has taken the write up, the operations left, in
order, and what its end brings about. -/
structure NvmJob where
  cls : Nat
  rec_ : Nat
  data : Option Bytes := none
  ops : List NvmOp
  fin : List NvmDone
  deriving DecidableEq, Repr

/-- A spread counter (R545, R546). -/
structure Spread where
  base : Nat := 0
  gen : Nat := 0
  cleared : Nat := 0
  cells : Nat := 0
  /-- Increments that wait for a roll-over. -/
  wait : Nat := 0
  rolling : Bool := false
  deriving DecidableEq, Repr

/-- The NVM: 512 KiB of cells, the operation each bank runs, and the queue. -/
structure Nvm where
  cells : List Host.Cell := []
  cur : List (Nat × Option NvmJob) := []
  queue : List NvmJob := []
  spread : List (Nat × Spread) := []
  recSeq : List (Nat × Nat) := []
  intentSeq : Nat := 0
  deriving DecidableEq, Repr

/-! Boot flash (R550-R559). -/

/-- What a flash job is for. -/
inductive FlashFor where
  | configA | configB | clearA | clearB | repair
  | table (t : Nat)
  | lifeCycle
  deriving DecidableEq, Repr

/-- A flash operation: an erase of n 64 KiB blocks or the program of one part within a page. -/
inductive FlashOp where
  | erase (addr : Nat)
  | program (addr : Nat) (data : Bytes)
  deriving DecidableEq, Repr

/-- A flash job: operations in order. -/
structure FlashJob where
  for_ : FlashFor
  ops : List FlashOp
  deriving DecidableEq, Repr

/-- The boot flash and the port that drives it (R553), and the shift engine (R555). -/
structure Flash where
  cells : List Host.Cell := []
  jobs : List FlashJob := []
  /-- Own time at which the polled operation began; none while nothing is polled. -/
  pollSince : Option Nat := none
  /-- Bits of the running shift: count given and the transmitted value; none when idle. -/
  shift : Option (Nat × Nat) := none
  /-- Own time from which the running shift's clocks count. -/
  shiftAt : Nat := 0
  /-- FLASH_DIV in use since the wiping reset (R561). -/
  div : Nat := 8
  /-- The command of window reads that FLASH_READ selects, and its dummy clocks, in use since the wiping reset (R550, R552, R561). -/
  cmd : Nat := 0x0C
  dummy : Nat := 8
  /-- Own time at which the host's select was asserted. -/
  selSince : Option Nat := none
  /-- STORE_SEQ of each table (R559). -/
  storeSeq : List (Nat × Nat) := []
  deriving DecidableEq, Repr

/-! Reset, start-up, life cycle and debug (R564-R593). -/

/-- What the factory and the protected store hold (R538 pages 0-7, R62, R576, R577). -/
structure Fac where
  serial : Bytes := List.replicate 12 0x30
  lifeCycle : Nat := 0
  wipePending : Bool := false
  kFleet : List (Nat × Bytes) := [(0, List.replicate 32 0)]
  ownerKey : Option Bytes := none
  transitions : Nat := 0
  deriving DecidableEq, Repr

/-- The always-on retention register (R568, R528, R579). -/
structure Retain where
  cause : Nat := 1
  boots : Nat := 1
  watchdogs : Nat := 0
  unlockFails : Nat := 0
  cutoffs : Nat := 0
  /-- A cut-off whose recovery event is still to be raised (R528). -/
  cutoffOwed : Bool := false
  deriving DecidableEq, Repr

/-- The debug port's registers (R578-R581). -/
structure Tap where
  ir : Nat := 0x01
  bypass : Bool := false
  pins : List Bool := []
  update : List Bool := []
  floating : Bool := false
  /-- OP, SUB, INDEX and LENGTH of DBG_OBJ as last shifted in (R580). -/
  objOp : Nat := 0
  objSub : Nat := 0
  objIndex : Nat := 0
  objLength : Nat := 0
  objStatus : Nat := 0xFF
  objToken : Nat := 0
  objOffset : Nat := 0
  objData : Nat := 0
  /-- OP, AUTOINC and SPACE of DBG_MEM as last shifted in (R581). -/
  memOp : Nat := 0
  memInc : Bool := false
  memSpace : Nat := 0
  memStatus : Nat := 0xFF
  memAddr : Nat := 0
  memData : Nat := 0
  dr : Nat := 0
  challenge : Bytes := []
  unlocked : Bool := false
  /-- Own time at which a lockout ends. -/
  lockout : Option Nat := none
  /-- The 64 KiB staging buffer. -/
  staging : List Host.Cell := []
  deriving DecidableEq, Repr

/-- Start-up and the halts. -/
structure Boot where
  /-- Boot status of DBG_STATUS (R578). -/
  status : Nat := 1
  /-- Own time of the reset's release; none while the reset is asserted. -/
  released : Option Nat := none
  /-- Own time at which NVM recovery began, the end of step 1 (R560, R570). -/
  recoverAt : Nat := 0
  /-- Own time since which the supplies of R564 have been above their thresholds (R565). -/
  supplyAt : Nat := 0
  /-- Own time at which the DRAM wipe began, and the events that recovery raised, logged when the firmware starts (R548). -/
  wipeAt : Nat := 0
  owed : List (Nat × Nat × Nat) := []
  wdArmed : Bool := false
  wdLast : Nat := 0
  /-- Own time of step 8 and of step 10 (R572). -/
  standbyAt : Nat := 0
  readyAt : Nat := 0
  waitRaised : Bool := false
  /-- BOOT_TARGET reached. -/
  arrived : Bool := false
  /-- One-shot steps granted (R585): pipelines, frames left per station and head, and a tick. -/
  stepPipes : Nat := 0
  stepStations : List (Nat × Nat) := []
  /-- Heads whose open frame a stepped station accepts, and heads whose open frames a halt of a station waits for (R583, R585). -/
  stepping : List (Nat × Nat) := []
  stHalting : List (Nat × Option Nat) := []
  stepTick : Bool := false
  deriving DecidableEq, Repr

/-! Redundant pair (R475-R504). -/

/-- The content of a partner message the device sends (R480). -/
inductive PMsg where
  | heartbeat (p : HeadPkt)
  | demands (epoch tick : Nat) (zs : List (Nat × Nat))
  | objFwd (epoch src key token : Nat) (data : Bytes)
  | armedSet (epoch : Nat) (i : SetIn)
  | offsets (epoch head tag : Nat) (part : OffsPart)
  | diagState (epoch : Nat) (chs banks : List DiagEntry)
  | candidate (epoch : Nat) (vals : List (Nat × Nat))
  | verdict (epoch code : Nat)
  | configSync (epoch : Nat) (vals : List (Nat × Nat)) (blocks : List (Nat × Bytes)) (sets : List SetIn)
  deriving DecidableEq, Repr

/-- TYPE of a partner message (R480). -/
def PMsg.type : PMsg → Nat
  | .heartbeat _ => 0xA1
  | .demands .. => 0xA2
  | .objFwd .. => 0xA3
  | .armedSet .. => 0xA4
  | .offsets .. => 0xA5
  | .diagState .. => 0xA6
  | .candidate .. => 0xA7
  | .verdict .. => 0xA8
  | .configSync .. => 0xA9

/-- A partner message that left during the newest command (R479): the partner lane it left on, TYPE and SEQ of its header, its content. -/
structure PartnerOut where
  lane : Nat
  ty : Nat
  seq : Nat
  msg : PMsg
  deriving DecidableEq, Repr

/-- What waits for the epoch record to be stored (R483, R488). -/
inductive EpochFor where
  | adopt
  | claim
  deriving DecidableEq, Repr

/-- The pair logic beside its registers. -/
structure Pair where
  /-- PAIR_MODE as it took effect at the last wiping reset (R501). -/
  mode : Bool := false
  claiming : Bool := false
  toggling : Bool := false
  authority : Bool := true
  claimSince : Nat := 0
  edges : List Nat := []
  lastHb : Option Nat := none
  peer : HeartbeatIn := ⟨0, 0, 0, 0, 0, []⟩
  peerEpoch : Nat := 0
  leaseEnd : Option Nat := none
  handoverEpoch : Nat := 0
  /-- 0 none, 1 accepted, waiting for the tick, 2 waiting for decay, 3 yielded. -/
  handover : Nat := 0
  storing : Option (Nat × EpochFor) := none
  /-- Right to claim: the epoch it gives (R488). -/
  right : Option Nat := none
  /-- The claim or the authority rests on a grant, not on the partner's YIELD (R487). -/
  granted : Bool := false
  /-- The epoch of a claim that collided, which the next one keeps (R489). -/
  again : Option Nat := none
  backoffEnd : Option Nat := none
  refreshed : Nat := 0
  /-- A lease expiry in progress: the safe tick runs (R493). -/
  leaseSafe : Nat := 0
  demotedSinceLapse : Bool := false
  lastHbTx : Nat := 0
  lineFault : Bool := false
  /-- PEER_LOST has been raised for the state the pair is in (R492). -/
  lostSaid : Bool := false
  /-- CONFIG_SYNC applied since the connection came up. -/
  synced : Bool := false
  /-- SEQ of the next partner message (R37). -/
  txSeq : Nat := 0
  deriving DecidableEq, Repr

/-! Power, clocks and thermal (R505-R534). -/

/-- Power management beside its registers. -/
structure Pwr where
  /-- Own time at which the newest domain switch closed, and its domain until it is usable, 20 us later (R506). -/
  switchAt : Nat := 0
  closing : Option Nat := none
  /-- Fast clocks that run (R509, R513): [0] pipeline PLL, [1] DRAM PHY PLLs, [2] web and zone clock, [3] non-ring lane PLLs. -/
  fast : Nat := 0
  /-- The management controller runs on the internal 100 MHz oscillator, the always-on block on the internal 32 kHz one (R514). -/
  intSys : Bool := false
  intCrystal : Bool := false
  /-- The newest housekeeping round: its t0 is this multiple of 10,000,000 ns of ring time (R515). -/
  roundNo : Option Nat := none
  bandSince : Nat := 0
  coolSince : Option Nat := none
  ladderAt : Option Nat := none
  undoAt : Option Nat := none
  safe : Bool := false
  safeCool : Option Nat := none
  faultRounds : List (Nat × Nat) := []
  cutoff : Bool := false
  recoverSince : Option Nat := none
  stopAt : Option Nat := none
  stopOver : Bool := false
  calLeft : List Nat := []
  /-- Trims of TS0-TS15 as differences from the factory trims, 0.1 degC (R530). -/
  trims : List (Nat × Int) := []
  /-- State a STATE_REQ or the start-up is on its way to (R511). -/
  target : Option Nat := none
  /-- Frame interval cap in force, ns; 0 none (R519). -/
  cap : Nat := 0
  /-- Streams that the ladder has downgraded, with the format they ran in before (R519, R521). -/
  eased : List (Nat × Nat) := []
  deriving DecidableEq, Repr

/-! Ring (R399-R424). -/

/-- A frame of the device's own that waits to be inserted (R408): the port it is meant for, none where the device may choose, and the
time of its SOP at the balls should it leave without being held up, 1/16 ns. -/
structure TxFrame where
  ty : Nat
  dst : Nat
  seq : Nat
  epoch : Nat
  info : Nat
  payload : Bytes
  via : Option Nat := none
  sop : Option Nat := none
  deriving DecidableEq, Repr

/-- A frame that left during the newest command: the port it left through (0 east, 1 west) and the frame. -/
structure RingOut where
  port : Nat
  frame : RingFrame
  deriving DecidableEq, Repr

/-- One port's state. -/
structure Port where
  /-- A wrap in force at this port (R409); a port is wrapped until it unwraps under R411. -/
  wrapped : Bool := true
  /-- The lanes of the port are deskewed, as the newest symbols on them showed (R400). -/
  deskewed : Bool := true
  unwrapAt : Nat := 0
  nbrUp : Bool := false
  nbrUnwrap : Nat := 0
  /-- Own time of the last valid RING_STATUS. -/
  lastStatus : Option Nat := none
  /-- Twice the last 8 valid values of D, 1/16 ns, newest first (R418). -/
  delays : List Int := []
  /-- t1 of the DELAY_REQ that waits for its answer, 1/16 ns. -/
  t1 : Option Nat := none
  deriving DecidableEq, Repr

/-- The ring engine beside its registers. -/
structure Ring where
  ports : List (Nat × Port) := []
  txq : List TxFrame := []
  out : List RingOut := []
  seqs : List (Nat × Nat) := []
  seen : List (Nat × Option Nat) := []
  estops : List Nat := []
  /-- ESTOP_IDs that have been in use, the device's own among them (R422). -/
  estopUsed : List Nat := []
  joined : Bool := false
  lastMaster : Option Nat := none
  lastStatusTx : Nat := 0
  lastDelay : Nat := 0
  deriving DecidableEq, Repr

/-! Heads and their links (R34-R89). -/

/-- A command on its way to a head, or waiting for its turn (R49-R53). -/
structure HeadCmd where
  code : Nat
  args : Bytes
  req : Nat := 0
  sentAt : Nat := 0
  /-- Ring time of the command's SOP, 1/16 ns (R44). -/
  sent16 : Nat := 0
  tries : Nat := 0
  busy : Nat := 0
  /-- Own time at which a BUSY answer arrived; the command waits for its retry. -/
  waiting : Option Nat := none
  /-- It belongs to a write-back that has been abandoned: it is not sent again, and its answer is nobody's (R73). -/
  void : Bool := false
  deriving DecidableEq, Repr

/-- A packet the device sent to a head with the newest command. -/
structure HeadOut where
  head : Nat
  pkt : HeadPkt
  ty : Nat
  deriving DecidableEq, Repr

/-- One answered probe: ring time of the command's arrival at the head, ns, and the head's time, ns (R44). -/
structure Probe where
  ring : Rat
  head : Int
  deriving DecidableEq, Repr

/-- Life-record numbers: as read from the head, or increments not yet written (R58, R622). -/
structure Life where
  seq : Nat := 0
  shutter : Nat := 0
  window : Nat := 0
  stream : Nat := 0
  wT : Nat := 0
  fails : Nat := 0
  runs : Nat := 0
  deriving DecidableEq, Repr

/-- A write-back of offsets to the head (R72, R73). -/
structure WriteBack where
  slot : Nat
  setSeq : Nat
  offs : Bytes
  sent : Nat
  /-- 0 TABLE_WRITE outstanding, 1 sending data, 2 TABLE_COMMIT outstanding. -/
  stage : Nat
  lastAt : Nat
  deriving DecidableEq, Repr

/-- The link engine of one head lane beside its registers. -/
structure Head where
  rxSeq : Option Nat := none
  txSeq : Nat := 0
  cmd : Option HeadCmd := none
  queue : List HeadCmd := []
  reqId : Nat := 0
  probes : List Probe := []
  firstDelay : Option Rat := none
  /-- BIAS has been written or loaded (R87). -/
  biasSet : Bool := false
  timeErr : Bool := false
  timeGood : Nat := 0
  lastProbe : Nat := 0
  session : Bool := false
  nD : Bytes := []
  authFails : Nat := 0
  authRetryAt : Option Nat := none
  /-- Attach step in progress (R65); 0 none. -/
  step : Nat := 0
  abbrev_ : Bool := false
  fails : Nat := 0
  retryAt : Option Nat := none
  ident : Bytes := []
  /-- SERIAL and FACT_CRC of the last full attach since the wiping reset (R69). -/
  lastFull : Option (Bytes × Nat) := none
  life : Life := {}
  owed : Life := {}
  owedSerial : Bytes := []
  /-- Increments not yet written of heads that have left the lane, by SERIAL (R622). -/
  parked : List (Bytes × Life) := []
  /-- SERIAL of the binding that a REBIND without a head cleared (R74, R75). -/
  unbound : Bytes := []
  up : Bytes := []
  tableTries : Nat := 0
  /-- Headers of the working set as the head last delivered it: SET_SEQ and slot parity. -/
  setSeq : Nat := 0
  wb : Option WriteBack := none
  deriving DecidableEq, Repr

/-- More of the link engine: frame reception and the minute (R59, R77-R83). -/
structure HeadRx where
  /-- Own time and interval of the last SOF, and FRAME_LATE intervals raised since. -/
  sofAt : Option Nat := none
  interval : Nat := 0
  late : Nat := 0
  frameCnt : Option Nat := none
  lastTag : Nat := 0
  /-- First SETTINGS since the lane trained is still to be sent; WIDTH, HEIGHT and codes the head last applied (R78). -/
  fresh : Bool := true
  applied : Option (Nat × Nat × Bytes) := none
  /-- WINDOW_T in use (R146): the life record's until the first STATUS reply in STREAMING. -/
  wT : Nat := 0
  /-- The attach set still has to take its SUB_REF from the first accepted SOF under tag 0x0000 (R168). -/
  subDue : Bool := false
  /-- The next attach sends SHUTTER open first (R177). -/
  openDue : Bool := false
  minuteAt : Nat := 0
  winSum : Int := 0
  winN : Nat := 0
  minutes : Nat := 0
  /-- Consecutive open-shutter frames in which a column read 0 in more than 1 % of its pixels (R77). -/
  zeroRuns : List (Nat × Nat) := []
  /-- Zero counts of the open frame's columns. -/
  zeros : List (Nat × Nat) := []
  /-- Command refused for a stale epoch, to be sent again once the epoch is raised (R486). -/
  stale : Option HeadCmd := none
  staleSettings : Bool := false
  /-- First records of blocks that are to be rebuilt, and rebuilt records that wait
  for a frame boundary (R357). -/
  rebuild : List Nat := []
  /-- First records of blocks lost while the head's working set was older than the segment: their pixels stay missing until a Fold run
  measures them (R357). -/
  foldOnly : List Nat := []
  rebuilt : List (Nat × Nat) := []
  /-- After an aborted run: frames stay under R171 until one reports the shutter open. -/
  dark : Bool := false
  /-- The shutter has been found not open: SHUTTER open is repeated (R179), and own time of the last try. -/
  reopen : Bool := false
  reopenAt : Nat := 0
  /-- WINDOW_TEMP of the newest SOF, 0.01 degC (R164). -/
  winT : Int := 0
  /-- The STATUS of HEAD_SILENT is outstanding (R83). -/
  silent : Bool := false
  deriving DecidableEq, Repr

/-! Pipelines (R90-R157). -/

/-- A PATCH entry (R130). -/
structure Patch where
  index : Nat
  mask : Nat
  record : Nat
  deriving DecidableEq, Repr

/-- Why a set was armed. -/
inductive SetKind where
  | attach | host | fold | skim | tau | cap | abbrev_
  deriving DecidableEq, Repr

/-- A parameter set (R113, R115, R144): tag, values keyed 256 * k + subindex of the objects 0x3000 + k, skim codes, SUB_REF, the
coefficient changes, the bound table slots in the layout of BOUND_SLOTS, and when it was armed. -/
structure PSet where
  tag : Nat
  kind : SetKind
  vals : List (Nat × Nat)
  skim : Bytes
  subRef : Int
  patches : List Patch := []
  offsets : Bool := false
  taus : List (Nat × Nat) := []
  slots : Nat := 0
  armedAt : Nat := 0
  deriving DecidableEq, Repr

/-- A pixel between stages 2 and 3: value in 1/16 count, raw count, effective class, conditions and record; gone while the frame
gives it no count (padded, head-invalid or in a line with a readout error). -/
structure Px where
  v : Int
  raw : Nat
  cls : Nat
  sat : Bool
  clip : Bool
  record : Nat
  gone : Bool
  deriving DecidableEq, Repr

/-- A line that waits for its coefficient records: number, pixel words (none when padded), flags. -/
structure BufLine where
  no : Nat
  px : Option (List Nat)
  flags : Nat
  deriving DecidableEq, Repr

/-- A breakpoint's definition: its number, what it compares, and what it halts (R586, R592). -/
structure Bp where
  k : Nat
  x : Nat
  y : Nat
  cmp : Nat
  value : Nat
  pipes : Nat
  st : Nat
  zones : Bool
  oneshot : Bool
  deriving DecidableEq, Repr

/-- The open frame of a pipeline. -/
structure Frame where
  /-- The head's histories were shed as the frame began (R319). -/
  noHist : Bool := false
  /-- Pixel breakpoints of the head as they stood at the SOF (R592). -/
  bps : List Bp := []
  cnt : Nat
  tag : Nat
  set : PSet
  /-- Own time of SOF arrival. -/
  at_ : Nat
  /-- Ring time of line 0, ns (R44). -/
  t0 : Nat
  row : Nat
  interval : Nat
  width : Nat
  height : Nat
  /-- Substrate deviation used, 0.01 K, after the clamp (R96). -/
  dT : Int
  substrate : Int
  winT : Int
  shutter : Nat
  next : Nat := 0
  fetched : Nat := 0
  buf : List BufLine := []
  l1 : Option (Nat × List Px) := none
  l0 : Option (Nat × List Px) := none
  padded : Nat := 0
  degraded : Bool := false
  cut : Bool := false
  incoherent : Bool := false
  driftRange : Bool := false
  restarted : Bool := false
  switching : Bool := false
  /-- Handled under R171: exported only. -/
  dark : Bool := false
  /-- Part the frame plays in a Fold run: 0 none, 2 settling, 3 skimming, 4 measuring (R169); and its place 1-3 after F, 0 when it
  is none of F+1 to F+3 (R142). -/
  role : Nat := 0
  tauK : Nat := 0
  /-- Flags of R80 by line: 1 padded, 2 cut to W. -/
  lflags : List (Nat × Nat) := []
  deriving DecidableEq, Repr

/-- The per-frame constants of stages 4 and 5 (R140, R146). -/
structure FrameK where
  dt : Nat := 0
  tw : Rat := 1
  lWin : Rat := 0
  lAmb : Rat := 0
  deriving DecidableEq, Repr

/-- The open statistics window (R123-R127). -/
structure StatWin where
  tag : Nat
  first : Nat
  frames : Nat
  t0 : Nat
  t1 : Nat
  sum : Nat
  sum2 : Nat
  n : Nat
  lo : Nat
  hi : Nat
  repl : Nat
  sat : Nat
  miss : Nat
  deriving DecidableEq, Repr

/-- The samples of one frame, added to the window when the frame closes. -/
structure StatFrame where
  sum : Nat := 0
  sum2 : Nat := 0
  n : Nat := 0
  lo : Nat := 65535
  hi : Nat := 0
  repl : Nat := 0
  sat : Nat := 0
  miss : Nat := 0
  deriving DecidableEq, Repr

/-- A pipeline beside its registers. -/
structure Pipe where
  cur : Option PSet := none
  armed : Option PSet := none
  frame : Option Frame := none
  k : FrameK := {}
  stat : Option StatWin := none
  sf : StatFrame := {}
  /-- TIMESTAMP, ns, and ROW_PERIOD of the previous accepted frame (R140), and whether no frame has been accepted since the head
  entered STREAMING (R141). -/
  prev : Option (Nat × Nat) := none
  first : Bool := true
  /-- FRAME_CNT and flags of the newest closed frame (R80): 1 short, 2 broken, 4 cut as long; and its line flags. -/
  last : Option (Nat × Nat × List (Nat × Nat)) := none
  /-- The station refuses the lines the present LINE packet delivers (R23). -/
  refuse : Bool := false
  /-- Δt and SHARP_GAIN_MAX of the sharpening table in use. -/
  table : Option (Nat × Nat) := none
  /-- Internal commits that wait for a frame boundary (R115, R519): kind. -/
  waiting : List SetKind := []
  /-- Pool copy (R324): 0 none, 1 running, 2 done and switching at the next SOF, 3 stopped by a switching frame; and the interval the
  head's host last committed (R521). -/
  copying : Nat := 0
  hostInterval : Option Nat := none
  driftAt : Option Nat := none
  /-- Results of windows that closed while a read of the statistics was on its way, oldest first (R126). -/
  statWait : List (List (Nat × Nat)) := []
  deriving DecidableEq, Repr

/-! Fold runs (R164-R182). -/

/-- A run in progress. -/
structure Fold where
  cause : Nat
  /-- FOLD_SETTLE, FOLD_FRAMES, FOLD_SIGMA_MAX, FOLD_STAB_MAX, FOLD_SUB_SPAN and FOLD_DO_MAX as the run started (R183). -/
  par : List Nat
  /-- A FOLD_NOW request waits for the run's end. -/
  waits : Bool := false
  /-- Own time of the SHUTTER reply, frame count of F. -/
  replied : Option Nat := none
  first : Option Nat := none
  /-- Intervals, ns, of the frames after F that SETTLING has taken (R169, R170). -/
  settled : Nat := 0
  skips : Nat := 0
  passes : Nat := 0
  passN : Nat := 0
  passTag : Option Nat := none
  measTag : Option Nat := none
  n : Nat := 0
  subs : List Int := []
  wins : List Int := []
  /-- Column skim code changes of the run. -/
  dCode : List (Nat × Int) := []
  result : Nat := 0
  /-- Tag of the run's set, 0xFFFF none. -/
  tag : Nat := 0xFFFF
  newSub : Int := 0
  winRef : Int := 0
  /-- OPENING: the reply has come, and a frame with the shutter open has been accepted (R169). -/
  openReplied : Bool := false
  openSeen : Bool := false
  passed : Bool := false
  /-- LIFE_SEQ of the life record that CLOSING_OUT waits for (R169). -/
  lifeSeq : Option Nat := none
  deriving DecidableEq, Repr

/-- Fold's state between runs (R164-R167). -/
structure FoldSt where
  run : Option Fold := none
  /-- 0 none, 1 respecting the interval, 2 immediate; and whether FOLD_NOW waits for the run (R167). -/
  explicit_ : Nat := 0
  explicitWaits : Bool := false
  attachDue : Bool := false
  /-- A resumed run is due; one becomes due at the next attach (R177). -/
  resumeDue : Bool := false
  resumeNext : Bool := false
  lastEnd : Option Nat := none
  subs16 : List Int := []
  evalAt : Nat := 0
  refAt : Nat := 0
  confAt : Nat := 0
  deriving DecidableEq, Repr

/-- A pixel of a frame taken for a Fold run: record index, window column, raw count, c in 1/16 count, whether it carries none of the
Fold-disqualifying conditions, whether its effective class is good or noisy besides (R173), and whether the frame gives it no
count. -/
structure FoldPx where
  i : Nat
  col : Nat
  raw : Nat
  c : Int
  clean : Bool
  ok : Bool
  gone : Bool
  deriving DecidableEq, Repr

/-- A frame of the raw history or the frame store: its count, tag, and lines of 16-bit pixels, newest first. -/
structure StoredFrame where
  cnt : Nat
  tag : Nat
  lines : List (Nat × List Nat)
  deriving DecidableEq, Repr

/-- Per-pixel memories of the pipelines, keyed h * 524288 + record. -/
structure Pixels where
  /-- Coefficient records (R98). -/
  seg : List (Nat × Nat) := []
  /-- Sharpening state words (R136); unlisted ones hold 0x8000. -/
  sharp : List (Nat × Nat) := []
  /-- Proposals (R143); 0 none. -/
  prop : List (Nat × Nat) := []
  /-- Staged offsets of the armed set of a Fold run (R116), U16; 0x10000 none. -/
  stage : List (Nat × Nat) := []
  /-- Records that read uncorrectable (R357). -/
  bad : List (Nat × Bool) := []
  /-- Pixels of the open frame of a head, gathered for a Fold run, and the measurement frames taken so far, newest first. -/
  fr : List (Nat × List FoldPx) := []
  meas : List (Nat × List (List FoldPx)) := []
  /-- Stage-3 values of TAU_LEARN frames F+1, F+2 in 1/16 count (R142). -/
  tau1 : List (Nat × Option Int) := []
  tau2 : List (Nat × Option Int) := []
  /-- Raw counts per head and column, key h * 1024 + c, over the frames of a skimming pass (R76). -/
  skim : List (Nat × List Nat) := []
  /-- Records whose proposals the run has written into the buffer, by head (R143, R175). -/
  tauNew : List (Nat × List Nat) := []
  /-- Raw history (key 2 h) and corrected frame store (key 2 h + 1), newest frame first (R313). -/
  hist : List (Nat × List StoredFrame) := []
  /-- Persistent patch lists (R119). -/
  persist : List (Nat × List Patch) := []
  deriving DecidableEq, Repr

/-! Export (R386-R392). -/

/-- An export packet: stream, type, SEQ, INFO, payload words, and the lane of its group that a STRIPE must leave on. -/
structure XPkt where
  stream : Nat
  ty : Nat
  seq : Nat
  info : Nat
  words : List Nat
  lane : Option Nat := none
  deriving DecidableEq, Repr

/-- An open export frame: where it goes and how, and its status bits. -/
structure XFrame where
  group : Nat
  format : Nat
  truncated : Bool := false
  laneLoss : Bool := false
  padded : Bool := false
  deriving DecidableEq, Repr

/-- The export engines. -/
structure Export where
  queue : List (Nat × List XPkt) := []
  onLane : List (Nat × Option XPkt) := []
  frames : List (Nat × Option XFrame) := []
  seq : List (Nat × Nat) := []
  /-- Group and mask for which STRIPE was last sent, by stream. -/
  striped : List (Nat × Option (Nat × Nat)) := []
  /-- Lanes out of their stripe set after a loss: own time since UP again (R392). -/
  out : List (Nat × Bool) := []
  upSince : List (Nat × Nat) := []
  lastRate : List (Nat × Nat) := []
  deriving DecidableEq, Repr

/-! Shepherd (R313-R325). -/

/-- Where the outcome of a write goes: to the command that made it, into an OBJ_RSP or a BLOCK_RSP, to the debug port, or
nowhere. -/
inductive Reply where
  | own
  | obj (dst key req : Nat)
  | block (dst key xfer bytes crc : Nat)
  | debug
  | nobody
  deriving DecidableEq, Repr

/-- An admission event that waits for the partner's verdict (R317, R325): a write with its source, journal kind and values. -/
inductive PendOp where
  | write (src kind : Nat) (vals : List (Nat × Nat)) (reply : Reply)
  | commit (h : Nat)
  | attach (h : Nat)
  | restore (item : Nat)
  /-- Check 6 at the beginning of an item's hold (R323). -/
  | watch (item : Nat)
  /-- The input entries of one CYCLIC frame, as map, key and value (R453): those taken so far, and those left, of which the first waits. -/
  | cyc (o : Origin) (acc : List (Nat × Nat)) (left : List (Nat × Nat × Nat))
  deriving DecidableEq, Repr

/-- Shepherd's placement and its pending work. -/
structure Shep where
  /-- Heads with a placement and a budget share, bit h. -/
  admitted : Nat := 0
  /-- First pool slot of a head's segment; 8 when it lies in DRAM. -/
  segs : List (Nat × Nat) := []
  /-- First pool slot and slots of a station's band; (8, 0) when it lies in DRAM. -/
  bands : List (Nat × (Nat × Nat)) := []
  /-- Heads and stations whose shedding waits for the boundary of R319, as bits. -/
  hdPend : Nat := 0
  stPend : Nat := 0
  /-- Changes that wait, oldest first: the first one's candidate has been sent to the partner at its time, the others have not been
  evaluated (R324, R325). -/
  cands : List (Nat × PendOp) := []
  /-- Is the first of them before the partner? -/
  asked : Bool := false
  /-- Item being watched for a restore, and since when every check has passed (R323). -/
  watch : Option (Nat × Nat) := none
  /-- Own time of the newest refusal of a restore by the partner. -/
  refusedAt : Option Nat := none
  lastRestore : Option Nat := none
  mapTime : Nat := 0
  entries : Bytes := []
  deriving DecidableEq, Repr

/-! Memory (R331-R360). -/

/-- An error log entry (R360). -/
structure MemErr where
  time : Nat
  sub : Nat
  kind : Nat
  symbols : Nat
  source : Nat
  location : Nat
  deriving DecidableEq, Repr

/-- One subchannel's controller beside its registers. -/
structure SubCh where
  coolSince : Option Nat := none
  /-- Retrain: 0 none, 1 waiting, 2 running slices, 3 full training runs; slices done, and whether the RETRAIN action waits. -/
  retrain : Nat := 0
  slices : Nat := 0
  /-- Columns the slices have completed, and the settings in use: key 2 x byte lane + 1 for write (R349, R351, R352). -/
  sweeps : List LaneSweep := []
  eyes : List (Nat × Eye) := []
  action : Bool := false
  /-- A RETRAIN that was answered QUEUED: RETRAIN_RESULT gets the outcome of its retrain (R355). -/
  queued : Bool := false
  /-- Own times and symbol counts of recent corrections, own times of recent uncorrectable blocks (R351). -/
  ces : List (Nat × Nat) := []
  ues : List Nat := []
  /-- Own time of the last due refresh and the interval to the next (R346, R347); the request issued last (R343). -/
  refreshAt : Nat := 0
  interval : Nat := 3900
  issued : Option MemReq := none
  odecc : Nat := 0
  /-- Writes of corrected blocks that wait in SC4: block and own time of arrival (R356). -/
  fix : List (Nat × Nat) := []
  /-- Next block of the scrub pass (R358). -/
  scrubAt : Nat := 0
  deriving DecidableEq, Repr

/-- The memory subsystem. -/
structure Mem where
  subs : List (Nat × SubCh) := []
  log : List MemErr := []
  /-- DRAM, keyed by subchannel times 2^33 plus local data address (R339), and pool SRAM, bytes; unlisted ones are zero, as the wipes
  leave them (R359, R568). The keys that the debug port has written. -/
  dram : List Host.Cell := []
  pool : List Host.Cell := []
  dramSet : List (Nat × Bool) := []
  poolSet : List (Nat × Bool) := []
  /-- Subchannels that passed start-up training: the region 3 list (R340). -/
  passed : Nat := 0
  eccMode : Nat := 0
  /-- The rate start-up training runs at (R350). Writes of AGE_SCn in the last second, newest first: own time, class, the value
  before (R362). -/
  trainRate : Nat := 0
  ageLog : List (Nat × Nat × Nat) := []
  hotAt : Option Nat := none
  hotSince : Option Nat := none
  /-- The scrub pass: own time of its start, blocks read, and the uncorrectable blocks it has logged (R358). -/
  scrubFrom : Nat := 0
  scrubCount : Nat := 0
  scrubUe : List (Nat × Nat) := []
  /-- Check symbols of blocks, keyed as the block's first byte: those of zeros where unlisted, none where the model does not know all
  of the block (R334, R336, R359). -/
  check : List (Nat × Option Bytes) := []
  /-- Regions 0-2 in bits 0-2 and pool slots 0-7 in bits 8-15 that have held an item since the wipe. -/
  touched : Nat := 0
  /-- Region 3 blocks whose even copy read uncorrectable and whose odd copy is still to be read (R340), and the host and debug
  blocks that are uncorrectable until written whole: subchannel and block number (R357). -/
  copyBad : List (Nat × Nat) := []
  ue : List (Nat × Nat) := []
  deriving DecidableEq, Repr

/-! Lanes (R365-R394). -/

/-- One lane's bring-up beside its registers. -/
structure Lane where
  /-- Own time at which the stage, the relock attempt or LINK_ABSENT began. -/
  at_ : Nat := 0
  /-- RATE_MAX as the attempt began (R395). -/
  maxRate : Nat := 4
  /-- Consecutive failed attempts. -/
  fails : Nat := 0
  caps : Nat := 0
  /-- Rates of the partner's CAP. -/
  peer : Nat := 0
  acks : Nat := 0
  agreed : Nat := 1
  gos : Nat := 0
  target : Nat := 0
  doneSent : Bool := false
  doneRx : Bool := false
  /-- Equalisation has begun at the step's rate: an eye measurement is due. -/
  eye : Bool := false
  /-- Head lanes, as requester: iteration, place in the cycle, kept changes of this cycle, area to beat, whether the change
  asked for reverses one, and whether an EQ_STATUS is awaited (R377). -/
  iter : Nat := 0
  phase : Nat := 0
  kept : Nat := 0
  area : Nat := 0
  reversing : Bool := false
  waitStatus : Bool := false
  /-- CTLE sweep: next code, best area (R378). -/
  code : Nat := 0
  bestArea : Nat := 0
  relocks : Nat := 0
  /-- Own time of the host's lost report that the lane relocks after (R382). -/
  hostLost : Option Nat := none
  /-- Lull requested of an aux lane (R384, R385). -/
  lullWant : Nat := 0
  /-- An export lane's transmitter has gone to TX-Lull, its LULL words sent (R384, R385). -/
  asleep : Bool := false
  /-- Ring lanes: the lane whose recovered clock the transmitter runs on; none for REFCLK_LANE_B (R369). -/
  clock : Option Nat := none
  /-- Own time of the last tap update, or of the present CTLE code (R377, R378). -/
  eqAt : Nat := 0
  spread : Bool := false
  /-- Signal detect on a head receiver whose quadrant is down or powering up (R508). -/
  signal : Bool := false
  /-- Own time since which the link has been absent, the retries of R375 not counted as an end of it (R508). -/
  absentAt : Option Nat := none
  /-- Own time at which the step's equalisation began, while it runs (R372). -/
  eqFrom : Option Nat := none
  deriving DecidableEq, Repr

/-- An aux lane's receiver in raw mode (R393, R394). -/
structure Aux where
  armed : Bool := false
  captured : Bytes := []
  deriving DecidableEq, Repr

/-! Banks and channels (R255-R312). -/

/-- A request for an injector event (R264, R287): times in ns of own time, `made` when it was made. -/
structure Req where
  ch : Nat
  /-- Duration, 0.1 us. -/
  dur : Nat
  ts : Nat
  prio : Nat
  made : Nat
  deadline : Nat
  /-- Made for MERGE_MODE 2: sent at t_s as a new start, never queued (R275). -/
  re : Bool := false
  /-- A TEST_PULSE. -/
  test : Bool
  deriving DecidableEq, Repr

/-- The bank parameters and the three profile variants an injector event runs with: those at its first gate edge. -/
structure EvPar where
  /-- Values .01 to .0B of the cold, normal and hot profile (R283). -/
  profs : List (List Nat) := []
  gap : Nat := 0
  iEnd : Nat := 0
  vboostMin : Nat := 0
  iOpen : Nat := 0
  tOpenChk : Nat := 0
  iOc : Nat := 0
  vDesat : Nat := 0
  railRise : Nat := 0
  cdStart : Nat := 0
  cdLen : Nat := 0
  cdSpan : Nat := 0
  cdThresh : Nat := 0
  cdPol : Nat := 0
  deriving DecidableEq, Repr

/-- An open closing-detection measurement (R304): channel, decay end, duration end, once open the window's start, and the event's
parameters. -/
structure CdWin where
  ch : Nat
  decayEnd : Nat
  durEnd : Nat
  openAt : Option Nat
  par : EvPar
  deriving DecidableEq, Repr

/-- A bank sequencer beside its registers. Times are ns of own time. -/
structure Bank where
  queue : List Req := []
  /-- Channel whose event occupies the bank. -/
  occ : Option Nat := none
  /-- First gate edge of the event, and the edge the present duration runs from (R276). -/
  first : Nat := 0
  edge : Nat := 0
  /-- Planned end E (R275). -/
  endAt : Nat := 0
  vari : Nat := 1
  par : EvPar := {}
  boostEnd : Nat := 0
  decayAt : Option Nat := none
  fast : Bool := false
  /-- Time at which the 200 us limit of R269 or R294 ends the decay. -/
  limitAt : Option Nat := none
  freeAt : Option Nat := none
  /-- An overcurrent or a stop ended the event: no closing detection (R303). -/
  noCd : Bool := false
  /-- On edges of the hold high side in the present HOLD, and whether an earlier HOLD of the event held 4 complete cycles (R270). -/
  chops : Nat := 0
  held : Bool := false
  /-- Low sides on, boost and hold high side. -/
  ls : Nat := 0
  hb : Bool := false
  hh : Bool := false
  /-- Newest turn-on of the boost high side whose sample has not been taken (R268). -/
  hbOn : Option Nat := none
  /-- Newest edge of a high side, of the hold high side, and of any gate of the bank (R267, R295). -/
  hsAt : Nat := 0
  hhAt : Nat := 0
  edgeAt : Nat := 0
  /-- The rail check of R295 has passed in this event, and its check for NO_CURRENT is over (R296). -/
  railOk : Bool := false
  openDone : Bool := false
  /-- Start of the bank's PWM periods since it became ARMED, in 1/(8 PWM_FREQ) ns, once one has begun (R279). -/
  pwmBase : Option Int := none
  cd : Option CdWin := none
  /-- Channel under a rail-off test and the time its bias was applied (R289). -/
  test : Option (Nat × Nat) := none
  /-- Channels the round has not yet reached, and the time the round began (R293). -/
  round : List Nat := []
  roundAt : Nat := 0
  /-- Bank observation of the rail-off test and its count. -/
  obs : Nat := 0
  obsN : Nat := 0
  clear : Bool := false
  /-- ARM has passed its checks; the bank arms at the next tick start (R261, R262). -/
  toArm : Bool := false
  /-- The bank was ARMED or FOLLOW when D2D_LOSS stopped it (R260, R282). -/
  rearm : Bool := false
  /-- Channel under sense calibration and its start, and the calibration of SHS_b (R307). -/
  cal : Option (Nat × Nat) := none
  shsOffset : Int := 0
  shsGain : Nat := 32768
  /-- Spans in which the bank was occupied, newest first (BUSY_PCT). -/
  spans : List (Nat × Nat) := []
  /-- Consecutive housekeeping rounds with a supply out of range (R260). -/
  supplyBad : Nat := 0
  /-- Gate outputs released after a D2D_LOSS in a pair device, until the bank is re-armed (R476). -/
  hiZ : Bool := false
  deriving DecidableEq, Repr

/-- A channel beside its registers. -/
structure Chan where
  /-- Newest low-side on edge; end of the on-time in a PWM period that is not on throughout; number of the next PWM period (R279). -/
  lsAt : Nat := 0
  offAt : Option Nat := none
  pwmN : Nat := 0
  /-- Loop accumulator, 1/65,536 (R281). -/
  acc : Int := 0
  /-- I_SET in force in the loop, and the newest one with the time it was made (R278). -/
  iSet : Nat := 0
  iNext : List (Nat × Nat) := []
  dutySat : Bool := false
  /-- Periods of this tick, and whether every one had duty_c above 65,535 with e > 0 and I_AVG below I_OPEN (R296). -/
  periods : Nat := 0
  allOver : Bool := true
  /-- I_SET has been 0 with the low side off since the previous tick start (R292), and the rail-on test runs. -/
  offTick : Bool := false
  railOn : Option Nat := none
  /-- Off-state observation and its count; count of NO_CURRENT observations. -/
  obs : Nat := 0
  obsN : Nat := 0
  curN : Nat := 0
  clear : Bool := false
  cdMiss : Nat := 0
  cdLost : Bool := false
  /-- Own time since which the channel's calibration has been pending, and the tick of its inserted window (R309). -/
  calSince : Nat := 0
  frozen : Option Nat := none
  /-- Trims of the threshold DACs (R307, step 5). -/
  trims : List Int := []
  deriving DecidableEq, Repr

/-- The die-to-die link and the stop pins (R17-R19, R260, R476). -/
structure D2d where
  /-- Newest heartbeat sent, newest traffic of any kind the A-die received, and the start of the present run of heartbeats. -/
  lastTx : Nat := 0
  lastRx : Nat := 0
  hbSince : Option Nat := none
  lost : Bool := false
  lossAt : Nat := 0
  stopLow : Bool := false
  /-- Own time since which STOP_N has been high. -/
  stopHigh : Nat := 0
  /-- VGATE has been found below 10.5 V and not yet in range again. -/
  vgateLow : Bool := false
  /-- Banks whose drain clamps have kept their power into the reset that is asserted (R257). -/
  clamps : Nat := 0
  deriving DecidableEq, Repr

/-! Zones (R220-R254). -/

/-- A zone beside its registers. -/
structure Zone where
  /-- y_m in 1/256 of 0.01 K, and the delay history, newest first: position in nm and y_m (R228). -/
  ym : Int := 0
  hist : List (Int × Int) := []
  ePrev : Rat := 0
  kp : Nat := 100
  /-- The history has been filled since ZONE_RUN last left 0 (R229). -/
  init : Bool := false
  /-- Consecutive fresh records while DEGRADED, and whether the zone delivers SAFE_DEMAND for the tick before its return (R239). -/
  freshN : Nat := 0
  back : Bool := false
  lff : Rat := 0
  ffMiss : Nat := 0
  /-- Own time of the newest tick start with SPEED below V_STOP (R238). -/
  lowAt : Option Nat := none
  /-- DEGRADED was entered and has not been left under R239. -/
  deg : Bool := false
  /-- The engines have been halted since the zone last computed (R584). -/
  resume : Bool := false
  cfgErr : Bool := false
  /-- SAFE_DEMAND was delivered at the last tick start; a complete tick of it has passed (R242). -/
  safeNow : Bool := false
  safeDone : Bool := false
  /-- The bellwether's demand: tick number and demand (R244). -/
  bell : Option (Nat × Nat) := none
  /-- The delay history was hit by an uncorrectable error this tick (R224). -/
  memErr : Bool := false
  /-- Delivered demands, newest first, for the mean of R264. -/
  dms : List Nat := []
  deriving DecidableEq, Repr

/-- The tick: the number of the next tick to run and the own time of the newest one's start. -/
structure Tick where
  next : Nat := 0
  at_ : Nat := 0
  /-- Ring time of the newest tick's start, ns. -/
  t0 : Nat := 0
  deriving DecidableEq, Repr
/-! Web registration (R185-R219). -/

/-- A latch of an encoder's count: ring time of the latch, position in pm, ring time of the newest edge and its direction (R187). -/
structure Latch where
  at_ : Nat
  pos : Nat
  te : Option Nat
  fwd : Bool
  deriving DecidableEq, Repr

/-- An encoder beside its registers (R186-R188, R196). -/
structure Enc where
  a : Bool := false
  b : Bool := false
  pos : Nat := 0
  te : Option Nat := none
  fwd : Bool := true
  /-- Newest first, at most 1,024 each. -/
  fine : List Latch := []
  coarse : List Latch := []
  /-- Counts of the last millisecond, newest first: own time and direction (R188). -/
  counts : List (Nat × Bool) := []
  /-- Own times of the newest latch, coarse copy and SPEED. -/
  latchAt : Nat := 0
  coarseAt : Nat := 0
  speedAt : Nat := 0
  /-- Own times of the newest counted error and of the newest reverse count. -/
  errAt : Option Nat := none
  revAt : Option Nat := none
  /-- Delta_e, nm; none until the first valid sync pair (R625). -/
  delta : Option Int := none
  deriving DecidableEq, Repr

/-- A stored coverage line: its index, the own time at which it was accepted, its entries (R197). -/
structure CovLine where
  l : Int
  at_ : Nat
  cells : List Nat
  deriving DecidableEq, Repr

/-- The coverage store by slot, and the last SEQ (R195, R197). -/
structure Cov where
  store : List (Nat × Option CovLine) := []
  seq : Option Nat := none
  deriving DecidableEq, Repr

/-- A cell accumulator: M in 1/64 of 0.01 K, W in 1/256, flags [47:42] from bit 0 (R202). -/
structure WCell where
  m : Nat := 0
  w : Nat := 0
  fl : Nat := 0
  deriving DecidableEq, Repr

/-- Newest contribution of a slot to a web line: tag, ring time of its frame and the mixed bit (R206). -/
structure SlotTag where
  tag : Nat
  ts : Nat
  mixed : Bool
  deriving DecidableEq, Repr

/-- A web line in the band: cells, slots' tags, own time of the first contribution, samples taken. -/
structure BandLine where
  cells : List (Nat × WCell) := []
  slots : List (Nat × Option SlotTag) := []
  since : Nat := 0
  samples : Nat := 0
  /-- Samples that were registered on the line before the frontier was formed, contributing or not (R203). -/
  seen : Nat := 0
  /-- Cells of it were lost to an uncorrectable error (R357), or samples to a STATION_DROP (R203). -/
  incomplete : Bool := false
  deriving DecidableEq, Repr

/-- A head slot while its station runs: own time of its last delivered line or of RUN, its frontier in nm, and whether it has
fallen silent (R204, R205). -/
structure SlotRun where
  at_ : Nat := 0
  f : Option Rat := none
  silent : Bool := false
  deriving DecidableEq, Repr

/-- A station beside its registers. -/
structure Station where
  slots : List (Nat × SlotRun) := []
  /-- The frontier has been formed since RUN (R213). -/
  formed : Bool := false
  band : List (Nat × BandLine) := []
  /-- Own times of the newest completion and of the newest line without a position. -/
  doneAt : Nat := 0
  histAt : Option Nat := none
  /-- The station window by WL_SEQ mod 16,384: sequence number and line (R209). -/
  window : List (Nat × Option (Nat × Bytes)) := []
  /-- Own time and lead, um, of coverage lines of the last second (R198). -/
  leads : List (Nat × Int) := []
  deriving DecidableEq, Repr

/-- A zone's open record: T values, lines, fallback cells and flags (R210-R212). -/
structure ZoneRec where
  lines : Nat := 0
  ts : List Nat := []
  fb : Nat := 0
  flags : Nat := 0
  seq : Nat := 0
  deriving DecidableEq, Repr

/-- A closed zone record (R212). -/
structure ZoneMeas where
  seq : Nat := 0
  lines : Nat := 0
  n : Nat := 0
  mean : Nat := 0
  p90 : Nat := 0
  max_ : Nat := 0
  fb : Nat := 0
  flags : Nat := 0
  deriving DecidableEq, Repr


/-! The whole state. -/

/-- The state of the block. -/
structure State where
  /-- Commands that wait, first in first out. -/
  pending : List Instr := []
  clk : Clk := {}
  /-- The model's own counter of free values (assumption 2). -/
  free : Nat := 0
  regs : List (Nat × Nat) := []
  blobs : List (Nat × Bytes) := []
  od : Od := {}
  tly : Tally := {}
  nvm : Nvm := {}
  flash : Flash := {}
  fac : Fac := {}
  ret : Retain := {}
  tap : Tap := {}
  boot : Boot := {}
  pair : Pair := {}
  ptx : List PartnerOut := []
  pwr : Pwr := {}
  ring : Ring := {}
  heads : List (Nat × Head) := []
  hrx : List (Nat × HeadRx) := []
  hout : List HeadOut := []
  pipes : List (Nat × Pipe) := []
  folds : List (Nat × FoldSt) := []
  px : Pixels := {}
  /-- Table memory: slot c of table t at key 2 t + c, empty when the slot is; at key 80 + 2 t + c one byte, the ORIGIN of what it holds. -/
  rad : List (Nat × Bytes) := []
  xp : Export := {}
  shep : Shep := {}
  mem : Mem := {}
  lanes : List (Nat × Lane) := []
  auxs : List (Nat × Aux) := []
  /-- Training words a lane sent with the newest command. -/
  tw : List (Nat × TrainWord) := []

  banks : List (Nat × Bank) := []
  chans : List (Nat × Chan) := []
  d2d : D2d := {}
  zones : List (Nat × Zone) := []
  tick : Tick := {}
  encs : List (Nat × Enc) := []
  cov : Cov := {}
  stns : List (Nat × Station) := []
  zrecs : List (Nat × ZoneRec) := []
  zmeas : List (Nat × ZoneMeas) := []
  deriving DecidableEq, Repr

/-- Right after a power-on reset of a device that nothing has configured: every register at its default, storage as delivered, and a
fresh challenge (R579). -/
def State.reset : State := { free := 1, tap := { challenge := padTo 16 (Config.freeBytes 0 16) } }

end Sys2Proof.Machine
end

