-- ==== Sys2Proof/Machine/Ops.lean ====
section
/-! DEFINITION. The shared operations every command's meaning is built from: the register file, time, events, the NVM queue, the
journal, tokens, partner messages and the checks of an object access. -/

namespace Sys2Proof.Machine

/-! ## The register file (R428-R432) -/

/-- The instance of index idx within a group, if the group holds it. -/
def ObjGroup.inst (g : ObjGroup) (idx : Nat) : Option Nat :=
  if g.stride = 0 then (if idx = g.base then some 0 else none)
  else if g.base ≤ idx ∧ (idx - g.base) % g.stride = 0 ∧ (idx - g.base) / g.stride < g.count then
    some ((idx - g.base) / g.stride)
  else none

/-- The group and instance of an index. -/
def findGroup (idx : Nat) : List ObjGroup → Option (ObjGroup × Nat)
  | [] => none
  | g :: t => match g.inst idx with
    | some i => some (g, i)
    | none => findGroup idx t

/-- The table row of a key, index * 256 + subindex. -/
def rowAt (key : Nat) : Option ObjRow :=
  match findGroup (key / 256) objGroups with
  | some (g, _) => g.rows.find? fun r => r.sub = key % 256
  | none => none

/-- Does the index exist (R429)? -/
def indexExists (idx : Nat) : Bool := (findGroup idx objGroups).isSome

/-- Highest subindex implemented at an index: the value of subindex 0x00 (R429). -/
def topSub (idx : Nat) : Nat :=
  match findGroup idx objGroups with
  | some (g, _) => g.rows.foldl (fun m r => max m r.sub) 0
  | none => 0

/-- Grains of the four regions at reset (R337, R363). -/
def grainDflt (r : Nat) : Nat := if r = 0 then 11 else if r = 1 then 14 else 12

/-- The default of a register: its table's, and the four defaults that depend on the instance (R286, R252, R363). -/
def regDflt (key : Nat) : Nat :=
  let idx := key / 256
  let sub := key % 256
  if 0x5400 ≤ idx ∧ idx < 0x5640 ∧ (idx - 0x5400) % 3 = 0 ∧ sub = 2 then (idx - 0x5400) / 3 % 8
  else if 0x4000 ≤ idx ∧ idx < 0x4480 ∧ (idx - 0x4000) % 6 = 3 ∧ sub = 1 then (idx - 0x4000) / 6
  else if 0x2210 ≤ idx ∧ idx < 0x2214 ∧ (sub = 1 ∨ sub = 2) then grainDflt (idx - 0x2210)
  else match rowAt key with
    | some r => r.dflt
    | none => 0

/-- Bytes of a type; blocks are counted by their object. -/
def Ty.size : Ty → Nat
  | .u8 | .bool | .enum8 => 1
  | .u16 | .i16 => 2
  | .u32 | .i32 => 4
  | .u64 => 8
  | .str => 12
  | .block => 0

/-- Read a register. -/
def State.r (s : State) (k : Nat) : Nat := tget (regDflt k) s.regs k

/-- Write a register. -/
def State.w (s : State) (k v : Nat) : State := { s with regs := tset (regDflt k) s.regs k v }

/-- Read a signed register of w bits. -/
def State.ri (s : State) (w k : Nat) : Int := sgn w (s.r k)

/-- Write a signed register of w bits, saturating. -/
def State.wi (s : State) (w k : Nat) (v : Int) : State := s.w k (sat2 w v)

/-- Add to a counter that saturates at m. -/
def State.addTo (s : State) (m k n : Nat) : State := s.w k (min m (s.r k + n))

/-- Add to a U32 counter, saturating at 0xFFFFFFFF. -/
def State.add32 (s : State) (k n : Nat) : State := s.addTo 0xFFFFFFFF k n

/-- Count one in a U32 counter, saturating. -/
def State.bump (s : State) (k : Nat) : State := s.add32 k 1

/-- Read and write one of a register's bits. -/
def State.rb (s : State) (k n : Nat) : Bool := bit n (s.r k)

/-- Set or clear one bit of a register. -/
def State.wb (s : State) (k n : Nat) (b : Bool) : State := s.w k (setBit n b (s.r k))

/-- Write several registers. -/
def State.wAll (s : State) (l : List (Nat × Nat)) : State := l.foldl (fun t e => t.w e.1 e.2) s

/-- A string or block object as stored. -/
def State.blob (s : State) (k : Nat) : Bytes := tget [] s.blobs k

/-- Store a string or block object. -/
def State.wBlob (s : State) (k : Nat) (b : Bytes) : State := { s with blobs := tset [] s.blobs k b }

/-- Repeat an update over a list. -/
def State.each {α : Type} (s : State) (l : List α) (f : α → State → State) : State := l.foldl (fun t a => f a t) s

/-- Make an update when a condition holds. -/
def State.when (s : State) (c : Bool) (f : State → State) : State := if c then f s else s

/-! ## Time (R14, R417, R420) -/

/-- The correction made over dt ns: 100 ppm while trimming, half the rate while a negative offset is removed. -/
def Clk.corr (c : Clk) (dt : Nat) : Int :=
  let n := (16 * dt + c.trim) / 10000
  if c.half then max c.slew (-(8 * dt : Nat)) else clampI (-(n : Nat)) (n : Nat) c.slew

/-- The clock dt ns later. -/
def Clk.advance (c : Clk) (dt : Nat) : Clk :=
  { c with
    ring16 := (c.ring16 + (16 * dt : Nat) + c.corr dt).toNat
    up := c.up + dt
    slew := c.slew - c.corr dt
    trim := if c.half ∨ c.slew = 0 then 0 else (16 * dt + c.trim) % 10000
    half := c.half && decide (c.slew - c.corr dt ≠ 0) }

/-- dt ns pass: time moves on, and what left the device with the last command is gone. -/
def State.advance (s : State) (dt : Nat) : State :=
  { s with clk := s.clk.advance dt, ptx := [], hout := [], tw := [], ring := { s.ring with out := [] } }

/-- Ring time in ns, unsigned 64-bit (R14). -/
def State.now (s : State) : Nat := s.clk.ring16 / 16 % 2 ^ 64

/-- Own time in ns. -/
def State.up (s : State) : Nat := s.clk.up

/-- Has at least n ns of own time passed since t? -/
def State.since (s : State) (t n : Nat) : Bool := decide (t + n ≤ s.up)

/-- Free values: the next one, and the state after it is drawn (assumption 2). -/
def State.freeNat (s : State) : Nat := Config.freeNat s.free

/-- One free value has been used. -/
def State.used (s : State) : State := { s with free := s.free + 1 }

/-! ## The pair's authority and the device's state -/

/-- Does the device hold actuation authority (R487)? -/
def State.auth (s : State) : Bool :=
  decide (s.fac.lifeCycle ≠ 3) && (!s.pair.mode || s.pair.authority)

/-- Is this device of a pair, and not the bellwether? -/
def State.follower (s : State) : Bool := s.pair.mode && !s.pair.authority

/-- The device's pair epoch. -/
def State.epoch (s : State) : Nat := s.r Reg.prPAIR_EPOCH

/-- Device states of R461. -/
def stSTANDBY : Nat := 1
/-- READY. -/
def stREADY : Nat := 2
/-- RUN. -/
def stRUN : Nat := 3
/-- STOPPING. -/
def stSTOPPING : Nat := 4

/-- An item has been placed in a DRAM region, or a pool slot, and may have been written since the wipe. -/
def State.touch (s : State) (m : Nat) : State := { s with mem := { s.mem with touched := s.mem.touched ||| m } }

/-- Is a power domain up (R505)? -/
def State.domUp (s : State) (k : Nat) : Bool := s.rb Reg.thmDOMAINS_UP k

/-- The P-die sends the A-die something beside a heartbeat: the link is not silent (R17). -/
def State.d2dTraffic (s : State) : State := if s.domUp 18 then { s with d2d := { s.d2d with lastRx := s.up } } else s

/-- An access to an object of the banks or channels crosses the die-to-die link (R16, R17). -/
def State.toADie (s : State) (key : Nat) : State := s.when (decide (0x500000 ≤ key ∧ key < 0x564000)) State.d2dTraffic

/-! ## The ring's own frames (R403, R408) -/

/-- Queue a frame of the device's own, under the next SEQ of its type; ESTOP frames go ahead of every other (R408). -/
def State.ringQueue (s : State) (via sop : Option Nat) (ty dst info : Nat) (payload : Bytes) : State :=
  let seq := tget 0 s.ring.seqs ty
  let f : TxFrame := ⟨ty, dst, seq, s.epoch, info, payload, via, sop⟩
  let q := if ty = 0x40 then (s.ring.txq.filter fun g => g.ty = 0x40) ++ f :: (s.ring.txq.filter fun g => g.ty ≠ 0x40)
    else s.ring.txq ++ [f]
  { s with ring := { s.ring with txq := q, seqs := tset 0 s.ring.seqs ty ((seq + 1) % 65536) } }

/-- Queue a frame that leaves by whichever port is up. -/
def State.ringSend (s : State) (ty dst info : Nat) (payload : Bytes) : State := s.ringQueue none none ty dst info payload

/-! ## Events (R456, R457) -/

/-- The payload of an EVENT frame, which is also an entry of EVENT_LOG. -/
def Evt.bytes (e : Evt) : Bytes :=
  leBytes 4 e.seq ++ leBytes 2 e.code ++ leBytes 2 e.inst ++ leBytes 4 e.data ++ leBytes 2 e.repeats ++ leBytes 2 0 ++
    leBytes 8 e.time

/-- Raise an event: merge it under the hold-off or log it, and send it while EVENT_ENABLE is 1. -/
def State.event (s : State) (code inst data : Nat) : State :=
  let k := code * 65536 + inst
  let hd := tget none (s.od.holds.map fun e => (e.1, some e.2)) k
  let held := match hd with
    | some h => decide (s.up < h.at_ + s.r Reg.evEVENT_HOLDOFF * 1000000)
    | none => false
  let merged := match hd with
    | some h => h.merged
    | none => 0
  if held then
    { s with od := { s.od with holds := tins k ⟨match hd with | some h => h.at_ | none => 0, merged + 1⟩ (tdel k s.od.holds) } }
  else
    let seq := (s.r Reg.evEVENT_SEQ + 1) % 2 ^ 32
    let e : Evt := ⟨seq, code, inst, data, min 65535 merged, s.now⟩
    let s1 := (s.w Reg.evEVENT_SEQ seq)
    let s2 := { s1 with od := { s1.od with log := (e :: s1.od.log).take 256, holds := tins k ⟨s.up, 0⟩ (tdel k s1.od.holds) } }
    if s.r Reg.evEVENT_ENABLE = 1 then s2.ringSend 0x60 0 0 e.bytes else s2

/-! ## The NVM queue (R535-R547) -/

/-- First page of copy A, of copy B, and the pages of a copy (R538). -/
def recPages (id : Nat) : Nat × Nat × Nat :=
  if id = 0x01 then (16, 17, 1)
  else if id = 0x02 then (18, 19, 1)
  else if id = 0x10 then (32, 33, 1)
  else if id = 0x11 then (34, 35, 1)
  else if 0x12 ≤ id ∧ id ≤ 0x19 then (36 + 2 * (id - 0x12), 37 + 2 * (id - 0x12), 1)
  else if 0x1A ≤ id ∧ id ≤ 0x1C then (52 + 2 * (id - 0x1A), 53 + 2 * (id - 0x1A), 1)
  else (168 + 34 * (id - 0x20), 185 + 34 * (id - 0x20), 17)

/-- The records of R539. -/
def recIds : List Nat := [0x01, 0x02, 0x10, 0x11] ++ (List.range 8).map (0x12 + ·) ++ (List.range 3).map (0x1A + ·) ++
  (List.range 32).map (0x20 + ·)

/-- The bytes of one copy of a record: the header of R540 and the data, filled with zeros to whole pages. -/
def recImage (id seq : Nat) (data : Bytes) : Bytes :=
  let n := (recPages id).2.2
  let h := leBytes 1 id ++ leBytes 1 n ++ leBytes 2 data.length ++ leBytes 4 seq
  padTo (256 * n) (h ++ leBytes 4 (crc32 (h ++ data)) ++ leBytes 4 0 ++ data)

/-- The page writes of one copy. -/
def copyOps (first n : Nat) (img : Bytes) : List NvmOp :=
  (List.range n).map fun i => .page (first + i) ((img.drop (256 * i)).take 256)

/-- The page of an operation. -/
def NvmOp.pageNo : NvmOp → Nat
  | .page n _ => n
  | .cell n _ => n

/-- Has the record that a job stores several pages, so that it is written under an intent (R541)? -/
def NvmJob.multi (j : NvmJob) : Bool := decide (1 < (recPages j.rec_).2.2 ∧ 0x20 ≤ j.rec_)

/-- The bank a job's next operation needs; a record write that has not begun starts in bank 0, with its first page or its intent. -/
def NvmJob.bank (j : NvmJob) : Option Nat := if j.data.isSome then some 0 else j.ops.head?.map fun o => o.pageNo / 512

/-- The class of a job's next operation: an intent page and the cell program of its DONE are of class 3, the pages of the record
between them of class 4 (R537). -/
def NvmJob.class_ (j : NvmJob) : Nat :=
  if !j.multi then j.cls
  else if j.data.isSome then 3
  else match j.ops with
    | .page n _ :: _ => if 8 ≤ n ∧ n < 16 then 3 else 4
    | _ => 3

/-- Is a job's next operation an intent page (R543)? -/
def NvmJob.intent (j : NvmJob) : Bool := if j.data.isSome then j.multi else match j.ops with
  | .page n _ :: _ => decide (8 ≤ n ∧ n < 16)
  | _ => false

/-- Does the job still have to set DONE in an intent page that it has written? -/
def NvmJob.open_ (j : NvmJob) : Bool :=
  !j.intent && j.ops.any fun o => match o with
    | .cell n _ => decide (8 ≤ n ∧ n < 16)
    | .page _ _ => false

/-- Is an intent open, so that no other is written (R543)? -/
def Nvm.intentOpen (n : Nvm) : Bool :=
  n.queue.any NvmJob.open_ || n.cur.any fun e => e.2.any fun j => j.intent || j.open_

/-- Take the job of bank b with the lowest class, the oldest first; no second intent is begun while one is open. -/
def nvmPick (b : Nat) (held : Bool) (q : List NvmJob) : Option (NvmJob × List NvmJob) :=
  let may (j : NvmJob) : Bool := decide (j.bank = some b) && !(held && j.intent)
  match (q.filter may).map NvmJob.class_ with
  | [] => none
  | c :: cs =>
    let m := cs.foldl min c
    match q.findIdx? fun j => may j && decide (j.class_ = m) with
    | some i => (q[i]?).map fun j => (j, q.eraseIdx i)
    | none => none

/-- The intent page of a record's write (R543). -/
def intentPage (iseq id seq crc : Nat) : Bytes :=
  let (a, b, n) := recPages id
  let h := leBytes 4 iseq ++ leBytes 1 id ++ leBytes 1 0 ++ leBytes 2 a ++ leBytes 2 b ++ leBytes 2 n ++ leBytes 4 seq ++
    leBytes 4 crc ++ leBytes 4 0
  (h ++ leBytes 4 (crc32 h) ++ List.replicate 228 0xFF).take 256

/-- A record write begins: copy A, then copy B, with SEQ + 1, a record of several pages under the next intent (R541, R543). What
never begins, since a newer write replaced it, uses up no number. -/
def Nvm.begin_ (n : Nvm) (j : NvmJob) : Nvm × NvmJob :=
  match j.data with
  | none => (n, j)
  | some d =>
    let (a, b, k) := recPages j.rec_
    let seq := tget 0 n.recSeq j.rec_ + 1
    let img := recImage j.rec_ seq d
    let ops := copyOps a k img ++ copyOps b k img
    let n1 := { n with recSeq := tset 0 n.recSeq j.rec_ seq }
    if k = 1 then (n1, { j with data := none, ops := ops })
    else
      let iseq := n.intentSeq + 1
      let page := 8 + iseq % 8
      ({ n1 with intentSeq := iseq }, { j with
        data := none, ops := .page page (intentPage iseq j.rec_ seq (fld 8 4 img)) :: ops ++ [.cell page ((List.range 8).map (224 + ·))] })

/-- An idle bank starts its next queued operation (R535, R537). -/
def Nvm.kick1 (n : Nvm) (b : Nat) : Nvm :=
  match tget none n.cur b with
  | some _ => n
  | none => match nvmPick b n.intentOpen n.queue with
    | some (j, q) =>
      let m := n.begin_ j
      { m.1 with cur := tset none m.1.cur b (some m.2), queue := q }
    | none => n

/-- Every idle bank starts its next queued operation. -/
def Nvm.kick (n : Nvm) : Nvm := (((n.kick1 0).kick1 1).kick1 2).kick1 3

/-- Publish BANK_BUSY and WRITES_QUEUED (R560). -/
def State.nvmPublish (s : State) : State :=
  let busy := (List.range 4).foldl (fun v b => setBit b ((tget none s.nvm.cur b).isSome) v) 0
  (s.w Reg.nvmBANK_BUSY busy).w Reg.nvmWRITES_QUEUED s.nvm.queue.length

/-- Is a job a queued write of record id that has not begun? -/
def NvmJob.waits (id : Nat) (j : NvmJob) : Bool := j.data.isSome && decide (j.rec_ = id)

/-- Queue a job; a queued write of the same record is replaced by the newer, whose end brings about what its own would have (R537). -/
def State.nvmJob (s : State) (j : NvmJob) : State :=
  let old := if j.data.isSome then s.nvm.queue.filter (NvmJob.waits j.rec_) else []
  let q := if j.data.isSome then s.nvm.queue.filter fun k => !k.waits j.rec_ else s.nvm.queue
  let j1 := { j with fin := (old.map fun k => k.fin).flatten ++ j.fin }
  State.nvmPublish { s with nvm := Nvm.kick { s.nvm with queue := q ++ [j1] } }

/-- Queue operations that store no record. -/
def State.nvmOps (s : State) (cls : Nat) (ops : List NvmOp) (fin : NvmDone) : State := s.nvmJob ⟨cls, 0, none, ops, [fin]⟩

/-- Write a record (R541). -/
def State.nvmRecord (s : State) (id cls : Nat) (data : Bytes) (fin : NvmDone) : State :=
  s.nvmJob ⟨cls, id, some data, [], if fin = .none then [] else [fin]⟩

/-- What an erased byte of the NVM reads. -/
def nvmErased : Byte := 0xFF

/-- One page as it stands. -/
def Nvm.page (n : Nvm) (p : Nat) : Bytes := tgetRun nvmErased n.cells (256 * p) 256

/-- The operation that bank b runs. -/
def Nvm.running (n : Nvm) (b : Nat) : Option NvmOp := (tget none n.cur b).bind fun j => j.ops.head?

/-- Carry out one operation on the cells. -/
def NvmOp.apply (o : NvmOp) (c : List Host.Cell) : List Host.Cell :=
  match o with
  | .page p d => tsetRun nvmErased c (256 * p) (padTo 256 d)
  | .cell p bs => bs.foldl (fun c b =>
      let a := 256 * p + b / 8
      tset nvmErased c a (BitVec.ofNat 8 (setBit (b % 8) false (tget nvmErased c a).toNat))) c

/-- The NVM's cells as a read of page p finds them: a read of the page that an operation works on waits for its end (R535). -/
def Nvm.seen (n : Nvm) (p : Nat) : List Host.Cell :=
  match n.running (p / 512) with
  | some o => if o.pageNo = p then o.apply n.cells else n.cells
  | none => n.cells

/-- The page writes of copy A again, where it does not read back as copy B is to be written (R541): none while another page of A is
still to come, and none in a job that stores no record. -/
def NvmJob.again (n : Nvm) (j : NvmJob) : List NvmOp :=
  let (a, b, k) := recPages j.rec_
  let pagesB := j.ops.filterMap fun o => match o with
    | .page p d => if b ≤ p ∧ p < b + k then some (NvmOp.page (p - b + a) d) else none
    | .cell _ _ => none
  let fromA := j.ops.any fun o => match o with
    | .page p _ => decide (a ≤ p ∧ p < a + k)
    | .cell _ _ => false
  if j.rec_ = 0 ∨ fromA ∨ pagesB.length ≠ k then []
  else if pagesB.all fun o => match o with
      | .page p d => decide (n.page p = padTo 256 d)
      | .cell _ _ => true then [] else pagesB

/-- Record 0x10: the settings kept in NVM (R539). -/
def State.settingsData (s : State) : Bytes :=
  leBytes 1 (s.r Reg.nodeNODE_ADDR) ++ leBytes 1 (s.r Reg.prPAIR_MODE) ++ leBytes 1 (s.r Reg.memECC_MODE) ++
  leBytes 1 (s.r Reg.flFLASH_READ) ++ leBytes 2 (s.r Reg.memRATE) ++ leBytes 1 (s.r Reg.flFLASH_DIV) ++
  leBytes 1 (s.r Reg.flFLASH_DUMMY) ++ ((List.range 4).map fun i => leBytes 1 (s.r (Reg.rgnGRAIN i))).flatten

/-- The objects kept in record 0x10. -/
def keptKeys : List Nat := [Reg.nodeNODE_ADDR, Reg.prPAIR_MODE, Reg.memECC_MODE, Reg.flFLASH_READ, Reg.memRATE, Reg.flFLASH_DIV,
  Reg.flFLASH_DUMMY] ++ (List.range 4).map Reg.rgnGRAIN

/-- Lane record 0x12 + j of heads 4j to 4j + 3 (R539). -/
def State.laneRecord (s : State) (h : Nat) : State :=
  let one (k : Nat) : Bytes := padTo 12 (s.blob (Reg.hdBOUND_SERIAL k)) ++ leBytes 1 (s.r (Reg.hlSHUTTER_SUSPECT k)) ++
    leBytes 1 (s.r (Reg.hlFOLD_FAIL_SEQ k)) ++ leBytes 2 0 ++ leBytes 4 (s.r (Reg.hlFOLD_RUNS k)) ++
    leBytes 4 (s.r (Reg.hlFOLD_FAILS k)) ++ leBytes 8 (s.r (Reg.hlFOLD_LAST_OK k))
  s.nvmRecord (0x12 + h / 4) 4 (((List.range 4).map fun i => one (4 * (h / 4) + i)).flatten) .none

/-! ### Spread counters (R545-R547) -/

/-- A spread counter's value. -/
def Spread.value (c : Spread) : Nat := if c.gen = c.cleared then c.base + c.cells else c.base

/-- Counter n of the NVM. -/
def State.spread (s : State) (n : Nat) : Spread := tget {} s.nvm.spread n

/-- Replace a spread counter. -/
def State.wSpread (s : State) (n : Nat) (c : Spread) : State :=
  { s with nvm := { s.nvm with spread := tset {} s.nvm.spread n c } }

/-- Record 0x1A + j of counters 20j to 20j + 19 (R538, R539). -/
def State.spreadShadow (s : State) (n : Nat) (fin : NvmDone) : State :=
  let one (k : Nat) : Bytes := let c := s.spread k; leBytes 4 c.base ++ leBytes 4 c.gen ++ leBytes 4 c.cleared
  s.nvmRecord (0x1A + n / 20) 3 (((List.range 20).map fun i => one (20 * (n / 20) + i)).flatten) fin

/-- Cells of counter n that are programmed or on their way. -/
def State.spreadCells (s : State) (n : Nat) : Nat :=
  let steps (j : NvmJob) : Bool := j.fin.contains (.spreadStep n)
  (s.spread n).cells + (s.nvm.queue.filter steps).length + b2n ((tget none s.nvm.cur ((80 + n) / 512)).any steps)

/-- Count once: program the next cell, or wait while the counter rolls over or has its last cell on the way (R545, R546). -/
def State.spreadInc (s : State) (n : Nat) : State :=
  let c := s.spread n
  let k := s.spreadCells n
  if c.rolling ∨ 2048 ≤ k then s.wSpread n { c with wait := c.wait + 1 } else s.nvmOps 3 [.cell (80 + n) [k]] (.spreadStep n)

/-- Start a roll-over: the shadow with BASE b and GEN + 1, then the step page, then CLEARED_GEN (R546). -/
def State.spreadRoll (s : State) (n b : Nat) : State :=
  let c := s.spread n
  (s.wSpread n { c with base := b, gen := c.gen + 1, rolling := true }).spreadShadow n (.rollShadow n (c.gen + 1))

/-- Another head: the counter restarts at 0, and what waited was the old head's (R180, R547). -/
def State.spreadRestart (s : State) (n : Nat) : State := State.spreadRoll (s.wSpread n { s.spread n with wait := 0 }) n 0

/-! ## The journal (R462-R469) -/

/-- A journal entry's 32 bytes (R464). -/
def TEntry.bytes (e : TEntry) : Bytes :=
  leBytes 4 e.seq ++ leBytes 4 e.epoch ++ leBytes 1 e.src ++ leBytes 1 e.kind ++ leBytes 2 e.index ++ leBytes 1 e.sub ++
    leBytes 1 e.result ++ leBytes 2 e.token ++ leBytes 8 e.value ++ leBytes 8 e.time

/-- Store a new high-water mark (R466). -/
def State.hwmStore (s : State) (v : Nat) : State :=
  { s.nvmRecord 0x01 2 (leBytes 4 v) (.hwm v) with tly := { s.tly with hwmBusy := true } }

/-- Give an entry its sequence number and put it into its slot (R466, R469). -/
def State.tlyNumber (s : State) (e : TEntry) : State :=
  let q := s.r Reg.tlyNEXT_SEQ
  let e1 := { e with seq := q }
  let s1 := { s with tly := { s.tly with slots := tset TEntry.empty s.tly.slots (q % 65536) e1, waiting := s.tly.waiting ++ [(s.up, e1)] } }
  let s2 := s1.w Reg.tlyNEXT_SEQ (q + 1)
  let s3 := s2.when (decide (s2.r Reg.tlyOLDEST_SEQ + 65536 ≤ q)) fun t => t.w Reg.tlyOLDEST_SEQ (q - 65535)
  if s3.r Reg.tlyHWM ≤ q + 1 + 2048 ∧ s3.tly.hwmBusy = false then s3.hwmStore (s3.r Reg.tlyHWM + 1024) else s3

/-- Make an entry: number it, hold it while the mark is reached or START is still to come, or count it in OVERRUN (R467, R468). -/
def State.tlyPut (s : State) (e : TEntry) : State :=
  if s.tly.awaits = false ∧ s.tly.held = [] ∧ s.r Reg.tlyNEXT_SEQ < s.r Reg.tlyHWM then s.tlyNumber e
  else if s.tly.held.length < 4096 then
    let s1 := { s with tly := { s.tly with held := s.tly.held ++ [e] } }
    if s1.tly.awaits = false ∧ s1.tly.hwmBusy = false then s1.hwmStore (s1.r Reg.tlyHWM + 1024) else s1
  else { s.bump Reg.tlyOVERRUN with tly := { s.tly with owed := s.tly.owed + 1 } }

/-- Make an entry of a kind for an object (R462-R465). -/
def State.tlyAdd (s : State) (src kind key result token value : Nat) : State :=
  s.tlyPut ⟨0, s.epoch, src, kind, key / 256, key % 256, result, token, value, s.now⟩

/-- VALUE of a block: CRC-32 and byte count (R465). -/
def blockValue (b : Bytes) : Nat := crc32 b + 2 ^ 32 * b.length

/-! ## Breakpoints on object writes (R586, R587) -/

/-- Breakpoint k as its objects define it now. -/
def State.bpAt (s : State) (k : Nat) : Bp :=
  { k, x := s.r (Reg.bpBP_X k), y := s.r (Reg.bpBP_Y k), cmp := s.r (Reg.bpBP_CMP k), value := s.r (Reg.bpBP_VALUE k)
    pipes := s.r (Reg.bpBP_HALT_PIPES k), st := s.r (Reg.bpBP_HALT_ST k), zones := decide (s.r (Reg.bpBP_HALT_ZONES k) = 1)
    oneshot := decide (s.r (Reg.bpBP_ONESHOT k) = 1) }

/-- Apply a hit of a breakpoint: halts, count, time, event, and the one-shot. -/
def State.bpHit (s : State) (b : Bp) : State :=
  let s1 := s.w Reg.dbgHALT_PIPES (s.r Reg.dbgHALT_PIPES ||| b.pipes)
  let s2 := s1.w Reg.dbgHALT_STATIONS (s1.r Reg.dbgHALT_STATIONS ||| b.st)
  let s3 := s2.when b.zones fun t => t.w Reg.dbgHALT_ZONES 1
  let s4 := (s3.bump (Reg.bpBP_HITS b.k)).w (Reg.bpBP_LAST b.k) s.now
  let s5 := s4.event 0x0807 b.k (s4.r (Reg.bpBP_HITS b.k))
  s5.when b.oneshot fun t => t.w (Reg.bpBP_KIND b.k) 0

/-- Breakpoints of kind 4 on a write or action that returned OK. -/
def State.bpWrite (s : State) (key : Nat) : State :=
  s.each (List.range 8) fun k t =>
    t.when (decide (t.r (Reg.bpBP_KIND k) = 4 ∧ t.r (Reg.bpBP_UNIT k) = key / 256 ∧
      (t.r (Reg.bpBP_SUB k) = 0xFF ∨ t.r (Reg.bpBP_SUB k) = key % 256))) fun u => u.bpHit (u.bpAt k)

/-! ## Replication to the partner (R480, R498) -/

/-- Objects the pair replicates. -/
def replicated (key : Nat) : Bool :=
  decide ((0x2100 ≤ key / 256 ∧ key / 256 ≤ 0x21FF) ∨ (0x3000 ≤ key / 256 ∧ key / 256 ≤ 0x5FFF))

/-- Is the partner connection up (R479)? -/
def State.partnerUp (s : State) : Bool := s.pair.mode && decide (s.r Reg.prPARTNER_STATE = 1)

/-- The partner lane a message is sent on: the lowest that is UP (DESIGN CHOICE, assumption 108). -/
def State.partnerLane? (s : State) : Option Nat := (List.range 4).find? fun i => decide (s.r (Reg.laneLANE_STATE (88 + i)) = 4)

/-- Send a partner message whole on one lane that is UP, under the next SEQ (R37, R479). -/
def State.partnerSend (s : State) (m : PMsg) : State := match s.partnerLane? with
  | some l =>
    { s with ptx := s.ptx ++ [⟨l, m.type, s.pair.txSeq, m⟩], pair := { s.pair with txSeq := (s.pair.txSeq + 1) % 256 } }
  | none => s

/-- Send a partner message while the connection is up. -/
def State.toPartner (s : State) (m : PMsg) : State := if s.partnerUp then s.partnerSend m else s

/-- The bellwether forwards a replicated write or action that returned OK. -/
def State.forward (s : State) (src key token : Nat) (data : Bytes) : State :=
  if s.pair.mode ∧ s.pair.authority ∧ replicated key then s.toPartner (.objFwd s.epoch src key token data) else s

/-! ## Actions and tokens (R448-R451) -/

/-- The result object of an ACT object, where its chapter names one (R450). -/
def resultOf (key : Nat) : Option Nat :=
  let idx := key / 256
  let sub := key % 256
  if idx = 0x1002 ∨ (0x5000 ≤ idx ∧ idx < 0x50C0 ∧ (idx - 0x5000) % 8 = 0) ∨ (0x2220 ≤ idx ∧ idx < 0x2230) ∨
     idx = 0x2403 ∨ idx = 0x2000 ∨ idx = 0x2502 ∨ idx = 0x2600 then some (key + 1)
  else if 0x3000 ≤ idx ∧ idx < 0x3100 then (if idx % 8 = 5 ∧ sub = 8 then none else some (key + 1))
  else if idx = 0x2503 then some Reg.cfgCONFIG_RESULT
  else if idx = 0x6000 ∧ sub ≤ 7 then some Reg.dbgSTEP_RESULT
  else if 0x5400 ≤ idx ∧ idx < 0x5640 ∧ (idx - 0x5400) % 3 = 0 then some (key + 1)
  else none

/-- The newest request of an ACT object. -/
def State.act (s : State) (key : Nat) : ActReq := tget {} s.od.acts key

/-- Is a request of the ACT object still executing (R449)? -/
def State.actBusy (s : State) (key : Nat) : Bool := (s.act key).busy

/-- Accept an action: a token, its ACTION entry and its state (R448, R451). -/
def State.actStart (s : State) (src key value len : Nat) : State :=
  let t := if s.r Reg.actLAST_TOKEN = 65535 then 1 else s.r Reg.actLAST_TOKEN + 1
  let s1 := (s.toADie key).w Reg.actLAST_TOKEN t
  let s2 := { s1 with od := { s1.od with
    tokens := (Tok.mk t key src false :: s1.od.tokens).take 64,
    acts := tset {} s1.od.acts key ⟨t, true, src, s1.od.reqN⟩,
    reqN := s1.od.reqN + 1,
    rsp := ⟨0, t, []⟩ } }
  let s3 := s2.tlyAdd src 5 key 0 t value
  (s3.forward src key t (leBytes len value)).bpWrite key

/-- Complete an accepted action with its result: the result object, the token's state and the DONE entry (R450, R463, R465). -/
def State.actDone (s : State) (key value : Nat) (ok : Bool) : State :=
  let a := s.act key
  if a.busy then
    let s1 := match resultOf key with
      | some k => if (rowAt k).any (fun (r : ObjRow) => decide (r.ty = Ty.str)) then s else s.w k value
      | none => s
    let s2 := { s1 with od := { s1.od with
      tokens := s1.od.tokens.map fun (x : Tok) => if x.tok = a.tok then { x with done := true } else x,
      acts := tset {} s1.od.acts key { a with busy := false } } }
    s2.tlyAdd a.src 6 key (if ok then 0 else 1) a.tok (if (resultOf key).isSome then value else 0)
  else s

/-! ## The checks of an access (R431-R433, R620) -/

/-- Is a value in the range of its object's table (R431)? The value of a signed object is read as signed. -/
def chkOk (ty : Ty) (c : Chk) (v : Nat) : Bool :=
  let i : Int := match ty with
    | .i16 => sgn 16 v
    | .i32 => sgn 32 v
    | _ => v
  (match ty with
    | .bool => decide (v ≤ 1)
    | _ => true) &&
  match c with
  | .any => true
  | .range lo hi => decide (lo ≤ i ∧ i ≤ hi)
  | .orElse a lo hi => decide (i = a ∨ (lo ≤ i ∧ i ≤ hi))
  | .mult lo hi m => decide (lo ≤ i ∧ i ≤ hi ∧ i % m = 0)
  | .oneOf l => l.contains i

/-- Is every zone stopped, so that the zone engine array is (R221, R432)? -/
def State.zonesStopped (s : State) : Bool := (List.range 192).all fun z => s.r (Reg.zbZONE_RUN z) = 0

/-- Is a bank ARMED or FOLLOW (R282)? (BANK_STATE 3 FOLLOW, 4 ARMED). -/
def State.bankRuns (s : State) (b : Nat) : Bool := let v := s.r (Reg.bkBANK_STATE b); v = 3 || v = 4

/-- Is the block that owns an RWS object stopped (R432)? -/
def State.ownerStopped (s : State) (idx : Nat) : Bool :=
  if 0x1110 ≤ idx ∧ idx < 0x1118 then s.r (Reg.mapMAP_ENABLE (idx - 0x1110)) = 0
  else if idx = 0x2000 then s.zonesStopped
  else if 0x3400 ≤ idx ∧ idx < 0x3480 then s.r (Reg.stRUN ((idx - 0x3400) / 16)) = 0
  else if 0x3480 ≤ idx ∧ idx < 0x3484 then
    (List.range 8).all fun st => s.r (Reg.stRUN st) = 0 || decide (s.r (Reg.stENC_SEL st) ≠ idx - 0x3480)
  else if idx = 0x3488 then s.r Reg.covCOV_ENABLE = 0
  else if 0x4000 ≤ idx ∧ idx < 0x4480 then s.r (Reg.zbZONE_RUN ((idx - 0x4000) / 6)) = 0
  else if 0x5000 ≤ idx ∧ idx < 0x50C0 then !s.bankRuns ((idx - 0x5000) / 8)
  else true

/-- DBG_LOCK: 0 open, 1 locked, 2 unlocked, 3 lockout (R591, R574, R579). -/
def State.dbgLock (s : State) : Nat :=
  if s.fac.lifeCycle ≠ 2 then 0
  else if s.tap.unlocked then 2
  else match s.tap.lockout with
    | some t => if s.up < t then 3 else 1
    | none => 1

/-- May the debug port make accesses? -/
def State.dbgOpen (s : State) : Bool := s.dbgLock = 0 || s.dbgLock = 2

/-- May the source write or trigger the object (R433, R498, R577, R591)? -/
def State.mayWrite (s : State) (src key : Nat) : Bool :=
  if 0x6000 ≤ key / 256 ∧ key / 256 ≤ 0x60FF then src = 0x40 && s.dbgOpen
  else if key = Reg.lcOWNER_KEY ∧ s.fac.lifeCycle = 2 then src = 0x40 && s.dbgOpen
  else if key = Reg.lcOWNER_KEY ∧ s.fac.lifeCycle = 3 then false
  else if src = 0 then !(s.follower && replicated key)
  else if src = 0x40 then s.dbgOpen
  else if src = 0x41 then s.follower && replicated key
  else false

/-- May the source read the object (R433, R591)? -/
def State.mayRead (s : State) (src key : Nat) : Bool :=
  if 0x6000 ≤ key / 256 ∧ key / 256 ≤ 0x60FF then src = 0x40 && s.dbgOpen
  else if src = 0x40 then s.dbgOpen
  else decide (src ≤ 63 ∨ src = 0x41)

/-- Is the epoch of a write or action from node 0 stale (R485)? -/
def State.staleEpoch (s : State) (o : Origin) : Bool := s.pair.mode && decide (o.src = 0 ∧ o.epoch < s.epoch)

/-- Status codes of R436. -/
def stOK : Nat := 0x00
/-- NOT_AVAILABLE and the others by their numbers. -/
def stBadValue : Nat := 0x15

/-- The checks of R620 for a write or an action of one object, in their order: the first that fails, else OK. -/
def State.accCheck (s : State) (o : Origin) (key len v : Nat) (rel : Bool) : Nat :=
  if !indexExists (key / 256) then 0x10 else
  if key % 256 = 0 then (if s.mayWrite o.src key then (if s.staleEpoch o then 0x19 else 0x12) else 0x18) else
  match rowAt key with
  | none => 0x11
  | some row =>
    if !s.mayWrite o.src key then 0x18
    else if s.staleEpoch o then 0x19
    else if row.acc = .ro then 0x12
    else if row.ty = .block then 0x17
    else if len ≠ row.ty.size ∨ 256 ^ len ≤ v then 0x16
    else if row.acc = .rws ∧ !s.ownerStopped (key / 256) then 0x14
    else if row.acc = .act ∧ s.actBusy key then 0x1A
    else if row.acc ≠ .act ∧ !(chkOk row.ty row.chk v && rel) then 0x15
    else 0

/-- Record the outcome of an access that a command of its own makes. -/
def State.answer (s : State) (status token : Nat) : State := { s with od := { s.od with rsp := ⟨status, token, []⟩ } }

/-- Every write that returned OK: its entry, ahead of any that the value brings about (R463), the partner, and record 0x10 (R435,
R498, R539). Breakpoints follow the effect. -/
def State.wrote (s : State) (src kind key len v : Nat) : State :=
  let s1 := (s.toADie key).tlyAdd src kind key 0 0 v
  let s2 := s1.forward src key 0 (leBytes len v)
  s2.when (keptKeys.contains key) fun t => t.nvmRecord 0x10 4 t.settingsData .none

/-- Size of a key's type. -/
def keySize (key : Nat) : Nat := match rowAt key with
  | some r => r.ty.size
  | none => 0

/-- A write of one register by a command of its own: the checks, then what the chapter makes of the value (a refusal status or
the new state), then what follows every write. -/
def State.writeBy (s : State) (o : Origin) (key v : Nat) (rel : Bool) (f : State → Nat ⊕ State) : State :=
  let st := s.accCheck o key (keySize key) v rel
  if st ≠ 0 then s.answer st 0
  else match f ((s.w key v).wrote o.src 1 key (keySize key) v) with
    | .inl e => s.answer e 0
    | .inr t => (t.bpWrite key).answer 0 0

/-- An action by a command of its own: the checks, the token, then the action itself. -/
def State.actBy (s : State) (o : Origin) (key v : Nat) (f : State → State) : State :=
  let st := s.accCheck o key (keySize key) v true
  if st = 0x1A then s.answer st (s.act key).tok
  else if st ≠ 0 then s.answer st 0
  else f (s.actStart o.src key v (keySize key))

end Sys2Proof.Machine
end

