-- ==== Sys2Proof/Machine/Link.lean ====
section
/-! DEFINITION. The head link below the attach: packets in and out, the one outstanding command, the time fit, SETTINGS, and the
parameter sets a commit arms (R36-R54, R78, R84, R113-R117). -/

namespace Sys2Proof.Machine

/-! ## A head's parts of the state -/

/-- Link engine of head h. -/
def State.hd (s : State) (h : Nat) : Head := tget {} s.heads h
/-- Replace it. -/
def State.wHd (s : State) (h : Nat) (x : Head) : State := { s with heads := tset {} s.heads h x }
/-- Reception state of head h. -/
def State.hr (s : State) (h : Nat) : HeadRx := tget {} s.hrx h
/-- Replace it. -/
def State.wHr (s : State) (h : Nat) (x : HeadRx) : State := { s with hrx := tset {} s.hrx h x }
/-- Pipeline h. -/
def State.pipe (s : State) (h : Nat) : Pipe := tget {} s.pipes h
/-- Replace it. -/
def State.wPipe (s : State) (h : Nat) (x : Pipe) : State := { s with pipes := tset {} s.pipes h x }
/-- Fold state of head h. -/
def State.fold (s : State) (h : Nat) : FoldSt := tget {} s.folds h
/-- Replace it. -/
def State.wFold (s : State) (h : Nat) (x : FoldSt) : State := { s with folds := tset {} s.folds h x }

/-- ATTACH_STATE codes of R85. -/
def atABSENT : Nat := 0
/-- ATTACHING. -/
def atATTACHING : Nat := 1
/-- STANDBY. -/
def atSTANDBY : Nat := 2
/-- STREAMING. -/
def atSTREAMING : Nat := 3
/-- REFUSED. -/
def atREFUSED : Nat := 4

/-- ATTACH_STATE of head h. -/
def State.attach (s : State) (h : Nat) : Nat := s.r (Reg.hdATTACH_STATE h)

/-- PIPE_STATE (R134): 0 OFF, 3 HALTED, 4 REFUSING, 1 IDLE, 2 RUNNING. -/
def State.pipeState (s : State) (h : Nat) : Nat :=
  if !s.domUp (5 + h / 8) then 0
  else if s.rb Reg.dbgHALTED_PIPES h then 3
  else if s.attach h = atREFUSED then 4
  else if s.attach h ≠ atSTREAMING then 1
  else 2

/-- FACT_COUNT of the attached head, as SEG_RECORDS reports it. -/
def State.factCount (s : State) (h : Nat) : Nat := s.r (Reg.pcSEG_RECORDS h)

/-! ## Packets (R36-R39) -/

/-- Bytes that the CRC of R38 covers: header and payload. -/
def pktBytes (p : HeadPkt) (ty : Nat) : Bytes :=
  leBytes 4 (p.unknown.getD ty + 2 ^ 8 * p.seq + 2 ^ 16 * p.len + 2 ^ 28 * p.ver) ++ wordBytes p.words

/-- Does a packet's CRC, VER, LEN and TYPE check (R38)? -/
def pktOk (p : HeadPkt) (ty : Nat) : Bool :=
  decide (p.crc = crc32 (pktBytes p ty) ∧ p.ver = 1 ∧ p.len = p.words.length ∧ p.unknown = none)

/-- Payload bytes. -/
def pktData (p : HeadPkt) : Bytes := wordBytes p.words

/-- Is the head lane trained, so that packets arrive on it? -/
def State.laneUp (s : State) (l : Nat) : Bool := decide (s.r (Reg.laneLANE_STATE l) = 4)

/-- Take a packet in: discard and count, or note its SEQ and hand it on (R38). The SEQ of a discarded packet is not noted, so that the
next good one also counts a gap (DESIGN CHOICE, assumption 95). -/
def State.headIn (s : State) (h ty : Nat) (p : HeadPkt) (f : State → State) : State :=
  if !s.laneUp h then s
  else if !pktOk p ty then s.bump (Reg.hcLINK_DISCARD h)
  else
    let x := s.hd h
    let gap := match x.rxSeq with
      | some q => decide (p.seq ≠ (q + 1) % 256)
      | none => false
    let s1 := s.wHd h { x with rxSeq := some p.seq }
    f (s1.when gap fun t => t.bump (Reg.hcSEQ_GAP h))

/-- The words of a byte sequence, zero-padded. -/
def toWords : Bytes → List Nat
  | [] => []
  | a :: t => match t with
    | b :: c :: d :: u => leNat [a, b, c, d] :: toWords u
    | r => [leNat (a :: r)]

/-- Send a packet to the head (R36-R38): the next SEQ of the direction, VER 1 and the CRC. -/
def State.headSend (s : State) (h ty : Nat) (payload : Bytes) : State :=
  let x := s.hd h
  let w := toWords payload
  let p0 : HeadPkt := ⟨x.txSeq, 1, w.length, w, 0, none⟩
  let s1 := s.wHd h { x with txSeq := (x.txSeq + 1) % 256 }
  { s1 with hout := s1.hout ++ [⟨h, { p0 with crc := crc32 (pktBytes p0 ty) }, ty⟩] }

/-! ## Commands (R49-R53) -/

/-- Commands that change the head's state (R51). -/
def changesHead (code : Nat) : Bool := code = 0x05 || code = 0x07 || code = 0x08 || code = 0x09 || code = 0x0B

/-- Reply timeouts of R51, ns. -/
def cmdTimeoutNs (code : Nat) : Nat :=
  if code = 0x02 ∨ code = 0x07 then 5000000
  else if code = 0x05 then 50000000
  else if code = 0x08 then 200000000
  else if code = 0x09 then 100000000
  else 1000000

/-- Send the command packet of c under its request id. -/
def State.cmdPacket (s : State) (h : Nat) (c : HeadCmd) : State :=
  s.headSend h 0x82 (leBytes 1 c.code ++ leBytes 1 c.req ++ leBytes 2 c.args.length ++ leBytes 4 s.epoch ++ c.args)

/-- May a packet that changes the head's state not leave now: a new epoch is being stored (R486)? -/
def State.epochWaits (s : State) (code : Nat) : Bool := changesHead code && s.pair.storing.isSome

/-- Does a follower send no such command (R495)? -/
def State.notSent (s : State) (code : Nat) : Bool := changesHead code && s.follower

/-- Give the next waiting command a fresh request id and send it, if none is outstanding (R53). A command that changes the head
waits while a new epoch is being stored (R486); on a device that has become follower it is given up (R495). -/
def State.headKick (s : State) (h : Nat) : State :=
  let x := s.hd h
  match x.cmd, x.queue.filter fun c => !s.notSent c.code with
  | none, [] => s.wHd h { x with queue := [] }
  | none, c :: q =>
    if s.epochWaits c.code then s
    else
      let c1 := { c with req := (x.reqId + 1) % 256, sentAt := s.up, sent16 := s.clk.ring16, tries := 1 }
      (s.wHd h { x with cmd := some c1, queue := q, reqId := (x.reqId + 1) % 256 }).cmdPacket h c1
  | _, _ => s

/-- Ask for a command. A follower sends no state-changing command (R495), and a head outside a session is sent none but STREAM
stop and standby (R63). -/
def State.headCmd (s : State) (h code : Nat) (args : Bytes) : State :=
  if s.notSent code then s
  else
    let x := s.hd h
    (s.wHd h { x with queue := x.queue ++ [{ code, args }] }).headKick h

/-- STREAM with argument 0 stop, 1 standby, 2 stream. -/
def State.stream (s : State) (h a : Nat) : State := s.headCmd h 0x0B (leBytes 1 a)

/-- SHUTTER with argument 0 open, 1 close. -/
def State.shutter (s : State) (h a : Nat) : State := s.headCmd h 0x09 (leBytes 1 a)

/-! ## The time fit (R44, R45) -/

/-- Mean of a list. -/
def meanQ (l : List Rat) : Rat := if l = [] then 0 else l.foldl (· + ·) 0 / l.length

/-- Least-squares line of head time against ring time: means and slope; slope 1 for a single probe, and where the probes share one
ring time (assumption 95). -/
def fitOf (l : List Probe) : Rat × Rat × Rat :=
  let mx := meanQ (l.map fun p => p.ring)
  let my := meanQ (l.map fun p => (p.head : Rat))
  let sxy := (l.map fun p => (p.ring - mx) * ((p.head : Rat) - my)).foldl (· + ·) 0
  let sxx := (l.map fun p => (p.ring - mx) * (p.ring - mx)).foldl (· + ·) 0
  (mx, my, if sxx = 0 then 1 else sxy / sxx)

/-- Head time that the fit predicts at a ring time. -/
def fitHead (l : List Probe) (x : Rat) : Rat := let (mx, my, b) := fitOf l; my + b * (x - mx)

/-- Ring time of a head time under the fit. -/
def fitRing (l : List Probe) (y : Rat) : Rat := let (mx, my, b) := fitOf l; mx + (y - my) / b

/-- Does the fit give every ring time one head time, so that it converts no head time (assumption 95)? -/
def fitFlat (l : List Probe) : Bool := let (_, _, b) := fitOf l; decide (b = 0)

/-- Ring time now, as an exact number of ns. -/
def State.nowQ (s : State) : Rat := mkRat s.clk.ring16 16

/-- Are frames of head h stamped by the fit (R44, R45)? -/
def State.stampsByFit (s : State) (h : Nat) : Bool := !(s.hd h).probes.isEmpty && !(s.hd h).timeErr

/-- Ring time of a frame's TIMESTAMP, whole ns (R44, R45): to nearest, halves away from zero (DESIGN CHOICE, assumption 95); a fit
of slope 0 gives none, so the stamp is a free value. -/
def State.stampOf (s : State) (h ts : Nat) : Nat :=
  let x := s.hd h
  let q : Rat := if x.probes = [] then s.nowQ
    else if x.timeErr then s.nowQ - x.firstDelay.getD 0
    else fitRing x.probes ts
  if s.stampsByFit h && fitFlat x.probes then s.freeNat % 2 ^ 64 else (roundHA q).toNat % 2 ^ 64

/-- Judge a probe against the fit before it and take it in (R44, R45). -/
def State.probeIn (s : State) (h : Nat) (c : HeadCmd) (headTime turn : Nat) : State :=
  let x := s.hd h
  let sent : Rat := mkRat c.sent16 16
  let d : Rat := (s.nowQ - sent - turn) / 2
  let at_ := sent + d
  let judged := decide (2 ≤ x.probes.length)
  let res : Rat := if judged then (headTime : Rat) - fitHead x.probes at_ else 0
  let big := judged && decide (1000 < |res|)
  let good := if big then 0 else if judged then x.timeGood + 1 else x.timeGood
  let x1 := { x with
    probes := (⟨at_, headTime⟩ :: x.probes).take 8
    firstDelay := some (x.firstDelay.getD d)
    timeErr := big || (x.timeErr && decide (good < 8))
    timeGood := good }
  let s1 := (s.wHd h x1).wi 32 (Reg.hdTIME_RESID h) (roundHA res)
  s1.when big fun t => t.event 0x0103 h (sat2 32 (roundHA res))

/-! ## Parameter sets (R66, R113-R117, R144, R152) -/

/-- A value of a set: key 256 * k + subindex of the object group 0x3000 + k. -/
def PSet.v (p : PSet) (k : Nat) : Nat := tget 0 p.vals k

/-- Keys of the head settings a set carries. -/
def hsSubs : List Nat := [0x101, 0x102, 0x103, 0x104, 0x105, 0x107, 0x10C]
/-- Keys of the pipeline parameters a set carries. -/
def ppSubs : List Nat := (List.range 11).map (0x401 + ·) ++ (List.range 16).map (0x420 + ·)

/-- The register of a set's key for head h. -/
def setKey (h k : Nat) : Nat := 0x300000 + 256 * (8 * h + k / 256) + k % 256

/-- BIAS as a read returns it: the head's default while unset (R87). -/
def State.bias (s : State) (h : Nat) : Nat :=
  let x := s.hd h
  if x.biasSet then s.r (Reg.hsBIAS h) else fld 34 2 x.ident

/-- The shadow values of head h (R113). -/
def State.shadowVals (s : State) (h : Nat) : List (Nat × Nat) :=
  (hsSubs ++ ppSubs).map fun k => (k, if k = 0x105 then s.bias h else s.r (setKey h k))

/-- The shadow values, with the interval no shorter than a cap in force (R519). -/
def State.cappedVals (s : State) (h : Nat) : List (Nat × Nat) :=
  (s.shadowVals h).map fun e => if e.1 = 0x103 then (0x103, max e.2 s.pwr.cap) else e

/-- The SKIM object: 1,024 codes, 128 where never written (R86). -/
def State.skimCodes (s : State) (h : Nat) : Bytes :=
  let b := s.blob (Reg.hsSKIM h)
  if b = [] then List.replicate 1024 128 else padTo 1024 b

/-- Slots that a host commit binds, in the layout of BOUND_SLOTS: the newest complete ones (R152, R160). -/
def State.newestSlots (s : State) (h inv : Nat) : Nat :=
  s.r (Reg.respNEWEST_SLOT h) + 2 * s.r (Reg.invNEWEST_SLOT inv) +
    ((List.range 4).map fun i => 4 * 2 ^ i * s.r (Reg.inkNEWEST_SLOT i)).foldl (· + ·) 0

/-- The next tag of a head (R25): one more than the last allocated, modulo 65,536, skipping 0x0000 and 0xFFFF. -/
def nextTag (t : Nat) : Nat :=
  let n := (t + 1) % 65536
  if n = 0 ∨ n = 0xFFFF then 1 else n

/-- Payload rate of a rate code, bit/s (R365). -/
def rateBps (code : Nat) : Nat :=
  if code = 1 then 1000000000 else if code = 2 then 2500000000 else if code = 3 then 5000000000
  else if code = 4 then 10000000000 else 0

/-- Head lane load L of R84, bit/s. -/
def laneLoad (w h interval : Nat) : Rat :=
  if interval = 0 then 0 else (((2 * w + 34) * h + 104 : Nat) : Rat) * (mkRat 1000000000 interval) * 8 * (mkRat 10039 10000)

/-- Does the load exceed 90 % of the negotiated payload rate (R84)? -/
def State.overLoad (s : State) (h w ht interval : Nat) : Bool :=
  decide ((mkRat 9 10) * rateBps (s.r (Reg.laneRATE_ACTIVE h)) < laneLoad w ht interval)

/-- First native column of a window (R47). -/
def winX0 (native w : Nat) : Nat := (native - w) / 2

/-- The skim codes of a set's window, lowest column first (R46, R78). -/
def State.skimSlice (s : State) (h : Nat) (p : PSet) : Bytes :=
  (p.skim.drop (winX0 (s.r (Reg.hdNATIVE_W h)) (p.v 0x101))).take (p.v 0x101)

/-- What a set makes of the head's window and codes: WIDTH, HEIGHT and the slice of R78. -/
def State.windowOf (s : State) (h : Nat) (p : PSet) : Nat × Nat × Bytes := (p.v 0x101, p.v 0x102, s.skimSlice h p)

/-- Send SETTINGS for a set, with the skim codes when R78 asks for them. A follower sends none (R495); while a new epoch is being
stored they wait for it (R486). -/
def State.sendSettings (s : State) (h : Nat) (p : PSet) : State :=
  if s.follower then s
  else if s.pair.storing.isSome then s.wHr h { s.hr h with staleSettings := true }
  else
    let x := s.hr h
    let sl := s.skimSlice h p
    let full := x.fresh || decide (x.applied ≠ some (s.windowOf h p))
    let s1 := s.wHr h { x with fresh := false }
    s1.headSend h 0x81 (leBytes 2 p.tag ++ leBytes 2 (if full then p.v 0x101 else 0) ++ leBytes 4 s.epoch ++
      leBytes 4 (p.v 0x103) ++ leBytes 4 (p.v 0x104) ++ leBytes 2 (p.v 0x105) ++ leBytes 2 (p.v 0x101) ++ leBytes 2 (p.v 0x102) ++
      leBytes 2 0 ++ (if full then sl else []))

/-- A set as the partner is sent it: time-constant changes go as patch entries of TAU_CODE (R144, R480, R496). -/
def PSet.toMsg (p : PSet) (h : Nat) : SetIn :=
  ⟨Fin.ofNat 32 h, p.tag, p.vals, p.skim, (p.patches.map fun q => (q.index, q.mask, q.record)) ++ p.taus.map fun e => (e.1, 16, e.2 * 2 ^ 46),
    p.subRef, decide (p.kind ≠ .host ∧ p.kind ≠ .attach)⟩

/-- The higher of two tags of a head in the order in which they are allocated; 0 where none has been seen (DEDUCED, assumption 108). -/
def laterTag (a b : Nat) : Nat := if a = 0xFFFF ∨ a = 0 then b else if b = 0 ∨ (a + 65536 - b) % 65536 < 32768 then a else b

/-- Interval of the current set, ns; 0 where there is no current set, so that an armed set is stale at once (DESIGN CHOICE,
assumption 96: R27 names the current set only). -/
def Pipe.curInterval (p : Pipe) : Nat := match p.cur with
  | some c => c.v 0x103
  | none => 0

/-- Has the armed set been outstanding for 8 frame intervals of the current set (R27)? -/
def State.armedStale (s : State) (h : Nat) : Bool :=
  match (s.pipe h).armed with
  | some a => decide (a.armedAt + 8 * (s.pipe h).curInterval ≤ s.now)
  | none => true

/-- Clear a head's staged offsets. -/
def State.dropStage (s : State) (h : Nat) : State :=
  { s with px := { s.px with stage := tkeep (fun k => decide (k / 524288 ≠ h)) s.px.stage } }

/-- Report a superseded or discarded tag once (R27, R117). -/
def State.tagTimeout (s : State) (h tag : Nat) : State := (s.bump (Reg.pkTAG_TIMEOUT h)).event 0x010A h tag

/-- Arm a set: report and discard the one it replaces, publish the tag, send SETTINGS, tell the partner (R25, R27, R117). -/
def State.armSet (s : State) (h : Nat) (p : PSet) : State :=
  let s1 := match (s.pipe h).armed with
    | some a => (s.when (a.offsets && !p.offsets) fun t => t.dropStage h).tagTimeout h a.tag
    | none => s
  let s2 := (s1.wPipe h { s1.pipe h with armed := some p }).w (Reg.hsARMED_TAG h) p.tag
  let s3 := s2.wHr h { s2.hr h with lastTag := if s2.follower then laterTag p.tag (s2.hr h).lastTag else p.tag }
  let s4 := s3.sendSettings h p
  if s4.pair.authority then s4.toPartner (.armedSet s4.epoch (p.toMsg h)) else s4

/-- Discard the armed set without replacing it, reporting its tag (R117, R177). -/
def State.disarm (s : State) (h : Nat) : State :=
  match (s.pipe h).armed with
  | some a => (((s.dropStage h).wPipe h { s.pipe h with armed := none }).w (Reg.hsARMED_TAG h) 0xFFFF).tagTimeout h a.tag
  | none => s

/-- The set of an internal commit (R115, R144, R172, R519): the current set's settings and parameters under the next tag. -/
def State.internalSet (s : State) (h : Nat) (kind : SetKind) (c : PSet) : PSet :=
  { c with tag := nextTag (s.hr h).lastTag, kind, patches := [], offsets := false, taus := [], armedAt := s.now }

/-! ## Coefficient records (R98-R100, R116, R130) -/

/-- Table key of record i of head h. -/
def pxKey (h i : Nat) : Nat := h * 524288 + i

/-- A coefficient record. -/
def State.record (s : State) (h i : Nat) : Nat := tget 0 s.px.seg (pxKey h i)

/-- Fields of a record (R98). -/
def recOffset (r : Nat) : Int := sgn 16 (bits 15 0 r)
/-- GAIN. -/
def recGain (r : Nat) : Nat := bits 27 16 r
/-- DRIFT_A1. -/
def recA1 (r : Nat) : Int := sgn 10 (bits 37 28 r)
/-- DRIFT_A2. -/
def recA2 (r : Nat) : Int := sgn 8 (bits 45 38 r)
/-- TAU_CODE. -/
def recTau (r : Nat) : Nat := bits 53 46 r
/-- CLASS. -/
def recClass (r : Nat) : Nat := bits 57 54 r
/-- PATTERN. -/
def recPattern (r : Nat) : Nat := bits 63 58 r

/-- Replace bits [hi:lo] of a value. -/
def putBits (hi lo v f : Nat) : Nat := v - (bits hi lo v) * 2 ^ lo + (f % 2 ^ (hi + 1 - lo)) * 2 ^ lo

/-- The fields of R98 with their places, in the order of the mask bits of R130. -/
def recFields : List (Nat × Nat) := [(15, 0), (27, 16), (37, 28), (45, 38), (53, 46), (57, 54), (63, 58)]

/-- Write the masked fields of a patch into a record (R116, R130). -/
def patchRecord (r mask new : Nat) : Nat :=
  (recFields.zipIdx).foldl (fun v e => if bit e.2 mask then putBits e.1.1 e.1.2 v (bits e.1.1 e.1.2 new) else v) r

/-- Write one record of the segment; a host write or patch ends a pending repair of its fields only by R357. -/
def State.wRecord (s : State) (h i v : Nat) : State :=
  { s with px := { s.px with seg := tset 0 s.px.seg (pxKey h i) v } }

/-- The first n entries of the PATCH object (R130). -/
def State.patchList (s : State) (h n : Nat) : List Patch :=
  let b := s.blob (Reg.pcPATCH h)
  (List.range n).map fun i => ⟨fld (16 * i) 4 b, fld (16 * i + 4) 4 b % 128, fld (16 * i + 8) 8 b⟩

/-- The persistent list of head h (R119). -/
def State.persist (s : State) (h : Nat) : List Patch := tget [] s.px.persist h

/-- Bytes of a patch entry. -/
def Patch.bytes (p : Patch) : Bytes := leBytes 4 p.index ++ leBytes 4 p.mask ++ leBytes 8 p.record

/-- Replace the persistent list: PERSIST_COUNT and record 0x20 + h (R119, R121, R122, R539). -/
def State.wPersist (s : State) (h : Nat) (l : List Patch) : State :=
  let s1 := { s with px := { s.px with persist := tset [] s.px.persist h l } }
  (s1.w (Reg.pcPERSIST_COUNT h) l.length).nvmRecord (0x20 + h) 4
    (leBytes 2 l.length ++ leBytes 2 0 ++ (l.map Patch.bytes).flatten) .none

/-- Add entries to a list; one for an index already listed replaces it (R119). -/
def persistAdd (l new : List Patch) : List Patch :=
  new.foldl (fun a p => (a.filter fun q => q.index ≠ p.index) ++ [p]) l

/-- CLASS_COUNTS (R129, R131): records per stored CLASS code. -/
def State.recountClasses (s : State) (h : Nat) : State :=
  let n := s.factCount h
  let mine := s.px.seg.filter fun e => e.1 / 524288 = h && decide (e.1 % 524288 < n)
  let cnt (c : Nat) : Nat := (mine.filter fun e => recClass e.2 = c).length + (if c = 0 then n - mine.length else 0)
  s.wBlob (Reg.pcCLASS_COUNTS h) (((List.range 16).map fun c => leBytes 4 (cnt c)).flatten)

end Sys2Proof.Machine
end

