-- ==== Sys2Proof/Machine/Shepherd.lean ====
section
/-! DEFINITION. Shepherd: what a configuration needs, where it is placed, the checks of an admission, the map
(R313-R318, R325-R330, R505). -/

namespace Sys2Proof.Machine

/-- Insertion into a list that is in order under lt. -/
def insertBy {α : Type} (lt : α → α → Bool) (x : α) : List α → List α
  | [] => [x]
  | y :: t => if lt x y then x :: y :: t else y :: insertBy lt x t

/-- Stable insertion sort. -/
def sortBy {α : Type} (lt : α → α → Bool) (l : List α) : List α := l.foldr (insertBy lt) []

/-- Sum of a list of rationals. -/
def sumQ (l : List Rat) : Rat := l.foldl (· + ·) 0

/-- Heads 0-31. -/
def headNos : List Nat := List.range 32
/-- Stations 0-7. -/
def stations : List Nat := List.range 8
/-- Streams 0-63. -/
def streamNos : List Nat := List.range 64

/-! ## What runs (R318) -/

/-- Has the head a placement and a budget share, and is it not shed? -/
def State.placed (s : State) (h : Nat) : Bool := bit h s.shep.admitted && !s.rb Reg.shpSHED_HEADS h

/-- A running station: RUN = 1 and not shed (R318). -/
def State.runs (s : State) (st : Nat) : Bool := decide (s.r (Reg.stRUN st) = 1) && !s.rb Reg.shpSHED_STATIONS st

/-- Is the head between step 7 of a full attach and its attach set, which will take the shadow values (R66, R67)? -/
def State.fitting (s : State) (h : Nat) : Bool :=
  let x := s.hd h
  !x.abbrev_ && decide (x.step = 7 ∨ x.step = 8 ∨ x.step = 11)

/-- Width, height and interval of a head's sets; the shadow values where it has none, or is to take them. -/
def State.formats (s : State) (h : Nat) : List (Nat × Nat × Nat) :=
  let of (p : PSet) : Nat × Nat × Nat := (p.v 0x101, p.v 0x102, p.v 0x103)
  let shadow := (s.r (Reg.hsWIDTH h), s.r (Reg.hsHEIGHT h), s.r (Reg.hsFRAME_INTERVAL h))
  if s.fitting h then [shadow]
  else match (s.pipe h).cur, (s.pipe h).armed with
  | some c, some a => [of c, of a]
  | some c, none => [of c]
  | none, some a => [of a]
  | none, none => [shadow]

/-- Pixel rate of a format, px/s. -/
def pxRate (f : Nat × Nat × Nat) : Rat := if f.2.2 = 0 then 0 else mkRat (f.1 * f.2.1 * 1000000000 : Nat) f.2.2

/-- The format that gives r_h: the one of the larger rate (R318). -/
def State.format (s : State) (h : Nat) : Nat × Nat × Nat :=
  (s.formats h).foldl (fun b f => if pxRate b < pxRate f then f else b) (0, 0, 0)

/-- r_h, px/s. -/
def State.rate (s : State) (h : Nat) : Rat := pxRate (s.format h)

/-- The station a head feeds (R21, R217): the one with a slot that names it. -/
def State.stationOf (s : State) (h : Nat) : Option Nat :=
  stations.find? fun st => (List.range 8).any fun j => s.r (Reg.slotHEAD (8 * st + j)) = h

/-- RAW_DEPTH, 0 while the head's history is shed (R321). -/
def State.rawDepth (s : State) (h : Nat) : Nat := if s.rb Reg.shpSHED_HISTORY h then 0 else s.r (Reg.hintRAW_DEPTH h)
/-- FS_DEPTH, 0 while shed. -/
def State.fsDepth (s : State) (h : Nat) : Nat := if s.rb Reg.shpSHED_HISTORY h then 0 else s.r (Reg.hintFS_DEPTH h)

/-- Bytes of a station's band, window, and web lines per second (R313, R318). -/
def State.bandBytes (s : State) (st : Nat) : Nat := s.r (Reg.sstBAND_LINES st) * s.r (Reg.stMAP_CELLS st) * 6
/-- Bytes of a station window. -/
def State.windowBytes (s : State) (st : Nat) : Nat := 16384 * (64 + 4 * s.r (Reg.stMAP_CELLS st))
/-- Web lines per second at the design speed. -/
def State.lineRate (s : State) (st : Nat) : Rat :=
  if s.r (Reg.stCELL_L st) = 0 then 0 else mkRat (s.r Reg.shpV_MAX * 1000 : Nat) (s.r (Reg.stCELL_L st))

/-- Zones with ZONE_RUN other than 0. -/
def State.runningZones (s : State) : List Nat := (List.range 192).filter fun z => s.r (Reg.zbZONE_RUN z) ≠ 0

/-! ## The pool (R313, R314) -/

/-- Bytes of a pool slot. -/
def slotBytes : Nat := 4194304

/-- Find n contiguous free slots, lowest first. -/
def findSlots (used n : Nat) : Option Nat :=
  (List.range (9 - n)).find? fun j => (List.range n).all fun i => !bit (j + i) used

/-- Mark n slots from j. -/
def markSlots (used j n : Nat) : Nat := (List.range n).foldl (fun u i => setBit (j + i) true u) used

/-- Pool contents: slots used, segments and bands. -/
structure Pool where
  used : Nat := 0
  segs : List (Nat × Nat) := []
  bands : List (Nat × (Nat × Nat)) := []

/-- Place a head's segment in the pool if a slot is free. -/
def Pool.seg (p : Pool) (h : Nat) : Pool :=
  match findSlots p.used 1 with
  | some j => { p with used := markSlots p.used j 1, segs := tset 8 p.segs h j }
  | none => p

/-- Place a band of n slots in the pool if they are free. -/
def Pool.band (p : Pool) (st n : Nat) : Pool :=
  if n = 0 ∨ 8 < n then p else
  match findSlots p.used n with
  | some j => { p with used := markSlots p.used j n, bands := tset (8, 0) p.bands st (j, n) }
  | none => p

/-- Fill the pool afresh (R314). -/
def State.fillPool (s : State) : Pool :=
  let prio (h : Nat) : Nat := s.r (Reg.hintHEAD_PRIO h)
  let a := headNos.filter fun h => s.placed h && decide (s.r (Reg.hintSEG_PREF h) = 1)
  let b := headNos.filter fun h => s.placed h && decide (s.r (Reg.hintSEG_PREF h) = 0)
  let a1 := sortBy (fun x y => decide (prio y < prio x ∨ (prio x = prio y ∧ x < y))) a
  let b1 := sortBy (fun x y => decide (prio y < prio x ∨ (prio x = prio y ∧
    (s.rate y < s.rate x ∨ (s.rate x = s.rate y ∧ x < y))))) b
  let sp (st : Nat) : Nat := s.r (Reg.sintST_PRIO st)
  let c := stations.filter fun st => s.runs st && decide (s.r (Reg.sintBAND_PREF st) ≠ 2)
  let c1 := sortBy (fun x y => decide (sp y < sp x ∨ (sp x = sp y ∧ x < y))) c
  c1.foldl (fun p st => p.band st ((s.bandBytes st + slotBytes - 1) / slotBytes)) ((a1 ++ b1).foldl Pool.seg {})

/-! ## Export groups (R316, R390) -/

/-- UP lanes of group g that have not left the stripe set after a loss, with their rate codes (R390, R392). -/
def State.groupUp (s : State) (g : Nat) : List (Nat × Nat) :=
  ((List.range 4).map fun i => 4 * g + i).filterMap fun x =>
    if s.laneUp (32 + x) && !(tget false s.xp.out x) then some (x, s.r (Reg.laneRATE_ACTIVE (32 + x))) else none

/-- The stripe set of a group: UP lanes at no less than a quarter of the fastest one's rate (R390). -/
def State.stripeSet (s : State) (g : Nat) : List (Nat × Nat) :=
  let u := s.groupUp g
  let top := u.foldl (fun m e => max m (rateBps e.2)) 0
  u.filter fun e => decide (top ≤ 4 * rateBps e.2)

/-- Lane mask of the stripe set. -/
def State.stripeMask (s : State) (g : Nat) : Nat := (s.stripeSet g).foldl (fun m e => setBit (e.1 % 4) true m) 0

/-- A lane's own state. -/
def State.lane (s : State) (l : Nat) : Lane := tget {} s.lanes l
/-- Replace it. -/
def State.wLane (s : State) (l : Nat) (x : Lane) : State := { s with lanes := tset {} s.lanes l x }

/-- CRC-8 of a training word. -/
def wordCrc (w : TrainWord) : Nat := crc8 (leBytes 1 w.ty ++ leBytes 1 w.f0 ++ leBytes 1 w.f1 ++ leBytes 1 w.f2 ++ leBytes 1 w.f3)

/-- A training word goes out on a lane. -/
def State.sendWord (s : State) (l ty f0 f1 f2 f3 : Nat) : State :=
  let w : TrainWord := ⟨ty, f0, f1, f2, f3, 0⟩
  { s with tw := s.tw ++ [(l, { w with crc := wordCrc w })] }

/-- Does a stream run: enabled, placed, not waiting and not dropped? -/
def State.xRuns (s : State) (x : Nat) : Bool :=
  decide (s.r (Reg.strmKIND x) ≠ 0 ∧ s.r (Reg.strmPLACED_GROUP x) ≠ 0xFF ∧
    (s.r (Reg.strmSTREAM_STATE x) = 1 ∨ s.r (Reg.strmSTREAM_STATE x) = 4))

/-- Is the transmitter of export lane x to sleep while the lane is UP: its group has no stream placed, the device is a follower, or the
lane is outside the stripe set (R385, R499)? -/
def State.xIdle (s : State) (x : Nat) : Bool :=
  s.follower || !(bit (x % 4) (s.stripeMask (x / 4))) ||
    !(streamNos.any fun y => s.xRuns y && decide (s.r (Reg.strmPLACED_GROUP y) = x / 4))

/-- The 8 LULL training words that go ahead of TX-Lull (R384). -/
def State.sendLull (s : State) (l : Nat) : State := (List.range 8).foldl (fun t _ => t.sendWord l 0x30 0 0 0 0) s

/-- Export lanes that are UP enter and leave TX-Lull as their groups and the stripe sets say. -/
def State.xLull (s : State) : State :=
  s.each ((List.range 48).filter fun x => s.laneUp (32 + x) && decide ((s.lane (32 + x)).asleep ≠ s.xIdle x)) fun x t =>
    let sleep := t.xIdle x
    (t.wLane (32 + x) { t.lane (32 + x) with asleep := sleep }).when sleep fun u => u.sendLull (32 + x)

/-- Capacity of a group's lanes that are up, bit/s (R330). -/
def State.groupCap (s : State) (g : Nat) : Nat := ((s.stripeSet g).map fun e => rateBps e.2).foldl (· + ·) 0

/-- Capacity that check 2 counts: for a powered-down half, the lanes that would come up (R317). -/
def State.checkCap (s : State) (g : Nat) : Nat :=
  if s.domUp (9 + g / 6) then s.groupCap g
  else ((List.range 4).map fun i =>
    let l := 32 + 4 * g + i
    if s.r (Reg.laneLANE_STATE l) = 6 then 0
    else match tget 0 s.xp.lastRate (4 * g + i) with
      | 0 => rateBps (min (s.r (Reg.laneRATE_MAX l)) (s.r (Reg.laneRATE_CAP l)))
      | c => rateBps c).foldl (· + ·) 0

/-- Capacity that an existing placement counts on: the lanes that are up and, until they have trained or are absent, those that a
powered half is bringing up; an absent lane counts no more while it is tried again (R316, R319, R322). -/
def State.placeCap (s : State) (g : Nat) : Nat :=
  if s.domUp (9 + g / 6) then
    s.groupCap g + ((List.range 4).map fun i =>
      let x := 4 * g + i
      if s.laneUp (32 + x) || tget false s.xp.out x || (s.lane (32 + x)).absentAt.isSome then 0
      else match tget 0 s.xp.lastRate x with
        | 0 => rateBps (min (s.r (Reg.laneRATE_MAX (32 + x))) (s.r (Reg.laneRATE_CAP (32 + x))))
        | c => rateBps c).foldl (· + ·) 0
  else s.checkCap g

/-- Bits per pixel of an export format; raw streams carry 16 (R155, R318). -/
def fmtBits (kind fmt : Nat) : Nat := if kind = 2 then 16 else 16 + 8 * fmt

/-- Load of a stream at a format, bit/s (R318). -/
def State.streamLoad (s : State) (x fmt : Nat) : Rat :=
  let kind := s.r (Reg.strmKIND x)
  let src := s.r (Reg.strmSOURCE x)
  if kind = 1 ∨ kind = 2 then
    let (w, h, i) := s.format src
    if i = 0 then 0
    else (mkRat 1000000000 i) * ((h : Rat) * ((w : Rat) * (mkRat (fmtBits kind fmt) 8) + 16) + 64) * 8
  else if kind = 3 then s.lineRate src * ((80 + 4 * s.r (Reg.stMAP_CELLS src) : Nat) : Rat) * 8
  else if kind = 4 then
    mkRat ((32 * s.runningZones.length + 16) * 8 * 1000000 : Nat) (s.r Reg.opTICK_PERIOD)
  else 0

/-- Streams placed: stream, group and load. -/
abbrev Placing := List (Nat × Nat × Rat)

/-- Load of a group in a placement. -/
def groupLoad (p : Placing) (g : Nat) : Rat := sumQ ((p.filter fun e => e.2.1 = g).map fun e => e.2.2)

/-- Does a load fit into a group beside what it holds (95 % of the capacity, R317)? -/
def fits (cap : Nat → Nat) (p : Placing) (g : Nat) (load : Rat) : Bool :=
  decide (groupLoad p g + load ≤ (mkRat 95 100) * cap g)

/-- The lowest-numbered group in which a stream fits; a pinned one goes to its group only (R316). -/
def State.findGroup (s : State) (cap : Nat → Nat) (p : Placing) (x : Nat) (load : Rat) : Option Nat :=
  let pin := s.r (Reg.strmGROUP_PIN x)
  (List.range 12).find? fun g => (decide (pin = 0xFF ∨ pin = g)) && fits cap p g load

/-- Place streams in descending STREAM_PRIO, then descending load, then ascending number; the second part lists those that found
no group (R316). -/
def State.placeStreams (s : State) (cap : Nat → Nat) (l : List (Nat × Nat)) : Placing × List Nat :=
  let p (x : Nat) : Nat := s.r (Reg.strmSTREAM_PRIO x)
  let e := l.map fun a => (a.1, s.streamLoad a.1 a.2)
  let o := sortBy (fun (a b : Nat × Rat) => decide (p b.1 < p a.1 ∨ (p a.1 = p b.1 ∧ (b.2 < a.2 ∨ (a.2 = b.2 ∧ a.1 < b.1))))) e
  o.foldl (fun acc a => match s.findGroup cap acc.1 a.1 a.2 with
    | some g => (acc.1 ++ [(a.1, g, a.2)], acc.2)
    | none => (acc.1, acc.2 ++ [a.1])) ([], [])

/-- The format a stream runs in: while downgraded the lower one, if FORMAT asks for no less. -/
def State.runFormat (s : State) (x : Nat) : Nat :=
  if s.r (Reg.strmSTREAM_STATE x) = 4 then min (s.r (Reg.strmPLACED_FORMAT x)) (s.r (Reg.strmFORMAT x)) else s.r (Reg.strmFORMAT x)

/-- Enabled streams that are not dropped, with the format they run in. -/
def State.liveStreams (s : State) : List (Nat × Nat) :=
  (streamNos.filter fun x => decide (s.r (Reg.strmKIND x) ≠ 0 ∧ s.r (Reg.strmSTREAM_STATE x) ≠ 3)).map fun x => (x, s.runFormat x)

/-! ## The budgets (R317, R318) -/

/-- Subchannels in service. -/
def State.inService (s : State) : Nat := ((List.range 16).filter fun d => s.rb Reg.memIN_SERVICE d).length

/-- b_h in bits per pixel. -/
def State.bitsPerPx (s : State) (p : Pool) (h : Nat) : Nat :=
  32 + (if tget 8 p.segs h = 8 then 64 else 0) +
  (match s.stationOf h with
    | some st => if s.runs st ∧ (tget (8, 0) p.bands st).2 = 0 then 96 else 0
    | none => 0) +
  (if 0 < s.rawDepth h then 16 else 0) + (if 0 < s.fsDepth h then 16 else 0)

/-- B_req, bytes per second. -/
def State.bReq (s : State) (p : Pool) : Rat :=
  sumQ ((headNos.filter s.placed).map fun h => s.rate h * (mkRat (s.bitsPerPx p h) 8)) +
  sumQ ((stations.filter s.runs).map fun st => s.lineRate st * ((64 + 4 * s.r (Reg.stMAP_CELLS st) : Nat) : Rat)) + 4000000000

/-- B_d, bytes per second. -/
def State.bD (s : State) : Rat := 64 * 1000000 * (s.r Reg.memRATE_ACTIVE : Rat) * (mkRat s.inService 16) * (mkRat 9375 10000)

/-- Bytes of a head's raw history and frame store. -/
def State.historyBytes (s : State) (h : Nat) : Nat :=
  let f := s.format h
  (s.rawDepth h + s.fsDepth h) * f.1 * f.2.1 * 2

/-- Bytes of the region 1 items in DRAM: bands, windows, histories and stores. -/
def State.region1 (s : State) (p : Pool) : Nat :=
  ((stations.filter s.runs).map fun st =>
    s.windowBytes st + if (tget (8, 0) p.bands st).2 = 0 then s.bandBytes st else 0).foldl (· + ·) 0 +
  ((headNos.filter s.placed).map s.historyBytes).foldl (· + ·) 0

/-- Bytes of the coverage store. -/
def State.covBytes (s : State) : Nat :=
  if s.r Reg.covCOV_ENABLE = 1 then s.r Reg.covCOV_DEPTH * s.r Reg.covCOV_COLS * 2 else 0

/-- Bytes of region 0 in DRAM. -/
def State.region0 (s : State) (p : Pool) : Nat :=
  ((headNos.filter s.placed).map fun h => s.factCount h * (5 + if tget 8 p.segs h = 8 then 8 else 0)).foldl (· + ·) 0

/-- C_req, bytes: the zone delay histories always count. -/
def State.cReq (s : State) (p : Pool) : Nat := s.region0 p + s.region1 p + s.covBytes + 192 * 16384 * 16

/-- C_avail, bytes. -/
def State.cAvail (s : State) : Rat := (s.r Reg.memCAPACITY : Rat) * 1073741824 * (mkRat s.inService 16) * (mkRat 9375 10000) - 1073741824

/-- Lanes in service (R318). -/
def State.lanesInService (s : State) (pl : Placing) : Nat :=
  8 + (headNos.filter fun h => decide (s.blob (Reg.hdBOUND_SERIAL h) ≠ []) && decide (s.attach h ≠ atREFUSED) &&
    !s.rb Reg.shpSHED_HEADS h).length +
  4 * ((List.range 12).filter fun g => pl.any fun e => e.2.1 = g).length +
  (if s.pair.mode || (List.range 4).any fun a => s.r (Reg.auxAUX_MODE a) ≠ 0 then 8 else 0)

/-- Memory channel pairs up: those with a subchannel in service. -/
def State.pairsUp (s : State) : Nat :=
  ((List.range 4).filter fun m => (List.range 4).any fun i => s.rb Reg.memIN_SERVICE (4 * m + i)).length

/-- P_est in W (R318). -/
def State.pEst (s : State) (p : Pool) (pl : Placing) : Rat :=
  7 + (mkRat 16 100) * s.lanesInService pl + (mkRat 45 100) * (sumQ ((headNos.filter s.placed).map s.rate) / 524288000) +
  2 * s.pairsUp + (mkRat 21 1000) * (s.bReq p / 1000000000) + (if p.used = 0 then 0 else 2) +
  (mkRat 3 10) * (stations.filter s.runs).length + (if s.runningZones = [] then 0 else mkRat 16 10) +
  (if (List.range 24).any fun b => s.r (Reg.bkBANK_TYPE b) ≠ 0 then 4 else 0)

/-- The checks 3 and 4 for a configuration. -/
def State.dramFits (s : State) (p : Pool) : Bool × Bool :=
  (decide ((s.cReq p : Rat) ≤ s.cAvail) && decide (s.region1 p ≤ s.r (Reg.rgnSIZE 1)),
   decide (s.bReq p ≤ (mkRat 80 100) * s.bD))

/-- Checks 1 to 5 of a candidate, in their order: the code and instance of the first that fails, 0 when all pass (R317). -/
def State.check (s : State) : Nat × Nat :=
  let p := s.fillPool
  let (pl, bad) := s.placeStreams s.checkCap s.liveStreams
  match (stations.filter s.runs).find? fun st => decide (2048 < s.r (Reg.sstBAND_LINES st)) with
  | some st => (1, st)
  | none => match bad with
    | x :: _ => (2, x)
    | [] =>
      if !(s.dramFits p).1 then (3, 0)
      else if !(s.dramFits p).2 then (4, 0)
      else if (s.r Reg.opPOWER_LIMIT : Rat) < 10 * s.pEst p pl then (5, 0)
      else (0, 0)

/-! ## Publishing a placement (R326, R327, R329, R330) -/

/-- One 16-byte map entry. -/
def mapEntry (kind inst loc unit_ kib load detail : Nat) : Bytes :=
  leBytes 1 kind ++ leBytes 1 inst ++ leBytes 1 loc ++ leBytes 1 unit_ ++ leBytes 4 kib ++ leBytes 4 load ++ leBytes 2 detail ++
    leBytes 2 0

/-- KiB, rounded up. -/
def kib (b : Nat) : Nat := (b + 1023) / 1024

/-- Whole millions of a rate, rounded. -/
def mega (q : Rat) : Nat := (roundHA (q / 1000000)).toNat

/-- Map entries of the heads' items. -/
def State.headEntries (s : State) (p : Pool) : Bytes :=
  (headNos.map fun h =>
    if s.rb Reg.shpSHED_HEADS h then mapEntry 1 h 5 0 0 0 0
    else if !s.placed h then []
    else
      let n := s.factCount h
      let slot := tget 8 p.segs h
      mapEntry 1 h (if slot = 8 then 2 else 1) (if slot = 8 then 0 else slot) (kib (8 * n))
        (if slot = 8 then mega (s.rate h * 8) else 0) 0 ++
      mapEntry 2 h 2 0 (kib (2 * n)) (mega (s.rate h * 4)) 0 ++
      mapEntry 3 h 2 0 (kib (3 * n)) 0 0 ++
      (if s.r (Reg.hintRAW_DEPTH h) = 0 then [] else
        if s.rb Reg.shpSHED_HISTORY h then mapEntry 6 h 5 0 0 0 0
        else mapEntry 6 h 2 1 (kib (s.rawDepth h * (s.format h).1 * (s.format h).2.1 * 2)) (mega (s.rate h * 2)) 0) ++
      (if s.r (Reg.hintFS_DEPTH h) = 0 then [] else
        if s.rb Reg.shpSHED_HISTORY h then mapEntry 7 h 5 0 0 0 0
        else mapEntry 7 h 2 1 (kib (s.fsDepth h * (s.format h).1 * (s.format h).2.1 * 2)) (mega (s.rate h * 2)) 0)).flatten

/-- Map entries of the stations' bands and windows. -/
def State.stationEntries (s : State) (p : Pool) : Bytes :=
  (stations.map fun st =>
    if s.r (Reg.stRUN st) = 0 then []
    else if s.rb Reg.shpSHED_STATIONS st then mapEntry 4 st 5 0 0 0 0 ++ mapEntry 5 st 5 0 0 0 0
    else
      let (j, n) := tget (8, 0) p.bands st
      let feed := sumQ ((headNos.filter fun h => s.placed h && decide (s.stationOf h = some st)).map s.rate)
      mapEntry 4 st (if n = 0 then 2 else 1) (if n = 0 then 1 else j) (kib (s.bandBytes st))
        (if n = 0 then mega (feed * 12) else 0) (n + 16 * s.r (Reg.sstBAND_LINES st)) ++
      mapEntry 5 st 2 1 (kib (s.windowBytes st))
        (mega (s.lineRate st * ((64 + 4 * s.r (Reg.stMAP_CELLS st) : Nat) : Rat))) 0).flatten

/-- Map entries of streams and zones, the coverage store and the delay histories. -/
def State.otherEntries (s : State) (pl : Placing) : Bytes :=
  (if s.covBytes = 0 then [] else mapEntry 8 0 2 2 (kib s.covBytes) 0 0) ++ mapEntry 9 0 2 2 49152 0 0 ++
  (streamNos.map fun x =>
    match pl.find? fun e => e.1 = x with
    | some (_, g, load) => mapEntry 10 x 3 g (s.stripeMask g) (mega load) (s.r (Reg.strmPLACED_FORMAT x))
    | none => if s.r (Reg.strmKIND x) ≠ 0 ∧ s.r (Reg.strmSTREAM_STATE x) = 3 then mapEntry 10 x 6 0 0 0 0 else []).flatten ++
  (s.runningZones.zipIdx.map fun e => mapEntry 11 e.1 4 (e.2 / 12) 0 0 0).flatten

/-- Are items shed, dropped or downgraded? -/
def State.anyShed (s : State) : Bool :=
  decide (s.r Reg.shpSHED_HEADS ≠ 0 ∨ s.r Reg.shpSHED_STATIONS ≠ 0 ∨ s.r Reg.shpSHED_HISTORY ≠ 0) ||
  streamNos.any fun x => let v := s.r (Reg.strmSTREAM_STATE x); v = 3 || v = 4

/-- SHEP_STATE: placing while a candidate waits for the partner, else whether items are shed (R327). -/
def State.shepState (s : State) : Nat := if s.shep.cands ≠ [] then 1 else if s.anyShed then 2 else 0

/-- The engines of the running zones: an assignment applies from the tick start on (R315, R319). -/
def State.engines (s : State) : State :=
  s.each s.runningZones.zipIdx fun e t => t.when (decide (t.r (Reg.zsENGINE e.1) ≠ e.2 / 12)) fun u => u.w (Reg.zsENGINE e.1) (e.2 / 12)

/-- Publish LANES_UP, GROUP_CAP and GROUP_LOAD. -/
def State.groupPublish (s : State) (pl : Placing) : State :=
  s.each (List.range 12) fun g t =>
    t.wAll [(Reg.grpLANES_UP g, t.stripeMask g), (Reg.grpGROUP_CAP g, t.groupCap g / 1000000), (Reg.grpGROUP_LOAD g, mega (groupLoad pl g))]

/-- A head's segment is placed at a location: one that is in use moves by a copy, during which the old copy is read (R324). -/
def State.segmentMove (s : State) (h loc : Nat) : State :=
  let old := s.r (Reg.pcSEG_LOCATION h)
  let x := s.pipe h
  if x.cur.isSome ∧ old ≠ 0 ∧ loc ≠ 0 ∧ loc ≠ old then (if x.copying = 0 then s.wPipe h { x with copying := 1 } else s)
  else State.w (if x.copying = 0 then s else s.wPipe h { x with copying := 0 }) (Reg.pcSEG_LOCATION h) loc

/-- Make a placement the admitted one and publish it in a single update: items, streams, loads and the map. -/
def State.publish (s : State) (cause : Nat) (pl : Placing) (fmt : Nat → Nat) : State :=
  let p := s.fillPool
  let hist := headNos.any fun h => s.placed h && decide (s.r (Reg.hintRAW_DEPTH h) ≠ 0 ∨ s.r (Reg.hintFS_DEPTH h) ≠ 0)
  let s1 := State.touch { s with shep := { s.shep with segs := p.segs, bands := p.bands } }
    (b2n (headNos.any s.placed) + 2 * b2n (hist || stations.any s.runs) + 256 * p.used)
  let s2 := s1.each headNos fun h t => t.segmentMove h (if !t.placed h then 0 else if tget 8 p.segs h = 8 then 2 else 1)
  let s3 := s2.each streamNos fun x t =>
    if t.r (Reg.strmKIND x) = 0 then
      t.wAll [(Reg.strmSTREAM_STATE x, 0), (Reg.strmPLACED_GROUP x, 0xFF), (Reg.strmPLACED_FORMAT x, 0), (Reg.strmLOAD x, 0)]
    else match pl.find? fun e => e.1 = x with
      | some (_, g, load) => t.wAll [(Reg.strmPLACED_GROUP x, g), (Reg.strmLOAD x, mega load), (Reg.strmPLACED_FORMAT x, fmt x),
          (Reg.strmSTREAM_STATE x, if fmt x < t.r (Reg.strmFORMAT x) ∧ t.r (Reg.strmKIND x) = 1 then 4 else 1)]
      | none => t.wAll [(Reg.strmPLACED_GROUP x, 0xFF), (Reg.strmLOAD x, 0),
          (Reg.strmSTREAM_STATE x, if t.r (Reg.strmSTREAM_STATE x) = 3 then 3 else 2)]
  let s5 := s3.groupPublish pl
  let b := s5.bReq p
  let s6 := s5.wAll [(Reg.shpPOOL_SLOTS, p.used), (Reg.shpB_REQ, mega b), (Reg.shpC_REQ, s5.cReq p / 1048576),
    (Reg.shpP_EST, (roundHA (10 * s5.pEst p pl)).toNat), (Reg.shpDRAM_LOAD, if s5.bD = 0 then 0 else (100 * b / s5.bD).floor.toNat)]
  let s7 := s6.wAll [(Reg.rgnUSED 0, s6.region0 p), (Reg.rgnUSED 1, s6.region1 p), (Reg.rgnUSED 2, s6.covBytes + 192 * 16384 * 16)]
  let body : Bytes := s7.headEntries p ++ s7.stationEntries p ++ s7.otherEntries pl
  let s9 : State :=
    if body = s7.shep.entries then s7
    else
      let s8 := (s7.w Reg.shpMAP_SEQ ((s7.r Reg.shpMAP_SEQ + 1) % 2 ^ 32)).w Reg.shpLAST_CAUSE cause
      { s8 with shep := { s8.shep with entries := body, mapTime := s.now } }
  s9.xLull

/-- Bytes of MAP. -/
def State.mapBytes (s : State) : Bytes :=
  leBytes 4 (s.r Reg.shpMAP_SEQ) ++ leBytes 2 (s.shep.entries.length / 16) ++ leBytes 2 0 ++ leBytes 8 s.shep.mapTime ++ s.shep.entries

/-- Admit a candidate whose checks have passed: its placement becomes the admitted one. -/
def State.admitNow (s : State) : State :=
  let s1 := s.w Reg.shpCHECK_RESULT 0
  s1.publish 0 (s1.placeStreams s1.checkCap s1.liveStreams).1 s1.runFormat

/-- Objects of the intents and streams (R328, R329). -/
def placeKeys : List Nat :=
  (headNos.map fun h => [Reg.hintHEAD_PRIO h, Reg.hintSEG_PREF h, Reg.hintRAW_DEPTH h, Reg.hintFS_DEPTH h]).flatten ++
  (stations.map fun st => [Reg.sintST_PRIO st, Reg.sintBAND_PREF st]).flatten ++
  (streamNos.map fun x => [Reg.strmKIND x, Reg.strmSOURCE x, Reg.strmFORMAT x, Reg.strmSTREAM_PRIO x, Reg.strmPOLICY x,
    Reg.strmGROUP_PIN x]).flatten

/-- The candidate's values as the partner is sent them (R325, R480): what runs, the power limit, what is shed, the intents, the streams
and the formats they run in, and the formats of the heads that have a placement. -/
def State.candidateVals (s : State) : List (Nat × Nat) :=
  ((stations.map Reg.stRUN ++ (List.range 192).map Reg.zbZONE_RUN ++
    [Reg.covCOV_ENABLE, Reg.opPOWER_LIMIT, Reg.shpSHED_STATIONS, Reg.shpSHED_HISTORY] ++ placeKeys ++
    (streamNos.map fun x => [Reg.strmSTREAM_STATE x, Reg.strmPLACED_FORMAT x]).flatten).map fun k => (k, s.r k)) ++
  ((headNos.filter s.placed).map fun h =>
    let f := s.format h
    [(Reg.hsWIDTH h, f.1), (Reg.hsHEIGHT h, f.2.1), (Reg.hsFRAME_INTERVAL h, f.2.2)]).flatten

/-- A change is put to the partner: it is the first of those that wait. -/
def State.askPartner (s cand : State) (op : PendOp) : State :=
  State.toPartner { s with shep := { s.shep with cands := (s.up, op) :: s.shep.cands, asked := true } } (.candidate s.epoch cand.candidateVals)

/-- An admission event whose change is made in the candidate (R317, R324, R325): it waits while another placement does; else refuse it
with CHECK_RESULT, put it to the partner, or go on. -/
def State.admission (s cand : State) (op : PendOp) (refuse : State → State) (go : State → State) : State :=
  if s.shep.cands ≠ [] then { s with shep := { s.shep with cands := s.shep.cands ++ [(s.up, op)] } }
  else
    let (code, inst) := cand.check
    if code ≠ 0 then refuse (s.w Reg.shpCHECK_RESULT (code + 256 * inst))
    else if s.partnerUp then s.askPartner cand op
    else go cand.admitNow

end Sys2Proof.Machine
end

