-- ==== Sys2Proof/Machine/Actuation.lean ====
section
/-! DEFINITION. Actuator banks: states and stops, the injector profile, the request queue, the proportional loop, the diagnostic
decisions and closing detection (R255-R312). Times are ns of the device's own time. -/

namespace Sys2Proof.Machine

/-- Bank b. -/
def State.bank (s : State) (b : Nat) : Bank := tget {} s.banks b
/-- Replace it. -/
def State.wBank (s : State) (b : Nat) (x : Bank) : State := { s with banks := tset {} s.banks b x }
/-- Channel n. -/
def State.chan (s : State) (n : Nat) : Chan := tget {} s.chans n
/-- Replace it. -/
def State.wChan (s : State) (n : Nat) (x : Chan) : State := { s with chans := tset {} s.chans n x }
/-- Zone z. -/
def State.zone (s : State) (z : Nat) : Zone := tget {} s.zones z
/-- Replace it. -/
def State.wZone (s : State) (z : Nat) (x : Zone) : State := { s with zones := tset {} s.zones z x }

/-- Banks 0-23. -/
def bankNos : List Nat := List.range 24
/-- Channels of bank b. -/
def chansOf (b : Nat) : List Nat := (List.range 8).map fun p => 8 * b + p
/-- Zones 0-191. -/
def zoneNos : List Nat := List.range 192

/-- The zone that drives a channel: one with ZONE_RUN other than 0 whose CHANNEL names it (R246). -/
def State.zoneOf (s : State) (n : Nat) : Option Nat :=
  zoneNos.find? fun z => decide (s.r (Reg.zoCHANNEL z) = n ∧ s.r (Reg.zbZONE_RUN z) ≠ 0)

/-- A profile object of a variant (0 cold, 1 normal, 2 hot) of bank b (R283). -/
def State.prof (s : State) (b v k : Nat) : Nat := s.r (0x500100 + 2048 * b + 256 * v + k)

/-- ns of a value in 0.1 us. -/
def tenth (v : Nat) : Nat := 100 * v

/-- The bank parameters and profiles as they stand, which an event whose first gate edge comes now runs with (R282, R283). -/
def State.parNow (s : State) (b : Nat) : EvPar :=
  { profs := (List.range 3).map fun v => (List.range 11).map fun k => s.prof b v (k + 1)
    gap := s.r (Reg.bkBANK_GAP b), iEnd := s.r (Reg.bkI_END b), vboostMin := s.r (Reg.bkVBOOST_MIN b), iOpen := s.r (Reg.bdgI_OPEN b)
    tOpenChk := s.r (Reg.bdgT_OPEN_CHK b), iOc := s.r (Reg.bdgI_OC b), vDesat := s.r (Reg.bdgV_DESAT b)
    railRise := s.r (Reg.bdgRAIL_RISE b), cdStart := s.r (Reg.bcdCD_START b), cdLen := s.r (Reg.bcdCD_LEN b)
    cdSpan := s.r (Reg.bcdCD_SPAN b), cdThresh := s.r (Reg.bcdCD_THRESH b), cdPol := s.r (Reg.bcdCD_POLARITY b) }

/-- The parameters in force in bank b: those of the event that occupies it, else the registers. -/
def State.par (s : State) (b : Nat) : EvPar := if (s.bank b).occ.isSome then (s.bank b).par else s.parNow b

/-- Profile value .k of the running event's variant (R266, R271). -/
def Bank.p (x : Bank) (k : Nat) : Nat := (x.par.profs.getD x.vari []).getD (k - 1) 0

/-! ## Gates (R257, R266, R476, R612) -/

/-- The gate outputs of a bank: released, or driven with the low sides of the mask, the boost and the hold high side. -/
inductive Gates where
  | released
  | driven (ls : Nat) (hb hh : Bool)
  deriving DecidableEq, Repr

/-- Is low side n commanded on? In a PWM period its on-time ends at duty × period (R279). -/
def State.lowOn (s : State) (n : Nat) : Bool :=
  bit (n % 8) (s.bank (n / 8)).ls && match (s.chan n).offAt with
    | some t => decide (s.up < t)
    | none => true

/-- The low sides of bank b that are on. -/
def State.lsOn (s : State) (b : Nat) : Nat := (List.range 8).foldl (fun m p => setBit p (s.lowOn (8 * b + p)) m) 0

/-- The gate outputs of bank b as they stand (R259, R476). -/
def State.gates (s : State) (b : Nat) : Gates :=
  let x := s.bank b
  if (s.pair.mode && !s.auth) || x.hiZ || !s.domUp 19 || s.r (Reg.bkBANK_TYPE b) = 0 then .released
  else if s.r (Reg.bkBANK_STATE b) = 0 then .driven 0 false false
  else .driven (s.lsOn b) x.hb x.hh

/-- The output GLS_n: released, low, on, or driven by the active drain clamp. -/
inductive Gls where
  | released
  | low
  | on
  | clamp
  deriving DecidableEq, Repr

/-- Drain voltage, mV, at which the clamp of channel n acts: within 72 V ± 4 V (R257; where in it is open). -/
def clampMv (n : Nat) : Nat := 68000 + Config.drainClamp n % 8001

/-- Do the drain clamps of bank b have power: PD19 is up and the bank is in use, or was so when the reset that is still asserted came
(R257, R507)? -/
def State.clampOn (s : State) (b : Nat) : Bool := (s.domUp 19 && decide (s.r (Reg.bkBANK_TYPE b) ≠ 0)) || bit b s.d2d.clamps

/-- GLS_n with the drain at `vds` mV: the clamp of a bank in use acts whenever its low side is not on, also where the gate outputs are
otherwise released, and during a reset (R257). -/
def State.gls (s : State) (n vds : Nat) : Gls :=
  let clamps := s.clampOn (n / 8) && decide (clampMv n ≤ vds)
  match s.gates (n / 8) with
  | .driven ls _ _ => if bit (n % 8) ls then .on else if clamps then .clamp else .low
  | .released => if clamps then .clamp else .released

/-- Set low side n and the two high sides of its bank, noting the edges. -/
def State.drive (s : State) (n : Nat) (ls hb hh : Bool) : State :=
  let b := n / 8
  let x := s.bank b
  let hs := hb != x.hb || hh != x.hh
  let y := { x with
    ls := setBit (n % 8) ls x.ls
    hb := hb
    hh := hh
    hbOn := if hb && !x.hb then some s.up else x.hbOn
    hsAt := if hs then s.up else x.hsAt
    hhAt := if hh != x.hh then s.up else x.hhAt
    edgeAt := if hs || ls != bit (n % 8) x.ls then s.up else x.edgeAt }
  let s1 := s.wBank b y
  if ls && !bit (n % 8) x.ls then s1.wChan n { s1.chan n with lsAt := s.up } else s1

/-- Every gate of a bank off. -/
def State.allOff (s : State) (b : Nat) : State :=
  s.wBank b { s.bank b with ls := 0, hb := false, hh := false, hsAt := s.up, hhAt := s.up, edgeAt := s.up }

/-! ## Coil temperature (R270, R271) -/

/-- Band after one transition: 0 cold, 1 normal, 2 hot. -/
def bandStep (v : Nat) (t cold hot : Int) : Nat :=
  if v = 1 ∧ t ≤ cold then 0 else if v = 0 ∧ cold + 50 ≤ t then 1
  else if v = 1 ∧ hot ≤ t then 2 else if v = 2 ∧ t ≤ hot - 50 then 1 else v

/-- The transitions until none applies. -/
def bandOf (v : Nat) (t cold hot : Int) : Nat :=
  bandStep (bandStep (bandStep (bandStep v t cold hot) t cold hot) t cold hot) t cold hot

/-- T_est in 0.1 degC (R270). -/
def coilEst (r ref : Nat) (tRef : Int) : Rat := (tRef : Rat) + 10 * (mkRat r ref - 1) / (mkRat 393 100000)

/-- Take a new R_est of channel n. -/
def State.coil (s : State) (n r : Nat) (injector : Bool) : State :=
  let old := s.ri 16 (Reg.chsCOIL_T n)
  let te := coilEst r (s.r (Reg.chCOIL_RES_REF n)) (s.ri 16 (Reg.chCOIL_T_REF n))
  let t := if old = -32768 then roundHA te else roundHA ((old : Rat) + (te - old) / 4)
  let s1 := (s.w (Reg.chsCOIL_RES n) (min 65535 r)).wi 16 (Reg.chsCOIL_T n) t
  if injector then
    s1.w (Reg.chsVARIANT n) (bandOf (s1.r (Reg.chsVARIANT n)) (s1.ri 16 (Reg.chsCOIL_T n)) (s1.ri 16 (Reg.chT_COLD n))
      (s1.ri 16 (Reg.chT_HOT n)))
  else s1

/-! ## The queue (R272-R276) -/

/-- Publish QUEUE_DEPTH and the CH_STATE of a channel that is idle or queued. -/
def State.queuePub (s : State) (b : Nat) : State :=
  let x := s.bank b
  let s1 := s.w (Reg.bstQUEUE_DEPTH b) ((x.queue.filter fun q => !q.re).length)
  s1.each (chansOf b) fun n t =>
    let v := t.r (Reg.chsCH_STATE n)
    t.when (decide (v ≤ 1)) fun u => u.w (Reg.chsCH_STATE n) (b2n (x.queue.any fun q => decide (q.ch = n) && !q.re))

/-- A request is lost: BANK_OVERLAP of channel and bank, and DROPPED for a test pulse (R274, R287). -/
def State.dropReq (s : State) (q : Req) : State :=
  let s1 := (s.bump (Reg.chsBANK_OVERLAP q.ch)).bump (Reg.bstBANK_OVERLAP (q.ch / 8))
  s1.when q.test fun t => t.actDone (Reg.chTEST_PULSE q.ch) 4 false

/-- Does request p stand before q in the queue order (R273)? -/
def Req.before (p q : Req) : Bool :=
  decide (q.prio < p.prio) || (decide (p.prio = q.prio) && (decide (p.made < q.made) ||
    (decide (p.made = q.made) && (decide (p.ts < q.ts) || (decide (p.ts = q.ts) && decide (p.ch < q.ch))))))

/-- The first eligible request in queue order. -/
def State.firstEligible (s : State) (b : Nat) : Option Req :=
  (sortBy Req.before ((s.bank b).queue.filter fun q => decide (q.ts ≤ s.up))).head?

/-- Is a fault latched on the channel, or NO_CURRENT pending, so that no request is made (R298, R299)? -/
def State.chFaulty (s : State) (n : Nat) : Bool := decide (s.r (Reg.chdCH_FAULT n) ≠ 0)

/-- Make a request for channel n (R264, R274, R275). -/
def State.request (s : State) (q : Req) : State :=
  let b := q.ch / 8
  let x := s.bank b
  let mode := s.r (Reg.chMERGE_MODE q.ch)
  let running := decide (x.occ = some q.ch)
  if running ∧ mode = 1 ∧ x.decayAt = none ∧ q.ts ≤ x.endAt + tenth (s.r (Reg.chMERGE_WIN q.ch)) ∧ s.up + 2000 ≤ x.endAt then
    let e := max x.endAt (q.ts + tenth q.dur)
    let lim := x.edge + tenth (s.r (Reg.chMAX_ON q.ch))
    let s1 := (State.d2dTraffic (s.wBank b { x with endAt := min e lim })).bump (Reg.chsMERGES q.ch)
    let s2 := s1.when (decide (lim < e)) fun t => t.bump (Reg.chsMAX_ON_CUT q.ch)
    s2.when q.test fun t => t.actDone (Reg.chTEST_PULSE q.ch) 0 true
  else
    let q1 := { q with re := running && decide (mode = 2) }
    let old := x.queue.filter fun p => p.ch = q.ch
    let s1 := s.each old fun p t => t.dropReq p
    (s1.wBank b { x with queue := x.queue.filter (fun p => p.ch ≠ q.ch) ++ [q1] }).queuePub b

/-! ## Closing detection (R303-R306) -/

/-- The points of a run of samples, each the sum of a block of 8: eight times the mean that R304 takes. -/
def blockSums : List Int → List Int
  | a :: b :: c :: d :: e :: f :: g :: h :: t => (a + b + c + d + e + f + g + h) :: blockSums t
  | _ => []

/-- The kink among points: index and value of the largest g, the earliest on a tie (R304). -/
def kink (pts : List Int) (m : Nat) (inv : Bool) : Option (Nat × Int) :=
  let n := pts.length
  if n < 2 * m + 1 then none else
  let g (k : Nat) : Int :=
    let v := (pts.getD (k + m) 0 - pts.getD k 0) - (pts.getD k 0 - pts.getD (k - m) 0)
    if inv then -v else v
  (List.range (n - 2 * m)).foldl (fun acc j =>
    let k := j + m
    match acc with
    | none => some (k, g k)
    | some (k0, v0) => if v0 < g k then some (k, g k) else some (k0, v0)) none

/-- A window without a detection (R305). -/
def State.cdMissed (s : State) (n : Nat) : State :=
  let x := s.chan n
  let s1 := (s.w (Reg.chdCLOSE_DELAY n) 0xFFFF).bump (Reg.chdCD_MISS n)
  let lost := decide (16 ≤ x.cdMiss + 1) && !x.cdLost
  (s1.wChan n { x with cdMiss := x.cdMiss + 1, cdLost := x.cdLost || lost }).when lost fun t => t.event 0x0403 n 0

/-- End the window of bank b with the samples of it, mV at 20 MS/s; a cut window without a kink gives no result (R305, R306). -/
def State.cdEnd (s : State) (b : Nat) (samples : List Int) (cut : Bool) : State :=
  match (s.bank b).cd with
  | none => s
  | some c =>
    let s1 := s.wBank b { s.bank b with cd := none }
    match c.openAt with
    | none => s1.bump (Reg.chdCD_CUT c.ch)
    | some o =>
      let full := c.par.cdLen / 4
      let have_ := (blockSums samples).take (if cut then min full ((s.up - o) / 400) else full)
      match kink have_ c.par.cdSpan (decide (c.par.cdPol = 1)) with
      | some (k, v) =>
        if (8 * c.par.cdThresh : Int) ≤ v then
          let ns : Int := (o + 200 + 400 * k : Nat) - (c.durEnd : Int)
          let s2 := s1.w (Reg.chdCLOSE_DELAY c.ch) (clampI 0 65534 (roundHA (mkRat ns 100))).toNat
          (s2.wChan c.ch { s2.chan c.ch with cdMiss := 0, cdLost := false }).bump (Reg.chdCD_DETECT c.ch)
        else if cut then s1.bump (Reg.chdCD_CUT c.ch) else s1.cdMissed c.ch
      | none => if cut then s1.bump (Reg.chdCD_CUT c.ch) else s1.cdMissed c.ch

/-! ## The injector profile (R265-R269, R276) -/

/-- The first gate edge of an event, or of a restart: BOOST begins (R266, R273, R276). An event keeps the parameters of its first gate
edge; a restart selects the variant anew and drops a measurement of the decay it follows (R271, R303). -/
def State.boost (s : State) (n : Nat) (dur : Nat) (restart : Bool) : State :=
  let b := n / 8
  let x := s.bank b
  let y := { x with
    occ := some n, edge := s.up, first := if restart then x.first else s.up, endAt := s.up + tenth dur
    vari := s.r (Reg.chsVARIANT n), par := if restart then x.par else s.parNow b, boostEnd := s.up, decayAt := none, fast := false
    limitAt := none, freeAt := none, noCd := false, cd := none, held := restart && (x.held || decide (5 ≤ x.chops)), chops := 0
    railOk := restart && x.railOk, openDone := restart && x.openDone, cal := none }
  let s1 := (s.wBank b y).w (Reg.chsCH_STATE n) 2
  let s2 := (s1.drive n true true false).d2dTraffic
  if restart then s2.bump (Reg.chsRESTARTS n)
  else ((s2.w (Reg.chsLAST_START n) s.now).bump (Reg.chsEVENTS n)).bump (Reg.bstEVENTS b)

/-- Start the event of a request in a free bank (R273); an open closing-detection window is cut (R306). -/
def State.startEvent (s : State) (q : Req) (pts : List Int) : State :=
  let b := q.ch / 8
  let s1 := s.cdEnd b pts true
  let x := s1.bank b
  let s2 := s1.wBank b { x with queue := x.queue.filter fun p => p.ch ≠ q.ch, test := none }
  let s3 := s2.when q.test fun t => t.actDone (Reg.chTEST_PULSE q.ch) 0 true
  let w := (s3.up - q.ts) / 100
  let s4 := s3.w (Reg.bstWAIT_MAX b) (max (s3.r (Reg.bstWAIT_MAX b)) (min w 0xFFFFFFFF))
  (s4.boost q.ch q.dur false).queuePub b

/-- Start the first eligible request of a free ARMED injector bank. -/
def State.startNext (s : State) (b : Nat) (pts : List Int) : State :=
  if s.r (Reg.bkBANK_STATE b) = 4 ∧ s.r (Reg.bkBANK_TYPE b) = 1 ∧ (s.bank b).occ = none then
    match s.firstEligible b with
    | some q => s.startEvent q pts
    | none => s
  else s

/-- The coil estimate of an event whose HOLD held 4 complete chop cycles, with R_est where it is measured, else free (R270). -/
def State.holdEst (s : State) (n : Nat) (rEst : Option Nat) : State :=
  let x := s.bank (n / 8)
  if x.held || decide (5 ≤ x.chops) then
    let s1 := s.wBank (n / 8) { x with held := false, chops := 0 }
    match rEst with
    | some r => s1.coil n r true
    | none => s1.used.coil n (s.freeNat % 65536) true
  else s

/-- The decay of channel n has ended: low side off, the bank free after BANK_GAP, and a closing-detection measurement where R303
allows one. -/
def State.decayEnded (s : State) (n : Nat) (clean : Bool) (rEst : Option Nat) : State :=
  let b := n / 8
  let s1 := (s.holdEst n rEst).drive n false false false
  let x := s1.bank b
  let cd := if clean && !x.noCd && decide (s.r (Reg.chdCD_ENABLE n) = 1) then
      some (CdWin.mk n s.up x.endAt none x.par) else none
  let s2 := s1.wBank b { x with limitAt := none, freeAt := some (s.up + tenth x.par.gap), cd := cd }
  (s2.w (Reg.chsCH_STATE n) 0).queuePub b

/-- LAST_ON of the running event: its energised time so far (R288). -/
def State.lastOn (s : State) (n : Nat) : State :=
  s.w (Reg.chsLAST_ON n) (min 0xFFFFFFFF ((s.up - (s.bank (n / 8)).first) / 100))

/-- Begin the end decay of the running event (R269), with the current where it is known. -/
def State.startDecay (s : State) (n : Nat) (i : Option Nat) : State :=
  let b := n / 8
  let x := s.bank b
  let d := x.p 9
  let s1 := s.wBank b { x with decayAt := some s.up, fast := decide (d = 1), endAt := min x.endAt s.up }
  let s2 := (s1.lastOn n).w (Reg.chsCH_STATE n) 7
  let s3 := s2.drive n (decide (d ≠ 1)) false false
  match i with
  | some v => if v ≤ x.par.iEnd then s3.decayEnded n true none else s3
  | none => s3

/-- Does the hold high side of a bank go on, or stay on, where a phase in which it chops begins? It has been off for 1 µs (R267). -/
def State.chopOn (s : State) (x : Bank) (i level hyst : Nat) : Bool :=
  decide (i + hyst ≤ level) && (x.hh || s.since x.hhAt 1000)

/-- Enter HOLD. -/
def State.hold (s : State) (n i : Nat) : State :=
  let b := n / 8
  let x := s.bank b
  let on := s.chopOn x i (x.p 7) (x.p 8)
  let s1 := (s.w (Reg.chsCH_STATE n) 6).drive n true false on
  s1.wBank b { s1.bank b with chops := b2n (on && !x.hh) }

/-- Enter PH_DROP, and HOLD at once where I <= I_HOLD already. -/
def State.phDrop (s : State) (n i : Nat) : State :=
  let x := s.bank (n / 8)
  if i ≤ x.p 7 then s.hold n i
  else (s.w (Reg.chsCH_STATE n) 5).drive n (decide (x.p 6 = 0)) false false

/-- Enter PEAK, or PH_DROP where T_PEAK has run out already. -/
def State.peak (s : State) (n i : Nat) : State :=
  let x := s.bank (n / 8)
  if x.boostEnd + tenth (x.p 5) ≤ s.up then s.phDrop n i
  else (s.w (Reg.chsCH_STATE n) 4).drive n true false (s.chopOn x i (x.p 3) (x.p 4))

/-- BOOST ends: FALL, or PEAK at once. -/
def State.fall (s : State) (n i : Nat) : State :=
  let b := n / 8
  let x := s.bank b
  let s1 := (s.wBank b { x with boostEnd := s.up }).drive n true false false
  if i + x.p 4 ≤ x.p 3 then s1.peak n i
  else if x.p 5 = 0 then s1.phDrop n i
  else s1.w (Reg.chsCH_STATE n) 3

/-! ## Leaving ARMED and stopping (R259-R263) -/

/-- A bank leaves ARMED: its queue, carries and accumulators are emptied (R263), and with them what its ticks and PWM periods had
gathered (R292, R296, R309). -/
def State.leaveArmed (s : State) (b : Nat) : State :=
  let s1 := s.each ((s.bank b).queue.filter fun q => q.test) fun q t => t.actDone (Reg.chTEST_PULSE q.ch) 4 false
  let s2 := s1.wBank b { s1.bank b with queue := [], pwmBase := none }
  let s3 := s2.each (chansOf b) fun n t =>
    (t.w (Reg.chsCARRY n) 0).wChan n { t.chan n with
      acc := 0, iSet := 0, iNext := [], frozen := none, railOn := none, offTick := false, periods := 0, allOver := true
      dutySat := false, offAt := none, pwmN := 0 }
  s3.queuePub b

/-- The soft reaction: the end decay of a running event starts, proportional low sides and then every gate go off (R260). -/
def State.softReact (s : State) (b : Nat) : State :=
  let x := s.bank b
  if s.r (Reg.bkBANK_TYPE b) = 1 then
    match x.occ, x.decayAt, x.freeAt with
    | some n, none, none => (s.wBank b { x with noCd := true }).startDecay n none
    | _, _, _ => s
  else
    (s.allOff b).each (chansOf b) fun n t => t.wAll [(Reg.chsCH_STATE n, 0), (Reg.chsI_SET n, 0), (Reg.chsDUTY n, 0)]

/-- The bank with the occupancy that ends now among the spans of the last second (R284). -/
def Bank.freed (x : Bank) (up : Nat) : Bank :=
  { x with
    occ := none, freeAt := none, decayAt := none, limitAt := none
    spans := (x.first, up) :: x.spans.filter (fun (e : Nat × Nat) => up ≤ e.2 + 1000000000) }

/-- The event in a bank ends with a hard reaction (R260, R284, R288): one that runs takes its estimate and its LAST_ON; a closing
measurement of an event that had ended stays (R303). -/
def State.eventCut (s : State) (b : Nat) : State :=
  let x := s.bank b
  match x.occ with
  | some n =>
    let s1 := if x.freeAt = none then (s.holdEst n none).when (decide (x.decayAt = none)) fun t => t.lastOn n else s
    (s1.wBank b ((s1.bank b).freed s.up)).w (Reg.chsCH_STATE n) 0
  | none => s

/-- The hard reaction: every gate off at once (R260). -/
def State.hardReact (s : State) (b : Nat) : State :=
  let s3 := (s.allOff b).eventCut b
  s3.each (chansOf b) fun n t =>
    t.when (decide (t.r (Reg.chsCH_STATE n) = 8)) fun u =>
      u.wAll [(Reg.chsCH_STATE n, 0), (Reg.chsI_SET n, 0), (Reg.chsDUTY n, 0)]

/-- The state a bank has outside ARMED and FOLLOW, by its causes (R259). -/
def restState (causes : Nat) : Nat := if bits 5 0 causes ≠ 0 then 2 else 1

/-- Set stop cause k of a bank, with its reaction (R260, R263). RING_ESTOP, ORDERLY_STOP and HOST reach the A-die as stop messages. -/
def State.bankStop (s : State) (b k : Nat) (hard : Bool) : State :=
  let old := s.r (Reg.bkBANK_STATE b)
  let s0 := s.when (k = 1 || k = 3 || k = 6) State.d2dTraffic
  let s1 := s0.w (Reg.bkSTOP_CAUSE b) (setBit k true (s.r (Reg.bkSTOP_CAUSE b)))
  let s2 := s1.wBank b { s1.bank b with toArm := false, rearm := (s1.bank b).rearm || (k = 2 && decide (3 ≤ old)) }
  if old = 0 then s2
  else
    let s3 := if hard then s2.hardReact b else s2.softReact b
    let s4 := s3.when (decide (old = 4)) fun t => t.leaveArmed b
    let new := restState (s4.r (Reg.bkSTOP_CAUSE b))
    let s5 := s4.w (Reg.bkBANK_STATE b) new
    s5.when (decide (new = 2 ∧ old ≠ 2)) fun t => t.bump (Reg.bstSTOPS b)

/-- Set a stop cause in every bank. -/
def State.stopAll (s : State) (k : Nat) (hard : Bool) : State := s.each bankNos fun b t => t.bankStop b k hard

/-- Authority is lost: every ARMED bank enters FOLLOW with the soft reaction (R262). -/
def State.toFollow (s : State) : State :=
  s.each bankNos fun b t =>
    t.when (decide (t.r (Reg.bkBANK_STATE b) = 4)) fun u =>
      let v := (u.softReact b).leaveArmed b
      (v.wBank b { v.bank b with test := none }).w (Reg.bkBANK_STATE b) 3

/-- Has every event decayed (R497)? -/
def State.quiet (s : State) : Bool := bankNos.all fun b => let x := s.bank b; x.occ = none || x.freeAt.isSome

/-! ## Arming (R242, R261) -/

/-- Is a supply voltage, mV, in the range of R260? -/
def State.suppliesOk (s : State) (b : Nat) : Bool :=
  decide (10500 ≤ s.r Reg.railVGATE ∧ 12000 ≤ s.r Reg.railVHOLD ∧ s.r Reg.railVHOLD ≤ 28000) &&
  (decide (s.r (Reg.bkBANK_TYPE b) ≠ 1) || decide (24000 ≤ s.r Reg.railVBOOST ∧ s.r Reg.railVBOOST ≤ 65000))

/-- Is the release condition of stop cause k met (R18, R260)? -/
def State.released (s : State) (b k : Nat) : Bool :=
  if k = 0 then !s.d2d.stopLow && s.since s.d2d.stopHigh 1000000
  else if k = 1 then s.r Reg.nodeESTOP_ACTIVE = 0
  else if k = 2 then !s.d2d.lost
  else if k = 3 then false
  else if k = 4 then s.suppliesOk b && !s.d2d.vgateLow
  else if k = 5 then s.r (Reg.bdgBANK_FAULT b) = 0
  else true

/-- Has every zone mapped to a channel of the bank passed through its safe state, or ZONE_RUN = 0 (R242)? -/
def State.zonesSafe (s : State) (b : Nat) : Bool :=
  zoneNos.all fun z => decide (s.r (Reg.zoCHANNEL z) / 8 ≠ b ∨ s.r (Reg.zbZONE_RUN z) = 0) || (s.zone z).safeDone

/-- The checks of R261: the result code, 0 when every check passes. -/
def State.armCheck (s : State) (b : Nat) : Nat :=
  if s.r (Reg.bkBANK_TYPE b) = 0 then 1
  else if s.r Reg.opDEVICE_STATE ≠ stRUN then 7
  else if (List.range 7).any fun k => s.rb (Reg.bkSTOP_CAUSE b) k && !s.released b k then 2
  else if !s.suppliesOk b then 3
  else if s.fac.lifeCycle = 3 then 4
  else if !s.zonesSafe b then 5
  else 0

/-- The checks have passed: the causes are cleared and the bank arms at the next tick start. -/
def State.armed (s : State) (b : Nat) : State :=
  let s1 := (s.wBank b { s.bank b with toArm := true, rearm := false, hiZ := false }).w (Reg.bkSTOP_CAUSE b) 0
  if s1.r (Reg.bkBANK_STATE b) = 2 then s1.w (Reg.bkBANK_STATE b) 1 else s1

/-! ## Diagnostics (R294-R302) -/

/-- DIAG_STATE for the partner: every fault and confirmation count that is not at its default (R480). -/
def State.diagMsg (s : State) : State :=
  if s.pair.authority then
    let chs := (List.range 192).filterMap fun n =>
      let f := s.r (Reg.chdCH_FAULT n)
      let c := s.chan n
      if f = 0 ∧ c.obsN = 0 ∧ c.curN = 0 then none else some ⟨n, f, c.obs, c.obsN, c.curN⟩
    let bs := bankNos.filterMap fun b =>
      let f := s.r (Reg.bdgBANK_FAULT b)
      let x := s.bank b
      if f = 0 ∧ x.obsN = 0 then none else some ⟨b, f, x.obs, x.obsN, 0⟩
    s.toPartner (.diagState s.epoch chs bs)
  else s

/-- Latch a bank fault: 1 GND_BANK, 2 SUPPLY_BANK, 3 RAIL_LOW; the lower code is the higher in the order of R300. -/
def State.bankFault (s : State) (b code : Nat) : State :=
  let old := s.r (Reg.bdgBANK_FAULT b)
  if s.follower ∨ (old ≠ 0 ∧ old ≤ code) then s
  else
    let s1 := (s.w (Reg.bdgBANK_FAULT b) code).bump (Reg.bdgBANK_FAULTS b)
    ((s1.bankStop b 5 false).event 0x0402 (0x100 + b) code).diagMsg

/-- The low side of a proportional channel stays off (R298, R299). -/
def State.lowSideOff (s : State) (n : Nat) : State :=
  if s.r (Reg.bkBANK_TYPE (n / 8)) = 2 then
    let x := s.bank (n / 8)
    (s.wBank (n / 8) { x with ls := setBit (n % 8) false x.ls }).w (Reg.chsDUTY n) 0
  else s

/-- A channel fault latches with its reactions (R299). -/
def State.chLatch (s : State) (n code : Nat) : State :=
  let s1 := ((s.w (Reg.chdCH_FAULT n) code).bump (Reg.chdFAULTS n)).w (Reg.chsCARRY n) 0
  ((s1.lowSideOff n).event 0x0402 n code).diagMsg

/-- Latch a channel fault (R299, R300); one that is latched already stands. SHORT_GND latches GND_BANK too. -/
def State.chFault (s : State) (n code : Nat) : State :=
  let old := s.r (Reg.chdCH_FAULT n)
  if s.follower then s
  else
    let s1 := if 1 ≤ old ∧ old ≤ 4 then s else s.chLatch n code
    if code = 2 then s1.bankFault (n / 8) 1 else s1

/-- CONFIRM_N of the bank. -/
def State.confirm (s : State) (b : Nat) : Nat := s.r (Reg.bdgCONFIRM_N b)

/-- A NO_CURRENT observation; at the confirmation it becomes pending (R297, R298). -/
def State.noCurrent (s : State) (n : Nat) : State :=
  if s.follower then s
  else
    let x := s.chan n
    let s1 := s.wChan n { x with curN := x.curN + 1 }
    if s.confirm (n / 8) ≤ x.curN + 1 ∧ s.r (Reg.chdCH_FAULT n) = 0 then
      ((State.lowSideOff (s1.wChan n { x with curN := 0 }) n).w (Reg.chdCH_FAULT n) 5).diagMsg
    else s1

/-- Count an off-state observation of a channel; latch at the confirmation. Observation 0 is a pass. -/
def State.chObs (s : State) (n obs : Nat) (latch : State → State) : State :=
  let x := s.chan n
  let k := if x.obs = obs then x.obsN + 1 else 1
  let s1 := s.wChan n { x with obs := obs, obsN := if obs = 0 then 0 else k }
  if obs ≠ 0 ∧ s.confirm (n / 8) ≤ k then latch s1 else s1

/-- Count a bank observation of the rail-off test; latch at the confirmation. -/
def State.bankObs (s : State) (b obs : Nat) (latch : State → State) : State :=
  let x := s.bank b
  let k := if x.obs = obs then x.obsN + 1 else 1
  let s1 := s.wBank b { x with obs := obs, obsN := if obs = 0 then 0 else k }
  if obs ≠ 0 ∧ s.confirm b ≤ k then latch s1 else s1

/-- Resolve a pending NO_CURRENT by an off-state reading (R298). -/
def State.resolve (s : State) (n vd : Nat) (railOff : Bool) : State :=
  let s1 := s.w (Reg.chdCH_FAULT n) 0
  if vd < 1000 then s1.chFault n 2 else if railOff ∧ 7000 < vd then s1.bankFault (n / 8) 2 else s1.chFault n 1

/-- |a - b| of two readings. -/
def dist (a b : Nat) : Nat := (a - b) + (b - a)

/-- Judge the readings of a rail-off test of channel n, mV: a pending NO_CURRENT is resolved, and the observation counts (R297,
R298). -/
def State.judgeOff (s : State) (n vd vr : Nat) : State :=
  let b := n / 8
  let code := if 7000 < vd then 4 else if vd < 1000 then 3 else if 300 < dist vd vr then 2 else 1
  let s1 := (s.w (Reg.chdLAST_OFF n) code).w (Reg.chdLAST_OFF_TIME n) s.now
  let s2 := s1.when (decide (s.r (Reg.chdCH_FAULT n) = 5)) fun t => t.resolve n vd true
  if code = 4 then (s2.chObs n 0 id).bankObs b 4 fun t => t.bankFault b 2
  else if code = 3 then (s2.chObs n 0 id).bankObs b 3 fun t => t.bankFault b 1
  else if code = 2 then (s2.bankObs b 0 id).chObs n 2 fun t => t.chFault n 1
  else (s2.bankObs b 0 id).chObs n 0 id

/-- Judge the readings of a rail-on test: a low rail latches at once, a pending NO_CURRENT is resolved, and the observation of the
drain counts (R297, R298). -/
def State.judgeOn (s : State) (n vd vr : Nat) : State :=
  let b := n / 8
  let code := if vd < 1000 then 3 else if vd + 300 < vr then 2 else 1
  let s1 := (s.w (Reg.chdLAST_OFF n) code).w (Reg.chdLAST_OFF_TIME n) s.now
  let s2 := s1.when (decide (100 * vr < s.r (Reg.bdgRAIL_RISE b) * s.r Reg.railVHOLD)) fun t => t.bankFault b 3
  let s3 := s2.when (decide (s.r (Reg.chdCH_FAULT n) = 5)) fun t => t.resolve n vd false
  if code = 3 then s3.chObs n 3 fun t => t.chFault n 2
  else if code = 2 then s3.chObs n 2 fun t => t.chFault n 1
  else s3.chObs n 0 id

/-- Is a calibration of a channel of the bank pending? -/
def State.calPending (s : State) (b : Nat) : Bool := s.pwr.calLeft.any fun n => n / 8 = b

/-- Is a rail-off test of the bank allowed (R291, R499)? -/
def State.testOk (s : State) (b : Nat) : Bool :=
  let st := s.r (Reg.bkBANK_STATE b)
  decide (s.r (Reg.bdgDIAG_ENABLE b) = 1) && !s.d2d.lost && !s.follower && decide (s.r (Reg.bkBANK_TYPE b) ≠ 0) &&
  (st = 1 || st = 2 || (st = 4 && decide (s.r (Reg.bkBANK_TYPE b) = 1) && decide ((s.bank b).occ = none) &&
    (s.firstEligible b).isNone)) && !s.calPending b

/-- May a rail-off test of the bank start now: it is allowed, every gate is off and none runs (R289, R291)? -/
def State.testWindow (s : State) (b : Nat) : Bool :=
  let x := s.bank b
  s.testOk b && decide (x.ls = 0) && !x.hb && !x.hh && decide (x.test = none) && decide (x.occ = none)

/-- Apply the bias for the round's next channel, if a test is allowed (R289, R293). -/
def State.startTest (s : State) (b : Nat) : State :=
  let x := s.bank b
  match x.round with
  | n :: _ => if s.testWindow b then s.wBank b { x with test := some (n, s.up) } else s
  | [] => s

/-- The bias is removed and the result discarded; the channel stays in the round (R291). -/
def State.dropTest (s : State) (b : Nat) : State := s.wBank b { s.bank b with test := none }

/-- DIAG_ENABLE goes to 0: the off-state tests of the bank end (R291). -/
def State.diagOff (s : State) (b : Nat) : State :=
  (s.dropTest b).each (chansOf b) fun n t => t.wChan n { t.chan n with railOn := none }

/-! ## When a calibration runs (R307, R309) -/

/-- Is the channel's bank idle for calibration, its ADCs powered (R15, R309, R499)? -/
def State.calIdle (s : State) (n : Nat) : Bool :=
  let b := n / 8
  let x := s.bank b
  let c := s.chan n
  s.domUp 19 &&
  (if s.r (Reg.bkBANK_TYPE b) = 1 then decide (x.occ = none) && (s.firstEligible b).isNone
  else decide (s.r (Reg.bkBANK_STATE b) ≠ 4) ||
    (decide (c.iSet = 0) && c.iNext.all (fun e => decide (e.1 = 0)) && decide (s.r (Reg.chsI_SET n) = 0)) ||
    match c.frozen with
    | some t => decide (s.up ≤ t + 50000)
    | none => false)

/-- A run without channels left ends (R530). -/
def State.calFinish (s : State) : State :=
  if s.r Reg.calCAL_STATE = 1 ∧ s.pwr.calLeft = [] then
    ((s.bump Reg.calCAL_RUNS).wAll [(Reg.calCAL_LAST, s.now), (Reg.calCAL_STATE, 0)]).actDone Reg.calCAL_NOW 0 true
  else s

/-- BANK_TYPE is written: 0 leaves the bank DISARMED and takes its channels out of the run (R259, R507, R530). -/
def State.bankTypeSet (s : State) (b v : Nat) : State :=
  if v ≠ 0 then s
  else
    let s1 := s.wBank b { s.bank b with toArm := false, rearm := false, test := none, cal := none }
    State.calFinish { s1 with pwr := { s1.pwr with calLeft := s1.pwr.calLeft.filter fun n => n / 8 ≠ b } }

/-- The calibration of the bank's next channel that is pending and idle starts, unless one is within its 50 µs (R307). -/
def State.calTry (s : State) (b : Nat) : State :=
  let x := s.bank b
  let free := match x.cal with
    | some (_, t) => s.since t 50001
    | none => true
  if free then
    match (chansOf b).find? fun n => s.pwr.calLeft.contains n && s.calIdle n with
    | some n => s.wBank b { x with cal := some (n, s.up) }
    | none => s.wBank b { x with cal := none }
  else s

/-- The clears that wait for the tick start take effect (R301). -/
def State.diagClears (s : State) : State :=
  let s1 := s.each (List.range 192) fun n t =>
    let x := t.chan n
    if x.clear then
      ((t.wChan n { x with clear := false, obs := 0, obsN := 0, curN := 0 }).w (Reg.chdCH_FAULT n) 0).actDone (Reg.chdDIAG_CLEAR n) 0 true
    else t
  let s2 := s1.each bankNos fun b t =>
    let x := t.bank b
    if x.clear then
      let t1 := ((t.wBank b { x with clear := false, obs := 0, obsN := 0 }).w (Reg.bdgBANK_FAULT b) 0).each (chansOf b) fun n u =>
        let v := u.wChan n { u.chan n with obs := 0, obsN := 0, curN := 0 }
        v.when (decide (v.r (Reg.chdCH_FAULT n) = 5)) fun w => w.w (Reg.chdCH_FAULT n) 0
      t1.actDone (Reg.bdgBANK_DIAG_CLEAR b) 0 true
    else t
  if s2.od.acts = s.od.acts then s2 else s2.diagMsg

/-! ## The proportional loop (R278-R281) -/

/-- The dither triangle of unit peak-to-peak value at x periods, zero mean, rising through 0 at x = 0 (R280). -/
def triangle (x : Rat) : Rat :=
  let f := x - x.floor
  if f < 1 / 4 then 2 * f else if f < 3 / 4 then 1 - 2 * f else 2 * f - 2

/-- Reference current in mA of channel n at a time (R280). -/
def State.iRef (s : State) (n iSet : Nat) : Rat :=
  let b := n / 8
  let full : Rat := s.r (Reg.chI_FULL n)
  let x := (mkRat (s.up + Config.ditherPhase b) 1000000000) * s.r (Reg.prpDITHER_FREQ b) + mkRat (n % 8) 8
  let d := triangle x * full * mkRat (s.r (Reg.prpDITHER_AMP b)) 100
  max 0 (min full ((iSet : Rat) + d))

/-- One update of the loop: new accumulator, duty and whether duty_c left 0 to 65,535, and duty_c > 65,535 with e > 0 (R281). -/
def pwmLoop (kp ki : Nat) (acc : Int) (ref : Rat) (iAvg : Nat) : Int × Nat × Bool × Bool :=
  let e : Rat := ref - iAvg
  let accC : Rat := acc + ki * e
  let dC : Rat := kp * e + accC
  let hi := decide (65535 < dC)
  let lo := decide (dC < 0)
  let keep := (hi && decide (0 < e)) || (lo && decide (e < 0))
  (if keep then acc else clampI 0 65535 (roundHA accC), (clampI 0 65535 (roundHA dC)).toNat, hi || lo, hi && decide (0 < e))

/-- Is the low side driven for a duty at a PWM frequency: on-times below 100 ns are not issued (R279)? -/
def dutyOn (duty freq : Nat) : Bool := decide (100 * 65536 * freq ≤ duty * 1000000000)

/-- Is the period on throughout: an off-time below 100 ns is not issued (R279)? -/
def dutyFull (duty freq : Nat) : Bool := decide ((65536 - duty) * 1000000000 < 100 * 65536 * freq)

/-- Start of the bank's periods in 1/(8 PWM_FREQ) ns: as the bank has it, or so that channel n's period begins now (R279). -/
def State.pwmBase (s : State) (n : Nat) : Int :=
  let b := n / 8
  ((s.bank b).pwmBase).getD ((8 * s.r (Reg.prpPWM_FREQ b) * s.up : Nat) - (1000000000 * (n % 8) : Nat))

/-- Number of the period of channel n, whose start lies p/8 of a period after the bank's, that has begun by now, to 1 ns; none before
the first (R279). -/
def State.pwmIndex (s : State) (n : Nat) : Option Nat :=
  let v : Int := (8 * s.r (Reg.prpPWM_FREQ (n / 8)) * (s.up + 1) : Nat) - (1000000000 * (n % 8) : Nat) - s.pwmBase n
  if v < 0 then none else some (v.toNat / 8000000000)

/-- Own time at which the on-time of period k of channel n ends for a duty (R279). -/
def State.pwmOff (s : State) (n k duty : Nat) : Nat :=
  let start : Int := s.pwmBase n + (1000000000 * (n % 8) + 8000000000 * k : Nat)
  ((65536 * start + (8000000000 * duty : Nat)) / (65536 * 8 * s.r (Reg.prpPWM_FREQ (n / 8)) : Nat)).toNat

/-- Does a new period of the channel begin (R279)? -/
def State.pwmDue (s : State) (n : Nat) : Bool :=
  match s.pwmIndex n with
  | some k => decide ((s.chan n).pwmN ≤ k)
  | none => false

end Sys2Proof.Machine
end

