-- ==== Sys2Proof/Machine/Authority.lean ====
section
/-! DEFINITION. The pair epoch and actuation authority: storing an epoch, demotion, gaining and yielding authority (R476-R497). -/

namespace Sys2Proof.Machine

/-- Store a new epoch; it is used once it is stored (R483). A newer one replaces one that is still waiting. -/
def State.setEpoch (s : State) (e : Nat) (why : EpochFor) : State :=
  State.nvmRecord { s with pair := { s.pair with storing := some (e, why) } } 0x02 1 (leBytes 4 e) (.epoch e)

/-- Clear the authority: the claim stops, ARMED banks follow, the lease ends (R262, R477). -/
def State.dropAuthority (s : State) : State :=
  let s1 := s.toFollow
  let p := { s1.pair with authority := false, toggling := false, claiming := false, leaseEnd := none, leaseSafe := 0 }
  State.xLull ((State.w { s1 with pair := p } Reg.prROLE 1).w Reg.prLEASE_LEFT 0)

/-- Demote the device on seeing epoch e (R484). -/
def State.demote (s : State) (e : Nat) : State :=
  let s1 := s.dropAuthority
  let s2 := { s1 with pair := { s1.pair with demotedSinceLapse := true, handover := 0, handoverEpoch := 0, right := none, again := none } }
  (s2.bump Reg.prDEMOTIONS).event 0x0702 0 e

/-- The highest epoch the device has taken: its own, or one that is still being stored (R483, R484). -/
def State.known (s : State) : Nat := match s.pair.storing with
  | some (q, _) => max q s.epoch
  | none => s.epoch

/-- Is the device demoted by a higher epoch: it holds authority or claims, or its claim lapsed and it has not been demoted since, as on the
return of one that was declared dead (R484, R494)? -/
def State.demotable (s : State) : Bool :=
  s.pair.authority || s.pair.claiming || s.pair.toggling || (decide (s.r Reg.prCLAIM_LAPSED = 1) && !s.pair.demotedSinceLapse)

/-- An epoch is seen in a partner message, a unicast frame from node 0 or a head's SOF or STATUS (R484, R486). While PAIR_MODE is 0
only a head's epoch counts. -/
def State.seeEpoch (s : State) (e : Nat) (fromHead : Bool) : State :=
  if e ≤ s.known then s
  else if !s.pair.mode then (if fromHead then s.setEpoch e .adopt else s)
  else
    let s1 := if s.demotable then s.demote e else s
    s1.setEpoch e .adopt

/-- Send what heads refused for a stale epoch again, and what waited for the epoch (R486). -/
def State.resendStale (s : State) : State :=
  s.each headNos fun h t =>
    let x := t.hr h
    let t1 := t.wHr h { x with stale := none, staleSettings := false }
    let t2 := match x.stale with
      | some c => t1.wHd h { t1.hd h with queue := { c with busy := 0, waiting := none } :: (t1.hd h).queue }
      | none => t1
    let t3 := if x.staleSettings then
        match (t2.pipe h).armed, (t2.pipe h).cur with
        | some p, _ => t2.sendSettings h p
        | none, some p => t2.sendSettings h p
        | none, none => t2
      else t2
    t3.headKick h

/-- The record of an epoch has been stored: enter it as KIND 9, use it, and go on (R483, R486, R488). -/
def State.epochStored (s : State) (e : Nat) : State :=
  let s1 := s.tlyPut ⟨0, s.epoch, 0x42, 9, Reg.prPAIR_EPOCH / 256, Reg.prPAIR_EPOCH % 256, 0, 0, s.epoch * 2 ^ 32 + e, s.now⟩
  let s2 := s1.w Reg.prPAIR_EPOCH e
  match s2.pair.storing with
  | some (q, why) =>
    if q ≠ e then s2
    else
      let s3 := { s2 with pair := { s2.pair with storing := none } }
      match why with
      | .adopt => s3.resendStale
      | .claim =>
        if s3.pair.claiming then
          State.w { s3 with pair := { s3.pair with toggling := true, claimSince := s3.up } } Reg.prROLE 2
        else s3
  | none => s2

/-- Become bellwether (R488, R496): FOLLOW banks arm at the next tick start, and every streaming head is sent STREAM. -/
def State.takeAuthority (s : State) : State :=
  let p := { s.pair with authority := true, claiming := false, leaseEnd := some (s.up + 500000000), right := none, handover := 0 }
  let s1 := State.wAll { s with pair := { p with handoverEpoch := 0, leaseSafe := 0, again := none } }
    [(Reg.prROLE, 3), (Reg.prLAST_TAKEOVER, s.now)]
  let s2 := (s1.bump Reg.prTAKEOVERS).event 0x0701 0 s1.epoch
  let s3 := s2.each bankNos fun b t =>
    t.when (decide (t.r (Reg.bkBANK_STATE b) = 3)) fun u => u.wBank b { u.bank b with toArm := true }
  s3.xLull.each headNos fun h t => t.when (decide (t.attach h = atSTREAMING)) fun u => u.stream h 2

/-- Every event has decayed after an accepted handover: clear the authority and yield (R497). -/
def State.handoverYield (s : State) : State :=
  if s.pair.handover = 2 ∧ s.quiet then
    let s1 := s.dropAuthority
    { s1 with pair := { s1.pair with handover := 3 } }
  else s

end Sys2Proof.Machine
end

