-- ==== Sys2Proof/Machine/Ring.lean ====
section
/-! DEFINITION. The Nirom ring's ports: port state, wrap, Stile outputs, where frames leave, and the rules that every arriving frame
meets (R399-R414). Port 0 is east, port 1 west. -/

namespace Sys2Proof.Machine

/-- A port's own state. -/
def State.port (s : State) (p : Nat) : Port := tget {} s.ring.ports p
/-- Replace it. -/
def State.wPort (s : State) (p : Nat) (x : Port) : State := { s with ring := { s.ring with ports := tset {} s.ring.ports p x } }

/-- The lanes of a port (R399). -/
def portLanes (p : Nat) : List Nat := (List.range 4).map fun i => 80 + 4 * p + i

/-- Are the four lanes UP at 6.25 or 12.5 Gbaud, at one rate and deskewed (R401)? -/
def State.portBonded (s : State) (p : Nat) : Bool :=
  let r := s.r (Reg.laneRATE_ACTIVE (80 + 4 * p))
  (portLanes p).all (fun l => s.laneUp l && decide (s.r (Reg.laneRATE_ACTIVE l) = r)) && decide (3 ≤ r) && (s.port p).deskewed

/-- A RING_STATUS has arrived within 300 µs (R401). -/
def State.portHeard (s : State) (p : Nat) : Bool := match (s.port p).lastStatus with
  | some t => decide (s.up ≤ t + 300000)
  | none => false

/-- PORT_STATE of R426: 0 down, 1 training, 2 up, 3 absent. -/
def State.portNow (s : State) (p : Nat) : Nat :=
  if s.portBonded p then (if s.portHeard p then 2 else 1)
  else if (portLanes p).all fun l => s.r (Reg.laneLANE_STATE l) = 6 then 3
  else if ((portLanes p).any fun l => let v := s.r (Reg.laneLANE_STATE l); 1 ≤ v && v ≤ 3) &&
      ((portLanes p).all fun l => let v := s.r (Reg.laneLANE_STATE l); 1 ≤ v && v ≤ 4) then 1
  else 0

/-- Is the port up? -/
def State.portUp (s : State) (p : Nat) : Bool := decide (s.r (Reg.portPORT_STATE p) = 2)

/-- A port that was up goes down: the device wraps there, a planned unwrap is dropped, and the neighbour is unknown (R409, R411). -/
def State.portDown (s : State) (p : Nat) : State :=
  let x := s.port p
  let s1 := (s.when (!x.wrapped) fun t => t.bump Reg.nodeWRAPS).w (Reg.portNEIGHBOUR p) 0xFF
  s1.wPort p { x with wrapped := true, unwrapAt := 0, nbrUp := false, nbrUnwrap := 0, lastStatus := none, t1 := none }

/-- Is the device out of reset and cut-off, past step 7 of its start-up, and not at the end of an orderly stop, so that its ring ports
may run (R412, R414, R570)? -/
def State.ringMay (s : State) : Bool :=
  s.boot.released.isSome && !s.pwr.cutoff && !s.pwr.stopOver && decide (8 ≤ s.r Reg.rstSTART_STEP)

/-- May Stile hold an element open in this device state (R412)? -/
def State.stileState (s : State) : Bool :=
  let v := s.r Reg.opDEVICE_STATE
  s.ringMay && (v = stSTANDBY || v = stREADY || v = stRUN)

/-- RING_STATE of R425. -/
def State.ringState (s : State) : Nat :=
  let e := s.portUp 0
  let w := s.portUp 1
  let we := (s.port 0).wrapped
  let ww := (s.port 1).wrapped
  if !e && !w then
    (if s.ring.joined then 5
    else if (List.range 2).any fun p => s.r (Reg.portPORT_STATE p) = 1 then 1 else 0)
  else if e && w then (if !we && !ww then 2 else if we && ww then 1 else if we then 3 else 4)
  else if w then 3 else 4

/-- The clock of a ring lane's transmitter: the one recovered from the ring lane that feeds it, of the other port, or of its own while
that port is down or still wrapped onto it; REFCLK_LANE_B while that lane is not locked (R369, R411, R417). -/
def State.laneClock (s : State) (l : Nat) : Option Nat :=
  let p := (l - 80) / 4
  let other := 80 + 4 * (1 - p) + l % 4
  let feed := if s.portUp (1 - p) && !(s.port (1 - p)).wrapped then other else if s.portUp p then l else other
  let v := s.r (Reg.laneLANE_STATE feed)
  if 2 ≤ v ∧ v ≤ 4 then some feed else none

/-- Neighbour frames. -/
def neighbourTy (ty : Nat) : Bool := ty = 0x21 || ty = 0x22 || ty = 0x50

/-- Neighbour frames that wait for a port whose lanes are no longer bonded are dropped (DESIGN CHOICE, assumption 108). -/
def State.dropNeighbour (s : State) : State :=
  { s with ring := { s.ring with txq := s.ring.txq.filter fun g => !neighbourTy g.ty || s.portBonded (g.via.getD 0) } }

/-- Take the ports to what their lanes and neighbours make of them, and publish PORT_STATE, STILE and RING_STATE (R401, R412). -/
def State.ringPub (s : State) : State :=
  let s1 := s.each (List.range 2) fun p t =>
    let v := t.portNow p
    let t1 := if t.portUp p ∧ v ≠ 2 then t.portDown p else t
    let t2 := if v = 2 then { t1 with ring := { t1.ring with joined := true } } else t1
    (t2.w (Reg.portPORT_STATE p) v).w (Reg.portSTILE p) (b2n (t2.stileState && decide (v = 1 ∨ v = 2)))
  let gone := (List.range 2).all fun p => s1.r (Reg.portPORT_STATE p) = 3
  let s2 := if gone then { s1 with ring := { s1.ring with joined := false } } else s1
  let s3 := s2.dropNeighbour.each (portLanes 0 ++ portLanes 1) fun l t => t.wLane l { t.lane l with clock := t.laneClock l }
  s3.w Reg.nodeRING_STATE s3.ringState

/-! ## Frames (R402-R409) -/

/-- The first 14 bytes of a frame's header (R403). -/
def frameHead (f : RingFrame) : Bytes :=
  leBytes 1 f.ty ++ leBytes 1 (f.dst % 128 + 128 * b2n f.wrapped) ++ leBytes 1 (f.src % 128 + 128 * (f.ring % 2)) ++ leBytes 1 f.hops ++
    leBytes 2 f.len ++ leBytes 2 f.seq ++ leBytes 4 f.epoch ++ leBytes 2 f.info

/-- HCRC as it should be. -/
def hcrcOk (f : RingFrame) : Bool := decide (f.hcrc = crc16 (frameHead f))

/-- The CRC-32 of header and payload. -/
def frameSum (f : RingFrame) : Nat := crc32 (frameHead f ++ leBytes 2 (crc16 (frameHead f)) ++ f.payload)

/-- Payload and CRC-32 as they should be. -/
def frameOk (f : RingFrame) : Bool := decide (f.payload.length = 4 * f.len ∧ f.crc = frameSum f)

/-- Give a frame the checks of its contents. -/
def sealFrame (f : RingFrame) : RingFrame :=
  let g := { f with hcrc := crc16 (frameHead f) }
  { g with crc := frameSum g }

/-- The port a frame leaves through that would leave through p: p, the other port when p is down or wrapped, or none; and whether it
is wrapped (R409). -/
def State.exitPort (s : State) (p : Nat) : Option (Nat × Bool) :=
  if s.portUp p && !(s.port p).wrapped then some (p, false)
  else if s.portUp (1 - p) then some (1 - p, true)
  else if s.portUp p then some (p, true)
  else none

/-- A frame leaves through a port; ring A leaves east, ring B west (R399). -/
def State.ringEmit (s : State) (p : Nat) (f : RingFrame) : State :=
  { s with ring := { s.ring with out := s.ring.out ++ [⟨p, f⟩] } }

/-- The device's active address (R415). -/
def State.addr (s : State) : Option Nat := if s.r Reg.nodeACTIVE_ADDR = 0xFF then none else some (s.r Reg.nodeACTIVE_ADDR)

/-- A frame of the device's own, sealed. -/
def State.ownFrame (s : State) (p : Nat) (wrapped : Bool) (g : TxFrame) : RingFrame :=
  sealFrame ⟨⟨p % 2, by omega⟩, g.ty, g.dst, wrapped, s.r Reg.nodeACTIVE_ADDR % 128, p % 2, 127, (g.payload.length + 3) / 4, g.seq, g.epoch,
    g.info, 0, padTo (4 * ((g.payload.length + 3) / 4)) g.payload, 0, false, 0⟩

/-- Queue a neighbour frame for port p in place of one of its type that still waits there (R405, R410, R418). -/
def State.sendPort (s : State) (p : Nat) (sop : Option Nat) (ty : Nat) (payload : Bytes) : State :=
  let q := s.ring.txq.filter fun g => !(decide (g.ty = ty ∧ g.via = some p))
  State.ringQueue { s with ring := { s.ring with txq := q } } (some p) sop ty 0x7F 0 payload

/-- The port through which a waiting frame may leave, and whether it is wrapped: a neighbour frame through its own bonded port only, one
meant for a ring as R409 takes it, any other, once the device has an active address, by the port that is up (R405, R408, R409). -/
def State.leaves (s : State) (g : TxFrame) : Option (Nat × Bool) :=
  match g.via with
  | some p => if neighbourTy g.ty then (if s.portBonded p then some (p, false) else none) else s.exitPort p
  | none => if s.addr.isSome then s.exitPort 0 else none

/-- A frame that leaves now carries the time of its SOP where its type has one: t3 of a DELAY_RSP, taken at the balls, or by the counter
where it was held up (R418). -/
def State.stampSop (s : State) (g : TxFrame) : TxFrame :=
  if g.ty = 0x22 then { g with payload := patchBytes g.payload 8 (leBytes 8 (g.sop.getD s.clk.ring16)) } else g

/-- What the device notes of a frame of its own that has left through p: t1 of a DELAY_REQ (R418). -/
def State.noteSop (s : State) (p : Nat) (g : TxFrame) : State :=
  if g.ty = 0x21 then s.wPort p { s.port p with t1 := some (g.sop.getD s.clk.ring16) } else s

/-- The first frame of the device's own that has a port leaves at an idle gap, or is cut off by a frame to be forwarded and stays where
it is (R408). -/
def State.insertFrame (s : State) (collide : Bool) : State :=
  match s.ring.txq.find? fun g => (s.leaves g).isSome with
  | none => s
  | some g =>
    let (p, w) := (s.leaves g).getD (0, false)
    let f := s.ownFrame p w (s.stampSop g)
    if collide then
      State.ringEmit { s.bump (Reg.portINSERT_ABORT p) with ring := { s.ring with txq := s.ring.txq.replace g { g with sop := none } } } p
        { f with aborted := true }
    else (State.ringEmit { s with ring := { s.ring with txq := s.ring.txq.erase g } } p f).noteSop p g

/-- Types of R405, and those that travel over one link only. -/
def ringTypes : List Nat := [0x01, 0x02, 0x03, 0x04, 0x05, 0x10, 0x20, 0x21, 0x22, 0x30, 0x40, 0x41, 0x48, 0x50, 0x51, 0x60, 0x70]

/-- Forward a frame with one hop fewer, through the port opposite to the one it came by or as R409 wraps it (R406). -/
def State.ringForward (s : State) (f : RingFrame) (payload : Bytes) (bad : Bool) : State :=
  match s.exitPort (1 - f.port.val) with
  | some (p, w) =>
    let g : RingFrame := { f with
      port := ⟨p % 2, by omega⟩, hops := f.hops - 1, wrapped := f.wrapped || w, ring := p % 2,
      payload := payload, aborted := bad }
    (s.bump (Reg.portFORWARDED f.port)).ringEmit p (if bad then { g with hcrc := crc16 (frameHead g) } else sealFrame g)
  | none => s

/-- A frame from node 0 has arrived (R492), and a unicast one for the device shows its epoch (R484). -/
def State.fromMaster (s : State) (f : RingFrame) (mine : Bool) : State :=
  if f.src = 0 then
    let s1 := { s with ring := { s.ring with lastMaster := some s.up } }
    if mine then s1.seeEpoch f.epoch false else s1
  else s

/-- What the device does with a frame that is for it: the new state, and the payload that goes on. -/
abbrev Effect := State → State × Bytes

/-- No effect on the device. -/
def noEffect (f : RingFrame) : Effect := fun s => (s, f.payload)

/-- An effect that leaves the payload as it is. -/
def keepPayload (f : RingFrame) (g : State → State) : Effect := fun s => (g s, f.payload)

/-- Is a frame the device's, which it consumes (R405, R406, R416)? -/
def State.consumes (s : State) (f : RingFrame) : Bool :=
  decide (s.addr = some f.dst) && decide (s.r Reg.nodeADDR_CONFLICT = 0) && ringTypes.contains f.ty

/-- Is a frame forwarded (R406, R409)? -/
def State.forwards (s : State) (f : RingFrame) : Bool :=
  !neighbourTy f.ty && decide (1 < f.hops) && decide (s.addr ≠ some f.src) && !s.consumes f && (s.exitPort (1 - f.port.val)).isSome

/-- Count a frame whose contents fail: CRC_ERR where the device forwards it, ABORTED where it ends in K30.7 and is not in CRC_ERR
already (R404); a frame that is not forwarded, does not end so and fails its CRC-32 counts in CRC_ERR (DESIGN CHOICE, assumption 108). -/
def State.frameFault (s : State) (f : RingFrame) : State :=
  if !(frameOk f) ∧ (s.forwards f ∨ !f.aborted) then s.bump (Reg.portCRC_ERR f.port)
  else if f.aborted then s.bump (Reg.portABORTED f.port)
  else s

/-- The symbols of a frame show how far the port's lanes are apart; 32 symbol times is what the receiver removes (R400, R401). -/
def State.deskew (s : State) (f : RingFrame) : State :=
  let p := f.port.val
  let ok := decide (f.skew ≤ 32)
  if (s.port p).deskewed = ok then s else (s.wPort p { s.port p with deskewed := ok }).ringPub

/-- A frame arrives at a port: the checks of R404 and the rules of R406 in their order. The effect is applied to frames that are the
device's: neighbour frames, unicast frames to its address and broadcast frames. -/
def State.ringIn (s0 : State) (f : RingFrame) (eff : Effect) : State :=
  let s := s0.deskew f
  if !((portLanes f.port).all fun l => s0.laneUp l) then s0
  else if 32 < f.skew then s
  else if !(hcrcOk f) then s.bump (Reg.portHDR_ERR f.port)
  else
    let bad := f.aborted || !(frameOk f)
    let s1 := s.frameFault f
    if neighbourTy f.ty then (if bad then s1 else (eff s1).1)
    else if f.hops ≤ 1 then s1.bump (Reg.portHOPS_EXPIRED f.port)
    else if s1.addr = some f.src then s1.when (decide (f.dst ≠ 0x7F)) fun t => t.bump (Reg.portUNDELIVERED f.port)
    else if s1.consumes f then (if bad then s1 else (eff (s1.fromMaster f true)).1)
    else if bad then s1.ringForward f f.payload true
    else
      let s2 := s1.fromMaster f false
      let (s3, out) := if f.dst = 0x7F ∧ ringTypes.contains f.ty then eff s2 else (s2, f.payload)
      s3.ringForward f out false

end Sys2Proof.Machine
end

