-- ==== Sys2Proof/Machine/ActCmd.lean ====
section
/-! DEFINITION. The commands of the die-to-die link, the stop pins, the bank sequencers, the diagnostics and closing detection
(R16-R19, R255-R309). A command whose condition does not hold changes nothing but the time. -/

namespace Sys2Proof.Machine

/-! ## Die-to-die link and stops (R17-R19, R260, R422, R476) -/

/-- A heartbeat crosses the die-to-die link, every 10 µs while PD18 is up; after a silence of 50 µs a new run of them begins. -/
def State.d2dBeat (s : State) : State :=
  if s.domUp 18 ∧ s.since s.d2d.lastTx 10000 then
    let d := s.d2d
    { s with d2d := { d with
        lastTx := s.up, lastRx := s.up, hbSince := if d.hbSince = none ∨ s.since d.lastTx 50000 then some s.up else d.hbSince } }
  else s

/-- Meaning of D2D_HEARTBEAT_TX. -/
def execD2dHeartbeatTx (dt : Nat) (s : State) : Host.Outcome State Fault Refusal := .next (s.advance dt).d2dBeat

/-- May a handover be accepted (R497)? The partner is connected, in RUN and reports MASTER_OK. -/
def State.handoverCheck (s : State) : Nat :=
  if !(s.pair.mode && s.pair.authority) then 3
  else if !s.partnerUp then 1
  else if bit 2 s.pair.peer.flags ∧ bit 1 s.pair.peer.flags then 0 else 2

/-- The bellwether hands over at the next tick start where it may. -/
def State.offerHandover (s : State) : State :=
  s.when (decide (s.handoverCheck = 0) && decide (s.pair.handover = 0)) fun t => { t with pair := { t.pair with handover := 1 } }

/-- The A-die has heard nothing for 50 µs: every gate off, every queue emptied, D2D_LOSS latched; the bellwether of a pair offers a
handover (R17, R494). -/
def State.d2dLost (s : State) : State :=
  if s.domUp 18 ∧ !s.d2d.lost ∧ s.since s.d2d.lastRx 50000 then
    let s1 := { s with d2d := { s.d2d with lost := true, lossAt := s.up, hbSince := none } }
    ((s1.stopAll 2 true).event 0x0401 0 0).offerHandover
  else s

/-- Meaning of D2D_LOSS. -/
def execD2dLoss (dt : Nat) (s : State) : Host.Outcome State Fault Refusal := .next (s.advance dt).d2dLost

/-- A bank with AUTO_REARM that D2D_LOSS found ARMED or in FOLLOW, and whose only cause is D2D_LOSS, arms again as soon as the checks
of R261 pass (R18, R260, R282). -/
def State.autoRearm (s : State) (b : Nat) : State :=
  if s.r (Reg.bkAUTO_REARM b) = 1 ∧ s.r (Reg.bkSTOP_CAUSE b) = 4 ∧ (s.bank b).rearm ∧ s.armCheck b = 0 then s.armed b else s

/-- The link has carried heartbeats again for 1 ms, and carries them still (R18). -/
def State.d2dBack (s : State) : State :=
  match s.d2d.lost, s.d2d.hbSince with
  | true, some t =>
    if s.since t 1000000 ∧ !s.since s.d2d.lastTx 50000 then
      State.each { s with d2d := { s.d2d with lost := false } } bankNos fun b t => t.autoRearm b
    else s
  | _, _ => s

/-- Meaning of D2D_RECOVERED. -/
def execD2dRecovered (dt : Nat) (s : State) : Host.Outcome State Fault Refusal := .next (s.advance dt).d2dBack

/-- 1 ms after D2D_LOSS a pair device releases the gates of the banks it stopped (R476). -/
def State.d2dRelease (s : State) : State :=
  if s.pair.mode ∧ s.since s.d2d.lossAt 1000000 then
    s.each bankNos fun b t => t.when (t.rb (Reg.bkSTOP_CAUSE b) 2) fun u => u.wBank b { u.bank b with hiZ := true }
  else s

/-- Meaning of GATE_RELEASE_AFTER_D2D_LOSS. -/
def execGateReleaseAfterD2dLoss (dt : Nat) (s : State) : Host.Outcome State Fault Refusal := .next (s.advance dt).d2dRelease

/-- A fresh ESTOP_ID: free, other than 0 and the IDs that have been in use (R421, R422). -/
def State.freshEstop (s : State) : Nat :=
  let l := s.ring.estopUsed ++ s.ring.estops
  let x := s.freeNat % 0xFFFFFFFF + 1
  if l.contains x then (((List.range (l.length + 1)).map (· + 1)).find? fun i => !l.contains i).getD 1 else x

/-- An ESTOP of the device's own is to leave on both rings, ahead of its other frames (R408, R409, R421, R422). -/
def State.ownEstop (s : State) : State :=
  let id := s.freshEstop
  let body := leBytes 4 id ++ leBytes 1 (s.r Reg.nodeACTIVE_ADDR) ++ leBytes 1 1 ++ leBytes 2 0 ++ leBytes 8 s.now
  State.each { s.used with ring := { s.ring with estopUsed := s.ring.estopUsed ++ [id] } } (List.range 2) fun p t =>
    t.ringQueue (some p) none 0x40 0x7F 0 body

/-- STOP_N goes low: from 40 ns on it stops every bank; whether a shorter pulse does is left open (R260). -/
def State.stopLow (s : State) (width : Nat) : State :=
  let s0 := if width < 40 then s.used else s
  if 40 ≤ width ∨ Config.freeBool s.free then
    let s1 := { s0 with d2d := { s0.d2d with stopLow := true } }
    let s2 := s1.stopAll 0 true
    s2.when (decide (40 ≤ width ∧ s2.r Reg.nodeESTOP_ON_STOPN = 1)) State.ownEstop
  else s0

/-- Meaning of STOP_N_LOW. -/
def execStopNLow (dt : Nat) (width : Nat) (s : State) : Host.Outcome State Fault Refusal := .next ((s.advance dt).stopLow width)

/-- STOP_N goes high again. -/
def State.stopRelease (s : State) : State :=
  if s.d2d.stopLow then { s with d2d := { s.d2d with stopLow := false, stopHigh := s.up } } else s

/-- Meaning of STOP_N_RELEASE. -/
def execStopNRelease (dt : Nat) (s : State) : Host.Outcome State Fault Refusal := .next (s.advance dt).stopRelease

/-- VGATE below 10.5 V stops every bank at once (R260). -/
def State.vgate (s : State) (mv : Nat) : State :=
  if mv < 10500 then State.stopAll { s with d2d := { s.d2d with vgateLow := true } } 4 true else s

/-- Meaning of VGATE_LOW. -/
def execVgateLow (dt : Nat) (mv : Nat) (s : State) : Host.Outcome State Fault Refusal := .next ((s.advance dt).vgate mv)

/-- A floating supply below 9.0 V for 2 µs turns its high side off (R612). -/
def State.floatLow (s : State) (b : Nat) (boost : Bool) (mv dur : Nat) : State :=
  let x := s.bank b
  if mv < 9000 ∧ 2000 ≤ dur ∧ (if boost then x.hb else x.hh) then
    s.wBank b { x with hb := x.hb && !boost, hh := x.hh && boost, hsAt := s.up, hhAt := if boost then x.hhAt else s.up, edgeAt := s.up }
  else s

/-- Meaning of FLOATING_SUPPLY_LOW. -/
def execFloatingSupplyLow (dt : Nat) (b : Fin 24) (boost : Bool) (mv dur : Nat) (s : State) : Host.Outcome State Fault Refusal :=
  .next ((s.advance dt).floatLow b boost mv dur)

/-! ## Arming (R261) -/

/-- The ARM action with a value: 1 arms when every check passes, 0 sets cause [6], any other is BAD_VALUE. -/
def State.armRun (s : State) (b v : Nat) : State :=
  if v = 1 then
    if s.bankRuns b then s.actDone (Reg.bkARM b) 0 true
    else
      let c := s.armCheck b
      if c = 0 then (s.armed b).actDone (Reg.bkARM b) 0 true else s.actDone (Reg.bkARM b) c false
  else if v = 0 then (s.bankStop b 6 false).actDone (Reg.bkARM b) 0 true
  else s.actDone (Reg.bkARM b) 6 false

/-- Meaning of ARM: ARM written with value 1. -/
def execArm (dt : Nat) (b : Fin 24) (o : Origin) (s : State) : Host.Outcome State Fault Refusal :=
  .next ((s.advance dt).actBy o (Reg.bkARM b) 1 fun t => t.armRun b 1)

/-- Meaning of DISARM: ARM written with value 0. -/
def execDisarm (dt : Nat) (b : Fin 24) (o : Origin) (s : State) : Host.Outcome State Fault Refusal :=
  .next ((s.advance dt).actBy o (Reg.bkARM b) 0 fun t => t.armRun b 0)

/-! ## Requests (R272-R276, R287) -/

/-- Own time of the next tick's start. -/
def State.nextTickAt (s : State) : Nat := s.up + (s.tick.next * (1000 * s.r Reg.opTICK_PERIOD) - s.now)

/-- The TEST_PULSE action (R287); a channel with a latched fault gets no request (R299). -/
def State.testRun (s : State) (n v : Nat) : State :=
  let key := Reg.chTEST_PULSE n
  let b := n / 8
  if s.r (Reg.bkBANK_STATE b) ≠ 4 ∨ s.r (Reg.bkBANK_TYPE b) ≠ 1 then s.actDone key 1 false
  else if (s.zoneOf n).isSome then s.actDone key 2 false
  else if v < 100 ∨ s.r (Reg.chMAX_ON n) < v then s.actDone key 3 false
  else if s.chFaulty n then s.actDone key 4 false
  else
    let ts := s.nextTickAt + 30000
    s.request { ch := n, dur := v, ts := ts, prio := 7, made := s.up, deadline := ts + tenth (s.r (Reg.chEV_DEADLINE n)), test := true }

/-- Meaning of TEST_PULSE. -/
def execTestPulse (dt : Nat) (n : Fin 192) (o : Origin) (v : Nat) (s : State) : Host.Outcome State Fault Refusal :=
  .next ((s.advance dt).actBy o (Reg.chTEST_PULSE n) v fun t => t.testRun n v)

/-- A request's t_s has passed: a restart goes to the sequencer, an off-state test or a calibration in the bank is dropped, and a free
bank starts the first eligible request (R273, R276, R291, R309). -/
def State.eligible (s : State) (n : Nat) (pts : List Int) : State :=
  let b := n / 8
  let x := s.bank b
  match x.queue.find? fun q => decide (q.ch = n ∧ q.ts ≤ s.up) with
  | none => s
  | some q =>
    if q.re ∧ x.occ = some n then
      let s1 := s.wBank b { x with queue := x.queue.filter fun p => p.ch ≠ n }
      ((s1.boost n q.dur true).when q.test fun t => t.actDone (Reg.chTEST_PULSE n) 0 true).queuePub b
    else
      let s1 := s.wBank b { x with
        queue := x.queue.map (fun p => if p.ch = n then { p with re := false } else p), test := none, cal := none }
      (s1.queuePub b).startNext b pts

/-- Meaning of REQUEST_ELIGIBLE. -/
def execRequestEligible (dt : Nat) (n : Fin 192) (pts : List Int) (s : State) : Host.Outcome State Fault Refusal :=
  .next ((s.advance dt).eligible n pts)

/-- A request still queued at its deadline is dropped (R274). -/
def State.deadline (s : State) (n : Nat) : State :=
  let b := n / 8
  let x := s.bank b
  match x.queue.find? fun q => decide (q.ch = n ∧ q.deadline ≤ s.up) && !q.re with
  | none => s
  | some q => (State.dropReq (s.wBank b { x with queue := x.queue.filter fun p => p.ch ≠ n }) q).queuePub b

/-- Meaning of REQUEST_DEADLINE. -/
def execRequestDeadline (dt : Nat) (n : Fin 192) (s : State) : Host.Outcome State Fault Refusal := .next ((s.advance dt).deadline n)

/-! ## The injector profile (R266-R270) -/

/-- Is channel n in a phase of the event that occupies its bank, its end decay not begun? -/
def State.inPhase (s : State) (n st : Nat) : Bool :=
  decide (s.r (Reg.chsCH_STATE n) = st) && decide ((s.bank (n / 8)).occ = some n)

/-- BOOST ends at I >= I_BOOST, at once where that holds when it is entered, or after T_BOOST_MAX. -/
def State.boostOver (s : State) (n i : Nat) : State :=
  let x := s.bank (n / 8)
  if !s.inPhase n 2 then s
  else if x.p 1 ≤ i ∧ (s.since x.edgeAt 500 ∨ s.up = x.edge) then s.fall n i
  else if s.since x.edge (tenth (x.p 2)) then (s.bump (Reg.chsBOOST_TIMEOUT n)).fall n i
  else s

/-- Meaning of BOOST_END. -/
def execBoostEnd (dt : Nat) (n : Fin 192) (i : Nat) (s : State) : Host.Outcome State Fault Refusal := .next ((s.advance dt).boostOver n i)

/-- Has T_PEAK run out (R266)? -/
def State.peakOver (s : State) (n : Nat) : Bool :=
  let x := s.bank (n / 8)
  s.since x.boostEnd (tenth (x.p 5))

/-- FALL ends at I <= I_PEAK - PEAK_HYST, or with T_PEAK. -/
def State.fallOver (s : State) (n i : Nat) : State :=
  let x := s.bank (n / 8)
  if !s.inPhase n 3 then s
  else if s.peakOver n then s.phDrop n i
  else if i + x.p 4 ≤ x.p 3 ∧ s.since x.edgeAt 500 then s.peak n i
  else s

/-- Meaning of FALL_END. -/
def execFallEnd (dt : Nat) (n : Fin 192) (i : Nat) (s : State) : Host.Outcome State Fault Refusal := .next ((s.advance dt).fallOver n i)

/-- T_PEAK has run out in PEAK or FALL: PH_DROP. -/
def State.peakEnds (s : State) (n i : Nat) : State :=
  if (s.inPhase n 3 || s.inPhase n 4) && s.peakOver n then s.phDrop n i else s

/-- Meaning of PEAK_END. -/
def execPeakEnd (dt : Nat) (n : Fin 192) (i : Nat) (s : State) : Host.Outcome State Fault Refusal := .next ((s.advance dt).peakEnds n i)

/-- PH_DROP ends at I <= I_HOLD. -/
def State.phDropOver (s : State) (n i : Nat) : State :=
  let x := s.bank (n / 8)
  if s.inPhase n 5 && decide (i ≤ x.p 7) && s.since x.edgeAt 500 then s.hold n i else s

/-- Meaning of PH_DROP_END. -/
def execPhDropEnd (dt : Nat) (n : Fin 192) (i : Nat) (s : State) : Host.Outcome State Fault Refusal := .next ((s.advance dt).phDropOver n i)

/-- The hold high side chops between a level less its hysteresis and the level, 0.5 µs after the last edge and 1 µs after its own
(R266, R267). -/
def State.chop (s : State) (n i : Nat) : State :=
  let b := n / 8
  let x := s.bank b
  let pk := s.inPhase n 4
  if !(pk || s.inPhase n 6) || !s.since x.edgeAt 500 || !s.since x.hhAt 1000 then s
  else
    let level := if pk then x.p 3 else x.p 7
    let hyst := if pk then x.p 4 else x.p 8
    if x.hh ∧ level ≤ i then s.drive n true false false
    else if !x.hh ∧ i + hyst ≤ level then
      let s1 := s.drive n true false true
      if pk then s1 else s1.wBank b { s1.bank b with chops := x.chops + 1 }
    else s

/-- Meaning of CHOP_THRESHOLD. -/
def execChopThreshold (dt : Nat) (n : Fin 192) (i : Nat) (s : State) : Host.Outcome State Fault Refusal := .next ((s.advance dt).chop n i)

/-- The event's duration has ended: the end decay begins whatever the phase (R265). -/
def State.durationOver (s : State) (n i : Nat) : State :=
  let x := s.bank (n / 8)
  if x.occ = some n ∧ x.decayAt = none ∧ x.endAt ≤ s.up then s.startDecay n (some i) else s

/-- Meaning of DURATION_END. -/
def execDurationEnd (dt : Nat) (n : Fin 192) (i : Nat) (s : State) : Host.Outcome State Fault Refusal :=
  .next ((s.advance dt).durationOver n i)

/-- A mixed decay turns fast after T_SLOW (R269). -/
def State.slowOver (s : State) (n : Nat) : State :=
  let b := n / 8
  let x := s.bank b
  match x.decayAt with
  | some t =>
    if s.inPhase n 7 ∧ !x.fast ∧ x.p 9 = 2 ∧ s.since t (tenth (x.p 10)) then
      State.drive (s.wBank b { x with fast := true }) n false false false
    else s
  | none => s

/-- Meaning of T_SLOW_END. -/
def execTSlowEnd (dt : Nat) (n : Fin 192) (s : State) : Host.Outcome State Fault Refusal := .next ((s.advance dt).slowOver n)

/-- The end decay has ended with I <= I_END: a new coil estimate where HOLD held 4 complete chop cycles, and the bank's gap
(R269, R270). -/
def State.decayOver (s : State) (n i rEst : Nat) : State :=
  if s.inPhase n 7 ∧ i ≤ (s.bank (n / 8)).par.iEnd then (s.decayEnded n true (some rEst)).handoverYield else s

/-- Meaning of DECAY_END. -/
def execDecayEnd (dt : Nat) (n : Fin 192) (i rEst : Nat) (s : State) : Host.Outcome State Fault Refusal :=
  .next ((s.advance dt).decayOver n i rEst)

/-- The decay has not ended after DECAY_MAX: it turns fast and is counted (R269). -/
def State.decayTooLong (s : State) (n : Nat) : State :=
  let b := n / 8
  let x := s.bank b
  match x.decayAt, x.limitAt with
  | some t, none =>
    if s.inPhase n 7 ∧ s.since t (tenth (x.p 11)) then
      (State.drive (s.wBank b { x with fast := true, limitAt := some (s.up + 200000) }) n false false false).bump (Reg.bstDECAY_LONG b)
    else s
  | _, _ => s

/-- Meaning of DECAY_LONG. -/
def execDecayLong (dt : Nat) (n : Fin 192) (s : State) : Host.Outcome State Fault Refusal := .next ((s.advance dt).decayTooLong n)

/-- The 200 µs limit ends the decay (R269, R294). -/
def State.decayLimited (s : State) (n : Nat) : State :=
  match (s.bank (n / 8)).limitAt with
  | some t => if s.inPhase n 7 ∧ t ≤ s.up then (s.decayEnded n false none).handoverYield else s
  | none => s

/-- Meaning of DECAY_LIMIT. -/
def execDecayLimit (dt : Nat) (n : Fin 192) (s : State) : Host.Outcome State Fault Refusal := .next ((s.advance dt).decayLimited n)

/-- The bank is free after its gap: it takes the next eligible request, or a calibration or a test (R272, R273, R291, R309). -/
def State.bankFreed (s : State) (b : Nat) (pts : List Int) : State :=
  let x := s.bank b
  match x.freeAt with
  | some t =>
    if t ≤ s.up then
      let s1 := State.startNext (s.wBank b (x.freed s.up)) b pts
      if (s1.bank b).occ = none then (s1.calTry b).startTest b else s1
    else s
  | none => s

/-- Meaning of BANK_FREE. -/
def execBankFree (dt : Nat) (b : Fin 24) (pts : List Int) (s : State) : Host.Outcome State Fault Refusal :=
  .next ((s.advance dt).bankFreed b pts)

/-- SHS_b 2 µs after a boost turn-on of an injector bank, once, also where boost has ended since: BOOST_V and LOW_BOOST (R268). -/
def State.boostSample (s : State) (b shs : Nat) : State :=
  match (s.bank b).hbOn with
  | some t =>
    if s.r (Reg.bkBANK_TYPE b) = 1 ∧ s.since t 2000 then
      let lim := (s.par b).vboostMin
      let s1 := s.wBank b { s.bank b with hbOn := none }
      s1.when (decide (lim ≠ 0)) fun t =>
        (t.w (Reg.bstBOOST_V b) (min 65535 ((shs + 50) / 100))).when (decide (shs < 100 * lim)) fun u => u.bump (Reg.bstLOW_BOOST b)
    else s
  | none => s

/-- SHS_b 2 µs after a high-side on edge of an injector bank: BOOST_V and LOW_BOOST, and the rail check, which judges a high side that is
still on (R268, R295; assumption 108). -/
def State.railCheck (s : State) (b : Nat) (boost : Bool) (shs : Nat) : State :=
  let x := s.bank b
  let s1 := s.when boost fun t => t.boostSample b shs
  if s.r (Reg.bkBANK_TYPE b) ≠ 1 ∨ (if boost then x.hb else x.hh) = false ∨ !s.since x.hsAt 2000 then s1
  else
    let rail := if boost then s.r Reg.railVBOOST else s.r Reg.railVHOLD
    if 100 * shs < (s.par b).railRise * rail then s1.bankFault b 3
    else s1.wBank b { s1.bank b with railOk := true }

/-- Meaning of RAIL_SAMPLE. -/
def execRailSample (dt : Nat) (b : Fin 24) (boost : Bool) (shs : Nat) (s : State) : Host.Outcome State Fault Refusal :=
  .next ((s.advance dt).railCheck b boost shs)

/-! ## Proportional channels (R278-R281, R296, R309) -/

/-- The low side of channel n at the start of its period k: on for a duty until the on-time ends, on throughout, or off (R279). -/
def State.pwmDrive (s : State) (n k duty : Nat) : State :=
  let b := n / 8
  let x := s.bank b
  let freq := s.r (Reg.prpPWM_FREQ b)
  let on := dutyOn duty freq
  let c := s.chan n
  let s1 := s.wBank b { x with
    hh := true, ls := setBit (n % 8) on x.ls, pwmBase := some (s.pwmBase n), hsAt := if x.hh then x.hsAt else s.up
    hhAt := if x.hh then x.hhAt else s.up, edgeAt := s.up }
  s1.wChan n { c with
    pwmN := k + 1, offAt := if on && !dutyFull duty freq then some (s.pwmOff n k duty) else none
    lsAt := if on && !s.lowOn n then s.up else c.lsAt }

/-- The I_SET that has been at the sequencer for 1 µs, the newest of them, and what is still on its way, oldest first (R278). -/
def State.iDue (s : State) (c : Chan) : Nat × List (Nat × Nat) :=
  c.iNext.foldl (fun a e => if e.2 + 1000 ≤ s.up then (e.1, []) else (a.1, a.2 ++ [e])) (c.iSet, [])

/-- A PWM period of a channel begins: the newest I_SET that has been there for 1 µs, the loop, and the low side for the duty. A
period that is not due changes nothing. -/
def State.pwm (s : State) (n iAvg : Nat) : State :=
  let b := n / 8
  if s.r (Reg.bkBANK_STATE b) ≠ 4 ∨ s.r (Reg.bkBANK_TYPE b) ≠ 2 ∨ !s.pwmDue n then s
  else
    let (iSet, next) := s.iDue (s.chan n)
    let c := { s.chan n with iNext := next }
    let k := (s.pwmIndex n).getD 0
    let s1 := s.wAll [(Reg.chsI_AVG n, min 65535 iAvg), (Reg.chsI_SET n, iSet)]
    if iSet = 0 ∨ s1.chFaulty n then
      let s2 := s1.wChan n { c with
        iSet := iSet, acc := if iSet = 0 then 0 else c.acc, periods := c.periods + 1, allOver := false }
      (s2.pwmDrive n k 0).wAll [(Reg.chsDUTY n, 0), (Reg.chsCH_STATE n, 0)]
    else
      let hold := match c.frozen with
        | some t => decide (t ≤ s.up ∧ s.up < t + 50000)
        | none => false
      let (acc, duty, off, big) := if hold then (c.acc, s1.r (Reg.chsDUTY n), false, false)
        else pwmLoop (s1.r (Reg.prpCUR_KP b)) (s1.r (Reg.prpCUR_KI b)) c.acc (s1.iRef n iSet) iAvg
      let y := { c with
        iSet := iSet, acc := acc, periods := c.periods + 1, dutySat := c.dutySat || off
        allOver := c.allOver && big && decide (iAvg < s1.r (Reg.bdgI_OPEN b)) }
      let s3 := ((s1.wChan n y).pwmDrive n k duty).wAll [(Reg.chsDUTY n, duty), (Reg.chsCH_STATE n, 8)]
      s3.when (off && !c.dutySat) fun t => t.bump (Reg.chsDUTY_SAT n)

/-- Meaning of PWM_PERIOD. -/
def execPwmPeriod (dt : Nat) (n : Fin 192) (iAvg : Nat) (s : State) : Host.Outcome State Fault Refusal := .next ((s.advance dt).pwm n iAvg)

/-! ## On-state tests (R294, R296) -/

/-- Overcurrent, or desaturation 2 µs after the low-side edge: the low side and every high side of the bank go off (R294). -/
def State.tripped (s : State) (n i vds : Nat) : State :=
  let b := n / 8
  let x := s.bank b
  let p := s.par b
  let desat := decide (100 * p.vDesat < vds) && s.since (s.chan n).lsAt 2000
  if !s.lowOn n || !(desat || decide (p.iOc ≤ i)) then s
  else
    let s1 := (s.drive n false false false).bump (Reg.chdOVERCURRENT n)
    let s2 := if x.occ = some n then
        let y := s1.bank b
        let s3 := s1.wBank b { y with
          decayAt := some s1.up, fast := true, limitAt := some (s1.up + 200000), noCd := true, endAt := min y.endAt s1.up }
        let s4 := if x.decayAt = none then s3.w (Reg.chsLAST_ON n) (min 0xFFFFFFFF ((s1.up - y.first) / 100)) else s3
        s4.w (Reg.chsCH_STATE n) 7
      else s1
    s2.chFault n 3

/-- Meaning of OVERCURRENT. -/
def execOvercurrent (dt : Nat) (n : Fin 192) (i vds : Nat) (s : State) : Host.Outcome State Fault Refusal :=
  .next ((s.advance dt).tripped n i vds)

/-- T_OPEN_CHK after t_first, once in an event: I < I_OPEN with the rail check passed is a NO_CURRENT observation, and the event ends
(R296). -/
def State.openChecked (s : State) (n i : Nat) : State :=
  let b := n / 8
  let x := s.bank b
  if x.occ = some n ∧ x.decayAt = none ∧ !x.openDone ∧ s.since x.first (tenth x.par.tOpenChk) then
    let s1 := s.wBank b { x with openDone := true }
    if x.railOk ∧ i < x.par.iOpen then (s1.noCurrent n).startDecay n (some i)
    else s1.wChan n { s.chan n with curN := 0 }
  else s

/-- Meaning of OPEN_CHECK. -/
def execOpenCheck (dt : Nat) (n : Fin 192) (i : Nat) (s : State) : Host.Outcome State Fault Refusal :=
  .next ((s.advance dt).openChecked n i)

/-! ## Off-state tests (R289-R293) -/

/-- A new round of off-state tests every OFF_PERIOD: channels the old one did not reach come first (R293). -/
def State.newRound (s : State) (b : Nat) : State :=
  let x := s.bank b
  if s.since x.roundAt (1000000 * s.r (Reg.bdgOFF_PERIOD b)) then
    State.startTest (s.wBank b { x with round := x.round ++ (chansOf b).filter (fun n => !(x.round.contains n)), roundAt := s.up }) b
  else s

/-- Meaning of OFF_TEST_ROUND. -/
def execOffTestRound (dt : Nat) (b : Fin 24) (s : State) : Host.Outcome State Fault Refusal := .next ((s.advance dt).newRound b)

/-- V_D and V_R 100 µs after the bias: the judgement, and the round's next channel; a test whose window has closed gives nothing (R289,
R291, R297). -/
def State.offSample (s : State) (b vd vr : Nat) : State :=
  let x := s.bank b
  match x.test with
  | some (n, t) =>
    if !s.testOk b then s.dropTest b
    else if s.since t 100000 then
      (State.judgeOff (s.wBank b { x with test := none, round := x.round.filter fun m => m ≠ n }) n vd vr).startTest b
    else s
  | none => s

/-- Meaning of RAIL_OFF_TEST_SAMPLE. -/
def execRailOffTestSample (dt : Nat) (b : Fin 24) (vd vr : Nat) (s : State) : Host.Outcome State Fault Refusal :=
  .next ((s.advance dt).offSample b vd vr)

/-- May a rail-on test of channel n go on (R291, R292)? -/
def State.onOk (s : State) (n : Nat) : Bool :=
  decide (s.r (Reg.bkBANK_STATE (n / 8)) = 4 ∧ s.r (Reg.bkBANK_TYPE (n / 8)) = 2 ∧ s.r (Reg.bdgDIAG_ENABLE (n / 8)) = 1) && !s.d2d.lost

/-- V_D and V_R 10 µs after the tick start of a rail-on test (R292, R297). -/
def State.onSample (s : State) (n vd vr : Nat) : State :=
  match (s.chan n).railOn with
  | some t =>
    if s.since t 10000 then (State.wChan s n { s.chan n with railOn := none }).when (s.onOk n) fun u => u.judgeOn n vd vr else s
  | none => s

/-- Meaning of RAIL_ON_TEST_SAMPLE. -/
def execRailOnTestSample (dt : Nat) (n : Fin 192) (vd vr : Nat) (s : State) : Host.Outcome State Fault Refusal :=
  .next ((s.advance dt).onSample n vd vr)

/-- Meaning of DIAG_CLEAR: it takes effect, and completes, at the next tick start (R301). -/
def execDiagClear (dt : Nat) (n : Fin 192) (o : Origin) (v : Nat) (s : State) : Host.Outcome State Fault Refusal :=
  .next ((s.advance dt).actBy o (Reg.chdDIAG_CLEAR n) v fun t => t.wChan n { t.chan n with clear := true })

/-- Meaning of BANK_DIAG_CLEAR (R301). -/
def execBankDiagClear (dt : Nat) (b : Fin 24) (o : Origin) (v : Nat) (s : State) : Host.Outcome State Fault Refusal :=
  .next ((s.advance dt).actBy o (Reg.bdgBANK_DIAG_CLEAR b) v fun t => t.wBank b { t.bank b with clear := true })

/-! ## Closing detection (R304, R305) -/

/-- The window opens CD_START after the decay's end. -/
def State.cdOpen (s : State) (n : Nat) : State :=
  let b := n / 8
  let x := s.bank b
  match x.cd with
  | some c =>
    let t := c.decayEnd + tenth c.par.cdStart
    if c.ch = n ∧ c.openAt = none ∧ t ≤ s.up then s.wBank b { x with cd := some { c with openAt := some t } } else s
  | none => s

/-- Meaning of CD_WINDOW_OPEN. -/
def execCdWindowOpen (dt : Nat) (n : Fin 192) (s : State) : Host.Outcome State Fault Refusal := .next ((s.advance dt).cdOpen n)

/-- The window has lasted CD_LEN: the points of its samples are searched for the kink. -/
def State.cdClose (s : State) (n : Nat) (pts : List Int) : State :=
  let b := n / 8
  match (s.bank b).cd with
  | some c => match c.openAt with
    | some t => if c.ch = n ∧ s.since t (tenth c.par.cdLen) then s.cdEnd b pts false else s
    | none => s
  | none => s

/-- Meaning of CD_WINDOW_END. -/
def execCdWindowEnd (dt : Nat) (n : Fin 192) (pts : List Int) (s : State) : Host.Outcome State Fault Refusal :=
  .next ((s.advance dt).cdClose n pts)

/-! ## Sense calibration (R307-R309, R530) -/

/-- Are new values acceptable (R308)? Offsets in 1/16 code of 4,096, gains in 1/32,768. -/
def calOk (csOff : Int) (csGain : Nat) (dsOff : Int) (dsGain : Nat) : Bool :=
  let off (o : Int) : Bool := decide (50 * o.natAbs ≤ 65536)
  let gain (g : Nat) : Bool := decide (95 * 32768 ≤ 100 * g ∧ 100 * g ≤ 105 * 32768)
  off csOff && off dsOff && gain csGain && gain dsGain

/-- The calibration of the channel runs, within its 50 µs, and its bank has stayed idle (R307, R309). -/
def State.calRuns (s : State) (n : Nat) : Bool :=
  s.pwr.calLeft.contains n && s.calIdle n && match (s.bank (n / 8)).cal with
    | some (m, t) => decide (m = n) && decide (s.up ≤ t + 50000)
    | none => false

/-- A channel's calibration is over; with the last one the run ends (R530). -/
def State.calNext (s : State) (n : Nat) : State :=
  let left := s.pwr.calLeft.filter fun m => m ≠ n
  State.calFinish { s with pwr := { s.pwr with calLeft := left } }

/-- Are the values of a calibration acceptable? Those of SHS_b count for position 0 (R307, R308). -/
def calValsOk (v : CalVals) (n : Nat) : Bool :=
  calOk v.csOff v.csGain v.dsOff v.dsGain && (decide (n % 8 ≠ 0) || calOk 0 32768 v.shsOff v.shsGain)

/-- The values of a calibration are applied together (R308). -/
def State.calApply (s : State) (n : Nat) (v : CalVals) : State :=
  let s1 := s.wAll [(Reg.chdCS_OFFSET n, sat2 16 v.csOff), (Reg.chdCS_GAIN n, v.csGain), (Reg.chdDS_OFFSET n, sat2 16 v.dsOff),
    (Reg.chdDS_GAIN n, v.dsGain)]
  let s2 := s1.wChan n { s1.chan n with trims := v.trims }
  s2.when (decide (n % 8 = 0)) fun t => t.wBank (n / 8) { t.bank (n / 8) with shsOffset := v.shsOff, shsGain := v.shsGain }

/-- The steps of R307 have given a channel's values: they are applied together, or rejected with SENSE_FAULT; the bank's next pending
channel follows. -/
def State.calDone (s : State) (n : Nat) (v : CalVals) : State :=
  if s.calRuns n then
    let s1 := if calValsOk v n then s.calApply n v else s.chFault n 4
    let s2 := (s1.wAll [(Reg.chdCAL_TIME n, s.now), (Reg.chdCAL_OVERDUE n, 0)]).wChan n { s1.chan n with frozen := none }
    let s3 := State.calNext (s2.wBank (n / 8) { s2.bank (n / 8) with cal := none }) n
    s3.calTry (n / 8)
  else s

/-- Meaning of CHANNEL_CAL_DONE. -/
def execChannelCalDone (dt : Nat) (n : Fin 192) (cs ds shs : SenseCal) (trims : List Int) (s : State) : Host.Outcome State Fault Refusal :=
  .next ((s.advance dt).calDone n ⟨cs.off, cs.gain, ds.off, ds.gain, trims, shs.off, shs.gain⟩)

/-- No idle window within 100 ms: CAL_OVERDUE (R309). -/
def State.calLate (s : State) (n : Nat) : State :=
  if s.pwr.calLeft.contains n ∧ s.since (s.chan n).calSince 100000000 then s.w (Reg.chdCAL_OVERDUE n) 1 else s

/-- Meaning of CAL_OVERDUE. -/
def execCalOverdue (dt : Nat) (n : Fin 192) (s : State) : Host.Outcome State Fault Refusal := .next ((s.advance dt).calLate n)

end Sys2Proof.Machine
end

