-- ==== Sys2Proof/Machine/Crypto.lean ====
section
/-! DEFINITION. HMAC-SHA-256, which R62 and R579 name without stating it: taken from the published standards (assumption 8). -/

namespace Sys2Proof.Machine

/-- Round constants of SHA-256. -/
def shaK : List Nat :=
  [0x428A2F98, 0x71374491, 0xB5C0FBCF, 0xE9B5DBA5, 0x3956C25B, 0x59F111F1, 0x923F82A4, 0xAB1C5ED5,
   0xD807AA98, 0x12835B01, 0x243185BE, 0x550C7DC3, 0x72BE5D74, 0x80DEB1FE, 0x9BDC06A7, 0xC19BF174,
   0xE49B69C1, 0xEFBE4786, 0x0FC19DC6, 0x240CA1CC, 0x2DE92C6F, 0x4A7484AA, 0x5CB0A9DC, 0x76F988DA,
   0x983E5152, 0xA831C66D, 0xB00327C8, 0xBF597FC7, 0xC6E00BF3, 0xD5A79147, 0x06CA6351, 0x14292967,
   0x27B70A85, 0x2E1B2138, 0x4D2C6DFC, 0x53380D13, 0x650A7354, 0x766A0ABB, 0x81C2C92E, 0x92722C85,
   0xA2BFE8A1, 0xA81A664B, 0xC24B8B70, 0xC76C51A3, 0xD192E819, 0xD6990624, 0xF40E3585, 0x106AA070,
   0x19A4C116, 0x1E376C08, 0x2748774C, 0x34B0BCB5, 0x391C0CB3, 0x4ED8AA4A, 0x5B9CCA4F, 0x682E6FF3,
   0x748F82EE, 0x78A5636F, 0x84C87814, 0x8CC70208, 0x90BEFFFA, 0xA4506CEB, 0xBEF9A3F7, 0xC67178F2]

/-- Initial value of SHA-256. -/
def shaH : List Nat :=
  [0x6A09E667, 0xBB67AE85, 0x3C6EF372, 0xA54FF53A, 0x510E527F, 0x9B05688C, 0x1F83D9AB, 0x5BE0CD19]

/-- Rotate a 32-bit word right. -/
def rotr (n x : Nat) : Nat := (x >>> n) ||| ((x <<< (32 - n)) % 2 ^ 32)

/-- Sum modulo 2^32. -/
def add32 (l : List Nat) : Nat := l.sum % 2 ^ 32

/-- Extend the message schedule; the newest word stands first. -/
def shaExtend : Nat → List Nat → List Nat
  | 0, w => w
  | n + 1, w =>
    let a := w.getD 14 0
    let b := w.getD 1 0
    let s0 := rotr 7 a ^^^ rotr 18 a ^^^ (a >>> 3)
    let s1 := rotr 17 b ^^^ rotr 19 b ^^^ (b >>> 10)
    shaExtend n (add32 [w.getD 15 0, s0, w.getD 6 0, s1] :: w)

/-- The eight working variables of SHA-256. -/
structure ShaVars where
  a : Nat
  b : Nat
  c : Nat
  d : Nat
  e : Nat
  f : Nat
  g : Nat
  h : Nat
  deriving DecidableEq, Repr

/-- One round of SHA-256. -/
def shaRound (v : ShaVars) (kw : Nat × Nat) : ShaVars :=
  let s1 := rotr 6 v.e ^^^ rotr 11 v.e ^^^ rotr 25 v.e
  let ch := (v.e &&& v.f) ^^^ ((0xFFFFFFFF ^^^ v.e) &&& v.g)
  let t1 := add32 [v.h, s1, ch, kw.1, kw.2]
  let s0 := rotr 2 v.a ^^^ rotr 13 v.a ^^^ rotr 22 v.a
  let mj := (v.a &&& v.b) ^^^ (v.a &&& v.c) ^^^ (v.b &&& v.c)
  { a := add32 [t1, s0, mj], b := v.a, c := v.b, d := v.c, e := add32 [v.d, t1], f := v.e, g := v.f, h := v.g }

/-- One block of 16 big-endian words. -/
def shaBlock (h w : List Nat) : List Nat :=
  let v0 : ShaVars := ⟨h.getD 0 0, h.getD 1 0, h.getD 2 0, h.getD 3 0, h.getD 4 0, h.getD 5 0, h.getD 6 0, h.getD 7 0⟩
  let v := (shaK.zip (shaExtend 48 w.reverse).reverse).foldl shaRound v0
  List.zipWith (fun x y => add32 [x, y]) h [v.a, v.b, v.c, v.d, v.e, v.f, v.g, v.h]

/-- Bytes as big-endian words. -/
def beWords : Nat → Bytes → List Nat
  | 0, _ => []
  | n + 1, b => leNat (b.take 4).reverse :: beWords n (b.drop 4)

/-- Blocks of 64 bytes. -/
def shaBlocks : Nat → List Nat → Bytes → List Nat
  | 0, h, _ => h
  | n + 1, h, b => shaBlocks n (shaBlock h (beWords 16 (b.take 64))) (b.drop 64)

/-- The SHA-256 digest of a byte sequence, 32 bytes. -/
def sha256 (m : Bytes) : Bytes :=
  let z := (119 - m.length % 64) % 64
  let p := m ++ [0x80] ++ List.replicate z 0 ++ (leBytes 8 (8 * m.length)).reverse
  (((shaBlocks (p.length / 64) shaH p).map fun w => (leBytes 4 w).reverse)).flatten

/-- HMAC-SHA-256. -/
def hmac (key m : Bytes) : Bytes :=
  let k := padTo 64 (if 64 < key.length then sha256 key else key)
  sha256 (k.map (· ^^^ 0x5C) ++ sha256 (k.map (· ^^^ 0x36) ++ m))

/-- The first 16 bytes of an HMAC (Trunc128 of R62). -/
def mac128 (key m : Bytes) : Bytes := (hmac key m).take 16

end Sys2Proof.Machine
end

