-- ==== Sys2Proof/Machine/Flash.lean ====
section
/-! DEFINITION. The boot flash: what its areas hold, the write queue of the port, and the storing of radiometry tables
(R551-R559). -/

namespace Sys2Proof.Machine

/-- What an erased flash byte reads as. -/
def flashErased : Byte := 0xFF

/-- Carry out one flash operation: an erase of a 64 KiB block, or a program, which only moves bits from 1 to 0 (assumption 12). -/
def FlashOp.apply (o : FlashOp) (c : List Host.Cell) : List Host.Cell :=
  match o with
  | .erase a => tkeep (fun k => decide (k / 65536 ≠ a / 65536)) c
  | .program a d => tsetRun flashErased c a (List.zipWith (fun x y => x &&& y) d (tgetRun flashErased c a d.length))

/-- Command byte and address of an operation (R553, R563). -/
def FlashOp.cmd : FlashOp → Nat × Nat
  | .erase a => (0xDC, a)
  | .program a _ => (0x12, a)

/-- Polling limit of an operation, ns (R553). -/
def FlashOp.limit : FlashOp → Nat
  | .erase _ => 3000000000
  | .program _ _ => 10000000

/-- Split a write at every 256-byte page boundary (R553); n bounds the number of parts. -/
def pagesOf : Nat → Nat → Bytes → List FlashOp
  | 0, _, _ => []
  | n + 1, a, d =>
    if d = [] then [] else
    let k := 256 - a % 256
    .program a (d.take k) :: pagesOf n (a + k) (d.drop k)

/-- The programs of a write. -/
def writeOps (a : Nat) (d : Bytes) : List FlashOp := pagesOf (d.length / 256 + 2) a d

/-- The idle port starts the oldest job's next operation; it waits while a host's select line is asserted (R554). -/
def State.flashKick (s : State) : State :=
  match s.flash.pollSince with
  | some _ => s
  | none => if s.flash.jobs = [] ∨ s.flash.selSince.isSome then s else { s with flash := { s.flash with pollSince := some s.up } }

/-- Queue a job. -/
def State.flashJob (s : State) (j : FlashJob) : State :=
  State.flashKick { s with flash := { s.flash with jobs := s.flash.jobs ++ [j] } }

/-- n flash bytes from a. -/
def State.flashRead (s : State) (a n : Nat) : Bytes := tgetRun flashErased s.flash.cells a n

/-! ## Radiometry area (R551, R559) -/

/-- Entries and bytes per entry of a table: responsivity, inverse, ink set (R161). -/
def tabShape (t : Nat) : Nat × Nat := if t < 32 then (4096, 4) else if t < 36 then (8192, 2) else (256, 2)

/-- Bytes of a table object: header and entries. -/
def tabBytes (t : Nat) : Nat := 16 + (tabShape t).1 * (tabShape t).2

/-- First address of block c of table t. -/
def tabBlock (t c : Nat) : Nat := 0x1200000 + t * 0x20000 + c * 0x10000

/-- The stored copy in block c of table t, with its STORE_SEQ, when it is valid. -/
def State.storedTable (s : State) (t c : Nat) : Option (Nat × Bytes) :=
  let n := 8 + tabBytes t
  let b := s.flashRead (tabBlock t c) (n + 4)
  if fld 0 4 b = t ∧ fld n 4 b = crc32 (b.take n) then some (fld 4 4 b, (b.take n).drop 8) else none

/-- The block that holds the newer valid copy. -/
def State.newerBlock (s : State) (t : Nat) : Option Nat :=
  match s.storedTable t 0, s.storedTable t 1 with
  | some (a, _), some (b, _) => some (if a < b then 1 else 0)
  | some _, none => some 0
  | none, some _ => some 1
  | none, none => none

/-- Store a table that has become complete; a store of it that is under way is given up at its next page boundary. -/
def State.storeTable (s : State) (t : Nat) (body : Bytes) : State :=
  let c := match s.newerBlock t with
    | some 0 => 1
    | _ => 0
  let seq := tget 0 s.flash.storeSeq t + 1
  let img := leBytes 4 t ++ leBytes 4 seq ++ body
  let ops := .erase (tabBlock t c) :: writeOps (tabBlock t c) (img ++ leBytes 4 (crc32 img))
  let old := match s.flash.jobs with
    | [] => []
    | j :: q =>
      let q' := q.filter fun k => k.for_ ≠ .table t
      if j.for_ = .table t then (if s.flash.pollSince.isSome then { j with for_ := .repair, ops := j.ops.take 1 } :: q' else q')
      else j :: q'
  State.flashJob { s with flash := { s.flash with jobs := old, storeSeq := tset 0 s.flash.storeSeq t seq } } ⟨.table t, ops⟩

/-! ## Configuration image (R551, R557) -/

/-- First address of image copy A or B. -/
def imgBase (c : Nat) : Nat := if c = 0 then 0x1000000 else 0x1100000

/-- The image in copy c when it is valid: IMG_SEQ and entries. -/
def State.image (s : State) (c : Nat) : Option (Nat × Bytes) :=
  let h := s.flashRead (imgBase c) 16
  let n := fld 4 4 h
  if 0x100000 < n + 16 then none else
  let e := s.flashRead (imgBase c + 16) n
  if fld 12 4 h = crc32 (h.take 12 ++ e) then some (fld 0 4 h, e) else none

/-- The job that erases an image copy and writes it; no bytes for an erase alone. -/
def imageJob (f : FlashFor) (c : Nat) (img : Bytes) : FlashJob :=
  ⟨f, ((List.range 16).map fun i => .erase (imgBase c + 65536 * i)) ++ writeOps (imgBase c) img⟩

end Sys2Proof.Machine
end

