-- ==== Sys2Proof/Machine/Radio.lean ====
section
/-! DEFINITION. Radiometry tables: slots and bindings, the table checks, defaults, and the arithmetic of stages 4 and 5 on one
pixel (R135-R138, R145-R157). -/

namespace Sys2Proof.Machine

/-- First object index of table t (R161). -/
def tabIndex (t : Nat) : Nat := if t < 32 then 0x3200 + t else if t < 36 then 0x3240 + (t - 32) else 0x3250 + (t - 36)

/-- Key of subindex k of table t. -/
def tabKey (t k : Nat) : Nat := 256 * tabIndex t + k

/-- Slot c of table t. -/
def State.slot (s : State) (t c : Nat) : Bytes := tget [] s.rad (2 * t + c)

/-- The newest complete slot's bytes. -/
def State.newestTable (s : State) (t : Nat) : Bytes := s.slot t (s.r (tabKey t 2))

/-- Entry i of a table's bytes. -/
def tabEntry (t : Nat) (b : Bytes) (i : Nat) : Nat := fld (16 + i * (tabShape t).2) (tabShape t).2 b

/-- All entries. -/
def tabEntries (t : Nat) (b : Bytes) : List Nat := (List.range (tabShape t).1).map (tabEntry t b)

/-- Do consecutive elements satisfy a relation? -/
def chain (p : Nat → Nat → Bool) : List Nat → Bool
  | [] => true
  | [_] => true
  | a :: b :: t => p a b && chain p (b :: t)

/-- The checks of R151 on a whole table: length, ENTRIES, header ranges (R162), CRC, entry ranges and order. -/
def validTable (t : Nat) (b : Bytes) : Bool :=
  let e := tabEntries t b
  decide (b.length = tabBytes t ∧ fld 8 4 b = (tabShape t).1 ∧ fld 12 4 b = crc32 (b.drop 16) ∧ fld 5 3 b = 0) &&
  (if t < 32 then decide (fld 4 1 b ≤ 7) && chain (fun x y => decide (x ≤ y)) e
   else if t < 36 then decide (fld 4 1 b ≤ 8) && decide (1 ≤ e.headD 0) && chain (fun x y => decide (x < y)) e
   else decide (fld 4 1 b = 0 ∧ fld 0 4 b ≤ 500) && e.all fun x => decide (1639 ≤ x ∧ x ≤ 32768))

/-- A table from its header fields and entries. -/
def mkTable (t base shift : Nat) (entries : List Nat) : Bytes :=
  let d := (entries.map (leBytes (tabShape t).2)).flatten
  leBytes 4 base ++ leBytes 4 shift ++ leBytes 4 (tabShape t).1 ++ leBytes 4 (crc32 d) ++ d

/-- The firmware's default of table t for a head of MODEL m (R153); the open contents stay within the checks (assumption 3). -/
def defaultTable (t m : Nat) : Bytes :=
  if t < 32 then
    let b := Config.respDefault m
    if validTable t b then b else mkTable t 0 0 (List.replicate 4096 0)
  else if t < 36 then
    let b := Config.invDefault
    if validTable t b then b else mkTable t 0 0 ((List.range 8192).map (· + 1))
  else mkTable t 30 0 (List.replicate 256 31130)

/-- Slot of table t that a set binds, if it uses the table. -/
def PSet.binds (p : PSet) (h t : Nat) : Option Nat :=
  if t < 32 then (if t = h then some (bits 0 0 p.slots) else none)
  else if t < 36 then (if p.v 0x424 = t - 32 then some (bits 1 1 p.slots) else none)
  else some (bits (t - 34) (t - 34) p.slots)

/-- Is slot c of table t bound by a current or armed set (R152)? -/
def State.slotBound (s : State) (t c : Nat) : Bool :=
  (List.range 32).any fun h =>
    let p := s.pipe h
    p.cur.any (fun q => q.binds h t = some c) || p.armed.any (fun q => q.binds h t = some c)

/-- SLOT_USE. -/
def State.slotUse (s : State) (t : Nat) : Nat := b2n (s.slotBound t 0) + 2 * b2n (s.slotBound t 1)

/-- The slot a write goes to (R151); none when both are bound. -/
def State.writeSlot (s : State) (t : Nat) : Option Nat :=
  let new := s.r (tabKey t 2)
  match s.slotBound t 0, s.slotBound t 1 with
  | true, true => none
  | true, false => some 1
  | false, true => some 0
  | false, false => some (1 - new)

/-- Replace a slot's bytes. -/
def State.wSlot (s : State) (t c : Nat) (b : Bytes) : State := { s with rad := tset [] s.rad (2 * t + c) b }

/-- Where a complete table in slot c came from: its ORIGIN, held beside the slots (R161). -/
def State.slotOrigin (s : State) (t c : Nat) : Nat := leNat (tget [] s.rad (80 + 2 * t + c))

/-- NEWEST_SLOT, and CRC and ORIGIN of that slot (R161). -/
def State.newestPub (s : State) (t c : Nat) : State :=
  s.wAll [(tabKey t 2, c), (tabKey t 4, fld 12 4 (s.slot t c)), (tabKey t 5, s.slotOrigin t c)]

/-- A complete table is in slot c, which is the newest (R151). -/
def State.slotPut (s : State) (t c : Nat) (b : Bytes) (origin : Nat) : State :=
  let s1 := s.wSlot t c b
  State.newestPub { s1 with rad := tset [] s1.rad (80 + 2 * t + c) [BitVec.ofNat 8 origin] } t c

/-- A slot becomes complete and the newest, and is stored (R151, R153). -/
def State.tableDone (s : State) (t c : Nat) (b : Bytes) (origin : Nat) : State := (s.slotPut t c b origin).storeTable t b

/-- A slot holds bytes that are no complete table: where it was the newest, the other slot is that, if it is complete (R151). -/
def State.slotSpoil (s : State) (t c : Nat) (b : Bytes) : State :=
  let s1 := s.wSlot t c b
  if s.r (tabKey t 2) = c ∧ (s.slot t (1 - c)).length = tabBytes t then s1.newestPub t (1 - c) else s1

/-- A write of bytes at an offset of table t; the status it ends with (R151). The table is checked when its last byte is
written; until then the slot holds what has been written, and no set binds it. A table that fails a check leaves the slot empty. -/
def State.tableWrite (s : State) (t offset : Nat) (d : Bytes) : Nat × State :=
  match s.writeSlot t with
  | none => (0x1E, s)
  | some c =>
    let b := (padTo (tabBytes t) (patchBytes (padTo offset ((s.slot t c).take offset)) offset d)).take (offset + d.length)
    if offset + d.length < tabBytes t then (0, s.slotSpoil t c b)
    else if validTable t b then (0, s.tableDone t c b 2)
    else (0x15, s.slotSpoil t c [])

/-- At start-up every table takes its newest stored copy or its default into slot 0; a responsivity table without a stored copy
takes its default when a head is known (R153). -/
def State.loadTables (s : State) : State :=
  s.each (List.range 40) fun t u =>
    let put (b : Bytes) (o : Nat) : State := u.slotPut t 0 b o
    match u.newerBlock t with
    | some c => match u.storedTable t c with
      | some (q, b) => let v := put b 1; { v with flash := { v.flash with storeSeq := tset 0 v.flash.storeSeq t q } }
      | none => u
    | none => if t < 32 then u else put (defaultTable t 0) 0

/-- The default for the attached head's MODEL where the lane's responsivity table has no copy yet (R153). -/
def State.firstResp (s : State) (h : Nat) : State :=
  if s.newestTable h = [] then
    s.slotPut h 0 (defaultTable h (s.r (Reg.hdMODEL h))) 0
  else s

/-- A binding change to a different SERIAL: the sets end, and the default takes the slot that is not newest (R153). -/
def State.respDefaulted (s : State) (h : Nat) : State :=
  let s1 := s.wPipe h { s.pipe h with cur := none, armed := none, frame := none }
  let s2 := (s1.dropStage h).wAll [(Reg.hsARMED_TAG h, 0xFFFF), (Reg.pkBOUND_SLOTS h, 0)]
  let c := 1 - s2.r (tabKey h 2)
  (s2.tableDone h c (defaultTable h (s2.r (Reg.hdMODEL h))) 0).event 0x010B h (s2.r (Reg.hdMODEL h))

/-! ## Stage 4 on one pixel (R135-R138) -/

/-- Limits of the 24-bit values, 1/16 count (R95). -/
def v24lo : Int := -8388608
/-- Upper limit. -/
def v24hi : Int := 8388607

/-- x in 1/16 count and CLIPPED, from y and y_prev in 1/16 count and the stored table entry. -/
def sharpen (a : Nat) (y yPrev : Int) : Int × Bool :=
  let q := roundHA ((y : Rat) + mkRat a 4096 * ((y - yPrev : Int) : Rat))
  (clampI v24lo v24hi q, decide (q < v24lo ∨ v24hi < q))

/-- The state word of y in 1/16 count (R136, R137). -/
def stateWord (y : Int) (none_ : Bool) : Nat :=
  if none_ || decide (262136 < y.natAbs) then 0x8000 else enc2 16 (roundHA (mkRat y 8))

/-! ## Stage 5 (R145-R157) -/

/-- A point on a piecewise linear table: value, slope per index, and out of range. -/
structure Interp where
  v : Rat
  slope : Rat
  out : Bool

/-- Interpolate in a table at index q (R145, R148). -/
def interp (t : Nat) (b : Bytes) (q : Rat) : Interp :=
  let n := (tabShape t).1
  let e (i : Nat) : Rat := (tabEntry t b i : Rat)
  if q < 0 then ⟨e 0, e 1 - e 0, true⟩
  else if ((n - 1 : Nat) : Rat) < q then ⟨e (n - 1), e (n - 1) - e (n - 2), true⟩
  else if q = ((n - 1 : Nat) : Rat) then ⟨e (n - 1), e (n - 1) - e (n - 2), false⟩
  else
    let i := q.floor.toNat
    ⟨e i + (q - i) * (e (i + 1) - e i), e (i + 1) - e i, false⟩

/-- BASE and SHIFT of a table. -/
def tabBase (t : Nat) (b : Bytes) : Rat := if t < 32 then ((sgn 32 (fld 0 4 b) : Int) : Rat) else ((fld 0 4 b : Nat) : Rat)

/-- Units per index step. -/
def tabStep (b : Bytes) : Rat := ((2 ^ (fld 4 1 b) : Nat) : Rat)

/-- Number of entries below or at x: the place of x in a rising table, by n halvings. -/
def bisect (t : Nat) (b : Bytes) (x : Rat) : Nat → Nat → Nat → Nat
  | 0, lo, _ => lo
  | n + 1, lo, hi =>
    let m := (lo + hi) / 2
    if hi ≤ lo + 1 then lo else if (tabEntry t b m : Rat) ≤ x then bisect t b x n m hi else bisect t b x n lo m

/-- Radiance of a temperature in 0.01 K: inverse interpolation with the ends held (R146). -/
def invRadiance (t : Nat) (b : Bytes) (x : Rat) : Rat :=
  let n := (tabShape t).1
  let q : Rat := if x ≤ (tabEntry t b 0 : Rat) then 0
    else if (tabEntry t b (n - 1) : Rat) ≤ x then ((n - 1 : Nat) : Rat)
    else
      let i := bisect t b x 14 0 (n - 1)
      let a : Rat := tabEntry t b i
      let c : Rat := tabEntry t b (i + 1)
      (i : Rat) + (x - a) / (c - a)
  tabBase t b + q * tabStep b

/-- Conditions of a pixel after stage 4. -/
structure PxCond where
  missing : Bool
  sat : Bool
  clip : Bool
  excluded : Bool
  replaced : Bool
  noisy : Bool
  restart : Bool
  epsFb : Bool
  deriving DecidableEq, Repr

/-- An output pixel: temperature, uncertainty code and flags (R155, R156). -/
structure OutPx where
  temp : Nat
  unc : Nat
  flags : Nat
  deriving DecidableEq, Repr

/-- VALIDITY (R157). -/
def validity (c : PxCond) (range : Bool) : Nat :=
  if c.missing then 6 else if c.sat then 3 else if c.clip then 4 else if range then 7 else if c.excluded then 5
  else if c.replaced then 2 else if c.noisy then 1 else 0

/-- The flags of the frame that every pixel carries, bits 5 to 7. -/
structure FrameFlags where
  drift : Bool
  incoherent : Bool
  degraded : Bool

/-- Stage 5 on one pixel: x in 1/16 count, A the stored entry in use, dT the deviation in 0.01 K (R145-R149, R154, R156). -/
def convert (p : PSet) (h : Nat) (resp inv : Bytes) (k : FrameK) (x : Int) (a : Nat) (dT : Int) (eps epsU : Nat) (c : PxCond)
    (ff : FrameFlags) : OutPx :=
  let ti := 32 + p.v 0x424
  let ip := interp h resp ((mkRat x 16 - tabBase h resp) / tabStep resp)
  let e : Rat := mkRat eps 32768
  let ls := (ip.v - (1 - k.tw) * k.lWin) / k.tw
  let lt := (ls - (1 - e) * k.lAmb) / e
  let it := interp ti inv ((lt - tabBase ti inv) / tabStep inv)
  let range := !c.missing && (ip.out || it.out)
  let sInv := it.slope / 100 / tabStep inv
  let sl := ip.slope / tabStep resp * (1 / (k.tw * e)) * sInv
  let f : Rat := if c.noisy then mkRat (p.v 0x42C) 16 else 1
  let aa : Rat := if c.restart then 0 else mkRat a 4096
  let nse : Rat := mkRat (p.v 0x42B) 16 * f * sl
  let un2 := nse * nse * ((1 + aa) * (1 + aa) + aa * aa)
  let ur : Rat := if c.replaced then mkRat (p.v 0x42E) 100 else 0
  let ue : Rat := |lt - k.lAmb| / e * mkRat epsU 1000 * sInv
  let ud : Rat := mkRat (p.v 0x42F) 16 * |mkRat dT 100| * sl
  let uc : Rat := mkRat (p.v 0x42D) 100
  let v := validity c range
  let u2 := un2 + ur * ur + ue * ue + ud * ud + uc * uc
  let code := if v = 6 ∨ v = 3 ∨ v = 4 ∨ v = 7 then 255 else min 255 (ceilSqrt (u2 * 2500))
  ⟨if c.missing then 0 else (roundHA it.v).toNat, code,
    v + 8 * b2n c.restart + 16 * b2n c.epsFb + 32 * b2n ff.drift + 64 * b2n ff.incoherent + 128 * b2n ff.degraded⟩

/-- Emissivity and its uncertainty from ink set i, code c (R149). -/
def State.inkEps (s : State) (p : PSet) (i c : Nat) : Nat × Nat :=
  let b := s.slot (36 + i % 4) (bits (2 + i % 4) (2 + i % 4) p.slots)
  (tabEntry (36 + i % 4) b c, fld 0 2 b)

end Sys2Proof.Machine
end

