-- ==== Sys2Proof/Machine/Fold.lean ====
section
/-! DEFINITION. Fold runs: triggers, the run, skimming, the offsets and checks, failure and abort, write-back, life record and
statistics windows (R59-R61, R72, R73, R76, R123-R127, R164-R184). -/

namespace Sys2Proof.Machine

/-! ## Statistics windows (R123-R127) -/

/-- The nearest whole number to a square root. -/
def roundSqrt (q : Rat) : Nat :=
  let k := isqrt q.floor.toNat
  if ((k : Rat) + 1 / 2) * ((k : Rat) + 1 / 2) ≤ q then k + 1 else k

/-- The results of a closed window: mean and standard deviation rounded to the nearest 0.01 K, halves up (DESIGN CHOICE,
assumption 11). -/
def StatWin.results (w : StatWin) (h cause : Nat) : List (Nat × Nat) :=
  let mean : Rat := if w.n = 0 then 0 else mkRat w.sum w.n
  let var : Rat := if w.n = 0 then 0 else mkRat w.sum2 w.n - mean * mean
  [(Reg.pstSTAT_TAG h, w.tag), (Reg.pstSTAT_CAUSE h, cause), (Reg.pstFIRST_FRAME h, w.first), (Reg.pstFRAMES_USED h, w.frames),
    (Reg.pstT_START h, w.t0), (Reg.pstT_END h, w.t1), (Reg.pstMEAN_T h, (roundHA mean).toNat),
    (Reg.pstMIN_T h, if w.n = 0 then 0 else w.lo), (Reg.pstMAX_T h, w.hi), (Reg.pstSTD_T h, min 65535 (roundSqrt var)),
    (Reg.pstSAMPLES h, w.n), (Reg.pstREPLACED h, w.repl), (Reg.pstSATURATED h, w.sat), (Reg.pstUNREPLACEABLE h, w.miss)]

/-- Is the BLOCK_RSP that ends a range read of head h's statistics objects still to leave (R126, R443)? -/
def State.statRead (s : State) (h : Nat) : Bool :=
  s.ring.txq.any fun f => decide (f.ty = 0x05 ∧ fld 2 2 f.payload = 0x3006 + 8 * h ∧ fld 0 1 f.payload ≤ 1)

/-- Publish the results of closed windows that no read is in the way of, each with its STAT_SEQ (R125, R126). -/
def State.statPublish (s : State) (h : Nat) : State :=
  if s.statRead h then s
  else
    let l := (s.pipe h).statWait
    (s.wPipe h { s.pipe h with statWait := [] }).each l fun r t =>
      (t.wAll r).w (Reg.pstSTAT_SEQ h) ((t.r (Reg.pstSTAT_SEQ h) + 1) % 2 ^ 32)

/-- Close the open statistics window and publish it (R125-R127). -/
def State.statClose (s : State) (h cause : Nat) : State :=
  match (s.pipe h).stat with
  | none => s
  | some w => State.statPublish (s.wPipe h { s.pipe h with stat := none, statWait := (s.pipe h).statWait ++ [w.results h cause] }) h

/-! ## Life record (R58-R61, R622) -/

/-- LIFE_USED (R61); a rated value of 0 gives 0 % (DESIGN CHOICE, assumption 96). -/
def lifeUsed (cnt rated win winRated wT floor_ : Nat) : Nat :=
  let pct (a b : Nat) : Nat := if b = 0 then 0 else 100 * a / b
  min 255 (max (pct cnt rated) (max (pct win (60 * winRated)) (pct (65536 - wT) (65536 - floor_))))

/-- Publish the life numbers: record plus increments, LIFE_USED and LIFE_STATE with its events. -/
def State.lifePublish (s : State) (h : Nat) : State :=
  let x := s.hd h
  let s1 := s.wAll [(Reg.hlSHUTTER_CNT h, x.life.shutter + x.owed.shutter), (Reg.hlWINDOW_EQ h, x.life.window + x.owed.window)]
  let used := lifeUsed (s1.r (Reg.hlSHUTTER_CNT h)) (s1.r (Reg.hlSHUTTER_RATED h)) (s1.r (Reg.hlWINDOW_EQ h))
    (s1.r (Reg.hlWINDOW_RATED h)) (s1.r (Reg.hlWINDOW_T h)) (s1.r (Reg.hlT_FLOOR h))
  let s2 := s1.w (Reg.hlLIFE_USED h) used
  let old := s2.r (Reg.hlLIFE_STATE h)
  let new := if 100 ≤ used then 2 else if s2.r (Reg.hlLIFE_WARN h) ≤ used then 1 else 0
  if new ≤ old then s2
  else
    let s3 := s2.w (Reg.hlLIFE_STATE h) new
    let s4 := s3.when (decide (old = 0)) fun t => t.event 0x0106 h used
    s4.when (decide (new = 2)) fun t => t.event 0x0107 h used

/-- LIFE_SEQ of the next write: one more than that of the newest written or still on its way (R58). -/
def State.lifeSeqNext (s : State) (h : Nat) : Nat :=
  let x := s.hd h
  (x.life.seq + 1 + ((x.cmd.toList ++ x.queue).filter fun c => decide (c.code = 0x05)).length) % 2 ^ 32

/-- The 64 bytes of the record the device writes now. -/
def State.lifeBytes (s : State) (h : Nat) : Bytes :=
  let x := s.hd h
  let b := leBytes 4 (s.lifeSeqNext h) ++ leBytes 4 (x.life.shutter + x.owed.shutter) ++ leBytes 4 (x.life.window + x.owed.window) ++
    leBytes 4 (x.life.stream + x.owed.stream) ++ leBytes 2 (s.r (Reg.hlWINDOW_T h)) ++ leBytes 2 (x.life.fails + x.owed.fails) ++
    leBytes 4 (x.life.runs + x.owed.runs) ++ leBytes 4 s.epoch ++ leBytes 8 s.now ++ List.replicate 24 0
  b ++ leBytes 4 (crc32 b)

/-- A life-record write falls due: send it in a session, else keep the increments (R60, R622). -/
def State.lifeWrite (s : State) (h : Nat) : State :=
  if (s.hd h).session then s.headCmd h 0x05 (s.lifeBytes h) else s

/-- Has the attach not read the life record yet (R65)? -/
def State.lifeUnread (s : State) (h : Nat) : Bool := let n := (s.hd h).step; decide (1 ≤ n ∧ n ≤ 6)

/-- Publish the life numbers once the record of the attached head has been read (R61, R65). -/
def State.lifeShow (s : State) (h : Nat) : State := if s.lifeUnread h then s else s.lifePublish h

/-- Add increments to the life record. -/
def State.lifeAdd (s : State) (h : Nat) (f : Life → Life) : State :=
  let x := s.hd h
  (s.wHd h { x with owed := f x.owed, owedSerial := s.blob (Reg.hdSERIAL h) }).lifeShow h

/-- Count a shutter actuation: life record and spread counter (R60, R180). -/
def State.actuation (s : State) (h : Nat) : State :=
  (s.lifeAdd h fun l => { l with shutter := l.shutter + 1 }).spreadInc h

/-! ## Write-back (R71-R73, R181) -/

/-- The offsets of the segment, I16 in record order. -/
def State.offsetBytes (s : State) (h : Nat) : Bytes :=
  ((List.range (s.factCount h)).map fun i => leBytes 2 (bits 15 0 (s.record h i))).flatten

/-- A TABLE_WRITE or TABLE_COMMIT of a write-back that the head has not executed: waiting for its turn or for its retry after
BUSY. -/
def HeadCmd.ofWriteBack (c : HeadCmd) : Bool := decide (c.code = 0x07 ∨ c.code = 0x08)

/-- Take back the commands of an abandoned write-back that have not gone out; one that is outstanding is not sent again, and its
answer no longer counts (R73). -/
def Head.purgeWriteBack (x : Head) : Head :=
  { x with queue := x.queue.filter fun c => !c.ofWriteBack
           cmd := (x.cmd.filter fun c => !(c.ofWriteBack && c.waiting.isSome)).map fun c => { c with void := c.void || c.ofWriteBack } }

/-- Start the write-back of the current offsets, abandoning one in progress, whose slot is used again (R72, R73). -/
def State.writeBack (s : State) (h : Nat) : State :=
  if s.follower then s
  else
    let x := (s.hd h).purgeWriteBack
    let slot := match x.wb with
      | some w => w.slot
      | none => (x.setSeq + 1) % 2
    let o := s.offsetBytes h
    let hdr := leBytes 4 (x.setSeq + 1) ++ leBytes 4 (fld 24 4 x.ident) ++ leBytes 4 (s.factCount h) ++ leBytes 4 (crc32 o)
    let s1 := s.wHd h { x with wb := some ⟨slot, x.setSeq + 1, hdr ++ o, 0, 0, s.up⟩ }
    (s1.w (Reg.hlWRITEBACK_STATE h) 1).headCmd h 0x07 (leBytes 1 slot ++ leBytes 4 (16 + o.length))

/-- Abandon a write-back: it is due again after the next attach (R72). -/
def State.dropWriteBack (s : State) (h : Nat) : State :=
  match (s.hd h).wb with
  | some _ => (s.wHd h { (s.hd h).purgeWriteBack with wb := none }).w (Reg.hlWRITEBACK_STATE h) 2
  | none => s

/-! ## Ending a run (R167, R174-R179) -/

/-- Publish the number of proposals in the buffer. -/
def State.tauCount (s : State) (h : Nat) : State :=
  s.w (Reg.pcTAU_PROPOSED h) ((s.px.prop.filter fun e => e.1 / 524288 = h).length)

/-- The measurements of a run enter the proposal buffer: codes written, entries cleared by code 0 (R143). -/
def State.tauMerge (s : State) (h : Nat) (found : List (Nat × Nat)) : State :=
  State.tauCount { s with px := { s.px with
    prop := found.foldl (fun p (e : Nat × Nat) => tset 0 p (pxKey h e.1) e.2) s.px.prop
    tauNew := tset [] s.px.tauNew h ((found.filter fun e => decide (e.2 ≠ 0)).map fun e => e.1) } } h

/-- A run fails: the entries that it has written into the buffer are discarded (R175). -/
def State.tauDiscard (s : State) (h : Nat) : State :=
  State.tauCount { s with px := { s.px with
    prop := (tget [] s.px.tauNew h).foldl (fun p i => tset 0 p (pxKey h i) 0) s.px.prop
    tauNew := tset [] s.px.tauNew h [] } } h

/-- Clear a head's proposal buffer (R143). -/
def State.dropProposals (s : State) (h : Nat) : State :=
  State.w { s with px := { s.px with prop := tkeep (fun k => decide (k / 524288 ≠ h)) s.px.prop } } (Reg.pcTAU_PROPOSED h) 0

/-- Forget the pixels a run has gathered. -/
def State.foldClear (s : State) (h : Nat) : State :=
  { s with px := { s.px with
    fr := tset [] s.px.fr h [], meas := tset [] s.px.meas h [], tauNew := tset [] s.px.tauNew h []
    tau1 := tkeep (fun k => decide (k / 524288 ≠ h)) s.px.tau1
    tau2 := tkeep (fun k => decide (k / 524288 ≠ h)) s.px.tau2
    skim := tkeep (fun k => decide (k / 1024 ≠ h)) s.px.skim } }

/-- The run ends with a result code: LAST_FOLD_RESULT, the waiting FOLD_NOW, the lane record and the interval's start. -/
def State.foldEnd (s : State) (h code state : Nat) : State :=
  match (s.fold h).run with
  | none => s
  | some r =>
    let v := r.tag + 65536 * code
    let s1 := (s.w (Reg.hlLAST_FOLD_RESULT h) v).w (Reg.hlFOLD_STATE h) state
    let s2 := (s1.wFold h { s1.fold h with run := none, lastEnd := some s.up }).wPipe h
      { s1.pipe h with waiting := (s1.pipe h).waiting.filter fun k => decide (k = .cap) }
    let s3 := s2.when r.waits fun t => t.actDone (Reg.hlFOLD_NOW h) v (decide (code = 0))
    (s3.foldClear h).laneRecord h

/-- Mark the head shutter-suspect at the third failure in a row (R176). -/
def State.suspect (s : State) (h : Nat) : State :=
  if 3 ≤ s.r (Reg.hlFOLD_FAIL_SEQ h) ∧ s.r (Reg.hlSHUTTER_SUSPECT h) = 0 then
    ((s.w (Reg.hlSHUTTER_SUSPECT h) 1).event 0x0111 h (s.r (Reg.hlFOLD_FAIL_SEQ h))).laneRecord h
  else s

/-- Clear shutter-suspect and the failure count (R176). -/
def State.unsuspect (s : State) (h : Nat) : State := (s.w (Reg.hlSHUTTER_SUSPECT h) 0).w (Reg.hlFOLD_FAIL_SEQ h) 0

/-- A check fails: count it, raise FOLD_FAULT, write the life record and open the shutter (R175). -/
def State.foldFail (s : State) (h code : Nat) : State :=
  match (s.fold h).run with
  | none => s
  | some r =>
    let s1 := s.wFold h { s.fold h with run := some { r with result := code, passed := false, tag := 0xFFFF } }
    let s2 := ((s1.w (Reg.hlLAST_FOLD_RESULT h) (0xFFFF + 65536 * code)).w (Reg.hlFOLD_STATE h) 6).dropStage h
    let s3 := ((s2.tauDiscard h).bump (Reg.hlFOLD_FAILS h)).addTo 255 (Reg.hlFOLD_FAIL_SEQ h) 1
    let s4 := (s3.event 0x0110 h (0xFFFF + 65536 * code)).suspect h
    let s5 := s4.lifeAdd h fun l => { l with runs := l.runs + 1, fails := l.fails + 1 }
    (s5.lifeWrite h).shutter h 0

/-- Count a run in the life record and write it (R60). -/
def State.lifeRun (s : State) (h : Nat) : State := (s.lifeAdd h fun l => { l with runs := l.runs + 1 }).lifeWrite h

/-- Abort an active run with ABORTED: the segment stays as it is, an armed set of the run is discarded, the next attach opens the
shutter first, and a run is resumed after it (R177). A failed run, and one whose set has switched in, has been counted in the life
record already (assumption 20). -/
def State.foldAbort (s : State) (h : Nat) : State :=
  match (s.fold h).run with
  | none => s
  | some r =>
    let st := s.r (Reg.hlFOLD_STATE h)
    let s1 := if st = 8 then s else if st = 7 ∧ (s.pipe h).armed.any (fun p => decide (p.kind = .fold)) then s.disarm h else s.dropStage h
    let s3 := s1.wFold h { s1.fold h with run := some { r with tag := if st = 8 then r.tag else 0xFFFF }, resumeNext := true }
    let s4 := s3.wHr h { s3.hr h with openDue := true, dark := (s3.hr h).dark || decide (st ≤ 6) }
    (s4.foldEnd h 5 0).when (decide (r.result = 0 ∧ st ≠ 8)) fun t => t.lifeRun h

/-- The armed set of a passed run is superseded before its tag appears (R178). -/
def State.foldDiscard (s : State) (h : Nat) : State :=
  if s.r (Reg.hlFOLD_STATE h) = 7 then (s.foldEnd h 6 0).lifeRun h else s

/-- Arm a set over whatever is armed: a Fold run's set that it supersedes ends the run DISCARDED (R27, R117, R178). -/
def State.superArm (s : State) (h : Nat) (p : PSet) : State :=
  (s.when ((s.pipe h).armed.any fun a => decide (a.kind = .fold)) fun t => t.foldDiscard h).armSet h p

/-- The head leaves STREAMING: the window closes, a waiting FOLD_NOW ends, a run is aborted (R125, R167, R177). -/
def State.leaveStreaming (s : State) (h dest : Nat) : State :=
  if s.attach h = atSTREAMING then
    let s1 := (s.statClose h 2).foldAbort h
    let f := s1.fold h
    let s2 := (s1.wFold h { f with explicit_ := 0, explicitWaits := false }).when f.explicitWaits fun t =>
      t.actDone (Reg.hlFOLD_NOW h) (0xFFFF + 65536 * 8) false
    let s3 := (s2.wPipe h { s2.pipe h with first := true }).wHr h { s2.hr h with zeroRuns := [] }
    State.w { s3 with shep := { s3.shep with hdPend := setBit h false s3.shep.hdPend } } (Reg.hdATTACH_STATE h) dest
  else s.w (Reg.hdATTACH_STATE h) dest

/-! ## Starting a run (R164-R168) -/

/-- The open frame falls under R171 from the close command on. -/
def State.darken (s : State) (h : Nat) : State :=
  s.wPipe h { s.pipe h with frame := (s.pipe h).frame.map fun f => { f with dark := true } }

/-- Start a run: the request is cleared, SHUTTER close is sent and the run counted (R165, R169, R171, R182). -/
def State.foldStart (s : State) (h cause : Nat) : State :=
  let f := s.fold h
  let par := [s.r (Reg.hlFOLD_SETTLE h), s.r (Reg.hlFOLD_FRAMES h), s.r (Reg.hlFOLD_SIGMA_MAX h), s.r (Reg.hlFOLD_STAB_MAX h),
    s.r (Reg.hlFOLD_SUB_SPAN h), s.r (Reg.hlFOLD_DO_MAX h)]
  let f1 := { f with run := some { cause, par, waits := f.explicitWaits }, explicit_ := 0, explicitWaits := false }
  let s1 := s.wFold h { f1 with attachDue := false, resumeDue := false }
  let s2 := (s1.wAll [(Reg.hlFOLD_STATE h, 1), (Reg.hlFOLD_CAUSE h, cause), (Reg.pcTAU_MEASURED h, 0)]).bump (Reg.hlFOLD_RUNS h)
  (((s2.foldClear h).statClose h 2).darken h).shutter h 1

/-- Has a column read 0 in more than 1 % of its pixels in each of the newest 16 frames (R77, R165)? -/
def State.skimAsked (s : State) (h : Nat) : Bool := (s.hr h).zeroRuns.any fun e => decide (16 ≤ e.2)

/-- Evaluate the triggers (R165, R166). -/
def State.foldTrigger (s : State) (h : Nat) : State :=
  let f := s.fold h
  if f.run.isSome ∨ s.attach h ≠ atSTREAMING ∨ s.follower ∨ s.rb Reg.dbgHALTED_PIPES h ∨ (s.pipe h).armed.isSome then s
  else
    let passed : Bool := match f.lastEnd with
      | none => true
      | some t => s.since t (1000000 * s.r (Reg.hlFOLD_MIN_INT h))
    let mean : Rat := meanQ (f.subs16.map fun x => (x : Rat))
    let byRule : Bool := decide (s.r (Reg.hlFOLD_AUTO h) = 1 ∧ s.r (Reg.hlSHUTTER_SUSPECT h) = 0)
    if f.attachDue then s.foldStart h 0
    else if f.resumeDue then s.foldStart h 5
    else if f.explicit_ ≠ 0 then (if f.explicit_ = 2 ∨ passed then s.foldStart h 3 else s)
    else if !byRule ∨ !passed then s
    else if f.subs16 ≠ [] ∧ (s.r (Reg.hlFOLD_DT h) : Rat) < |mean - s.ri 16 (Reg.pcSUB_REF h)| then s.foldStart h 1
    else if s.r (Reg.hlDRIFT_CONF h) < s.r (Reg.hlCONF_MIN h) then s.foldStart h 2
    else if s.skimAsked h then s.foldStart h 4
    else s

/-- DRIFT_CONF (R164): hours since the reference, WINDOW_TEMP against WIN_REF, and DRIFT_RANGE in the last 100 ms. -/
def State.driftConf (s : State) (h : Nat) (winT : Int) : Nat :=
  let f := s.fold h
  let th : Rat := mkRat (s.now - f.refAt : Nat) 3600000000000
  let dw : Rat := |(winT : Rat) - s.ri 16 (Reg.hlWIN_REF h)| / 100
  let pr : Rat := match (s.pipe h).driftAt with
    | some t => if s.up < t + 100000000 then 100 else 0
    | none => 0
  let q : Rat := 100 - (s.r (Reg.hlCONF_AGE h) : Rat) * th - (s.r (Reg.hlCONF_WIN h) : Rat) * dw - pr
  (clampI 0 100 q.floor).toNat

/-! ## Skimming (R76, R172) -/

/-- The median of a list; the mean of the two middle values of an even number (R106). -/
def medianQ (l : List Int) : Rat :=
  let o := sortBy (fun x y => decide (x < y)) l
  let n := o.length
  if n = 0 then 0
  else if n % 2 = 1 then ((o.getD (n / 2) 0 : Int) : Rat)
  else (((o.getD (n / 2 - 1) 0 : Int) : Rat) + ((o.getD (n / 2) 0 : Int) : Rat)) / 2

/-- SKIM_STEP of the attached head, 1/16 count (R56). -/
def State.skimStep (s : State) (h : Nat) : Nat := fld 32 2 (s.hd h).ident

/-- Does an internal commit meet an armed set that is not yet stale, so that it is tried again at the next frame boundary (R115)? -/
def State.mustWait (s : State) (h : Nat) : Bool := (s.pipe h).armed.isSome && !s.armedStale h

/-- Note an internal commit that waits for a frame boundary. -/
def State.commitLater (s : State) (h : Nat) (k : SetKind) : State :=
  s.wPipe h { s.pipe h with waiting := k :: (s.pipe h).waiting.filter fun j => decide (j ≠ k) }

/-- The internal commit of a skimming pass: the current set with the SKIM object's codes (R172). -/
def State.skimArm (s : State) (h : Nat) : State :=
  match (s.fold h).run, (s.pipe h).cur with
  | some r, some c =>
    if s.r (Reg.hlFOLD_STATE h) ≠ 3 ∧ s.r (Reg.hlFOLD_STATE h) ≠ 4 then s
    else if s.mustWait h then s.commitLater h .skim
    else
      let p := { s.internalSet h .skim c with skim := s.skimCodes h }
      let s1 := s.armSet h p
      s1.wFold h { s1.fold h with run := some { r with passTag := some p.tag, measTag := r.measTag.map fun _ => p.tag } }
  | _, _ => s

/-- One skimming pass over its 16 frames: new codes and an internal commit, or on to MEASURING (R76, R172). A column none of whose
pixels gave a count, and a SKIM_STEP of 0, leave the code as it is (DESIGN CHOICE, assumption 97). -/
def State.skimPass (s : State) (h : Nat) : State :=
  match (s.fold h).run, (s.pipe h).cur with
  | some r, some c =>
    let w := c.v 0x101
    let x0 := winX0 (s.r (Reg.hdNATIVE_W h)) w
    let step := s.skimStep h
    let target := c.v 0x107
    let raws (k : Nat) : List Nat := tget [] s.px.skim (1024 * h + k)
    let med (k : Nat) : Rat := if raws k = [] then target else medianQ ((raws k).map fun v => (v : Int))
    let near := (List.range w).all fun k => decide (|med k - target| ≤ mkRat step 16)
    let old := s.skimCodes h
    let new (k : Nat) : Nat := (clampI 0 255 (((old.getD (x0 + k) 0).toNat : Int) +
      (if step = 0 then 0 else roundHA ((med k - target) * 16 / step)))).toNat
    let codes := patchBytes old x0 ((List.range w).map fun k => BitVec.ofNat 8 (new k))
    let s1 := { s with px := { s.px with skim := tkeep (fun k => decide (k / 1024 ≠ h)) s.px.skim } }
    if near ∨ codes = old then
      (s1.wFold h { s1.fold h with run := some { r with passN := 0, measTag := none, n := 0 } }).w (Reg.hlFOLD_STATE h) 4
    else
      let d := (List.range w).foldl (fun a k => tset 0 a k (tget 0 a k + ((new k : Int) - (old.getD (x0 + k) 0).toNat))) r.dCode
      let s2 := s1.wBlob (Reg.hsSKIM h) codes
      let last := decide (r.passes + 1 = 3)
      let tags := if last then some 0xFFFF else none
      let r1 := { r with passes := r.passes + 1, passN := 0, dCode := d, n := 0, passTag := some 0xFFFF, measTag := tags }
      ((s2.wFold h { s2.fold h with run := some r1 }).when last fun t => t.w (Reg.hlFOLD_STATE h) 4).skimArm h
  | _, _ => s

/-! ## Forming and checking the offsets (R173, R174) -/

/-- Drift term of a record at a deviation in 0.01 K, counts (R94). -/
def driftOf (rec_ : Nat) (enable : Bool) (dT : Rat) : Rat :=
  if enable then (recA1 rec_ : Rat) * (dT / 100) / 16 + (recA2 rec_ : Rat) * (dT / 100) * (dT / 100) / 64 else 0

/-- Result of the offsets and checks: failing code or 0, sigma, new SUB_REF, mean WINDOW_TEMP, offsets of every record, kept. -/
structure FoldOut where
  code : Nat
  sigma : Nat
  sub : Int
  win : Int
  offs : List Int
  kept : Nat

/-- Span of a list of values. -/
def spanQ (l : List Rat) : Rat := match l with
  | [] => 0
  | a :: t => t.foldl max a - t.foldl min a

/-- Form the offsets and run the checks on the measurement frames of a run (R173, R174). -/
def State.foldCheck (s : State) (h : Nat) (r : Fold) (c : PSet) : FoldOut :=
  let frames := (tget [] s.px.meas h).reverse
  let half := frames.length / 2
  let e := frames.take half
  let v := frames.drop half
  let enable := decide (c.v 0x401 = 1)
  let range : Rat := c.v 0x402
  let usable := (e.headD []).filter fun p => frames.all fun f => (f.find? fun q => q.i = p.i).any fun q => q.ok
  let mean (fs : List (List FoldPx)) (i : Nat) : Rat :=
    meanQ (fs.map fun f => (((f.find? fun q => q.i = i).map fun q => (q.raw : Rat)).getD 0))
  let subE := meanQ ((r.subs.take half).map fun x => (x : Rat))
  let dTE : Rat := max (-range) (min range (subE - s.ri 16 (Reg.pcSUB_REF h)))
  let g (i : Nat) : Rat := mkRat (recGain (s.record h i)) 2048
  let step := s.skimStep h
  let cs := usable.map fun p =>
    let rc := s.record h p.i
    let o : Rat := (recOffset rc : Rat) / 4 - ((tget 0 r.dCode p.col : Int) : Rat) * step / 16
    (mean e p.i - o - driftOf rc enable dTE) * g p.i
  let cRef : Rat := (roundHA (medianQ (cs.map fun q => roundHA (q * 2 ^ 64)) / 2 ^ 64 * 16) : Rat) / 16
  let newSub := roundHA (meanQ (r.subs.map fun x => (x : Rat)))
  let dSub : Rat := (newSub : Rat) - s.ri 16 (Reg.pcSUB_REF h)
  let isU (i : Nat) : Bool := usable.any fun p => p.i = i
  let oCode (i : Nat) : Int :=
    let rc := s.record h i
    clampI (-32768) 32767 (roundHA (4 * (if isU i then (if g i = 0 then 0 else mean e i - cRef / g i)
      else (recOffset rc : Rat) / 4 + driftOf rc enable dSub)))
  let oNew (i : Nat) : Rat := mkRat (oCode i) 4
  let offs := (List.range (s.factCount h)).map oCode
  let rs := usable.map fun p => (mean v p.i - oNew p.i) * g p.i - cRef
  let var : Rat := meanQ (rs.map fun q => q * q) - meanQ rs * meanQ rs
  let sigma := roundSqrt (256 * var)
  let meds := frames.map fun f => medianQ ((f.filter fun q => isU q.i).map fun q => q.c)
  let big := usable.filter fun p => decide ((r.par.getD 5 0 : Rat) / 4 < |oNew p.i - (recOffset (s.record h p.i) : Rat) / 4|)
  let code :=
    if (r.par.getD 3 0 : Rat) < spanQ meds ∨ (r.par.getD 4 0 : Rat) < spanQ (r.subs.map fun x => (x : Rat)) ∨ 8 < r.skips then 2
    else if (r.par.getD 2 0 : Rat) * (r.par.getD 2 0 : Rat) < 256 * var then 3
    else if usable.length ≤ 100 * big.length then 4
    else if 2 * usable.length < c.v 0x101 * c.v 0x102 then 3
    else 0
  ⟨code, min 65535 sigma, newSub, roundHA (meanQ (r.wins.map fun x => (x : Rat))), offs, s.factCount h - usable.length⟩

/-- CHECKING ends: publish sigma and kept, stage the offsets of a run that passes, or fail it; the shutter is opened. -/
def State.foldChecked (s : State) (h : Nat) : State :=
  match (s.fold h).run, (s.pipe h).cur with
  | some r, some c =>
    let o := s.foldCheck h r c
    let s1 := (s.w (Reg.hlLAST_SIGMA h) o.sigma).w (Reg.hlFOLD_KEPT h) o.kept
    if o.code ≠ 0 then s1.foldFail h o.code
    else
      let st := tsetRun 0x10000 s1.px.stage (pxKey h 0) (o.offs.map fun i => enc2 16 i)
      let s2 := { s1 with px := { s1.px with stage := st } }
      let s3 := s2.wFold h { s2.fold h with run := some { r with newSub := o.sub, winRef := o.win, passed := true } }
      (s3.w (Reg.hlFOLD_STATE h) 6).shutter h 0
  | _, _ => s

/-- OFFSETS: the new offsets of a head in parts of 8 KiB (R480). -/
def State.offsetsOut (s : State) (h tag : Nat) : State :=
  let n := s.factCount h
  s.each (List.range ((n + 4095) / 4096)) fun k t =>
    t.toPartner (.offsets t.epoch h tag
      ⟨4096 * k, (List.range (min 4096 (n - 4096 * k))).map fun i => sgn 16 (tget 0x10000 t.px.stage (pxKey h (4096 * k + i)))⟩)

/-- The internal commit of a passed run: the current set with the new offsets and SUB_REF (R115). -/
def State.foldArm (s : State) (h : Nat) : State :=
  match (s.fold h).run, (s.pipe h).cur with
  | some r, some c =>
    if s.mustWait h then s.commitLater h .fold
    else
      let p := { s.internalSet h .fold c with offsets := true, subRef := r.newSub }
      let s1 := (s.wFold h { s.fold h with run := some { r with tag := p.tag } }).armSet h p
      if s1.pair.authority then s1.offsetsOut h p.tag else s1
  | _, _ => s

/-- OPENING ends with the shutter open: a passed run arms its set (R115, R169), a failed one is over. -/
def State.foldOpened (s : State) (h : Nat) : State :=
  match (s.fold h).run with
  | some r => if r.passed then (s.w (Reg.hlFOLD_STATE h) 7).foldArm h else s.foldEnd h r.result 9
  | none => s

/-- The shutter is found not open (R179): a passed run fails with FAULT_SHUTTER; opening is repeated every second. -/
def State.foldNotOpen (s : State) (h : Nat) : State :=
  match (s.fold h).run with
  | some r =>
    let s1 := s.wHr h { s.hr h with reopen := true, reopenAt := s.up }
    let s2 := if r.passed then
        let t := s1.wFold h { s1.fold h with run := some { r with passed := false, result := 1 } }
        let t1 := (((t.tauDiscard h).bump (Reg.hlFOLD_FAILS h)).addTo 255 (Reg.hlFOLD_FAIL_SEQ h) 1).dropStage h
        let t2 := (t1.event 0x0110 h (0xFFFF + 65536)).suspect h
        (t2.lifeAdd h fun l => { l with runs := l.runs + 1, fails := l.fails + 1 }).lifeWrite h
      else s1
    s2.foldEnd h (if r.passed then 1 else r.result) 9
  | none => s

/-- The switching frame of a run's set closes: the run has succeeded (R121, R164, R169, R176, R181, R182). CLOSING_OUT waits for the
answer to this run's life record; where none can be sent it is over (R622). -/
def State.foldSwitched (s : State) (h t0 : Nat) : State :=
  match (s.fold h).run with
  | some r =>
    let was := s.r (Reg.hlSHUTTER_SUSPECT h)
    let s1 := (s.unsuspect h).wAll [(Reg.hlFOLD_LAST_OK h, t0), (Reg.hlDRIFT_CONF h, 100), (Reg.hlWIN_REF h, sat2 16 r.winRef),
      (Reg.hlFOLD_STATE h, 8)]
    let s2 := s1.wFold h { s1.fold h with refAt := t0 }
    let s3 := s2.when (decide (was ≠ 0)) fun t => t.laneRecord h
    let l := (s3.persist h).filterMap fun (q : Patch) => let m := setBit 0 false q.mask; if m = 0 then none else some { q with mask := m }
    let s4 := s3.when (decide (l ≠ s3.persist h)) fun t => t.wPersist h l
    let sent := (s4.hd h).session && !s4.follower
    let s5 := s4.wFold h { s4.fold h with run := some { r with lifeSeq := some (s4.lifeSeqNext h) } }
    let s6 := (s5.lifeRun h).writeBack h
    if sent then s6 else s6.foldEnd h 0 0
  | none => s

end Sys2Proof.Machine
end

