-- ==== Sys2Proof/Machine/Replace.lean ====
section
/-! DEFINITION. Shepherd's re-placement, shedding, easing of export groups, and restoring (R319-R323). -/

namespace Sys2Proof.Machine

/-! ## Re-placement (R319, R321, R322) -/

/-- The shedding of a head takes effect: its session with the stream ends, it is sent STREAM (standby), and its segment, which a full
attach would have to write anew, is released (R321). Its current and armed sets stand until the set of its next attach (DESIGN CHOICE,
assumption 96). -/
def State.headShed (s : State) (h : Nat) : State :=
  let s0 := { s with shep := { s.shep with hdPend := setBit h false s.shep.hdPend } }
  let a := s.attach h
  let s1 := s0.when (decide (a = atSTREAMING ∨ a = atATTACHING)) fun t => t.leaveStreaming h atSTANDBY
  let x := s1.hd h
  let y := if x.step = 0 then x else { x with step := 0, cmd := none, queue := [] }
  let s2 := s1.wHd h { y with lastFull := none, abbrev_ := false }
  let s3 := s2.wPipe h { s2.pipe h with frame := none }
  s3.when (s3.laneUp h) fun t => t.stream h 1

/-- A shed head that streams takes its shedding at its next SOF (R319). -/
def State.headBoundary (s : State) (h : Nat) : State := if bit h s.shep.hdPend then s.headShed h else s

/-- Shed one item for the DRAM checks: stations first, then histories, then heads (R321). A running station stops at its next line
completion, a head that streams, and its histories, at its next SOF (R319). -/
def State.shedOne (s : State) : Option State :=
  let sp (st : Nat) : Nat := s.r (Reg.sintST_PRIO st)
  let hp (h : Nat) : Nat := s.r (Reg.hintHEAD_PRIO h)
  match sortBy (fun x y => decide (sp x < sp y ∨ (sp x = sp y ∧ y < x))) (stations.filter s.runs) with
  | st :: _ =>
    let runs := s.domUp 16 && !s.rb Reg.thmTHROTTLED_ST st
    let s1 := (s.wb Reg.shpSHED_STATIONS st true).event 0x0203 4 st
    some (if runs then { s1 with shep := { s1.shep with stPend := setBit st true s1.shep.stPend } } else s1)
  | [] =>
    let order := sortBy (fun x y => decide (hp x < hp y ∨ (hp x = hp y ∧ y < x)))
    match order (headNos.filter fun h => s.placed h && decide (0 < s.rawDepth h + s.fsDepth h)) with
    | h :: _ => some ((s.wb Reg.shpSHED_HISTORY h true).event 0x0203 6 h)
    | [] => match order (headNos.filter s.placed) with
      | h :: _ =>
        let s1 := (s.wb Reg.shpSHED_HEADS h true).event 0x0203 1 h
        some (if s1.attach h = atSTREAMING then { s1 with shep := { s1.shep with hdPend := setBit h true s1.shep.hdPend } }
          else s1.headShed h)
      | [] => none

/-- Shed until checks 3 and 4 pass; at most every station, history and head. -/
def State.shed (s : State) : Nat → State
  | 0 => s
  | n + 1 =>
    let f := s.dramFits s.fillPool
    if f.1 && f.2 then s
    else match s.shedOne with
      | some t => t.shed n
      | none => s

/-- The placement as published. -/
def State.placing (s : State) : Placing :=
  (streamNos.filter fun x => decide (s.r (Reg.strmPLACED_GROUP x) ≠ 0xFF ∧ s.r (Reg.strmKIND x) ≠ 0)).map fun x =>
    (x, s.r (Reg.strmPLACED_GROUP x), s.streamLoad x (s.r (Reg.strmPLACED_FORMAT x)))

/-- Streams of a group, lowest priority first, ties the higher number (R322). -/
def State.groupStreams (s : State) (g : Nat) (p : Placing) : List Nat :=
  let pr (x : Nat) : Nat := s.r (Reg.strmSTREAM_PRIO x)
  sortBy (fun x y => decide (pr x < pr y ∨ (pr x = pr y ∧ y < x))) ((p.filter fun e => e.2.1 = g).map fun e => e.1)

/-- Is a group over 95 % of its lanes? -/
def State.overGroup (s : State) (p : Placing) (g : Nat) : Bool := decide ((mkRat 95 100) * s.placeCap g < groupLoad p g)

/-- The three steps of R322 on one stream of group g. -/
def State.easeStream (s : State) (g step x : Nat) (p : Placing) : State × Placing :=
  if !s.overGroup p g then (s, p)
  else
    let fmt := s.r (Reg.strmPLACED_FORMAT x)
    if step = 0 then
      if s.rb (Reg.strmPOLICY x) 0 ∧ 0 < fmt ∧ s.r (Reg.strmKIND x) = 1 then
        let s1 := (s.w (Reg.strmPLACED_FORMAT x) (fmt - 1)).w (Reg.strmSTREAM_STATE x) 4
        (s1, p.map fun e => if e.1 = x then (x, g, s1.streamLoad x (fmt - 1)) else e)
      else (s, p)
    else if step = 1 then
      let rest := p.filter fun e => e.1 ≠ x
      let load := s.streamLoad x fmt
      match if s.rb (Reg.strmPOLICY x) 1 then
          (List.range 12).find? fun k => decide (k ≠ g ∧ (s.r (Reg.strmGROUP_PIN x) = 0xFF ∨ s.r (Reg.strmGROUP_PIN x) = k)) &&
            fits s.placeCap rest k load
        else none with
      | some k => (s, rest ++ [(x, k, load)])
      | none => (s, p)
    else ((s.wAll [(Reg.strmSTREAM_STATE x, 3), (Reg.strmPLACED_GROUP x, 0xFF)]).event 0x0203 10 x, p.filter fun e => e.1 ≠ x)

/-- Ease one group: downgrade, then move, then drop. -/
def State.easeGroup (s : State) (g : Nat) (p : Placing) : State × Placing :=
  [0, 1, 2].foldl (fun a step =>
    (a.1.groupStreams g a.2).foldl (fun b x => b.1.easeStream g step x b.2) a) (s, p)

/-- The streams after the shedding: overloaded groups are eased, or every stream is placed afresh where that can be done (R322). -/
def State.rePlaced (s : State) : State × Placing :=
  let p0 := s.placing
  if (List.range 12).any fun g => s.overGroup p0 g then (List.range 12).foldl (fun a g => a.1.easeGroup g a.2) (s, p0)
  else
    let q := s.placeStreams s.placeCap s.liveStreams
    (s, if q.2 = [] then q.1 else p0)

/-- The map has a new MAP_SEQ, where its publication has not given it one. -/
def State.mapNewer (s : State) (old : Nat) : State :=
  if s.r Reg.shpMAP_SEQ = old then
    State.w { s with shep := { s.shep with mapTime := s.now } } Reg.shpMAP_SEQ ((s.r Reg.shpMAP_SEQ + 1) % 2 ^ 32)
  else s

/-- A re-placement for a cause: the placement is published, MAP_SEQ, REPLACEMENTS and LAST_CAUSE follow, and Tally enters it (R319). -/
def State.replaceWith (s : State) (cause : Nat) (p : Placing) : State :=
  let s3 := s.publish cause p s.runFormat
  let s4 := (s3.bump Reg.shpREPLACEMENTS).w Reg.shpLAST_CAUSE cause
  let s5 := s4.mapNewer (s.r Reg.shpMAP_SEQ)
  s5.tlyAdd 0x42 7 Reg.shpMAP_SEQ cause 0 (s5.r Reg.shpMAP_SEQ)

/-- Re-place the configuration for a cause: shed for the DRAM checks, then ease overloaded groups or place the streams afresh (R319,
R321, R322). -/
def State.replace (s : State) (cause : Nat) : State :=
  let r := (s.shed 72).rePlaced
  r.1.replaceWith cause r.2

/-! ## Restoring (R323) -/

/-- Streams that are dropped, or downgraded by Shepherd rather than by the throttle ladder. -/
def State.easedStreams (s : State) : List Nat :=
  streamNos.filter fun x => s.r (Reg.strmKIND x) ≠ 0 && (decide (s.r (Reg.strmSTREAM_STATE x) = 3) ||
    (decide (s.r (Reg.strmSTREAM_STATE x) = 4) && !(s.pwr.eased.any fun e => e.1 = x)))

/-- The item that is restored next, 256 * KIND + instance with the KIND of R326: the reverse of the shedding order. -/
def State.nextRestore (s : State) : Option Nat :=
  let hp (h : Nat) : Nat := s.r (Reg.hintHEAD_PRIO h)
  let sp (st : Nat) : Nat := s.r (Reg.sintST_PRIO st)
  let xp (x : Nat) : Nat := s.r (Reg.strmSTREAM_PRIO x)
  let first (p : Nat → Nat) (l : List Nat) : Option Nat := (sortBy (fun x y => decide (p y < p x ∨ (p x = p y ∧ x < y))) l).head?
  match first hp (headNos.filter fun h => s.rb Reg.shpSHED_HEADS h) with
  | some h => some (256 + h)
  | none => match first hp (headNos.filter fun h => s.rb Reg.shpSHED_HISTORY h) with
    | some h => some (6 * 256 + h)
    | none => match first sp (stations.filter fun st => s.rb Reg.shpSHED_STATIONS st) with
      | some st => some (4 * 256 + st)
      | none => (first xp s.easedStreams).map (10 * 256 + ·)

/-- The configuration with an item restored; a stream by one format step. -/
def State.restored (s : State) (item : Nat) : State :=
  let i := item % 256
  let k := item / 256
  if k = 1 then s.wb Reg.shpSHED_HEADS i false
  else if k = 6 then s.wb Reg.shpSHED_HISTORY i false
  else if k = 4 then s.wb Reg.shpSHED_STATIONS i false
  else
    let f := if s.r (Reg.strmSTREAM_STATE i) = 4 then s.r (Reg.strmPLACED_FORMAT i) + 1 else s.r (Reg.strmPLACED_FORMAT i)
    s.wAll [(Reg.strmPLACED_FORMAT i, f), (Reg.strmSTREAM_STATE i, if s.r (Reg.strmKIND i) = 1 ∧ f < s.r (Reg.strmFORMAT i) then 4 else 1)]

/-- The candidate with item i restored passes checks 1 to 5: its hold begins, with the partner's verdict first where it is connected; a
refusal of the partner's stands for RESTORE_HOLD (R323, R325; assumption 108). -/
def State.watchBegin (s : State) (i : Nat) : State :=
  let t := { s with shep := { s.shep with watch := none } }
  if !t.partnerUp then { t with shep := { t.shep with watch := some (i, t.up) } }
  else if t.shep.cands ≠ [] ∨ t.shep.refusedAt.any (fun q => !t.since q (t.r Reg.shpRESTORE_HOLD * 1000000)) then t
  else t.askPartner (t.restored i) (.watch i)

/-- Keep the time since which the candidate with the next item restored has passed every check. -/
def State.watchStep (s : State) : State :=
  match s.nextRestore with
  | none => if s.shep.watch.isNone then s else { s with shep := { s.shep with watch := none } }
  | some i =>
    if (s.restored i).check.1 ≠ 0 then { s with shep := { s.shep with watch := none } }
    else match s.shep.watch with
      | some (j, _) => if i = j then s else s.watchBegin i
      | none => s.watchBegin i

/-- The item whose restoring is due: its candidate has passed for RESTORE_HOLD, and so long ago was the last restore. -/
def State.restoreDue (s : State) : Option Nat :=
  let hold := s.r Reg.shpRESTORE_HOLD * 1000000
  match s.shep.watch with
  | some (i, t) => if s.since t hold && (match s.shep.lastRestore with
      | some q => s.since q hold
      | none => true) then some i else none
  | none => none

end Sys2Proof.Machine
end

