-- ==== Sys2Proof/Machine/Attach.lean ====
section
/-! DEFINITION. The attach of a head and everything a reply, a timeout or an event of a head brings about: identity,
authentication, binding, life record, tables, settings, Fold and write-back replies (R55-R78, R83-R87, R168-R181, R495). -/

namespace Sys2Proof.Machine

/-! ## Failure and refusal (R64, R68, R74) -/

/-- Complete a waiting REBIND with a SERIAL, or the empty string (R75). -/
def State.rebindEnd (s : State) (h : Nat) (serial : Bytes) : State :=
  if s.actBusy (Reg.hdREBIND h) then
    (s.wBlob (Reg.hdREBIND_RESULT h) serial).actDone (Reg.hdREBIND h) (blockValue serial) true
  else s

/-- Refuse the head with a cause of R85. -/
def State.refuse (s : State) (h cause : Nat) : State :=
  let s1 := s.leaveStreaming h atREFUSED
  let s2 := s1.wHd h { s1.hd h with step := 0, cmd := none, queue := [], retryAt := none, authRetryAt := none, up := [] }
  ((s2.w (Reg.hdREFUSE_CAUSE h) cause).event 0x0105 h cause).rebindEnd h []

/-- An attach step has failed: again after 1 s, refused after the third failure (R68). -/
def State.attachFail (s : State) (h cause : Nat) : State :=
  let x := s.hd h
  if 3 ≤ x.fails + 1 then s.refuse h cause
  else s.wHd h { x with fails := x.fails + 1, step := 0, cmd := none, queue := [], retryAt := some s.up, up := [] }

/-- Start an attach from step 1 (R65): a new session, a new time fit, STREAM standby and IDENTIFY. A write-back that a REBIND cuts
is due again after the attach, as when the link is lost (DESIGN CHOICE, assumption 96). -/
def State.startAttach (s : State) (h : Nat) : State :=
  let s0 := s.dropWriteBack h
  let s1 := (s0.wHd h { s0.hd h with session := false }).leaveStreaming h atATTACHING
  let x := s1.hd h
  let y := { x with
    cmd := none, queue := [], probes := [], firstDelay := none, timeErr := false, timeGood := 0, step := 1
    abbrev_ := false, retryAt := none, authRetryAt := none, up := [], tableTries := 0 }
  let s2 := (s1.wHd h y).wAll [(Reg.hdREFUSE_CAUSE h, 0), (Reg.hdTIME_RESID h, 0)]
  (s2.stream h 1).headCmd h 0x01 []

/-- A head lane has trained: attach with fresh counts of failures; SEQ and the skim codes start anew (R38, R65, R78). -/
def State.laneTrained (s : State) (h : Nat) : State :=
  let s1 := s.wHd h { s.hd h with fails := 0, authFails := 0, rxSeq := none }
  let s2 := s1.wHr h { s1.hr h with fresh := true, applied := none }
  s2.startAttach h

/-- The lane has lost lock: the session, the frame and the commands end (R63, R72, R80, R177). -/
def State.headLost (s : State) (h : Nat) : State :=
  let s1 := s.dropWriteBack h
  let s2 := s1.wHd h { s1.hd h with cmd := none, queue := [], session := false, step := 0, retryAt := none, authRetryAt := none }
  let s3 := s2.wHr h { s2.hr h with sofAt := none, stale := none, staleSettings := false, minuteAt := 0 }
  (if s3.attach h = atREFUSED then s3 else s3.leaveStreaming h atATTACHING).rebindEnd h []

/-! ## Authentication (R62-R64) -/

/-- K_head of the identified head; none without the fleet key. -/
def State.kHead (s : State) (h : Nat) : Option Bytes :=
  let id := (s.hd h).ident
  (s.fac.kFleet.find? fun e => e.1 = fld 38 2 id).map fun e => hmac e.2 ((id.drop 12).take 12)

/-- Send AUTH_CHALLENGE with a fresh nonce. -/
def State.authStart (s : State) (h : Nat) : State :=
  let n := padTo 16 (Config.freeBytes s.free 16)
  let s1 := s.used.wHd h { s.hd h with step := 3, nD := n, authRetryAt := none }
  s1.headCmd h 0x02 n

/-- A failed exchange (R64). -/
def State.authFailed (s : State) (h : Nat) : State :=
  let s1 := s.bump (Reg.hcAUTH_FAIL h)
  let x := s1.hd h
  if 3 ≤ x.authFails + 1 then s1.refuse h 2
  else s1.wHd h { x with authFails := x.authFails + 1, step := 3, authRetryAt := some s1.up }

/-- Judge the head's answer to the challenge. -/
def State.authReply (s : State) (h : Nat) (d : Bytes) : State :=
  let x := s.hd h
  let serial := (x.ident.drop 12).take 12
  let nH := d.take 16
  match s.kHead h with
  | none => s.authFailed h
  | some k =>
    if d.length = 32 ∧ d.drop 16 = mac128 k ([0x48] ++ x.nD ++ nH ++ serial ++ (x.ident.drop 60).take 4) then
      (s.wHd h { x with step := 4 }).headCmd h 0x03 (mac128 k ([0x44] ++ nH ++ x.nD ++ serial))
    else s.authFailed h

/-! ## Binding (R74, R122, R153, R176, R180) -/

/-- SERIAL that the lane is bound to, or was bound to before a REBIND without a head cleared the binding; empty when neither is
known (assumption 98). -/
def State.lastBound (s : State) (h : Nat) : Bytes :=
  let b := s.blob (Reg.hdBOUND_SERIAL h)
  if b = [] then (s.hd h).unbound else b

/-- Bind the lane to a SERIAL; another SERIAL than before clears what belonged to the old head. Where the one before is not known, the
persistent list and the spread counter that some head has left go, too (assumption 98). -/
def State.bindTo (s : State) (h : Nat) (serial : Bytes) : State :=
  let old := s.lastBound h
  if s.blob (Reg.hdBOUND_SERIAL h) = serial then s
  else
    let s1 := ((s.wBlob (Reg.hdBOUND_SERIAL h) serial).wHd h { s.hd h with unbound := [] }).dropProposals h
    let s2 := if old = serial then s1
      else if old = [] then
        (s1.when (decide (s1.persist h ≠ [])) fun t => t.wPersist h []).when (decide ((s1.spread h).value ≠ 0)) fun t => t.spreadRestart h
      else
        let a := (s1.wPersist h []).respDefaulted h
        let b := (a.wHd h { a.hd h with wb := none }).w (Reg.hlWRITEBACK_STATE h) 0
        (b.unsuspect h).spreadRestart h
    s2.laneRecord h

/-! ## Life record (R58, R60, R622) -/

/-- The numbers of a record's bytes. -/
def lifeOf (d : Bytes) : Life := ⟨fld 0 4 d, fld 4 4 d, fld 8 4 d, fld 12 4 d, fld 16 2 d, fld 18 2 d, fld 20 4 d⟩

/-- Are increments owed? -/
def Life.any (l : Life) : Bool := decide (l.shutter + l.window + l.stream + l.fails + l.runs ≠ 0)

/-- LIFE_WRITE has been answered OK: what was written is no longer owed. -/
def State.lifeWritten (s : State) (h : Nat) (args : Bytes) : State :=
  let x := s.hd h
  let w := lifeOf args
  let l := x.life
  let o := x.owed
  let rest := { o with
    shutter := o.shutter - (w.shutter - l.shutter), window := o.window - (w.window - l.window)
    stream := o.stream - (w.stream - l.stream), fails := o.fails - (w.fails - l.fails), runs := o.runs - (w.runs - l.runs) }
  ((s.wHd h { x with life := w, owed := rest }).w (Reg.hlLIFE_WRITE_TIME h) s.now).lifePublish h

/-- CLOSING_OUT ends with the answer to the run's own LIFE_WRITE, or its failure (R169); an answer other than OK counts as a failure
(DESIGN CHOICE, assumption 97). -/
def State.lifeEnded (s : State) (h seq : Nat) : State :=
  if s.r (Reg.hlFOLD_STATE h) = 8 ∧ (s.fold h).run.any (fun r => decide (r.lifeSeq = some seq)) then s.foldEnd h 0 0 else s

/-- Two sums of increments taken together. -/
def Life.plus (a b : Life) : Life :=
  { a with shutter := a.shutter + b.shutter, window := a.window + b.window, stream := a.stream + b.stream, fails := a.fails + b.fails
           runs := a.runs + b.runs }

/-- Put aside the increments of the head that was on the lane before this one (R622). -/
def State.parkOwed (s : State) (h : Nat) (serial : Bytes) : State :=
  let x := s.hd h
  if x.owedSerial = serial then s
  else s.wHd h { x with owed := {}, owedSerial := serial, parked := if x.owed.any then (x.owedSerial, x.owed) :: x.parked else x.parked }

/-- Take up the increments put aside for a SERIAL, on whichever lane they were made (R622). -/
def State.claimOwed (s : State) (h : Nat) (serial : Bytes) : State :=
  s.each (List.range 32) fun j t =>
    let y := t.hd j
    let live := decide (j ≠ h ∧ y.owedSerial = serial) && !y.session
    let got := ((y.parked.filter fun e => decide (e.1 = serial)).map (fun e => e.2) ++ if live then [y.owed] else []).foldl Life.plus {}
    let t1 := t.wHd j { y with parked := y.parked.filter fun e => decide (e.1 ≠ serial), owed := if live then {} else y.owed }
    t1.wHd h { t1.hd h with owed := (t1.hd h).owed.plus got }

/-- Take the life record of step 6; an invalid one counts as zeros and is reported (R58). -/
def State.lifeRead (s : State) (h : Nat) (d : Bytes) (ok : Bool) : State :=
  let good := ok && decide (d.length = 64 ∧ fld 60 4 d = crc32 (d.take 60))
  let s1 := if good then s else s.event 0x0104 h 4
  let l : Life := if good then lifeOf d else {}
  let serial := s1.blob (Reg.hdSERIAL h)
  let sp := (s1.parkOwed h serial).claimOwed h serial
  let s2 := (sp.wHd h { sp.hd h with life := l }).wHr h { sp.hr h with wT := l.wT }
  let s3 := (s2.w (Reg.hlWINDOW_T h) l.wT).lifePublish h
  if (s3.hd h).owed.any && !s3.follower then s3.lifeWrite h else s3

/-! ## Fitting the settings (R67) -/

/-- The smallest interval in whole microseconds at which L is at most 90 % of the payload rate. -/
def fitInterval (rate w ht : Nat) : Nat :=
  let n : Rat := laneLoad w ht 1000 * 1000
  let q : Rat := if rate = 0 then 16000000 else n / (mkRat 9 10 * rate) / 1000
  min 16000000 (1000 * q.ceil.toNat)

/-- Adjust the shadow objects to the attached head, and report the steps that changed one. -/
def State.adjust (s : State) (h : Nat) : State :=
  let w := s.r (Reg.hsWIDTH h)
  let ht := s.r (Reg.hsHEIGHT h)
  let w1 := min w (s.r (Reg.hdNATIVE_W h))
  let h1 := min ht (s.r (Reg.hdNATIVE_H h))
  let m0 := decide (w1 ≠ w ∨ h1 ≠ ht)
  let s1 := (s.w (Reg.hsWIDTH h) w1).w (Reg.hsHEIGHT h) h1
  let x0 := s.r (Reg.ppSTAT_X0 h)
  let y0 := s.r (Reg.ppSTAT_Y0 h)
  let m1 := decide (w1 ≤ x0 ∨ h1 ≤ y0 ∨ w1 < x0 + s.r (Reg.ppSTAT_W h) ∨ h1 < y0 + s.r (Reg.ppSTAT_H h))
  let s2 := s1.when m1 fun t =>
    t.wAll [(Reg.ppSTAT_X0 h, 0), (Reg.ppSTAT_Y0 h, 0), (Reg.ppSTAT_W h, 0), (Reg.ppSTAT_H h, 0)]
  let iv := s2.r (Reg.hsFRAME_INTERVAL h)
  let m2 := s2.overLoad h w1 h1 iv
  let s3 := s2.when m2 fun t => t.w (Reg.hsFRAME_INTERVAL h) (fitInterval (rateBps (t.r (Reg.laneRATE_ACTIVE h))) w1 h1)
  s3.when (m0 || m1 || m2) fun t => t.event 0x010C h (b2n m0 + 2 * b2n m1 + 4 * b2n m2)

/-! ## Tables (R65 steps 7 and 8, R70, R71, R120) -/

/-- Ask for n bytes of a table from an offset. -/
def State.tableReadAt (s : State) (h id off n : Nat) : State :=
  (s.wHd h { s.hd h with up := [] }).headCmd h 0x06 (leBytes 1 id ++ leBytes 4 off ++ leBytes 4 n)

/-- Ask for the first n bytes of a table. -/
def State.tableRead (s : State) (h id n : Nat) : State := s.tableReadAt h id 0 n

/-- Write the factory records into the segment. -/
def State.loadRecords (s : State) (h : Nat) (d : Bytes) (n : Nat) : State :=
  let keep := tkeep (fun k => decide (k / 524288 ≠ h)) s.px.seg
  let bad := tkeep (fun k => decide (k / 524288 ≠ h)) s.px.bad
  let prop := tkeep (fun k => decide (k / 524288 ≠ h)) s.px.prop
  let sharp := tkeep (fun k => decide (k / 524288 ≠ h)) s.px.sharp
  let seg := tsetRun 0 keep (pxKey h 0) ((List.range n).map fun i => fld (8 * i) 8 d)
  State.wHr { s with px := { s.px with seg, bad, prop, sharp } } h { s.hr h with rebuild := [], rebuilt := [], foldOnly := [] }

/-! ### Records that read uncorrectable (R357) -/

/-- Ask for the factory records of the first block that waits, once the head is attached. -/
def State.rebuildNext (s : State) (h : Nat) : State :=
  match (s.hr h).rebuild with
  | [] => s
  | i :: _ => if (s.attach h = atSTANDBY ∨ s.attach h = atSTREAMING) ∧ (s.hd h).step = 0 then s.tableReadAt h 0 (8 * i) 64 else s

/-- Write rebuilt records into the segment, between frames only; where a Fold run has to measure the offset first, the pixel stays
missing. CLASS_COUNTS is counted anew, though R131 names switching frames and attaches alone (DESIGN CHOICE, assumption 49). -/
def State.applyRebuilt (s : State) (h : Nat) : State :=
  if (s.hr h).rebuilt = [] ∨ (s.pipe h).frame.isSome then s
  else
    let s1 := s.each (s.hr h).rebuilt fun e t =>
      let u := t.wRecord h e.1 e.2
      if (t.hr h).foldOnly.contains (e.1 / 8 * 8) then u else { u with px := { u.px with bad := tset false u.px.bad (pxKey h e.1) false } }
    (s1.wHr h { s1.hr h with rebuilt := [] }).recountClasses h

/-- The factory records of a block have come: the offsets in use go in, then the persistent patches. A read that failed leaves the
block's pixels missing. -/
def State.rebuildRead (s : State) (h st : Nat) : State :=
  let x := s.hr h
  match x.rebuild with
  | [] => s
  | i :: rest =>
    let up := (s.hd h).up
    let one (j : Nat) : Nat × Nat :=
      let r := putBits 15 0 (fld (8 * j) 8 up) (s.record h (i + j))
      (i + j, ((s.persist h).filter fun q => decide (q.index = i + j)).foldl (fun v q => patchRecord v q.mask q.record) r)
    let new := if st = 0 ∧ up.length = 64 then (List.range 8).map one else []
    ((s.wHr h { x with rebuild := rest, rebuilt := x.rebuilt ++ new }).applyRebuilt h).rebuildNext h

/-- Replace the offset of every record by the working set's. -/
def State.loadOffsets (s : State) (h : Nat) (d : Bytes) : State :=
  s.each (List.range (s.factCount h)) fun i t => t.wRecord h i (putBits 15 0 (t.record h i) (fld (2 * i) 2 d))

/-- Is a working set the head's own and whole (R71)? -/
def State.workingSetOk (s : State) (h : Nat) (d : Bytes) : Bool :=
  let n := s.factCount h
  decide (d.length = 16 + 2 * n ∧ fld 4 4 d = fld 24 4 (s.hd h).ident ∧ fld 8 4 d = n ∧ fld 12 4 d = crc32 (d.drop 16))

/-- The set of tag 0x0000 (R66), its interval no shorter than a cap in force (R519). -/
def State.attachSet (s : State) (h : Nat) : PSet :=
  let v := s.cappedVals h
  { tag := 0, kind := .attach, vals := v, skim := s.skimCodes h, subRef := s.ri 16 (Reg.pcSUB_REF h)
    slots := s.newestSlots h (tget 0 v 0x424) }

/-- The attach set becomes the current one; its SUB_REF is still to come (R66, R152, R160, R168, R521). -/
def State.takeAttachSet (s : State) (h : Nat) : State :=
  let p := s.attachSet h
  let a := (s.wPipe h { s.pipe h with cur := some p, armed := none, hostInterval := some (s.r (Reg.hsFRAME_INTERVAL h)) }).wHr h
    { s.hr h with subDue := true }
  a.wAll [(Reg.hsCURRENT_TAG h, 0), (Reg.hsARMED_TAG h, 0xFFFF), (Reg.pkBOUND_SLOTS h, p.slots)]

/-- Step 9: TIME_PROBE, SETTINGS and STREAM; the abbreviated attach arms the current set under the next tag (R65, R66, R69). A
follower streams with the sets that the bellwether has sent it; without the connection it forms the attach set (R495). -/
def State.attachNine (s : State) (h : Nat) : State :=
  let s1 := (s.wHd h { s.hd h with step := 9, lastProbe := s.up }).headCmd h 0x0A []
  let s2 :=
    if (s1.hd h).abbrev_ then
      match (s1.pipe h).cur with
      | some c => if s1.follower then s1 else s1.armSet h (s1.internalSet h .abbrev_ c)
      | none => s1
    else if s1.follower then
      s1.when (!s1.partnerUp) fun t => t.takeAttachSet h
    else (s1.takeAttachSet h).sendSettings h (s1.attachSet h)
  if s2.follower then s2.wHd h { s2.hd h with step := 10 } else s2.stream h 2

/-- Step 9 waits for the retrains while the device leaves STANDBY (R512). -/
def State.goNine (s : State) (h : Nat) : State :=
  if s.pwr.target.isSome ∧ (List.range 16).any (fun d => (tget {} s.mem.subs d).retrain ≠ 0) then
    s.wHd h { s.hd h with step := 11 }
  else s.attachNine h

/-- Step 8 is done: patches on top, counts, and on to step 9. -/
def State.attachEight (s : State) (h : Nat) : State :=
  let s1 := s.each (s.persist h) fun q t => t.wRecord h q.index (patchRecord (t.record h q.index) q.mask q.record)
  let s2 := (s1.recountClasses h).w (Reg.pcTAU_PROPOSED h) ((s1.px.prop.filter fun e => e.1 / 524288 = h).length)
  (s2.wHd h { s2.hd h with up := [] }).goNine h

/-- Answer to the TABLE_READ of the working offsets (R71). The previous SET_SEQ of R72 is that of the set delivered; 0 where none was
(DESIGN CHOICE, assumption 96). -/
def State.workingRead (s : State) (h st : Nat) : State :=
  let x := s.hd h
  if st = 0 ∧ s.workingSetOk h x.up then
    ((s.loadOffsets h (x.up.drop 16)).wHd h { x with setSeq := fld 0 4 x.up }).attachEight h
  else if st = 0 ∨ st = 2 then
    let q := if st = 0 ∧ 16 ≤ x.up.length ∧ fld 12 4 x.up = crc32 (x.up.drop 16) then fld 0 4 x.up else 0
    ((s.event 0x0108 h 0).wHd h { x with setSeq := q }).attachEight h
  else s.attachFail h 5

/-- Answer to the TABLE_READ of the factory table (R65 step 7, R68). -/
def State.factoryRead (s : State) (h st : Nat) : State :=
  let x := s.hd h
  let n := fld 28 4 x.ident
  if st ≠ 0 then s.attachFail h 5
  else if x.up.length = 8 * n ∧ crc32 x.up = fld 24 4 x.ident then
    (((s.loadRecords h x.up n).w (Reg.pcSEG_RECORDS h) n).wHd h { x with step := 8, up := [] }).tableRead h 1 (16 + 2 * n)
  else if x.tableTries = 0 then (s.wHd h { x with tableTries := 1 }).tableRead h 0 (8 * n)
  else s.attachFail h 3

/-- Step 7 after the admission: upload the factory table; a segment being written anew leaves no full attach to go back to (R69). -/
def State.attachSeven (s : State) (h : Nat) : State :=
  let s1 := s.w (Reg.pcSEG_RECORDS h) (fld 28 4 (s.hd h).ident)
  (s1.wHd h { s1.hd h with step := 7, tableTries := 0, lastFull := none }).tableRead h 0 (8 * fld 28 4 (s1.hd h).ident)

/-- The candidate of an attach (R317). The head's sets stand until step 9, and with them the slots that they bind (R152; DESIGN
CHOICE, assumption 96). -/
def State.attachCand (s : State) (h : Nat) : State :=
  let c := { s with shep := { s.shep with admitted := setBit h true s.shep.admitted } }
  (c.wb Reg.shpSHED_HEADS h false).w (Reg.pcSEG_RECORDS h) (fld 28 4 (s.hd h).ident)

/-- Shepherd refuses the head: it is placed as shed, which the map says, and stays in STANDBY (R317, R321, R326). -/
def State.attachShed (s : State) (h : Nat) : State :=
  let s1 := (s.attachCand h).wb Reg.shpSHED_HEADS h true
  let s2 := s1.when (!s.rb Reg.shpSHED_HEADS h) fun t => t.event 0x0203 1 h
  let s3 := (s2.wHd h { s2.hd h with step := 0, lastFull := none }).w (Reg.hdATTACH_STATE h) atSTANDBY
  s3.publish 0 s3.placing s3.runFormat

/-- Step 7: fit the settings, then Shepherd's admission (R67, R317). A head that is shed stays so: it is restored under R323 alone. -/
def State.attachAdmit (s : State) (h : Nat) : State :=
  let s1 := s.adjust h
  let s2 := s1.wHd h { s1.hd h with step := 7 }
  if s2.rb Reg.shpSHED_HEADS h then s2.attachShed h
  else s2.admission (s2.attachCand h) (.attach h) (fun t => t.attachShed h) fun t => t.attachSeven h

/-- Steps 5 and 6: the binding check, then LIFE_READ (R74); an owed opening of the shutter goes first (R177). -/
def State.attachFive (s : State) (h : Nat) : State :=
  let serial := s.blob (Reg.hdSERIAL h)
  let bound := s.blob (Reg.hdBOUND_SERIAL h)
  let s1 := State.parkOwed (s.wHd h { s.hd h with session := true, step := 6, authFails := 0 }) h serial
  let s2 := if ((s1.hr h).openDue || (s1.hr h).reopen) && !s1.follower then (s1.wHr h { s1.hr h with openDue := false }).shutter h 0 else s1
  if bound = [] ∨ bound = serial ∨ s2.actBusy (Reg.hdREBIND h) then
    let s3 := ((s2.bindTo h serial).rebindEnd h serial).firstResp h
    s3.headCmd h 0x04 []
  else s2.refuse h 1

/-- Step 2: check the identity and publish it (R56, R57, R69). -/
def State.identified (s : State) (h : Nat) (d : Bytes) : State :=
  if d.length ≠ 64 ∨ fld 60 4 d ≠ crc32 (d.take 60) then s.attachFail h 5
  else
    let serial := (d.drop 12).take 12
    let w := fld 6 2 d
    let ht := fld 8 2 d
    let x := s.hd h
    let s1 := (s.wHd h { x with ident := d, abbrev_ := decide (x.lastFull = some (serial, fld 24 4 d)) }).when
      (decide (s.blob (Reg.hdSERIAL h) ≠ serial)) fun t => (t.wHd h { t.hd h with life := {} }).w (Reg.hlLIFE_STATE h) 0
    let s2 := (s1.wBlob (Reg.hdSERIAL h) serial).wAll [(Reg.hdMODEL h, fld 0 2 d), (Reg.hdNATIVE_W h, w), (Reg.hdNATIVE_H h, ht),
      (Reg.hdHEAD_FW h, fld 4 2 d), (Reg.hlSHUTTER_RATED h, fld 44 4 d), (Reg.hlWINDOW_RATED h, fld 48 4 d),
      (Reg.hlT_FLOOR h, fld 52 2 d)]
    if 0x5300 ≤ fld 0 2 d ∧ fld 0 2 d ≤ 0x53FF ∧ w % 32 = 0 ∧ 64 ≤ w ∧ w ≤ 1024 ∧ ht % 16 = 0 ∧ 64 ≤ ht ∧ ht ≤ 512 ∧
        fld 28 4 d = w * ht then s2.authStart h
    else s2.refuse h 4

/-! ## Shutter replies (R169, R174, R175, R179, R180) -/

/-- Answer to a SHUTTER command: status, SHUTTER byte; status 0xFF for a command that failed. -/
def State.shutterReply (s : State) (h arg st byte : Nat) : State :=
  let want := if arg = 1 then 2 else 0
  let there := decide (byte % 8 = want) && bit 7 byte
  let s1 := s.when (decide (st = 0 ∨ st = 8) && there) fun t => t.actuation h
  match (s1.fold h).run with
  | none =>
    if arg = 0 ∧ st = 0 ∧ there then s1.wHr h { s1.hr h with reopen := false } else s1
  | some r =>
    let fs := s1.r (Reg.hlFOLD_STATE h)
    if arg = 1 ∧ fs = 1 then
      if st = 0 ∧ byte % 8 = 2 then s1.wFold h { s1.fold h with run := some { r with replied := some s1.up } }
      else s1.foldFail h 1
    else if arg = 0 ∧ fs = 6 then
      if st = 0 ∧ byte % 8 = 0 then
        (s1.wFold h { s1.fold h with run := some { r with openReplied := true } }).when r.openSeen fun t => t.foldOpened h
      else s1.foldNotOpen h
    else s1

/-! ## Write-back (R72) -/

/-- The next packet of the set: 8 KiB, or TABLE_COMMIT after the last. The two header words of TABLE_WRITE_DATA hold the slot and the
byte offset (DESIGN CHOICE, assumption 95). -/
def State.writeBackNext (s : State) (h : Nat) : State :=
  match (s.hd h).wb with
  | none => s
  | some w =>
    if w.offs.length ≤ w.sent then
      (s.wHd h { s.hd h with wb := some { w with stage := 2 } }).headCmd h 0x08
        (leBytes 1 w.slot ++ leBytes 4 w.setSeq ++ leBytes 4 (fld 12 4 w.offs))
    else
      let s1 := s.headSend h 0x83 (leBytes 4 w.slot ++ leBytes 4 w.sent ++ (w.offs.drop w.sent).take 8192)
      s1.wHd h { s1.hd h with wb := some { w with sent := w.sent + 8192, stage := 1, lastAt := s1.up } }

/-- Answer to TABLE_WRITE or TABLE_COMMIT; a command that is ready goes before the data (R54). -/
def State.writeBackReply (s : State) (h code : Nat) (ok : Bool) : State :=
  match (s.hd h).wb with
  | none => s
  | some w =>
    if !ok then s.dropWriteBack h
    else if code = 0x07 ∧ w.stage = 0 then ((s.wHd h { s.hd h with wb := some { w with stage := 1 } }).headKick h).writeBackNext h
    else if code = 0x08 ∧ w.stage = 2 then (s.wHd h { s.hd h with wb := none, setSeq := w.setSeq }).w (Reg.hlWRITEBACK_STATE h) 0
    else s

/-! ## Replies (R49-R53) -/

/-- STATUS: window transmission, E_h (R51, R60, R61, R146, R486). -/
def State.statusReply (s : State) (h : Nat) (d : Bytes) : State :=
  let s1 := (s.when (decide (s.attach h = atSTREAMING)) fun t => t.wHr h { t.hr h with wT := fld 4 2 d }).w (Reg.hlWINDOW_T h) (fld 4 2 d)
  let s2 := s1.lifeShow h
  let known := s2.epoch
  let s3 := if s2.pair.mode then s2 else s2.seeEpoch (fld 8 4 d) true
  if fld 8 4 d ≤ known ∧ s3.pair.storing.isNone ∧ ((s3.hr h).stale.isSome ∨ (s3.hr h).staleSettings) then s3.resendStale else s3

/-- A command has been executed, refused or has failed (status 0xFF): what follows. -/
def State.cmdDone (s : State) (h : Nat) (c : HeadCmd) (st : Nat) (d : Bytes) : State :=
  let x := s.hd h
  if c.code = 0x01 then (if x.step ≠ 1 then s else if st = 0 then s.identified h d else s.attachFail h 5)
  else if c.code = 0x02 then (if x.step ≠ 3 then s else if st = 0 then s.authReply h d else s.attachFail h 5)
  else if c.code = 0x03 then
    (if x.step ≠ 4 then s else if st = 0 then s.attachFive h else if st = 7 then s.authFailed h else s.attachFail h 5)
  else if c.code = 0x04 then
    if x.step ≠ 6 then s
    else if st = 0 ∨ st = 6 then
      let s1 := s.lifeRead h d (decide (st = 0))
      if (s1.hd h).abbrev_ then (s1.recountClasses h).goNine h else s1.attachAdmit h
    else s.attachFail h 5
  else if c.code = 0x05 then (if st = 0 then s.lifeWritten h c.args else s).lifeEnded h (fld 0 4 c.args)
  else if c.code = 0x06 then
    if fld 0 1 c.args = 0 then (if x.step = 7 then s.factoryRead h st else s.rebuildRead h st)
    else if x.step = 8 then s.workingRead h st else s
  else if c.code = 0x07 ∨ c.code = 0x08 then s.writeBackReply h c.code (decide (st = 0))
  else if c.code = 0x09 then s.shutterReply h (fld 0 1 c.args) st (fld 0 1 d)
  else if c.code = 0x0A then (if st = 0 ∧ 12 ≤ d.length then s.probeIn h c (fld 0 8 d) (fld 8 4 d)
    else if x.step = 9 then s.attachFail h 5 else s)
  else if c.code = 0x0B then
    if x.step = 1 then (if st = 0 then s else s.attachFail h 5)
    else if x.step = 9 ∧ fld 0 1 c.args = 2 then (if st = 0 then s.wHd h { x with step := 10 } else s.attachFail h 5)
    else s
  else if c.code = 0x0C then
    let t := if st = 0xFF then s else s.wHr h { s.hr h with silent := false }
    if st = 0 ∧ 12 ≤ d.length then t.statusReply h d else t
  else s

/-- REPLY (R49, R52, R53, R486); the answer to a command of an abandoned write-back only makes room for the next one (R73). -/
def State.reply (s : State) (h : Nat) (p : HeadPkt) : State :=
  let d := pktData p
  let x := s.hd h
  match x.cmd with
  | none => s
  | some c =>
    if fld 0 1 d ≠ c.code ∨ fld 1 1 d ≠ c.req ∨ c.waiting.isSome then s
    else
      let st := fld 2 1 d
      if c.void then State.headKick (s.wHd h { x with cmd := none }) h
      else if st = 5 ∧ c.busy < 20 then s.wHd h { x with cmd := some { c with waiting := some s.up, busy := c.busy + 1 } }
      else
        let s1 := s.wHd h { x with cmd := none }
        if st = 3 ∧ !s.pair.mode ∧ (s.hr h).stale.isNone then
          let s2 := s1.wHr h { s1.hr h with stale := some c }
          let y := s2.hd h
          (s2.wHd h { y with queue := { code := 0x0C, args := [] } :: y.queue }).headKick h
        else (s1.cmdDone h c st (d.drop 4)).headKick h

/-- The outstanding command has failed after its retry (R53, R83). -/
def State.cmdFailed (s : State) (h : Nat) (c : HeadCmd) : State :=
  let s1 := (s.bump (Reg.hcCMD_TIMEOUT h)).wHd h { s.hd h with cmd := none }
  let s2 := s1.cmdDone h c 0xFF []
  let s3 := match decide (c.code = 0x0C), (s2.hr h).stale with
    | true, some d => (s2.wHr h { s2.hr h with stale := none }).cmdDone h d 3 []
    | _, _ => s2
  s3.headKick h

/-- A device that has become follower sends a state-changing command no more: the command ends as one that failed (R495). -/
def State.cmdGivenUp (s : State) (h : Nat) (c : HeadCmd) : State :=
  State.headKick (State.cmdDone (s.wHd h { s.hd h with cmd := none }) h c 0xFF []) h

/-- CMD_TIMEOUT: resend once with the same request id, then fail. t_cmd of R44 becomes the resend's SOP (DESIGN CHOICE, assumption 95).
A command of an abandoned write-back is not sent again (R73), one that waits for a new epoch's storing not yet (R486), and a follower's
state-changing one never (R495). -/
def State.cmdTimedOut (s : State) (h : Nat) : State :=
  let x := s.hd h
  match x.cmd with
  | none => s
  | some c =>
    if c.waiting.isSome ∨ s.up < c.sentAt + cmdTimeoutNs c.code then s
    else if c.void then State.headKick (s.wHd h { x with cmd := none }) h
    else if c.tries < 2 ∧ s.notSent c.code then s.cmdGivenUp h c
    else if c.tries < 2 ∧ s.epochWaits c.code then s
    else if c.tries < 2 then
      let c1 := { c with tries := 2, sentAt := s.up, sent16 := s.clk.ring16 }
      (s.wHd h { x with cmd := some c1 }).cmdPacket h c1
    else s.cmdFailed h c

/-- BUSY_RETRY: 10 ms after a BUSY answer the command is sent under a new request id, if it may still leave (R486, R495). -/
def State.busyAgain (s : State) (h : Nat) : State :=
  let x := s.hd h
  match x.cmd with
  | none => s
  | some c =>
    match c.waiting with
    | none => s
    | some t =>
      if s.up < t + 10000000 ∨ s.epochWaits c.code then s
      else if s.notSent c.code then s.cmdGivenUp h c
      else
        let q := (x.reqId + 1) % 256
        let c1 := { c with waiting := none, req := q, tries := 1, sentAt := s.up, sent16 := s.clk.ring16 }
        (s.wHd h { x with cmd := some c1, reqId := q }).cmdPacket h c1

/-- TABLE_DATA in order extends the upload (R70); the timeout runs from the newest packet (R51). -/
def State.tableIn (s : State) (h : Nat) (p : HeadPkt) : State :=
  let x := s.hd h
  match x.cmd with
  | none => s
  | some c =>
    if c.code = 0x06 ∧ p.words.headD 0 % 256 = fld 0 1 c.args ∧ (p.words.drop 1).headD 0 = fld 1 4 c.args + x.up.length then
      let need := fld 5 4 c.args
      s.wHd h { x with up := (x.up ++ wordBytes (p.words.drop 2)).take need, cmd := some { c with sentAt := s.up } }
    else s

/-- An EVENT of the head (R55, R486). -/
def State.headEv (s : State) (h : Nat) (p : HeadPkt) : State :=
  let code := p.words.headD 0 % 65536
  let s1 := s.event 0x0104 h code
  if code = 2 ∧ !s1.pair.mode ∧ !(s1.hr h).staleSettings then
    (s1.wHr h { s1.hr h with staleSettings := true }).headCmd h 0x0C []
  else s1

/-- The first SOF of the attach has come: the head streams (R59, R60, R65, R69, R72, R168, R177). The minute and the 10 minutes of R60
begin anew here, also after a lane loss (DESIGN CHOICE, assumption 96). -/
def State.streaming (s : State) (h : Nat) : State :=
  let x := s.hd h
  let full := if x.abbrev_ then x.lastFull else some ((x.ident.drop 12).take 12, fld 24 4 x.ident)
  let s1 := s.wHd h { x with step := 0, fails := 0, authFails := 0, lastFull := full }
  let s2 := s1.w (Reg.hdATTACH_STATE h) atSTREAMING
  let f := s2.fold h
  let s3 := s2.wFold h { f with
    attachDue := f.attachDue && !x.abbrev_, resumeDue := f.resumeDue || f.resumeNext, resumeNext := false
    subs16 := if x.abbrev_ then f.subs16 else [] }
  let s4 := s3.wHr h { s3.hr h with minuteAt := s3.up, winSum := (s3.hr h).winT, winN := 1, minutes := 0 }
  let s5 := s4.headCmd h 0x0C []
  (if s5.r (Reg.hlWRITEBACK_STATE h) = 2 ∧ !s5.follower then s5.writeBack h else s5).rebuildNext h

end Sys2Proof.Machine
end

