-- ==== Sys2Proof/Machine/Export.lean ====
section
/-! DEFINITION. The export protocol: packets, the groups' transmit buffers, striping, and the frames of head streams (R386-R392). -/

namespace Sys2Proof.Machine

/-- An export packet's header (R386). -/
def XPkt.header (p : XPkt) : Nat :=
  p.ty + 2 ^ 8 * p.stream + 2 ^ 16 * p.words.length + 2 ^ 32 * p.seq + 2 ^ 48 * p.info

/-- Header, payload and CRC as they go out between SOP and EOP (R386). -/
def XPkt.bytes (p : XPkt) : Bytes :=
  let b := leBytes 8 p.header ++ wordBytes p.words
  b ++ leBytes 4 (crc32 b)

/-- Bytes a packet takes of the buffer: 16 of framing and its payload (R386, R391). -/
def XPkt.size (p : XPkt) : Nat := 16 + 4 * p.words.length

/-- Packets of group g that wait. -/
def State.xQueue (s : State) (g : Nat) : List XPkt := tget [] s.xp.queue g

/-- Replace them. -/
def State.wXQueue (s : State) (g : Nat) (q : List XPkt) : State := { s with xp := { s.xp with queue := tset [] s.xp.queue g q } }

/-- The packet on export lane x. -/
def State.xLane (s : State) (x : Nat) : Option XPkt := tget none s.xp.onLane x

/-- Replace it. -/
def State.wXLane (s : State) (x : Nat) (p : Option XPkt) : State := { s with xp := { s.xp with onLane := tset none s.xp.onLane x p } }

/-- Buffer fill of a group: what waits and what is on its lanes (R391). -/
def State.xFill (s : State) (g : Nat) : Nat :=
  ((s.xQueue g ++ (List.range 4).filterMap fun i => s.xLane (4 * g + i)).map XPkt.size).foldl (· + ·) 0

/-- May packet p of group g start on lane i of it: every earlier packet of its stream has started; a STRIPE keeps to its lane, and
STRIPEs of one stream go out side by side (R390, R392). -/
def State.xMay (s : State) (g i : Nat) (before : List XPkt) (p : XPkt) : Bool :=
  (match p.lane with
    | some k => decide (k = i) && before.all fun q => decide (q.stream ≠ p.stream) || q.lane.isSome
    | none => before.all fun q => decide (q.stream ≠ p.stream)) &&
  (List.range 12).all fun k => decide (k = g) || (s.xQueue k).all fun q =>
    decide (q.stream ≠ p.stream) || decide ((p.seq + 65536 - q.seq) % 65536 = 0 ∨ 32768 ≤ (p.seq + 65536 - q.seq) % 65536)

/-- The packets of a queue that may start, each with its place. -/
def State.xReady (s : State) (g i : Nat) : List XPkt → List XPkt → List (Nat × XPkt)
  | _, [] => []
  | before, p :: t => (if s.xMay g i before p then [(before.length, p)] else []) ++ s.xReady g i (before ++ [p]) t

/-- A free lane of the stripe set takes the packet that is next by STREAM_PRIO, then by age (R390). -/
def State.xStart (s : State) (g i : Nat) : State :=
  let x := 4 * g + i
  if (s.xLane x).isSome ∨ !bit i (s.stripeMask g) then s
  else
    let prio (p : XPkt) : Nat := s.r (Reg.strmSTREAM_PRIO p.stream)
    match (s.xReady g i [] (s.xQueue g)).foldl (fun (b : Option (Nat × XPkt)) e => match b with
        | some c => if prio c.2 < prio e.2 then some e else b
        | none => some e) none with
    | some (k, p) => (s.wXQueue g ((s.xQueue g).eraseIdx k)).wXLane x (some p)
    | none => s

/-- Free lanes of the groups with waiting packets start packets, lowest lane first. -/
def State.xPass (s : State) : State :=
  s.each ((List.range 12).filter fun g => decide (s.xQueue g ≠ [])) fun g t => t.each (List.range 4) fun i u => u.xStart g i

/-- Passes until none starts a packet: a start may let a packet of its stream start on a lower lane, or in another group (R390, R392). -/
def State.xPasses (s : State) : Nat → State
  | 0 => s
  | n + 1 => if s.xPass.xp.queue = s.xp.queue then s else s.xPass.xPasses n

/-- Packets start until every free lane has taken what it may; each of 48 lanes can take one. -/
def State.xKick (s : State) : State := s.xPasses 48

/-- Queue packets in a group, publish its peak and start what can start. -/
def State.xPut (s : State) (g : Nat) (l : List XPkt) : State :=
  let s1 := s.wXQueue g (s.xQueue g ++ l)
  (s1.w (Reg.grcBUF_PEAK g) (max (s1.r (Reg.grcBUF_PEAK g)) (min 0xFFFFFFFF (s1.xFill g)))).xKick

/-- Is there room for a packet of n payload words (R391)? -/
def State.xRoom (s : State) (g n : Nat) : Bool := decide (s.xFill g + 16 + 4 * n ≤ 1048576)

/-- Queue the next packet of a stream in a group; the follower sends none (R325). -/
def State.xSend (s : State) (g x ty info : Nat) (words : List Nat) : State :=
  if s.follower then s
  else
    let q := tget 0 s.xp.seq x
    State.xPut { s with xp := { s.xp with seq := tset 0 s.xp.seq x ((q + 1) % 65536) } } g [⟨x, ty, q, info % 65536, words, none⟩]

/-- Where a stream's placement takes effect: STRIPE on every lane of its new set, when group or set has changed (R392). -/
def State.stripe (s : State) (x : Nat) : State :=
  let g := s.r (Reg.strmPLACED_GROUP x)
  let m := s.stripeMask g
  if s.follower ∨ g = 0xFF ∨ tget none s.xp.striped x = some (g, m) then s
  else
    let q := tget 0 s.xp.seq x
    let w := [m + 16 * g, s.r Reg.shpMAP_SEQ]
    let s1 := { s with xp := { s.xp with striped := tset none s.xp.striped x (some (g, m)) } }
    s1.xPut g (((List.range 4).filter fun i => bit i m).map fun i => ⟨x, 0x31, q, 0, w, some i⟩)

/-- Running streams of a kind and a source. -/
def State.xOf (s : State) (kind src : Nat) : List Nat :=
  streamNos.filter fun x => s.xRuns x && decide (s.r (Reg.strmKIND x) = kind ∧ s.r (Reg.strmSOURCE x) = src)

/-- A packet that is dropped where it finds no room (R391): WEB_LINE and ZONE_BATCH. -/
def State.xOffer (s : State) (x ty info : Nat) (words : List Nat) : State :=
  let s1 := s.stripe x
  let g := s1.r (Reg.strmPLACED_GROUP x)
  if s1.follower ∨ s1.xRoom g words.length then s1.xSend g x ty info words else s1.bump (Reg.grcDROPPED g)

/-! ## Frames of head streams (R388, R389) -/

/-- The open frame of a stream. -/
def State.xFrame (s : State) (x : Nat) : Option XFrame := tget none s.xp.frames x

/-- Replace it. -/
def State.wXFrame (s : State) (x : Nat) (f : Option XFrame) : State := { s with xp := { s.xp with frames := tset none s.xp.frames x f } }

/-- Streams of head h: corrected and raw ones. -/
def State.xHead (s : State) (h : Nat) : List Nat := s.xOf 1 h ++ s.xOf 2 h

/-- SOF payload of R388. -/
def xSof (f : Frame) (h format rowPeriod epoch : Nat) : List Nat :=
  let fl := b2n f.incoherent + 2 * b2n f.driftRange + 4 * b2n f.dark + 8 * b2n f.restarted
  toWords (leBytes 4 f.cnt ++ leBytes 2 f.tag ++ leBytes 1 h ++ leBytes 1 format ++ leBytes 8 f.t0 ++ leBytes 2 f.width ++
    leBytes 2 f.height ++ leBytes 2 rowPeriod ++ leBytes 1 fl ++ leBytes 1 0 ++ leBytes 4 epoch ++ leBytes 4 0)

/-- Open a frame on every stream of the head. -/
def State.xOpen (s : State) (h : Nat) (f : Frame) : State :=
  s.each (s.xHead h) fun x t =>
    let t1 := t.stripe x
    let g := t1.r (Reg.strmPLACED_GROUP x)
    let fmt := if t1.r (Reg.strmKIND x) = 2 then 3 else t1.r (Reg.strmPLACED_FORMAT x)
    (t1.wXFrame x (some { group := g, format := fmt })).xSend g x 0x01 0 (xSof f h fmt f.row t1.epoch)

/-- Streams with an open frame of head h, raw or corrected. -/
def State.xOpenOf (s : State) (h : Nat) (raw : Bool) : List (Nat × XFrame) :=
  streamNos.filterMap fun x => match s.xFrame x with
    | some f => if s.r (Reg.strmSOURCE x) = h ∧ (f.format = 3) = raw then some (x, f) else none
    | none => none

/-- A line for the head's raw or corrected streams; words are given for each format. A line that finds no room truncates the
frame (R23). -/
def State.xLineOut (s : State) (h : Nat) (raw : Bool) (no : Nat) (padded : Bool) (words : Nat → List Nat) : State :=
  s.each (s.xOpenOf h raw) fun e t =>
    let f := { e.2 with padded := e.2.padded || padded }
    if f.truncated then t.wXFrame e.1 (some f)
    else
      let w := words f.format
      if t.follower ∨ t.xRoom f.group w.length then (t.wXFrame e.1 (some f)).xSend f.group e.1 0x02 no w
      else (t.wXFrame e.1 (some { f with truncated := true })).bump (Reg.pkEXPORT_DROP h)

/-- Close the head's export frames with their status (R389). -/
def State.xClose (s : State) (h : Nat) (degraded cut truncated : Bool) : State :=
  s.each (s.xOpenOf h true ++ s.xOpenOf h false) fun e t =>
    let f := e.2
    (t.xSend f.group e.1 0x03 (b2n (f.truncated || truncated) + 2 * b2n degraded + 4 * b2n f.padded + 8 * b2n cut +
      16 * b2n f.laneLoss) []).wXFrame e.1 none

/-- A lane of a group is lost: its packet is lost, with a STRIPE that waited for it, the group's open frames end with LANE_LOSS, and later
packets go to the other lanes (R392). -/
def State.xLost (s : State) (x : Nat) : State :=
  let g := x / 4
  let s0 := (s.wXLane x none).wXQueue g ((s.xQueue g).filter fun p => decide (p.lane ≠ some (x % 4)))
  let s1 := { s0 with xp := { s0.xp with out := tset false s.xp.out x true, upSince := tdel x s.xp.upSince } }
  let s2 := s1.each streamNos fun y t => match t.xFrame y with
    | some f => if f.group = g then t.wXFrame y (some { f with laneLoss := true }) else t
    | none => t
  (s2.bump (Reg.grcLANE_LOSS g)).xKick

/-- The packet on a lane has left (R390). -/
def State.xFree (s : State) (x : Nat) : State :=
  match s.xLane x with
  | some _ => ((s.wXLane x none).bump (Reg.grcPACKETS (x / 4))).xKick
  | none => s

end Sys2Proof.Machine
end

