-- ==== Sys2Proof/Machine/Web.lean ====
section
/-! DEFINITION. Web registration: encoders, coverage, the geometric maps, the stations' bands, web lines and zone records
(R185-R219). -/

namespace Sys2Proof.Machine

/-! ## Encoders (R185-R188) -/

/-- Encoder e. -/
def State.enc (s : State) (e : Nat) : Enc := tget {} s.encs e
/-- Replace it. -/
def State.wEnc (s : State) (e : Nat) (x : Enc) : State := { s with encs := tset {} s.encs e x }

/-- The step between two phase states in the forward sequence 00, 10, 11, 01: 0, 1, 2 or 3 quarters (assumption 31). -/
def phaseStep (a b a' b' : Bool) : Nat :=
  let n (x y : Bool) : Nat := match x, y with
    | false, false => 0
    | true, false => 1
    | true, true => 2
    | false, true => 3
  (n a' b' + 4 - n a b) % 4

/-- One count: P_e moves by ENC_SCALE pm; a reverse count that would take it below 0 is dropped (R186). -/
def State.encCount (s : State) (e : Nat) (fwd : Bool) : State :=
  let x := s.enc e
  let sc := s.r (Reg.encENC_SCALE e)
  let te := some (s.now - s.r (Reg.encENC_FILTER e))
  let counts := (s.up, fwd) :: x.counts.filter fun c => decide (s.up < c.1 + 1000000)
  if fwd then s.wEnc e { x with pos := x.pos + sc, te, fwd := true, counts }
  else if x.pos < sc then s
  else s.wEnc e { x with pos := x.pos - sc, te, fwd := false, counts, revAt := some s.up }

/-- New phase levels that have been stable for ENC_FILTER (R186). -/
def State.encEdge (s : State) (e : Nat) (a b : Bool) : State :=
  let x := s.enc e
  let d := phaseStep x.a x.b a b
  let s1 := s.wEnc e { x with a := a, b := b }
  let inv := decide (s.r (Reg.encENC_INVERT e) = 1)
  if d = 0 then s1
  else if d = 2 then (s1.wEnc e { s1.enc e with errAt := some s.up }).bump (Reg.encENC_ERR e)
  else s1.encCount e ((d = 1) != inv)

/-- Latch every encoder into its fine history, every 1 us (R187). -/
def State.encLatch (s : State) : State :=
  s.each (List.range 4) fun e t =>
    let x := t.enc e
    if t.since x.latchAt 1000 then
      t.wEnc e { x with fine := (⟨t.now, x.pos, x.te, x.fwd⟩ :: x.fine).take 1024, latchAt := t.up }
    else t

/-- Copy the newest latch into the coarse history, every 100 us (R187). -/
def State.encCoarse (s : State) : State :=
  s.each (List.range 4) fun e t =>
    let x := t.enc e
    if t.since x.coarseAt 100000 then
      match x.fine with
      | l :: _ => t.wEnc e { x with coarse := (l :: x.coarse).take 1024, coarseAt := t.up }
      | [] => t
    else t

/-- Net count of an encoder over the millisecond that ends at an own time (R188). -/
def Enc.netAt (x : Enc) (up : Nat) : Int :=
  (x.counts.filter fun c => decide (up < c.1 + 1000000)).foldl (fun n c => if c.2 then n + 1 else n - 1) 0

/-- SPEED, and REVERSE, from the net count over the latest 1 ms, every 1 ms (R188). -/
def State.encSpeed (s : State) : State :=
  s.each (List.range 4) fun e t =>
    let x := t.enc e
    if t.since x.speedAt 1000000 then
      let n := x.netAt t.up
      let v := roundHA ((n : Rat) * (mkRat (t.r (Reg.encENC_SCALE e)) 1000))
      ((t.wEnc e { x with speedAt := t.up }).wi 32 (Reg.encSPEED e) v).when (decide (n < 0)) fun u => u.bump (Reg.encREVERSE e)
    else t

/-- Latches that differ in their edge time, newest first: the edges a history knows. -/
def edgesOf : List Latch → List (Nat × Nat × Bool)
  | [] => []
  | l :: t => match l.te with
    | none => edgesOf t
    | some e => match edgesOf t with
      | (f, p, d) :: r => if e = f then (e, l.pos, l.fwd) :: r else (e, l.pos, l.fwd) :: (f, p, d) :: r
      | [] => [(e, l.pos, l.fwd)]

/-- Position in nm between two successive edges, or before the first: edges newest first. -/
def posIn (before : Rat) (t : Nat) : List (Nat × Nat × Bool) → Rat
  | [] => before
  | [_] => before
  | (e1, p1, _) :: (e0, p0, d0) :: r =>
    if e0 ≤ t ∧ (e0 < t ∨ r ≠ []) then
      (mkRat p0 1000) + mkRat ((t : Int) - e0) (e1 - e0) * (mkRat ((p1 : Int) - p0) 1000)
    else posIn before t ((e0, p0, d0) :: r)

/-- P_e(t) in nm from a history, newest first (R187). -/
def posOf (scale : Nat) (hist : List Latch) (t : Nat) : Option Rat :=
  match hist, hist.getLast? with
  | new :: _, some old =>
    if t < old.at_ then none
    else match edgesOf hist with
      | [] => some (mkRat new.pos 1000)
      | (e1, p1, d1) :: rest =>
        if e1 < t then match rest with
          | (e0, _, _) :: _ =>
            some (mkRat p1 1000 + min (mkRat ((t : Int) - e1) (e1 - e0)) 1 * mkRat scale 1000 * (if d1 then 1 else -1))
          | [] => some (mkRat p1 1000)
        else
          let before : Rat := match (hist.filter fun l => l.te = none).head?, (edgesOf hist).getLast? with
            | some l, _ => mkRat l.pos 1000
            | none, some (_, p, d) => mkRat ((p : Int) - (if d then (scale : Int) else -(scale : Int))) 1000
            | none, none => 0
          some (if e1 = t ∧ rest ≠ [] then mkRat p1 1000 else posIn before t ((e1, p1, d1) :: rest))
  | _, _ => none

/-- P_e(t) from the fine history. -/
def State.posFine (s : State) (e t : Nat) : Option Rat := posOf (s.r (Reg.encENC_SCALE e)) (s.enc e).fine t

/-- P_e(t) from the fine history, or the coarse one where t lies before the oldest fine latch (R187). -/
def State.posAny (s : State) (e t : Nat) : Option Rat :=
  match s.posFine e t with
  | some p => some p
  | none => posOf (s.r (Reg.encENC_SCALE e)) (s.enc e).coarse t

/-! ## Geometric maps (R189-R191) -/

/-- X and A of node (i, j), 1/16 um. -/
def mapNode (m : Bytes) (i j : Nat) : Int × Int :=
  let o := 16 + 8 * (33 * j + i)
  (sgn 32 (fld o 4 m), sgn 32 (fld (o + 4) 4 m))

/-- Does a list of integers rise strictly? -/
def rises : List Int → Bool
  | [] => true
  | [_] => true
  | a :: b :: t => decide (a < b) && rises (b :: t)

/-- The checks of R191 on a whole map: NODES, the CRC, and X and A that each rise strictly along every row and every column. -/
def mapOk (m : Bytes) : Bool :=
  decide (m.length = 4504 ∧ fld 0 2 m = 33 ∧ fld 2 2 m = 17 ∧ fld 8 4 m = crc32 (m.drop 16)) &&
  ((List.range 17).all fun j => rises ((List.range 33).map fun i => (mapNode m i j).1) &&
    rises ((List.range 33).map fun i => (mapNode m i j).2)) &&
  ((List.range 33).all fun i => rises ((List.range 17).map fun j => (mapNode m i j).1) &&
    rises ((List.range 17).map fun j => (mapNode m i j).2))

/-- All A values of a map. -/
def mapAs (m : Bytes) : List Int := ((List.range 17).map fun j => (List.range 33).map fun i => (mapNode m i j).2).flatten

/-- Smallest and largest A of a map, 1/16 um. -/
def mapAMin (m : Bytes) : Int := match mapAs m with
  | a :: t => t.foldl min a
  | [] => 0
/-- Largest A. -/
def mapAMax (m : Bytes) : Int := match mapAs m with
  | a :: t => t.foldl max a
  | [] => 0

/-- X and A of a pixel in 1/16 um, exact (R190). -/
def mapAt (m : Bytes) (c r : Nat) : Rat × Rat :=
  let p : Rat := mkRat (c * 32 : Nat) (fld 4 2 m)
  let q : Rat := mkRat (r * 16 : Nat) (fld 6 2 m)
  let i := min p.floor.toNat 31
  let j := min q.floor.toNat 15
  let f := p - i
  let g := q - j
  let lerp (a b c d : Int) : Rat := (1 - f) * (1 - g) * a + f * (1 - g) * b + (1 - f) * g * c + f * g * d
  let n00 := mapNode m i j
  let n10 := mapNode m (i + 1) j
  let n01 := mapNode m i (j + 1)
  let n11 := mapNode m (i + 1) (j + 1)
  (lerp n00.1 n10.1 n01.1 n11.1, lerp n00.2 n10.2 n01.2 n11.2)

/-! ## Stations and slots (R201, R205, R213-R217) -/

/-- Station st beside its registers. -/
def State.stn (s : State) (st : Nat) : Station := tget {} s.stns st
/-- Replace it. -/
def State.wStn (s : State) (st : Nat) (x : Station) : State := { s with stns := tset {} s.stns st x }

/-- Head of slot k = 8 st + j. -/
def State.slotHead (s : State) (k : Nat) : Nat := s.r (Reg.slotHEAD k)
/-- Accepted map of slot k; empty where there is none. -/
def State.slotMap (s : State) (k : Nat) : Bytes := s.blob (Reg.slotMAP k)

/-- Does the slot's map differ from its attached head (R191)? -/
def State.slotMismatch (s : State) (k : Nat) : Bool :=
  let h := s.slotHead k
  let m := s.slotMap k
  decide (h < 32 ∧ m ≠ [] ∧ s.r (Reg.hdNATIVE_W h) ≠ 0 ∧
    (fld 4 2 m ≠ s.r (Reg.hdNATIVE_W h) ∨ fld 6 2 m ≠ s.r (Reg.hdNATIVE_H h)))

/-- Does the station take lines: the device in RUN, or STOPPING with what it computed in RUN, RUN 1, not shed or before the line
completion at which its shedding takes effect, not stopped by the throttle ladder, PD16 up (R150, R319, R505, R510, R519)? -/
def State.stActive (s : State) (st : Nat) : Bool :=
  decide (s.r Reg.opDEVICE_STATE = stRUN ∨ s.r Reg.opDEVICE_STATE = stSTOPPING) &&
  (s.runs st || (bit st s.shep.stPend && decide (s.r (Reg.stRUN st) = 1))) && s.domUp 16 && !s.rb Reg.thmTHROTTLED_ST st

/-- A station's own time begins or ends: no shedding of it waits any more. -/
def State.stBoundary (s : State) (st : Nat) : State := { s with shep := { s.shep with stPend := setBit st false s.shep.stPend } }

/-- What a slot keeps while its station runs. -/
def State.slotRun (s : State) (k : Nat) : SlotRun := tget {} (s.stn (k / 8)).slots (k % 8)
/-- Replace it. -/
def State.wSlotRun (s : State) (k : Nat) (x : SlotRun) : State :=
  let t := s.stn (k / 8)
  s.wStn (k / 8) { t with slots := tset {} t.slots (k % 8) x }

/-- Is the head of slot k present (R205)? -/
def State.slotPresent (s : State) (k : Nat) : Bool :=
  let h := s.slotHead k
  decide (h < 32 ∧ s.attach h = atSTREAMING ∧ s.slotMap k ≠ []) && !s.slotMismatch k && !(s.slotRun k).silent

/-- SLOT_STATE (R217). -/
def State.slotState (s : State) (k : Nat) : Nat :=
  if 32 ≤ s.slotHead k then 0
  else if s.slotMap k = [] then 2
  else if s.slotMismatch k then 3
  else if s.slotPresent k then 1 else 2

/-- ABSENT (R214). -/
def State.absentMask (s : State) (st : Nat) : Nat :=
  (List.range 8).foldl (fun m j => setBit j (decide (s.slotHead (8 * st + j) < 32) && !s.slotPresent (8 * st + j)) m) 0

/-- ST_STATE: a station whose RUN is not in effect is stopped (R214, R510). -/
def State.stState (s : State) (st : Nat) : Nat :=
  if !s.stActive st then 0 else if (List.range 8).any fun j => s.slotPresent (8 * st + j) then 1 else 2

/-- The slot a head feeds: 8 st + j. -/
def State.slotOf (s : State) (h : Nat) : Option Nat := (List.range 64).find? fun k => decide (s.slotHead k = h)

/-- Publish A_MIN and A_MAX of a station (R214). -/
def State.stSpan (s : State) (st : Nat) : State :=
  let ms := (List.range 8).filterMap fun j =>
    if s.slotHead (8 * st + j) < 32 ∧ s.slotMap (8 * st + j) ≠ [] then some (s.slotMap (8 * st + j)) else none
  match ms with
  | [] => (s.w (Reg.sstA_MIN st) 0).w (Reg.sstA_MAX st) 0
  | m :: t =>
    let lo := t.foldl (fun a x => min a (mapAMin x)) (mapAMin m)
    let hi := t.foldl (fun a x => max a (mapAMax x)) (mapAMax m)
    (s.wi 32 (Reg.sstA_MIN st) (mkRat lo 16).floor).wi 32 (Reg.sstA_MAX st) (mkRat hi 16).ceil

/-- BAND_LINES that a station needs, before the limit of 2,048. -/
def State.bandNeed (s : State) (st : Nat) : Nat :=
  let span := s.ri 32 (Reg.sstA_MAX st) - s.ri 32 (Reg.sstA_MIN st)
  let n := (mkRat span (s.r (Reg.stCELL_L st))).ceil.toNat + 64
  min 65535 ((n + 63) / 64 * 64)

/-! ## Coverage lookup (R197, R625) -/

/-- What a sample finds in the coverage store: code and set, or nothing; and whether the slot held another line. -/
structure CovHit where
  hit : Option (Nat × Nat)
  evicted : Bool
  deriving DecidableEq, Repr

/-- Look up coverage at web coordinate u (nm) and cross position x (1/16 um) under encoder e, for a use at own time `at_` less the
20 us of R197. -/
def State.covLookup (s : State) (e : Nat) (u x : Rat) (age : Nat) : CovHit :=
  match (s.enc e).delta with
  | none => ⟨none, false⟩
  | some d =>
    if s.r Reg.covCOV_ENABLE = 0 then ⟨none, false⟩
    else
      let l := ((u - d) / ((1000 * s.r Reg.covCOV_PITCH : Nat) : Rat)).floor
      let col := ((x - 16 * (s.ri 32 Reg.covCOV_X0)) / ((16 * s.r Reg.covCOV_COL_W : Nat) : Rat)).floor
      match tget none s.cov.store (l % (s.r Reg.covCOV_DEPTH : Int)).toNat with
      | none => ⟨none, false⟩
      | some c =>
        if c.l ≠ l then ⟨none, true⟩
        else if s.up < c.at_ + age ∨ col < 0 ∨ (s.r Reg.covCOV_COLS : Int) ≤ col then ⟨none, false⟩
        else
          let v := c.cells.getD col.toNat 0
          ⟨if bit 15 v then some (bits 9 8 v, bits 7 0 v) else none, false⟩

/-- The web position of a pixel: coordinate u in nm and cross position in 1/16 um (R192). -/
def State.webPos (s : State) (k c r : Nat) (pe : Rat) : Rat × Rat :=
  let (x, a) := mapAt (s.slotMap k) c r
  (pe - 1000 * (s.ri 32 (Reg.stDATUM (k / 8)) : Rat) - (mkRat 125 2) * a, x)

/-! ## Web lines (R204-R212) -/

/-- A cell word (R208). -/
def WCell.word (c : WCell) : Nat :=
  if c.w = 0 then 255 * 2 ^ 16 + 2 ^ 24
  else (roundHA (mkRat c.m 64)).toNat + 2 ^ 16 * (min 255 (ceilSqrt (mkRat (4096 * 256 : Nat) c.w))) +
    2 ^ 25 * (c.fl % 32)

/-- SLOT word j of the line header (R207). -/
def State.slotWord (s : State) (st j : Nat) (b : BandLine) : Nat :=
  let k := 8 * st + j
  if 32 ≤ s.slotHead k then 0xFFFF
  else
    let base := 2 ^ 16 * s.slotHead k + 2 ^ 23 * b2n (!s.slotPresent k) + 2 ^ 24
    match tget none b.slots j with
    | some t => base + t.tag + 2 ^ 21 + 2 ^ 22 * b2n t.mixed
    | none => base + 0xFFFF

/-- LINE_FLAGS of a line (R207). -/
def State.lineFlags (s : State) (st open_ : Nat) (incomplete fallback : Bool) : Nat :=
  let e := s.enc (s.r (Reg.stENC_SEL st))
  let late (t : Option Nat) : Bool := t.any fun x => decide (open_ ≤ x)
  b2n incomplete + 2 * b2n (s.absentMask st ≠ 0) + 4 * b2n (late e.errAt || late (s.stn st).histAt) + 8 * b2n (late e.revAt) + 16 * b2n fallback

/-- Words of a completed line's cells. -/
def State.lineWords (s : State) (st : Nat) (b : BandLine) : List Nat :=
  (List.range (s.r (Reg.stMAP_CELLS st))).map fun i => (tget {} b.cells i).word

/-- Header of a web line (R207). -/
def State.lineHeader (s : State) (st seq n flags : Nat) (b : BandLine) : Bytes :=
  leBytes 4 seq ++ leBytes 1 st ++ leBytes 1 flags ++ leBytes 2 (s.r (Reg.stMAP_CELLS st)) ++ leBytes 8 n ++ leBytes 8 s.now ++
  leBytes 2 (s.r (Reg.stCELL_W st)) ++ leBytes 2 (s.r (Reg.stCELL_L st)) ++ leBytes 4 (s.r (Reg.stMAP_X0 st)) ++
  ((List.range 8).map fun j => leBytes 4 (s.slotWord st j b)).flatten

/-- Zones bound to a station, running or not, with a range inside its map (R210). -/
def State.zonesOf (s : State) (st : Nat) : List Nat := (List.range 192).filter fun z => decide (s.r (Reg.zbSRC_STATION z) = st)

/-- Add an emitted line to the open records of the zones of its station (R210, R212). -/
def State.zoneAdd (s : State) (st seq flags : Nat) (ws : List Nat) : State :=
  s.each (s.zonesOf st) fun z t =>
    let r := tget {} t.zrecs z
    let mine := ((ws.drop (t.r (Reg.zbFIRST_CELL z))).take (t.r (Reg.zbCELL_COUNT z))).filter fun w => !bit 24 w
    let r1 : ZoneRec := ⟨r.lines + 1, r.ts ++ mine.map (· % 65536), r.fb + (mine.filter fun w => bit 25 w).length,
      r.flags ||| flags, seq⟩
    { t with zrecs := tset {} t.zrecs z r1 }

/-- The closed form of an open record (R211, R212). -/
def ZoneRec.close (r : ZoneRec) (prev : Nat) : ZoneMeas :=
  let n := r.ts.length
  let o := sortBy (fun a b => decide (a < b)) r.ts
  { seq := if r.lines = 0 then prev else r.seq
    lines := min 65535 r.lines
    n := min 65535 n
    mean := if n = 0 then 0 else (roundHA (mkRat (r.ts.foldl (· + ·) 0 : Nat) n)).toNat
    p90 := if n = 0 then 0 else o.getD ((9 * n + 9) / 10 - 1) 0
    max_ := r.ts.foldl max 0
    fb := min 65535 r.fb
    flags := r.flags }

/-- Close every open record at a tick start and open new ones (R210). -/
def State.zoneClose (s : State) : State :=
  let s1 := s.each (List.range 192) fun z t =>
    { t with zmeas := tset {} t.zmeas z ((tget {} t.zrecs z).close (tget {} t.zmeas z).seq) }
  { s1 with zrecs := [] }

/-- Complete and emit line n of a station (R207-R210). -/
def State.emitLine (s : State) (st n : Nat) : State :=
  let x := s.stn st
  let b := tget {} x.band n
  let seq := (s.r (Reg.sstWL_SEQ st) + 1) % 2 ^ 32
  let ws := s.lineWords st b
  let fl := s.lineFlags st (if b.samples = 0 then x.doneAt else b.since) b.incomplete (ws.any fun w => bit 25 w)
  let hdr := s.lineHeader st seq n fl b
  let s1 := s.wStn st { x with band := tset {} x.band n {}, doneAt := s.up, window := tset none x.window (seq % 16384) (some (seq, hdr ++ wordBytes ws)) }
  let s2 := ((s1.w (Reg.sstWL_SEQ st) seq).w (Reg.sstNEXT_LINE st) (n + 1)).when b.incomplete fun t => t.bump (Reg.scLINES_INCOMPLETE st)
  let s3 := s2.each (s2.xOf 3 st) fun y t => t.xOffer y 0x11 (seq % 65536) (toWords hdr ++ ws)
  s3.zoneAdd st seq fl ws

/-- RUN going from 1 to 0. -/
def State.stStop (s : State) (st : Nat) : State :=
  (s.wStn st { s.stn st with slots := [], formed := false, band := [] }).stBoundary st

/-- Emit k lines from n on; a shed station stops at the first line completion (R319). -/
def State.emitLines (s : State) (st n : Nat) : Nat → State
  | 0 => s
  | k + 1 =>
    let t := s.emitLine st n
    if bit st t.shep.stPend then t.stStop st else t.emitLines st (n + 1) k

/-- The station frontier: the smallest F_h over the heads present, once each has delivered a line (R204, R205). -/
def State.frontier (s : State) (st : Nat) : Option Rat :=
  let fs := ((List.range 8).filter fun j => s.slotPresent (8 * st + j)).map fun j => (s.slotRun (8 * st + j)).f
  match fs with
  | [] => none
  | f :: t => t.foldl (fun a b => match a, b with
    | some p, some q => some (min p q)
    | _, _ => none) f

/-- Bottom of the band when the frontier is first formed: samples below it or above the band count as late or overflowing
(R203, R213). -/
def State.formBand (s : State) (st n0 : Nat) : State :=
  let x := s.stn st
  let cnt (p : Nat → Bool) : Nat := ((x.band.filter fun e => p e.1).map fun e => e.2.seen).foldl (· + ·) 0
  let top := n0 + s.r (Reg.sstBAND_LINES st)
  let s1 := s.wStn st { x with formed := true, band := tkeep (fun n => decide (n0 ≤ n ∧ n < top)) x.band }
  ((s1.w (Reg.sstNEXT_LINE st) n0).add32 (Reg.scLATE_SAMPLE st) (cnt fun n => decide (n < n0))).add32 (Reg.scBAND_OVERFLOW st)
    (cnt fun n => decide (top ≤ n))

/-- Move a running station's frontier: form it, complete and emit (R204, R207, R213). A halted station stays where it is (R583). -/
def State.stSettle (s : State) (st : Nat) : State :=
  if !s.stActive st then s
  else
    let s0 := s.each (List.range 8) fun j t =>
      t.when (decide (t.slotHead (8 * st + j) < 32 ∧ t.attach (t.slotHead (8 * st + j)) ≠ atSTREAMING)) fun u =>
        u.wSlotRun (8 * st + j) { u.slotRun (8 * st + j) with silent := true }
    if s0.rb Reg.dbgHALTED_STATIONS st ∧ tget 0 s0.boot.stepping st = 0 then s0
    else match s0.frontier st with
      | none => s0
      | some f =>
        let q := (f / ((1000 * s0.r (Reg.stCELL_L st) : Nat) : Rat)).floor.toNat
        let s1 := if (s0.stn st).formed then s0 else s0.formBand st q
        s1.emitLines st (s1.r (Reg.sstNEXT_LINE st)) (q - s1.r (Reg.sstNEXT_LINE st))

/-- Every station after a command that may have changed a head's state. -/
def State.webSettle (s : State) : State := s.each stations fun st t => t.stSettle st

/-- RUN going from 0 to 1: the band is cleared and the frontier starts at the heads' first lines (R213). -/
def State.stStart (s : State) (st : Nat) : State :=
  let x := s.stn st
  (s.wStn st { x with slots := ((List.range 8).map fun j => (j, ({ at_ := s.up } : SlotRun))).filter fun e => decide (e.2 ≠ {}),
                      formed := false, band := [], doneAt := s.up, histAt := none }).stBoundary st

/-! ## Accumulation (R200-R203, R206) -/

/-- One contribution to a cell (R202). -/
def WCell.add (c : WCell) (temp w fl : Nat) : WCell :=
  if w = 0 then c
  else
    let m : Nat := if c.w = 0 then 64 * temp
      else (roundHA ((c.m : Rat) + (64 * (temp : Rat) - c.m) * (mkRat w (c.w + w)))).toNat
    let sum := c.w + w
    ⟨m, min 1048575 sum, c.fl ||| fl ||| (if 1048575 < sum then 8 else 0)⟩

/-- The weight of a sample in a cell: f times (16 / q')^2, in 1/256 (R201). -/
def sampleWeight (f : Rat) (q qFloor : Nat) : Nat :=
  let q1 := max q qFloor
  if q1 = 0 then 0 else (roundHA (256 * f * mkRat (256 : Nat) (q1 * q1))).toNat

/-- Flags a sample passes into its cells (R200, R202). -/
def sampleFlags (fl : Nat) : Nat :=
  b2n (bit 4 fl) + 2 * b2n (fl % 8 = 1 ∨ fl % 8 = 2) + 4 * b2n (bit 5 fl) + 16 * b2n (bit 3 fl)

/-- Newest tag of a slot after another contribution (R31, R206). -/
def SlotTag.next (o : Option SlotTag) (tag ts : Nat) : SlotTag :=
  match o with
  | none => ⟨tag, ts, false⟩
  | some t => if t.ts ≤ ts then ⟨tag, ts, t.mixed || decide (t.tag ≠ tag)⟩ else { t with mixed := t.mixed || decide (t.tag ≠ tag) }

/-- Does a sample contribute (R200)? -/
def State.contributes (s : State) (st : Nat) (f : Frame) (o : OutPx) : Bool :=
  decide (o.flags % 8 ≤ 2) && !bit 6 o.flags && !bit 7 o.flags && !f.dark &&
    (!bit 3 o.flags || decide (s.r (Reg.stRESTART_USE st) = 1))

/-- Register one sample, and accumulate it where it contributes (R192, R200-R203). A sample that cannot be placed is counted once: below
0, on a line that is complete, above the band, or off the map, in this order (DESIGN CHOICE, assumption 99). -/
def State.sample (s : State) (k c r : Nat) (pe : Rat) (f : Frame) (o : OutPx) : State :=
  let st := k / 8
  let (u, x) := s.webPos k c r pe
  let cells := s.r (Reg.stMAP_CELLS st)
  let n := (u / ((1000 * s.r (Reg.stCELL_L st) : Nat) : Rat)).floor.toNat
  let p := (x / 16 - (s.ri 32 (Reg.stMAP_X0 st) : Rat)) / (s.r (Reg.stCELL_W st) : Rat) - 1 / 2
  let i := p.floor
  let t := s.stn st
  let next := s.r (Reg.sstNEXT_LINE st)
  let inMap (j : Int) : Bool := decide (0 ≤ j ∧ j < (cells : Int))
  if u < 0 then s.bump (Reg.scOFF_MAP st)
  else if t.formed ∧ n < next then s.bump (Reg.scLATE_SAMPLE st)
  else if t.formed ∧ next + s.r (Reg.sstBAND_LINES st) ≤ n then s.bump (Reg.scBAND_OVERFLOW st)
  else if !inMap i ∧ !inMap (i + 1) then s.bump (Reg.scOFF_MAP st)
  else
    let qf := s.r (Reg.stQ_FLOOR st)
    let in_ := s.contributes st f o
    let w0 := if in_ ∧ inMap i then sampleWeight (1 - (p - i)) o.unc qf else 0
    let w1 := if in_ ∧ inMap (i + 1) then sampleWeight (p - i) o.unc qf else 0
    let b0 := tget {} t.band n
    let b := if t.formed then b0 else { b0 with seen := b0.seen + 1 }
    if w0 = 0 ∧ w1 = 0 then (if t.formed then s else s.wStn st { t with band := tset {} t.band n b })
    else
      let fl := sampleFlags o.flags
      let add (j : Int) (w : Nat) (l : List (Nat × WCell)) : List (Nat × WCell) :=
        if w = 0 then l else tset {} l j.toNat ((tget {} l j.toNat).add o.temp w fl)
      let b1 : BandLine := { b with
        cells := add (i + 1) w1 (add i w0 b.cells)
        slots := tset none b.slots (k % 8) (some (SlotTag.next (tget none b.slots (k % 8)) f.tag f.t0))
        since := if b.samples = 0 then s.up else b.since
        samples := b.samples + 1 }
      s.wStn st { t with band := tset {} t.band n b1 }

/-- A line of time t that station st could not accept: every web line that is not complete and overlaps the span the line may have fed
is incomplete (R23, R203). -/
def State.markDropped (s : State) (st t : Nat) : State :=
  match s.posFine (s.r (Reg.stENC_SEL st)) t with
  | none => s
  | some pe =>
    let base := pe - 1000 * (s.ri 32 (Reg.stDATUM st) : Rat)
    let len : Rat := ((1000 * s.r (Reg.stCELL_L st) : Nat) : Rat)
    let lo := ((base - 1000 * (s.ri 32 (Reg.sstA_MAX st) : Rat)) / len).floor.toNat
    let hi := ((base - 1000 * (s.ri 32 (Reg.sstA_MIN st) : Rat)) / len).floor
    s.each (List.range ((hi + 1).toNat - lo)) fun i u =>
      let x := u.stn st
      if x.formed ∧ lo + i < u.r (Reg.sstNEXT_LINE st) then u
      else u.wStn st { x with band := tset {} x.band (lo + i) { tget {} x.band (lo + i) with incomplete := true } }

/-- Does the station take lines of head h now: not halted, or stepping through this frame of it (R583, R585)? -/
def State.stTakes (s : State) (st h : Nat) : Bool :=
  s.stActive st && (!s.rb Reg.dbgHALTED_STATIONS st || bit h (tget 0 s.boot.stepping st))

/-- A pipeline delivers a line: window columns from native column x0 at native row r, line time t (R192, R200-R206). Of a line that
the station cannot accept only the samples are discarded (R23): it moves the frontier (DEDUCED, assumption 23). -/
def State.deliver (s : State) (h : Nat) (f : Frame) (x0 r t : Nat) (px : List OutPx) : State :=
  match s.slotOf h with
  | none => s
  | some k =>
    let st := k / 8
    let drop := (s.pipe h).refuse
    if !s.stTakes st h then s
    else if s.slotMap k = [] ∨ s.slotMismatch k then
      if drop then (s.bump (Reg.pkSTATION_DROP h)).markDropped st t else s.add32 (Reg.scMAP_MISMATCH st) px.length
    else
      let q := s.slotRun k
      let s0 := s.when drop fun u => (u.bump (Reg.pkSTATION_DROP h)).markDropped st t
      let s1 := match s0.posFine (s0.r (Reg.stENC_SEL st)) t with
        | none =>
          let a := s0.wSlotRun k { q with at_ := s0.up, silent := false }
          a.when (!drop) fun u => (u.wStn st { u.stn st with histAt := some u.up }).bump (Reg.scENC_HISTORY st)
        | some pe =>
          let fh := pe - 1000 * (s0.ri 32 (Reg.stDATUM st) : Rat) - (mkRat 125 2) * (mapAMax (s0.slotMap k) : Rat)
          let s2 := s0.wSlotRun k { at_ := s0.up, silent := false, f := some (match q.f with | some g => max g fh | none => fh) }
          s2.when (!drop) fun v => v.each px.zipIdx fun e u => u.sample k (x0 + e.2) r pe f e.1
      s1.stSettle st

/-- No line of the slot's head for its interval plus tolerance: the head leaves the frontier (R205). -/
def State.headAbsent (s : State) (k : Nat) : State :=
  let h := s.slotHead k
  let q := s.slotRun k
  let lim : Nat := match if h < 32 then (s.pipe h).cur else none with
    | some c => c.v 0x103 + c.v 0x103 * c.v 0x10C / 100
    | none => 0
  if s.stActive (k / 8) ∧ s.slotPresent k ∧ s.since q.at_ lim then
    (s.wSlotRun k { q with silent := true }).stSettle (k / 8)
  else s

/-! ## Coverage frames (R193-R198, R623-R625) -/

/-- Fields of a coverage frame that must hold (R193, R195); a ring payload is whole words, so the length is that of the layout rounded
up to one (R402). -/
def State.covOk (s : State) (b : Bytes) : Bool :=
  let lines := fld 5 1 b
  let cols := fld 6 2 b
  decide (48 ≤ b.length ∧ (fld 4 1 b ≤ 3 ∨ fld 4 1 b = 0xFF) ∧ 1 ≤ lines ∧ lines ≤ 16 ∧ cols = s.r Reg.covCOV_COLS ∧
    (sgn 64 (fld 24 8 b)) % ((1000 * s.r Reg.covCOV_PITCH : Nat) : Int) = 0 ∧ fld 32 4 b = s.r Reg.covCOV_PITCH ∧
    fld 36 4 b = s.r Reg.covCOV_COL_W ∧ fld 40 4 b = s.r Reg.covCOV_X0 ∧ fld 44 4 b = 0 ∧
    b.length = (48 + 2 * lines * cols + 3) / 4 * 4 ∧ 2 * lines * cols ≤ 8192)

/-- A sync pair (R196, R623). -/
def State.covSync (s : State) (e t : Nat) (d : Int) : State :=
  let x := s.enc e
  match s.posAny e t with
  | none => s.bump (Reg.encSYNC_STALE e)
  | some p =>
    let new := p - d
    let put (s : State) (v : Rat) : State :=
      (s.wEnc e { x with delta := some (roundHA v) }).w (Reg.encSYNC_OFFSET e) (enc2 64 (roundHA v))
    match x.delta with
    | none => put s new
    | some o =>
      if ((1000 * s.r Reg.covCOV_SYNC_TOL : Nat) : Rat) < |new - o| then (put s new).bump (Reg.encSYNC_JUMP e)
      else put s (o + (new - o) / 16)

/-- The lead of a line at a station, nm (R198); none where no encoder offset or position is known. -/
def State.lead (s : State) (st : Nat) (d : Int) : Option Rat :=
  let e := s.r (Reg.stENC_SEL st)
  match (s.enc e).delta, s.posFine e s.now with
  | some o, some p => some (((d + o : Int) : Rat) - (p - 1000 * (s.ri 32 (Reg.stDATUM st) : Rat) - 1000 * (s.ri 32 (Reg.sstA_MIN st) : Rat)))
  | _, _ => none

/-- Leads of the last second of a station. -/
def State.leadsNow (s : State) (st : Nat) : List (Nat × Int) := (s.stn st).leads.filter fun e => decide (s.up ≤ e.1 + 1000000000)

/-- LEAD_MIN as a read finds it: the smallest lead of the last second; the last one published where none was seen (DESIGN CHOICE,
assumption 99). -/
def State.leadMin (s : State) (st : Nat) : Nat :=
  match s.leadsNow st with
  | [] => s.r (Reg.sstLEAD_MIN st)
  | e :: t => sat2 32 (t.foldl (fun a b => min a b.2) e.2)

/-- Store one coverage line and measure its lead at every running station (R197, R198, R214). -/
def State.covLine (s : State) (d : Int) (cells : List Nat) : State :=
  let l := d / ((1000 * s.r Reg.covCOV_PITCH : Nat) : Int)
  let slot := (l % (s.r Reg.covCOV_DEPTH : Int)).toNat
  let s1 := State.touch { s with cov := { s.cov with store := tset none s.cov.store slot (some ⟨l, s.up, cells⟩) } } 4
  s1.each (stations.filter s1.stActive) fun st t => match t.lead st d with
    | none => t
    | some q =>
      let t1 := t.wStn st { t.stn st with leads := t.leadsNow st ++ [(t.up, (q / 1000).floor)] }
      (t1.w (Reg.sstLEAD_MIN st) (t1.leadMin st)).when (decide (q ≤ 0)) fun u => u.bump (Reg.scCOV_LATE st)

/-- A coverage frame's payload (R193-R198). -/
def State.covFrame (s : State) (b : Bytes) : State :=
  if s.r Reg.covCOV_ENABLE = 0 then s
  else if !s.covOk b then s.bump Reg.covCOV_FORMAT_ERR
  else
    let gap := s.cov.seq.any fun q => decide (fld 0 4 b ≠ (q + 1) % 2 ^ 32)
    let s1 := { s.bump Reg.covCOV_FRAMES with cov := { s.cov with seq := some (fld 0 4 b) } }
    let s2 := s1.when gap fun t => t.bump Reg.covCOV_SEQ_GAP
    let s3 := s2.when (decide (fld 4 1 b ≤ 3)) fun t => t.covSync (fld 4 1 b) (fld 8 8 b) (sgn 64 (fld 16 8 b))
    let cols := fld 6 2 b
    s3.each (List.range (fld 5 1 b)) fun m t =>
      t.covLine (sgn 64 (fld 24 8 b) + m * (1000 * fld 32 4 b : Nat))
        ((List.range cols).map fun i => fld (48 + 2 * (m * cols + i)) 2 b)

/-- COV_ENABLE going to 1 empties the store and forgets the encoders' offsets (R219, R625). -/
def State.covStart (s : State) : State :=
  let s1 := { s with cov := {} }
  s1.each (List.range 4) fun e t => (t.wEnc e { t.enc e with delta := none }).w (Reg.encSYNC_OFFSET e) 0

end Sys2Proof.Machine
end

