-- ==== Sys2Proof/Machine/Pipe.lean ====
section
/-! DEFINITION. The correction pipeline: frames and lines from a head, the five stages, the parts a frame plays in a Fold run, and
what a frame's close brings about (R28-R31, R78-R112, R116, R123-R127, R135-R157, R164-R172). -/

namespace Sys2Proof.Machine

/-- Fields of a SOF (R40). -/
structure Sof where
  cnt : Nat
  ts : Nat
  tag : Nat
  sub : Int
  interval : Nat
  row : Nat
  win : Int
  shutter : Nat
  flags : Nat
  width : Nat
  height : Nat
  epoch : Nat
  deriving DecidableEq, Repr

/-- Read a SOF payload (R40). -/
def sofOf (d : Bytes) : Sof :=
  ⟨fld 0 4 d, fld 4 8 d, fld 12 2 d, sgn 16 (fld 14 2 d), fld 16 4 d, fld 20 2 d, sgn 16 (fld 22 2 d), fld 24 1 d, fld 25 1 d,
    fld 26 2 d, fld 28 2 d, fld 32 4 d⟩

/-- Does the SOF report the shutter in a state, confirmed by the position sense (R40)? -/
def Sof.at (f : Sof) (st : Nat) : Bool := decide (f.shutter % 8 = st) && bit 7 f.shutter

/-! ## Sets taking effect (R28, R116, R141) -/

/-- Does a set carry coefficient changes? -/
def PSet.coefs (p : PSet) : Bool := p.offsets || !p.patches.isEmpty || !p.taus.isEmpty

/-- Does a switching set restart sharpening against the set before it (R141)? -/
def PSet.restarts (p old : PSet) : Bool :=
  p.coefs || [0x101, 0x102, 0x104, 0x105, 0x401].any (fun k => decide (p.v k ≠ old.v k)) || decide (p.skim ≠ old.skim ∨ p.subRef ≠ old.subRef)

/-- Write a set's coefficient changes into the segment: staged offsets, then patches, whose OFFSET wins, then time-constant codes
(R116, R144). -/
def State.applyCoefs (s : State) (h : Nat) (p : PSet) : State :=
  let s1 := if p.offsets then
      (s.each (List.range (s.factCount h)) fun i t =>
        let o := tget 0x10000 t.px.stage (pxKey h i)
        if o = 0x10000 then t
        else { t.wRecord h i (putBits 15 0 (t.record h i) o) with px := { (t.wRecord h i (putBits 15 0 (t.record h i) o)).px with bad := tset false t.px.bad (pxKey h i) false } }).dropStage h
    else s
  let s2 := s1.each p.patches fun (q : Patch) t => t.wRecord h q.index (patchRecord (t.record h q.index) q.mask q.record)
  s2.each p.taus fun e t => t.wRecord h e.1 (putBits 53 46 (t.record h e.1) e.2)

/-- The armed set becomes the current one at its first frame (R28). -/
def State.switchSet (s : State) (h : Nat) (a : PSet) : State :=
  let s1 := s.applyCoefs h a
  let x := s1.pipe h
  let s2 := s1.wPipe h { x with cur := some a, armed := none, copying := if a.coefs ∧ x.copying = 1 then 3 else x.copying }
  let s3 := s2.wAll [(Reg.hsCURRENT_TAG h, a.tag), (Reg.hsARMED_TAG h, 0xFFFF), (Reg.pcSUB_REF h, enc2 16 a.subRef), (Reg.pkBOUND_SLOTS h, a.slots)]
  s3.when a.coefs fun t => t.w (Reg.pcAPPLIED_TAG h) a.tag

/-- The first accepted SOF under tag 0x0000 sets the attach set's SUB_REF and the references of DRIFT_CONF, and the attach run is due
(R164, R168). -/
def State.takeSubRef (s : State) (h : Nat) (f : Sof) : State :=
  match (s.pipe h).cur with
  | some c =>
    let s1 := s.wPipe h { s.pipe h with cur := some { c with subRef := f.sub }, hostInterval := some (c.v 0x103) }
    let s2 := (s1.wHr h { s1.hr h with subDue := false }).wAll [(Reg.pcSUB_REF h, enc2 16 f.sub), (Reg.hlWIN_REF h, enc2 16 f.win)]
    s2.wFold h { s2.fold h with refAt := s2.now, attachDue := true }
  | none => s

/-! ## Caps (R519, R521) -/

/-- Make, or hold back, the internal commit that brings a head's interval to the cap in force (R115, R172, R519, R521). -/
def State.capCommit (s : State) (h : Nat) : State :=
  match (s.pipe h).cur with
  | none => s
  | some c =>
    let x := s.pipe h
    let host := x.hostInterval.getD (c.v 0x103)
    let want := max host s.pwr.cap
    let fs := s.r (Reg.hlFOLD_STATE h)
    let s1 := s.wPipe h { x with hostInterval := some host, waiting := x.waiting.filter fun k => decide (k ≠ .cap) }
    if c.v 0x103 = want ∨ s.follower then s1
    else if (1 ≤ fs ∧ fs ≤ 7) ∨ s.mustWait h then s1.commitLater h .cap
    else
      let p := s1.internalSet h .cap c
      s1.armSet h { p with vals := p.vals.map fun e => if e.1 = 0x103 then (0x103, want) else e }

/-- At a frame boundary the internal commits that wait are tried again (R115, R172, R519). -/
def State.retryCommits (s : State) (h : Nat) : State :=
  let w := (s.pipe h).waiting
  let s1 := s.wPipe h { s.pipe h with waiting := [] }
  ((s1.when (w.contains .fold) fun t => if t.r (Reg.hlFOLD_STATE h) = 7 then t.foldArm h else t).when (w.contains .skim) fun t =>
    t.skimArm h).when (w.contains .cap) fun t => t.capCommit h

/-! ## Halts (R582, R583) -/

/-- Has head h an open frame? -/
def State.frameOpen (s : State) (h : Nat) : Bool := (s.pipe h).frame.isSome

/-- Bring the halts in line with HALT_PIPES and HALT_STATIONS (R582, R583): a pipeline halts when no frame of it is open, a station
when the frames that were open have closed, and a released station restarts. -/
def State.haltSettle (s : State) : State :=
  let s1 := s.each headNos fun h t =>
    let want := t.rb Reg.dbgHALT_PIPES h
    let is_ := t.rb Reg.dbgHALTED_PIPES h
    if want ∧ !is_ ∧ !t.frameOpen h then (t.foldAbort h).wb Reg.dbgHALTED_PIPES h true
    else if !want ∧ is_ then
      let u := t.wb Reg.dbgHALTED_PIPES h false
      { u with boot := { u.boot with stepPipes := setBit h false u.boot.stepPipes } }
    else t
  s1.each stations fun st t =>
    let want := t.rb Reg.dbgHALT_STATIONS st
    let is_ := t.rb Reg.dbgHALTED_STATIONS st
    if want ∧ !is_ then
      let m := match tget none t.boot.stHalting st with
        | some m => m
        | none => headNos.foldl (fun m h => setBit h (decide (t.stationOf h = some st) && t.frameOpen h) m) 0
      if m = 0 then
        let u := t.wb Reg.dbgHALTED_STATIONS st true
        { u with boot := { u.boot with stHalting := tset none u.boot.stHalting st none } }
      else { t with boot := { t.boot with stHalting := tset none t.boot.stHalting st (some m) } }
    else if !want ∧ is_ then
      let u := (t.wb Reg.dbgHALTED_STATIONS st false).stStart st
      { u with boot := { u.boot with stepStations := tdel st u.boot.stepStations, stepping := tdel st u.boot.stepping } }
    else if !want then { t with boot := { t.boot with stHalting := tset none t.boot.stHalting st none } }
    else t

/-- A frame of head h has closed: stations that waited for it or stepped through it go on (R583, R585). -/
def State.haltClosed (s : State) (h : Nat) : State :=
  let b := s.boot
  { s with boot := { b with
    stHalting := b.stHalting.map fun e => (e.1, e.2.map fun m => setBit h false m)
    stepping := (b.stepping.map fun e => (e.1, setBit h false e.2)).filter fun e => decide (e.2 ≠ 0) } }

/-! ## Stage 2 (R94-R97) and stage 3 (R102-R108) -/

/-- Effective class of a pixel (R100, R102, R357). -/
def effClass (rec_ : Nat) (invalid : Bool) : Nat :=
  if invalid then 5 else if recGain rec_ = 0 then 2 else recClass rec_

/-- Stage 2 on one pixel: the pixel word, its record, whether its class is missing, and the deviation in 0.01 K. -/
def stageTwoPx (p : PSet) (dT : Int) (rec_ word : Nat) (missing : Bool) : Px :=
  if missing then ⟨0, 0, 5, false, false, rec_, true⟩
  else
    let raw := word % 16384
    let o : Rat := mkRat (recOffset rec_) 4
    let d : Rat := driftOf rec_ (decide (p.v 0x401 = 1)) (dT : Rat)
    let q := roundHA (16 * (((raw : Rat) - o - d) * mkRat (recGain rec_) 2048))
    ⟨clampI v24lo v24hi q, raw, effClass rec_ false, decide (p.v 0x403 ≤ raw), decide (q < v24lo ∨ v24hi < q), rec_, false⟩

/-- Is a pixel usable as a neighbour (R102)? -/
def Px.usable (p : PSet) (x : Px) : Bool :=
  !x.sat && !x.clip && (decide (x.cls = 0) || decide (x.cls = 1 ∧ p.v 0x404 = 0) || decide (x.cls = 6 ∧ p.v 0x405 = 0))

/-- Is a pixel due for replacement (R97, R102)? -/
def Px.due (p : PSet) (x : Px) : Bool :=
  !x.sat && ((decide (2 ≤ x.cls ∧ x.cls ≠ 6)) || decide (x.cls = 1 ∧ p.v 0x404 = 1) || decide (x.cls = 6 ∧ p.v 0x405 = 1))

/-- The usable pixel at a column of a line, if there is one. -/
def usableAt (p : PSet) (l : Option (List Px)) (c : Nat) : Option Int :=
  match l with
  | none => none
  | some xs => match xs[c]? with
    | some x => if x.usable p then some x.v else none
    | none => none

/-- The same one column to the left. -/
def usableLeft (p : PSet) (l : Option (List Px)) (c : Nat) : Option Int := if c = 0 then none else usableAt p l (c - 1)

/-- Weighted mean or median of the values found, rounded to 1/16 count (R106). -/
def combine (median : Bool) (l : List (Nat × Option Int)) : Option Int :=
  let f := l.filterMap fun e => e.2.map fun v => (e.1, v)
  if f = [] then none
  else if median then some (roundHA (medianQ (f.map fun e => e.2)))
  else some (roundHA (mkRat ((f.map fun e => (e.1 : Int) * e.2).foldl (· + ·) 0) ((f.map fun e => e.1).foldl (· + ·) 0)))

/-- The nearest usable pixels in the line within a reach (R108 step 4). -/
def nearest (p : PSet) (l : Option (List Px)) (c reach : Nat) : Nat → Option Int
  | 0 => none
  | k + 1 =>
    let d := reach - k
    let a := if c < d then none else usableAt p l (c - d)
    let b := usableAt p l (c + d)
    match a, b with
    | some x, some y => some (roundHA (mkRat (x + y) 2))
    | some x, none => some x
    | none, some y => some y
    | none, none => nearest p l c reach k

/-- The value of a pixel due for replacement (R105, R108); none when no step finds a neighbour. -/
def replaceVal (p : PSet) (up mid down : Option (List Px)) (c pattern : Nat) : Option Int :=
  let pat := if pattern = 0 then 15 else pattern
  let orth : List (Nat × Option Int) :=
    [(2, usableAt p up c), (2, usableAt p down c), (2, usableLeft p mid c), (2, usableAt p mid (c + 1))]
  let diag : List (Nat × Option Int) :=
    [(1, usableLeft p up c), (1, usableAt p up (c + 1)), (1, usableLeft p down c), (1, usableAt p down (c + 1))]
  let sel := ((orth.zipIdx).filter fun e => bit e.2 pat).map (fun e => e.1) ++ (if bit 4 pat then diag else [])
  let med := bit 5 pat
  match combine med (if med then sel.map fun e => (1, e.2) else sel) with
  | some v => some v
  | none => match combine false orth with
    | some v => some v
    | none => match combine false diag with
      | some v => some v
      | none => nearest p mid c (p.v 0x406) (p.v 0x406)

/-- A pixel after stage 3: value and conditions (R104, R108). -/
structure Px3 where
  y : Int
  cond : PxCond
  deriving DecidableEq, Repr

/-- Stage 3 on pixel c of a line (R102, R108). -/
def stageThreePx (p : PSet) (up mid down : Option (List Px)) (c : Nat) (x : Px) : Px3 :=
  let base : PxCond := ⟨false, x.sat, x.clip, false, false, false, false, false⟩
  if x.due p then
    match replaceVal p up mid down c (recPattern x.record) with
    | some v => ⟨v, { base with replaced := true }⟩
    | none => ⟨0, { base with missing := true }⟩
  else ⟨x.v, { base with noisy := decide (x.cls = 1 ∧ p.v 0x404 = 0), excluded := decide (x.cls = 6 ∧ p.v 0x405 = 2) }⟩

/-! ## Stages 4 to 6 -/

/-- Words of a line of 16-bit values, two to a word. -/
def words16 (l : List Nat) : List Nat := toWords ((l.map (leBytes 2)).flatten)

/-- A line in an export format (R155). -/
def packLine (px : List OutPx) (fmt : Nat) : List Nat :=
  if fmt = 0 then words16 (px.map fun (o : OutPx) => o.temp)
  else if fmt = 1 then toWords ((px.map fun o => leBytes 2 o.temp ++ leBytes 1 o.unc).flatten)
  else px.map fun o => o.temp + 2 ^ 16 * o.unc + 2 ^ 24 * o.flags

/-- Emissivity of one pixel under EPS_SOURCE 1 (R149, R150): emissivity, uncertainty, fallback, evicted slot met. -/
def State.covEps (s : State) (p : PSet) (k : Option (Nat × Rat)) (c r : Nat) : Nat × Nat × Bool × Bool :=
  let dflt := (p.v 0x426, p.v 0x427)
  match k with
  | none => (dflt.1, dflt.2, true, false)
  | some (slot, pe) =>
    let (u, x) := s.webPos slot c r pe
    let q := s.covLookup (s.r (Reg.stENC_SEL (slot / 8))) u x 20000
    match q.hit with
    | some (set, code) => let e := s.inkEps p set code; (e.1, e.2, false, q.evicted)
    | none => (dflt.1, dflt.2, true, q.evicted)

/-- Slot and encoder position of a line where web positions are formed for it (R150). -/
def State.webLine (s : State) (h t : Nat) : Option (Nat × Rat) :=
  match s.slotOf h with
  | some k => if s.stActive (k / 8) ∧ s.slotState k = 1 then (s.posFine (s.r (Reg.stENC_SEL (k / 8))) t).map fun pe => (k, pe) else none
  | none => none

/-- Sharpening and conversion of one pixel, and its new state word (R135-R138, R145-R157). -/
def stageFourFive (f : Frame) (k : FrameK) (gmax h : Nat) (resp inv : Bytes) (word rec_ : Nat) (q : Px3) (eps : Nat × Nat × Bool × Bool)
    : OutPx × PxCond × Nat :=
  let code := recTau rec_
  let rst := code ≠ 0 ∧ (word = 0x8000 ∨ q.cond.sat ∨ f.restarted)
  let a := if code = 0 ∨ rst then 0 else sharpEntry k.dt gmax code
  let (x, cl) := if a = 0 then (q.y, false) else sharpen a q.y ((sgn 16 word) * 8)
  let cond := { q.cond with clip := q.cond.clip || (cl && !q.cond.missing), restart := decide rst, epsFb := eps.2.2.1 }
  (convert f.set h resp inv k x a f.dT eps.1 eps.2.1 cond ⟨f.driftRange, f.incoherent, f.degraded⟩, cond,
    stateWord q.y (q.cond.missing || q.cond.sat))

/-- Does a line of output values meet a pixel breakpoint (R586)? -/
def Bp.meets (b : Bp) (l : Nat) (px : List OutPx) : Bool :=
  decide (b.y = l) && px[b.x]?.any fun o =>
    decide (o.flags % 8 ≠ 6) && if b.cmp = 0 then decide (b.value ≤ o.temp) else decide (o.temp ≤ b.value)

/-- Pixel breakpoints of a frame, as its SOF took them (R586, R592). -/
def State.bpPixel (s : State) (bps : List Bp) (l : Nat) (px : List OutPx) : State :=
  s.each bps fun b t => t.when (b.meets l px) fun u => u.bpHit b

/-- Add a line's samples to the frame's statistics (R124). -/
def StatFrame.line (a : StatFrame) (p : PSet) (w ht l : Nat) (px : List (OutPx × PxCond)) : StatFrame :=
  let x0 := p.v 0x407
  let y0 := p.v 0x408
  let x1 := if p.v 0x409 = 0 then w else x0 + p.v 0x409
  let y1 := if p.v 0x40A = 0 then ht else y0 + p.v 0x40A
  if l < y0 ∨ y1 ≤ l then a
  else
    ((px.take x1).drop x0).foldl (fun a e =>
      let c := e.2
      let b := { a with repl := a.repl + b2n c.replaced, sat := a.sat + b2n c.sat, miss := a.miss + b2n c.missing }
      if c.missing || c.sat || c.excluded then b
      else { b with sum := b.sum + e.1.temp, sum2 := b.sum2 + e.1.temp * e.1.temp, n := b.n + 1, lo := min b.lo e.1.temp, hi := max b.hi e.1.temp }) a

/-- Keep a line in the raw history or the frame store while the depth and the ladder allow it (R22, R313, R519). -/
def State.keepLine (s : State) (h : Nat) (fs : Bool) (no : Nat) (ws : List Nat) : State :=
  match (s.pipe h).frame with
  | none => s
  | some f =>
    let depth := if f.noHist then 0 else s.r (if fs then Reg.hintFS_DEPTH h else Reg.hintRAW_DEPTH h)
    if depth = 0 ∨ s.r Reg.thmLADDER_LEVEL ≠ 0 then s
    else
      let key := 2 * h + b2n fs
      let q := tget [] s.px.hist key
      let q1 : List StoredFrame := match q with
        | x :: t => if x.cnt = f.cnt ∧ x.tag = f.tag then { x with lines := (no, ws) :: x.lines } :: t else ⟨f.cnt, f.tag, [(no, ws)]⟩ :: q
        | [] => [⟨f.cnt, f.tag, [(no, ws)]⟩]
      { s with px := { s.px with hist := tset [] s.px.hist key (q1.take depth) } }

/-- Does a pixel after stage 4 carry none of the Fold-disqualifying conditions (R173)? -/
def PxCond.clean (c : PxCond) : Bool := !c.replaced && !c.missing && !c.sat && !c.clip && !c.excluded

/-- Gather a line's pixels for a Fold run, each with its column and its conditions after stage 4 (R142, R173); a pixel held missing
by R357 counts by its standing class. -/
def State.foldGather (s : State) (h : Nat) (f : Frame) (l : Nat) (xs : List (Px × Nat × PxCond)) : State :=
  if f.role = 0 ∧ f.tauK = 0 then s
  else
    let x0 := winX0 (s.r (Reg.hdNATIVE_W h)) f.width
    let y0 := winX0 (s.r (Reg.hdNATIVE_H h)) f.height
    let new := xs.map fun e => (⟨(y0 + l) * s.r (Reg.hdNATIVE_W h) + x0 + e.2.1, e.2.1, e.1.raw, e.1.v, e.2.2.clean,
      e.2.2.clean && decide (e.1.cls ≤ 1), e.1.gone⟩ : FoldPx)
    { s with px := { s.px with fr := tset [] s.px.fr h (tget [] s.px.fr h ++ new) } }

/-- Complete line l with its neighbours: stages 3 to 6 (R104-R109, R135-R157, R22). -/
def State.lineDone (s : State) (h l : Nat) (up mid down : Option (List Px)) : State :=
  match (s.pipe h).frame, mid with
  | some f, some xs =>
    let p := f.set
    let k := (s.pipe h).k
    let nw := s.r (Reg.hdNATIVE_W h)
    let x0 := winX0 nw f.width
    let row := winX0 (s.r (Reg.hdNATIVE_H h)) f.height + l
    let t := f.t0 + l * f.row
    let web := if p.v 0x425 = 1 then s.webLine h t else none
    let resp := s.slot h (bits 0 0 p.slots)
    let inv := s.slot (32 + p.v 0x424) (bits 1 1 p.slots)
    let outs : List ((OutPx × PxCond × Nat) × Bool) := xs.zipIdx.map fun (e : Px × Nat) =>
      let q := stageThreePx p up mid down e.2 e.1
      let eps := if p.v 0x425 = 1 then s.covEps p web (x0 + e.2) row else (p.v 0x426, p.v 0x427, false, false)
      let i := pxKey h (row * nw + x0 + e.2)
      (stageFourFive f k (p.v 0x420) h resp inv (tget 0x8000 s.px.sharp i) e.1.record q eps, eps.2.2.2)
    let px : List OutPx := outs.map fun e => e.1.1
    let n (q : OutPx × PxCond → Bool) : Nat := (outs.filter fun e => q (e.1.1, e.1.2.1)).length
    let s0 := s.foldGather h f l ((xs.zipIdx.zip outs).map fun e => (e.1.1, e.1.2, e.2.1.2.1))
    let s1 := { s0 with px := { s0.px with sharp := tsetRun 0x8000 s.px.sharp (pxKey h (row * nw + x0)) (outs.map fun (e : (OutPx × PxCond × Nat) × Bool) => e.1.2.2) } }
    let s2 := (s1.add32 (Reg.pkCLIPPED h) (n fun e => e.2.clip)).add32 (Reg.pkUNREPLACEABLE h) (n fun e => e.2.missing)
    let s3 := (s2.add32 (Reg.pkRANGE_OUT h) (n fun e => decide (e.1.flags % 8 = 7))).when (outs.any fun e => e.1.2.1.epsFb) fun t =>
      t.bump (Reg.pkEPS_FALLBACK h)
    let ev := (outs.filter fun e => e.2).length
    let s4 := match web with
      | some (slot, _) => s3.add32 (Reg.scCOV_EVICTED (slot / 8)) ev
      | none => s3
    let s5 := (s4.xLineOut h false l false (packLine px)).keepLine h true l (px.map fun (o : OutPx) => o.temp)
    let x := s5.pipe h
    let s6 := s5.wPipe h { x with sf := x.sf.line p f.width f.height l (outs.map fun (e : (OutPx × PxCond × Nat) × Bool) => (e.1.1, e.1.2.1)) }
    (s6.bpPixel f.bps l px).deliver h f x0 row t px
  | _, _ => s

/-! ## Lines (R80, R81, R109, R111, R112) -/

/-- Replace the open frame. -/
def State.wFrame (s : State) (h : Nat) (f : Frame) : State := s.wPipe h { s.pipe h with frame := some f }

/-- A line enters stage 2; the line before it can then be completed (R94, R109). -/
def State.stageTwo (s : State) (h no : Nat) (px : Option (List Nat)) : State :=
  match (s.pipe h).frame with
  | none => s
  | some f =>
    let nw := s.r (Reg.hdNATIVE_W h)
    let base := (winX0 (s.r (Reg.hdNATIVE_H h)) f.height + no) * nw + winX0 nw f.width
    let two (c : Nat) (w : Nat) (gone : Bool) : Px :=
      let i := base + c
      let bad := tget false s.px.bad (pxKey h i)
      stageTwoPx f.set f.dT (s.record h i) w (gone || bit 15 w || (bad && decide (f.role = 0)))
    let xs := match px with
      | some ws => (List.range f.width).map fun c => match ws[c]? with
        | some w => two c w false
        | none => two c 0 true
      | none => (List.range f.width).map fun c => two c 0 true
    let s1 := match f.l0 with
      | some (m, ms) => s.lineDone h m (f.l1.map fun (e : Nat × List Px) => e.2) (some ms) (some xs)
      | none => s
    match (s1.pipe h).frame with
    | some g => s1.wFrame h { g with l1 := g.l0, l0 := some (no, xs) }
    | none => s1

/-- Lines that waited go on while their records are present; the next that must wait is a stall (R111). -/
def State.drain (s : State) (h : Nat) : Nat → State
  | 0 => s
  | n + 1 => match (s.pipe h).frame with
    | none => s
    | some f => match f.buf with
      | [] => s
      | b :: t =>
        if b.no < f.fetched then ((s.wFrame h { f with buf := t }).stageTwo h b.no b.px).drain h n
        else if b.flags = 0 then (s.wFrame h { f with buf := { b with flags := 1 } :: t }).bump (Reg.pkCOEF_STALL h)
        else s

/-- Raw pixel words of a line as exported: a missing pixel has bit 15 set (R42, R91). -/
def rawWords (w : Nat) (px : Option (List Nat)) : List Nat :=
  (List.range w).map fun c => match px with
    | some ws => ws.getD c 0x8000
    | none => 0x8000

/-- A line leaves stage 1, padded or not: counted, exported raw, and handed to stage 2 behind the lines that wait (R81, R91, R111).
A head-invalid pixel is of class missing, so that only the word 0x0000 reads count 0 for R77 (DESIGN CHOICE, assumption 97). -/
def State.stageOne (s : State) (h no : Nat) (px : Option (List Nat)) (pad : Bool) : State :=
  match (s.pipe h).frame with
  | none => s
  | some f =>
    let n := f.padded + b2n pad
    let s1 := s.wFrame h { f with next := no + 1, padded := n, degraded := f.degraded || decide (f.height < 8 * n)
                                  lflags := if pad then (no, 1) :: f.lflags else f.lflags }
    let raw := rawWords f.width px
    let s2 := (s1.xLineOut h true no pad fun _ => words16 raw).keepLine h false no raw
    let zs : List Nat := match px with
      | some ws => ((ws.zipIdx).filter fun e => decide (e.1 = 0)).map fun e => e.2
      | none => []
    let s2 := if zs = [] then s2 else s2.wHr h { s2.hr h with zeros := zs.foldl (fun z c => tset 0 z c (tget 0 z c + 1)) (s2.hr h).zeros }
    let s3 := if pad then s2.each (s2.xOpenOf h false) fun e t => t.wXFrame e.1 (some { e.2 with padded := true }) else s2
    match (s3.pipe h).frame with
    | some g => (s3.wFrame h { g with buf := g.buf ++ [⟨no, px, 0⟩] }).drain h (g.buf.length + 1)
    | none => s3

/-- Pad a run of lines. -/
def State.padLines (s : State) (h no : Nat) : Nat → State
  | 0 => s
  | n + 1 => (s.stageOne h no none true).padLines h (no + 1) n

/-- Pixel words of a LINE payload (R41); words that the pixel count announces and the payload does not hold read 0 (DESIGN CHOICE,
assumption 95). -/
def lineWordsOf (n : Nat) (d : Bytes) : List Nat := (List.range n).map fun c => fld (8 + 2 * c) 2 d

/-- A LINE packet of the open frame (R41, R80, R101, R112). The line held at stage 2 counts among the 8 of the input buffer (DESIGN
CHOICE, assumption 95). -/
def State.lineIn (s : State) (h : Nat) (d : Bytes) : State :=
  let stray := s.bump (Reg.hcLINE_STRAY h)
  match (s.pipe h).frame with
  | none => stray
  | some f =>
    let no := fld 2 2 d
    let n := fld 4 2 d
    if fld 0 2 d ≠ f.cnt % 65536 then stray
    else if f.height ≤ no then
      (s.wFrame h { f with cut := true }).when (!f.cut) fun t => t.bump (Reg.hcFRAME_LONG h)
    else if no < f.next then stray
    else
      let s1 := (s.add32 (Reg.hcLINE_GAP h) (no - f.next)).padLines h f.next (no - f.next)
      let full : Bool := match (s1.pipe h).frame with
        | some g => decide (8 ≤ (g.buf.filter fun b => b.px.isSome).length)
        | none => false
      if full then (s1.bump (Reg.pkLINE_OVERRUN h)).stageOne h no none true
      else
        let err := bit 0 (fld 6 1 d)
        let s2 := s1.when err fun t => t.bump (Reg.pkREADOUT_ERR h)
        let s3 := if n < f.width then s2.bump (Reg.hcLINE_SHORT h) else if f.width < n then s2.bump (Reg.hcLINE_LONG h) else s2
        let s4 := match (s3.pipe h).frame with
          | some g => if f.width < n then s3.wFrame h { g with lflags := (no, 2) :: g.lflags } else s3
          | none => s3
        if err then s4.stageOne h no none true
        else s4.stageOne h no (some (lineWordsOf (min n f.width) d)) (decide (n < f.width))

/-- The station takes, or refuses, the lines that the pipeline delivers next (R23). -/
def State.refuseLines (s : State) (h : Nat) (b : Bool) : State := s.wPipe h { s.pipe h with refuse := b }

/-- Coefficient records are present up to a line (R111). -/
def State.coefFetched (s : State) (h upTo : Nat) : State :=
  match (s.pipe h).frame with
  | some f => (s.wFrame h { f with fetched := max f.fetched upTo }).drain h (f.buf.length + 1)
  | none => s

/-! ## Fold runs, frame by frame (R142, R168-R174) -/

/-- CLOSING is over once the reply and frame F are there (R169). -/
def State.foldClosed (s : State) (h : Nat) : State :=
  match (s.fold h).run with
  | some r => s.when (decide (s.r (Reg.hlFOLD_STATE h) = 1) && r.replied.isSome && r.first.isSome) fun t => t.w (Reg.hlFOLD_STATE h) 2
  | none => s

/-- A frame that the run takes no account of (R170). -/
def State.foldSkip (s : State) (h : Nat) : State :=
  match (s.fold h).run with
  | some r =>
    let st := s.r (Reg.hlFOLD_STATE h)
    if st = 2 ∨ st = 4 then
      let s1 := s.wFold h { s.fold h with run := some { r with skips := r.skips + 1 } }
      if 8 < r.skips + 1 then s1.foldFail h 2 else s1
    else s
  | none => s

/-- At an accepted SOF: the shutter check, frame F, the end of OPENING (R169, R174). -/
def State.foldSof (s : State) (h : Nat) (f : Sof) : State :=
  match (s.fold h).run with
  | none => s
  | some r =>
    let st := s.r (Reg.hlFOLD_STATE h)
    if st = 1 then
      if f.at 2 ∧ r.first.isNone then
        (s.wFold h { s.fold h with run := some { r with first := some f.cnt } }).foldClosed h
      else if r.first.isSome ∧ !f.at 2 then s.foldFail h 1
      else s
    else if 2 ≤ st ∧ st ≤ 4 then (if f.at 2 then s else s.foldFail h 1)
    else if st = 6 ∧ f.at 0 then
      if r.openReplied then s.foldOpened h else s.wFold h { s.fold h with run := some { r with openSeen := true } }
    else s

/-- The part a frame plays in the head's run: 2 settling, 3 skimming, 4 measuring (R169). -/
def State.foldRole (s : State) (h : Nat) (f : Sof) : Nat :=
  match (s.fold h).run with
  | none => 0
  | some r =>
    let st := s.r (Reg.hlFOLD_STATE h)
    if (st = 1 ∨ st = 2) ∧ r.first.isSome then 2
    else if st = 3 then (if r.passTag.all fun t => decide (t = f.tag) then 3 else 0)
    else if st = 4 then (if r.measTag.isSome ∧ r.n = 0 ∧ r.measTag ≠ some f.tag then 0 else 4)
    else 0

/-- Place of a frame after F, 1 to 3, while the run is between CLOSING and MEASURING; 0 for every other frame (R142). -/
def State.foldTauK (s : State) (h : Nat) (f : Sof) : Nat :=
  match (s.fold h).run with
  | some r => match r.first with
    | some c =>
      let k := (f.cnt + 2 ^ 32 - c) % 2 ^ 32
      let st := s.r (Reg.hlFOLD_STATE h)
      if 1 ≤ k ∧ k ≤ 3 ∧ 1 ≤ st ∧ st ≤ 4 then k else 0
    | none => 0
  | none => 0

/-- Time constants from frames F+1 to F+3: each valid measurement writes or clears its proposal (R142, R143). -/
def State.tauFrame (s : State) (h : Nat) (f : Frame) (k : Nat) : State :=
  if f.set.v 0x422 = 0 then s
  else
    let px := tget [] s.px.fr h
    let val (p : FoldPx) : Option Int := if p.clean then some p.c else none
    if k = 1 then { s with px := { s.px with tau1 := px.foldl (fun t p => tset none t (pxKey h p.i) (val p)) s.px.tau1 } }
    else if k = 2 then { s with px := { s.px with tau2 := px.foldl (fun t p => tset none t (pxKey h p.i) (val p)) s.px.tau2 } }
    else
      let dt := (s.pipe h).k.dt
      let found := px.filterMap fun p =>
        match tget none s.px.tau1 (pxKey h p.i), tget none s.px.tau2 (pxKey h p.i), val p with
        | some y1, some y2, some y3 =>
          let d1 := (y2 - y1).natAbs
          let d2 := (y3 - y2).natAbs
          let same := decide (0 < (y2 - y1) * (y3 - y2))
          if 16 * f.set.v 0x423 ≤ d1 ∧ same ∧ d1 ≤ 20 * d2 ∧ 100 * d2 ≤ 98 * d1 then
            let c := recTau (s.record h p.i)
            let m := tauCode dt d2 d1
            some (p.i, if c + 3 ≤ m then c + 2 else if m + 3 ≤ c then c - 2 else 0)
          else none
        | _, _, _ => none
      (s.w (Reg.pcTAU_MEASURED h) found.length).tauMerge h found

/-- A frame of a run closes: settling, skimming or measuring goes on (R76, R169, R170, R172). A column's median is taken over the
pixels that the frames give a raw count (R42, R76). -/
def State.foldFrame (s : State) (h : Nat) (f : Frame) : State :=
  match (s.fold h).run with
  | none => s
  | some r =>
    let st := s.r (Reg.hlFOLD_STATE h)
    let good := !f.incoherent && !f.degraded
    let drop (t : State) : State := { t with px := { t.px with fr := tset [] t.px.fr h [] } }
    let s1 := if f.tauK ≠ 0 ∧ good then s.tauFrame h f f.tauK else s
    let s2 := if good ∨ r.first = some f.cnt then s1 else s1.foldSkip h
    if s2.r (Reg.hlFOLD_STATE h) ≠ st then drop s2
    else if f.role = 2 ∧ good ∧ r.first ≠ some f.cnt then
      let n := r.settled + f.interval
      let s3 := s2.wFold h { s2.fold h with run := some { r with settled := n } }
      drop (s3.when (decide (st = 2 ∧ 1000000 * r.par.getD 0 0 ≤ n)) fun t => t.w (Reg.hlFOLD_STATE h) (if f.set.v 0x107 = 0 then 4 else 3))
    else if f.role = 3 ∧ good then
      let got := (tget [] s2.px.fr h).filter fun p => !p.gone
      let t := got.foldl (fun t (p : FoldPx) => tset [] t (1024 * h + p.col) (tget [] t (1024 * h + p.col) ++ [p.raw])) s2.px.skim
      let s3 := { s2 with px := { s2.px with skim := t } }
      let s4 := s3.wFold h { s3.fold h with run := some { r with passN := r.passN + 1 } }
      drop (if r.passN + 1 = 16 then s4.skimPass h else s4)
    else if f.role = 4 ∧ good then
      let again := decide (r.n ≠ 0) && decide (r.measTag ≠ some f.tag)
      let px := tget [] s2.px.fr h
      let m := if r.n = 0 ∨ again then [px] else px :: tget [] s2.px.meas h
      let r1 := if r.n = 0 ∨ again then { r with n := 1, measTag := some f.tag, subs := [f.substrate], wins := [f.winT] }
        else { r with n := r.n + 1, subs := r.subs ++ [f.substrate], wins := r.wins ++ [f.winT] }
      let s3 := { s2 with px := { s2.px with meas := tset [] s2.px.meas h m } }
      let s4 := s3.wFold h { s3.fold h with run := some r1 }
      drop (s4.when (decide (r1.n = r.par.getD 1 0)) fun t => t.w (Reg.hlFOLD_STATE h) 5)
    else drop s2

/-! ## Closing a frame (R79-R81, R109, R123-R125) -/

/-- Add a closed frame to the statistics window (R123-R125). -/
def State.statFrame (s : State) (h : Nat) (f : Frame) : State :=
  let x := s.pipe h
  let a := x.sf
  let s1 := s.wPipe h { x with sf := {} }
  if f.incoherent ∨ f.height ≤ 8 * f.padded ∨ f.dark then s1
  else
    let w : StatWin := match x.stat with
      | some w => { w with frames := w.frames + 1, sum := w.sum + a.sum, sum2 := w.sum2 + a.sum2, n := w.n + a.n, lo := min w.lo a.lo,
                           hi := max w.hi a.hi, repl := w.repl + a.repl, sat := w.sat + a.sat, miss := w.miss + a.miss }
      | none => ⟨f.tag, f.cnt, 1, f.t0, 0, a.sum, a.sum2, a.n, a.lo, a.hi, a.repl, a.sat, a.miss⟩
    let s2 := s1.wPipe h { s1.pipe h with stat := some { w with t1 := f.t0 + (f.height - 1) * f.row } }
    if f.set.v 0x40B ≤ w.frames then s2.statClose h 0 else s2

/-- SKIM_RANGE for every column that has read 0 in more than 1 % of its pixels in 16 frames in a row with the shutter open (R77). -/
def State.skimRange (s : State) (h : Nat) (f : Frame) : State :=
  let x := s.hr h
  let s1 := s.wHr h { x with zeros := [] }
  if f.shutter % 8 ≠ 0 then s1.wHr h { s1.hr h with zeroRuns := [] }
  else
    let hit (c : Nat) : Bool := decide (f.height < 100 * tget 0 x.zeros c)
    let runs := ((List.range f.width).map fun c => (c, if hit c then tget 0 x.zeroRuns c + 1 else 0)).filter fun e => decide (e.2 ≠ 0)
    let due := runs.filter fun e => decide (e.2 = 16)
    (s1.wHr h { s1.hr h with zeroRuns := runs }).each due fun e t => t.event 0x0109 h e.1

/-- Close the open frame of a head: pad what is missing, finish its lines, and everything that waits for a frame's close; the flags of
R80 stay readable until the next frame closes. -/
def State.closeFrame (s : State) (h : Nat) (broken : Bool) : State :=
  match (s.pipe h).frame with
  | none => s
  | some f =>
    let miss := f.height - f.next
    let s1 := (s.when (decide (0 < miss) || broken) fun t => t.bump (Reg.hcFRAME_SHORT h)).padLines h f.next miss
    let s2 := s1.coefFetched h f.height
    let s3 := match (s2.pipe h).frame with
      | some g => match g.l0 with
        | some (m, ms) => s2.lineDone h m (g.l1.map fun (e : Nat × List Px) => e.2) (some ms) none
        | none => s2
      | none => s2
    let g := (s3.pipe h).frame.getD f
    let s4 := ((s3.xClose h g.degraded g.cut false).bump (Reg.hcFRAMES h)).bump (Reg.pkFRAMES_DONE h)
    let s5 := ((s4.statFrame h g).skimRange h g).foldFrame h g
    let x := s5.pipe h
    let short := decide (0 < miss) || broken
    let s6 := s5.wPipe h { x with frame := none, copying := if g.switching ∧ x.copying = 3 then 1 else x.copying
                                  last := some (g.cnt, b2n short + 2 * b2n broken + 4 * b2n g.cut, g.lflags) }
    let s7 := s6.when g.switching fun t => t.recountClasses h
    let s8 := if g.switching ∧ g.set.kind = .fold ∧ s7.r (Reg.hlFOLD_STATE h) = 7 then s7.foldSwitched h g.t0 else s7
    (((s8.retryCommits h).haltClosed h).haltSettle).webSettle

/-! ## Opening a frame (R28, R29, R79, R80, R96, R140, R141, R146, R171) -/

/-- Ambient temperature of a frame, 0.01 K (R146). -/
def State.ambient (s : State) (h : Nat) (p : PSet) (tWin : Nat) : Nat :=
  if p.v 0x428 = 2 then tWin
  else if p.v 0x428 = 1 then match s.stationOf h with
    | some st => s.r (Reg.ambAMB_ST0 + st)
    | none => p.v 0x429
  else p.v 0x429

/-- The constants of a frame; Delta t in ns (R140, R146). -/
def State.frameK (s : State) (h : Nat) (p : PSet) (win : Int) (dt : Nat) : FrameK :=
  let ti := 32 + p.v 0x424
  let inv := s.slot ti (bits 1 1 p.slots)
  let tWin := (win + 27315).toNat
  let tAmb := s.ambient h p tWin
  let wt := (s.hr h).wT
  { dt, tw := if p.v 0x42A = 1 ∧ wt ≠ 0 then mkRat wt 65536 else 1, lWin := invRadiance ti inv tWin, lAmb := invRadiance ti inv tAmb }

/-- Is a frame handled under R171: a run between the close command and the first open frame, also where the run has been aborted, a
shutter still to be opened, or, on a follower, a closed shutter? -/
def State.isDark (s : State) (h : Nat) (f : Sof) : Bool :=
  let st := s.r (Reg.hlFOLD_STATE h)
  let run := (s.fold h).run.isSome && decide ((1 ≤ st ∧ st ≤ 5) ∨ (st = 6 ∧ ¬ f.at 0))
  run || (((s.hr h).reopen || (s.hr h).dark) && !f.at 0) || (s.follower && decide (f.shutter % 8 = 2))

/-- Heads of the stepping stations accept this frame (R585). -/
def State.stepSof (s : State) (h : Nat) : State :=
  match s.stationOf h with
  | some st =>
    let g := tget 0 s.boot.stepStations st
    if s.rb Reg.dbgHALTED_STATIONS st ∧ bit h g then
      { s with boot := { s.boot with stepStations := tset 0 s.boot.stepStations st (setBit h false g),
                                     stepping := tset 0 s.boot.stepping st (setBit h true (tget 0 s.boot.stepping st)) } }
    else s
  | none => s

/-- Breakpoints on a frame count (R586). -/
def State.bpFrame (s : State) (h cnt : Nat) : State :=
  s.each (List.range 8) fun k t =>
    t.when (decide (t.r (Reg.bpBP_KIND k) = 1 ∧ t.r (Reg.bpBP_UNIT k) = h ∧ t.r (Reg.bpBP_VALUE k) = cnt)) fun u => u.bpHit (u.bpAt k)

/-- The pixel breakpoints set on a head. -/
def State.bpsOf (s : State) (h : Nat) : List Bp :=
  ((List.range 8).filter fun k => decide (s.r (Reg.bpBP_KIND k) = 2 ∧ s.r (Reg.bpBP_UNIT k) = h)).map s.bpAt

/-- Accept a frame under a set: the SOF fields, the set it is processed with, whether it switches, and the current set before. -/
def State.openFrame (s : State) (h : Nat) (f : Sof) (p : PSet) (switching incoherent restart : Bool) : State :=
  let x := s.pipe h
  let dtRaw := match x.prev with
    | some (ts, _) => (f.ts - ts + 500) / 1000 * 1000
    | none => 0
  let restarted := restart || x.first || match x.prev with
    | none => true
    | some (_, row) => decide (p.v 0x421 < dtRaw ∨ row ≠ f.row)
  let rebuild := x.prev.isSome && decide (x.table ≠ some (dtRaw, p.v 0x420))
  let dev := f.sub - p.subRef
  let range : Int := p.v 0x402
  let wide := decide (range < |dev|)
  let dark := s.isDark h f
  let s1 := s.foldSof h f
  let t0 := s1.stampOf h f.ts
  let fr : Frame := { noHist := s.rb Reg.shpSHED_HISTORY h, bps := s.bpsOf h, cnt := f.cnt, tag := f.tag, set := p, at_ := s1.up, t0,
                      row := f.row, interval := f.interval, width := f.width,
                      height := f.height, dT := clampI (-range) range dev, substrate := f.sub, winT := f.win, shutter := f.shutter, incoherent,
                      driftRange := wide, restarted, switching, dark, role := s1.foldRole h f, tauK := s1.foldTauK h f }
  let y := s1.pipe h
  let s1 := s1.when (s1.stampsByFit h && fitFlat (s1.hd h).probes) State.used
  let s2 := s1.wPipe h { y with frame := some fr, prev := some (f.ts, f.row), first := false, k := s1.frameK h p f.win dtRaw, sf := {},
                                table := if rebuild then some (dtRaw, p.v 0x420) else y.table,
                                copying := if y.copying = 2 then 0 else y.copying,
                                driftAt := if wide then some s1.up else y.driftAt }
  let s3 := s2.when (decide (y.copying = 2)) fun t => t.w (Reg.pcSEG_LOCATION h) (if tget 8 t.shep.segs h = 8 then 2 else 1)
  let s4 := ((s3.when rebuild fun t => t.bump (Reg.pkK_REBUILD h)).when restarted fun t => t.bump (Reg.pkSHARP_RESTART h)).when wide
    fun t => t.bump (Reg.pkDRIFT_RANGE h)
  let s5 := s4.wFold h { s4.fold h with subs16 := (f.sub :: (s4.fold h).subs16).take 16 }
  let s6 := (s5.when dark fun t => t.statClose h 2).when (!dark && (s5.pipe h).stat.any fun w => decide (w.tag ≠ f.tag)) fun t => t.statClose h 1
  ((s6.stepSof h).bpFrame h f.cnt).xOpen h fr

/-- Does the SOF end the attach: the device waits for the first frame under the attach tag, a follower for any (R65, R495)? -/
def State.firstFrame (s : State) (h : Nat) (f : Sof) : Bool :=
  decide ((s.hd h).step = 10 ∧ s.attach h ≠ atREFUSED) && (s.follower ||
    match (s.pipe h).armed with
    | some a => decide (a.tag = f.tag)
    | none => decide (f.tag = 0))

/-- A SOF takes its set: the armed set it switches to, or the current one; a frame of another size is turned away, otherwise it is
opened. The attach set takes its SUB_REF from the first SOF accepted under its tag (R28, R29, R74, R79, R80, R168). A frame that is
turned away is counted in GEOMETRY_MISMATCH alone (DESIGN CHOICE, assumption 95). -/
def State.sofOpen (s : State) (h : Nat) (f : Sof) (sw : Option PSet) (gap : Nat) : State :=
  match sw, (s.pipe h).cur with
  | none, none => s
  | sw, cur =>
    let p := match sw with
      | some a => some a
      | none => cur
    match p with
    | none => s
    | some p =>
      if p.v 0x101 ≠ f.width ∨ p.v 0x102 ≠ f.height then (s.bump (Reg.hcGEOMETRY_MISMATCH h)).foldSkip h
      else
        let inc := sw.isNone && decide (p.tag ≠ f.tag)
        let sub := (s.hr h).subDue && sw.isNone && decide (p.kind = .attach ∧ p.tag = f.tag)
        let s6 := (s.add32 (Reg.hcFRAME_SKIP h) gap).when inc fun t => t.bump (Reg.pkTAG_MISMATCH h)
        let s7 := match sw with
          | some a => (s6.wHr h { s6.hr h with applied := some (s6.windowOf h a) }).switchSet h a
          | none => s6.when sub fun t => (t.wHr h { t.hr h with applied := some (t.windowOf h p) }).takeSubRef h f
        let rst := match sw, cur with
          | some a, some c => a.restarts c
          | some _, none => true
          | none, _ => false
        s7.openFrame h f (if sub then { p with subRef := f.sub } else p) sw.isSome inc rst

/-- A follower without its partner streams under the tag that the first SOF reports (R495). -/
def State.takeTag (s : State) (h tag : Nat) : State :=
  match (s.pipe h).cur with
  | some c =>
    if s.follower ∧ c.kind = .attach ∧ c.tag = 0 ∧ !(s.pipe h).armed.any (fun a => decide (a.tag = tag)) then
      (s.wPipe h { s.pipe h with cur := some { c with tag := tag } }).w (Reg.hsCURRENT_TAG h) tag
    else s
  | none => s

/-- The tags that a follower sees in its SOFs count for the allocation that it may take over (R496). -/
def State.seeTag (s : State) (h tag : Nat) : State :=
  if s.follower then s.wHr h { s.hr h with lastTag := laterTag tag (s.hr h).lastTag } else s

/-- A SOF at the pipeline: close the open frame, shed the head whose shedding waits, then accept or refuse the new frame (R28, R29, R74,
R79, R80, R319, R582). The first frame of an attach skips none (DESIGN CHOICE, assumption 95). -/
def State.sofIn (s : State) (h : Nat) (f : Sof) : State :=
  let s0 := ((s.closeFrame h false).haltSettle.applyRebuilt h).headBoundary h
  let x := s0.hr h
  let first := s0.firstFrame h f
  let s1 := (s0.wHr h { x with sofAt := some s0.up, interval := f.interval, late := 0, frameCnt := some f.cnt, winSum := x.winSum + f.win, winT := f.win,
                               winN := x.winN + 1 }).w (Reg.hdHEAD_EPOCH h) f.epoch
  let s2 := (s1.seeTag h f.tag).seeEpoch f.epoch true
  let gap := match x.frameCnt with
    | some c => if first then 0 else (f.cnt + 2 ^ 32 - c - 1) % 2 ^ 32
    | none => 0
  let s3 := if first then (s2.streaming h).takeTag h f.tag else s2
  if s3.attach h ≠ atSTREAMING then s3
  else
    let s3a := s3.wHr h { s3.hr h with reopen := (s3.hr h).reopen && !(f.at 0 && (s3.fold h).run.isNone)
                                       dark := (s3.hr h).dark && !f.at 0 }
    let step := bit h s3a.boot.stepPipes
    if s3a.rb Reg.dbgHALTED_PIPES h ∧ !step then s3a.foldSkip h
    else
      let s4 := if step then { s3a with boot := { s3a.boot with stepPipes := setBit h false s3a.boot.stepPipes } } else s3a
      s4.sofOpen h f ((s4.pipe h).armed.filter fun a => decide (a.tag = f.tag)) gap

/-- An EOF closes the open frame it names (R79, R80). -/
def State.eofIn (s : State) (h cnt : Nat) : State :=
  match (s.pipe h).frame with
  | some f => if f.cnt = cnt then s.closeFrame h false else s.bump (Reg.hcLINE_STRAY h)
  | none => s.bump (Reg.hcLINE_STRAY h)

/-- FRAME_LATE at the expected arrival plus tolerance and after each further interval; HEAD_SILENT after 8 (R82, R83). -/
def State.frameLate (s : State) (h : Nat) : State :=
  let x := s.hr h
  match x.sofAt with
  | none => s
  | some a =>
    let tol := (match (s.pipe h).cur with
      | some c => c.v 0x10C
      | none => s.r (Reg.hsLATE_TOL h)) * x.interval / 100
    if s.attach h = atSTREAMING ∧ s.since a ((x.late + 1) * x.interval + tol) then
      let s1 := (s.wHr h { x with late := x.late + 1 }).bump (Reg.hcFRAME_LATE h)
      let s2 := s1.event 0x0101 h (x.late + 1)
      if x.late + 1 = 8 then
        let s3 := (s2.bump (Reg.hcHEAD_SILENT h)).event 0x0102 h 0
        (s3.wHr h { s3.hr h with silent := true }).headCmd h 0x0C []
      else s2
    else s

end Sys2Proof.Machine
end

