-- ==== Sys2Proof/Machine/Heads.lean ====
section
/-! DEFINITION. The commands of heads, their commits and their Fold runs: replies, timers and host actions (R44-R75, R84-R87,
R113-R122, R142-R144, R164-R184). -/

namespace Sys2Proof.Machine

/-- What follows any command that may have changed a head's state: halts and stations (R205, R582). -/
def State.settle (s : State) : State := s.haltSettle.webSettle

/-! ## Packets -/

/-! ## Timers -/

/-- Is a head attached: in STANDBY or STREAMING? -/
def State.attached (s : State) (h : Nat) : Bool := decide (s.attach h = atSTANDBY ∨ s.attach h = atSTREAMING)

/-- TIME_PROBE to an attached head every 100 ms (R44). -/
def State.timeProbe (s : State) (h : Nat) : State :=
  let x := s.hd h
  if s.attached h ∧ s.since x.lastProbe 100000000 then (s.wHd h { x with lastProbe := s.up }).headCmd h 0x0A [] else s

/-- The authentication is tried again 1 s after a failed exchange (R64). -/
def State.authAgain (s : State) (h : Nat) : State :=
  match (s.hd h).authRetryAt with
  | some t => if s.since t 1000000000 ∧ s.laneUp h then s.authStart h else s
  | none => s

/-- A failed attach starts again after 1 s (R68). -/
def State.attachAgain (s : State) (h : Nat) : State :=
  match (s.hd h).retryAt with
  | some t => if s.since t 1000000000 ∧ s.laneUp h then s.startAttach h else s
  | none => s

/-- Weight of a streaming minute by its mean WINDOW_TEMP, 0.01 degC (R59); k picks it where no SOF gave a temperature. -/
def minuteWeight (sum : Int) (n k : Nat) : Nat :=
  if n = 0 then 2 ^ (k % 4)
  else if sum < 6000 * (n : Int) then 1 else if sum < 8000 * (n : Int) then 2 else if sum < 10000 * (n : Int) then 4 else 8

/-- A streaming minute ends: WINDOW_EQ, the streaming time, and STATUS (R59, R60). The minutes that a follower counts are increments
not yet written, too, which it writes once it holds authority (R495, R622; DESIGN CHOICE, assumption 96). -/
def State.streamMinute (s : State) (h : Nat) : State :=
  let x := s.hr h
  if s.attach h = atSTREAMING ∧ s.since x.minuteAt 60000000000 then
    let w := minuteWeight x.winSum x.winN s.freeNat
    let s0 := if x.winN = 0 then s.used else s
    let s1 := s0.wHr h { x with minuteAt := s0.up, winSum := 0, winN := 0, minutes := x.minutes + 1 }
    (s1.lifeAdd h fun l => { l with window := l.window + w, stream := l.stream + 1 }).headCmd h 0x0C []
  else s

/-- Every 10 minutes of streaming the life record is written (R60). -/
def State.lifeDue (s : State) (h : Nat) : State :=
  let x := s.hr h
  if s.attach h = atSTREAMING ∧ 10 ≤ x.minutes then (s.wHr h { x with minutes := x.minutes - 10 }).lifeWrite h else s

/-- The next 8 KiB of a write-back every 8 ms (R72); a device that has become follower abandons it (R495). -/
def State.writeBackTick (s : State) (h : Nat) : State :=
  match (s.hd h).wb with
  | some w =>
    if s.follower then s.dropWriteBack h
    else if w.stage = 1 ∧ s.since w.lastAt 8000000 ∧ !s.epochWaits 0x07 then s.writeBackNext h
    else s
  | none => s

/-! ## REBIND (R75) -/

/-- Rebind: an authenticated head is bound and attached afresh; one not yet authenticated is attached afresh and bound at step 5;
with no head the binding is cleared. Each clears shutter-suspect (R176). -/
def State.rebindRun (s : State) (h : Nat) : State :=
  let s0 := (s.unsuspect h).laneRecord h
  if s0.laneUp h then
    if (s0.hd h).session then
      let sn := s0.blob (Reg.hdSERIAL h)
      let s1 := (s0.bindTo h sn).rebindEnd h sn
      (s1.wHd h { s1.hd h with lastFull := none, fails := 0, authFails := 0 }).startAttach h
    else (s0.wHd h { s0.hd h with fails := 0, authFails := 0, lastFull := none }).startAttach h
  else
    let s1 := (s0.wHd h { s0.hd h with unbound := s0.lastBound h }).wBlob (Reg.hdBOUND_SERIAL h) []
    ((s1.dropProposals h).laneRecord h).rebindEnd h []

/-! ## COMMIT (R25-R27, R84, R113, R114, R119) -/

/-- The set a host commit arms (R113, R152, R519). -/
def State.hostSet (s : State) (h : Nat) : PSet :=
  let v := s.cappedVals h
  { tag := nextTag (s.hr h).lastTag, kind := .host, vals := v, skim := s.skimCodes h
    subRef := match (s.pipe h).cur with
      | some c => c.subRef
      | none => s.ri 16 (Reg.pcSUB_REF h)
    patches := s.patchList h (s.r (Reg.pcPATCH_COUNT h)), slots := s.newestSlots h (tget 0 v 0x424), armedAt := s.now }

/-- Is a set outside its ranges: window beyond the native array, the bias in use, patches, statistics region, persistent list (R86, R87,
R114, R119)? -/
def State.badSet (s : State) (h : Nat) (p : PSet) : Bool :=
  let w := p.v 0x101
  let ht := p.v 0x102
  decide (s.r (Reg.hdNATIVE_W h) < w ∨ s.r (Reg.hdNATIVE_H h) < ht ∨ 4095 < p.v 0x105) ||
  p.patches.any (fun q => decide (s.factCount h ≤ q.index ∨ q.mask = 0)) ||
  decide (w ≤ p.v 0x407 ∨ ht ≤ p.v 0x408 ∨ w < p.v 0x407 + p.v 0x409 ∨ ht < p.v 0x408 + p.v 0x40A) ||
  (decide (s.r (Reg.pcPATCH_PERSIST h) = 1) && decide (256 < (persistAdd (s.persist h) p.patches).length))

/-- Does a commit meet an armed set that is not yet stale, or a Fold run between CLOSING and the end of ARMING (R27, R172)? -/
def State.tagPending (s : State) (h : Nat) : Bool :=
  let fs := s.r (Reg.hlFOLD_STATE h)
  decide (1 ≤ fs ∧ fs ≤ 7) || ((s.pipe h).armed.isSome && !s.armedStale h)

/-- The first of the commit's own checks that fails, 0 when none does. -/
def State.commitCode (s : State) (h : Nat) (p : PSet) : Nat :=
  if !s.attached h then 5
  else if s.tagPending h then 1
  else if s.badSet h p then 2
  else if s.overLoad h (p.v 0x101) (p.v 0x102) (p.v 0x103) then 3
  else 0

/-- A failed commit's result: its code, and a tag field the manual gives no value for (assumption 14). -/
def State.commitFail (s : State) (key code : Nat) : State := s.used.actDone key (s.freeNat % 65536 + 65536 * code) false

/-- A commit that has passed arms its set, empties PATCH_COUNT and extends the persistent list (R25, R113, R119). -/
def State.commitArm (s : State) (h : Nat) (p : PSet) : State :=
  let s1 := (s.superArm h p).w (Reg.pcPATCH_COUNT h) 0
  let s2 := s1.wPipe h { s1.pipe h with hostInterval := some (s.r (Reg.hsFRAME_INTERVAL h)) }
  let s3 := if s.r (Reg.pcPATCH_PERSIST h) = 1 ∧ p.patches ≠ [] then s2.wPersist h (persistAdd (s2.persist h) p.patches) else s2
  s3.actDone (Reg.hsCOMMIT h) p.tag true

/-- The candidate of a commit: the configuration with the set armed. -/
def State.withArmed (s : State) (h : Nat) (p : Option PSet) : State := s.wPipe h { s.pipe h with armed := p }

/-- The commit once it has been accepted (R84, R113, R317). -/
def State.commitRun (s : State) (h : Nat) : State :=
  let p := s.hostSet h
  let code := s.commitCode h p
  if code ≠ 0 then s.commitFail (Reg.hsCOMMIT h) code
  else
    let old := (s.pipe h).armed
    s.admission (s.withArmed h (some p)) (.commit h) (fun t => t.commitFail (Reg.hsCOMMIT h) 4) fun t => (t.withArmed h old).commitArm h p

/-- Pending proposals of a head: records and codes (R143). -/
def State.proposals (s : State) (h : Nat) : List (Nat × Nat) :=
  (s.px.prop.filter fun e => decide (e.1 / 524288 = h)).map fun e => (e.1 % 524288, e.2)

/-- TAU_COMMIT: the current set with the pending proposals (R144). It is a commit under R25-R27; the rule of R172 for host commits is not
its, so that it may supersede a Fold run's set that is stale (R178; DEDUCED, assumption 97). -/
def State.tauCommitRun (s : State) (h : Nat) : State :=
  match (s.pipe h).cur with
  | none => s.commitFail (Reg.pcTAU_COMMIT h) 5
  | some c =>
    if !s.attached h then s.commitFail (Reg.pcTAU_COMMIT h) 5
    else if s.mustWait h then s.commitFail (Reg.pcTAU_COMMIT h) 1
    else
      let p := { s.internalSet h .tau c with taus := s.proposals h }
      ((s.superArm h p).dropProposals h).actDone (Reg.pcTAU_COMMIT h) p.tag true

/-! ## Fold (R164-R179) -/

/-- DRIFT_CONF every 100 ms while the head streams (R164). -/
def State.driftUpdate (s : State) (h : Nat) : State :=
  let f := s.fold h
  if s.attach h = atSTREAMING ∧ s.since f.confAt 100000000 then
    (s.wFold h { f with confAt := s.up }).w (Reg.hlDRIFT_CONF h) (s.driftConf h (s.hr h).winT)
  else s

/-- The triggers every 100 ms (R165). -/
def State.foldEval (s : State) (h : Nat) : State :=
  let f := s.fold h
  if s.since f.evalAt 100000000 then (s.wFold h { f with evalAt := s.up }).foldTrigger h else s

/-- FOLD_NOW once accepted: refused with a result, or pending until a run starts (R167). -/
def State.foldNowRun (s : State) (h v : Nat) : State :=
  let no (c : Nat) : State := s.actDone (Reg.hlFOLD_NOW h) (0xFFFF + 65536 * c) false
  if v ≠ 1 ∧ v ≠ 2 then no 9
  else if s.attach h ≠ atSTREAMING then no 8
  else if (s.fold h).run.isSome then no 7
  else s.wFold h { s.fold h with explicit_ := v, explicitWaits := true }

/-- The CLOSING limit: frame F has not been accepted within 8 intervals of the current set after the reply (R169, R174). -/
def State.closingLimit (s : State) (h : Nat) : State :=
  match (s.fold h).run with
  | some r => match r.replied with
    | some t =>
      if s.r (Reg.hlFOLD_STATE h) = 1 ∧ r.first.isNone ∧ s.since t (8 * (s.pipe h).curInterval) then s.foldFail h 1 else s
    | none => s
  | none => s

/-- CHECKING ends (R169, R174). -/
def State.checkDone (s : State) (h : Nat) : State := if s.r (Reg.hlFOLD_STATE h) = 5 then s.foldChecked h else s

/-- SHUTTER open is repeated every second until the head reports it open (R179). -/
def State.reopenAgain (s : State) (h : Nat) : State :=
  let x := s.hr h
  if x.reopen ∧ s.attached h ∧ s.since x.reopenAt 1000000000 then (s.wHr h { x with reopenAt := s.up }).shutter h 0 else s

end Sys2Proof.Machine
end

