-- ==== Sys2Proof/Machine/Pairing.lean ====
section
/-! DEFINITION. The partner connection: when it is up, and what coming up and going down bring about (R479, R480, R492, R498). -/

namespace Sys2Proof.Machine

/-- Is a partner lane UP? -/
def State.partnerLane (s : State) : Bool := (List.range 4).any fun i => s.laneUp (88 + i)

/-- MASTER_OK (R492). -/
def State.masterOk (s : State) : Bool :=
  let st := s.r Reg.timeTIME_STATE
  s.addr.isSome && (st = 1 || st = 2) && match s.ring.lastMaster with
    | some t => decide (s.up ≤ t + 3000 * s.r Reg.timeSYNC_EXPECT)
    | none => false

/-- The follower asks for a grant, once, when the connection is down, the master is reached and the partner does not claim (R492). -/
def State.peerLost (s : State) : State :=
  let lost := s.follower && !s.pair.claiming && decide (s.r Reg.prPARTNER_STATE = 0 ∧ s.r Reg.prPEER_CLAIM_STATE = 0) && s.masterOk
  let t := { s with pair := { s.pair with lostSaid := lost } }
  if lost && !s.pair.lostSaid then t.event 0x0707 0 t.epoch else t

/-- The connection goes down (R479). -/
def State.connDown (s : State) : State :=
  if s.r Reg.prPARTNER_STATE = 1 then
    let s1 := State.w { s with pair := { s.pair with synced := false } } Reg.prPARTNER_STATE 0
    ((s1.event 0x0704 0 0).replace 4).peerLost
  else s

/-- The replicated objects that are written: RW and RWS. -/
def syncRows : List (Nat × ObjRow) :=
  (objGroups.map fun g =>
    ((List.range g.count).map fun i =>
      (g.rows.filter fun r => replicated (256 * g.base) && (r.acc = Acc.rw || r.acc = Acc.rws)).map fun r =>
        (256 * (g.base + g.stride * i) + r.sub, r)).flatten).flatten

/-- The bytes of a replicated block or string: a table's newest contents, else what is stored. -/
def State.syncBlock (s : State) (k : Nat) : Bytes :=
  match (List.range 40).find? fun t => decide (k = tabKey t 1) with
  | some t => s.newestTable t
  | none => s.blob k

/-- CONFIG_SYNC: every replicated RW and RWS value and every armed and current set (R480). -/
def State.syncMsg (s : State) : PMsg :=
  .configSync s.epoch
    ((syncRows.filter fun e => e.2.ty ≠ Ty.block ∧ e.2.ty ≠ Ty.str).map fun e => (e.1, s.r e.1))
    ((syncRows.filter fun e => e.2.ty = Ty.block ∨ e.2.ty = Ty.str).map fun e => (e.1, s.syncBlock e.1))
    ((headNos.map fun h => ((s.pipe h).cur.toList ++ (s.pipe h).armed.toList).map fun p => p.toMsg h).flatten)

/-- A valid HEARTBEAT, or a stale message in its place, has arrived: the connection comes up when it was down (R479, R482). A
bellwether then sends CONFIG_SYNC; only its follower waits for one (R498). -/
def State.connUp (s : State) : State :=
  if s.pair.mode ∧ s.r Reg.prPARTNER_STATE = 0 ∧ s.partnerLane then
    let s0 := { s with pair := { s.pair with synced := decide (s.pair.peer.role ≠ 3) } }
    let s1 := ((s0.w Reg.prPARTNER_STATE 1).event 0x0705 0 s.pair.peerEpoch).replace 4
    if s1.pair.authority then s1.toPartner s1.syncMsg else s1
  else s

/-- A partner message arrives on a lane that is UP: a stale one counts only as a heartbeat, a newer epoch is adopted (R482, R484). -/
def State.partnerIn (s : State) (m : PartnerMsg) (f : State → State) : State :=
  if !(m.valid && s.pair.mode && s.laneUp (88 + m.lane.val)) then s
  else if m.epoch < s.epoch then State.connUp { s with pair := { s.pair with lastHb := some s.up, peerEpoch := m.epoch } }
  else f (s.seeEpoch m.epoch false)

/-- A partner lane has changed: with none UP the connection goes down. -/
def State.pairLanes (s : State) : State := if s.partnerLane then s else s.connDown

end Sys2Proof.Machine
end

