-- ==== Sys2Proof/Machine/Lanes.lean ====
section
/-! DEFINITION. The serial lanes: bring-up, equalisation, loss and relock, and what a lane coming UP or leaving UP means to its class
(R365-R385, R392-R394). Lanes are numbered as in R365. -/

namespace Sys2Proof.Machine

/-- Class of a lane: 0 head, 1 export, 2 ring, 3 partner, 4 aux (R365, R371). -/
def laneClass (l : Nat) : Nat := if l < 32 then 0 else if l < 80 then 1 else if l < 88 then 2 else if l < 92 then 3 else 4

/-- LANE_STATE. -/
def State.laneState (s : State) (l : Nat) : Nat := s.r (Reg.laneLANE_STATE l)

/-! ## Training words (R370, R371) -/

/-- Is the word valid and of the type? -/
def wordOk (w : TrainWord) (ty : Nat) : Bool := decide (w.ty = ty ∧ w.crc = wordCrc w)

/-- The index of a lane within its port or group. -/
def laneIndex (l : Nat) : Nat := if l < 32 then 0 else l % 4

/-! ## A lane leaves UP -/

/-- What losing a lane that was UP means: the head's session and frame, the export group, the ring port, the partner connection
(R80, R381, R392, R401, R479). -/
def State.laneGone (s : State) (l : Nat) : State :=
  match laneClass l with
  | 0 => (s.closeFrame l true).headLost l
  | 1 => if s.domUp (9 + (l - 32) / 24) then (s.xLost (l - 32)).replace 2 else s
  | 2 => s.ringPub
  | 3 => s.pairLanes
  | _ => s

/-- Put a lane into another state; one that was UP is gone for its users. -/
def State.laneTo (s : State) (l st : Nat) : State :=
  let was := s.laneUp l
  let s1 := s.w (Reg.laneLANE_STATE l) st
  if was ∧ st ≠ 4 then s1.laneGone l else if laneClass l = 2 then s1.ringPub else s1

/-! ## Bring-up (R372-R375) -/

/-- A stage's own values at its beginning; RATE_MAX stays as the attempt took it. -/
def State.stageBegin (s : State) (l : Nat) : State :=
  s.wLane l { s.lane l with at_ := s.up, caps := 0, peer := 0, acks := 0, agreed := 1, gos := 0, doneSent := false, doneRx := false
                            eye := false, eqFrom := none, hostLost := none, relocks := 0, asleep := false }

/-- An attempt takes RATE_MAX as it stands (R395). -/
def State.takeMax (s : State) (l : Nat) : State := s.wLane l { s.lane l with maxRate := s.r (Reg.laneRATE_MAX l) }

/-- The attempt's own values at its beginning. -/
def State.attempt (s : State) (l : Nat) : State := (s.takeMax l).stageBegin l

/-- A lane loses its power. -/
def State.laneOff (s : State) (l : Nat) : State :=
  let s1 := ((s.wLane l {}).wAll [(Reg.laneRATE_ACTIVE l, 0), (Reg.laneLULL l, 0)]).laneTo l 0
  s1.when (decide (l < 32)) fun t => t.w (Reg.hdATTACH_STATE l) atABSENT

/-- Bring-up of an aux lane begins at AUX_RATE once it has a mode (R393). -/
def State.auxStart (s : State) (l : Nat) : State :=
  if s.r (Reg.auxAUX_MODE (l - 92)) = 0 then s.laneOff l
  else
    let s1 := s.attempt l
    ((s1.wLane l { s1.lane l with lullWant := s.r (Reg.auxLULL_REQ (l - 92)) }).w (Reg.laneRATE_ACTIVE l) (s.r (Reg.auxAUX_RATE (l - 92)))).laneTo l 1

/-- Stage A: leave electrical idle; a spread setting takes effect (R368). -/
def State.stageA (s : State) (l : Nat) : State :=
  let s1 := s.attempt l
  let sp := if l < 32 then s1.rb Reg.clsSSC_HEAD 0 else if l < 80 then s1.rb Reg.clsSSC_EXPORT 0 else false
  ((s1.wLane l { s1.lane l with spread := sp }).wAll [(Reg.laneRATE_ACTIVE l, 1), (Reg.laneLULL l, 0)]).laneTo l 1

/-- Stage B: send CAP. -/
def State.stageB (s : State) (l : Nat) : State :=
  let s1 := ((s.stageBegin l).w (Reg.laneRATE_ACTIVE l) 1).laneTo l 2
  let f2 := (if laneClass l ≤ 1 then 1 else 0) + 2 * b2n (s1.lane l).spread + 4 * laneClass l
  s1.sendWord l 0x01 0x11 0x0F f2 (laneIndex l)

/-- The CTLE sweep or the requests of R377 begin with an eye measurement at the preset. -/
def State.equalise (s : State) (l : Nat) : State :=
  s.wLane l { s.lane l with eye := true, iter := 0, phase := 0, kept := 0, area := 0, reversing := false, waitStatus := false, code := 0,
                            bestArea := 0, eqAt := s.up, eqFrom := some s.up }

/-- One step of Stage C: preset taps, and RATE_GO 16 times for the next rate. -/
def State.stageC (s : State) (l : Nat) : State :=
  let t := s.r (Reg.laneRATE_ACTIVE l) + 1
  let s1 := s.wLane l { s.lane l with at_ := s.up, target := t, gos := 0, doneSent := false, doneRx := false, eye := false, eqFrom := none }
  let s2 := (s1.wAll [(Reg.laneTAP_PRE l, 2), (Reg.laneTAP_MAIN l, 53), (Reg.laneTAP_POST l, 8)]).laneTo l 3
  (List.range 16).foldl (fun u _ => u.sendWord l 0x20 t 0 0 0) s2

/-- A port whose lanes have come UP at different rates takes the faster ones back to Stage B at the slowest rate (R400). -/
def State.evenRates (s : State) (p : Nat) : State :=
  if (portLanes p).all fun l => s.laneUp l then
    let lo := (portLanes p).foldl (fun m l => min m (s.r (Reg.laneRATE_ACTIVE l))) 4
    s.each (portLanes p) fun l t =>
      t.when (decide (lo < t.r (Reg.laneRATE_ACTIVE l))) fun u => ((u.w (Reg.laneRATE_CAP l) lo).takeMax l).stageB l
  else s

/-- A requested Lull of an aux lane takes effect (R383-R385). -/
def State.lullApply (s : State) (l : Nat) : State :=
  let v := (s.lane l).lullWant
  let s1 := if v % 2 = 1 ∧ s.r (Reg.laneLULL l) % 2 = 0 then s.sendLull l else s
  s1.w (Reg.laneLULL l) v

/-- The lane is UP. -/
def State.laneReady (s : State) (l : Nat) : State :=
  let s1 := (s.wLane l { s.lane l with fails := 0, relocks := 0, hostLost := none, absentAt := none, eqFrom := none }).laneTo l 4
  match laneClass l with
  | 0 => s1.laneTrained l
  | 1 =>
    let x := l - 32
    let s2 := { s1 with xp := { s1.xp with
      upSince := tset 0 s1.xp.upSince x s1.up, lastRate := tset 0 s1.xp.lastRate x (s1.r (Reg.laneRATE_ACTIVE l)) } }
    if tget false s2.xp.out x then s2.xLull else (s2.replace 2).xKick
  | 2 => (s1.evenRates ((l - 80) / 4)).ringPub
  | 3 => s1
  | _ => s1.lullApply l

/-- A step of bring-up has ended: go on with the next rate, or the lane is UP. -/
def State.stepEnd (s : State) (l : Nat) : State :=
  if s.r (Reg.laneRATE_ACTIVE l) < (s.lane l).agreed then s.stageC l else s.laneReady l

/-- LINK_ABSENT: 8 LULL words and the transmitter in TX-Lull, RATE_CAP back at 4, and LANE_ABSENT raised (R375, R458). -/
def State.linkAbsent (s : State) (l : Nat) : State :=
  let s1 := (s.wLane l { s.lane l with at_ := s.up, absentAt := some ((s.lane l).absentAt.getD s.up) }).sendLull l
  let s2 := (s1.wAll [(Reg.laneRATE_ACTIVE l, 0), (Reg.laneRATE_CAP l, 4), (Reg.laneLULL l, 1)]).laneTo l 6
  let s3 := (s2.when (decide (l < 32)) fun t => t.w (Reg.hdATTACH_STATE l) atABSENT).event 0x0301 l (s1.r (Reg.laneABSENT_CAUSE l))
  let g := (l - 32) / 4
  s3.when (decide (laneClass l = 1) && decide (s.placeCap g ≠ s3.placeCap g)) fun t => t.replace 2

/-- An attempt has failed for a cause (R374, R375). -/
def State.attemptFailed (s : State) (l cause : Nat) (signal : Bool) : State :=
  let s1 := (s.bump (Reg.laneFAILED_ATTEMPTS l)).w (Reg.laneABSENT_CAUSE l) cause
  let s2 := s1.wLane l { s1.lane l with fails := (s1.lane l).fails + 1 }
  if 3 ≤ (s2.lane l).fails then s2.linkAbsent l else if signal then (s2.takeMax l).stageB l else s2.stageA l

/-- ABSENT_CAUSE of a stage that has reached its limit: without signal detect NO_SIGNAL; in Stage A with it, and in Stage B not aligned,
NO_ALIGN; aligned in Stage B, NO_CAP (log 105). -/
def stageCause (st : Nat) (signal aligned : Bool) : Nat := if !signal then 1 else if st = 1 ∨ !aligned then 2 else 3

/-- A stage has reached its limit; a step of Stage C also where its equalisation takes longer than 4 ms (R372, R374). -/
def State.stageLimit (s : State) (l : Nat) (signal aligned : Bool) : State :=
  let x := s.lane l
  let st := s.laneState l
  if laneClass l = 4 then s
  else if st = 1 ∧ s.since x.at_ 10000000 then s.attemptFailed l (stageCause 1 signal aligned) signal
  else if st = 2 ∧ s.since x.at_ 10000000 then s.attemptFailed l (stageCause 2 signal aligned) signal
  else if st = 3 ∧ (s.since x.at_ 5000000 || x.eqFrom.any fun t => s.since t 4000000) then (s.w (Reg.laneRATE_CAP l) (x.target - 1)).stageB l
  else s

/-- Does the lane accept a partner of this role and class (R373)? -/
def accepts (cls role pc : Nat) : Bool :=
  match cls with
  | 0 => role = 2 && pc = 0
  | 1 => role = 3 && pc = 1
  | 2 => (role = 1 || role = 4) && pc = 2
  | 3 => role = 1 && pc = 3
  | _ => true

/-- The highest rate of a 4-bit mask that is at most n; 1 at least. -/
def topRate (mask n : Nat) : Nat := ((List.range 4).filter fun k => bit k mask && k + 1 ≤ n).foldl (fun m k => max m (k + 1)) 1

/-- CAP received in Stage B: after the third, the agreed maximum and CAP_ACK 16 times; with three CAP_ACK received before, Stage B ends
(R372, R373). -/
def State.capIn (s : State) (l : Nat) (w : TrainWord) : State :=
  if s.laneState l ≠ 2 ∨ !wordOk w 0x01 then s
  else if !accepts (laneClass l) (w.f0 % 16) (w.f2 / 4 % 8) then s.attemptFailed l 4 true
  else
    let x := s.lane l
    let y := { x with caps := x.caps + 1, peer := w.f1 % 16 }
    if y.caps = 3 then
      let a := topRate y.peer (min y.maxRate (s.r (Reg.laneRATE_CAP l)))
      let t := (List.range 16).foldl (fun t _ => t.sendWord l 0x02 a 0 0 0) (s.wLane l { y with agreed := a })
      if 3 ≤ y.acks then t.stepEnd l else t
    else s.wLane l y

/-- CAP_ACK received in Stage B: the third completes it once the device has its three CAP. -/
def State.capAckIn (s : State) (l : Nat) (w : TrainWord) : State :=
  if s.laneState l ≠ 2 ∨ !wordOk w 0x02 then s
  else
    let x := s.lane l
    let s1 := s.wLane l { x with acks := x.acks + 1 }
    if 3 ≤ x.acks + 1 ∧ 3 ≤ x.caps then s1.stepEnd l else s1

/-- RATE_GO received in a Stage C step: after the third both ends switch, and equalisation begins. -/
def State.rateGoIn (s : State) (l : Nat) (w : TrainWord) : State :=
  let x := s.lane l
  if s.laneState l ≠ 3 ∨ !wordOk w 0x20 ∨ w.f0 ≠ x.target ∨ 3 ≤ x.gos then s
  else
    let s1 := s.wLane l { x with gos := x.gos + 1 }
    if x.gos + 1 = 3 then (s1.w (Reg.laneRATE_ACTIVE l) x.target).equalise l else s1

/-! ## Equalisation (R376-R378) -/

/-- EQ_DONE has been sent and received: the step ends. -/
def State.eqEnd (s : State) (l : Nat) : State :=
  let x := s.lane l
  if x.doneSent ∧ x.doneRx then s.stepEnd l else s

/-- The device sends EQ_DONE. -/
def State.eqSend (s : State) (l : Nat) : State :=
  (State.sendWord (s.wLane l { s.lane l with doneSent := true, eye := false, waitStatus := false, eqFrom := none }) l 0x12 0 0 0 0).eqEnd l

/-- The change of a place in the cycle as F0 of EQ_REQ: post, pre, main, each up and down; reversed when asked. -/
def eqChange (phase : Nat) (reverse : Bool) : Nat :=
  let dir := if decide (phase % 2 = 0) ≠ reverse then 1 else 2
  dir * (if phase / 2 = 0 then 16 else if phase / 2 = 1 then 1 else 4)

/-- Ask for the change at the present place. -/
def State.eqAsk (s : State) (l : Nat) (reverse : Bool) : State :=
  let x := s.lane l
  let y := { x with iter := x.iter + 1, reversing := reverse, waitStatus := true, eye := false }
  (s.wLane l y).sendWord l 0x10 (eqChange x.phase reverse) (x.iter + 1) 0 0

/-- Go on to the next place: a cycle without a kept change, or 64 iterations, end the equalisation (R377). -/
def State.eqNext (s : State) (l : Nat) : State :=
  let x := s.lane l
  if 64 ≤ x.iter ∨ (x.phase = 5 ∧ x.kept = 0) then s.eqSend l
  else
    let y := if x.phase = 5 then { x with phase := 0, kept := 0 } else { x with phase := x.phase + 1 }
    (s.wLane l y).eqAsk l false

/-- An eye measurement of a head lane: the preset's, one after a change, or one after its reversal. -/
def State.eqEye (s : State) (l h w : Nat) : State :=
  let x := s.lane l
  if s.laneState l ≠ 3 ∨ laneClass l ≠ 0 ∨ !x.eye ∨ x.gos < 3 ∨ (x.iter ≠ 0 ∧ !s.since x.eqAt 20000) then s
  else
    let s1 := s.wAll [(Reg.laneEYE_H l, min 65535 h), (Reg.laneEYE_W l, min 255 w)]
    if x.iter = 0 then (s1.wLane l { x with area := h * w }).eqAsk l false
    else if x.reversing then s1.eqNext l
    else if 102 * x.area ≤ 100 * (h * w) ∧ x.area < h * w then (s1.wLane l { x with area := h * w, kept := x.kept + 1 }).eqNext l
    else s1.eqAsk l true

/-- EQ_STATUS received: an updated tap is measured after 20 µs; one that was not updated leaves nothing to measure. -/
def State.eqStatusIn (s : State) (l : Nat) (w : TrainWord) : State :=
  let x := s.lane l
  if s.laneState l ≠ 3 ∨ !wordOk w 0x11 ∨ !x.waitStatus ∨ w.f1 ≠ x.iter then s
  else
    let sh := if x.phase / 2 = 0 then 16 else if x.phase / 2 = 1 then 1 else 4
    if w.f0 / sh % 4 = 1 then s.wLane l { x with waitStatus := false, eye := true, eqAt := s.up }
    else State.eqNext (s.wLane l { x with waitStatus := false }) l

/-- Are taps within the limits of R376? -/
def tapsOk (pre main post : Nat) : Bool := decide (pre ≤ 12 ∧ post ≤ 24 ∧ 27 ≤ main ∧ main ≤ 63 ∧ pre + main + post ≤ 63)

/-- One tap after a request of two bits. -/
def tapMove (req v preset : Nat) : Nat := match req with
  | 1 => v + 1
  | 2 => v - 1
  | 3 => preset
  | _ => v

/-- EQ_REQ received: the device moves its transmitter's taps and answers (R376). A decrement of 0 breaks the limit. -/
def State.eqReqIn (s : State) (l : Nat) (w : TrainWord) : State :=
  if s.laneState l ≠ 3 ∨ !wordOk w 0x10 ∨ 1 < laneClass l then s
  else
    let a := w.f0 % 4
    let m := w.f0 / 4 % 4
    let p := w.f0 / 16 % 4
    let (a0, m0, p0) := (s.r (Reg.laneTAP_PRE l), s.r (Reg.laneTAP_MAIN l), s.r (Reg.laneTAP_POST l))
    let all := decide (a = 3 ∧ m = 3 ∧ p = 3)
    let moved (ok : Bool) (req : Nat) : Nat := if req = 0 then 0 else if ok then 1 else 2
    let okA := all || (tapsOk (tapMove a a0 2) m0 p0 && !(a = 2 && a0 = 0))
    let a1 := if okA then tapMove a a0 2 else a0
    let okM := all || tapsOk a1 (tapMove m m0 53) p0
    let m1 := if okM then tapMove m m0 53 else m0
    let okP := all || (tapsOk a1 m1 (tapMove p p0 8) && !(p = 2 && p0 = 0))
    let p1 := if okP then tapMove p p0 8 else p0
    (s.wAll [(Reg.laneTAP_PRE l, a1), (Reg.laneTAP_MAIN l, m1), (Reg.laneTAP_POST l, p1)]).sendWord l 0x11
      (moved okA a + 4 * moved okM m + 16 * moved okP p) w.f1 a1 p1

/-- One code of the CTLE sweep has been measured; the sixteenth ends it (R378). On an aux lane that ends the bring-up (R393). -/
def State.ctleIn (s : State) (l h w : Nat) : State :=
  let x := s.lane l
  if s.laneState l ≠ 3 ∨ laneClass l < 2 ∨ !x.eye ∨ !s.since x.eqAt 100000 then s
  else
    let better := decide (x.code = 0) || decide (x.bestArea < h * w)
    let s1 := if better then s.wAll [(Reg.laneCTLE l, x.code), (Reg.laneEYE_H l, min 65535 h), (Reg.laneEYE_W l, min 255 w)] else s
    let s2 := s1.wLane l { x with code := x.code + 1, bestArea := if better then h * w else x.bestArea, eqAt := s.up }
    if x.code + 1 < 16 then s2
    else if laneClass l = 4 then State.laneReady (s2.wLane l { s2.lane l with eye := false }) l
    else s2.eqSend l

/-- EQ_DONE received; on an export lane, whose host is the requester, the device answers with its own. -/
def State.eqDoneIn (s : State) (l : Nat) (w : TrainWord) : State :=
  let x := s.lane l
  if s.laneState l ≠ 3 ∨ !wordOk w 0x12 ∨ x.gos < 3 then s
  else
    let s1 := s.wLane l { x with doneRx := true }
    if laneClass l = 1 then s1.eqSend l else s1.eqEnd l

/-! ## Loss and relock (R380-R382, R384) -/

/-- LOSS: it is counted in training and relock, too; on a lane that is UP the first relock attempt begins, which the host's report ends
where it was the host that lost the lane (R380-R382). -/
def State.laneLoss (s : State) (l codeErr : Nat) (host : Bool) : State :=
  if s.laneState l = 0 ∨ s.laneState l = 6 then s
  else
    let s0 := (s.bump (Reg.laneLOSSES l)).add32 (Reg.laneCODE_ERR l) codeErr
    let x := s0.lane l
    if s.laneUp l then
      let s1 := s0.bump (Reg.laneRELOCKS l)
      (s1.wLane l { x with at_ := s1.up, relocks := 1, hostLost := if host then some s1.up else none }).laneTo l 5
    else if host ∧ s.laneState l = 5 ∧ x.hostLost.isNone then s0.wLane l { x with hostLost := some s0.up }
    else s0

/-- Relocking has failed: retrain from Stage B with RATE_CAP unchanged; an aux lane, which has no Stage B, starts afresh (R381, R393). -/
def State.retrain (s : State) (l : Nat) : State :=
  let s1 := s.bump (Reg.laneRETRAINS l)
  if laneClass l = 4 then (s1.laneOff l).auxStart l else (s1.takeMax l).stageB l

/-- A relock attempt has failed after 100 µs: the next one, or a retrain (R381). -/
def State.relockFailed (s : State) (l : Nat) : State :=
  let x := s.lane l
  if s.laneState l ≠ 5 ∨ x.hostLost.isSome ∨ !s.since x.at_ 100000 then s
  else if x.relocks < 3 then State.bump (s.wLane l { x with relocks := x.relocks + 1, at_ := s.up }) (Reg.laneRELOCKS l)
  else s.retrain l

/-- The lane an RX_STATUS word reports on (R371, R382). -/
def reportedLane (l : Nat) (w : TrainWord) : Nat := 32 + (l - 32) / 4 * 4 + w.f0 % 4

/-- RX_STATUS from the host on an export lane. -/
def State.rxStatusIn (s : State) (l : Nat) (w : TrainWord) : State :=
  if laneClass l ≠ 1 ∨ !wordOk w 0x40 then s
  else
    let k := reportedLane l w
    if w.f1 = 1 then s.laneLoss k 0 true
    else match (s.lane k).hostLost with
      | some t => if s.laneState k = 5 ∧ s.up ≤ t + 300000 then s.laneReady k else s
      | none => s

/-- No locked report has come within 300 µs (R382). -/
def State.rxStatusLate (s : State) (l : Nat) : State :=
  match (s.lane l).hostLost with
  | some t => if s.laneState l = 5 ∧ s.since t 300000 then s.retrain l else s
  | none => s

/-- May the receiver of a lane that is UP enter RX-Lull (R385)? A head lane only with no head attached, a ring or a partner lane never
(R479). -/
def State.mayLull (s : State) (l : Nat) : Bool :=
  decide (laneClass l = 1 ∨ laneClass l = 4) || (decide (laneClass l = 0) && !s.attached l)

/-- LULL received: the receiver sleeps, and the silence that follows is no LOSS (R384, R385). -/
def State.lullIn (s : State) (l : Nat) (w : TrainWord) : State :=
  if s.laneUp l ∧ s.mayLull l ∧ wordOk w 0x30 then s.wb (Reg.laneLULL l) 1 true else s

end Sys2Proof.Machine
end

