-- ==== Sys2Proof/Machine/Wipe.lean ====
section
/-! DEFINITION. The assertion of a wiping reset and the wipe of a life-cycle transition (R564-R569, R576). -/

namespace Sys2Proof.Machine

/-- Carry out a list of NVM operations. -/
def runOps (ops : List NvmOp) (c : List Host.Cell) : List Host.Cell := ops.foldl (fun m o => o.apply m) c

/-- The operation that bank b runs is cut by a loss of supply: it has ended, or its page holds anything (R567). -/
def State.nvmCut (s : State) (b : Nat) : State :=
  match tget none s.nvm.cur b with
  | none => s
  | some j => match j.ops with
    | [] => s
    | o :: _ =>
      let done := Config.freeBool s.free
      let c := match o with
        | .page n _ => NvmOp.apply (if done then o else .page n (Config.freeBytes s.free 256)) s.nvm.cells
        | .cell _ _ => if done then o.apply s.nvm.cells else s.nvm.cells
      { s.used with nvm := { s.nvm with cells := c } }

/-- Operations that a reset lets the NVM controller complete: those in progress and the jobs of classes 0-2 (R567). -/
def Nvm.lastOps (n : Nvm) : List NvmOp :=
  let now := ((List.range 4).map fun b => match tget none n.cur b with
    | some j => if j.cls ≤ 2 then j.ops else j.ops.take 1
    | none => []).flatten
  now ++ ((List.range 3).map fun c => ((n.queue.filter fun j => j.cls = c).map (·.ops)).flatten).flatten

/-- The NVM as a reset of a cause leaves it. -/
def State.nvmStop (s : State) (cause : Nat) : State :=
  if cause = 1 then s.each (List.range 4) fun b t => t.nvmCut b
  else { s with nvm := { s.nvm with cells := runOps s.nvm.lastOps s.nvm.cells } }

/-- The boot flash ends the operation it runs by itself; after a loss of supply it has ended or not begun. -/
def State.flashStop (s : State) (cause : Nat) : State :=
  match s.flash.pollSince, s.flash.jobs with
  | some _, j :: _ => match j.ops with
    | o :: _ =>
      let done := decide (cause ≠ 1) || Config.freeBool s.free
      { s.used with flash := { s.flash with cells := if done then o.apply s.flash.cells else s.flash.cells } }
    | [] => s
  | _, _ => s

/-- What the retention register holds after a reset of a cause; a cause that comes while the reset is asserted already is recorded where
it stands first in the table (R564, R565, R568, R588). -/
def Retain.after (r : Retain) (asserted : Bool) (cause : Nat) : Retain :=
  { r with
    cause := if asserted then min r.cause cause else cause, boots := min 0xFFFFFFFF (r.boots + 1)
    watchdogs := if cause = 3 then min 0xFFFFFFFF (r.watchdogs + 1) else r.watchdogs }

/-- Levels at the encoder pins. -/
def State.encPins (s : State) : List (Nat × Enc) :=
  s.encs.foldl (fun l e => tset {} l e.1 { a := e.2.a, b := e.2.b }) []

/-- The pair counters, which no wiping reset clears (R504). -/
def pairCounters : List Nat := [Reg.prTAKEOVERS, Reg.prDEMOTIONS, Reg.prCOLLISIONS, Reg.prLEASE_EXPIRIES]

/-- Does the orderly stop of causes 3 to 5 hold the device, which only RST_N or a power cycle ends (R526)? -/
def State.stopHeld (s : State) : Bool :=
  decide (s.r Reg.opDEVICE_STATE = 4 ∧ 3 ≤ s.r Reg.thmSTOP_CAUSE ∧ s.r Reg.thmSTOP_CAUSE ≤ 5)

/-- Banks whose drain clamps have power as a reset asserts (R257). -/
def State.clampBanks (s : State) : Nat :=
  (List.range 24).foldl (fun m b => setBit b ((s.rb Reg.thmDOMAINS_UP 19 && decide (s.r (Reg.bkBANK_TYPE b) ≠ 0)) || bit b s.d2d.clamps) m) 0

/-- DBG_OBJ and DBG_MEM at their reset values, a fresh challenge, the port locked; the instruction and the pins stay (R578-R581). -/
def State.tapReset0 (s : State) : Tap :=
  { ir := s.tap.ir, bypass := s.tap.bypass, pins := s.tap.pins, update := s.tap.update, floating := s.tap.floating, dr := s.tap.dr
    lockout := s.tap.lockout, challenge := padTo 16 (Config.freeBytes s.free 16) }

/-- A wiping reset of a cause asserts (R567, R568): what stays is the storage, the retention register, the pins, own time, and the power
of the drain clamps (R257). -/
def State.wipe (s0 : State) (cause : Nat) : State :=
  let s := (s0.nvmStop cause).flashStop cause
  let t : State :=
    { pending := s.pending, clk := { up := s.clk.up }, free := s.free, nvm := { cells := s.nvm.cells }, flash := { cells := s.flash.cells }
      fac := s.fac, ret := s.ret.after s.boot.released.isNone cause, encs := s.encPins, tap := s.tapReset0
      boot := { supplyAt := s.boot.supplyAt }, d2d := { stopLow := s.d2d.stopLow, stopHigh := s.d2d.stopHigh, clamps := s.clampBanks } }
  (t.wAll (pairCounters.map fun k => (k, s.r k))).used

/-- Step 2 of a life-cycle transition: the user area is erased; on the way to RETURN the keys and the flash areas are, too (R576). -/
def State.userWipe (s : State) : State :=
  let s1 := { s with nvm := { s.nvm with cells := tkeep (fun k => decide (k < 8192)) s.nvm.cells } }
  if s.fac.lifeCycle = 3 then
    { s1 with
      fac := { s1.fac with kFleet := [], ownerKey := none }
      flash := { s1.flash with cells := tkeep (fun k => decide (k < 0x1000000 ∨ 0x1700000 ≤ k)) s1.flash.cells } }
  else s1

end Sys2Proof.Machine
end

