-- ==== Sys2Proof/Machine/Zones.lean ====
section
/-! DEFINITION. The control tick: zones, the event scheduler and what banks do at a tick start (R24, R220-R254, R261-R264, R277-R278,
R292, R295-R296, R309, R493, R497, R584-R587). -/

namespace Sys2Proof.Machine

/-! ## Measurement and configuration (R225, R227, R245) -/

/-- Is a zone's record fresh (R225)? -/
def State.recFresh (s : State) (z : Nat) (m : ZoneMeas) : Bool :=
  decide (1 ≤ m.lines ∧ m.lines * s.r (Reg.zbCELL_COUNT z) * s.r (Reg.zbMIN_FILL z) ≤ 100 * m.n ∧
    m.flags &&& s.r (Reg.zbFLAG_REJECT z) = 0)

/-- The value PV_SEL selects (R225). -/
def State.pvOf (s : State) (z : Nat) (m : ZoneMeas) : Nat :=
  let k := s.r (Reg.zbPV_SEL z)
  if k = 0 then m.mean else if k = 1 then m.p90 else m.max_

/-- DELAY_DIST in µm (R227); 0 without a source station. -/
def State.delayDist (s : State) (z : Nat) : Int :=
  let st := s.r (Reg.zbSRC_STATION z)
  if 8 ≤ st then 0
  else
    let mid := roundHA (mkRat (s.ri 32 (Reg.sstA_MIN st) + s.ri 32 (Reg.sstA_MAX st)) 2)
    s.ri 32 (Reg.stDATUM st) + mid - s.ri 32 (Reg.zcACT_POS z) + s.ri 32 (Reg.zcDELAY_TRIM z)

/-- Does the configuration check of R245 pass? -/
def State.zoneCfgOk (s : State) (z : Nat) : Bool :=
  let st := s.r (Reg.zbSRC_STATION z)
  decide (st < 8 ∧ s.r (Reg.zbFIRST_CELL z) + s.r (Reg.zbCELL_COUNT z) ≤ s.r (Reg.stMAP_CELLS st) ∧ 1 ≤ s.delayDist z ∧
    s.delayDist z ≤ 16000000 ∧ s.r (Reg.zfNB_LEFT z) ≠ z ∧ s.r (Reg.zfNB_RIGHT z) ≠ z)

/-- DELAY_DIST is formed anew and a running zone is checked (R227, R245). -/
def State.zoneConfig (s : State) (z : Nat) : State :=
  let s1 := s.wi 32 (Reg.zsDELAY_DIST z) (s.delayDist z)
  if s.r (Reg.zbZONE_RUN z) ≠ 0 ∧ !s.zoneCfgOk z then s1.wZone z { s1.zone z with cfgErr := true } else s1

/-- A station enters RUN: its zones (R227, R245). -/
def State.stationEnters (s : State) (st : Nat) : State := s.each (s.zonesOf st) fun z t => t.zoneConfig z

/-- A zone that is off: demand 0, integrator 0, history emptied (R237); ORDERLY_STOP stays until a wiping reset (R241). -/
def State.zoneOff (s : State) (z : Nat) : State :=
  let x := s.zone z
  (s.wZone z { ({} : Zone) with lff := x.lff, ffMiss := x.ffMiss, ym := x.ym, kp := x.kp }).wAll
    [(Reg.zsZONE_STATE z, 0), (Reg.zsSAFE_CAUSE z, 2 * b2n (s.rb (Reg.zsSAFE_CAUSE z) 1) + 16 * b2n s.pwr.safe), (Reg.zsDEMAND z, 0),
      (Reg.zsINTEGRAL z, 0), (Reg.zsZONE_FLAGS z, 0)]

/-- ZONE_RUN is written: 0 ends CONFIG_ERR, and the zone starts afresh when it runs again, also where no tick finds it off (R229, R245). -/
def State.zoneRunSet (s : State) (z v : Nat) : State :=
  if v = 0 then s.wZone z { s.zone z with cfgErr := false, init := false } else s

/-! ## The model of the delay (R228, R229) -/

/-- Model output in 1/256 of 0.01 K after a tick with demand u. -/
def modelStep (gain tau period u : Nat) (ym : Int) : Int :=
  let goal : Rat := mkRat (gain * u : Nat) 10000
  if tau = 0 then roundTo 256 goal
  else
    let y : Rat := mkRat ym 256
    roundTo 256 (y + (goal - y) * mkRat period (tau * 1000000 + period))

/-- Enter (position, y_m) into the delay history, newest first. -/
def histAdd (pos ym : Int) : List (Int × Int) → List (Int × Int)
  | [] => [(pos, ym)]
  | (p, y) :: t => if p + 1000000 ≤ pos then ((pos, ym) :: (p, y) :: t).take 16384 else (p, ym) :: t

/-- Model value at position q, 1/256 of 0.01 K, and whether q lies before the oldest entry. -/
def histAt (q : Rat) : List (Int × Int) → Rat × Bool
  | [] => (0, false)
  | [(p, y)] => ((y : Rat), decide (q < p))
  | (p1, y1) :: (p0, y0) :: t =>
    if (p1 : Rat) ≤ q then ((y1 : Rat), false)
    else if (p0 : Rat) ≤ q then ((y0 : Rat) + (q - p0) / ((p1 - p0 : Int) : Rat) * ((y1 - y0 : Int) : Rat), false)
    else histAt q ((p0, y0) :: t)

/-! ## Feed-forward (R233-R235) -/

/-- What a zone's lookup found: sum of CODE * FF_W, entries, and lines whose slot held another line. -/
structure FfSum where
  sum : Nat := 0
  n : Nat := 0
  evicted : Nat := 0
  deriving DecidableEq, Repr

/-- The lookup of R233 for encoder e over [ua, ub) nm and columns j0 to j0 + nj - 1, judged at own time `at_`. -/
def State.ffLookup (s : State) (z e : Nat) (ua ub : Rat) (j0 nj at_ : Nat) : FfSum :=
  match (s.enc e).delta with
  | none => {}
  | some d =>
    if s.r Reg.covCOV_ENABLE = 0 then {}
    else
      let pitch : Rat := ((1000 * s.r Reg.covCOV_PITCH : Nat) : Rat)
      let l0 := ((ua - d) / pitch).floor
      let l1 := ((ub - d) / pitch).ceil
      let w (k : Nat) : Nat := s.r (Reg.zfFF_W0 z + k)
      (List.range (l1 - l0).toNat).foldl (fun (a : FfSum) m =>
        let l := l0 + m
        match tget none s.cov.store (l % (s.r Reg.covCOV_DEPTH : Int)).toNat with
        | none => a
        | some c =>
          if c.l ≠ l then { a with evicted := a.evicted + 1 }
          else if at_ < c.at_ + 20000 then a
          else (List.range nj).foldl (fun (b : FfSum) j =>
            let v := c.cells.getD (j0 + j) 0
            if bit 15 v then { b with sum := b.sum + bits 7 0 v * w (bits 9 8 v), n := b.n + 1 } else b) a) {}

/-- The encoder of a zone's source station; encoder 0 stands in where the zone names no station. -/
def State.zoneEnc (s : State) (z : Nat) : Nat :=
  let st := s.r (Reg.zbSRC_STATION z)
  if st < 8 then s.r (Reg.stENC_SEL st) else 0

/-- First column and number of columns that overlap a zone's cross range (R233). -/
def State.ffCols (s : State) (z st : Nat) : Nat × Nat :=
  let cw := s.r (Reg.stCELL_W st)
  let x0 := s.ri 32 (Reg.stMAP_X0 st)
  let lo : Int := x0 + (s.r (Reg.zbFIRST_CELL z) * cw : Nat) - s.ri 32 Reg.covCOV_X0
  let hi : Int := lo + (s.r (Reg.zbCELL_COUNT z) * cw : Nat)
  let w : Int := s.r Reg.covCOV_COL_W
  let j0 := clampI 0 (s.r Reg.covCOV_COLS) (mkRat lo w.toNat).floor
  let j1 := clampI 0 (s.r Reg.covCOV_COLS) (mkRat hi w.toNat).ceil
  (j0.toNat, (j1 - j0).toNat)

/-- The feed-forward of a tick: L_ff, consecutive misses, and the flags FF_HELD and FF_DEFAULT (R233-R235): FF_GAIN = 0 comes first; a
zone without a source station finds no entry. -/
def State.feedForward (s : State) (z st : Nat) (pe : Rat) (at_ : Nat) : State × Rat × Nat :=
  if s.ri 16 (Reg.zfFF_GAIN z) = 0 then (s, 0, 0)
  else
    let x := s.zone z
    let e := s.zoneEnc z
    let ua := pe - 1000 * (s.ri 32 (Reg.zcACT_POS z) : Rat) + 1000 * (s.r (Reg.zfFF_ADV z) : Rat)
    let travel : Rat := (s.ri 32 (Reg.encSPEED e) : Rat) * (s.r Reg.opTICK_PERIOD : Nat) / 1000000
    let ub := ua + 1000 * max travel (s.r Reg.covCOV_PITCH : Rat)
    let (j0, nj) := s.ffCols z st
    let f : FfSum := if 8 ≤ st then {} else s.ffLookup z e ua ub j0 nj at_
    let s1 := s.when (decide (st < 8)) fun t => t.add32 (Reg.scCOV_EVICTED st) f.evicted
    let gain : Rat := s.ri 16 (Reg.zfFF_GAIN z)
    if f.n = 0 then
      let miss := x.ffMiss + 1
      let dflt := decide (s.r (Reg.zfFF_HOLD z) < miss)
      let l : Rat := if dflt then s.r (Reg.zfFF_DEFAULT z) else x.lff
      (State.bump (s1.wZone z { x with ffMiss := miss, lff := l }) (Reg.zkFF_MISSING z), gain * l / 255, 8 + 16 * b2n dflt)
    else
      let l : Rat := mkRat f.sum (256 * f.n)
      (s1.wZone z { x with ffMiss := 0, lff := l }, gain * l / 255, 0)

/-! ## The law (R230, R231, R236, R243) -/

/-- Rounding clamp to [lo, hi]; where lo exceeds hi, hi decides. -/
def limitTo (lo hi v : Int) : Int := min hi (max lo v)

/-- The integrator that makes u_raw equal u_prev (R243), 0.01 %, clamped to ±10,000. -/
def trackI (uPrev spreadC kp : Nat) (incoming uff e : Rat) : Rat :=
  let i : Rat := mkRat (uPrev * spreadC : Nat) 4096 + incoming - uff - (kp : Rat) * e / 100
  max (-10000) (min 10000 i)

/-- The outcome of R231: demand, integrator in 0.01 %, WINDUP, and the demand's limits. -/
structure LawOut where
  u : Int
  i : Rat
  windup : Bool
  lo : Int
  hi : Int
  deriving DecidableEq, Repr

/-- R231: p the proportional term, i the integrator, iCand its candidate, with the demand limits of the tick. -/
def piLaw (p i iCand uff incoming e : Rat) (spreadC : Nat) (outMin outMax rateMax uPrev : Nat) : LawOut :=
  let v := p + iCand + uff
  let uRaw := roundHA ((v - incoming) * 4096 / (spreadC : Rat))
  let lo : Int := max (outMin : Int) ((uPrev : Int) - rateMax)
  let hi : Int := min (outMax : Int) ((uPrev : Int) + rateMax)
  let wind := (decide (hi < uRaw) && decide (0 < e)) || (decide (uRaw < lo) && decide (e < 0))
  ⟨limitTo lo hi uRaw, if wind then i else max (-10000) (min 10000 iCand), wind, lo, hi⟩

/-- Incoming actuation of zone z from its neighbours' demands of the previous tick (R236). -/
def State.incoming (s : State) (prev : Nat → Nat) (z : Nat) : Rat :=
  let one (nb k : Nat) : Rat :=
    if nb < 192 ∧ s.r (Reg.zbZONE_RUN nb) ≠ 0 then mkRat (s.r (Reg.zfSPREAD_L nb + k) * prev nb : Nat) 4096 else 0
  one (s.r (Reg.zfNB_LEFT z)) 2 + one (s.r (Reg.zfNB_RIGHT z)) 0

/-! ## States (R237-R242) -/

/-- The safe causes of a zone (R241); `halt` is bit [0], bit [1] stays as the orderly stop has set it, a lease that expires stands in
bit [2] (R493). -/
def State.safeCauses (s : State) (z : Nat) (halt : Bool) : Nat :=
  let ch := s.r (Reg.zoCHANNEL z)
  let down := decide (ch < 192) && !s.bankRuns (ch / 8)
  let fault := decide (ch < 192 ∧ 1 ≤ s.r (Reg.chdCH_FAULT ch) ∧ s.r (Reg.chdCH_FAULT ch) ≤ 4)
  b2n halt + 2 * b2n (s.rb (Reg.zsSAFE_CAUSE z) 1) + 4 * b2n (down || decide (s.pair.leaseSafe = 2)) +
    8 * b2n fault + 16 * b2n s.pwr.safe

/-- Is the web stopped for the zone at this tick, with its new lowAt (R238)? -/
def State.webStop (s : State) (z e at_ : Nat) : Option Nat × Bool :=
  let v := s.r (Reg.zbV_STOP z)
  if v = 0 then (none, false)
  else
    let low := if s.ri 32 (Reg.encSPEED e) < ((1000 * v : Nat) : Int) then some at_ else (s.zone z).lowAt
    (low, low.any fun t => decide (at_ < t + 100000000))

/-- ZONE_STATE by the order of R237, DEGRADED aside. -/
def zoneStateOf (cfgErr : Bool) (causes : Nat) (stopped manual deg : Bool) : Nat :=
  if cfgErr then 6 else if causes ≠ 0 then 5 else if stopped then 4 else if manual then 2 else if deg then 3 else 1

/-- Does a state deliver SAFE_DEMAND in the sense of R242? -/
def deliversSafe (st : Nat) : Bool := st = 5 || st = 6

/-- A zone that starts: its history holds one entry at P_e(t0) (R229), also for a start in MANUAL (DESIGN CHOICE, assumption 100), and
its configuration is checked (R245). -/
def State.zoneStart (s : State) (z : Nat) (pos : Int) : State :=
  let y := roundTo 256 (mkRat (s.r (Reg.zcMODEL_GAIN z) * s.r (Reg.zsDEMAND z) : Nat) 10000)
  ((s.touch 4).wZone z { s.zone z with ym := y, hist := [(pos, y)], kp := s.r (Reg.zcKP z), init := true }).zoneConfig z

/-- Position of an encoder at a tick start, nm: from its history, or the position it stands at. -/
def State.tickPos (s : State) (e t0 : Nat) : Rat := (s.posFine e t0).getD (mkRat (s.enc e).pos 1000)

/-- What a zone makes of its tick. -/
structure ZoneOut where
  u : Int
  i : Rat
  windup : Bool := false
  limits : Option (Int × Int) := none
  deriving DecidableEq, Repr

/-- Demand and integrator of the tick in a state (R231, R237, R240, R243): u0 is u_prev. -/
def State.zoneDemand (s : State) (z st u0 : Nat) (fresh entry : Bool) (i e uff inc : Rat) : ZoneOut :=
  let kp := s.r (Reg.zcKP z)
  let sc := s.r (Reg.zfSPREAD_C z)
  let rate := s.r (Reg.zcRATE_MAX z)
  let track := trackI u0 sc kp inc uff e
  let law (p i0 ic : Rat) : LawOut := piLaw p i0 ic uff inc e sc (s.r (Reg.zcOUT_MIN z)) (s.r (Reg.zcOUT_MAX z)) rate u0
  let lim := law 0 0 0
  let ramp (v : Nat) : ZoneOut := ⟨limitTo lim.lo lim.hi v, track, false, some (lim.lo, lim.hi)⟩
  if st = 6 ∨ st = 5 then ⟨s.r (Reg.zoSAFE_DEMAND z), i, false, none⟩
  else if st = 4 then ⟨s.r (Reg.zoSTOP_DEMAND z), i, false, none⟩
  else if st = 2 then ramp (s.r (Reg.zcMAN_DEMAND z))
  else if st = 3 then
    let mode := s.r (Reg.zoDEG_MODE z)
    if mode = 0 then ⟨u0, track, false, none⟩
    else if mode = 2 then ramp (s.r (Reg.zoDEG_DEMAND z))
    else if mode = 3 then ⟨s.r (Reg.zoSAFE_DEMAND z), i, false, none⟩
    else
      let o := law 0 i i
      ⟨o.u, i, false, some (o.lo, o.hi)⟩
  else
    let p : Rat := (kp : Rat) * e / 100
    let i0 := if entry then track else i
    let ti := s.r (Reg.zcTI z)
    let ic := if fresh ∧ ti ≠ 0 ∧ !entry then i0 + p * ((s.r Reg.opTICK_PERIOD : Nat) : Rat) / ((1000 * ti : Nat) : Rat) else i0
    let o := law p i0 ic
    ⟨o.u, o.i, o.windup, some (o.lo, o.hi)⟩

/-- Counters of the states a zone enters (R254). -/
def State.zoneEntered (s : State) (z old new : Nat) : State :=
  if old = new then s
  else if new = 3 then s.bump (Reg.zkDEGRADED_ENTRIES z)
  else if new = 5 then s.bump (Reg.zkSAFE_ENTRIES z)
  else if new = 4 then s.bump (Reg.zkWEB_STOP_ENTRIES z)
  else s

/-- STALE_CNT after a tick's record (R226), in the state found before R239. -/
def State.staleStep (s : State) (z st : Nat) (fresh : Bool) : State :=
  let k := Reg.zsSTALE_CNT z
  if st = 1 ∨ st = 2 ∨ st = 3 then
    if fresh then s.w k 0 else (s.addTo 65535 k 1).bump (Reg.zkSTALE_TICKS z)
  else if fresh ∧ st ≠ 4 then s.w k 0 else s

/-- A tick's record is taken: PV where it is fresh, and NEWEST_SEQ (R225, R226). -/
def State.zoneTake (s : State) (z : Nat) : State :=
  let m := tget {} s.zmeas z
  (s.when (s.recFresh z m) fun t => t.w (Reg.zsPV z) (t.pvOf z m)).w (Reg.zsNEWEST_SEQ z) m.seq

/-- One zone's tick (R222-R244): t0 and own time of the tick start, demands of the previous tick, whether the engines are halted with
LIVE_ACT 0, and whether the bellwether's demand has come: then it is u_prev and sets the integrator in every state, also in the tick
in which this device takes over. The return from DEGRADED passes through R242: over its last tick the zone is DEGRADED and delivers
SAFE_DEMAND (DEDUCED, assumption 100). -/
def State.zoneTick (s : State) (z t0 at_ : Nat) (prev : Nat → Nat) (halt tracking : Bool) : State :=
  let st0 := s.r (Reg.zbSRC_STATION z)
  let e := s.zoneEnc z
  let pe := s.tickPos e t0
  let pos := roundHA pe
  let old := s.r (Reg.zsZONE_STATE z)
  let s1 := if (s.zone z).init then s else s.zoneStart z pos
  let x := s1.zone z
  let m := tget {} s1.zmeas z
  let fresh := s1.recFresh z m
  let s2 := s1.zoneTake z
  let causes := s2.safeCauses z halt
  let (low, stopped) := s2.webStop z e at_
  let stA := zoneStateOf x.cfgErr causes stopped (decide (s2.r (Reg.zbZONE_RUN z) = 2)) x.deg
  let s3 := s2.staleStep z stA fresh
  let n := if stA ≠ 3 then 0 else if fresh then x.freshN + 1 else if s3.r (Reg.zbRECOVER_N z) ≤ x.freshN then x.freshN else 0
  let st := if stA = 1 ∧ s3.r (Reg.zbSTALE_MAX z) ≤ s3.r (Reg.zsSTALE_CNT z) then 3
    else if stA = 3 ∧ x.back then 1 else stA
  let back := if stA = 3 then !x.back && decide (s3.r (Reg.zbRECOVER_N z) ≤ n) else x.back && decide (stA ≠ 1)
  let passing := decide (st = 3) && back
  let deg := if stA = 1 ∨ stA = 3 then decide (st = 3) else x.deg
  let s4 := s3.zoneEntered z old st
  let (yd, clip) := if 8 ≤ st0 then ((x.ym : Rat), false) else histAt (pe - 1000 * (s4.ri 32 (Reg.zsDELAY_DIST z) : Rat)) x.hist
  let sgn_ : Rat := if s4.r (Reg.zcACTION z) = 1 then -1 else 1
  let pvp : Rat := (s4.r (Reg.zsPV z) : Rat) + sgn_ * (((x.ym : Rat) - yd) / 256)
  let err : Rat := sgn_ * ((s4.r (Reg.zcSETPOINT z) : Rat) - pvp)
  let (s5, uff, ffl) := s4.feedForward z st0 pe at_
  let inc := s5.incoming prev z
  let kp := s5.r (Reg.zcKP z)
  let entry := decide (st = 1) && (decide (old ≠ 1) || tracking || x.resume)
  let i0 : Rat := mkRat (s5.ri 32 (Reg.zsINTEGRAL z)) 256
  let i1 := if st = 1 ∧ kp ≠ x.kp then i0 + ((x.kp : Rat) - kp) * x.ePrev / 100 else i0
  let i2 := if tracking then trackI (prev z) (s5.r (Reg.zfSPREAD_C z)) kp inc uff err else i1
  let o := if passing then ⟨s5.r (Reg.zoSAFE_DEMAND z), i2, false, none⟩ else s5.zoneDemand z st (prev z) fresh entry i2 err uff inc
  let u := o.u.toNat
  let ym := if st = 6 then x.ym else modelStep (s5.r (Reg.zcMODEL_GAIN z)) (s5.r (Reg.zcMODEL_TAU z)) (1000 * s5.r Reg.opTICK_PERIOD) u x.ym
  let y := s5.zone z
  let safe := deliversSafe st || passing
  let s6 := s5.wZone z { y with
    ym := ym, hist := if st = 6 then y.hist else histAdd pos ym y.hist, ePrev := err, kp := kp, freshN := n, back := back, deg := deg
    lowAt := low, safeNow := safe, safeDone := x.safeNow && safe, resume := false
    dms := (u :: y.dms).take 64 }
  let hiHit := o.limits.any fun l => decide (l.2 ≤ o.u)
  let loHit := o.limits.any fun l => decide (o.u ≤ l.1)
  let flags := b2n o.windup + 2 * b2n hiHit + 4 * b2n loHit + ffl + 32 * b2n clip + 64 * b2n (tracking && !s.auth)
  let s7 := s6.wAll [(Reg.zsZONE_STATE z, st), (Reg.zsSAFE_CAUSE z, causes), (Reg.zsERROR z, sat2 16 (roundHA err)),
    (Reg.zsU_FF z, sat2 16 (roundHA uff)), (Reg.zsINTEGRAL z, sat2 32 (roundTo 256 o.i)), (Reg.zsDEMAND z, u), (Reg.zsZONE_FLAGS z, flags)]
  (s7.when o.windup fun t => t.bump (Reg.zkWINDUP_TICKS z)).when clip fun t => t.bump (Reg.zkDELAY_CLIP z)

/-- A zone that missed step 2 takes its record and the web's speed, and delivers its previous demand, SAFE_DEMAND over a whole tick where
that was it (R242); a DEGRADED zone counts its consecutive fresh records on, and one that reaches RECOVER_N returns in the next tick it
computes (R239, assumption 100); its integrator and its model stay (R224-R226, R238). -/
def State.zoneLate (s : State) (z at_ : Nat) : State :=
  let fresh := s.recFresh z (tget {} s.zmeas z)
  let st := s.r (Reg.zsZONE_STATE z)
  let s1 := (s.zoneTake z).staleStep z st fresh
  let x := s1.zone z
  let low := (s1.webStop z (s1.zoneEnc z) at_).1
  (s1.wZone z { x with
    memErr := false, lowAt := low, freshN := if st ≠ 3 then x.freshN else if fresh then x.freshN + 1 else 0, safeDone := x.safeNow
    dms := (s1.r (Reg.zsDEMAND z) :: x.dms).take 64 }).bump (Reg.zkENGINE_OVERRUN z)

/-- A tick over which the engines are halted: nothing is computed; with LIVE_ACT 0 the cause HALT puts the zone into SAFE, and
SAFE_DEMAND reaches the scheduler and is u_prev (R237, R241, R584). -/
def State.zoneHalted (s : State) (z at_ : Nat) (live : Bool) : State :=
  let x := s.zone z
  let u := if live then s.r (Reg.zsDEMAND z) else s.r (Reg.zoSAFE_DEMAND z)
  let s1 := s.wZone z { x with
    resume := true, safeNow := !live, safeDone := x.safeNow && !live, lowAt := (s.webStop z (s.zoneEnc z) at_).1
    dms := (u :: x.dms).take 64 }
  let s2 := s1.wb (Reg.zsSAFE_CAUSE z) 0 (!live)
  let st := if x.cfgErr then 6 else 5
  if live then s2 else ((s2.zoneEntered z (s2.r (Reg.zsZONE_STATE z)) st).w (Reg.zsZONE_STATE z) st).w (Reg.zsDEMAND z) u

/-- Running zones, ascending. -/
def State.zonesRunning (s : State) : List Nat := zoneNos.filter fun z => decide (s.r (Reg.zbZONE_RUN z) ≠ 0)

/-- Zones that were running and have been switched off. -/
def State.zonesEnded (s : State) : List Nat := zoneNos.filter fun z => decide (s.r (Reg.zbZONE_RUN z) = 0 ∧ s.r (Reg.zsZONE_STATE z) ≠ 0)

/-- The demand that zone z delivers to the scheduler in this tick. -/
def State.delivered (s : State) (z : Nat) : Nat := (s.zone z).dms.head?.getD 0

/-- Do the zones compute (R505, R510)? -/
def State.zonesUp (s : State) : Bool :=
  decide (s.r Reg.opDEVICE_STATE = stRUN ∨ s.r Reg.opDEVICE_STATE = stSTOPPING) && s.domUp 17

/-- Halts and single steps at a tick start (R584, R585): the engines' state for this tick and whether it is computed. -/
def State.haltTick (s : State) : State × Bool :=
  let want := decide (s.r Reg.dbgHALT_ZONES = 1)
  let s1 := s.w Reg.dbgZONES_HALTED (b2n want)
  if !want then ({ s1 with boot := { s1.boot with stepTick := false } }, true)
  else if s.boot.stepTick then ({ s1 with boot := { s1.boot with stepTick := false } }, true)
  else (s1, false)

/-- Every zone of a tick. -/
def State.zonesTick (s : State) (t0 at_ : Nat) (late : List Nat) : State :=
  if !s.zonesUp then s
  else
    let (s1, run) := s.haltTick
    let s2 := s1.each s1.zonesEnded fun z t => t.zoneOff z
    let zs := s2.zonesRunning
    let bell (z : Nat) : Option Nat := (s2.zone z).bell.map (·.2)
    let prev (z : Nat) : Nat := (bell z).getD (s2.r (Reg.zsDEMAND z))
    let halt := decide (s2.r Reg.dbgZONES_HALTED = 1 ∧ s2.r Reg.dbgLIVE_ACT = 0)
    let s3 := s2.each zs fun z t =>
      if !run then t.zoneHalted z at_ (!halt)
      else if late.contains z || (t.zone z).memErr then t.zoneLate z at_
      else t.zoneTick z t0 at_ prev halt (bell z).isSome
    s3.each zoneNos fun z t => t.when (t.zone z).bell.isSome fun u => u.wZone z { u.zone z with bell := none }

/-! ## The scheduler (R264, R277, R278) -/

/-- Mean of the last k delivered demands; a tick before the zone ran delivered 0. -/
def meanDemand (dms : List Nat) (k : Nat) : Rat := mkRat ((dms.take k).foldl (· + ·) 0 : Nat) k

/-- The event scheduler for one injector channel (R264). -/
def State.schedule (s : State) (n c t0own : Nat) : State :=
  let per := s.r (Reg.chEV_PERIOD c)
  match s.zoneOf c with
  | none => s
  | some z =>
    if n % per ≠ s.r (Reg.chEV_PHASE c) % per ∨ s.chFaulty c then s
    else
      let d := (roundHA (meanDemand (s.zone z).dms per * (s.r (Reg.chT_FULL c) : Rat) / 10000)).toNat
      let ts := t0own + 30000 + 1000 * min (s.r (Reg.chEV_OFFSET c)) (s.r Reg.opTICK_PERIOD - 30)
      let ask (t : State) (dur : Nat) : State :=
        let t1 := t.w (Reg.chsCARRY c) 0
        if dur = 0 then t1
        else t1.request { ch := c, dur := dur, ts := ts, prio := t.r (Reg.zoZONE_PRIO z), made := t.up,
                          deadline := ts + tenth (t.r (Reg.chEV_DEADLINE c)), test := false }
      let min_ := s.r (Reg.chEV_MIN c)
      if min_ ≤ d then ask s d
      else
        let carry := s.r (Reg.chsCARRY c) + d
        if min_ ≤ carry then ask s carry else s.w (Reg.chsCARRY c) carry

/-- A channel of an ARMED proportional bank at a tick start: NO_CURRENT over the tick, its new I_SET, the rail-on test, and the
inserted calibration window (R278, R292, R296, R309). -/
def State.propTick (s : State) (c t0own : Nat) : State :=
  let b := c / 8
  let x := s.chan c
  let s0 := s.d2dTraffic
  let s1 := if x.periods = 0 then s0 else if x.allOver then s0.noCurrent c else s0.wChan c { x with curN := 0 }
  let dem : Nat := match s1.zoneOf c with
    | some z => s1.delivered z
    | none => 0
  let v := (roundHA (mkRat (dem * s1.r (Reg.chI_FULL c) : Nat) 10000)).toNat
  let off := !s.lowOn c
  let test := x.offTick && off && decide (s1.r (Reg.bdgDIAG_ENABLE b) = 1) && !s1.d2d.lost
  let y := s1.chan c
  let insert := decide (s1.r (Reg.bdgCAL_INSERT b) = 1 ∧ s1.r (Reg.chdCAL_OVERDUE c) = 1) && s1.pwr.calLeft.contains c
  s1.wChan c { y with
    iNext := y.iNext ++ [(v, t0own + 30400)], periods := 0, allOver := true, dutySat := false
    offTick := off && decide (v = 0 ∧ x.iSet = 0) && y.iNext.all fun e => decide (e.1 = 0)
    railOn := if test then some t0own else none, frozen := if insert then some t0own else y.frozen }

/-- LOAD_PCT of a bank, and BANK_OVERSUB once when it rises above 90 (R277). -/
def State.bankLoad (s : State) (b : Nat) : State :=
  let per := 10 * s.r Reg.opTICK_PERIOD
  let sum : Rat := (chansOf b).foldl (fun a c =>
    if (s.zoneOf c).isSome then a + mkRat (s.r (Reg.chT_FULL c)) (s.r (Reg.chEV_PERIOD c) * per) else a) 0
  let v := min 65535 (roundHA (100 * sum)).toNat
  let old := s.r (Reg.bstLOAD_PCT b)
  (s.w (Reg.bstLOAD_PCT b) v).when (decide (old ≤ 90 ∧ 90 < v)) fun t => t.event 0x0404 b v

/-! ## The tick (R24, R222) -/

/-- What the banks do at a tick start: arming, and following a lost or handed-over authority (R261, R262, R493, R497). -/
def State.tickBanks (s : State) : State :=
  let s1 := if s.pair.leaseSafe = 2 then s.dropAuthority
    else if s.pair.leaseSafe = 1 then { s with pair := { s.pair with leaseSafe := 2 } } else s
  let s2 := if s1.pair.handover = 1 then
      State.handoverYield (State.toFollow { s1 with pair := { s1.pair with handover := 2, handoverEpoch := s1.epoch + 1 } })
    else s1
  let s3 := s2.each bankNos fun b t =>
    let x := t.bank b
    if x.toArm ∧ t.domUp 18 ∧ t.domUp 19 then
      let y := if !t.auth then { x with toArm := false, test := none }
        else if t.r (Reg.bkBANK_TYPE b) = 2 then
          { x with toArm := false, hh := true, hsAt := t.up, hhAt := t.up, edgeAt := t.up, test := none, cal := none }
        else { x with toArm := false }
      (t.wBank b y).w (Reg.bkBANK_STATE b) (if t.auth then 4 else 3)
    else t
  s3.each bankNos fun b t => t.autoRearm b

/-- Breakpoints of kind 3 (R586). -/
def State.bpZones (s : State) (olds : Nat → Nat) : State :=
  s.each (List.range 8) fun k t =>
    let z := t.r (Reg.bpBP_UNIT k)
    let x := t.r (Reg.bpBP_X k)
    let v := t.r (Reg.bpBP_VALUE k)
    let hit := (decide (x = 1) && decide (t.r (Reg.zsZONE_STATE z) = v ∧ olds z ≠ v)) || (decide (x = 2) && decide (v ≤ t.r (Reg.zsDEMAND z))) ||
      (decide (x = 3) && decide (v ≤ t.r (Reg.zsSTALE_CNT z))) || (decide (x = 4) && t.rb (Reg.zsZONE_FLAGS z) 0)
    t.when (decide (t.r (Reg.bpBP_KIND k) = 3 ∧ z < 192) && hit) fun u => u.bpHit (u.bpAt k)

/-- The output record of a zone (R248). -/
def State.zoneRecord (s : State) (n z : Nat) : Bytes :=
  leBytes 8 n ++ leBytes 2 z ++ leBytes 1 (s.r (Reg.zsZONE_STATE z)) ++ leBytes 1 (s.r (Reg.zsZONE_FLAGS z)) ++
  leBytes 4 (s.r (Reg.zsNEWEST_SEQ z)) ++ leBytes 2 (s.r (Reg.zsPV z)) ++ leBytes 2 (s.r (Reg.zcSETPOINT z)) ++
  leBytes 2 (s.r (Reg.zsERROR z)) ++ leBytes 2 (s.r (Reg.zsU_FF z)) ++ leBytes 2 (s.r (Reg.zsDEMAND z)) ++
  leBytes 1 (s.r (Reg.zsSAFE_CAUSE z)) ++ leBytes 1 (s.r (Reg.zoCHANNEL z)) ++ leBytes 2 (s.r (Reg.zsSTALE_CNT z)) ++ leBytes 2 0

/-- Output records of a computed tick on the placed zone-record stream, and the bellwether's DEMANDS (R222, R248, R480). -/
def State.tickOut (s : State) (n : Nat) (computed : Bool) : State :=
  let zs := if computed then s.zonesRunning else []
  let body := (zs.map fun z => s.zoneRecord n z).flatten
  let s1 := if zs = [] then s
    else s.each (streamNos.filter fun x => s.xRuns x && decide (s.r (Reg.strmKIND x) = 4)) fun x t => t.xOffer x 0x21 zs.length (toWords body)
  if s1.pair.mode ∧ s1.auth then
    s1.toPartner (.demands s1.epoch n (zoneNos.map fun z => (s1.delivered z, s1.r (Reg.zsZONE_STATE z))))
  else s1

/-- A tick: number n, its start in ring and own time. -/
def State.tickAt (s : State) (i : TickIn) (n t0 t0own : Nat) : State :=
  let s0 := { s with tick := { next := n + 1, at_ := t0own, t0 := t0 } }
  let s1 := (s0.w Reg.opTICK_COUNT n).engines.diagClears.tickBanks.zoneClose
  let olds (z : Nat) : Nat := s1.r (Reg.zsZONE_STATE z)
  let s2 := s1.zonesTick t0 t0own i.late
  let s3 := s2.each i.rest fun e t =>
    t.when (decide (t.r (Reg.bkBANK_STATE (e.1 / 8)) = 4 ∧ t.r (Reg.bkBANK_TYPE (e.1 / 8)) = 2 ∧ 100 ≤ t.r (Reg.chsI_SET e.1))) fun u =>
      u.coil e.1 e.2 false
  let s4 := s3.each i.shs fun e t =>
    t.when (decide (t.r (Reg.bkBANK_STATE e.1) = 4 ∧ t.r (Reg.bkBANK_TYPE e.1) = 2 ∧
      100 * e.2 < t.r (Reg.bdgRAIL_RISE e.1) * t.r Reg.railVHOLD)) fun u => u.bankFault e.1 3
  let s5 := s4.each bankNos fun b t =>
    let u := if t.r (Reg.bkBANK_STATE b) = 4 ∧ t.domUp 17 then
        if t.r (Reg.bkBANK_TYPE b) = 1 then t.each (chansOf b) fun c u => u.schedule n c t0own
        else t.each (chansOf b) fun c u => u.propTick c t0own
      else t
    let v := u.when (u.calPending b) fun w => w.calTry b
    v.startTest b
  (s5.tickOut n (s5.zonesUp && decide (s5.r Reg.dbgZONES_HALTED = 0 ∨ s1.boot.stepTick))).bpZones olds

/-- Tick n = ring time / T_tick runs once, at the first TICK_START at or after its start (R24). -/
def State.tickRun (s : State) (i : TickIn) : State :=
  let per := 1000 * s.r Reg.opTICK_PERIOD
  let n := s.now / per
  if n < s.tick.next then s else s.tickAt i n (n * per) (s.up - (s.now - n * per))

/-- Meaning of TICK_START. -/
def execTickStart (dt : Nat) (i : TickIn) (s : State) : Host.Outcome State Fault Refusal := .next ((s.advance dt).tickRun i)

/-! ## Demands of the bellwether (R244, R480, R482) -/

/-- The bellwether's final demands of a tick wait for the zones' next tick (R244). -/
def State.takeDemands (s : State) (tick : Nat) (zs : List (Nat × Nat)) : State :=
  if s.auth then s
  else s.each zs.zipIdx fun e t => t.when (decide (e.2 < 192)) fun u => u.wZone e.2 { u.zone e.2 with bell := some (tick, e.1.1) }

/-- Meaning of DEMANDS. -/
def execDemands (dt : Nat) (m : PartnerMsg) (tick : Nat) (zs : List (Nat × Nat)) (s : State) : Host.Outcome State Fault Refusal :=
  .next ((s.advance dt).partnerIn m fun t => t.takeDemands tick zs)

end Sys2Proof.Machine
end

