-- ==== Sys2Proof/Machine/Store.lean ====
section
/-! DEFINITION. Block writes, the NVM controller's completions, the Tally mirror, the boot flash port, the shift engine, the
configuration image and the stored tables (R151-R153, R466-R471, R535-R562). -/

namespace Sys2Proof.Machine

/-! ## Block objects (R431, R446, R620, R621) -/

/-- Table t at a key, if the key is a radiometry table (R161). -/
def tableOf (key : Nat) : Option Nat := (List.range 40).find? fun t => decide (tabKey t 1 = key)

/-- Bytes of a BLOCK object that can be written. -/
def blockSize (key : Nat) : Nat :=
  match tableOf key with
  | some t => tabBytes t
  | none =>
    let idx := key / 256
    if idx = 0x1002 then 32
    else if 0x1110 ≤ idx ∧ idx ≤ 0x1117 then 128
    else if 0x3000 ≤ idx ∧ idx < 0x3100 then (if idx % 8 = 1 then 1024 else 4096)
    else if 0x3408 ≤ idx ∧ idx < 0x3480 then 4504
    else 0

/-- Must the object be written whole: a table of R161 or a map of R189 (R446)? -/
def wholeBlock (key : Nat) : Bool := (tableOf key).isSome || decide (0x3408 ≤ key / 256 ∧ key / 256 < 0x3480)

/-- The bytes of a writable block as it stands. -/
def State.blockNow (s : State) (key : Nat) : Bytes :=
  match tableOf key with
  | some t => s.newestTable t
  | none =>
    let idx := key / 256
    if 0x3000 ≤ idx ∧ idx < 0x3100 ∧ idx % 8 = 1 then s.skimCodes ((idx - 0x3000) / 8)
    else if 0x3408 ≤ idx ∧ idx < 0x3480 then s.blob key
    else padTo (blockSize key) (s.blob key)

/-- The checks of a block write in the order of R620. -/
def State.blockCheck (s : State) (o : Origin) (key off len : Nat) : Nat :=
  if !indexExists (key / 256) then 0x10
  else if key % 256 = 0 then (if !s.mayWrite o.src key then 0x18 else if s.staleEpoch o then 0x19 else 0x12)
  else match rowAt key with
    | none => 0x11
    | some row =>
      if !s.mayWrite o.src key then 0x18
      else if s.staleEpoch o then 0x19
      else if row.acc = .ro then 0x12
      else if row.ty ≠ .block then 0x21
      else if blockSize key < off + len ∨ (wholeBlock key ∧ (off ≠ 0 ∨ len ≠ blockSize key)) then 0x16
      else if row.acc = .rws ∧ !s.ownerStopped (key / 256) then 0x14
      else 0

/-- What follows a block write that returned OK: one entry, the partner, the breakpoints (R435, R465, R498). -/
def State.wroteBlock (s : State) (src key : Nat) (d : Bytes) : State :=
  let v := if key = Reg.lcOWNER_KEY then 0 else blockValue d
  ((s.tlyAdd src 3 key 0 0 v).forward src key 0 (s.blockNow key)).bpWrite key

/-- A block write by a command: the checks, then the status its chapter ends it with and what it leaves. -/
def State.blockBy (s : State) (o : Origin) (key off : Nat) (d : Bytes) (f : State → Nat × State) : State :=
  let st := s.blockCheck o key off d.length
  if st ≠ 0 then s.answer st 0
  else
    let (e, t) := f s
    if e = 0 then (t.wroteBlock o.src key d).answer 0 0 else t.answer e 0

/-- Meaning of TABLE_BLOCK_WRITE. -/
def execTableBlockWrite (dt : Nat) (t : Fin 40) (o : Origin) (offset : Nat) (data : Bytes) (s : State) : Host.Outcome State Fault Refusal :=
  .next ((s.advance dt).blockBy o (tabKey t 1) offset data fun u => u.tableWrite t offset data)

/-! ## The journal's mark (R466, R468) -/

/-- Number held entries while the mark allows it; n bounds the rounds. -/
def State.tlyRelease (s : State) : Nat → State
  | 0 => s
  | n + 1 => match s.tly.held with
    | [] => s
    | e :: q =>
      if s.r Reg.tlyNEXT_SEQ < s.r Reg.tlyHWM then State.tlyRelease (State.tlyNumber { s with tly := { s.tly with held := q } } e) n
      else s

/-- What waits is numbered, an OVERRUN entry is made for those that were not made, and the mark is moved on where that is due. -/
def State.tlyGoOn (s : State) : State :=
  let s2 := s.tlyRelease 4097
  let s3 := if s2.tly.owed = 0 then s2
    else State.tlyPut { s2 with tly := { s2.tly with owed := 0 } }
      ⟨0, s2.epoch, 0x42, 10, Reg.tlyOVERRUN / 256, Reg.tlyOVERRUN % 256, 0, 0, s2.tly.owed, s2.now⟩
  if s3.r Reg.tlyHWM ≤ s3.r Reg.tlyNEXT_SEQ + 2048 ∧ !s3.tly.hwmBusy then s3.hwmStore (s3.r Reg.tlyHWM + 1024) else s3

/-- A new mark is stored: entries go on, unless START is still to come. -/
def State.hwmStored (s : State) (v : Nat) : State :=
  let t := State.w { s with tly := { s.tly with hwmBusy := false } } Reg.tlyHWM v
  if t.tly.awaits then t else t.tlyGoOn

/-! ## The mirror (R470, R471) -/

/-- A mirror page. -/
def mirrorPage (gen : Nat) (es : List TEntry) : Bytes :=
  let h := leBytes 4 (match es with | e :: _ => e.seq | [] => 0) ++ leBytes 1 es.length ++ leBytes 3 0 ++ leBytes 4 gen ++ List.replicate 16 0
  let b := padTo 224 (es.map TEntry.bytes).flatten
  h ++ leBytes 4 (crc32 (h ++ b)) ++ b

/-- Write the newest waiting entries, joined to the open page where it has room for them. -/
def State.mirrorNow (s : State) : State :=
  let w := s.tly.waiting.map (·.2)
  if w = [] then s
  else
    let joined := decide (s.tly.open_.length + w.length ≤ 7)
    let es := if joined then s.tly.open_ ++ w else w.drop (w.length - 7)
    let last := match es.getLast? with | some e => e.seq | none => 0
    let s1 := s.add32 Reg.tlyMIRROR_SKIP (w.length - 7)
    let g := s1.tly.pageGen
    let s2 := { s1 with tly := { s1.tly with
      waiting := [], open_ := if es.length < 7 then es else [], pageGen := g + 1, lastMirror := some s1.up } }
    s2.nvmOps 4 [.page (128 + g % 40) (mirrorPage g es)] (.mirror last)

/-- MIRROR_WRITE: due 100 ms after the oldest waiting entry or with 7 of them, and 100 ms after the write before. -/
def State.mirrorDue (s : State) : State :=
  let old := match s.tly.waiting with
    | (t, _) :: _ => s.since t 100000000
    | [] => false
  let gap := match s.tly.lastMirror with
    | some t => s.since t 100000000
    | none => true
  if (old || decide (7 ≤ s.tly.waiting.length)) && gap then s.mirrorNow else s

/-- Meaning of MIRROR_WRITE. -/
def execMirrorWrite (dt : Nat) (s : State) : Host.Outcome State Fault Refusal := .next (s.advance dt).mirrorDue

/-! ## NVM operations end (R535, R545-R547) -/

/-- Apply the increments that waited for a roll-over. -/
def State.spreadWaiting (s : State) (c : Nat) : Nat → State
  | 0 => s
  | n + 1 => State.spreadWaiting (s.spreadInc c) c n

/-- Has step 2 of a life-cycle transition ended (R576)? -/
def State.userWiped (s : State) : Bool :=
  let part (j : NvmJob) : Bool := j.fin.contains .lcPart
  s.fac.wipePending && !(s.nvm.queue.any part) && !(s.nvm.cur.any fun e => e.2.any part) && !(s.flash.jobs.any fun j => j.for_ = .lifeCycle)

/-- Step 3 of a life-cycle transition: WIPE_PENDING is cleared by a cell program. -/
def State.lcThree (s : State) : State := if s.userWiped then s.nvmOps 0 [.cell 7 []] .lcDone else s

/-- Step 4: a wiping reset with cause 6. -/
def State.lcFour (s : State) : State :=
  State.wipe (State.actDone { s with fac := { s.fac with wipePending := false } } Reg.lcLC_REQ 0 true) 6

/-- What the end of a job brings about; a step of a roll-over that a newer one has overtaken brings about nothing. -/
def State.nvmFinish (s : State) (d : NvmDone) : State :=
  match d with
  | .none => s
  | .hwm v => s.hwmStored v
  | .epoch e => s.epochStored e
  | .mirror q => s.w Reg.tlyMIRROR_SEQ q
  | .lcPart => s.lcThree
  | .lcDone => s.lcFour
  | .spreadStep c =>
    let x := s.spread c
    let y := { x with cells := x.cells + 1 }
    if 2048 ≤ y.cells ∧ !x.rolling then (s.wSpread c y).spreadRoll c (y.base + 2048) else s.wSpread c y
  | .rollShadow c g =>
    if (s.spread c).gen = g then s.nvmOps 3 [.page (80 + c) (List.replicate 256 0xFF)] (.rollStep c g) else s
  | .rollStep c g =>
    let x := s.spread c
    if x.gen = g then (s.wSpread c { x with cells := 0, cleared := g }).spreadShadow c (.rollDone c g) else s
  | .rollDone c g =>
    let x := s.spread c
    if x.gen = g then (s.wSpread c { x with rolling := false, wait := 0 }).spreadWaiting c x.wait else s

/-- The operation that bank b runs has ended, if it is a cell program or a page write as asked: the job goes on, to copy B only once
copy A reads back as written (R541), or its end takes effect, and the bank takes its next operation. -/
def State.nvmEnd (s : State) (b : Nat) (cell : Bool) : State :=
  match tget none s.nvm.cur b with
  | none => s
  | some j => match j.ops with
    | [] => s
    | o :: rest =>
      let isCell := match o with
        | .cell _ _ => true
        | .page _ _ => false
      if isCell ≠ cell then s
      else
        let n := s.nvm
        let n1 := { n with cells := o.apply n.cells, cur := tset none n.cur b none }
        let k := { j with ops := rest }
        let n2 := if rest = [] then n1 else { n1 with queue := { k with ops := k.again n1 ++ rest } :: n1.queue }
        let s1 := State.nvmPublish { s with nvm := n2.kick }
        if rest = [] then s1.each j.fin fun d t => t.nvmFinish d else s1

/-- Meaning of NVM_WRITE_DONE. -/
def execNvmWriteDone (dt : Nat) (bank : Fin 4) (s : State) : Host.Outcome State Fault Refusal := .next ((s.advance dt).nvmEnd bank false)

/-- Meaning of NVM_PROGRAM_DONE. -/
def execNvmProgramDone (dt : Nat) (bank : Fin 4) (s : State) : Host.Outcome State Fault Refusal := .next ((s.advance dt).nvmEnd bank true)

/-! ## The configuration image (R557, R558, R562) -/

/-- An image entry. -/
def imgEntry (key n : Nat) (v : Bytes) : Bytes :=
  leBytes 2 (key / 256) ++ leBytes 1 (key % 256) ++ leBytes 1 0 ++ leBytes 2 n ++ leBytes 2 0 ++ padTo ((n + 3) / 4 * 4) v

/-- The rows of an index in the dictionary. -/
def indexRows (idx : Nat) : List ObjRow := match findGroup idx objGroups with
  | some (g, _) => g.rows
  | none => []

/-- Does an image hold the object? -/
def State.inImage (s : State) (key : Nat) (r : ObjRow) : Bool :=
  (r.acc = .rw || r.acc = .rws) && !keptKeys.contains key && (tableOf key).isNone &&
  !((List.range 32).any fun h => decide (key = Reg.hsBIAS h) && !(s.hd h).biasSet)

/-- The entries of one access class in ascending order of object. -/
def State.imgPart (s : State) (acc : Acc) : Bytes :=
  ((List.range 0x4F00).map fun j =>
    let idx := 0x1100 + j
    ((indexRows idx).map fun r =>
      let key := 256 * idx + r.sub
      if r.acc = acc ∧ s.inImage key r then
        if r.ty = .block then imgEntry key (s.blockNow key).length (s.blockNow key)
        else imgEntry key r.ty.size (leBytes r.ty.size (s.r key))
      else []).flatten).flatten

/-- The entries of the image that CONFIG_SAVE captures: first the RWS objects, then the RW ones, so that a block's settings are loaded
before the object that starts it (DESIGN CHOICE, assumption 43: the spec gives no order). -/
def State.imgBody (s : State) : Bytes := s.imgPart .rws ++ s.imgPart .rw

/-- An image with its header. -/
def imgBytes (seq : Nat) (body : Bytes) : Bytes :=
  let h := leBytes 4 seq ++ leBytes 4 body.length ++ leBytes 2 1 ++ leBytes 2 0
  h ++ leBytes 4 (crc32 (h ++ body)) ++ body

/-- CONFIG_SAVE. -/
def State.configSave (s : State) : State :=
  let body := s.imgBody
  if 0x100000 < body.length + 16 then s.actDone Reg.cfgCONFIG_SAVE 2 false
  else
    let seq := tget 0 s.flash.storeSeq 40 + 1
    let img := imgBytes seq body
    (State.flashJob { s with flash := { s.flash with storeSeq := tset 0 s.flash.storeSeq 40 seq } } (imageJob .configA 0 img)).flashJob
      (imageJob .configB 1 img)

/-- Meaning of CONFIG_SAVE. -/
def execConfigSave (dt : Nat) (o : Origin) (v : Nat) (s : State) : Host.Outcome State Fault Refusal :=
  .next ((s.advance dt).actBy o Reg.cfgCONFIG_SAVE v State.configSave)

/-- CONFIG_CLEAR. -/
def State.configClear (s : State) : State := (s.flashJob (imageJob .clearA 0 [])).flashJob (imageJob .clearB 1 [])

/-- Meaning of CONFIG_CLEAR. -/
def execConfigClear (dt : Nat) (o : Origin) (v : Nat) (s : State) : Host.Outcome State Fault Refusal :=
  .next ((s.advance dt).actBy o Reg.cfgCONFIG_CLEAR v State.configClear)

/-! ## The flash port (R553, R557, R559) -/

/-- A copy that is not valid is written again from the other one. -/
def State.imageRepair (s : State) (c : Nat) : State :=
  match s.image (1 - c) with
  | some (q, e) => s.flashJob (imageJob .repair c (imgBytes q e))
  | none => s

/-- A job has ended. -/
def State.flashDone (s : State) (f : FlashFor) (ok : Bool) : State :=
  let drop (g : FlashFor) : State := { s with flash := { s.flash with jobs := s.flash.jobs.filter fun j => j.for_ ≠ g } }
  match f with
  | .configA => if ok then s else (State.imageRepair (drop .configB) 0).actDone Reg.cfgCONFIG_SAVE 1 false
  | .configB => if ok then s.actDone Reg.cfgCONFIG_SAVE 0 true else (s.imageRepair 1).actDone Reg.cfgCONFIG_SAVE 1 false
  | .clearA => if ok then s else (drop .clearB).actDone Reg.cfgCONFIG_CLEAR 1 false
  | .clearB => s.actDone Reg.cfgCONFIG_CLEAR (b2n (!ok)) ok
  | .lifeCycle => s.lcThree
  | _ => s

/-- One operation has ended well, or has failed with FLASH_FAULT and takes its job with it. -/
def State.flashEnd (s : State) (ok : Bool) : State :=
  match s.flash.jobs with
  | [] => { s with flash := { s.flash with pollSince := none } }
  | j :: q => match j.ops with
    | [] => State.flashKick { s with flash := { s.flash with jobs := q, pollSince := none } }
    | op :: rest =>
      let stall := (s.up - s.flash.pollSince.getD s.up) / 1000
      let s1 := s.w Reg.flSTALL_MAX (max (s.r Reg.flSTALL_MAX) (min 0xFFFFFFFF stall))
      let x := s1.flash
      let s2 := if s1.flash.shift.isSome then { s1 with flash := { x with shiftAt := s1.up } } else s1
      let y := s2.flash
      if ok then
        let c := op.apply y.cells
        if rest = [] then State.flashKick (State.flashDone { s2 with flash := { y with cells := c, jobs := q, pollSince := none } } j.for_ true)
        else State.flashKick { s2 with flash := { y with cells := c, jobs := { j with ops := rest } :: q, pollSince := none } }
      else
        let s3 := ({ s2 with flash := { y with jobs := q, pollSince := none } }).bump Reg.flFLASH_FAULTS
        ((s3.event 0x0604 op.cmd.1 op.cmd.2).flashDone j.for_ false).flashKick

/-- FLASH_POLL: the status is clear, or has been busy for longer than the operation may take (R553). -/
def State.flashPoll (s : State) (busy : Bool) : State :=
  match s.flash.pollSince, s.flash.jobs with
  | some t, j :: _ =>
    let lim := match j.ops with
      | op :: _ => op.limit
      | [] => 0
    if !busy then s.flashEnd true else if t + lim < s.up then s.flashEnd false else s
  | _, _ => s

/-- Meaning of FLASH_POLL. -/
def execFlashPoll (dt : Nat) (busy : Bool) (s : State) : Host.Outcome State Fault Refusal := .next ((s.advance dt).flashPoll busy)

/-! ## Select lines and the shift engine (R554-R556) -/

/-- The SCK period, ns (R552). -/
def State.sckNs (s : State) : Nat := 5 * s.flash.div

/-- Clocks a running shift has given by now. -/
def State.clocksGiven (s : State) (bits_ : Nat) : Nat :=
  let p := s.sckNs
  if p = 0 then 0 else min bits_ ((s.up - s.flash.shiftAt - 2 * p + p - 1) / p)

/-- A running shift ends with its select: SPI_RX is cleared and the result tells the clocks given. -/
def State.shiftAbort (s : State) (code : Nat) : State :=
  match s.flash.shift with
  | some (n, _) =>
    let c := if s.flash.pollSince.isSome then 0 else s.clocksGiven n
    (({ s with flash := { s.flash with shift := none } }).w Reg.spiSPI_RX 0).actDone Reg.spiSPI_GO (code + 256 * c) false
  | none => s

/-- The host's select line is released; the window's writes go on. -/
def State.spiRelease (s : State) (code : Nat) : State :=
  let s1 := s.shiftAbort code
  State.flashKick { s1 with flash := { s1.flash with selSince := none } }

/-- Number of asserted select lines of a value. -/
def selCount (v : Nat) : Nat := b2n (bit 1 v) + b2n (bit 2 v) + b2n (bit 3 v)

/-- A write of SPI_SEL (R554): `old` is the value before it. -/
def State.spiSelect (s : State) (old v : Nat) : Nat ⊕ State :=
  if 16 ≤ v ∨ bit 0 v ∨ 1 < selCount v ∨ (bits 3 1 old ≠ 0 ∧ bits 3 1 v ≠ 0 ∧ old ≠ v) then .inl 0x15
  else if v = old then .inr s
  else if v = 0 then .inr (s.spiRelease 1)
  else .inr { s with flash := { s.flash with selSince := some s.up } }

/-- Meaning of SPI_SEL. -/
def execSpiSel (dt : Nat) (o : Origin) (v : Nat) (s : State) : Host.Outcome State Fault Refusal :=
  .next ((s.advance dt).writeBy o Reg.spiSPI_SEL v true fun t => t.spiSelect (s.r Reg.spiSPI_SEL) v)

/-- A select held for 10 ms is released by the device (R554). -/
def State.selTimeout (s : State) : State :=
  match s.flash.selSince with
  | some t =>
    if s.since t 10000000 then
      let v := s.r Reg.spiSPI_SEL
      let line := if bit 1 v then 1 else if bit 2 v then 2 else 3
      let s1 := if s.flash.shift.isSome then s.spiRelease 3 else (s.spiRelease 3).w Reg.spiSPI_RESULT 3
      (s1.w Reg.spiSPI_SEL 0).event 0x0605 line 0
    else s
  | none => s

/-- Meaning of SEL_TIMEOUT. -/
def execSelTimeout (dt : Nat) (s : State) : Host.Outcome State Fault Refusal := .next (s.advance dt).selTimeout

/-- SPI_GO (R555). -/
def State.spiGo (s : State) : State :=
  if s.flash.selSince.isNone then s.actDone Reg.spiSPI_GO 2 false
  else
    let n := s.r Reg.spiSPI_BITS
    { s with flash := { s.flash with shift := some (n, s.r Reg.spiSPI_TX % 2 ^ n), shiftAt := s.up } }

/-- Meaning of SPI_GO. -/
def execSpiGo (dt : Nat) (o : Origin) (v : Nat) (s : State) : Host.Outcome State Fault Refusal :=
  .next ((s.advance dt).actBy o Reg.spiSPI_GO v State.spiGo)

/-- All clocks have been given: MISO into SPI_RX. -/
def State.shiftDone (s : State) (miso : Nat) : State :=
  match s.flash.shift with
  | some (n, _) =>
    if s.flash.pollSince.isNone ∧ s.since s.flash.shiftAt ((n + 2) * s.sckNs) then
      (({ s with flash := { s.flash with shift := none } }).w Reg.spiSPI_RX (miso % 2 ^ n)).actDone Reg.spiSPI_GO (256 * n) true
    else s
  | none => s

/-- Meaning of SPI_SHIFT_DONE. -/
def execSpiShiftDone (dt : Nat) (miso : Nat) (s : State) : Host.Outcome State Fault Refusal := .next ((s.advance dt).shiftDone miso)

end Sys2Proof.Machine
end

