-- ==== Sys2Proof/Machine/Power.lean ====
section
/-! DEFINITION. Power domains, device states, the orderly stop and the start of a self-calibration run (R505-R512, R524-R530). -/

namespace Sys2Proof.Machine

/-! ## Self-calibration (R529, R530) -/

/-- Channels that a run calibrates. -/
def State.calChans (s : State) : List Nat := (List.range 192).filter fun n => decide (s.r (Reg.bkBANK_TYPE (n / 8)) ≠ 0)

/-- The sensors are trimmed: what a trim measures, as its difference from the factory trim, is open; one of more than 3.0 °C is rejected
with TS_FAULT, and the sensor keeps its previous trim. -/
def State.trims (s : State) : State :=
  s.each (List.range 16) fun k t =>
    let d := sgn 16 t.freeNat
    let u := t.used
    if 30 < d.natAbs then u.event 0x0507 k (enc2 32 d) else { u with pwr := { u.pwr with trims := tset 0 u.pwr.trims k d } }

/-- A run starts for a cause: 0 PD19 up, 1 temperature, 2 explicit. The channels wait for PD19 where it is down (R15, R309). -/
def State.calStart (s : State) (cause : Nat) : State :=
  if s.r Reg.calCAL_STATE = 1 then s
  else
    let s1 := (s.wAll [(Reg.calCAL_STATE, 1), (Reg.calCAL_CAUSE, cause), (Reg.calCAL_REF_T, s.r Reg.tsA_DIE_MEAN)]).trims
    let l := s1.calChans
    let s2 := { s1 with pwr := { s1.pwr with calLeft := l } }
    let s3 := s2.each l fun n t => t.wChan n { t.chan n with calSince := t.up }
    (s3.each (bankNos.filter s3.calPending) fun b t => (t.dropTest b).calTry b).calFinish

/-- CAL_NOW. -/
def State.calNow (s : State) : State :=
  if s.r Reg.calCAL_STATE = 1 then s.actDone Reg.calCAL_NOW 1 false else s.calStart 2

/-- Meaning of CAL_NOW. -/
def execCalNow (dt : Nat) (o : Origin) (v : Nat) (s : State) : Host.Outcome State Fault Refusal :=
  .next ((s.advance dt).actBy o Reg.calCAL_NOW v State.calNow)

/-! ## Domains (R505-R508) -/

/-- The state whose domains are needed: the one held, or the one a transition is on its way to. -/
def State.powState (s : State) : Nat :=
  let d := s.r Reg.opDEVICE_STATE
  match s.pwr.target with
  | some t => if d = 1 ∧ 2 ≤ t then 2 else if d = 2 ∧ t = 3 then 3 else d
  | none => d

/-- Is any bank configured? -/
def State.anyBank (s : State) : Bool := bankNos.any fun b => decide (s.r (Reg.bkBANK_TYPE b) ≠ 0)

/-- Lanes of a domain (R505). -/
def domLanes (k : Nat) : List Nat :=
  if k = 4 then (List.range 8).map (88 + ·)
  else if 5 ≤ k ∧ k ≤ 8 then (List.range 8).map (8 * (k - 5) + ·)
  else if k = 9 ∨ k = 10 then (List.range 24).map (32 + 24 * (k - 9) + ·)
  else []

/-- Is a domain needed (R505, R508, R525, R528, R571)? -/
def State.domNeeded (s : State) (k : Nat) : Bool :=
  let ps := s.powState
  if s.pwr.cutoff then decide (k = 0)
  else if k ≤ 3 then true
  else if ps = stSTOPPING then s.domUp k && !s.pwr.stopOver
  else if k = 4 then s.pair.mode || (List.range 4).any fun a => decide (s.r (Reg.auxAUX_MODE a) ≠ 0)
  else if 11 ≤ k ∧ k ≤ 14 then
    (decide (2 ≤ ps) || !s.boot.arrived) &&
      (decide (s.r Reg.memMEM_STATE = 1) || (List.range 4).any fun i => s.rb Reg.memIN_SERVICE (4 * (k - 11) + i))
  else if ps < 2 then false
  else if k ≤ 8 then s.domUp k || (domLanes k).any fun l => (s.lane l).signal
  else if k ≤ 10 then streamNos.any fun x =>
    decide (s.r (Reg.strmKIND x) ≠ 0 ∧ s.r (Reg.strmPLACED_GROUP x) ≠ 0xFF ∧ s.r (Reg.strmPLACED_GROUP x) / 6 = k - 9)
  else if k = 15 then decide (s.shep.segs ≠ [] ∨ s.shep.bands ≠ [])
  else if k = 16 then decide (ps = 3) && stations.any fun st => decide (s.r (Reg.stRUN st) = 1)
  else if k = 17 then decide (ps = 3) && (s.anyBank || zoneNos.any fun z => decide (s.r (Reg.zbZONE_RUN z) ≠ 0))
  else s.anyBank

/-- A bank's circuits get power: OFF ends (R259). -/
def State.bankOn (s : State) (b : Nat) : State :=
  if s.r (Reg.bkBANK_STATE b) = 0 then
    let new := restState (s.r (Reg.bkSTOP_CAUSE b))
    (s.w (Reg.bkBANK_STATE b) new).when (decide (new = 2)) fun t => t.bump (Reg.bstSTOPS b)
  else s

/-- A bank's circuits lose power: OFF. -/
def State.bankOffAll (s : State) (b : Nat) : State :=
  let s1 := (s.hardReact b).leaveArmed b
  (s1.wBank b { s1.bank b with toArm := false, rearm := false, test := none, cal := none, cd := none }).w (Reg.bkBANK_STATE b) 0

/-- The fast clock a domain runs on (R513): 0 pipeline, 1 DRAM PHY, 2 web and zone, 3 non-ring lanes. -/
def domClocks (k : Nat) : List Nat :=
  if k = 4 ∨ k = 9 ∨ k = 10 then [3]
  else if 5 ≤ k ∧ k ≤ 8 then [0, 3]
  else if 11 ≤ k ∧ k ≤ 14 then [1]
  else if k = 16 ∨ k = 17 then [2]
  else []

/-- The fast clocks start with a state transition or a domain power-up that needs them, run in READY and RUN, and stop once no domain of
theirs is up (R509, R512, R513, R525). -/
def State.fastClocks (s : State) : State :=
  let on := !s.pwr.stopOver && (decide (2 ≤ s.r Reg.opDEVICE_STATE) || s.pwr.target.isSome)
  let need (j : Nat) : Bool := on || (List.range 20).any fun k => (domClocks k).contains j && (s.domUp k || decide (s.pwr.closing = some k))
  { s with pwr := { s.pwr with fast := (List.range 4).foldl (fun m j => setBit j (need j) m) 0 } }

/-- What a domain that has become usable brings about. -/
def State.domOn (s : State) (k : Nat) : State :=
  let s1 := s.wb Reg.thmDOMAINS_UP k true
  if k = 4 then
    let s2 := s1.when s1.pair.mode fun t => t.each [88, 89, 90, 91] fun l u => u.stageA l
    s2.each [92, 93, 94, 95] fun l t => t.auxStart l
  else if 5 ≤ k ∧ k ≤ 10 then s1.each (domLanes k) fun l t => t.stageA l
  else if k = 18 then { s1 with d2d := { s1.d2d with lastRx := s1.up, hbSince := none } }
  else if k = 19 then
    let s2 := State.calStart (s1.each bankNos fun b t => t.bankOn b) 0
    s2.each (bankNos.filter s2.calPending) fun b t => t.calTry b
  else s1

/-- A zone's state ends as at ZONE_RUN 0; it starts again at the next tick if it still runs (R237, R510). -/
def State.zonesEnd (s : State) : State :=
  s.each (zoneNos.filter fun z => decide (s.r (Reg.zsZONE_STATE z) ≠ 0)) fun z t => t.zoneOff z

/-- What a domain going down brings about. -/
def State.domOff (s : State) (k : Nat) : State :=
  let s0 := s.wb Reg.thmDOMAINS_UP k false
  let s1 := (if (4 ≤ k ∧ k ≤ 10) then s0.each (domLanes k) fun l t => t.laneOff l else s0).fastClocks
  if k = 9 ∨ k = 10 then
    let xs := (List.range 6).map fun i => 6 * (k - 9) + i
    { s1 with xp := { s1.xp with
      queue := tkeep (fun g => !xs.contains g) s1.xp.queue, onLane := tkeep (fun x => !xs.contains (x / 4)) s1.xp.onLane
      out := tkeep (fun x => !xs.contains (x / 4)) s1.xp.out, upSince := tkeep (fun x => !xs.contains (x / 4)) s1.xp.upSince } }
  else if k = 15 then { s1 with mem := { s1.mem with pool := [], poolSet := [] } }
  else if k = 16 then s1.each stations fun st t => t.stStop st
  else if k = 17 then s1.zonesEnd
  else if k = 18 then { s1 with d2d := { s1.d2d with hbSince := none } }
  else if k = 19 then s1.each bankNos fun b t => t.bankOffAll b
  else s1

/-- Domains that are up and no longer needed go down. -/
def State.domDrop (s : State) : State :=
  s.each ((List.range 20).filter fun k => s.domUp k && !s.domNeeded k) fun k t => t.domOff k

/-- The domain whose switch closed last is usable, 20 µs later; one that is no longer needed is not powered on (R506). -/
def State.domUsable (s : State) : State :=
  match s.pwr.closing with
  | some k =>
    if !s.since s.pwr.switchAt 20000 then s
    else
      let s1 := { s with pwr := { s.pwr with closing := none } }
      if s1.domNeeded k && !s1.domUp k then s1.domOn k else s1
  | none => s

/-- The always-on block closes the next needed switch, 20 µs after the last one (R506). -/
def State.domNext (s0 : State) : State :=
  let s := s0.domUsable
  match (List.range 20).find? fun k => s.domNeeded k && !s.domUp k with
  | some k =>
    if s.pwr.closing = none ∧ s.since s.pwr.switchAt 20000 then
      State.fastClocks { s with pwr := { s.pwr with switchAt := s.up, closing := some k } }
    else s
  | none => s.fastClocks

/-! ## Device states (R509-R512, R461) -/

/-- A wake, or any other transition, has reached its end. -/
def State.arrive (s : State) : State :=
  let s1 := { s with pwr := { s.pwr with target := none } }
  s1.actDone Reg.opSTATE_REQ (256 * s1.r Reg.opDEVICE_STATE) true

/-- Entry to RUN: stations and zones start (R510). -/
def State.enterRun (s : State) : State :=
  let s1 := (s.w Reg.opDEVICE_STATE stRUN).zonesEnd
  s1.each (stations.filter fun st => decide (s.r (Reg.stRUN st) = 1)) fun st t => (t.stStart st).stationEnters st

/-- RUN to READY: nothing is computed any more; PD16 and PD17 go down. -/
def State.leaveRun (s : State) : State :=
  let s1 := (s.w Reg.opDEVICE_STATE stREADY).zonesEnd
  (s1.each stations fun st t => t.stStop st).domDrop

/-- READY to STANDBY: heads are sent STREAM stop, DRAM goes into self-refresh, the domains and with them the fast clocks go down
(R511-R513). -/
def State.sleep (s : State) : State :=
  let s1 := s.each headNos fun h t =>
    let t1 := if t.laneUp h ∧ !t.follower then (t.wHd h { t.hd h with cmd := none, queue := [] }).stream h 0 else t
    t1.when (decide (tget 8 t1.shep.segs h ≠ 8)) fun u => u.wHd h { u.hd h with lastFull := none }
  (((s1.w Reg.opDEVICE_STATE stSTANDBY).when (decide (s1.r Reg.memMEM_STATE = 3)) fun t => t.w Reg.memMEM_STATE 4).domDrop).fastClocks

/-- Is a head still on its way in the wake of R512? -/
def State.headWaking (s : State) (h : Nat) : Bool :=
  decide ((s.hd h).step ≠ 0) ||
  (s.domUp (5 + h / 8) && decide (1 ≤ s.laneState h ∧ s.laneState h ≤ 3 ∧ (s.lane h).fails = 0))

/-- Are the domains up that the state needs? -/
def State.domsUp (s : State) : Bool := (List.range 20).all fun k => !s.domNeeded k || s.domUp k

/-- Is the memory through the wake: out of self-refresh, no retrain waiting or running (R512 steps 4 and 6)? -/
def State.memAwake (s : State) : Bool :=
  decide (s.r Reg.memMEM_STATE ≠ 4) && (List.range 16).all fun d => decide ((tget {} s.mem.subs d).retrain = 0)

/-- Has the wake of R512 ended: domains up, retrains done, and every head through its attach? -/
def State.wakeDone (s : State) : Bool := s.domsUp && s.memAwake && headNos.all fun h => !s.headWaking h

/-- Heads that wait at step 9 for the retrains go on once these are done (R512). -/
def State.nineGo (s : State) : State :=
  if s.memAwake then
    s.each headNos fun h t => t.when (decide ((t.hd h).step = 11)) fun u => u.attachNine h
  else s

/-! ## Retrains: who waits, who runs (R351) -/

/-- A subchannel's controller. -/
def State.subCh (s : State) (d : Nat) : SubCh := tget ({} : SubCh) s.mem.subs d

/-- Replace it. -/
def State.wSubCh (s : State) (d : Nat) (x : SubCh) : State := { s with mem := { s.mem with subs := tset ({} : SubCh) s.mem.subs d x } }

/-- The lowest subchannel that waits starts when no retrain runs; a failed one is trained in full (R351, R355). -/
def State.retrainNext (s : State) : State :=
  if (List.range 16).any fun d => decide (2 ≤ (s.subCh d).retrain) then s
  else match (List.range 16).find? fun d => decide ((s.subCh d).retrain = 1) with
    | some d =>
      let x := { s.subCh d with slices := 0, sweeps := [] }
      if s.rb Reg.memFAILED d then s.wSubCh d { x with retrain := 3 }
      else (s.wSubCh d { x with retrain := 2 }).w (Reg.subSUB_STATE d) 2
    | none => s

/-- A trigger for a tracking retrain adds nothing while the subchannel waits or retrains. -/
def State.retrainAsk (s : State) (d : Nat) : State :=
  if (s.subCh d).retrain ≠ 0 ∨ !s.rb Reg.memIN_SERVICE d then s
  else ((s.wSubCh d { s.subCh d with retrain := 1 }).w (Reg.subSUB_STATE d) 3).retrainNext

/-- The DRAM runs: refreshes become due from here on, and a scrub pass begins (log 104, 108). -/
def State.memStart (s : State) : State :=
  State.each { s.w Reg.memMEM_STATE 3 with mem := { s.mem with scrubFrom := s.up, scrubCount := 0, scrubUe := [] } } (List.range 16)
    fun d u => u.wSubCh d { u.subCh d with refreshAt := u.up, scrubAt := 0 }

/-- The DRAM leaves self-refresh and every subchannel in service is retrained, once the domains that a wake needs are up (R512 steps 3
and 4). -/
def State.memWake (s : State) : State :=
  if s.r Reg.memMEM_STATE = 4 ∧ s.r Reg.opDEVICE_STATE = stSTANDBY ∧ s.pwr.target.any (fun t => decide (2 ≤ t)) ∧ s.domsUp then
    s.memStart.each (List.range 16) fun d u => u.retrainAsk d
  else s

/-- Transitions whose end has come. -/
def State.stateSettle (s0 : State) : State :=
  let s := s0.memWake.nineGo
  match s.pwr.target with
  | none => s
  | some t =>
    let s1 := if s.r Reg.opDEVICE_STATE = stSTANDBY ∧ 2 ≤ t ∧ s.wakeDone then s.w Reg.opDEVICE_STATE stREADY else s
    let d := s1.r Reg.opDEVICE_STATE
    if d = stREADY ∧ t = 2 then s1.arrive
    else if d = stREADY ∧ t = 3 ∧ [16, 17].all (fun k => !s1.domNeeded k || s1.domUp k) then s1.enterRun.arrive
    else if d = stRUN ∧ 2 ≤ t then s1.arrive
    else s1

/-- The wake of R512 begins: the request stands and the fast clocks start (steps 1 and 2). -/
def State.wake (s : State) (t : Nat) : State := State.stateSettle (State.fastClocks { s with pwr := { s.pwr with target := some t } })

/-- STATE_REQ with a value (R511). -/
def State.stateRun (s : State) (v : Nat) : State :=
  let d := s.r Reg.opDEVICE_STATE
  let no (code : Nat) : State := s.actDone Reg.opSTATE_REQ (code + 256 * d) false
  if d = stSTOPPING then no 2
  else if v < 1 ∨ 3 < v then no 1
  else if v = d then s.actDone Reg.opSTATE_REQ (256 * d) true
  else if d = stSTANDBY then (if s.inService < 8 then no 2 else s.wake v)
  else if d = stREADY then
    if v = 3 then State.stateSettle { s with pwr := { s.pwr with target := some 3 } } else s.sleep.arrive
  else if bankNos.any s.bankRuns then no 2
  else if v = 2 then s.leaveRun.arrive else s.leaveRun.sleep.arrive

/-- Since when all eight lanes of a quadrant have been LINK_ABSENT, if they are: the retries of R375, which find no partner, do not end
that (R508, assumption 108). -/
def State.quadAbsent (s : State) (q : Nat) : Option Nat :=
  let ls := domLanes (5 + q)
  if ls.all fun l => (s.lane l).absentAt.isSome && decide (s.laneState l = 6 ∨ s.laneState l = 1) then
    some (ls.foldl (fun m l => max m ((s.lane l).absentAt.getD 0)) 0)
  else none

/-- A quadrant whose lanes have been LINK_ABSENT for 10 s goes down (R508). -/
def State.quadIdle (s : State) (q : Nat) : State :=
  match s.quadAbsent q with
  | some t => if s.domUp (5 + q) ∧ s.since t 10000000000 then s.domOff (5 + q) else s
  | none => s

/-- Meaning of QUADRANT_IDLE. -/
def execQuadrantIdle (dt : Nat) (q : Fin 4) (s : State) : Host.Outcome State Fault Refusal := .next ((s.advance dt).quadIdle q)

/-! ## The orderly stop (R524-R527) -/

/-- STOPPING is entered: the cause and its time are stored, a waiting STATE_REQ ends refused, and every zone has the safe cause
ORDERLY_STOP (R241). -/
def State.stopEnter (s : State) (cause : Nat) : State :=
  let s0 := s.each zoneNos fun z t => t.wb (Reg.zsSAFE_CAUSE z) 1 true
  let s1 := { s0 with pwr := { s0.pwr with stopAt := some s0.up, stopOver := false, target := none } }
  let run := decide (s1.r Reg.opDEVICE_STATE = stRUN)
  let s2 := ((s1.w Reg.opDEVICE_STATE stSTOPPING).w Reg.thmSTOP_CAUSE cause).w Reg.thmSTOP_TIME s1.now
  let s3 := s2.when (!run) fun t => t.each ([16, 17].filter t.domUp) fun k u => u.domOff k
  s3.actDone Reg.opSTATE_REQ (2 + 256 * stSTOPPING) false

/-- The record of a stop, first among the NVM writes (R525 step 2, R549). -/
def State.stopRecord (s : State) (cause : Nat) : State :=
  s.nvmRecord 0x11 0 (leBytes 1 cause ++ leBytes 7 0 ++ leBytes 8 s.now) .none

/-- The event of a stop and the mirror write (R525, R534). -/
def State.stopEvent (s : State) (cause : Nat) : State := (s.event 0x0503 cause (enc2 32 (s.ri 16 Reg.thmT_MAX))).mirrorNow

/-- Streaming heads of a member with authority go to IDLE, their life stored first. -/
def State.stopHeads (s : State) : State :=
  s.each headNos fun h t => t.when (decide (t.attach h = atSTREAMING) && !t.follower) fun u => (u.lifeWrite h).stream h 1

/-- The holder of authority offers it to its partner (R527). -/
def State.stopOffer (s : State) : State :=
  s.when (s.pair.mode && s.pair.authority) fun t =>
    State.handoverYield { t with pair := { t.pair with handover := 2, handoverEpoch := t.epoch + 1 } }

/-- The orderly stop begins for a cause, unless one runs already (R525 steps 1 and 2, R527). -/
def State.orderlyStop (s : State) (cause : Nat) : State :=
  if s.r Reg.opDEVICE_STATE = stSTOPPING then s
  else
    let s1 := ((s.stopEnter cause).stopRecord cause).stopAll 3 false
    let s2 := (s1.each headNos fun h t => t.foldAbort h).ringPub
    (s2.stopEvent cause).stopHeads.stopOffer

/-- The device leaves the ring: its ring lanes stop, and both Stile outputs are low (R414, R526). -/
def State.ringLeave (s : State) : State :=
  State.ringPub (State.each { s with ring := { s.ring with joined := false } } (portLanes 0 ++ portLanes 1) fun l t => t.laneOff l)

/-- What the orderly stop leaves of the NVM's work: the operation a bank runs ends, whatever waits is not written (R525, R549). -/
def State.nvmLeave (s : State) : State :=
  let last (e : Nat × Option NvmJob) : Nat × Option NvmJob :=
    (e.1, e.2.map fun j => if j.ops.length ≤ 1 then j else { j with ops := j.ops.take 1, fin := [] })
  State.nvmPublish { s with nvm := { s.nvm with queue := [], cur := s.nvm.cur.map last } }

/-- 10 ms after its beginning the stop ends: replies not received are given up, PD04-PD19 go down, and the device is off the ring. -/
def State.stopEnd (s : State) : State :=
  match s.pwr.stopAt with
  | some t =>
    if s.r Reg.opDEVICE_STATE = stSTOPPING ∧ !s.pwr.stopOver ∧ s.since t 10000000 then
      let s1 := (s.nvmLeave).each headNos fun h u => u.wHd h { u.hd h with cmd := none, queue := [] }
      let s2 := State.when { s1 with pwr := { s1.pwr with stopOver := true } } (decide (s1.r Reg.memMEM_STATE = 3)) fun u => u.w Reg.memMEM_STATE 4
      s2.domDrop.fastClocks.ringLeave
    else s
  | none => s

/-- Meaning of ORDERLY_STOP_END. -/
def execOrderlyStopEnd (dt : Nat) (s : State) : Host.Outcome State Fault Refusal := .next (s.advance dt).stopEnd

/-! ## Start-up steps 9 to 11 (R570-R572) -/

/-- Heads whose attach run has not ended: those at attach step 10 and those with an attach run due or running. -/
def State.startMask (s : State) : Nat :=
  (headNos.filter fun h => decide (s.attach h ≠ atREFUSED) && (decide ((s.hd h).step = 10) || (s.fold h).attachDue ||
    (s.fold h).run.any fun r => decide (r.cause = 0))).foldl (fun m h => setBit h true m) 0

/-- BOOT_TARGET has been reached. -/
def State.started (s : State) : State :=
  let ms := (s.up - s.boot.released.getD s.up) / 1000000
  let s1 := State.w { s with boot := { s.boot with arrived := true } } Reg.rstSTART_TIME ms
  let s2 := s1.event 0x0801 s1.ret.cause ms
  if s2.ret.cutoffOwed then State.event { s2 with ret := { s2.ret with cutoffOwed := false } } 0x0504 0 s2.ret.cutoffs else s2

/-- Step 10 has ended: READY. -/
def State.startReady (s : State) : State :=
  let s1 := State.w { s with boot := { s.boot with readyAt := s.up } } Reg.rstSTART_STEP 10
  if s1.r Reg.suBOOT_TARGET = 2 then s1.started else s1

/-- Step 11 begins. -/
def State.startRun (s : State) : State := State.stateSettle { s with pwr := { s.pwr with target := some 3 } }

/-- Start-up goes on where a step has ended: SYNCED (R572), READY, every attach run ended, RUN. -/
def State.bootSettle (s0 : State) : State :=
  let s := s0.stateSettle
  if s.boot.arrived then s
  else
    let a := if s.r Reg.rstSTART_STEP = 8 ∧ s.r Reg.timeTIME_STATE = 2 ∧ s.r Reg.nodeACTIVE_ADDR ≠ 0xFF ∧ 8 ≤ s.inService then
        (let t := s.w Reg.rstSTART_STEP 9; if t.r Reg.opDEVICE_STATE = stSTANDBY ∧ t.pwr.target.isNone then t.wake 2 else t)
      else s
    let b := if a.r Reg.rstSTART_STEP = 9 ∧ (a.r Reg.opDEVICE_STATE = stREADY ∨ a.r Reg.opDEVICE_STATE = stRUN) then a.startReady else a
    let c := if b.r Reg.rstSTART_STEP = 10 ∧ !b.boot.arrived ∧ b.pwr.target.isNone ∧ b.startMask = 0 then b.startRun else b
    if c.r Reg.rstSTART_STEP = 10 ∧ c.r Reg.opDEVICE_STATE = stRUN ∧ !c.boot.arrived then (c.w Reg.rstSTART_STEP 11).started else c

/-- What follows any command that may have moved a head's attach or run: halts, stations, device state, start-up, and what Shepherd
could restore. -/
def State.done (s : State) : State := s.settle.bootSettle.watchStep

/-- Meaning of STATE_REQ. -/
def execStateReq (dt : Nat) (o : Origin) (v : Nat) (s : State) : Host.Outcome State Fault Refusal :=
  .next ((s.advance dt).actBy o Reg.opSTATE_REQ v fun t => t.stateRun v).bootSettle

/-- Meaning of DOMAIN_SWITCH. -/
def execDomainSwitch (dt : Nat) (s : State) : Host.Outcome State Fault Refusal := .next (s.advance dt).domDrop.domNext.bootSettle

end Sys2Proof.Machine
end

