-- ==== Sys2Proof/Machine/HeadCmd.lean ====
section
/-! DEFINITION. The commands of heads and pipelines (R34-R184): each is what Heads, Pipe, Attach and Fold make of it, followed by
whatever a changed head brings about for stations, device state and start-up. -/

namespace Sys2Proof.Machine

/-- SOF (R40). -/
def execSof (dt : Nat) (h : Fin 32) (p : HeadPkt) (s : State) : Host.Outcome State Fault Refusal :=
  .next ((s.advance dt).headIn h 0x01 p fun t => (t.sofIn h (sofOf (pktData p))).done)

/-- LINE (R41, R80); drop: the station cannot accept the lines that it delivers (R23). -/
def execLine (dt : Nat) (h : Fin 32) (p : LineIn) (s : State) : Host.Outcome State Fault Refusal :=
  .next ((s.advance dt).headIn h 0x02 p.pkt fun t => (((t.refuseLines h p.drop).lineIn h (pktData p.pkt)).refuseLines h false).haltSettle)

/-- EOF (R43, R79). -/
def execEof (dt : Nat) (h : Fin 32) (p : HeadPkt) (s : State) : Host.Outcome State Fault Refusal :=
  .next ((s.advance dt).headIn h 0x03 p fun t => (t.eofIn h (fld 0 4 (pktData p))).done)

/-- The end-of-frame timeout closes the open frame (R79). -/
def execFrameTimeout (dt : Nat) (h : Fin 32) (s : State) : Host.Outcome State Fault Refusal :=
  let t := s.advance dt
  .next (match (t.pipe h).frame with
    | some f => if t.since f.at_ (f.interval + f.interval * f.set.v 0x10C / 100) then (t.closeFrame h false).done else t
    | none => t)

/-- FRAME_LATE (R82, R83). -/
def execFrameLate (dt : Nat) (h : Fin 32) (s : State) : Host.Outcome State Fault Refusal := .next ((s.advance dt).frameLate h)

/-- Coefficient records have been fetched (R111). -/
def execCoefFetchDone (dt : Nat) (h : Fin 32) (upTo : Nat) (s : State) : Host.Outcome State Fault Refusal :=
  .next ((s.advance dt).coefFetched h upTo)

/-- REPLY (R49); a shutter reply may complete CLOSING (R169). -/
def execReply (dt : Nat) (h : Fin 32) (p : HeadPkt) (s : State) : Host.Outcome State Fault Refusal :=
  .next ((s.advance dt).headIn h 0x41 p fun t => ((t.reply h p).foldClosed h).done)

/-- TABLE_DATA (R70). -/
def execTableData (dt : Nat) (h : Fin 32) (p : HeadPkt) (s : State) : Host.Outcome State Fault Refusal :=
  .next ((s.advance dt).headIn h 0x42 p fun t => t.tableIn h p)

/-- EVENT (R55). -/
def execHeadEvent (dt : Nat) (h : Fin 32) (p : HeadPkt) (s : State) : Host.Outcome State Fault Refusal :=
  .next ((s.advance dt).headIn h 0x43 p fun t => t.headEv h p)

/-- TIME_PROBE (R44). -/
def execTimeProbe (dt : Nat) (h : Fin 32) (s : State) : Host.Outcome State Fault Refusal := .next ((s.advance dt).timeProbe h)

/-- BUSY_RETRY (R53). -/
def execBusyRetry (dt : Nat) (h : Fin 32) (s : State) : Host.Outcome State Fault Refusal := .next ((s.advance dt).busyAgain h)

/-- AUTH_RETRY (R64). -/
def execAuthRetry (dt : Nat) (h : Fin 32) (s : State) : Host.Outcome State Fault Refusal := .next ((s.advance dt).authAgain h)

/-- ATTACH_RETRY (R68). -/
def execAttachRetry (dt : Nat) (h : Fin 32) (s : State) : Host.Outcome State Fault Refusal :=
  .next ((s.advance dt).attachAgain h).done

/-- STREAM_MINUTE (R59). -/
def execStreamMinute (dt : Nat) (h : Fin 32) (s : State) : Host.Outcome State Fault Refusal := .next ((s.advance dt).streamMinute h)

/-- LIFE_WRITE_DUE (R60). -/
def execLifeWriteDue (dt : Nat) (h : Fin 32) (s : State) : Host.Outcome State Fault Refusal := .next ((s.advance dt).lifeDue h)

/-- WRITEBACK_PACKET (R72). -/
def execWritebackPacket (dt : Nat) (h : Fin 32) (s : State) : Host.Outcome State Fault Refusal :=
  .next ((s.advance dt).writeBackTick h)

/-- REBIND (R75). -/
def execRebind (dt : Nat) (h : Fin 32) (o : Origin) (v : Nat) (s : State) : Host.Outcome State Fault Refusal :=
  .next ((s.advance dt).actBy o (Reg.hdREBIND h) v fun t => (t.rebindRun h).done)

/-- COMMIT (R25). -/
def execCommit (dt : Nat) (h : Fin 32) (o : Origin) (v : Nat) (s : State) : Host.Outcome State Fault Refusal :=
  .next ((s.advance dt).actBy o (Reg.hsCOMMIT h) v fun t => t.commitRun h)

/-- TAU_COMMIT (R144). -/
def execTauCommit (dt : Nat) (h : Fin 32) (o : Origin) (v : Nat) (s : State) : Host.Outcome State Fault Refusal :=
  .next ((s.advance dt).actBy o (Reg.pcTAU_COMMIT h) v fun t => t.tauCommitRun h)

/-- PERSIST_CLEAR (R122). -/
def execPersistClear (dt : Nat) (h : Fin 32) (o : Origin) (v : Nat) (s : State) : Host.Outcome State Fault Refusal :=
  .next ((s.advance dt).actBy o (Reg.pcPERSIST_CLEAR h) v fun t => (t.wPersist h []).actDone (Reg.pcPERSIST_CLEAR h) 0 true)

/-- DRIFT_CONF_UPDATE (R164). -/
def execDriftConfUpdate (dt : Nat) (h : Fin 32) (s : State) : Host.Outcome State Fault Refusal := .next ((s.advance dt).driftUpdate h)

/-- FOLD_TRIGGER (R165). -/
def execFoldTrigger (dt : Nat) (h : Fin 32) (s : State) : Host.Outcome State Fault Refusal := .next ((s.advance dt).foldEval h)

/-- FOLD_NOW (R167). -/
def execFoldNow (dt : Nat) (h : Fin 32) (o : Origin) (v : Nat) (s : State) : Host.Outcome State Fault Refusal :=
  .next ((s.advance dt).actBy o (Reg.hlFOLD_NOW h) v fun t => t.foldNowRun h v)

/-- FOLD_CLOSING_LIMIT (R169). -/
def execFoldClosingLimit (dt : Nat) (h : Fin 32) (s : State) : Host.Outcome State Fault Refusal := .next (((s.advance dt).closingLimit h).done)

/-- FOLD_CHECK_DONE (R174). -/
def execFoldCheckDone (dt : Nat) (h : Fin 32) (s : State) : Host.Outcome State Fault Refusal := .next (((s.advance dt).checkDone h).done)

/-- SHUTTER_OPEN_RETRY (R179). -/
def execShutterOpenRetry (dt : Nat) (h : Fin 32) (s : State) : Host.Outcome State Fault Refusal := .next (((s.advance dt).reopenAgain h).done)

/-- Does the STATUS that HEAD_SILENT asked for fail now (R83)? -/
def State.silentFails (s : State) (h : Nat) : Bool :=
  (s.hr h).silent && (s.hd h).cmd.any fun c =>
    decide (c.code = 0x0C ∧ c.tries = 2 ∧ c.waiting = none ∧ c.sentAt + cmdTimeoutNs c.code ≤ s.up)

/-- CMD_TIMEOUT (R53); an unanswered STATUS of a silent head takes the lane as lost (R83). -/
def execCmdTimeout (dt : Nat) (h : Fin 32) (s : State) : Host.Outcome State Fault Refusal :=
  let t := s.advance dt
  let u := (t.cmdTimedOut h).foldClosed h
  .next (if t.silentFails h then u.laneLoss h 0 false else u).done

end Sys2Proof.Machine
end

