-- ==== Sys2Proof/Machine/LaneCmd.lean ====
section
/-! DEFINITION. The commands of the serial lanes: what a lane's receiver, a timer or the host's writes bring about (R365-R398). -/

namespace Sys2Proof.Machine

/-! ## Bring-up (R372-R375) -/

/-- Stage A has ended: Stage B; an aux lane, which exchanges nothing, goes on to its sweep (R372, R393). -/
def State.stageAEnd (s : State) (l : Nat) : State :=
  if s.laneState l ≠ 1 then s
  else if laneClass l = 4 then (s.laneTo l 3).equalise l
  else s.stageB l

/-- Meaning of STAGE_A_DONE. -/
def execStageADone (dt : Nat) (l : Fin 96) (s : State) : Host.Outcome State Fault Refusal := .next ((s.advance dt).stageAEnd l).done

/-- Meaning of STAGE_TIMEOUT. -/
def execStageTimeout (dt : Nat) (l : Fin 96) (seen : StageSeen) (s : State) : Host.Outcome State Fault Refusal :=
  .next ((s.advance dt).stageLimit l seen.signal seen.aligned).done

/-- Meaning of CAP. -/
def execCap (dt : Nat) (l : Fin 96) (w : TrainWord) (s : State) : Host.Outcome State Fault Refusal := .next ((s.advance dt).capIn l w).done

/-- Meaning of CAP_ACK. -/
def execCapAck (dt : Nat) (l : Fin 96) (w : TrainWord) (s : State) : Host.Outcome State Fault Refusal := .next ((s.advance dt).capAckIn l w).done

/-- Meaning of RATE_GO. -/
def execRateGo (dt : Nat) (l : Fin 96) (w : TrainWord) (s : State) : Host.Outcome State Fault Refusal := .next ((s.advance dt).rateGoIn l w)

/-! ## Equalisation (R376-R378) -/

/-- Meaning of EQ_REQ. -/
def execEqReq (dt : Nat) (l : Fin 96) (w : TrainWord) (s : State) : Host.Outcome State Fault Refusal := .next ((s.advance dt).eqReqIn l w)

/-- Meaning of EQ_STATUS. -/
def execEqStatus (dt : Nat) (l : Fin 96) (w : TrainWord) (s : State) : Host.Outcome State Fault Refusal :=
  .next ((s.advance dt).eqStatusIn l w).done

/-- Meaning of EQ_MEASURE. -/
def execEqMeasure (dt : Nat) (l : Fin 96) (eyeH eyeW : Nat) (s : State) : Host.Outcome State Fault Refusal :=
  .next ((s.advance dt).eqEye l eyeH eyeW).done

/-- Meaning of CTLE_STEP. -/
def execCtleStep (dt : Nat) (l : Fin 96) (eyeH eyeW : Nat) (s : State) : Host.Outcome State Fault Refusal :=
  .next ((s.advance dt).ctleIn l eyeH eyeW).done

/-- Meaning of EQ_DONE. -/
def execEqDone (dt : Nat) (l : Fin 96) (w : TrainWord) (s : State) : Host.Outcome State Fault Refusal := .next ((s.advance dt).eqDoneIn l w).done

/-! ## Loss, relock and Lull (R380-R385) -/

/-- Meaning of LULL. -/
def execLull (dt : Nat) (l : Fin 96) (w : TrainWord) (s : State) : Host.Outcome State Fault Refusal := .next ((s.advance dt).lullIn l w)

/-- Meaning of RX_STATUS. -/
def execRxStatus (dt : Nat) (l : Fin 96) (w : TrainWord) (s : State) : Host.Outcome State Fault Refusal := .next ((s.advance dt).rxStatusIn l w)

/-- Meaning of RX_STATUS_TIMEOUT. -/
def execRxStatusTimeout (dt : Nat) (l : Fin 96) (s : State) : Host.Outcome State Fault Refusal := .next ((s.advance dt).rxStatusLate l)

/-- A receiver reports invalid symbols, which CODE_ERR counts, and declares LOSS where a condition of R380 holds; one in RX-Lull declares
none (R380, R384). -/
def State.lossIn (s : State) (l : Nat) (i : LossIn) : State :=
  if s.rb (Reg.laneLULL l) 1 then s
  else if i.declared then s.laneLoss l i.codeErr false
  else if s.laneState l = 0 ∨ s.laneState l = 6 then s
  else s.add32 (Reg.laneCODE_ERR l) i.codeErr

/-- Meaning of LOSS. -/
def execLoss (dt : Nat) (l : Fin 96) (i : LossIn) (s : State) : Host.Outcome State Fault Refusal := .next ((s.advance dt).lossIn l i).done

/-- A relock attempt has locked and aligned (R381). -/
def State.cdrLock (s : State) (l : Nat) : State := if s.laneState l = 5 ∧ (s.lane l).hostLost = none then s.laneReady l else s

/-- Meaning of CDR_LOCK. -/
def execCdrLock (dt : Nat) (l : Fin 96) (s : State) : Host.Outcome State Fault Refusal := .next ((s.advance dt).cdrLock l).done

/-- Meaning of RELOCK_TIMEOUT. -/
def execRelockTimeout (dt : Nat) (l : Fin 96) (s : State) : Host.Outcome State Fault Refusal := .next ((s.advance dt).relockFailed l)

/-- May an absent lane be tried of the device's own accord: a ring lane not while both ports are absent (R413)? -/
def State.mayTry (s : State) (l : Nat) : Bool := laneClass l ≠ 2 || !((List.range 2).all fun p => s.r (Reg.portPORT_STATE p) = 3)

/-- A new attempt every 1 s while the link is absent (R375, R413). -/
def State.absentRetry (s : State) (l : Nat) : State :=
  if s.laneState l = 6 ∧ s.mayTry l ∧ s.since (s.lane l).at_ 1000000000 then s.stageA l else s

/-- Meaning of ABSENT_RETRY. -/
def execAbsentRetry (dt : Nat) (l : Fin 96) (s : State) : Host.Outcome State Fault Refusal := .next ((s.advance dt).absentRetry l).done

/-- Is the lane's domain up (R505)? -/
def State.lanePowered (s : State) (l : Nat) : Bool :=
  if l < 32 then s.domUp (5 + l / 8) else if l < 80 then s.domUp (9 + (l - 32) / 24) else if l < 88 then true else s.domUp 4

/-- Signal appears at a receiver: an absent link is tried at once, RX-Lull is left, a powered-down quadrant is asked for, and an aux
lane begins its sweep (R375, R383, R393, R508). -/
def State.signalIn (s : State) (l : Nat) : State :=
  if !s.lanePowered l then s.when (decide (l < 32)) fun t => t.wLane l { t.lane l with signal := true }
  else
    let s1 := s.wb (Reg.laneLULL l) 1 false
    if s1.laneState l = 6 then (if s1.mayTry l then s1.stageA l else s1)
    else if laneClass l = 4 then s1.stageAEnd l
    else s1

/-- Meaning of SIGNAL_DETECT. -/
def execSignalDetect (dt : Nat) (l : Fin 96) (s : State) : Host.Outcome State Fault Refusal := .next ((s.advance dt).signalIn l).done

/-- RETRAIN: an attempt at Stage A with RATE_CAP 4, whatever the lane's state (R375). -/
def State.laneAgain (s : State) (l : Nat) : State :=
  let s1 := s.w (Reg.laneRATE_CAP l) 4
  let s2 := if !s1.lanePowered l then s1 else if laneClass l = 4 then (s1.laneOff l).auxStart l
    else if (laneClass l = 3 ∧ !s1.pair.mode) ∨ (laneClass l = 2 ∧ !s1.ringMay) then s1 else s1.stageA l
  s2.actDone (Reg.laneRETRAIN l) 0 true

/-- Meaning of LANE_RETRAIN. -/
def execLaneRetrain (dt : Nat) (l : Fin 96) (o : Origin) (v : Nat) (s : State) : Host.Outcome State Fault Refusal :=
  .next ((s.advance dt).actBy o (Reg.laneRETRAIN l) v fun t => t.laneAgain l).done

/-! ## Export lanes (R390, R392) -/

/-- Meaning of EXPORT_LANE_FREE. -/
def execExportLaneFree (dt : Nat) (x : Fin 48) (s : State) : Host.Outcome State Fault Refusal := .next ((s.advance dt).xFree x)

/-- A lost lane that has been UP for 1 s rejoins its set. -/
def State.rejoin (s : State) (x : Nat) : State :=
  if tget false s.xp.out x ∧ s.laneUp (32 + x) ∧ s.since (tget 0 s.xp.upSince x) 1000000000 then
    (State.replace { s with xp := { s.xp with out := tset false s.xp.out x false } } 2).xKick
  else s

/-- Meaning of STRIPE_REJOIN. -/
def execStripeRejoin (dt : Nat) (x : Fin 48) (s : State) : Host.Outcome State Fault Refusal := .next ((s.advance dt).rejoin x)

/-! ## Aux lanes (R385, R393, R394) -/

/-- A write of AUX_MODE: the lane starts afresh or is off. -/
def State.auxSet (s : State) (a v : Nat) : State :=
  let s1 := (s.laneOff (92 + a)).w (Reg.auxSLIP_POS a) 0
  if v ≠ 0 ∧ s1.domUp 4 then s1.auxStart (92 + a) else s1

/-- Meaning of AUX_MODE. -/
def execAuxMode (dt : Nat) (a : Fin 4) (o : Origin) (v : Nat) (s : State) : Host.Outcome State Fault Refusal :=
  .next ((s.advance dt).writeBy o (Reg.auxAUX_MODE a) v true fun t => .inr (t.auxSet a v))

/-- A write of AUX_RATE: a lane that has a mode starts afresh at the new rate (R393, R394). -/
def State.auxRate (s : State) (a old v : Nat) : State :=
  if old ≠ v ∧ s.r (Reg.auxAUX_MODE a) ≠ 0 ∧ s.domUp 4 then (s.laneOff (92 + a)).auxStart (92 + a) else s

/-- BIT_SLIP: the word boundary of a raw lane moves one bit later. -/
def State.bitSlip (s : State) (a : Nat) : State :=
  let n := s.r (Reg.auxAUX_WIDTH a)
  let s1 := if s.r (Reg.auxAUX_MODE a) = 2 then s.w (Reg.auxSLIP_POS a) ((s.r (Reg.auxSLIP_POS a) + 1) % n) else s
  s1.actDone (Reg.auxBIT_SLIP a) 0 true

/-- Meaning of BIT_SLIP. -/
def execBitSlip (dt : Nat) (a : Fin 4) (o : Origin) (v : Nat) (s : State) : Host.Outcome State Fault Refusal :=
  .next ((s.advance dt).actBy o (Reg.auxBIT_SLIP a) v fun t => t.bitSlip a)

/-- CAPTURE_ARM: the buffer is filled once more. -/
def State.captureArm (s : State) (a : Nat) : State :=
  State.actDone { s with auxs := tset {} s.auxs a { armed := true } } (Reg.auxCAPTURE_ARM a) 0 true

/-- Meaning of CAPTURE_ARM. -/
def execCaptureArm (dt : Nat) (a : Fin 4) (o : Origin) (v : Nat) (s : State) : Host.Outcome State Fault Refusal :=
  .next ((s.advance dt).actBy o (Reg.auxCAPTURE_ARM a) v fun t => t.captureArm a)

/-- Meaning of MATCH_WRITE. -/
def execMatchWrite (dt : Nat) (a : Fin 4) (o : Origin) (mask : Bool) (v : Nat) (s : State) : Host.Outcome State Fault Refusal :=
  .next ((s.advance dt).writeBy o (if mask then Reg.auxMATCH_MASK a else Reg.auxMATCH_WORD a) v true fun t => .inr (t.w (Reg.auxMATCH_COUNT a) 0))

/-- A write of LULL_REQ takes effect at once on a lane that is UP, otherwise once it is (R384). -/
def State.lullSet (s : State) (a v : Nat) : State :=
  let l := 92 + a
  let s1 := s.wLane l { s.lane l with lullWant := v }
  if s1.laneUp l then s1.lullApply l else s1

/-- Meaning of LULL_REQ. -/
def execLullReq (dt : Nat) (a : Fin 4) (o : Origin) (v : Nat) (s : State) : Host.Outcome State Fault Refusal :=
  .next ((s.advance dt).writeBy o (Reg.auxLULL_REQ a) v true fun t => .inr (t.lullSet a v))

/-- A received word: matched in raw mode, and put into the armed buffer until it is full. A coded lane's word is one byte. -/
def State.auxWord (s : State) (a w : Nat) : State :=
  let mode := s.r (Reg.auxAUX_MODE a)
  if !s.laneUp (92 + a) ∨ mode = 0 ∨ s.rb (Reg.laneLULL (92 + a)) 1 then s
  else
    let n := if mode = 2 then s.r (Reg.auxAUX_WIDTH a) else 8
    let v := w % 2 ^ n
    let hit := decide (mode = 2) && decide ((v ^^^ s.r (Reg.auxMATCH_WORD a)) &&& s.r (Reg.auxMATCH_MASK a) = 0)
    let s1 := if hit then s.bump (Reg.auxMATCH_COUNT a) else s
    let x : Aux := tget {} s1.auxs a
    if x.armed then
      let c := (x.captured ++ leBytes ((n + 7) / 8) v).take 8192
      { s1 with auxs := tset {} s1.auxs a { armed := decide (c.length < 8192), captured := c } }
    else s1

/-- Meaning of AUX_RECEIVED_WORD. -/
def execAuxReceivedWord (dt : Nat) (a : Fin 4) (w : Nat) (s : State) : Host.Outcome State Fault Refusal := .next ((s.advance dt).auxWord a w)

end Sys2Proof.Machine
end

