-- ==== Sys2Proof/Machine/OuterCode.lean ====
section
/-! DEFINITION. The outer code of the DRAM rows: the field, RS(68,64) with its encoder and decoder, check blocks, and where a local
address lies in the devices (R331, R333-R335, R341). -/

namespace Sys2Proof.Machine

/-! ## The field GF(2^8) with polynomial x^8 + x^4 + x^3 + x^2 + 1 (R334) -/

/-- Times α, the root x. -/
def gfTimesAlpha (a : Nat) : Nat := if a < 128 then 2 * a else (2 * a) ^^^ 0x11D

/-- Product of a with the n low bits of b. -/
def gfMulBits : Nat → Nat → Nat → Nat
  | 0, _, _ => 0
  | n + 1, a, b => (if b % 2 = 1 then a else 0) ^^^ gfMulBits n (gfTimesAlpha a) (b / 2)

/-- The product of two elements. -/
def gfMul (a b : Nat) : Nat := gfMulBits 8 a b

/-- α to the power n. -/
def gfAlpha : Nat → Nat
  | 0 => 1
  | n + 1 => gfTimesAlpha (gfAlpha n)

/-- The inverse of a nonzero element, a^254. -/
def gfInv (a : Nat) : Nat :=
  let sq := (List.range 7).foldl (fun (p : Nat × Nat) _ => let q := gfMul p.1 p.1; (q, gfMul p.2 q)) (a, 1)
  sq.2

/-! ## RS(68,64) (R334) -/

/-- The generator polynomial with roots α^0 to α^3, coefficients of x^3 to x^0 (the one of x^4 is 1). -/
def rsGenerator : List Nat :=
  ((List.range 4).foldl (fun (g : List Nat) j => (g ++ [0]).zipWith (· ^^^ ·) (0 :: g.map fun c => gfMul c (gfAlpha j))) [1]).drop 1

/-- One data symbol enters the remainder, coefficients of x^3 to x^0. -/
def rsFeed (r : List Nat) (x : Nat) : List Nat :=
  (r.drop 1 ++ [0]).zipWith (fun a g => a ^^^ gfMul (x ^^^ r.headD 0) g) rsGenerator

/-- The 4 check symbols of a 64-byte data block. DEDUCED (log 104): byte 0 is the coefficient of x^67, the check symbols those of
x^3 to x^0 in the order they are stored. -/
def checkSymbols (block : Bytes) : Bytes := ((block.map BitVec.toNat).foldl rsFeed [0, 0, 0, 0]).map (BitVec.ofNat 8)

/-- Syndrome j of symbols at positions: position p is the coefficient of x^(67 - p). -/
def syndrome (e : List (Nat × Nat)) (j : Nat) : Nat := (e.map fun x => gfMul x.2 (gfAlpha (j * (67 - x.1)))).foldl (· ^^^ ·) 0

/-- Positions of a codeword with their locators. -/
def rsPlaces : List (Nat × Nat) := (List.range 68).map fun p => (p, gfAlpha (67 - p))

/-- One erroneous symbol that explains four syndromes. -/
def oneError (s0 s1 s2 s3 : Nat) : Option (List (Nat × Nat)) :=
  if s0 = 0 then none
  else (rsPlaces.find? fun p => gfMul s0 p.2 = s1 ∧ gfMul s1 p.2 = s2 ∧ gfMul s2 p.2 = s3).map fun p => [(p.1, s0)]

/-- Two erroneous symbols that explain four syndromes: the roots of the locator polynomial, then the values. -/
def twoErrors (s0 s1 s2 s3 : Nat) : Option (List (Nat × Nat)) :=
  let det := gfMul s1 s1 ^^^ gfMul s0 s2
  let b := gfMul s1 s2 ^^^ gfMul s0 s3
  let c := gfMul s2 s2 ^^^ gfMul s1 s3
  if det = 0 then none
  else match rsPlaces.filter fun p => gfMul det (gfMul p.2 p.2) ^^^ gfMul b p.2 ^^^ c = 0 with
    | [p, q] =>
      let y := gfMul (s1 ^^^ gfMul s0 q.2) (gfInv (p.2 ^^^ q.2))
      if y = 0 ∨ y = s0 then none else some [(p.1, y), (q.1, s0 ^^^ y)]
    | _ => none

/-- What differs after a correction: the error pattern with the corrections added. -/
def residue (errors fix : List (Nat × Nat)) : List (Nat × Nat) :=
  ((List.range 68).map fun p => (p, ((errors ++ fix).filter fun e => e.1 = p).foldl (fun a e => a ^^^ e.2) 0)).filter fun e => e.2 ≠ 0

/-- The decoding of a codeword that was read with an error pattern, in an ECC_MODE: the symbols corrected and what still differs from
the codeword that was written; none where it is uncorrectable. A codeword plus an error pattern has the pattern's syndromes. -/
def decodeEcc (mode : Nat) (errors : List (Nat × Nat)) : Option (Nat × List (Nat × Nat)) :=
  let s := syndrome errors
  if s 0 = 0 ∧ s 1 = 0 ∧ s 2 = 0 ∧ s 3 = 0 then some (0, residue errors [])
  else
    let one := if mode ≤ 1 then oneError (s 0) (s 1) (s 2) (s 3) else none
    let fix := match one with
      | some f => some f
      | none => if mode = 0 then twoErrors (s 0) (s 1) (s 2) (s 3) else none
    fix.map fun f => (f.length, residue errors f)

/-! ## Rows (R333, R335, R341) -/

/-- Row slot and block in the row of a local data address. -/
def rowOf (l : Nat) : Nat × Nat := (l / 64 / 60, l / 64 % 60)

/-- The check block of a data block and the first byte of its check symbols there. -/
def checkPlace (l : Nat) : Nat × Nat := (60 + (rowOf l).2 / 15, 4 * ((rowOf l).2 % 15))

/-- ROW_TAG of a row slot of a subchannel. -/
def rowTag (d row : Nat) : Nat := row % 2 ^ 21 + d % 16 * 2 ^ 21

/-- Check block 60 + j of a row slot whose 60 data blocks are given. -/
def checkBlock (d row j : Nat) (blocks : List Bytes) : Bytes :=
  (((blocks.drop (15 * j)).take 15).map checkSymbols).flatten ++ leBytes 4 (rowTag d row)

/-- Bank group, bank, row and column of a local address in the devices. -/
structure DevAddr where
  group : Nat
  bank : Nat
  row : Nat
  column : Nat
  deriving DecidableEq, Repr

/-- The mapping of R341. -/
def devAddr (l : Nat) : DevAddr :=
  let r := rowOf l
  ⟨r.1 % 4, r.1 / 4 % 4, r.1 / 16, 16 * r.2⟩

end Sys2Proof.Machine
end

