-- ==== Sys2Proof/Machine/Memory.lean ====
section
/-! DEFINITION. The memory subsystem: refresh, retraining, errors and their consumers, failed subchannels and the scrubber
(R319-R320, R331-R360). -/

namespace Sys2Proof.Machine

/-! ## Regions (R337, R339, R340) -/

/-- Bytes of one MiB. -/
def mib : Nat := 1048576

/-- Local base and bytes of a region in a subchannel of a density in Gb. -/
def regionLocal (density r : Nat) : Nat × Nat :=
  if r = 0 then (0, 32 * mib) else if r = 2 then (32 * mib, 48 * mib) else if r = 3 then (80 * mib, 64 * mib)
  else (144 * mib, density * 240 * mib - 3840 - 144 * mib)

/-- The region that holds a local data address (R337). -/
def regionAt (l : Nat) : Nat := if l < 32 * mib then 0 else if l < 80 * mib then 2 else if l < 144 * mib then 3 else 1

/-- Channels on the region 3 list. -/
def State.mirrorChannels (s : State) : List Nat := (List.range 8).filter fun c => bit (2 * c) s.mem.passed || bit (2 * c + 1) s.mem.passed

/-- The interleave list: even-numbered subchannels in service, then odd-numbered ones (R339). -/
def State.interleave (s : State) : List Nat :=
  let ev := (List.range 8).map (2 * ·)
  (ev ++ ev.map (· + 1)).filter fun d => s.rb Reg.memIN_SERVICE d

/-- Entry of a region's list, subchannels or channels, and local address of an offset in it (R339, R340). -/
def State.dramUnit (s : State) (r off : Nat) : Nat × Nat :=
  let list := if r = 3 then s.mirrorChannels else s.interleave
  let g := 2 ^ s.r (Reg.rgnGRAIN_ACTIVE r)
  let n := max 1 list.length
  (list.getD (off / g % n) 0, (regionLocal (s.r Reg.memDENSITY) r).1 + off / g / n * g + off % g)

/-- Where an offset of a region lies: the subchannels that hold a copy, the even one first, and the local address. -/
def State.dramPlace (s : State) (r off : Nat) : List Nat × Nat :=
  let u := s.dramUnit r off
  (if r = 3 then [2 * u.1, 2 * u.1 + 1] else [u.1], u.2)

/-- Publish the SIZE of each region. -/
def State.regionSizes (s : State) : State :=
  s.each (List.range 4) fun r t =>
    let g := 2 ^ t.r (Reg.rgnGRAIN_ACTIVE r)
    let n := if r = 3 then t.mirrorChannels.length else t.inService
    t.w (Reg.rgnSIZE r) (n * ((regionLocal (t.r Reg.memDENSITY) r).2 / g * g))

/-- Enter an error (R360). -/
def State.memLog (s : State) (d kind symbols source row block : Nat) : State :=
  let e : MemErr := ⟨s.now, d, kind, symbols, source, row % 2 ^ 21 + block % 64 * 2 ^ 21⟩
  ({ s with mem := { s.mem with log := (e :: s.mem.log).take 64 } }).bump Reg.memLOG_SEQ

/-! ## Failure and return of a subchannel (R319, R320, R353-R355) -/

/-- A running zone's delay history is filled as at ZONE_RUN leaving 0 (R229, R320). -/
def State.zoneRefill (s : State) (z : Nat) : State :=
  let st := s.r (Reg.zbSRC_STATION z)
  let pos := roundHA (s.tickPos (s.r (Reg.stENC_SEL st)) s.tick.t0)
  let y := roundTo 256 (mkRat (s.r (Reg.zcMODEL_GAIN z) * s.r (Reg.zsDEMAND z) : Nat) 10000)
  s.wZone z { s.zone z with ym := y, hist := [(pos, y)] }

/-- The station's window holds no lines any more; WL_SEQ goes on. -/
def State.windowClear (s : State) (st : Nat) : State := s.wStn st { s.stn st with window := [] }

/-- Every DRAM item has lost its contents and is rebuilt (R320): a segment whose copy in use lies in DRAM by a full attach; a copy that
had been made there is made again. -/
def State.dramRebuild (s : State) : State :=
  let s0 := s.each headNos fun h t => t.when (decide ((t.pipe h).copying = 2)) fun u => u.wPipe h { u.pipe h with copying := 1 }
  let s1 := s0.each (headNos.filter fun h => s.placed h && decide (s.r (Reg.pcSEG_LOCATION h) = 2)) fun h t =>
    let u := t.wHd h { t.hd h with lastFull := none }
    u.when (decide ((u.hd h).step ≠ 0) || u.attached h) fun v => v.startAttach h
  let x := s1.px
  let stage := x.stage.map fun e => (e.1, bits 15 0 (tget 0 x.seg e.1))
  let s2 := { s1 with px := { x with sharp := [], hist := [], prop := [], stage := stage } }
  let s3 := s2.each headNos fun h t => t.w (Reg.pcTAU_PROPOSED h) 0
  let s4 := s3.each stations fun st t =>
    let u := t.windowClear st
    if u.runs st ∧ (tget (8, 0) u.shep.bands st).2 = 0 then u.stStart st else u
  let s5 := { s4 with cov := { s4.cov with store := [] } }
  s5.each s5.zonesRunning fun z t => t.zoneRefill z

/-- The DRAM of the configuration has changed: regions, contents, placement. -/
def State.dramChanged (s : State) : State := s.regionSizes.dramRebuild.replace 1

/-- Both copies of a part of region 3 are gone: a wiping reset (R354). -/
def State.memFatal (s : State) : State := if s.stopHeld then s else s.wipe 5

/-- A subchannel leaves service for a cause (R353, R360, R361). -/
def State.subOut (s : State) (d cause : Nat) : State :=
  let s1 := s.wSubCh d { s.subCh d with retrain := 0, action := false, queued := false, fix := [] }
  let s2 := ((s1.wb Reg.memIN_SERVICE d false).wb Reg.memFAILED d true).wAll [(Reg.subSUB_STATE d, 4), (Reg.memFAIL_CAUSE, cause)]
  let s3 := (s2.memLog d 5 0 0 0 0).event 0x0201 d cause
  s3.when (s3.mirrorChannels.contains (d / 2)) fun t => t.wb Reg.memMIRROR_LOST (d / 2) true

/-- A subchannel is marked failed in operation: fewer than 8 in service stop the device; otherwise a channel without a copy of region 3
resets it, and else Shepherd re-places (R353, R354). -/
def State.subFailed (s : State) (d cause : Nat) : State :=
  let s1 := s.subOut d cause
  if s1.inService < 8 then (s1.regionSizes.orderlyStop 3).retrainNext
  else if s1.mirrorChannels.contains (d / 2) ∧ s1.rb Reg.memFAILED (2 * (d / 2)) ∧ s1.rb Reg.memFAILED (2 * (d / 2) + 1) then s1.memFatal
  else s1.retrainNext.dramChanged

/-- Does a key lie in a subchannel's region 3 part? DRAM cells are keyed by subchannel times 2^33 plus local data address. -/
def inMirror (d k : Nat) : Bool := decide (k / 2 ^ 33 = d) && decide (regionAt (k % 2 ^ 33) = 3)

/-- The entries of a subchannel's region 3 part give way to those of the other subchannel of its channel. -/
def mirrorCopy {α : Type} [DecidableEq α] (empty : α) (src dst : Nat) (t : List (Nat × α)) : List (Nat × α) :=
  (t.filter fun e => inMirror src e.1).foldl (fun m e => tset empty m (dst * 2 ^ 33 + e.1 % 2 ^ 33) e.2)
    (tkeep (fun k => !inMirror dst k) t)

/-- A failed subchannel has trained: region 3 of its channel is copied back and it returns to service (R355). The region 3 list stays
(R340). -/
def State.subBack (s : State) (d : Nat) : State :=
  let s1 := (s.wb Reg.memIN_SERVICE d true).wb Reg.memFAILED d false
  let s2 := (s1.w (Reg.subSUB_STATE d) 1).wb Reg.memMIRROR_LOST (d / 2) false
  let o := if d % 2 = 0 then d + 1 else d - 1
  { s2 with mem := { s2.mem with
      dram := mirrorCopy 0 o d s2.mem.dram, dramSet := mirrorCopy false o d s2.mem.dramSet
      check := mirrorCopy (some (List.replicate 4 0)) o d s2.mem.check
      ue := s2.mem.ue.filter fun e => e.1 ≠ d
      copyBad := s2.mem.copyBad.filter fun e => decide (e.1 ≠ d / 2 ∨ d % 2 = 1) } }.dramChanged

/-! ## Refresh, scheduler and retrain slices (R343-R346, R352) -/

/-- Refreshes that may be postponed, and the refresh interval in ns, of a band. -/
def bandLimit (b : Nat) : Nat := if b = 0 then 4 else if b = 1 then 2 else 0
/-- tREFI. -/
def bandInterval (b : Nat) : Nat := if b = 0 then 3900 else 1950

/-- The result of a RETRAIN action that waits for this retrain, or that was answered QUEUED (R355). -/
def State.retrainResult (s : State) (d code window : Nat) : State :=
  let x := s.subCh d
  let t := s.wSubCh d { x with action := false, queued := false }
  if x.action then t.actDone (Reg.subRETRAIN d) (code + 256 * window) (decide (code = 0))
  else if x.queued then t.w (Reg.subRETRAIN_RESULT d) (code + 256 * window)
  else s

/-- A retrain or training has ended with settings, which all apply together. -/
def State.retrained (s : State) (d : Nat) (eyes : List (Nat × Eye)) : State :=
  let t := s.retrainResult d 0 (narrowest eyes)
  let s1 := t.wSubCh d { t.subCh d with retrain := 0, eyes := eyes, sweeps := [] }
  ((s1.bump (Reg.subRETRAINS d)).wAll [(Reg.subLAST_TRAIN d, s1.now), (Reg.subSUB_STATE d, 1)])

/-- The last slice of a tracking retrain: the new settings apply, or a full training runs (R352). -/
def State.slicesEnd (s : State) (d : Nat) : State :=
  let x := s.subCh d
  let eyes := trackEyes x.eyes x.sweeps
  if s.r Reg.memEYE_MIN ≤ narrowest eyes then (s.retrained d eyes).retrainNext
  else s.wSubCh d { x with retrain := 3, sweeps := [] }

/-- n refreshes have been issued, each followed by a slice of a running retrain; sw are the columns the slices completed. -/
def State.refreshed (s : State) (d n : Nat) (sw : List LaneSweep) : State :=
  let x := s.subCh d
  if x.retrain ≠ 2 ∨ n = 0 then s
  else
    let y := { x with slices := x.slices + n, sweeps := x.sweeps ++ sw }
    if 2048 ≤ y.slices ∨ trackSwept y.eyes y.sweeps then (s.wSubCh d y).slicesEnd d else s.wSubCh d y

/-- AGE_SCn of class c for a request that arrived at own time t: a value written since does not count (R362). -/
def State.ageLimit (s : State) (c t : Nat) : Nat :=
  match (s.mem.ageLog.filter fun e => decide (e.2.1 = c ∧ t ≤ e.1)).getLast? with
  | some e => e.2.2
  | none => s.r (Reg.ageAGE_SC0 + c)

/-- The more urgent of two requests: the lower class, then the older. -/
def moreUrgent (a b : MemReq) : MemReq := if b.cls < a.cls ∨ (b.cls = a.cls ∧ a.age < b.age) then b else a

/-- The older of two requests that may be issued, the first on a tie. -/
def older (a b : MemReq × MemReq) : MemReq × MemReq := if a.2.age < b.2.age then b else a

/-- The better of two by class, then age. -/
def sooner (a b : MemReq × MemReq) : MemReq × MemReq :=
  if b.2.cls < a.2.cls ∨ (b.2.cls = a.2.cls ∧ a.2.age < b.2.age) then b else a

/-- The best of some requests. -/
def pickBy (f : MemReq × MemReq → MemReq × MemReq → MemReq × MemReq) : List (MemReq × MemReq) → Option (MemReq × MemReq)
  | [] => none
  | q :: l => some (l.foldl f q)

/-- The requests that may be issued next, the first of each block, each with the class and the age it stands with: those of the most
urgent request queued behind it on its block (R344). -/
def standing (waiting : List MemReq) : List (MemReq × MemReq) :=
  (waiting.zipIdx.filter fun e => (waiting.take e.2).all fun q => decide (q.block ≠ e.1.block)).map fun e =>
    (e.1, ((waiting.drop (e.2 + 1)).filter fun q => decide (q.block = e.1.block)).foldl moreUrgent e.1)

/-- A request takes its place among those that wait, in order of arrival. -/
def insertReq (l : List MemReq) (q : MemReq) : List MemReq :=
  (l.filter fun e => decide (q.age ≤ e.age)) ++ q :: l.filter fun e => decide (e.age < q.age)

/-- What waits at a subchannel: the requests of its clients and the controller's own writes of corrected blocks (R342, R356). -/
def State.memQueue (s : State) (d : Nat) (waiting : List MemReq) : List MemReq :=
  (s.subCh d).fix.foldl (fun l e => insertReq l ⟨4, s.up - e.2, e.1, true⟩) waiting

/-- n refreshes of the backlog are issued. -/
def State.issue (s : State) (d n : Nat) (sw : List LaneSweep) : State :=
  (s.w (Reg.subBACKLOG d) (s.r (Reg.subBACKLOG d) - n)).refreshed d n sw

/-- A subchannel's scheduler issues by the five rules of R343 until a request is next: refreshes that may not be postponed, then a
request older than its class allows, then due refreshes while no request of SC0-SC2 waits, then a request by class and age. -/
def State.issueNext (s : State) (d : Nat) (waiting : List MemReq) (sw : List LaneSweep) : State :=
  let q := standing (s.memQueue d waiting)
  let aged := pickBy older (q.filter fun e => decide (s.ageLimit e.2.cls (s.up - e.2.age) < e.2.age))
  let s1 := s.issue d (s.r (Reg.subBACKLOG d) - bandLimit (s.r (Reg.subBAND d))) sw
  let s2 := if aged.isSome ∨ waiting.any (fun e => decide (e.cls.val < 3)) then s1 else s1.issue d (s1.r (Reg.subBACKLOG d)) sw
  let next := match aged with
    | some e => some e.1
    | none => (pickBy sooner q).map (·.1)
  let x := s2.subCh d
  s2.wSubCh d { x with issued := next, fix := x.fix.filter fun e => !next.any fun n => n.write && decide (n.block = e.1) }

/-- A refresh becomes due (R346): it joins the backlog, and the scheduler issues or postpones. -/
def State.refreshDue (s : State) (d : Nat) (waiting : List MemReq) (sw : List LaneSweep) : State :=
  let x := s.subCh d
  if s.r Reg.memMEM_STATE ≠ 3 ∨ !s.rb Reg.memIN_SERVICE d ∨ s.up < x.refreshAt + x.interval then s
  else
    let b := s.r (Reg.subBACKLOG d) + 1
    let s1 := (s.wSubCh d { x with refreshAt := s.up, interval := bandInterval (s.r (Reg.subBAND d)) }).w (Reg.subBACKLOG d) b
    let s2 := s1.issueNext d waiting sw
    if s2.r (Reg.subBACKLOG d) = b then s2.bump (Reg.subPOSTPONED d) else s2

/-- Meaning of REFRESH_DUE. -/
def execRefreshDue (dt : Nat) (d : Fin 16) (waiting : List MemReq) (sweeps : List LaneSweep) (s : State) :
    Host.Outcome State Fault Refusal := .next ((s.advance dt).refreshDue d waiting sweeps).done

/-- A full training in operation ends (R349, R352, R355). -/
def State.trainingEnd (s : State) (d : Nat) (sweeps : List LaneSweep) : State :=
  let eyes := fullEyes sweeps
  if (s.subCh d).retrain ≠ 3 then s
  else if s.r Reg.memEYE_MIN ≤ narrowest eyes then
    let s1 := s.retrained d eyes
    if s.rb Reg.memFAILED d then s1.subBack d |>.retrainNext else s1.retrainNext
  else
    let s1 := s.retrainResult d 1 (narrowest eyes)
    if s.rb Reg.memFAILED d then (s1.wSubCh d { s1.subCh d with retrain := 0 }).retrainNext else s1.subFailed d 1

/-- Meaning of FULL_TRAINING_DONE. -/
def execFullTrainingDone (dt : Nat) (d : Fin 16) (sweeps : List LaneSweep) (s : State) : Host.Outcome State Fault Refusal :=
  .next ((s.advance dt).trainingEnd d sweeps).done

/-- RETRAIN on a subchannel: one in service gets a tracking retrain, a failed one a full training; one that has to wait answers
QUEUED (R351, R355). -/
def State.subRetrain (s : State) (d : Nat) : State :=
  let key := Reg.subRETRAIN d
  if !s.rb Reg.memIN_SERVICE d ∧ !s.rb Reg.memFAILED d then s.actDone key 1 false
  else
    let s1 := if (s.subCh d).retrain ≠ 0 then s else (s.wSubCh d { s.subCh d with retrain := 1 }).when (s.rb Reg.memIN_SERVICE d) fun t =>
      t.w (Reg.subSUB_STATE d) 3
    let s2 := s1.retrainNext
    if (s2.subCh d).retrain = 1 then (s2.wSubCh d { s2.subCh d with queued := true }).actDone key 2 false
    else s2.wSubCh d { s2.subCh d with action := true }

/-- Meaning of SUBCHANNEL_RETRAIN. -/
def execSubchannelRetrain (dt : Nat) (d : Fin 16) (o : Origin) (v : Nat) (s : State) : Host.Outcome State Fault Refusal :=
  .next ((s.advance dt).actBy o (Reg.subRETRAIN d) v fun t => t.subRetrain d)

/-! ## What a block that reads wrong does to its item (R357) -/

/-- A block that reads wrong: 64 bytes of difference to what was written where a miscorrection was delivered (R334), none where it was
found uncorrectable. -/
abbrev Wrong := Option (List Nat)

/-- The difference in the n bytes at pos of an item, for a block at off of it. -/
def Wrong.diff (v : Wrong) (off pos n : Nat) : Nat := match v with
  | some m => leNat ((List.range n).map fun i => if off ≤ pos + i then BitVec.ofNat 8 (m.getD (pos + i - off) 0) else 0)
  | none => 0

/-- A value of n bytes at pos of an item after the block was read: with the difference, or lost where the block is lost. -/
def Wrong.over (v : Wrong) (off pos n lost value : Nat) : Nat := if v.isSome then value ^^^ v.diff off pos n else lost

/-- The 6 bytes of a cell: flags [47:42], W [41:22], M [21:0] (R202). -/
def WCell.pack (c : WCell) : Nat := c.m % 2 ^ 22 + c.w % 2 ^ 20 * 2 ^ 22 + c.fl % 64 * 2 ^ 42
/-- The cell of 6 bytes. -/
def WCell.unpack (n : Nat) : WCell := ⟨n % 2 ^ 22, n / 2 ^ 22 % 2 ^ 20, n / 2 ^ 42 % 64⟩

/-- Coefficient records from record i0. Those that are lost are missing and rebuilt from the factory records; while the head's working set
is older than the segment they stay missing until the Fold run that this asks for (R357). Where a miscorrection changes the class of a
pixel CLASS_COUNTS is counted anew (DESIGN CHOICE, assumption 49). -/
def State.wrongRecords (s : State) (h i0 : Nat) (v : Wrong) : State :=
  let is := (List.range 8).filter fun j => decide (i0 + j < s.factCount h)
  match v with
  | some _ => (s.each is fun j t => t.wRecord h (i0 + j) (t.record h (i0 + j) ^^^ v.diff 0 (8 * j) 8)).recountClasses h
  | none =>
    let s1 := s.each is fun j t => { t with px := { t.px with bad := tset false t.px.bad (pxKey h (i0 + j)) true } }
    let stale := decide (s1.r (Reg.hlWRITEBACK_STATE h) ≠ 0)
    let x := s1.hr h
    let only := x.foldOnly.filter fun i => i ≠ i0
    let s2 := s1.wHr h { x with
      rebuild := if x.rebuild.contains i0 then x.rebuild else x.rebuild ++ [i0], foldOnly := if stale then i0 :: only else only }
    let s3 := if x.rebuild = [] then s2.rebuildNext h else s2
    if stale ∧ (s3.fold h).explicit_ = 0 then s3.wFold h { s3.fold h with explicit_ := 1 } else s3

/-- Sharpening words from word i0. -/
def State.wrongSharp (s : State) (h i0 : Nat) (v : Wrong) : State :=
  s.each (List.range 32) fun j t =>
    let k := pxKey h (i0 + j)
    { t with px := { t.px with sharp := tset 0x8000 t.px.sharp k (v.over 0 (2 * j) 2 0x8000 (tget 0x8000 t.px.sharp k)) } }

/-- Staged offsets, which lie first, and proposals. -/
def State.wrongStage (s : State) (h off : Nat) (v : Wrong) : State :=
  let n := s.factCount h
  if off < 2 * n then
    s.each ((List.range 32).filter fun j => decide (tget 0x10000 s.px.stage (pxKey h (off / 2 + j)) ≠ 0x10000)) fun j t =>
      let k := pxKey h (off / 2 + j)
      let x := v.over off (2 * (off / 2 + j)) 2 (bits 15 0 (t.record h (off / 2 + j))) (tget 0x10000 t.px.stage k)
      { t with px := { t.px with stage := tset 0x10000 t.px.stage k x } }
  else
    let s1 := s.each ((List.range 64).filter fun j => decide (off - 2 * n + j < n)) fun j t =>
      let k := pxKey h (off - 2 * n + j)
      { t with px := { t.px with prop := tset 0 t.px.prop k (v.over off (off + j) 1 0 (tget 0 t.px.prop k)) } }
    s1.w (Reg.pcTAU_PROPOSED h) (s1.px.prop.filter fun e => decide (e.1 / 524288 = h)).length

/-- Cells of a station's band: a cell takes 6 bytes, a line MAP_CELLS cells, line n stands at n mod BAND_LINES. -/
def State.wrongBand (s : State) (st off : Nat) (v : Wrong) : State :=
  let cells := max 1 (s.r (Reg.stMAP_CELLS st))
  let lines := max 1 (s.r (Reg.sstBAND_LINES st))
  let hit := (List.range ((off + 63) / 6 - off / 6 + 1)).map (off / 6 + ·)
  let x := s.stn st
  let fix (e : Nat × BandLine) : Nat × BandLine :=
    match hit.filter fun i => decide (i / cells = e.1 % lines) with
    | [] => e
    | cs =>
      let put (l : List (Nat × WCell)) (i : Nat) : List (Nat × WCell) :=
        tset {} l (i % cells) (WCell.unpack (v.over off (6 * i) 6 0 (tget {} l (i % cells)).pack))
      (e.1, { e.2 with cells := cs.foldl put e.2.cells, incomplete := e.2.incomplete || v.isNone })
  s.wStn st { x with band := x.band.map fix }

/-- Lines of a station's window: READ_LINE of an uncorrectable one returns MEM_ERROR, for which the window holds no bytes. -/
def State.wrongWindow (s : State) (st off : Nat) (v : Wrong) : State :=
  let size := 64 + 4 * s.r (Reg.stMAP_CELLS st)
  let x := s.stn st
  s.wStn st { x with window := x.window.map fun e =>
    if off / size ≤ e.1 ∧ e.1 ≤ (off + 63) / size then
      (e.1, e.2.map fun p => (p.1, if v.isNone then [] else
        p.2.zipIdx.map fun b => b.1 ^^^ BitVec.ofNat 8 (v.diff off (e.1 * size + b.2) 1)))
    else e }

/-- Coverage entries: an uncorrectable one is unavailable, its VALID bit clear (R197). -/
def State.wrongCov (s : State) (off : Nat) (v : Wrong) : State :=
  let cols := max 1 (s.r Reg.covCOV_COLS)
  s.each (List.range 32) fun j t =>
    let i := off / 2 + j
    match tget none t.cov.store (i / cols) with
    | some l =>
      let m : CovLine := { l with cells := l.cells.set (i % cols) (v.over off (2 * i) 2 0 (l.cells.getD (i % cols) 0)) }
      { t with cov := { t.cov with store := tset none t.cov.store (i / cols) (some m) } }
    | none => t

/-- A zone's delay history: entries of 16 bytes, newest first, the position in 8 bytes and y_m in 4 (log 104). -/
def State.wrongHist (s : State) (off : Nat) (v : Wrong) : State :=
  let z := off / 262144
  let x := s.zone z
  if 192 ≤ z then s
  else match v with
    | none => s.wZone z { x with memErr := true }
    | some _ => s.wZone z { x with hist := x.hist.zipIdx.map fun e =>
        let p := 262144 * z + 16 * e.2
        (sgn 64 (enc2 64 e.1.1 ^^^ v.diff off p 8), sgn 32 (enc2 32 e.1.2 ^^^ v.diff off (p + 8) 4)) }

/-- Raw history and frame store: an uncorrectable block truncates the export frame that carries it, which EXPORT_DROP does not count
(DESIGN CHOICE, assumption 23). -/
def State.wrongFrame (s : State) (h off : Nat) (raw : Bool) (v : Wrong) : State :=
  match v with
  | none => s.each (s.xOpenOf h raw) fun e t => t.wXFrame e.1 (some { e.2 with truncated := true })
  | some _ =>
    let key := 2 * h + b2n (!raw)
    let q : List StoredFrame := tget [] s.px.hist key
    let f := s.format h
    let w := max 1 f.1
    let n := max 1 (f.1 * f.2.1)
    let fix (e : StoredFrame × Nat) : StoredFrame :=
      { e.1 with lines := e.1.lines.map fun (ln : Nat × List Nat) =>
        (ln.1, ln.2.zipIdx.map fun (x : Nat × Nat) =>
          x.1 ^^^ v.diff off (2 * (e.2 * n + ln.1 * w + x.2)) 2) }
    { s with px := { s.px with hist := tset [] s.px.hist key (q.zipIdx.map fix) } }

/-- The consumer of a block acts on it; for the read of a partial write it is the writer of the item. -/
def State.wrongBlock (s : State) (r : MemRead) (v : Wrong) : State :=
  let inDram := decide (tget 8 s.shep.segs r.inst = 8)
  let it := r.item % 128
  if it = 1 then (if inDram then s.wrongRecords r.inst (r.offset / 8) v else s)
  else if it = 2 then s.wrongSharp r.inst (r.offset / 2) v
  else if it = 3 then s.wrongStage r.inst r.offset v
  else if it = 4 then (if (tget (8, 0) s.shep.bands r.inst).2 = 0 then s.wrongBand r.inst r.offset v else s)
  else if it = 5 then s.wrongWindow r.inst r.offset v
  else if it = 6 then s.wrongFrame r.inst r.offset true v
  else if it = 7 then s.wrongFrame r.inst r.offset false v
  else if it = 8 then s.wrongCov r.offset v
  else if it = 9 then s.wrongHist r.offset v
  else s

/-! ## Reads (R334-R336, R340, R356-R358) -/

/-- The service class of an item (R313, R342): region 3, the host and the debug port are SC3. -/
def itemClass (item : Nat) : Nat :=
  let i := item % 128
  if i = 0 then 3 else if i ≤ 3 then 0 else if i ≤ 8 then 1 else if i = 9 then 2 else 3

/-- SOURCE of an entry (R360). -/
def sourceOf (cls region : Nat) (scrub mirror : Bool) : Nat := cls % 8 + 8 * (region % 4) + 32 * b2n scrub + 64 * b2n mirror

/-- Recent entries of the last second. -/
def State.lastSecond {α : Type} (s : State) (at_ : α → Nat) (l : List α) : List α := l.filter fun e => decide (s.up < at_ e + 1000000000)

/-- n symbols of a block were corrected: counted, entered, and a trigger where the second's sum exceeds CE_RETRAIN (R351, R356). -/
def State.corrected (s : State) (d l n src : Nat) : State :=
  let s1 := (s.add32 (Reg.subCE_SYMBOLS d) n).memLog d 1 n src (rowOf l).1 (rowOf l).2
  let q := (s1.up, n) :: s1.lastSecond (·.1) (s1.subCh d).ces
  let s2 := s1.wSubCh d { s1.subCh d with ces := q }
  let lim := s2.r Reg.memCE_RETRAIN
  if lim ≠ 0 ∧ lim < (q.map (·.2)).sum then s2.retrainAsk d else s2

/-- The corrected block is to be written in SC4, unless a write to it is queued already (R356). -/
def State.fixAsk (s : State) (d blk : Nat) (waiting : List MemReq) : State :=
  let x := s.subCh d
  if (x.fix.any fun e => decide (e.1 = blk)) || waiting.any fun q => q.write && decide (q.block = blk) then s
  else s.wSubCh d { x with fix := x.fix ++ [(blk, s.up)] }

/-- An uncorrectable block is counted and entered; two within a second are a trigger (R351, R357). -/
def State.uncorrected (s : State) (d l src : Nat) : State :=
  let s1 := (s.bump (Reg.subUE_BLOCKS d)).memLog d 2 0 src (rowOf l).1 (rowOf l).2
  let q := s1.up :: s1.lastSecond id (s1.subCh d).ues
  let s2 := s1.wSubCh d { s1.subCh d with ues := q }
  if 2 ≤ q.length then s2.retrainAsk d else s2

/-- A block is uncorrectable until it is written whole or reads well again (log 104). -/
def State.ueAdd (s : State) (d blk : Nat) : State :=
  { s with mem := { s.mem with ue := (d, blk) :: s.mem.ue.filter (· ≠ (d, blk)) } }

/-- A block has been read well. -/
def State.ueDrop (s : State) (d blk : Nat) : State := { s with mem := { s.mem with ue := s.mem.ue.filter (· ≠ (d, blk)) } }

/-- An uncorrectable block of region 3: the odd copy is read next; when that is bad, too, or gone, the device resets (R340, R354). -/
def State.mirrorBad (s : State) (d l : Nat) : State :=
  let k := (d / 2, l / 64)
  if d % 2 = 0 then
    if s.rb Reg.memIN_SERVICE (d + 1) then { s with mem := { s.mem with copyBad := k :: s.mem.copyBad.filter (· ≠ k) } } else s.memFatal
  else if s.mem.copyBad.contains k ∨ !s.rb Reg.memIN_SERVICE (d - 1) then s.memFatal
  else s

/-- The good odd copy of a block replaces the even one that read uncorrectable. -/
def State.mirrorGood (s : State) (d l : Nat) : State :=
  if d % 2 = 0 then s
  else { s with mem := { s.mem with
    copyBad := s.mem.copyBad.filter (· ≠ (d / 2, l / 64)), ue := s.mem.ue.filter (· ≠ (d - 1, l / 64)) } }

/-- The write of a partial write whose read was uncorrectable is discarded (R336). -/
def State.partialLost (s : State) (d l src : Nat) : State := s.memLog d 4 0 src (rowOf l).1 (rowOf l).2

/-- What an uncorrectable block brings about; the write of a partial write to it is discarded. -/
def State.badBlock (s : State) (r : MemRead) (src : Nat) : State :=
  let d := r.subch.val
  let s1 := (s.uncorrected d r.local_ src).when (decide (128 ≤ r.item)) fun t => t.partialLost d r.local_ src
  if regionAt r.local_ = 3 then s1.mirrorBad d r.local_
  else if r.item % 128 = 0 then s1.ueAdd d (r.local_ / 64)
  else s1.wrongBlock r none

/-- An uncorrectable block; one that the scrubber finds counts once per pass (R358). -/
def State.badFound (s : State) (r : MemRead) (scrub : Bool) (src : Nat) : State :=
  let k := (r.subch.val, r.local_ / 64)
  if !scrub then s.badBlock r src
  else if s.mem.scrubUe.contains k then s
  else State.badBlock { s with mem := { s.mem with scrubUe := k :: s.mem.scrubUe } } r src

/-- A check block's ROW_TAG is another than the row slot and subchannel addressed: all 15 blocks it covers read uncorrectable (R335). -/
def State.tagFault (s : State) (r : MemRead) (scrub : Bool) (src : Nat) : State :=
  let d := r.subch.val
  let first := r.local_ / 64 - (rowOf r.local_).2 % 15
  let s1 := (s.bump (Reg.subTAG_FAULT d)).memLog d 3 0 src (rowOf r.local_).1 (checkPlace r.local_).1
  (s1.each (List.range 15) fun i t => t.ueAdd d (first + i)).badFound r scrub src

/-- The bytes of a block that still differ after decoding. -/
def residueMask (e : List (Nat × Nat)) : List Nat := (List.range 64).map fun p => tget 0 e p

/-- A block that the decoder delivers, n symbols corrected; what still differs reaches the block's consumer. -/
def State.readOk (s : State) (r : MemRead) (n : Nat) (rest : List (Nat × Nat)) (src : Nat) : State :=
  let d := r.subch.val
  let s1 := if n = 0 then s else (s.corrected d r.local_ n src).fixAsk d (r.local_ / 64) r.waiting
  let s2 := (if regionAt r.local_ = 3 then s1.mirrorGood d r.local_ else s1).ueDrop d (r.local_ / 64)
  if rest.any fun e => decide (e.1 < 64) then s2.wrongBlock r (some (residueMask rest)) else s2

/-- A block has been read. -/
def State.memLooked (s : State) (r : MemRead) (scrub : Bool) : State :=
  let d := r.subch.val
  let region := regionAt r.local_
  let src := sourceOf (if scrub then 4 else itemClass r.item) region scrub (decide (region = 3 ∧ d % 2 = 1) && !scrub)
  if s.r Reg.memMEM_STATE ≠ 3 then s
  else if !s.rb Reg.memIN_SERVICE d then (if region = 3 ∨ scrub then s else s.wrongBlock r none)
  else if r.tag ≠ rowTag d (rowOf r.local_).1 then s.tagFault r scrub src
  else match decodeEcc s.mem.eccMode r.errors with
    | some (n, rest) => s.readOk r n rest src
    | none => s.badFound r scrub src

/-- The scheduler goes on after a read. -/
def State.goOn (s : State) (r : MemRead) : State :=
  if s.r Reg.memMEM_STATE = 3 ∧ s.rb Reg.memIN_SERVICE r.subch.val then s.issueNext r.subch.val r.waiting [] else s

/-- A read completes, and the subchannel's scheduler goes on. -/
def State.memRead (s : State) (r : MemRead) (scrub : Bool) : State := (s.memLooked r scrub).goOn r

/-- Meaning of MEM_READ_DONE. -/
def execMemReadDone (dt : Nat) (r : MemRead) (s : State) : Host.Outcome State Fault Refusal := .next ((s.advance dt).memRead r false).done

/-- Data blocks of a subchannel (R331). -/
def State.subBlocks (s : State) : Nat := s.r Reg.memDENSITY * 65536 * 60

/-- Is a block the next of its subchannel in the pass, and due at the pace that completes the pass in SCRUB_PERIOD (R358)? -/
def State.scrubNext (s : State) (d blk : Nat) : Bool :=
  s.r Reg.memMEM_STATE = 3 && s.rb Reg.memIN_SERVICE d && decide (blk = (s.subCh d).scrubAt ∧ blk < s.subBlocks ∧
    s.mem.scrubCount * (60000000000 * s.r Reg.memSCRUB_PERIOD) ≤ (s.up - s.mem.scrubFrom) * (s.inService * s.subBlocks))

/-- Has every subchannel in service been read to its end? -/
def State.scrubEnded (s : State) : Bool :=
  (List.range 16).all fun k => !s.rb Reg.memIN_SERVICE k || decide (s.subBlocks ≤ (s.subCh k).scrubAt)

/-- A pass ends: SCRUB_PASS, ODECC_COUNT, and the next one begins (R336, R358). -/
def State.scrubEnd (s : State) : State :=
  let s1 := { s with mem := { s.mem with scrubFrom := s.up, scrubCount := 0, scrubUe := [] } }
  (s1.each ((List.range 16).filter fun k => s.rb Reg.memIN_SERVICE k) fun k t =>
    (t.wSubCh k { t.subCh k with scrubAt := 0 }).w (Reg.subODECC_COUNT k) (min 0xFFFFFFFF (t.subCh k).odecc)).bump Reg.memSCRUB_PASS

/-- The scrubber has read the next block of a subchannel with its check symbols; when the last block of every subchannel in service has
been read, the pass ends (R358). -/
def State.scrub (s : State) (r : MemRead) (odecc : Nat) : State :=
  let d := r.subch.val
  if !s.scrubNext d (r.local_ / 64) then s
  else
    let s1 := s.memRead r true
    if s1.r Reg.memMEM_STATE ≠ 3 then s1
    else
      let x := s1.subCh d
      let s2 := State.wSubCh { s1 with mem := { s1.mem with scrubCount := s1.mem.scrubCount + 1 } } d
        { x with scrubAt := x.scrubAt + 1, odecc := if s1.subBlocks ≤ x.scrubAt + 1 then odecc else x.odecc }
      if s2.scrubEnded then s2.scrubEnd else s2

/-- Meaning of SCRUB_READ. -/
def execScrubRead (dt : Nat) (r : MemRead) (odecc : Nat) (s : State) : Host.Outcome State Fault Refusal :=
  .next ((s.advance dt).scrub r odecc).done

end Sys2Proof.Machine
end

