-- ==== Sys2Proof/Machine/Thermal.lean ====
section
/-! DEFINITION. The housekeeping round: temperatures, rails, thermal bands, the throttle ladder, DRAM temperature bands and the clock
monitor (R260, R345-R348, R514-R523, R529). -/

namespace Sys2Proof.Machine

/-! ## Rails (R260, R517) -/

/-- Nominal voltage of rails 0-11, mV. -/
def railNominal : List Nat := [750, 750, 800, 800, 900, 900, 1200, 1100, 1100, 1800, 3300, 12000]

/-- Is a voltage outside a window of pct percent about its nominal value? -/
def outsidePct (nom pct v : Nat) : Bool := decide (100 * v < (100 - pct) * nom ∨ (100 + pct) * nom < 100 * v)

/-- Is rail k outside its warning window? -/
def railWarn (k v : Nat) : Bool := outsidePct (railNominal.getD k 0) (if k = 11 then 5 else 4) v

/-- Is rail k, of rails 0-10, outside its fault window? -/
def railFault (k v : Nat) : Bool := outsidePct (railNominal.getD k 0) 8 v

/-- Is VGATE (rail 11), VBOOST (12) or VHOLD (13) outside its range of R260, at mv mV (R517)? -/
def supplyOut (k mv : Nat) : Bool :=
  if k = 11 then decide (mv < 10500) else if k = 12 then decide (mv < 24000 ∨ 65000 < mv) else decide (mv < 12000 ∨ 28000 < mv)

/-- The rails of a round: warnings once per excursion, and faults. -/
def State.railRound (s : State) (rails : List Nat) : State :=
  let s1 := s.each rails.zipIdx fun e t => t.when (decide (e.2 < 14)) fun u => u.w (Reg.railVCORE_N + e.2) (min 65535 e.1)
  let s2 := s1.each (rails.take 12).zipIdx fun e t =>
    let warn := railWarn e.2 e.1
    let new := warn && !t.rb Reg.railRAIL_WARN e.2
    (t.wb Reg.railRAIL_WARN e.2 warn).when new fun u => u.event 0x0505 e.2 e.1
  let s3 := s2.each (rails.take 11).zipIdx fun e t =>
    let f := railFault e.2 e.1
    let n := if f then tget 0 t.pwr.faultRounds e.2 + 1 else 0
    { t.wb Reg.railRAIL_FAULT e.2 f with pwr := { t.pwr with faultRounds := tset 0 t.pwr.faultRounds e.2 n } }
  s3.each ((rails.take 14).zipIdx.drop 11) fun e t => t.wb Reg.railRAIL_FAULT e.2 (supplyOut e.2 e.1)

/-- A rail of 0-10 has been outside its fault window in two consecutive rounds. -/
def State.supplyFault (s : State) : Bool := (List.range 11).any fun k => decide (2 ≤ tget 0 s.pwr.faultRounds k)

/-- A bank's VHOLD and, in an injector bank, VBOOST outside their ranges in two consecutive rounds stop it; VGATE at once. -/
def State.bankSupply (s : State) (b : Nat) : State :=
  let bad := supplyOut 13 (s.r Reg.railVHOLD) || (decide (s.r (Reg.bkBANK_TYPE b) = 1) && supplyOut 12 (s.r Reg.railVBOOST))
  let x := s.bank b
  let s1 := s.wBank b { x with supplyBad := if bad then x.supplyBad + 1 else 0 }
  if bad ∧ 2 ≤ x.supplyBad + 1 ∧ !s1.rb (Reg.bkSTOP_CAUSE b) 4 then s1.bankStop b 4 false else s1

/-- VGATE and the banks' supplies. -/
def State.bankSupplies (s : State) : State :=
  let low := decide (s.r Reg.railVGATE < 10500)
  let s1 := { s with d2d := { s.d2d with vgateLow := low } }
  let s2 := if low ∧ !s.d2d.vgateLow then s1.stopAll 4 true else s1
  if s2.domUp 19 then s2.each bankNos fun b t => t.bankSupply b else s2

/-! ## Temperatures and thermal bands (R516, R518, R523) -/

/-- The greatest of a list of temperatures and its first index. -/
def hottest (ts : List Int) : Int × Nat :=
  ts.zipIdx.foldl (fun m e => if m.1 < e.1 then (e.1, e.2) else m) (ts.headD 0, 0)

/-- Publish TS0-TS15, T_MAX, its sensor and A_DIE_MEAN. -/
def State.tempRound (s : State) (ts : List Int) : State :=
  let s1 := s.each ts.zipIdx fun e t => t.when (decide (e.2 < 16)) fun u => u.wi 16 (Reg.tsTS0 + e.2) e.1
  let (m, k) := hottest ts
  let mean := roundHA (mkRat (((ts.drop 12).take 4).foldl (· + ·) 0) 4)
  ((s1.wi 16 Reg.thmT_MAX m).w Reg.thmT_MAX_SENSOR k).wi 16 Reg.tsA_DIE_MEAN mean

/-- Entry threshold of a thermal band, 0.1 degC. -/
def bandEntry (k : Nat) : Int := 950 + 50 * k

/-- Factor of a thermal band, %. -/
def bandFactor (k : Nat) : Nat := 100 - 15 * k

/-- The highest band whose entry threshold is reached. -/
def bandReached (t : Int) : Nat := (List.range 3).foldl (fun m k => if bandEntry (k + 1) ≤ t then k + 1 else m) 0

/-- Take another thermal band. -/
def State.toBand (s : State) (k : Nat) : State :=
  (State.w { s with pwr := { s.pwr with bandSince := s.up, coolSince := none } } Reg.thmTHERMAL_BAND k).event 0x0501 0 k

/-- The thermal band of a round (R518). -/
def State.bandRound (s : State) : State :=
  let t := s.ri 16 Reg.thmT_MAX
  let b := s.r Reg.thmTHERMAL_BAND
  if b < bandReached t then s.toBand (bandReached t)
  else if b = 0 ∨ bandEntry b - 30 ≤ t then { s with pwr := { s.pwr with coolSince := none } }
  else
    let from_ := s.pwr.coolSince.getD s.up
    if s.since from_ 1000000000 ∧ s.since s.pwr.bandSince 1000000000 then
      let u := s.toBand (b - 1)
      { u with pwr := { u.pwr with coolSince := if 1 < b ∧ t < bandEntry (b - 1) - 30 then some s.up else none } }
    else { s with pwr := { s.pwr with coolSince := some from_ } }

/-- P_lim in 0.1 W, exact. -/
def State.pLim (s : State) : Rat := mkRat (s.r Reg.opPOWER_LIMIT * bandFactor (s.r Reg.thmTHERMAL_BAND) : Nat) 100

/-- The safe cause THERMAL in every zone (R241, R523). -/
def State.thermalCause (s : State) (v : Bool) : State := s.each zoneNos fun z t => t.wb (Reg.zsSAFE_CAUSE z) 4 v

/-- SAFE_T (R523). -/
def State.safeRound (s : State) : State :=
  let t := s.ri 16 Reg.thmT_MAX
  let lim : Int := s.r Reg.thmSAFE_T
  if lim ≤ t then
    let s1 := { s with pwr := { s.pwr with safe := true, safeCool := none } }
    if s.pwr.safe then s1 else (s1.thermalCause true).event 0x0508 0 (enc2 32 t)
  else if !s.pwr.safe then s
  else if lim - 30 ≤ t then { s with pwr := { s.pwr with safeCool := none } }
  else
    let from_ := s.pwr.safeCool.getD s.up
    if s.since from_ 1000000000 then State.thermalCause { s with pwr := { s.pwr with safe := false, safeCool := none } } false
    else { s with pwr := { s.pwr with safeCool := some from_ } }

/-! ## The throttle ladder (R519-R522) -/

/-- Running stations in the order in which the ladder stops them. -/
def State.ladderOrder (s : State) : List Nat :=
  let p (st : Nat) : Nat := s.r (Reg.sintST_PRIO st)
  sortBy (fun x y => decide (p x < p y ∨ (p x = p y ∧ y < x))) (stations.filter s.runs)

/-- Stations stopped at a level: bit mask. -/
def State.ladderStops (s : State) (level : Nat) : Nat :=
  let l := s.ladderOrder
  let n := if level < 2 then 0 else if level = 2 then l.length / 2 else l.length - 1
  (l.take n).foldl (fun m st => setBit st true m) 0

/-- The cap of a level, ns; 0 none. -/
def ladderCap (level : Nat) : Nat := if level < 4 then 0 else if level = 4 then 1333334 else if level = 5 then 2000000 else 4000000

/-- A set as a cap leaves it. -/
def PSet.capped (p : PSet) (host : Option Nat) (cap : Nat) : PSet :=
  { p with vals := p.vals.map fun e => if e.1 = 0x103 then (0x103, max (host.getD e.2) cap) else e }

/-- The configuration as it would run at a level, for P_est only. -/
def State.atLevel (s : State) (level : Nat) : State :=
  let cap := if s.follower then 0 else ladderCap level
  let s1 := s.w Reg.shpSHED_STATIONS (s.r Reg.shpSHED_STATIONS ||| s.ladderStops level)
  let s2 := s1.when (decide (1 ≤ level)) fun t => t.w Reg.shpSHED_HISTORY 0xFFFFFFFF
  if s.follower then s2
  else { s2 with pipes := s2.pipes.map fun e => (e.1, { e.2 with
    cur := e.2.cur.map fun p => p.capped e.2.hostInterval cap, armed := e.2.armed.map fun p => p.capped e.2.hostInterval cap }) }

/-- P_est at a level, 0.1 W: the placement stays as it is. -/
def State.estAt (s : State) (level : Nat) : Rat :=
  10 * (s.atLevel level).pEst { used := s.r Reg.shpPOOL_SLOTS, segs := s.shep.segs, bands := s.shep.bands } s.placing

/-- Corrected streams that run in a format. -/
def State.inFormat (s : State) (f : Nat) : List Nat :=
  streamNos.filter fun x => decide (s.r (Reg.strmKIND x) = 1 ∧ s.r (Reg.strmPLACED_GROUP x) ≠ 0xFF ∧ s.r (Reg.strmPLACED_FORMAT x) = f)

/-- Does level k change anything? -/
def State.levelChanges (s : State) (k : Nat) : Bool :=
  if k = 1 then headNos.any fun h => s.placed h && decide (0 < s.rawDepth h + s.fsDepth h)
  else if k ≤ 3 then decide (s.ladderStops k ≠ s.ladderStops (k - 1))
  else if k ≤ 6 then !s.follower && headNos.any fun h => s.placed h && (s.pipe h).cur.any fun c =>
    decide (max ((s.pipe h).hostInterval.getD (c.v 0x103)) (ladderCap (k - 1)) < ladderCap k)
  else !(s.inFormat (9 - k)).isEmpty

/-- The ladder's downgrades for a level: what it has downgraded goes back to the format it came from as far as the level allows. -/
def State.easeFormats (s : State) (level : Nat) : State :=
  let top := if level < 7 then 2 else if level = 7 then 1 else 0
  let s1 := s.each s.pwr.eased fun e t =>
    t.when (decide (t.r (Reg.strmPLACED_GROUP e.1) ≠ 0xFF)) fun u =>
      u.wAll [(Reg.strmPLACED_FORMAT e.1, min e.2 top), (Reg.strmSTREAM_STATE e.1, if min e.2 top < u.r (Reg.strmFORMAT e.1) then 4 else 1)]
  let s2 := { s1 with pwr := { s1.pwr with eased := s1.pwr.eased.filter fun e => decide (top < e.2) } }
  s2.each ((s2.inFormat 2 ++ s2.inFormat 1).filter fun x => decide (top < s2.r (Reg.strmPLACED_FORMAT x))) fun x t =>
    let old := t.r (Reg.strmPLACED_FORMAT x)
    let u := { t with pwr := { t.pwr with eased := if t.pwr.eased.any fun e => e.1 = x then t.pwr.eased else t.pwr.eased ++ [(x, old)] } }
    u.wAll [(Reg.strmPLACED_FORMAT x, top), (Reg.strmSTREAM_STATE x, 4)]

/-- Stations stopped and released as a level asks. -/
def State.throttle (s : State) (level : Nat) : State :=
  let old := s.r Reg.thmTHROTTLED_ST
  let new := s.ladderStops level
  (s.w Reg.thmTHROTTLED_ST new).each (stations.filter fun st => bit st old != bit st new) fun st t =>
    if bit st new then t.stStop st
    else t.when (decide (t.r Reg.opDEVICE_STATE = stRUN) && t.runs st) fun u => (u.stStart st).stationEnters st

/-- A level is in force: its actions are brought about for the configuration as it stands. -/
def State.ladderSet (s : State) (level : Nat) : State :=
  let cap := if s.follower then 0 else ladderCap level
  let s1 := (s.w Reg.thmLADDER_LEVEL level).throttle level
  let s2 := if cap = s1.pwr.cap then s1
    else State.each { s1 with pwr := { s1.pwr with cap := cap } } headNos fun h t => t.capCommit h
  s2.easeFormats level

/-- The next level that changes anything. -/
def State.nextLevel (s : State) : Option Nat :=
  ((List.range 8).map (· + 1)).find? fun k => decide (s.r Reg.thmLADDER_LEVEL < k) && s.levelChanges k

/-- Take a level. -/
def State.ladderStep (s : State) : State :=
  match s.nextLevel with
  | none => s
  | some k =>
    let s1 := State.ladderSet { s with pwr := { s.pwr with ladderAt := some s.up } } k
    (s1.bump Reg.thmLADDER_STEPS).event 0x0502 k (roundHA (s1.estAt k)).toNat

/-- Has at least n ns passed since a time that may not have come? -/
def State.sinceOpt (s : State) (t : Option Nat) (n : Nat) : Bool := match t with
  | some u => s.since u n
  | none => true

/-- Is any subchannel in band X? -/
def State.anyHot (s : State) : Bool := (List.range 16).any fun d => s.rb Reg.memIN_SERVICE d && decide (s.r (Reg.subBAND d) = 2)

/-- The governor (R520, R521). -/
def State.govern (s0 : State) : State :=
  let l := s0.r Reg.thmLADDER_LEVEL
  let s := s0.ladderSet l
  let lim := s.pLim
  if lim < s.estAt l then (if s.sinceOpt s.pwr.ladderAt 1000000000 then s.ladderStep else s)
  else if 0 < l ∧ s.estAt (l - 1) ≤ (mkRat 9 10) * lim ∧ !s.anyHot ∧ s.sinceOpt s.pwr.ladderAt 10000000000 ∧ s.sinceOpt s.pwr.undoAt 10000000000 then
    State.ladderSet { s with pwr := { s.pwr with undoAt := some s.up } } (l - 1)
  else s

/-! ## DRAM temperature bands (R345-R348) -/

/-- A rise: the excess of the backlog is issued at once, and the first interval of the new rate starts then; a retrain follows. -/
def State.bandRise (s : State) (d new : Nat) : State :=
  let b := s.r (Reg.subBACKLOG d)
  let lim := bandLimit new
  let s1 := (s.w (Reg.subBAND d) new).w (Reg.subBACKLOG d) (min b lim)
  let x := s1.subCh d
  let s2 := s1.wSubCh d { x with refreshAt := if lim < b then s1.up else x.refreshAt, interval := bandInterval new, coolSince := none }
  (s2.refreshed d (b - lim) []).retrainAsk d

/-- The band of one subchannel after a reading of its hotter device. -/
def State.dramBand (s : State) (d : Nat) (t : Int) : State :=
  let b := s.r (Reg.subBAND d)
  let x := s.subCh d
  let up := if 95 ≤ t then 2 else if 85 ≤ t ∧ b = 0 then 1 else b
  let exit : Int := if b = 2 then 92 else 82
  if b < up then s.bandRise d up
  else if b = 0 ∨ exit ≤ t then s.wSubCh d { x with coolSince := none }
  else
    let from_ := x.coolSince.getD s.up
    if s.since from_ 1000000000 then ((s.wSubCh d { x with coolSince := none }).w (Reg.subBAND d) (b - 1)).retrainAsk d
    else s.wSubCh d { x with coolSince := some from_ }

/-- The subchannels in service take their temperatures. -/
def State.dramRound (s : State) (ts : List Int) : State :=
  if s.r Reg.memMEM_STATE ≠ 3 then s
  else s.each ((List.range 16).filter fun d => s.rb Reg.memIN_SERVICE d) fun d t =>
    (t.wi 16 (Reg.subDEV_TEMP d) (ts.getD d 0)).dramBand d (ts.getD d 0)

/-- Band X takes a ladder step a second; at the end of the ladder, or at 100 degC, the device stops (R348). -/
def State.hotRound (s : State) : State :=
  match (List.range 16).find? fun d => s.rb Reg.memIN_SERVICE d && decide (s.r (Reg.subBAND d) = 2) with
  | none => { s with mem := { s.mem with hotSince := none, hotAt := none } }
  | some d =>
    let from_ := s.mem.hotSince.getD s.up
    let due := s.sinceOpt s.mem.hotAt 1000000000
    let s1 := { s with mem := { s.mem with hotSince := some from_, hotAt := if due then some s.up else s.mem.hotAt } }
    let s2 := if due then s1.event 0x0202 d (enc2 32 (s1.ri 16 (Reg.subDEV_TEMP d))) else s1
    if (List.range 16).any fun k => s.rb Reg.memIN_SERVICE k && decide (100 ≤ s.ri 16 (Reg.subDEV_TEMP k)) then s2.orderlyStop 2
    else if s2.nextLevel.isNone then
      (if s2.since from_ 1000000000 ∧ s2.sinceOpt s2.pwr.ladderAt 1000000000 then s2.orderlyStop 2 else s2)
    else if due ∧ s2.sinceOpt s2.pwr.ladderAt 1000000000 then s2.ladderStep
    else s2

/-! ## The round (R515) -/

/-- A round's stops and the trigger of a self-calibration (R517, R524, R529). -/
def State.roundEnd (s : State) : State :=
  let s1 := if 1180 ≤ s.ri 16 Reg.thmT_MAX then s.orderlyStop 1 else s
  let s2 := if s1.supplyFault then s1.orderlyStop 4 else s1
  let drift := (s2.ri 16 Reg.tsA_DIE_MEAN - s2.ri 16 Reg.calCAL_REF_T).natAbs
  if 10 * s2.r Reg.calCAL_DT < drift then s2.calStart 1 else s2

/-- Has ring time reached a multiple of 10,000,000 ns at which no round has been taken (R515)? -/
def State.roundDue (s : State) : Bool := decide (s.pwr.roundNo ≠ some (s.now / 10000000))

/-- One housekeeping round, of which ring time has one at each multiple of 10,000,000 ns (R515); none is taken during a cut-off. -/
def State.houseRound (s0 : State) (i : HouseIn) : State :=
  if s0.pwr.cutoff ∨ !s0.roundDue then s0
  else
    let s := { s0 with pwr := { s0.pwr with roundNo := some (s0.now / 10000000) } }
    let s1 := ((s.tempRound i.ts).railRound i.rails).bankSupplies
    let s2 := s1.bandRound
    let s3 := (s2.w Reg.thmP_LIM s2.pLim.floor.toNat).safeRound
    (((if s3.r Reg.opDEVICE_STATE = stSTANDBY then s3 else s3.dramRound i.dram).govern).hotRound).roundEnd

/-- Meaning of HOUSEKEEPING_ROUND. -/
def execHousekeepingRound (dt : Nat) (i : HouseIn) (s : State) : Host.Outcome State Fault Refusal :=
  .next ((s.advance dt).houseRound i).done

/-! ## Clock monitor (R514) -/

/-- Is a frequency more than 1 % off, or absent? -/
def clockBad (nom f : Nat) : Bool := outsidePct nom 1 f

/-- One clock's bit of CLOCK_STATE; true when it has just become bad. -/
def State.clockBit (s : State) (k : Nat) (bad : Bool) : State × Bool :=
  let new := bad && !s.rb Reg.thmCLOCK_STATE k
  let s1 := s.wb Reg.thmCLOCK_STATE k bad
  (if new then s1.event 0x0506 k 0 else s1, new)

/-- Lanes that run from a reference: A the head and export lanes; B the partner and aux lanes, and the ring lanes that no recovered clock
feeds (R365, R369). -/
def State.refLanes (s : State) (b : Bool) : List Nat :=
  if b then (List.range 8).map (80 + ·) |>.filter (fun l => (s.lane l).clock.isNone) |>.append ((List.range 8).map (88 + ·))
  else List.range 80

/-- The counts of one millisecond; a reference or crystal that is lost moves its block to its internal oscillator (R514). -/
def State.clockCheck (s : State) (sysHz laneA laneB crystal : Nat) : State :=
  let (s1, a) := s.clockBit 0 (clockBad 100000000 sysHz)
  let (s2, b) := s1.clockBit 1 (clockBad 156250000 laneA)
  let (s3, c) := s2.clockBit 2 (clockBad 156250000 laneB)
  let (s4, d) := s3.clockBit 3 (clockBad 32768 crystal)
  let lost := (if b then s4.refLanes false else []) ++ (if c then s4.refLanes true else [])
  let osc := { s4 with pwr := { s4.pwr with intSys := s4.pwr.intSys || a, intCrystal := s4.pwr.intCrystal || d } }
  let s5 := osc.each lost fun l t => t.when (t.laneUp l) fun u => u.laneLoss l 0 false
  if a then s5.orderlyStop 5 else s5

/-- Meaning of CLOCK_CHECK. -/
def execClockCheck (dt : Nat) (sysHz laneAHz laneBHz crystalHz : Nat) (s : State) : Host.Outcome State Fault Refusal :=
  .next ((s.advance dt).clockCheck sysHz laneAHz laneBHz crystalHz).done

end Sys2Proof.Machine
end

