-- ==== Sys2Proof/Machine/Admit.lean ====
section
/-! DEFINITION. What a write of an object brings about: the relations its chapter states, admission, what the value does, and what
follows the write (R317, R325, R431, R435, R446). -/

namespace Sys2Proof.Machine

/-! ## Where an outcome goes (R438, R443, R580) -/

/-- Send a response frame to a requester and keep it for 1 s among the newest 32 of that source (R440). -/
def State.objRsp (s : State) (dst req : Nat) (payload : Bytes) : State :=
  let mine := (s.od.kept.filter fun k => k.src = dst).take 31
  let k : Kept := ⟨dst, req, s.up, payload⟩
  State.ringSend { s with od := { s.od with kept := k :: mine ++ s.od.kept.filter fun k => k.src ≠ dst } } 0x02 dst 0 payload

/-- An OBJ_RSP payload (R438). -/
def rspPayload (status key req token : Nat) (d : Bytes) : Bytes :=
  leBytes 1 status ++ leBytes 1 (key % 256) ++ leBytes 2 (key / 256) ++ leBytes 2 req ++ leBytes 1 d.length ++ leBytes 1 0 ++
    leBytes 2 token ++ leBytes 2 0 ++ padTo ((d.length + 3) / 4 * 4) d

/-- A BLOCK_RSP payload (R443). -/
def blockPayload (status key xfer bytes crc : Nat) : Bytes :=
  leBytes 1 status ++ leBytes 1 (key % 256) ++ leBytes 2 (key / 256) ++ leBytes 2 xfer ++ leBytes 2 0 ++ leBytes 4 bytes ++ leBytes 4 crc

/-- Tell the outcome of a write. -/
def State.respond (s : State) (r : Reply) (status token : Nat) : State :=
  match r with
  | .own => s.answer status token
  | .obj dst key req => s.objRsp dst req (rspPayload status key req token [])
  | .block dst key xfer n crc =>
    s.ringSend 0x05 dst 0 (if status = 0 then blockPayload 0 key xfer n crc else blockPayload status key xfer 0 0)
  | .debug => { s with tap := { s.tap with objStatus := status, objToken := token } }
  | .nobody => s

/-! ## Groups of instances -/

/-- The instance that a key names in a group of objects, when it names subindex sub of it. -/
def instOf (base stride count sub key : Nat) : Option Nat :=
  let i := key / 256
  if key % 256 = sub ∧ base ≤ i ∧ i < base + stride * count ∧ (i - base) % stride = 0 then some ((i - base) / stride) else none

/-- One chapter's rule for an object of a group, by instance. -/
structure Hook (α : Type) where
  base : Nat
  stride : Nat
  count : Nat
  sub : Nat
  run : Nat → α

/-- The rule for a key, if a chapter has one. -/
def hookFor {α : Type} (l : List (Hook α)) (key : Nat) : Option α :=
  l.findSome? fun k => (instOf k.base k.stride k.count k.sub key).map k.run

/-! ## Relations between objects (R431) -/

/-- 90 % of SENSE_FS bounds every current object of a bank (R258). -/
def State.currentsOk (s : State) (b : Nat) : Bool :=
  let fs := 250000000 / s.r (Reg.bkSHUNT b)
  let cur := [s.r (Reg.bkI_END b), s.r (Reg.bdgI_OPEN b), s.r (Reg.bdgI_OC b)] ++
    ((List.range 3).map fun v => [s.prof b v 1, s.prof b v 3, s.prof b v 4, s.prof b v 7, s.prof b v 8]).flatten ++
    (List.range 8).map fun i => s.r (Reg.chI_FULL (8 * b + i))
  cur.all fun i => decide (10 * i ≤ 9 * fs)

/-- I_HOLD ≤ I_PEAK ≤ I_BOOST in one variant (R267 and its neighbours). -/
def State.profileOk (s : State) (b v : Nat) : Bool := decide (s.prof b v 7 ≤ s.prof b v 3 ∧ s.prof b v 3 ≤ s.prof b v 1)

/-- EV_MIN ≤ T_FULL / 2 and T_FULL ≤ MAX_ON (R264). -/
def State.timesOk (s : State) (n : Nat) : Bool :=
  decide (2 * s.r (Reg.chEV_MIN n) ≤ s.r (Reg.chT_FULL n) ∧ s.r (Reg.chT_FULL n) ≤ s.r (Reg.chMAX_ON n))

/-- T_HOT ≥ T_COLD + 10.0 °C. -/
def State.hotOk (s : State) (n : Nat) : Bool := decide (s.ri 16 (Reg.chT_COLD n) + 100 ≤ s.ri 16 (Reg.chT_HOT n))

/-- Does no other stream have the KIND and SOURCE of stream x (R329)? Streams of zone records have no source. -/
def State.streamOk (s : State) (x : Nat) : Bool :=
  let k := s.r (Reg.strmKIND x)
  k = 0 || (decide (k ≠ 3 ∨ s.r (Reg.strmSOURCE x) < 8) && streamNos.all fun y =>
    decide (y = x ∨ s.r (Reg.strmKIND y) ≠ k ∨ (k ≠ 4 ∧ s.r (Reg.strmSOURCE y) ≠ s.r (Reg.strmSOURCE x))))

/-- Does no other zone hold the channel of zone z (R246)? -/
def State.channelOk (s : State) (z : Nat) : Bool :=
  let c := s.r (Reg.zoCHANNEL z)
  c = 0xFF || (List.range 192).all fun y => decide (y = z ∨ s.r (Reg.zoCHANNEL y) ≠ c)

/-- Does no other slot hold the head of slot k (R217)? -/
def State.headOk (s : State) (k : Nat) : Bool :=
  let h := s.r (Reg.slotHEAD k)
  h = 0xFF || (List.range 64).all fun j => decide (j = k ∨ s.r (Reg.slotHEAD j) ≠ h)

/-- Entry i of a cyclic map as a key (R455). -/
def State.mapEntry (s : State) (m i : Nat) : Nat :=
  let b := padTo 128 (s.blob (Reg.mapENTRIES m))
  256 * fld (4 * i) 2 b + fld (4 * i + 2) 1 b

/-- The entries of a map. -/
def State.mapKeys (s : State) (m : Nat) : List Nat := (List.range (s.r (Reg.mapENTRY_COUNT m))).map fun i => s.mapEntry m i

/-- Bytes of a value in a cyclic slot; subindex 0 of an index is a U8 (R429). -/
def cycSize (key : Nat) : Nat := if key % 256 = 0 then (if indexExists (key / 256) then 1 else 0) else keySize key

/-- SLOT_LEN (R452). -/
def State.slotLen (s : State) (m : Nat) : Nat := ((s.mapKeys m).map cycSize).foldl (· + ·) 0

/-- The checks of R455 on a map that is enabled. -/
def State.cycMapOk (s : State) (m : Nat) : Bool :=
  let dir := s.r (Reg.mapDIRECTION m)
  ((s.mapKeys m).all fun k =>
    if k % 256 = 0 then indexExists (k / 256) && decide (dir = 1)
    else (rowAt k).any fun r => r.ty ≠ .block && r.ty ≠ .str && r.acc ≠ .act && (decide (dir = 1) || r.acc = .rw)) &&
  decide (s.slotLen m ≤ 256) &&
  (List.range 8).all fun j => decide (j = m ∨ s.r (Reg.mapMAP_ENABLE j) = 0 ∨ s.r (Reg.mapMAP_ID j) ≠ s.r (Reg.mapMAP_ID m) ∨
    s.r (Reg.mapDIRECTION j) ≠ dir)

/-- Relations by object; `old` is the state before the write. -/
def State.relHooks (old s : State) : List (Hook Bool) :=
  let profs := ((List.range 3).map fun v => ([1, 3, 7].map fun k =>
    (⟨0x5001 + v, 8, 24, k, fun b => s.profileOk b v && s.currentsOk b⟩ : Hook Bool))).flatten
  let hyst := ((List.range 3).map fun v => ([4, 8].map fun k => (⟨0x5001 + v, 8, 24, k, fun b => s.currentsOk b⟩ : Hook Bool))).flatten
  [⟨0x4001, 6, 192, 5, fun z => decide (s.r (Reg.zcOUT_MIN z) ≤ s.r (Reg.zcOUT_MAX z))⟩,
   ⟨0x4001, 6, 192, 6, fun z => decide (s.r (Reg.zcOUT_MIN z) ≤ s.r (Reg.zcOUT_MAX z))⟩,
   ⟨0x4003, 6, 192, 1, fun z => s.channelOk z⟩,
   ⟨0x3001, 8, 32, 1, fun h => decide (s.r (Reg.hdNATIVE_W h) = 0 ∨ s.r (Reg.hsWIDTH h) ≤ s.r (Reg.hdNATIVE_W h))⟩,
   ⟨0x3001, 8, 32, 2, fun h => decide (s.r (Reg.hdNATIVE_H h) = 0 ∨ s.r (Reg.hsHEIGHT h) ≤ s.r (Reg.hdNATIVE_H h))⟩,
   ⟨0x2140, 1, 64, 1, fun x => s.streamOk x⟩, ⟨0x2140, 1, 64, 2, fun x => s.streamOk x⟩,
   ⟨0x3408, 16, 8, 1, fun st => s.headOk (8 * st)⟩, ⟨0x3409, 16, 8, 1, fun st => s.headOk (8 * st + 1)⟩,
   ⟨0x340A, 16, 8, 1, fun st => s.headOk (8 * st + 2)⟩, ⟨0x340B, 16, 8, 1, fun st => s.headOk (8 * st + 3)⟩,
   ⟨0x340C, 16, 8, 1, fun st => s.headOk (8 * st + 4)⟩, ⟨0x340D, 16, 8, 1, fun st => s.headOk (8 * st + 5)⟩,
   ⟨0x340E, 16, 8, 1, fun st => s.headOk (8 * st + 6)⟩, ⟨0x340F, 16, 8, 1, fun st => s.headOk (8 * st + 7)⟩,
   ⟨0x5400, 3, 192, 4, fun n => s.timesOk n⟩, ⟨0x5400, 3, 192, 5, fun n => s.timesOk n⟩, ⟨0x5400, 3, 192, 6, fun n => s.timesOk n⟩,
   ⟨0x5400, 3, 192, 13, fun n => s.hotOk n⟩, ⟨0x5400, 3, 192, 14, fun n => s.hotOk n⟩,
   ⟨0x5400, 3, 192, 10, fun n => s.currentsOk (n / 8)⟩,
   ⟨0x5000, 8, 24, 8, fun b => s.currentsOk b⟩, ⟨0x5000, 8, 24, 9, fun b => s.currentsOk b⟩,
   ⟨0x5006, 8, 24, 3, fun b => s.currentsOk b⟩, ⟨0x5006, 8, 24, 5, fun b => s.currentsOk b⟩] ++ profs ++ hyst ++
  [⟨0x3005, 8, 32, 9, fun h => decide (s.r (Reg.pcREAD_INDEX h) = 0 ∨ s.r (Reg.pcREAD_INDEX h) < s.r (Reg.pcSEG_RECORDS h))⟩,
   ⟨0x1110, 1, 8, 1, fun m => decide (s.r (Reg.mapMAP_ENABLE m) = 0) || s.cycMapOk m⟩,
   ⟨0x6000, 1, 1, 4, fun _ => decide (s.r Reg.dbgLIVE_ACT = 0 ∨ s.fac.lifeCycle = 1)⟩,
   ⟨0x2502, 1, 1, 1, fun _ => (old.spiSelect (old.r Reg.spiSPI_SEL) (s.r Reg.spiSPI_SEL)).isRight⟩]

/-- Does a written value keep the relations that its chapter states? `old` is the state before, `s` the state with the value. -/
def State.relOk (old s : State) (key : Nat) : Bool := (hookFor (old.relHooks s) key).getD true

/-! ## Admission (R317) -/

/-- Is a write of v to the object an admission event? `s` is the state before it. -/
def State.admits (s : State) (key v : Nat) : Bool :=
  let idx := key / 256
  let from0 := decide (s.r key = 0 ∧ v ≠ 0)
  ((instOf 0x3400 16 8 1 key).isSome && from0) || ((instOf 0x4000 6 192 1 key).isSome && from0) ||
  (decide (key = Reg.covCOV_ENABLE) && from0) || decide (key = Reg.opPOWER_LIMIT) ||
  decide (0x2110 ≤ idx ∧ idx < 0x2180)

/-- Does a write that ends something change the placement without an admission? -/
def State.frees (s : State) (key v : Nat) : Bool :=
  ((instOf 0x3400 16 8 1 key).isSome || (instOf 0x4000 6 192 1 key).isSome || decide (key = Reg.covCOV_ENABLE)) &&
    decide (s.r key ≠ 0 ∧ v = 0)

/-- The values stored, with BAND_LINES as Shepherd sizes it for a station that is to run. -/
def State.stored (s : State) (vals : List (Nat × Nat)) : State :=
  (s.wAll vals).each vals fun e t => match instOf 0x3400 16 8 1 e.1 with
    | some st => t.when (decide (e.2 = 1)) fun u => u.w (Reg.sstBAND_LINES st) (u.bandNeed st)
    | none => t

/-! ## What a written value does -/

/-- RUN of a station (R205, R213, R227, R245, R510). -/
def State.runSet (s : State) (st old v : Nat) : State :=
  if old = 0 ∧ v = 1 then (if s.r Reg.opDEVICE_STATE = stRUN then (s.stStart st).stationEnters st else s)
  else if old = 1 ∧ v = 0 then (s.stStop st).wb Reg.shpSHED_STATIONS st false
  else s

/-- LOAD_PCT of the bank that a zone's channel lies in (R277). -/
def State.zoneLoad (s : State) (c : Nat) : State := if c < 192 then s.bankLoad (c / 8) else s

/-- HEAD of a slot: another head ends the slot's map (R217). -/
def State.headSet (s : State) (k old v : Nat) : State :=
  if old = v then s else ((s.wBlob (Reg.slotMAP k) []).w (Reg.slotMAP_CRC k) 0).stSpan (k / 8)

/-- TICK_PERIOD: the next tick is the first that starts after the write. -/
def State.periodSet (s : State) (v : Nat) : State :=
  State.each { s with tick := { s.tick with next := s.now / (1000 * v) + 1 } } (List.range 24) fun b t => t.bankLoad b

/-- AGE_SCn is written: what it was before goes on for the requests that have arrived (R362). No limit is above one second. -/
def State.ageWrite (s : State) (c old : Nat) : State :=
  { s with mem := { s.mem with ageLog := (s.up, c, old) :: s.mem.ageLog.filter fun e => decide (s.up < e.1 + 1000000000) } }

/-- What each written value does, by object. -/
def State.effectHooks (s : State) (old v : Nat) : List (Hook State) :=
  [⟨0x3400, 16, 8, 1, fun st => s.runSet st old v⟩,
   ⟨0x4000, 6, 192, 1, fun z => (s.zoneRunSet z v).zoneLoad (s.r (Reg.zoCHANNEL z))⟩,
   ⟨0x4003, 6, 192, 1, fun _ => (s.zoneLoad old).zoneLoad v⟩,
   ⟨0x3488, 1, 1, 1, fun _ => if old = 0 ∧ v = 1 then s.covStart else s⟩,
   ⟨0x3408, 16, 8, 1, fun st => s.headSet (8 * st) old v⟩, ⟨0x3409, 16, 8, 1, fun st => s.headSet (8 * st + 1) old v⟩,
   ⟨0x340A, 16, 8, 1, fun st => s.headSet (8 * st + 2) old v⟩, ⟨0x340B, 16, 8, 1, fun st => s.headSet (8 * st + 3) old v⟩,
   ⟨0x340C, 16, 8, 1, fun st => s.headSet (8 * st + 4) old v⟩, ⟨0x340D, 16, 8, 1, fun st => s.headSet (8 * st + 5) old v⟩,
   ⟨0x340E, 16, 8, 1, fun st => s.headSet (8 * st + 6) old v⟩, ⟨0x340F, 16, 8, 1, fun st => s.headSet (8 * st + 7) old v⟩,
   ⟨0x2000, 1, 1, 4, fun _ => s.periodSet v⟩,
   ⟨0x5400, 3, 192, 1, fun n => s.bankLoad (n / 8)⟩, ⟨0x5400, 3, 192, 4, fun n => s.bankLoad (n / 8)⟩,
   ⟨0x5006, 8, 24, 1, fun b => if v = 0 then s.diagOff b else s⟩,
   ⟨0x5000, 8, 24, 1, fun b => s.bankTypeSet b v⟩,
   ⟨0x3001, 8, 32, 5, fun h => s.wHd h { s.hd h with biasSet := true }⟩,
   ⟨0x2201, 1, 1, 1, fun _ => s.ageWrite 0 old⟩, ⟨0x2201, 1, 1, 2, fun _ => s.ageWrite 1 old⟩, ⟨0x2201, 1, 1, 3, fun _ => s.ageWrite 2 old⟩,
   ⟨0x2201, 1, 1, 4, fun _ => s.ageWrite 3 old⟩, ⟨0x2201, 1, 1, 5, fun _ => s.ageWrite 4 old⟩,
   ⟨0x2370, 1, 4, 1, fun a => s.auxSet a v⟩, ⟨0x2370, 1, 4, 2, fun a => s.auxRate a old v⟩,
   ⟨0x2370, 1, 4, 3, fun a => s.w (Reg.auxSLIP_POS a) (s.r (Reg.auxSLIP_POS a) % v)⟩,
   ⟨0x2370, 1, 4, 6, fun a => s.w (Reg.auxMATCH_COUNT a) 0⟩, ⟨0x2370, 1, 4, 7, fun a => s.w (Reg.auxMATCH_COUNT a) 0⟩,
   ⟨0x2370, 1, 4, 13, fun a => s.lullSet a v⟩,
   ⟨0x2502, 1, 1, 1, fun _ => match s.spiSelect old v with
     | .inr t => t
     | .inl _ => s⟩]

/-- What a written value does. -/
def State.applied (s : State) (key old v : Nat) : State := (hookFor (s.effectHooks old v) key).getD s

/-! ## Writes whose checks have passed -/

/-- The last value of each key in a list of writes. -/
def lastVals : List (Nat × Nat) → List (Nat × Nat)
  | [] => []
  | e :: l => if l.any fun d => d.1 = e.1 then lastVals l else e :: lastVals l

/-- The entries are made, then the values take effect in order, then breakpoints and the outcome. `old` is the state before the write,
`s` holds the values already. -/
def State.finish (s old : State) (src kind : Nat) (vals : List (Nat × Nat)) (r : Reply) : State :=
  let s1 := s.each vals fun e t => t.wrote src kind e.1 (keySize e.1) e.2
  let s2 := s1.each (lastVals vals) fun e t => t.applied e.1 (old.r e.1) e.2
  let s3 := s2.when (vals.any fun e => old.frees e.1 e.2) fun t => t.publish 0 t.placing t.runFormat
  (s3.each vals fun e t => t.bpWrite e.1).respond r 0 0

/-- Store values whose checks have passed: an admission event is put to Shepherd, and to the partner, first (R317, R325). What the
partner itself has written has been admitted by both already. -/
def State.commitVals (s : State) (src kind : Nat) (vals : List (Nat × Nat)) (r : Reply) : State :=
  let t := s.stored vals
  if vals.any fun e => s.admits e.1 e.2 then
    if src = 0x41 then t.admitNow.finish s src kind vals r
    else s.admission t (.write src kind vals r) (fun u => u.respond r 0x1D 0) fun c => c.finish s src kind vals r
  else t.finish s src kind vals r

/-- A write of one register: the checks of R620, then its effect. -/
def State.writeObj (s : State) (o : Origin) (kind key len v : Nat) (r : Reply) : State :=
  let st := s.accCheck o key len v (s.relOk (s.w key v) key)
  if st ≠ 0 then s.respond r st 0 else s.commitVals o.src kind [(key, v)] r

/-- A write by a command of its own, and what may follow from it for halts, stations and start-up. -/
def State.writeCmd (s : State) (o : Origin) (key v : Nat) : State := (s.writeObj o 1 key (keySize key) v .own).done

end Sys2Proof.Machine
end

