-- ==== Sys2Proof/Machine/WebCmd.lean ====
section
/-! DEFINITION. The commands of encoders, coverage, stations, slots and Shepherd (R185-R219, R317-R329). -/

namespace Sys2Proof.Machine

/-- Meaning of ENC_EDGE (R186). -/
def execEncEdge (dt : Nat) (e : Fin 4) (a b : Bool) (s : State) : Host.Outcome State Fault Refusal := .next ((s.advance dt).encEdge e a b)

/-- Meaning of ENC_LATCH (R187). -/
def execEncLatch (dt : Nat) (s : State) : Host.Outcome State Fault Refusal := .next (s.advance dt).encLatch

/-- Meaning of ENC_COARSE_COPY (R187). -/
def execEncCoarseCopy (dt : Nat) (s : State) : Host.Outcome State Fault Refusal := .next (s.advance dt).encCoarse

/-- Meaning of SPEED (R188). -/
def execSpeed (dt : Nat) (s : State) : Host.Outcome State Fault Refusal := .next (s.advance dt).encSpeed

/-- Apply a frame's effect when it has the type that the command names (R405). -/
def State.frameIn (s : State) (f : RingFrame) (ty : Nat) (eff : Effect) : State := if f.ty = ty then s.ringIn f eff else s

/-- Meaning of COVERAGE (R193-R198). -/
def execCoverage (dt : Nat) (f : RingFrame) (s : State) : Host.Outcome State Fault Refusal :=
  .next ((s.advance dt).frameIn f 0x30 (keepPayload f fun t => if f.src = 0 then t.covFrame f.payload else t))

/-- Meaning of HEAD_ABSENT (R205). -/
def execHeadAbsent (dt : Nat) (st slot : Fin 8) (s : State) : Host.Outcome State Fault Refusal :=
  .next ((s.advance dt).headAbsent (8 * st + slot))

/-- Meaning of STATION_RUN (R213, R317). -/
def execStationRun (dt : Nat) (st : Fin 8) (o : Origin) (v : Nat) (s : State) : Host.Outcome State Fault Refusal :=
  .next ((s.advance dt).writeCmd o (Reg.stRUN st) v)

/-- Meaning of SLOT_HEAD (R217). -/
def execSlotHead (dt : Nat) (st slot : Fin 8) (o : Origin) (v : Nat) (s : State) : Host.Outcome State Fault Refusal :=
  .next ((s.advance dt).writeCmd o (Reg.slotHEAD (8 * st + slot)) v)

/-- A map written into slot k (R191, R217). -/
def State.mapPut (s : State) (k : Nat) (d : Bytes) : Nat × State :=
  if mapOk d then (0, ((s.wBlob (Reg.slotMAP k) d).w (Reg.slotMAP_CRC k) (fld 8 4 d)).stSpan (k / 8)) else (0x15, s)

/-- Meaning of SLOT_MAP (R191). -/
def execSlotMap (dt : Nat) (st slot : Fin 8) (o : Origin) (offset : Nat) (data : Bytes) (s : State) : Host.Outcome State Fault Refusal :=
  .next ((s.advance dt).blockBy o (Reg.slotMAP (8 * st + slot)) offset data fun t => t.mapPut (8 * st + slot) data).done

/-- Meaning of COV_ENABLE (R219, R317). -/
def execCovEnable (dt : Nat) (o : Origin) (v : Nat) (s : State) : Host.Outcome State Fault Refusal :=
  .next ((s.advance dt).writeCmd o Reg.covCOV_ENABLE v)

/-- Meaning of ZONE_RUN (R249, R317). -/
def execZoneRun (dt : Nat) (z : Fin 192) (o : Origin) (v : Nat) (s : State) : Host.Outcome State Fault Refusal :=
  .next ((s.advance dt).writeCmd o (Reg.zbZONE_RUN z) v)

/-- Meaning of INTENT_WRITE (R328): a head's object sub, or a station's. -/
def execIntentWrite (dt : Nat) (o : Origin) (station : Bool) (i : Fin 32) (sub v : Nat) (s : State) : Host.Outcome State Fault Refusal :=
  .next ((s.advance dt).writeCmd o (256 * (if station then 0x2130 + i.val % 8 else 0x2110 + i.val) + sub % 256) v)

/-- Meaning of STREAM_WRITE (R329). -/
def execStreamWrite (dt : Nat) (x : Fin 64) (o : Origin) (sub v : Nat) (s : State) : Host.Outcome State Fault Refusal :=
  .next ((s.advance dt).writeCmd o (256 * (0x2140 + x.val) + sub % 256) v)

/-- Meaning of POWER_LIMIT (R461). -/
def execPowerLimit (dt : Nat) (o : Origin) (v : Nat) (s : State) : Host.Outcome State Fault Refusal :=
  .next ((s.advance dt).writeCmd o Reg.opPOWER_LIMIT v)

/-- A restored head gets a full attach, a restored station starts as at RUN going from 0 to 1 (R323). -/
def State.restoreItem (s : State) (item : Nat) : State :=
  let s1 := s.restored item
  let s2 := { s1 with shep := { s1.shep with watch := none, lastRestore := some s1.up } }
  let i := item % 256
  let s3 := (s2.when (decide (item / 256 = 1)) fun t => { t with shep := { t.shep with hdPend := setBit i false t.shep.hdPend } }).replaceWith 3
    (s2.placeStreams s2.checkCap s2.liveStreams).1
  if item / 256 = 1 then
    s3.when (s3.laneUp i) fun t => (t.wHd i { t.hd i with lastFull := none, fails := 0, authFails := 0 }).startAttach i
  else if item / 256 = 4 then s3.when (decide (s3.r Reg.opDEVICE_STATE = stRUN)) fun t => (t.stStart i).stationEnters i
  else s3

/-- RESTORE: the item whose hold has passed is restored, one at a time, with the partner's verdict where it is connected (R323-R325). -/
def State.restoreStep (s : State) : State :=
  let t := s.watchStep
  match t.restoreDue with
  | some i =>
    if t.shep.cands ≠ [] then t
    else if t.partnerUp then t.askPartner (t.restored i) (.restore i)
    else (t.restoreItem i).done
  | none => t

/-- Meaning of RESTORE. -/
def execRestore (dt : Nat) (s : State) : Host.Outcome State Fault Refusal := .next (s.advance dt).restoreStep

/-- A segment's copy has been made: the pipeline switches to it at the head's next SOF (R324). -/
def State.copyDone (s : State) (h : Nat) : State :=
  let x := s.pipe h
  if x.copying = 1 then s.wPipe h { x with copying := 2 } else s

/-- Meaning of SEGMENT_COPY_DONE. -/
def execSegmentCopyDone (dt : Nat) (h : Fin 32) (s : State) : Host.Outcome State Fault Refusal := .next ((s.advance dt).copyDone h)

end Sys2Proof.Machine
end

