-- ==== Sys2Proof/Machine/Actions.lean ====
section
/-! DEFINITION. The actions of life cycle, ring, pair and debug (R414, R497, R575, R576, R585, R591), apart from the commands that
trigger them: an object write, a debug access and a partner message can trigger them, too. -/

namespace Sys2Proof.Machine

/-! ## Life cycle (R575, R576) -/

/-- LC_RESULT of a request from source src: 0 when the transition is accepted. -/
def State.lcCheck (s : State) (src v : Nat) : Nat :=
  let f := s.fac.lifeCycle
  if v = 0 ∨ 3 < v then 1
  else if !((f = 0 && (v = 1 || v = 2)) || (f = 1 && (v = 2 || v = 3)) || (f = 2 && (v = 1 || v = 3))) then 2
  else if s.r Reg.opDEVICE_STATE ≠ stSTANDBY then 3
  else if v = 2 ∧ s.fac.ownerKey.isNone then 4
  else if f = 2 ∧ !(src = 0x40 && s.tap.unlocked) then 5
  else 0

/-- The pages of the user area in bank b (R535, R538). -/
def userPages (b : Nat) : List Nat := ((List.range 512).map fun i => 512 * b + i).filter fun p => 32 ≤ p

/-- The job that writes the user area of a bank with 0xFF. -/
def lcJob (b : Nat) : NvmJob := ⟨4, 0, none, (userPages b).map fun p => .page p (List.replicate 256 0xFF), [.lcPart]⟩

/-- The job that erases the configuration and radiometry areas of the boot flash (R551). -/
def lcFlashJob : FlashJob := ⟨.lifeCycle, (List.range 112).map fun i => .erase (0x1000000 + 0x10000 * i)⟩

/-- Steps 1 and 2 of an accepted transition: the life-cycle record, then the user area; on the way to RETURN keys and flash areas. -/
def State.lcStart (s : State) (v : Nat) : State :=
  let f := s.fac.lifeCycle
  let s1 := State.event { s with fac := { s.fac with
    lifeCycle := v, wipePending := true, transitions := min 255 (s.fac.transitions + 1) } } 0x0804 v f
  let s2 := s1.each (List.range 4) fun b t => t.nvmJob (lcJob b)
  if v = 3 then
    State.flashJob { s2 with fac := { s2.fac with kFleet := [], ownerKey := none } } lcFlashJob
  else s2

/-- LC_REQ with a value. -/
def State.lcRun (s : State) (v : Nat) : State :=
  let c := s.lcCheck (s.act Reg.lcLC_REQ).src v
  if c ≠ 0 then s.actDone Reg.lcLC_REQ c false else s.lcStart v

/-! ## Ring and pair (R414, R497) -/

/-- DEBUG_RESET (R526, R564). -/
def State.debugReset (s : State) : State := if s.stopHeld then s.actDone Reg.dbgDEBUG_RESET 0 false else s.wipe 7

/-- Stage A starts on every lane of both ports, from step 8 of start-up on (R412, R414, R570). -/
def State.ringBringUp (s : State) : State :=
  if !s.ringMay then s else (s.each (portLanes 0 ++ portLanes 1) fun l t => (t.wLane l {}).stageA l).ringPub

/-- RING_JOIN. -/
def State.ringJoinRun (s : State) : State := s.ringBringUp.actDone Reg.nodeRING_JOIN 0 true

/-- HANDOVER: the bellwether of a pair offers its authority to a partner that is ready. -/
def State.handoverRun (s : State) : State :=
  let c := s.handoverCheck
  s.offerHandover.actDone Reg.prHANDOVER c (decide (c = 0))

/-! ## Steps (R585) -/

/-- Bits of a mask. -/
def maskBits (n v : Nat) : List Nat := (List.range n).filter fun k => bit k v

/-- STEP_PIPES. -/
def State.stepPipesRun (s : State) (v : Nat) : State :=
  if v = 0 then s.actDone Reg.dbgSTEP_PIPES 2 false
  else if !((maskBits 32 v).all fun h => s.rb Reg.dbgHALTED_PIPES h) then s.actDone Reg.dbgSTEP_PIPES 1 false
  else State.actDone { s with boot := { s.boot with stepPipes := s.boot.stepPipes ||| v } } Reg.dbgSTEP_PIPES 0 true

/-- Heads present at a station, as a mask. -/
def State.presentHeads (s : State) (st : Nat) : Nat :=
  (List.range 8).foldl (fun m j => let k := 8 * st + j
    if s.slotHead k < 32 ∧ s.slotPresent k then setBit (s.slotHead k) true m else m) 0

/-- STEP_STATIONS. -/
def State.stepStationsRun (s : State) (v : Nat) : State :=
  if v = 0 then s.actDone Reg.dbgSTEP_STATIONS 2 false
  else if !((maskBits 8 v).all fun st => s.rb Reg.dbgHALTED_STATIONS st) then s.actDone Reg.dbgSTEP_STATIONS 1 false
  else State.actDone (s.each (maskBits 8 v) fun st t =>
    { t with boot := { t.boot with stepStations := tset 0 t.boot.stepStations st (t.presentHeads st) } }) Reg.dbgSTEP_STATIONS 0 true

/-- STEP_TICK. -/
def State.stepTickRun (s : State) : State :=
  if s.r Reg.dbgZONES_HALTED = 0 then s.actDone Reg.dbgSTEP_TICK 1 false
  else State.actDone { s with boot := { s.boot with stepTick := true } } Reg.dbgSTEP_TICK 0 true

/-! ## Debug (R579, R591) -/

/-- DBG_RELOCK: the port is locked again in DEPLOYED. -/
def State.relockRun (s : State) : State :=
  State.actDone { s with tap := { s.tap with unlocked := false } } Reg.dbgDBG_RELOCK 0 true

/-! ## Every action by its object (R448) -/

/-- What each ACT object does, by instance and value. -/
def State.actHooks (s : State) (v : Nat) : List (Hook State) :=
  [⟨0x1002, 1, 1, 1, fun _ => s.lcRun v⟩, ⟨0x1100, 1, 1, 4, fun _ => s.ringJoinRun⟩, ⟨0x2000, 1, 1, 2, fun _ => s.stateRun v⟩,
   ⟨0x2220, 1, 16, 5, fun d => s.subRetrain d⟩, ⟨0x2300, 1, 96, 6, fun l => s.laneAgain l⟩,
   ⟨0x2370, 1, 4, 4, fun a => s.bitSlip a⟩, ⟨0x2370, 1, 4, 9, fun a => s.captureArm a⟩,
   ⟨0x2403, 1, 1, 2, fun _ => s.calNow⟩, ⟨0x2502, 1, 1, 4, fun _ => s.spiGo⟩,
   ⟨0x2503, 1, 1, 1, fun _ => s.configSave⟩, ⟨0x2503, 1, 1, 2, fun _ => s.configClear⟩,
   ⟨0x2600, 1, 1, 0x0B, fun _ => s.handoverRun⟩,
   ⟨0x3000, 8, 32, 9, fun h => s.rebindRun h⟩, ⟨0x3001, 8, 32, 8, fun h => s.commitRun h⟩,
   ⟨0x3002, 8, 32, 0x2C, fun h => s.foldNowRun h v⟩,
   ⟨0x3005, 8, 32, 8, fun h => (s.wPersist h []).actDone (Reg.pcPERSIST_CLEAR h) 0 true⟩,
   ⟨0x3005, 8, 32, 0x20, fun h => s.tauCommitRun h⟩,
   ⟨0x5000, 8, 24, 2, fun b => s.armRun b v⟩, ⟨0x5006, 8, 24, 0x0A, fun b => s.wBank b { s.bank b with clear := true }⟩,
   ⟨0x5400, 3, 192, 0x0F, fun n => s.testRun n v⟩, ⟨0x5402, 3, 192, 2, fun n => s.wChan n { s.chan n with clear := true }⟩,
   ⟨0x6000, 1, 1, 5, fun _ => s.stepPipesRun v⟩, ⟨0x6000, 1, 1, 6, fun _ => s.stepStationsRun v⟩,
   ⟨0x6000, 1, 1, 7, fun _ => s.stepTickRun⟩, ⟨0x6000, 1, 1, 0x0C, fun _ => s.debugReset⟩, ⟨0x6000, 1, 1, 0x0E, fun _ => s.relockRun⟩]

/-- Does the follower leave the action to its bellwether, whose sets reach it as ARMED_SET and OFFSETS (R480, R495)? -/
def leftToBellwether (key : Nat) : Bool :=
  (instOf 0x3001 8 32 8 key).isSome || (instOf 0x3002 8 32 0x2C key).isSome || (instOf 0x3005 8 32 0x20 key).isSome

/-- Run an accepted action. What a follower's result object reports of a commit or Fold run of its bellwether is open; its
DONE entry carries what that value says, OK where the status in bits 23:16 is 0 (R465). -/
def State.actRun (s : State) (src key v : Nat) : State :=
  if src = 0x41 ∧ leftToBellwether key then s.used.actDone key (s.freeNat % 2 ^ 32) (decide (s.freeNat / 65536 % 256 = 0))
  else (hookFor (s.actHooks v) key).getD s

/-- A write of an ACT object: the checks, the token and its response, then the action (R448, R449). -/
def State.actObj (s : State) (o : Origin) (key len v : Nat) (r : Reply) : State :=
  let st := s.accCheck o key len v true
  if st = 0x1A then s.respond r st (s.act key).tok
  else if st ≠ 0 then s.respond r st 0
  else
    let t := s.actStart o.src key v len
    (t.respond r 0 (t.act key).tok).actRun o.src key v

/-- A single-object write of any object: an action where the object is one (R448), else a write. -/
def State.putObj (s : State) (o : Origin) (key len v : Nat) (r : Reply) : State :=
  if (rowAt key).any fun x => x.acc = .act then s.actObj o key len v r else s.writeObj o 1 key len v r

end Sys2Proof.Machine
end

