-- ==== Sys2Proof/Machine/Objects.lean ====
section
/-! DEFINITION. What every object reads as, block and range transfers of objects, and the load of the configuration image
(R428-R451, R558). -/

namespace Sys2Proof.Machine

/-! ## Values that are formed when they are read -/

/-- The token that QUERY_TOKEN selects, among the newest 64 (R451). -/
def State.queried (s : State) : Option Tok := s.od.tokens.find? fun t => decide (t.tok = s.r Reg.actQUERY_TOKEN)

/-- LEASE_LEFT in ms; 0 on a follower (R503). -/
def State.leaseLeft (s : State) : Nat :=
  match s.pair.leaseEnd with
  | some t => if s.pair.mode && s.pair.authority then min 500 ((t - s.up) / 1000000) else 0
  | none => 0

/-- ROUND_AGE of a bank: ms since the oldest completed off-state test among its channels (R293). -/
def State.roundAge (s : State) (b : Nat) : Nat :=
  match ((List.range 8).map fun i => s.r (Reg.chdLAST_OFF_TIME (8 * b + i))).filter (· ≠ 0) with
  | [] => 0
  | t :: l => min 65535 ((s.now - l.foldl min t) / 1000000)

/-- BUSY_PCT: the part of the last second in which the bank was occupied. -/
def State.busyPct (s : State) (b : Nat) : Nat :=
  let x := s.bank b
  let from_ := s.up - 1000000000
  let spans := if x.occ.isSome then (x.first, s.up) :: x.spans else x.spans
  let t := (spans.map fun e => min e.2 s.up - max e.1 from_).foldl (· + ·) 0
  min 100 ((t + 5000000) / 10000000)

/-- OLDEST_SEQ of a station's window; 0 while it is empty. -/
def State.windowOldest (s : State) (st : Nat) : Nat :=
  match (s.stn st).window.filterMap fun e => e.2.map (·.1) with
  | [] => 0
  | q :: l => let age (x : Nat) : Nat := (s.r (Reg.sstWL_SEQ st) + 2 ^ 32 - x) % 2 ^ 32
    l.foldl (fun a b => if age a < age b then b else a) q

/-- LULL of an export lane while it is UP: TX-Lull when its group has no stream placed, on a follower, and outside the stripe set
(R385, R499); of any other lane as stored. -/
def State.lullNow (s : State) (l : Nat) : Nat :=
  let v := s.r (Reg.laneLULL l)
  if 32 ≤ l ∧ l < 80 ∧ s.laneUp l then
    setBit 0 (s.xIdle (l - 32)) v
  else v

/-- Objects implemented: the indices of the dictionary, which is what R6 and the Object Dictionary count as about 2,600 objects
(DEDUCED, assumption 102). -/
def objectCount : Nat := (objGroups.map fun g => g.count).foldl (· + ·) 0

/-- Objects whose value is formed at the read. -/
def State.readHooks (s : State) : List (Hook Nat) :=
  [⟨0x1000, 1, 1, 7, fun _ => objectCount⟩, ⟨0x1000, 1, 1, 8, fun _ => s.fac.lifeCycle⟩, ⟨0x2100, 1, 1, 1, fun _ => s.shepState⟩,
   ⟨0x1001, 1, 1, 1, fun _ => s.ret.cause⟩, ⟨0x1001, 1, 1, 2, fun _ => s.ret.boots⟩, ⟨0x1001, 1, 1, 3, fun _ => s.ret.watchdogs⟩,
   ⟨0x1002, 1, 1, 4, fun _ => b2n s.fac.ownerKey.isSome⟩, ⟨0x1002, 1, 1, 5, fun _ => s.fac.transitions⟩,
   ⟨0x1103, 1, 1, 2, fun _ => s.now⟩, ⟨0x1110, 1, 8, 7, fun m => s.slotLen m⟩,
   ⟨0x1200, 1, 1, 2, fun _ => match s.queried with
     | some t => if t.done then 2 else 1
     | none => 0⟩,
   ⟨0x1200, 1, 1, 3, fun _ => match s.queried with
     | some t => t.key / 256 + 65536 * (t.key % 256)
     | none => 0⟩,
   ⟨0x1200, 1, 1, 4, fun _ => match s.queried with
     | some t => t.src
     | none => 0⟩,
   ⟨0x2300, 1, 96, 5, fun l => s.lullNow l⟩, ⟨0x2400, 1, 1, 0x0A, fun _ => s.ret.cutoffs⟩,
   ⟨0x2502, 1, 1, 1, fun _ => setBit 0 s.flash.pollSince.isSome (s.r Reg.spiSPI_SEL)⟩,
   ⟨0x2600, 1, 1, 8, fun _ => s.leaseLeft⟩, ⟨0x2600, 1, 1, 9, fun _ => b2n s.masterOk⟩,
   ⟨0x3001, 8, 32, 5, fun h => s.bias h⟩, ⟨0x3002, 8, 32, 0x38, fun h => (s.spread h).value⟩, ⟨0x3007, 8, 32, 1, fun h => s.pipeState h⟩,
   ⟨0x3200, 1, 32, 3, fun t => s.slotUse t⟩, ⟨0x3240, 1, 4, 3, fun i => s.slotUse (32 + i)⟩, ⟨0x3250, 1, 4, 3, fun i => s.slotUse (36 + i)⟩,
   ⟨0x3401, 16, 8, 1, fun st => s.stState st⟩, ⟨0x3401, 16, 8, 5, fun st => s.leadMin st⟩, ⟨0x3401, 16, 8, 8, fun st => s.absentMask st⟩,
   ⟨0x3403, 16, 8, 3, fun st => s.windowOldest st⟩,
   ⟨0x3408, 16, 8, 4, fun st => s.slotState (8 * st)⟩, ⟨0x3409, 16, 8, 4, fun st => s.slotState (8 * st + 1)⟩,
   ⟨0x340A, 16, 8, 4, fun st => s.slotState (8 * st + 2)⟩, ⟨0x340B, 16, 8, 4, fun st => s.slotState (8 * st + 3)⟩,
   ⟨0x340C, 16, 8, 4, fun st => s.slotState (8 * st + 4)⟩, ⟨0x340D, 16, 8, 4, fun st => s.slotState (8 * st + 5)⟩,
   ⟨0x340E, 16, 8, 4, fun st => s.slotState (8 * st + 6)⟩, ⟨0x340F, 16, 8, 4, fun st => s.slotState (8 * st + 7)⟩,
   ⟨0x3480, 1, 4, 4, fun e => (s.enc e).pos / 1000⟩,
   ⟨0x5000, 8, 24, 0x0A, fun b => 250000000 / s.r (Reg.bkSHUNT b)⟩, ⟨0x5004, 8, 24, 2, fun b => s.busyPct b⟩,
   ⟨0x5006, 8, 24, 0x0C, fun b => s.roundAge b⟩,
   ⟨0x6000, 1, 1, 0x0D, fun _ => s.dbgLock⟩, ⟨0x6000, 1, 1, 0x0F, fun _ => s.ret.unlockFails⟩]

/-- The value of a numeric object. -/
def State.readVal (s : State) (key : Nat) : Nat :=
  if key % 256 = 0 then topSub (key / 256) else (hookFor s.readHooks key).getD (s.r key)

/-- The 12 bytes of a string object. -/
def State.readStr (s : State) (key : Nat) : Bytes :=
  if key = Reg.idVENDOR then strBytes 12 "Kolind"
  else if key = Reg.idDEVICE then strBytes 12 "MLZ-32192"
  else if key = Reg.idSERIAL then padTo 12 s.fac.serial
  else padTo 12 (s.blob key)

/-- The bytes of an object that is no block. -/
def State.readBytes (s : State) (key : Nat) : Bytes :=
  match rowAt key with
  | some r => if r.ty = .str then s.readStr key else leBytes r.ty.size (s.readVal key)
  | none => leBytes 1 (s.readVal key)

/-! ## Single-object reads (R437-R439, R450) -/

/-- The newest request of the actions that report into a result object. -/
def State.resultReq (s : State) (key : Nat) : Option ActReq :=
  (s.od.acts.filter fun e => resultOf e.1 = some key).foldl
    (fun b e => if b.any fun q => decide (e.2.order < q.order) then b else some e.2) none

/-- A read of one object by a source: status, token and data. -/
def State.readObj (s : State) (src key : Nat) : Nat × Nat × Bytes :=
  if !indexExists (key / 256) then (0x10, 0, [])
  else if key % 256 ≠ 0 ∧ (rowAt key).isNone then (0x11, 0, [])
  else if !s.mayRead src key then (0x18, 0, [])
  else match rowAt key with
    | none => (0, 0, s.readBytes key)
    | some r =>
      if r.acc = .wo ∨ r.acc = .act then (0x13, 0, [])
      else if r.ty = .block then (0x17, 0, [])
      else match s.resultReq key with
        | some q => if q.busy then (0x03, q.tok, []) else (0, q.tok, s.readBytes key)
        | none => (0, 0, s.readBytes key)

/-! ## Block reads (R444, R472, R473) -/

/-- n bytes of a sequence from an offset. -/
def slice (off n : Nat) (b : Bytes) : Bytes := (b.drop off).take n

/-- Bytes of the 65,536 journal slots. -/
def State.journalSlice (s : State) (off n : Nat) : Bytes :=
  let stop := min (off + n) 2097152
  let slots := (List.range ((stop + 31) / 32 - off / 32)).map fun i => (tget TEntry.empty s.tly.slots (off / 32 + i)).bytes
  slice (off % 32) (stop - off) slots.flatten

/-- The entries of a mirror page, when it is valid (R470). -/
def mirrorEntries (p : Bytes) : List (Nat × Bytes) :=
  let n := fld 4 1 p
  if 1 ≤ n ∧ n ≤ 7 ∧ fld 28 4 p = crc32 (p.take 28 ++ p.drop 32) then
    (List.range n).map fun i => (fld (32 + 32 * i) 4 p, slice (32 + 32 * i) 32 p)
  else []

/-- MIRROR: the distinct entries of the valid slots in ascending SEQ, the newest 256 of them (R473); a slot being written is read as it
will be (R535). -/
def State.mirrorBytes (s : State) : Bytes :=
  let l := ((List.range 40).map fun k => mirrorEntries (Nvm.page { s.nvm with cells := s.nvm.seen (128 + k) } (128 + k))).flatten
  let t : List (Nat × Bytes) := l.foldl (fun t e => tset [] t e.1 e.2) []
  ((t.drop (t.length - 256)).map (·.2)).flatten

/-- An entry of the error log (R360). -/
def MemErr.bytes (e : MemErr) : Bytes :=
  leBytes 8 e.time ++ leBytes 1 e.sub ++ leBytes 1 e.kind ++ leBytes 1 e.symbols ++ leBytes 1 e.source ++ leBytes 4 e.location

/-- READ_WINDOW: up to 64 records from READ_INDEX; MEM_ERROR where one of them is uncorrectable (R131, R357). -/
def State.readWindow (s : State) (h : Nat) : Nat × Bytes :=
  let i0 := s.r (Reg.pcREAD_INDEX h)
  let l := (List.range (min 64 (s.factCount h - i0))).map fun i => i0 + i
  if l.any fun i => tget false s.px.bad (pxKey h i) then (0x20, [])
  else (0, (l.map fun i => leBytes 8 (s.record h i)).flatten)

/-- READ_LINE: the line that READ_SEQ names (R209, R357). -/
def State.readLine (s : State) (st : Nat) : Nat × Bytes :=
  let q := s.r (Reg.swREAD_SEQ st)
  match tget none (s.stn st).window (q % 16384) with
  | some (n, b) => if n ≠ q then (0x1F, []) else if b = [] then (0x20, []) else (0, b)
  | none => (0x1F, [])

/-- Block objects that are formed at the read. -/
def State.blockHooks (s : State) : List (Hook (Nat × Bytes)) :=
  [⟨0x1201, 1, 1, 2, fun _ => (0, (s.od.log.map Evt.bytes).flatten)⟩, ⟨0x1210, 1, 1, 5, fun _ => (0, s.mirrorBytes)⟩,
   ⟨0x2100, 1, 1, 3, fun _ => (0, s.mapBytes)⟩, ⟨0x2200, 1, 1, 0x0E, fun _ => (0, (s.mem.log.map MemErr.bytes).flatten)⟩,
   ⟨0x2370, 1, 4, 0x0A, fun a => (0, (tget {} s.auxs a).captured)⟩,
   ⟨0x3005, 8, 32, 0x0A, fun h => s.readWindow h⟩, ⟨0x3005, 8, 32, 0x0B, fun h => (0, padTo 64 (s.blob (Reg.pcCLASS_COUNTS h)))⟩,
   ⟨0x3403, 16, 8, 2, fun st => s.readLine st⟩]

/-- n bytes of a block object from an offset, as it stands: a status of the object's chapter, and the bytes. -/
def State.blockSlice (s : State) (key off n : Nat) : Nat × Bytes :=
  if key = Reg.tlyJOURNAL then (0, s.journalSlice off n)
  else
    let (e, b) := (hookFor s.blockHooks key).getD (0, s.blockNow key)
    (e, slice off n b)

/-- A block read by a source (R444, R621): status and bytes. -/
def State.readBlock (s : State) (src key off n : Nat) : Nat × Bytes :=
  if !indexExists (key / 256) then (0x10, [])
  else if key % 256 ≠ 0 ∧ (rowAt key).isNone then (0x11, [])
  else if !s.mayRead src key then (0x18, [])
  else if !((rowAt key).any fun r => r.ty = .block) then (0x21, [])
  else if (rowAt key).any fun r => r.acc = .wo then (0x13, [])
  else
    let (e, b) := s.blockSlice key off n
    if e ≠ 0 then (e, []) else (if b.length < n then 1 else 0, b)

/-! ## Range reads (R445) -/

/-- The subindices of an index from sub onward, ascending. -/
def subsFrom (idx sub : Nat) : List Nat :=
  ((List.range 256).filter fun k => sub ≤ k && (k = 0 || (rowAt (256 * idx + k)).isSome))

/-- A range read: status, last subindex and bytes. -/
def State.readRange (s : State) (src idx sub n : Nat) : Nat × Nat × Bytes :=
  if !indexExists idx then (0x10, sub, [])
  else if n = 0 ∨ 255 < n then (0x15, sub, [])
  else if !s.mayRead src (256 * idx + sub) then (0x18, sub, [])
  else
    let row (k : Nat) : Option ObjRow := rowAt (256 * idx + k)
    let all_ := (subsFrom idx sub).filter fun k => !((row k).any fun r => r.acc = .wo || r.acc = .act)
    let l := all_.take n
    match l.find? fun k => (row k).any fun r => r.ty = .block with
    | some k => (0x17, k, [])
    | none => (if l.length < n then 1 else 0, l.getLast?.getD sub, (l.map fun k => s.readBytes (256 * idx + k)).flatten)

/-! ## Block writes (R446) -/

/-- What the chapter of a block object makes of bytes written to it: the status of the write, and the state it leaves. -/
def State.blockPut (s : State) (key off : Nat) (d : Bytes) : Nat × State :=
  match tableOf key with
  | some t => s.tableWrite t off d
  | none =>
    if key = Reg.lcOWNER_KEY then
      -- DESIGN CHOICE (log 108): of a key that was never set, the bytes a part write leaves alone are zeros.
      (0, { s with fac := { s.fac with ownerKey := some (patchBytes (s.fac.ownerKey.getD (List.replicate 32 0)) off d) } })
    else if 0x3408 ≤ key / 256 ∧ key / 256 < 0x3480 then
      s.mapPut (8 * ((key / 256 - 0x3400) / 16) + (key / 256 % 16 - 8)) d
    else (0, s.wBlob key (patchBytes (s.blockNow key) off d))

/-- A block write of an object: the checks, the bytes, and what follows. -/
def State.putBlock (s : State) (o : Origin) (key off : Nat) (d : Bytes) (r : Reply) : State :=
  let st := s.blockCheck o key off d.length
  if st ≠ 0 then s.respond r st 0
  else
    let (e, t) := s.blockPut key off d
    if e = 0 then (t.wroteBlock o.src key d).respond r 0 0 else t.respond r e 0

/-! ## Range writes (R446, R620) -/

/-- Cut bytes into values by the sizes of the subindices. -/
def cutValues (idx : Nat) : List Nat → Bytes → List (Nat × Nat)
  | [], _ => []
  | k :: l, d => let n := keySize (256 * idx + k); (256 * idx + k, leNat (d.take n)) :: cutValues idx l (d.drop n)

/-- The first check that a range write fails, with the subindex that fails it. -/
def State.rangeCheck (s : State) (o : Origin) (idx sub : Nat) (l : List Nat) (d : Bytes) : Nat × Nat :=
  let key (k : Nat) : Nat := 256 * idx + k
  let first (st : Nat) (p : Nat → Bool) : Option (Nat × Nat) := (l.find? p).map fun k => (st, k)
  let row (p : ObjRow → Bool) (k : Nat) : Bool := (rowAt (key k)).any p
  let vals := cutValues idx l d
  let after := s.wAll vals
  let bad (k : Nat) : Bool := row (fun r => !(chkOk r.ty r.chk (after.r (key k)))) k || !(s.relOk after (key k))
  if !indexExists idx then (0x10, sub)
  else match (sub :: l).find? fun k => !s.mayWrite o.src (key k) with
  | some k => (0x18, k)
  | none =>
  if s.staleEpoch o then (0x19, sub)
  else
    ((first 0x12 fun k => k = 0 || row (fun r => r.acc = .ro) k).orElse fun _ =>
     (first 0x17 fun k => row (fun r => r.ty = .block) k).orElse fun _ =>
     (first 0x22 fun k => row (fun r => r.acc = .act) k).orElse fun _ =>
     (if d.length ≠ (l.map fun k => keySize (key k)).foldl (· + ·) 0 then some (0x16, sub) else none).orElse fun _ =>
     (first 0x14 fun k => row (fun r => r.acc = .rws) k && !s.ownerStopped idx).orElse fun _ =>
     first 0x15 bad).getD (0, l.getLast?.getD sub)

/-- A range write: it applies whole, or not at all. -/
def State.putRange (s : State) (o : Origin) (idx sub n : Nat) (d : Bytes) (r : Nat → Reply) : State :=
  if n = 0 ∨ 255 < n then s.respond (r (256 * idx + sub)) 0x15 0
  else
    let l := (subsFrom idx sub).take n
    let (st, k) := s.rangeCheck o idx sub l d
    if st ≠ 0 then s.respond (r (256 * idx + k)) st 0
    else s.commitVals o.src 2 (cutValues idx l d) (r (256 * idx + k))

/-! ## The configuration image (R558) -/

/-- One entry of the image under the rules of a single write; none when it is skipped. -/
def State.loadEntry (s : State) (key : Nat) (d : Bytes) : Option State :=
  match rowAt key with
  | none => none
  | some r =>
    if r.acc ≠ .rw ∧ r.acc ≠ .rws then none
    else if r.acc = .rws ∧ !s.ownerStopped (key / 256) then none
    else if r.ty = .block then
      (if d = [] then some s
       else if d.length ≠ blockSize key then none
       else let (e, t) := s.blockPut key 0 d; if e = 0 then some t else none)
    else if d.length ≠ r.ty.size then none
    else
      let t := s.w key (leNat d)
      if chkOk r.ty r.chk (leNat d) && s.relOk t key then some (t.applied key (s.r key) (leNat d)) else none

/-- The entries of an image, in its order; n bounds their number. -/
def State.loadEntries (s : State) (b : Bytes) : Nat → State
  | 0 => s
  | n + 1 =>
    if b.length < 8 then s
    else
      let len := fld 4 2 b
      let t := match s.loadEntry (256 * fld 0 2 b + fld 2 1 b) (slice 8 len b) with
        | some t => t
        | none => s.bump Reg.cfgCONFIG_SKIPPED
      t.loadEntries (b.drop (8 + (len + 3) / 4 * 4)) n

/-- Load the valid image that R542 chooses; a copy that is not the same is written again from it. -/
def State.loadConfig (s : State) : State :=
  let one (c : Nat) (q : Nat) (body : Bytes) : State :=
    let t := s.wAll [(Reg.cfgCONFIG_SEQ, q), (Reg.cfgCONFIG_SOURCE, c + 1), (Reg.cfgCONFIG_SKIPPED, 0)]
    State.loadEntries { t with flash := { t.flash with storeSeq := tset 0 t.flash.storeSeq 40 q } } body (body.length / 8 + 1)
  let t := match s.image 0, s.image 1 with
    | some a, some b => if a = b then one 0 a.1 a.2 else (one 0 a.1 a.2).imageRepair 1
    | some a, none => (one 0 a.1 a.2).imageRepair 1
    | none, some b => (one 1 b.1 b.2).imageRepair 0
    | none, none => s
  t.each stations fun st u => u.when (decide (u.r (Reg.stRUN st) = 1)) fun v => v.w (Reg.sstBAND_LINES st) (v.bandNeed st)

end Sys2Proof.Machine
end

