-- ==== Sys2Proof/Machine/Transfers.lean ====
section
/-! DEFINITION. Object access over the ring: single-object requests, block and range transfers, and cyclic maps (R437-R447,
R452-R455). -/

namespace Sys2Proof.Machine

/-! ## OBJ_REQ (R437-R440) -/

/-- The kept response of a request of the last second. -/
def State.keptOf (s : State) (src req : Nat) : Option Kept :=
  s.od.kept.find? fun k => decide (k.src = src ∧ k.req = req ∧ s.up ≤ k.at_ + 1000000000)

/-- Does the request wait for the partner's verdict? -/
def State.reqPending (s : State) (src req : Nat) : Bool :=
  s.shep.cands.any fun e => match e.2 with
    | .write _ _ _ (.obj d _ q) => decide (d = src ∧ q = req)
    | _ => false

/-- A single-object request: a repeated one returns the kept response again. -/
def State.objReq (s : State) (f : RingFrame) : State :=
  let p := f.payload
  let key := 256 * fld 2 2 p + fld 1 1 p
  let req := fld 4 2 p
  let len := fld 6 1 p
  let d := slice 8 len p
  match s.keptOf f.src req with
  | some k => s.ringSend 0x02 f.src 0 k.payload
  | none =>
    if s.reqPending f.src req then s
    else if fld 0 1 p = 1 then
      let (st, tok, b) := s.readObj f.src key
      (s.toADie key).objRsp f.src req (rspPayload st key req tok b)
    else if fld 0 1 p = 2 then
      (s.putObj ⟨f.src, f.epoch⟩ key (if d.length = len then len else 0) (leNat d) (.obj f.src key req)).done
    else s.objRsp f.src req (rspPayload 0x15 key req 0 [])

/-- A frame of type ty whose payload begins with one of the operations. -/
def opFrame (f : RingFrame) (ops : List Nat) : Bool := ops.contains (fld 0 1 f.payload)

/-- Meaning of OBJ_REQ_READ. -/
def execObjReqRead (dt : Nat) (f : RingFrame) (s : State) : Host.Outcome State Fault Refusal :=
  let t := s.advance dt
  .next (if opFrame f [1] then t.frameIn f 0x01 (keepPayload f fun u => u.objReq f) else t)

/-- Meaning of OBJ_REQ_WRITE. -/
def execObjReqWrite (dt : Nat) (f : RingFrame) (s : State) : Host.Outcome State Fault Refusal :=
  let t := s.advance dt
  .next (if opFrame f [2] then t.frameIn f 0x01 (keepPayload f fun u => u.objReq f) else t)

/-! ## BLOCK_REQ and BLOCK_DATA (R441-R447) -/

/-- BLOCK_DATA segments from a byte position on; n bounds their number. -/
def State.sendSegs (s : State) (dst xfer seg pos : Nat) (d : Bytes) : Nat → State
  | 0 => s
  | n + 1 =>
    if d = [] then s
    else
      let c := d.take 2036
      let t := s.ringSend 0x04 dst 0
        (leBytes 2 xfer ++ leBytes 2 seg ++ leBytes 4 pos ++ leBytes 2 c.length ++ leBytes 2 0 ++ padTo ((c.length + 3) / 4 * 4) c)
      t.sendSegs dst xfer (seg + 1) (pos + c.length) (d.drop 2036) n

/-- Send what a read has captured, and end the transfer. -/
def State.sendRead (s : State) (dst xfer key st : Nat) (d : Bytes) : State :=
  (s.sendSegs dst xfer 0 0 d (d.length / 2036 + 1)).ringSend 0x05 dst 0 (blockPayload st key xfer d.length (crc32 d))

/-- The bytes of a write that has been collected; none while some are missing. -/
def Xfer.bytes (x : Xfer) : Option Bytes :=
  let d := x.segs.foldl (fun b e => patchBytes b e.1 e.2) (List.replicate x.length 0)
  let order := sortBy (fun (a b : Nat × Bytes) => decide (a.1 ≤ b.1)) x.segs
  let end_ := order.foldl (fun n e => if e.1 ≤ n then max n (e.1 + e.2.length) else n) 0
  if x.length ≤ end_ then some (d.take x.length) else none

/-- Take a transfer out. -/
def State.closeXfer (s : State) (src xfer : Nat) : State :=
  { s with od := { s.od with xfers := s.od.xfers.filter fun x => !(decide (x.src = src ∧ x.xfer = xfer)) } }

/-- A write whose bytes are all there is checked and applied in one step. -/
def State.applyXfer (s : State) (x : Xfer) : State :=
  match x.bytes with
  | none => s
  | some d =>
    let s1 := s.closeXfer x.src x.xfer
    let o : Origin := ⟨x.src, x.epoch⟩
    let r (key : Nat) : Reply := .block x.src key x.xfer d.length (crc32 d)
    if x.op = 2 then (s1.putBlock o (256 * x.index + x.sub) x.offset d (r (256 * x.index + x.sub))).done
    else (s1.putRange o x.index x.sub x.count d r).done

/-- BLOCK_REQ: a read is answered at once, a write opens a transfer. -/
def State.blockReq (s : State) (f : RingFrame) : State :=
  let p := f.payload
  let op := fld 0 1 p
  let key := 256 * fld 2 2 p + fld 1 1 p
  let xfer := fld 4 2 p
  let s1 := s.closeXfer f.src xfer
  if 4 ≤ s1.od.xfers.length then s1.ringSend 0x05 f.src 0 (blockPayload 0x1B key xfer 0 0)
  else if op = 1 then
    let (st, d) := s1.readBlock f.src key (fld 8 4 p) (fld 12 4 p)
    s1.sendRead f.src xfer key st d
  else if op = 3 then
    let (st, k, d) := s1.readRange f.src (fld 2 2 p) (fld 1 1 p) (fld 6 1 p)
    s1.sendRead f.src xfer (256 * fld 2 2 p + k) st d
  else if op = 2 ∨ op = 4 then
    let x : Xfer := ⟨f.src, xfer, op, fld 1 1 p, fld 2 2 p, fld 6 1 p, fld 8 4 p, fld 12 4 p, f.epoch, s1.up, []⟩
    State.applyXfer { s1 with od := { s1.od with xfers := s1.od.xfers ++ [x] } } x
  else s1.ringSend 0x05 f.src 0 (blockPayload 0x15 key xfer 0 0)

/-- A BLOCK_REQ of one operation arrives. -/
def State.blockFrame (s : State) (f : RingFrame) (op : Nat) : State :=
  if opFrame f [op] then s.frameIn f 0x03 (keepPayload f fun u => u.blockReq f) else s

/-- Meaning of BLOCK_READ. -/
def execBlockRead (dt : Nat) (f : RingFrame) (s : State) : Host.Outcome State Fault Refusal := .next ((s.advance dt).blockFrame f 1)

/-- Meaning of BLOCK_WRITE. -/
def execBlockWrite (dt : Nat) (f : RingFrame) (s : State) : Host.Outcome State Fault Refusal := .next ((s.advance dt).blockFrame f 2)

/-- Meaning of RANGE_READ. -/
def execRangeRead (dt : Nat) (f : RingFrame) (s : State) : Host.Outcome State Fault Refusal := .next ((s.advance dt).blockFrame f 3)

/-- Meaning of RANGE_WRITE. -/
def execRangeWrite (dt : Nat) (f : RingFrame) (s : State) : Host.Outcome State Fault Refusal := .next ((s.advance dt).blockFrame f 4)

/-- A segment arrives for an open write of its source: by its byte offset, a repeated one in place of the earlier copy. -/
def State.segIn (s : State) (f : RingFrame) : State :=
  let p := f.payload
  match s.od.xfers.find? fun x => decide (x.src = f.src ∧ x.xfer = fld 0 2 p) with
  | none => s
  | some x =>
    let off := fld 4 4 p
    let y : Xfer := { x with
      last := s.up, segs := (x.segs.filter fun e => e.1 ≠ off) ++ [(off, (slice 12 (fld 8 2 p) p).take (x.length - off))] }
    State.applyXfer { s with od := { s.od with
      xfers := s.od.xfers.map fun z => if z.src = y.src ∧ z.xfer = y.xfer then y else z } } y

/-- Meaning of BLOCK_DATA. -/
def execBlockData (dt : Nat) (f : RingFrame) (s : State) : Host.Outcome State Fault Refusal :=
  .next ((s.advance dt).frameIn f 0x04 (keepPayload f fun u => u.segIn f))

/-- 10 ms without a segment end a write (R447). -/
def State.xferTimeout (s : State) (src xfer : Nat) : State :=
  match s.od.xfers.find? fun x => decide (x.src = src ∧ x.xfer = xfer) with
  | some x =>
    if s.since x.last 10000000 then
      (s.closeXfer src xfer).ringSend 0x05 src 0 (blockPayload 0x1C (256 * x.index + x.sub) xfer 0 0)
    else s
  | none => s

/-- Meaning of XFER_TIMEOUT. -/
def execXferTimeout (dt src xfer : Nat) (s : State) : Host.Outcome State Fault Refusal := .next ((s.advance dt).xferTimeout src xfer)

/-! ## Cyclic maps (R452-R455) -/

/-- Is a frame's SEQ newer than the last one taken? -/
def newerSeq (last : Option Nat) (seq : Nat) : Bool := match last with
  | some q => decide (1 ≤ (seq + 65536 - q) % 65536 ∧ (seq + 65536 - q) % 65536 < 32768)
  | none => true

/-- The entries of a map with their offsets in the payload. -/
def State.mapPlaces (s : State) (m : Nat) : List (Nat × Nat) :=
  (s.mapKeys m).foldl (fun (a : List (Nat × Nat) × Nat) k => (a.1 ++ [(k, a.2)], a.2 + cycSize k)) ([], s.r (Reg.mapSLOT_OFFSET m)) |>.1

/-- What an input map takes from its slot: its entries with their values (R453). -/
def State.mapIn (s : State) (m : Nat) (f : RingFrame) : List (Nat × Nat × Nat) :=
  (s.mapPlaces m).map fun e => (m, e.1, fld e.2 (cycSize e.1) f.payload)

/-- The entries that have passed apply in one step: their journal entries in map-entry order, then what the values do. -/
def State.cycDone (s : State) (src : Nat) (acc : List (Nat × Nat)) : State :=
  let t := s.stored acc
  (t.when (acc.any fun e => s.admits e.1 e.2) State.admitNow).finish s src 4 acc .nobody

/-- The entries left are judged each under the rules of a single write, over those taken before it: an equal value is no write, a refused
one counts, and the others are taken. An admission event waits as a single write does, and the whole frame with it (R317, R325; DEDUCED,
assumption 108): `turn` is false while changes asked for before it wait. -/
def State.cycRun (s : State) (turn : Bool) (o : Origin) (acc : List (Nat × Nat)) : List (Nat × Nat × Nat) → State
  | [] => s.cycDone o.src acc
  | e :: rest =>
    let c := s.stored acc
    if c.readVal e.2.1 = e.2.2 then s.cycRun turn o acc rest
    else if c.accCheck o e.2.1 (cycSize e.2.1) e.2.2 (c.relOk (c.w e.2.1 e.2.2) e.2.1) ≠ 0 then
      (s.bump (Reg.mapCYC_ERR e.1)).cycRun turn o acc rest
    else if !c.admits e.2.1 e.2.2 then s.cycRun turn o (acc ++ [e.2]) rest
    else if !turn ∧ s.shep.cands ≠ [] then
      { s with shep := { s.shep with cands := s.shep.cands ++ [(s.up, .cyc o acc (e :: rest))] } }
    else
      let cand := s.stored (acc ++ [e.2])
      let k := cand.check
      if k.1 ≠ 0 then ((s.w Reg.shpCHECK_RESULT (k.1 + 256 * k.2)).bump (Reg.mapCYC_ERR e.1)).cycRun turn o acc rest
      else if s.partnerUp then s.askPartner cand (.cyc o acc (e :: rest))
      else s.cycRun turn o (acc ++ [e.2]) rest

/-- An output map writes its slot into the payload that is forwarded, with the values of state s (R454); an entry that names no object
has no bytes in it. -/
def State.mapOut (s : State) (m : Nat) (f : RingFrame) (p : Bytes) : Bytes :=
  (s.mapPlaces m).foldl (fun b e => if s.mayRead f.src e.1 then patchBytes b e.2 ((s.readBytes e.1).take (cycSize e.1)) else b) p

/-- A CYCLIC frame: enabled maps whose identifier it carries take from it, once per SEQ, and write into it (R452). -/
def State.cyclicIn (s : State) (f : RingFrame) : State × Bytes :=
  let maps := (List.range 8).filter fun m => decide (s.r (Reg.mapMAP_ENABLE m) = 1 ∧ s.r (Reg.mapMAP_ID m) = f.info)
  let fits_ (m : Nat) : Bool := decide (s.r (Reg.mapSLOT_OFFSET m) + s.slotLen m ≤ f.payload.length)
  let isIn (m : Nat) : Bool := decide (s.r (Reg.mapDIRECTION m) = 0)
  let fresh := newerSeq (tget none s.od.cycSeen f.info) f.seq
  let out := maps.foldl (fun p m => if fits_ m && !isIn m then s.mapOut m f p else p) f.payload
  let s1 := if fresh then { s with od := { s.od with cycSeen := tset none s.od.cycSeen f.info (some f.seq) } } else s
  let s2 := s1.each maps fun m t =>
    if !fits_ m then t.bump (Reg.mapCYC_ERR m)
    else t.when (fresh || !isIn m) fun u => u.bump (Reg.mapCYC_FRAMES m)
  let taken := (maps.filter fun m => fresh && isIn m && fits_ m).map fun m => s.mapIn m f
  ((s2.cycRun false ⟨f.src, f.epoch⟩ [] taken.flatten).done, out)

/-- Meaning of CYCLIC. -/
def execCyclic (dt : Nat) (f : RingFrame) (s : State) : Host.Outcome State Fault Refusal :=
  .next ((s.advance dt).frameIn f 0x10 fun t => t.cyclicIn f)

/-- Meaning of MAP_ENABLE (R455). -/
def execMapEnable (dt : Nat) (m : Fin 8) (o : Origin) (v : Nat) (s : State) : Host.Outcome State Fault Refusal :=
  .next ((s.advance dt).writeCmd o (Reg.mapMAP_ENABLE m) v)

end Sys2Proof.Machine
end

