-- ==== Sys2Proof/Machine/Claim.lean ====
section
/-! DEFINITION. Claiming authority: the right to claim, the claim, its collision, and the bellwether's lease (R477, R478, R487-R493). -/

namespace Sys2Proof.Machine

/-! ## The claim (R488, R489) -/

/-- May the device start a claim, given a right to it? In RETURN it never holds authority (R487). -/
def State.mayClaim (s : State) : Bool :=
  s.follower && !s.pair.claiming && s.pair.backoffEnd.isNone && decide (s.fac.lifeCycle ≠ 3 ∧ s.r Reg.opDEVICE_STATE = stRUN ∧
    s.r Reg.prPEER_CLAIM_STATE = 0) && (decide (s.r Reg.prCLAIM_LAPSED = 0) || s.pair.demotedSinceLapse)

/-- A claim under epoch e starts, by a grant or by the partner's YIELD: e is stored first unless it is the device's epoch already, then
OWN_CLAIM toggles. -/
def State.startClaim (s : State) (e : Nat) (grant : Bool) : State :=
  let p := { s.pair with
    claiming := true, right := none, backoffEnd := none, refreshed := s.up, demotedSinceLapse := false, handover := 0, handoverEpoch := 0
    granted := grant }
  let s1 := State.wAll { s with pair := p } [(Reg.prROLE, 2), (Reg.prCLAIM_LAPSED, 0)]
  if e ≤ s.epoch then { s1 with pair := { p with toggling := true, claimSince := s.up } } else s1.setEpoch e .claim

/-- Does the next claim keep the epoch that the device stored for one that collided (R489)? -/
def State.keepsEpoch (s : State) : Bool := decide (s.pair.again = some s.epoch) && s.pair.storing.isNone

/-- Claim by a TAKE grant that is still above the epoch. -/
def State.tryClaim (s : State) : State := match s.pair.right with
  | some e => if s.mayClaim ∧ s.known < e then s.startClaim e true else s
  | none => s

/-- Claim by the partner's YIELD in a HEARTBEAT of epoch e: under the epoch of a claim that collided, or under the next one above both
(R488, R489). -/
def State.yieldClaim (s : State) (e : Nat) : State :=
  s.startClaim (if s.keepsEpoch ∧ e ≤ s.epoch then s.epoch else max s.known e + 1) false

/-- A TAKE grant gives a right to claim under its epoch. -/
def State.rightTo (s : State) (e : Nat) : State :=
  if s.follower then State.tryClaim { s with pair := { s.pair with right := some e } } else s

/-- Both devices claim: stop, clear the authority, and wait before another try (R489). -/
def State.collide (s : State) : State :=
  let s1 := s.dropAuthority
  let wait := if s.r Reg.prPAIR_ID = 0 then 2000000 else 20000000
  let s2 := State.w { s1 with pair := { s1.pair with backoffEnd := some (s.up + wait), right := none, again := some s.epoch } } Reg.prROLE 4
  (s2.bump Reg.prCOLLISIONS).event 0x0703 0 (s.r Reg.prPAIR_ID)

/-- The partner's claim toggles while the device's own is asserted. -/
def State.claimCheck (s : State) : State := if s.pair.toggling ∧ s.r Reg.prPEER_CLAIM_STATE = 1 then s.collide else s

/-! ## The lease (R487, R493) -/

/-- Renew the bellwether's lease. -/
def State.leaseRenew (s : State) : State :=
  s.when (s.pair.mode && s.pair.authority && decide (s.pair.leaseSafe = 0)) fun t =>
    { t with pair := { t.pair with leaseEnd := some (t.up + 500000000) } }

/-- A RENEW grant renews the lease, and the authority rests on it (R487, R491). -/
def State.grantRenew (s : State) : State :=
  State.leaseRenew { s with pair := { s.pair with granted := s.pair.granted || s.pair.authority } }

/-- The bellwether's lease ends: a safe tick follows, then the authority goes. -/
def State.leaseOver (s : State) : State :=
  if s.pair.mode ∧ s.pair.authority ∧ s.pair.leaseSafe = 0 then
    (State.bump { s with pair := { s.pair with leaseEnd := none, leaseSafe := 1 } } Reg.prLEASE_EXPIRIES).event 0x0706 0 s.epoch
  else s

/-! ## PEER_CLAIM (R478) -/

/-- Is PEER_CLAIM toggling, by its last four edges, newest first? -/
def State.peerToggles (s : State) : Bool := match s.pair.edges with
  | [a, b, c, d] =>
    decide (s.up ≤ a + 75000) && [(b, a), (c, b), (d, c)].all fun e => decide (e.1 + 40000 ≤ e.2 ∧ e.2 ≤ e.1 + 60000)
  | _ => false

/-- Publish PEER_CLAIM_STATE and do what a change brings about: a collision, or the partner lost and a claim that waited. -/
def State.peerPub (s : State) : State :=
  let v := b2n s.peerToggles
  let t := s.w Reg.prPEER_CLAIM_STATE v
  if v = 1 then State.claimCheck { t with pair := { t.pair with lineFault := false } } else t.peerLost.tryClaim

end Sys2Proof.Machine
end

