-- ==== Sys2Proof/Machine/RingCmd.lean ====
section
/-! DEFINITION. The commands of the ring: forwarding and inserting frames, the neighbour handshake, ring time, the emergency stop,
enumeration, ring reset and grants (R406-R424, R491). -/

namespace Sys2Proof.Machine

/-! ## RING_STATUS and the unwrap (R401, R410, R411) -/

/-- What the neighbour at port p says of its own port on the link: its west port faces the east port, and the other way round. -/
def nbrPort (p ports : Nat) : Nat := if p = 0 then bits 3 2 ports else bits 1 0 ports

/-- A wrapped port that is up at both ends plans its unwrap: the first whole millisecond of ring time at least 1 ms away, or the
neighbour's if that is later. -/
def State.planUnwrap (s : State) (p : Nat) : State :=
  let x := s.port p
  if s.portUp p ∧ x.wrapped ∧ x.nbrUp then
    let own := if x.unwrapAt = 0 then (s.now + 1999999) / 1000000 * 1000000 else x.unwrapAt
    s.wPort p { x with unwrapAt := max own x.nbrUnwrap }
  else s

/-- A valid RING_STATUS has arrived. -/
def State.statusIn (s : State) (f : RingFrame) : State :=
  let p := f.port.val
  let b := f.payload
  let s1 := s.wPort p { s.port p with
    lastStatus := some s.up, nbrUp := decide (nbrPort p (fld 1 1 b) = 2), nbrUnwrap := fld 8 8 b }
  ((s1.w (Reg.portNEIGHBOUR p) (fld 0 1 b)).ringPub).planUnwrap p

/-- Meaning of RING_STATUS. -/
def execRingStatus (dt : Nat) (f : RingFrame) (s : State) : Host.Outcome State Fault Refusal :=
  .next ((s.advance dt).frameIn f 0x50 (keepPayload f fun t => t.statusIn f)).done

/-- PORT_STATE as RING_STATUS carries it: 0 down, 1 training, 2 up. -/
def State.portCode (s : State) (p : Nat) : Nat := let v := s.r (Reg.portPORT_STATE p); if v = 3 then 0 else v

/-- The RING_STATUS payload for port p. -/
def State.statusPayload (s : State) (p : Nat) : Bytes :=
  leBytes 1 (s.r Reg.nodeACTIVE_ADDR) ++ leBytes 1 (s.portCode 0 + 4 * s.portCode 1) ++ leBytes 6 0 ++ leBytes 8 (s.port p).unwrapAt

/-- Every 100 µs RING_STATUS leaves on each port that is training or up and has its four lanes bonded. -/
def State.statusOut (s : State) : State :=
  if s.since s.ring.lastStatusTx 100000 then
    State.each { s with ring := { s.ring with lastStatusTx := s.up } } (List.range 2) fun p t =>
      t.when (t.portBonded p && decide (t.portCode p ≠ 0)) fun u => u.sendPort p none 0x50 (u.statusPayload p)
  else s

/-- Meaning of RING_STATUS_TX. -/
def execRingStatusTx (dt : Nat) (s : State) : Host.Outcome State Fault Refusal := .next (s.advance dt).statusOut

/-- Meaning of RING_STATUS_TIMEOUT: with nothing heard for 300 µs the port is no longer up. -/
def execRingStatusTimeout (dt : Nat) (p : Fin 2) (s : State) : Host.Outcome State Fault Refusal :=
  let t := s.advance dt
  .next (if t.portUp p ∧ !(t.portHeard p) then t.ringPub else t)

/-- At the adopted time the port unwraps. -/
def State.unwrap (s : State) (p : Nat) : State :=
  let x := s.port p
  if s.portUp p ∧ x.wrapped ∧ x.unwrapAt ≠ 0 ∧ x.unwrapAt ≤ s.now then
    (s.wPort p { x with wrapped := false, unwrapAt := 0 }).ringPub
  else s

/-- Meaning of UNWRAP. -/
def execUnwrap (dt : Nat) (p : Fin 2) (s : State) : Host.Outcome State Fault Refusal := .next ((s.advance dt).unwrap p)

/-! ## Link delay (R418) -/

/-- Every 100 ms DELAY_REQ is queued for each port that is up; t1, in 1/16 ns of ring time, is when it leaves at the balls. -/
def State.delayOut (s : State) (t1 : List Nat) : State :=
  if s.since s.ring.lastDelay 100000000 then
    State.each { s with ring := { s.ring with lastDelay := s.up } } (List.range 2) fun p t =>
      t.when (t.portUp p) fun u => (u.wPort p { u.port p with t1 := none }).sendPort p t1[p]? 0x21 []
  else s

/-- Meaning of DELAY_EXCHANGE. -/
def execDelayExchange (dt : Nat) (t1 : List Nat) (s : State) : Host.Outcome State Fault Refusal := .next ((s.advance dt).delayOut t1)

/-- A DELAY_REQ is answered with the times at which it arrived and the answer leaves. -/
def State.delayAnswer (s : State) (f : RingFrame) (t2 t3 : Nat) : State :=
  s.ringQueue (some f.port.val) (some t3) 0x22 0x7F 0 (leBytes 8 t2 ++ leBytes 8 t3)

/-- Meaning of DELAY_REQ. -/
def execDelayReq (dt : Nat) (f : RingFrame) (t2 t3 : Nat) (s : State) : Host.Outcome State Fault Refusal :=
  .next ((s.advance dt).frameIn f 0x21 (keepPayload f fun t => t.delayAnswer f t2 t3))

/-- The mean of a port's newest values of D, in 1/16 ns; the list holds 2 D. -/
def delayMean (l : List Int) : Nat := min 0xFFFFFFFF (roundHA (mkRat (l.foldl (· + ·) 0) (2 * l.length))).toNat

/-- A DELAY_RSP completes the measurement that DELAY_REQ began. -/
def State.delayDone (s : State) (f : RingFrame) (t4 : Nat) : State :=
  let p := f.port.val
  let x := s.port p
  match x.t1 with
  | none => s
  | some t1 =>
    let total : Int := (t4 : Int) - t1
    let s1 := s.wPort p { x with t1 := none }
    if 480000 < total then s1
    else
      let d := total - ((fld 8 8 f.payload : Int) - fld 0 8 f.payload) + 2 * s.ri 32 (Reg.portDELAY_ASYM p)
      let l := (d :: x.delays).take 8
      (s1.wPort p { x with t1 := none, delays := l }).w (Reg.portLINK_DELAY p) (delayMean l)

/-- Meaning of DELAY_RSP. -/
def execDelayRsp (dt : Nat) (f : RingFrame) (t4 : Nat) (s : State) : Host.Outcome State Fault Refusal :=
  .next ((s.advance dt).frameIn f 0x22 (keepPayload f fun t => t.delayDone f t4))

/-! ## Ring time (R419, R420) -/

/-- The counter is set forward to t (1/16 ns): ticks whose start lies between are not run; they count when the step is a correction. -/
def State.stepTo (s : State) (t : Nat) (count : Bool) : State :=
  let per := 16000 * s.r Reg.opTICK_PERIOD
  let first := max s.tick.next (s.clk.ring16 / per + 1)
  let next := (t + per - 1) / per
  let s1 := s.when count fun u => u.add32 Reg.timeTICK_SKIP (next - first)
  { s1 with
    clk := { s1.clk with ring16 := t, slew := 0, half := false }
    tick := { s1.tick with next := if count then max s1.tick.next next else next } }

/-- The correction of R420 for an offset, in 1/16 ns, in a TIME_STATE other than UNSYNCED. -/
def State.correct (s : State) (off : Int) : State :=
  if 16000 < off then (s.bump Reg.timeTIME_STEPS).stepTo (s.clk.ring16 + off.toNat) true
  else if off < -16000 then
    State.bump { s with clk := { s.clk with slew := off, half := true } } Reg.timeTIME_STEPS
  else { s with clk := { s.clk with slew := off, half := false } }

/-- Consecutive syncs within 50 ns, 8 of which make the time SYNCED; a sync ends UNSYNCED and HOLDOVER. -/
def State.timeState (s : State) (off : Int) : State :=
  let good := if off.natAbs ≤ 800 then s.clk.good + 1 else 0
  let s1 := { s with clk := { s.clk with good := good, lastSync := s.up } }
  let st := s.r Reg.timeTIME_STATE
  s1.w Reg.timeTIME_STATE (if 8 ≤ good then 2 else if st = 0 ∨ st = 3 then 1 else st)

/-- The first copy of a TIME_SYNC: correct the counter. -/
def State.syncTime (s : State) (f : RingFrame) : State :=
  let rx := 16 * fld 0 8 f.payload + fld 8 8 f.payload + s.r (Reg.portLINK_DELAY f.port)
  let off : Int := (rx : Int) - s.clk.ring16
  let first := decide (s.r Reg.timeTIME_STATE = 0)
  let s1 := (s.bump Reg.timeSYNC_RX).w Reg.timeOFFSET (sat2 32 off)
  let s2 := if first then s1.stepTo rx false else s1.correct off
  s2.timeState off

/-- A TIME_SYNC arrives: the first copy of its SEQ is taken and goes on with its CORR brought up to date. -/
def State.syncIn (s : State) (f : RingFrame) (residence : Nat) : State × Bytes :=
  if newerSeq (tget none s.ring.seen 0x20) f.seq then
    let corr := fld 8 8 f.payload + s.r (Reg.portLINK_DELAY f.port) + residence
    let s1 := { s with ring := { s.ring with seen := tset none s.ring.seen 0x20 (some f.seq) } }
    ((s1.syncTime f).done, patchBytes f.payload 8 (leBytes 8 corr))
  else (s, f.payload)

/-- Meaning of TIME_SYNC; the residence time is in 1/16 ns. -/
def execTimeSync (dt : Nat) (f : RingFrame) (residence : Nat) (s : State) : Host.Outcome State Fault Refusal :=
  .next ((s.advance dt).frameIn f 0x20 fun t => t.syncIn f residence)

/-- No valid TIME_SYNC for 3 × SYNC_EXPECT: the counter runs on in HOLDOVER. -/
def State.masterLost (s : State) : State :=
  let st := s.r Reg.timeTIME_STATE
  if (st = 1 ∨ st = 2) ∧ s.since s.clk.lastSync (3000 * s.r Reg.timeSYNC_EXPECT) then
    (State.w { s with clk := { s.clk with good := 0 } } Reg.timeTIME_STATE 3).event 0x0302 0 0
  else s

/-- Meaning of MASTER_TIME_LOST. -/
def execMasterTimeLost (dt : Nat) (s : State) : Host.Outcome State Fault Refusal := .next (s.advance dt).masterLost

/-! ## Emergency stop (R421-R423) -/

/-- Publish the number of active IDs. -/
def State.estopPub (s : State) (l : List Nat) : State :=
  State.w { s with ring := { s.ring with estops := l } } Reg.nodeESTOP_ACTIVE (min 255 l.length)

/-- The first ESTOP with an ID stops every bank. -/
def State.estopIn (s : State) (f : RingFrame) : State :=
  let id := fld 0 4 f.payload
  if id = 0 ∨ s.ring.estops.contains id then s
  else
    let s1 := s.stopAll 1 true
    State.estopPub { s1 with ring := { s1.ring with estopUsed := id :: s1.ring.estopUsed.filter fun i => i ≠ id } } (s1.ring.estops ++ [id])

/-- Meaning of ESTOP. -/
def execEstop (dt : Nat) (f : RingFrame) (s : State) : Host.Outcome State Fault Refusal :=
  .next ((s.advance dt).frameIn f 0x40 (keepPayload f fun t => t.estopIn f))

/-- An ESTOP_CLEAR of the ring master withdraws its ID. -/
def State.estopOut (s : State) (f : RingFrame) : State :=
  if f.src = 0 then s.estopPub (s.ring.estops.filter fun i => i ≠ fld 0 4 f.payload) else s

/-- Meaning of ESTOP_CLEAR. -/
def execEstopClear (dt : Nat) (f : RingFrame) (s : State) : Host.Outcome State Fault Refusal :=
  .next ((s.advance dt).frameIn f 0x41 (keepPayload f fun t => t.estopOut f))

/-! ## Addresses (R415, R416) -/

/-- ENUM: the device takes its address and writes its record into the frame it forwards. -/
def State.enumIn (s : State) (f : RingFrame) : State × Bytes :=
  let p := f.payload
  let k := fld 0 1 p
  let own := s.r Reg.nodeNODE_ADDR
  let fixed := decide (1 ≤ own ∧ own ≤ 63)
  let addr := if fixed then own else fld 1 1 p
  let next := if fixed then fld 1 1 p else (fld 1 1 p + 1) % 256
  let clash := (List.range (min k 64)).any fun i => fld (4 + 16 * i) 1 p = addr
  let s1 := s.wAll [(Reg.nodeACTIVE_ADDR, addr), (Reg.nodeADDR_CONFLICT, b2n clash)]
  let rec_ := leBytes 1 addr ++ leBytes 1 1 ++ leBytes 1 (b2n clash) ++ leBytes 1 0 ++ padTo 12 s.fac.serial
  let p1 := patchBytes p 0 (leBytes 1 ((k + 1) % 256) ++ leBytes 1 next)
  (s1.done, if k < 64 ∧ 4 + 16 * k + 16 ≤ p.length then patchBytes p1 (4 + 16 * k) rec_ else p1)

/-- Meaning of ENUM. -/
def execEnum (dt : Nat) (f : RingFrame) (s : State) : Host.Outcome State Fault Refusal :=
  .next ((s.advance dt).frameIn f 0x51 fun t => t.enumIn f)

/-! ## Ring reset and joining (R414, R424, R485) -/

/-- RESET: a wiping reset of the device it names, or refused. -/
def State.resetIn (s : State) (f : RingFrame) : State :=
  let stale := s.pair.mode && decide (f.epoch < s.epoch)
  if f.payload.take 12 = padTo 12 s.fac.serial ∧ fld 12 1 f.payload = 1 ∧ !stale then (if s.stopHeld then s else s.wipe 4)
  else s.bump Reg.nodeRESET_REFUSED

/-- Meaning of RING_RESET. -/
def execRingReset (dt : Nat) (f : RingFrame) (s : State) : Host.Outcome State Fault Refusal :=
  .next ((s.advance dt).frameIn f 0x70 (keepPayload f fun t => t.resetIn f))

/-- Meaning of RING_JOIN. -/
def execRingJoin (dt : Nat) (o : Origin) (v : Nat) (s : State) : Host.Outcome State Fault Refusal :=
  .next ((s.advance dt).actBy o Reg.nodeRING_JOIN v fun t => t.ringJoinRun)

/-! ## Grants (R488, R491) -/

/-- A GRANT frame from node 0 for the device. -/
def State.grantIn (s : State) (f : RingFrame) : State :=
  let kind := fld 12 1 f.payload
  let e := fld 16 4 f.payload
  if f.src ≠ 0 ∨ f.payload.take 12 ≠ padTo 12 s.fac.serial ∨ kind = 0 ∨ 3 < kind then s
  else if !(if kind = 1 then decide (s.known < e) else decide (e = s.epoch)) then s.event 0x0708 kind e
  else if !s.pair.mode then s
  else if kind = 1 then s.rightTo e
  else if kind = 2 then s.grantRenew
  else s.leaseOver

/-- A GRANT frame of one kind arrives. -/
def State.grantFrame (s : State) (f : RingFrame) (kind : Nat) : State :=
  if fld 12 1 f.payload = kind then s.frameIn f 0x48 (keepPayload f fun t => t.grantIn f) else s

/-- Meaning of GRANT_TAKE. -/
def execGrantTake (dt : Nat) (f : RingFrame) (s : State) : Host.Outcome State Fault Refusal := .next ((s.advance dt).grantFrame f 1)

/-- Meaning of GRANT_RENEW. -/
def execGrantRenew (dt : Nat) (f : RingFrame) (s : State) : Host.Outcome State Fault Refusal := .next ((s.advance dt).grantFrame f 2)

/-- Meaning of GRANT_REVOKE. -/
def execGrantRevoke (dt : Nat) (f : RingFrame) (s : State) : Host.Outcome State Fault Refusal := .next ((s.advance dt).grantFrame f 3)

/-! ## Frames in transit (R404-R409) -/

/-- What a frame of any type does to the device it is for. The times that the port takes of a frame are not operands here: they are
the counter, and a residence time is free. -/
def State.anyFrame (s : State) (f : RingFrame) : State × Bytes :=
  let keep (t : State) : State × Bytes := (t, f.payload)
  if f.ty = 0x01 then keep (s.objReq f)
  else if f.ty = 0x03 then keep (s.blockReq f)
  else if f.ty = 0x04 then keep (s.segIn f)
  else if f.ty = 0x10 then s.cyclicIn f
  else if f.ty = 0x20 then s.used.syncIn f s.freeNat
  else if f.ty = 0x21 then keep (s.delayAnswer f s.clk.ring16 s.clk.ring16)
  else if f.ty = 0x22 then keep (s.delayDone f s.clk.ring16)
  else if f.ty = 0x30 then keep (if f.src = 0 then s.covFrame f.payload else s)
  else if f.ty = 0x40 then keep (s.estopIn f)
  else if f.ty = 0x41 then keep (s.estopOut f)
  else if f.ty = 0x48 then keep (s.grantIn f)
  else if f.ty = 0x50 then keep (s.statusIn f).done
  else if f.ty = 0x51 then s.enumIn f
  else if f.ty = 0x70 then keep (s.resetIn f)
  else keep s

/-- Meaning of RING_FRAME_FORWARD. -/
def execRingFrameForward (dt : Nat) (f : RingFrame) (s : State) : Host.Outcome State Fault Refusal :=
  .next ((s.advance dt).ringIn f fun t => t.anyFrame f)

/-- Publish the statistics that waited for the end of a read (R126). -/
def State.statsDue (s : State) : State :=
  s.each (headNos.filter fun h => decide ((s.pipe h).statWait ≠ [])) fun h t => t.statPublish h

/-- Meaning of FRAME_INSERT; collide: a frame to be forwarded arrives meanwhile (R408). -/
def execFrameInsert (dt : Nat) (collide : Bool) (s : State) : Host.Outcome State Fault Refusal :=
  .next ((s.advance dt).insertFrame collide).statsDue

end Sys2Proof.Machine
end

