-- ==== Sys2Proof/Machine/PairCmd.lean ====
section
/-! DEFINITION. The commands of the redundant pair: partner messages, claim lines, refresh, lease and handover (R477-R499). -/

namespace Sys2Proof.Machine

/-! ## HEARTBEAT (R479-R482, R487, R488, R490) -/

/-- YIELD of the device's own HEARTBEAT (R490, R497, R498, R527). -/
def State.yields (s : State) : Bool :=
  let run := s.r Reg.opDEVICE_STATE = stRUN
  let peerHolds := s.pair.peer.role = 2 || s.pair.peer.role = 3
  let both := run && bit 2 s.pair.peer.flags
  (!s.pair.claiming && !s.pair.authority && (!run || peerHolds || (both && decide (s.r Reg.prPAIR_ID = 1))) &&
    !(run && decide (s.pair.peer.role = 3) && !s.pair.synced)) ||
  decide (s.pair.handover = 3) || (decide (s.pair.handover = 2) && decide (s.r Reg.opDEVICE_STATE = stSTOPPING))

/-- FLAGS of the device's own HEARTBEAT. -/
def State.hbFlags (s : State) : Nat :=
  b2n s.yields + 2 * b2n s.masterOk + 4 * b2n (decide (s.r Reg.opDEVICE_STATE = stRUN)) + 8 * b2n s.pair.toggling + 16 * b2n s.d2d.lost

/-- The HEARTBEAT payload of R481, with the sender's epoch. -/
def hbBytes (epoch : Nat) (h : HeartbeatIn) : Bytes :=
  leBytes 4 epoch ++ leBytes 1 h.role ++ leBytes 1 h.flags ++ leBytes 2 h.leaseLeft ++ leBytes 8 h.tick ++ leBytes 4 h.handoverEpoch ++
    padTo 12 h.serial

/-- A received HEARTBEAT payload as its fields (R481). -/
def hbOf (b : Bytes) : HeartbeatIn := ⟨fld 4 1 b, fld 5 1 b, fld 6 2 b, fld 8 8 b, fld 16 4 b, (b.drop 20).take 12⟩

/-- What the device says of itself in a HEARTBEAT. -/
def State.ownBeat (s : State) : HeartbeatIn :=
  ⟨s.r Reg.prROLE, s.hbFlags, s.leaseLeft, s.now / (1000 * s.r Reg.opTICK_PERIOD), s.pair.handoverEpoch, padTo 12 s.fac.serial⟩

/-- The packet of a HEARTBEAT under a SEQ: header, payload of 8 words and CRC (R36-R38, R479). -/
def hbPacket (seq : Nat) (payload : Bytes) : HeadPkt :=
  let w := toWords payload
  let p : HeadPkt := ⟨seq, 1, w.length, w, 0, none⟩
  { p with crc := crc32 (pktBytes p 0xA1) }

/-- Every 100 µs a HEARTBEAT leaves on a partner lane that is UP. -/
def State.heartbeatOut (s : State) : State :=
  if s.pair.mode ∧ s.partnerLane ∧ s.since s.pair.lastHbTx 100000 then
    State.partnerSend { s with pair := { s.pair with lastHbTx := s.up } } (.heartbeat (hbPacket s.pair.txSeq (hbBytes s.epoch s.ownBeat)))
  else s

/-- Meaning of PARTNER_HEARTBEAT_TX. -/
def execPartnerHeartbeatTx (dt : Nat) (s : State) : Host.Outcome State Fault Refusal := .next (s.advance dt).heartbeatOut

/-- A follower hears of a claim that it does not see on the line (R494). -/
def State.lineFaultCheck (s : State) : State :=
  if bit 3 s.pair.peer.flags ∧ s.r Reg.prPEER_CLAIM_STATE = 0 then
    if s.follower ∧ !s.pair.lineFault then State.event { s with pair := { s.pair with lineFault := true } } 0x0709 0 0 else s
  else { s with pair := { s.pair with lineFault := false } }

/-- What a HEARTBEAT of the device's epoch or a newer one does. One that has just yielded its authority claims by no YIELD until the
partner holds it (R497). -/
def State.heartbeatIn (s : State) (m : PartnerMsg) (i : HeartbeatIn) : State :=
  let s1 := { s with pair := { s.pair with lastHb := some s.up, peer := i, peerEpoch := m.epoch } }
  let s2 := (s1.wBlob Reg.prPARTNER_SERIAL i.serial).connUp
  let s3 := s2.when (decide (i.role = 3 ∧ s2.pair.handover = 3)) fun t => { t with pair := { t.pair with handover := 0, handoverEpoch := 0 } }
  let s4 := s3.lineFaultCheck
  let s5 := s4.when (bit 0 i.flags && decide (m.epoch = s4.epoch)) State.leaseRenew
  if bit 0 i.flags ∧ s5.mayClaim ∧ s5.pair.handover ≠ 3 then s5.yieldClaim m.epoch else s5.tryClaim

/-- The envelope of a HEARTBEAT packet: its epoch stands in its payload, and its header and CRC are checked (R38, R479, R481). -/
def hbEnvelope (m : PartnerMsg) (p : HeadPkt) : PartnerMsg :=
  { m with epoch := fld 0 4 (pktData p), valid := m.valid && pktOk p 0xA1 && decide (p.len = 8) }

/-- Meaning of HEARTBEAT. -/
def execHeartbeat (dt : Nat) (m : PartnerMsg) (p : HeadPkt) (s : State) : Host.Outcome State Fault Refusal :=
  .next ((s.advance dt).partnerIn (hbEnvelope m p) fun t => t.heartbeatIn (hbEnvelope m p) (hbOf (pktData p)))

/-- Without a HEARTBEAT for 1 ms the connection is down. -/
def State.partnerSilent (s : State) : State :=
  match s.pair.lastHb with
  | some t => if s.since t 1000000 then s.connDown else s
  | none => s.connDown

/-- Meaning of PARTNER_DOWN. -/
def execPartnerDown (dt : Nat) (s : State) : Host.Outcome State Fault Refusal := .next (s.advance dt).partnerSilent

/-! ## What the follower takes over (R480, R495, R496, R498, R499) -/

/-- OBJ_FWD: the follower makes the write or action with source 0x41. -/
def State.objFwdIn (s : State) (m : PartnerMsg) (key : Nat) (d : Bytes) : State :=
  if !s.follower then s
  else if (rowAt key).any fun r => r.ty = .block then (s.putBlock ⟨0x41, m.epoch⟩ key 0 d .nobody).done
  else (s.putObj ⟨0x41, m.epoch⟩ key d.length (leNat d) .nobody).done

/-- Meaning of OBJ_FWD. -/
def execObjFwd (dt : Nat) (m : PartnerMsg) (key : Nat) (data : Bytes) (s : State) : Host.Outcome State Fault Refusal :=
  .next ((s.advance dt).partnerIn m fun t => t.objFwdIn m key data)

/-- A set of the bellwether as one of the follower's own: a host commit binds the newest slots, an internal one those of the current
set (R152). -/
def State.setOf (s : State) (i : SetIn) : PSet :=
  let newest := s.newestSlots i.head (tget 0 i.vals 0x424)
  { tag := i.tag, kind := .host, vals := i.vals, skim := i.skim, subRef := i.subRef
    patches := i.patches.map fun p => ⟨p.1, p.2.1, p.2.2⟩, armedAt := s.now
    slots := if i.inner then ((s.pipe i.head).cur.map fun c => c.slots).getD newest else newest }

/-- ARMED_SET: armed under its tag; the set of a host commit is placed as the bellwether's was (R325), with what a commit makes of its
patches. -/
def State.armedSetIn (s : State) (i : SetIn) : State :=
  if !s.follower then s
  else
    let h := i.head.val
    let p := s.setOf i
    let s0 := s.armSet h p
    if i.inner then s0
    else
      let s1 := if s0.check.1 = 0 then s0.admitNow else s0.replace 0
      if p.patches = [] then s1
      else
        let s2 := s1.w (Reg.pcPATCH_COUNT h) 0
        s2.when (decide (s2.r (Reg.pcPATCH_PERSIST h) = 1)) fun t => t.wPersist h (persistAdd (t.persist h) p.patches)

/-- Meaning of ARMED_SET. -/
def execArmedSet (dt : Nat) (m : PartnerMsg) (i : SetIn) (s : State) : Host.Outcome State Fault Refusal :=
  .next ((s.advance dt).partnerIn m fun t => t.armedSetIn i)

/-- Stage a part of the offsets of head h. -/
def State.stagePart (s : State) (h : Nat) (p : OffsPart) : State :=
  { s with px := { s.px with
    stage := tsetRun 0x10000 s.px.stage (pxKey h p.first) ((p.offs.take (s.factCount h - p.first)).map (enc2 16)) } }

/-- OFFSETS: a part of the offsets of the set armed under the tag, or of an internal commit under it, which its first part arms (R115,
R480). A part that arrives after the pipeline has switched to the tag is too late (DESIGN CHOICE, assumption 108). -/
def State.offsetsIn (s : State) (h tag : Nat) (part : OffsPart) : State :=
  if !s.follower then s
  else match (s.pipe h).armed, (s.pipe h).cur with
    | some a, c =>
      if a.tag = tag then (s.wPipe h { s.pipe h with armed := some { a with kind := .fold, offsets := true } }).stagePart h part
      else match c with
        | some p => if p.tag = tag then s else (s.armSet h { s.internalSet h .fold p with tag := tag, offsets := true }).stagePart h part
        | none => s
    | none, some p =>
      if p.tag = tag then s else (s.armSet h { s.internalSet h .fold p with tag := tag, offsets := true }).stagePart h part
    | none, none => s

/-- Meaning of OFFSETS. -/
def execOffsets (dt : Nat) (m : PartnerMsg) (h : Fin 32) (tag : Nat) (part : OffsPart) (s : State) :
    Host.Outcome State Fault Refusal := .next ((s.advance dt).partnerIn m fun t => t.offsetsIn h tag part)

/-- The entry of a unit in a DIAG_STATE list; one that is not listed is at its defaults. -/
def diagEntry (l : List DiagEntry) (n : Nat) : DiagEntry := (l.find? fun e => e.unit = n).getD ⟨n, 0, 0, 0, 0⟩

/-- DIAG_STATE: the follower mirrors faults, observations and counts; a bank fault that is new to it stops its bank (R260, R263, R499). -/
def State.diagIn (s : State) (chs banks : List DiagEntry) : State :=
  if !s.follower then s
  else
    let s1 := s.each (List.range 192) fun n t =>
      let e := diagEntry chs n
      (t.w (Reg.chdCH_FAULT n) e.fault).wChan n { t.chan n with obs := e.obs, obsN := e.obsN, curN := e.curN }
    s1.each bankNos fun b t =>
      let e := diagEntry banks b
      let old := t.r (Reg.bdgBANK_FAULT b)
      let u := (t.w (Reg.bdgBANK_FAULT b) e.fault).wBank b { t.bank b with obs := e.obs, obsN := e.obsN }
      u.when (decide (old = 0 ∧ e.fault ≠ 0)) fun v => v.bankStop b 5 false

/-- Meaning of DIAG_STATE. -/
def execDiagState (dt : Nat) (m : PartnerMsg) (chs banks : List DiagEntry) (s : State) : Host.Outcome State Fault Refusal :=
  .next ((s.advance dt).partnerIn m fun t => t.diagIn chs banks)

/-! ## Candidates (R317, R325) -/

/-- The configuration that a CANDIDATE describes: its values, and the heads whose formats it carries. -/
def State.candOf (s : State) (vals : List (Nat × Nat)) : State :=
  let heads := headNos.filter fun h => vals.any fun e => e.1 = Reg.hsWIDTH h
  let t := s.stored vals
  let u := t.each heads fun h v => v.wPipe h { v.pipe h with cur := none, armed := none }
  let m := heads.foldl (fun m h => setBit h true m) 0
  State.w { u with shep := { u.shep with admitted := m } } Reg.shpSHED_HEADS (u.r Reg.shpSHED_HEADS &&& (0xFFFFFFFF ^^^ m))

/-- A CANDIDATE is answered with the code of the first check that fails, 0 when the device admits it. -/
def State.candidateIn (s : State) (vals : List (Nat × Nat)) : State := s.toPartner (.verdict s.epoch (s.candOf vals).check.1)

/-- Meaning of CANDIDATE. -/
def execCandidate (dt : Nat) (m : PartnerMsg) (vals : List (Nat × Nat)) (s : State) : Host.Outcome State Fault Refusal :=
  .next ((s.advance dt).partnerIn m fun t => t.candidateIn vals)

/-- The candidate of a change that waits (R317). -/
def State.opCand (s : State) : PendOp → State
  | .write _ _ vals _ => s.stored vals
  | .commit h => s.withArmed h (some (s.hostSet h))
  | .attach h => s.attachCand h
  | .restore i => s.restored i
  | .watch i => s.restored i
  | .cyc _ acc left => s.stored (acc ++ (left.take 1).map (·.2))

/-- May a change that waited still be made? -/
def State.opStands (s : State) : PendOp → Bool
  | .write _ _ _ _ => true
  | .commit h => s.attached h
  | .attach h => decide ((s.hd h).step = 7)
  | .restore i => decide (s.nextRestore = some i)
  | .watch i => decide (s.nextRestore = some i)
  | .cyc _ _ _ => true

/-- A change is refused by a check. -/
def State.opRefused (s : State) : PendOp → State
  | .write _ _ _ r => s.respond r 0x1D 0
  | .commit h => s.commitFail (Reg.hsCOMMIT h) 4
  | .attach h => s.attachShed h
  | .restore _ => { s with shep := { s.shep with watch := none, refusedAt := some s.up } }
  | .watch _ => { s with shep := { s.shep with watch := none, refusedAt := some s.up } }
  | .cyc o acc left => (s.each (left.take 1) fun e t => t.bump (Reg.mapCYC_ERR e.1)).cycRun true o acc (left.drop 1)

/-- A change takes effect in the placement it has been admitted with. A commit meets its own checks again: a set armed or a run started
meanwhile refuses it, as one that arrives now (R27, R172; DEDUCED, assumption 108). -/
def State.opGo (s : State) : PendOp → State
  | .write src kind vals r => (s.stored vals).admitNow.finish s src kind vals r
  | .commit h =>
    let p := s.hostSet h
    let code := s.commitCode h p
    if code ≠ 0 then s.commitFail (Reg.hsCOMMIT h) code
    else (((s.withArmed h (some p)).admitNow).withArmed h (s.pipe h).armed).commitArm h p
  | .attach h => (s.attachCand h).admitNow.attachSeven h
  | .restore i => s.restoreItem i
  | .watch i => { s with shep := { s.shep with watch := some (i, s.up), refusedAt := none } }
  | .cyc o acc left => s.cycRun true o (acc ++ (left.take 1).map (·.2)) (left.drop 1)

/-- A change whose ground has gone. -/
def State.opGone (s : State) : PendOp → State
  | .commit h => s.commitFail (Reg.hsCOMMIT h) 5
  | _ => s

/-- A change that waited for its verdict takes effect if the configuration of now still admits it, or is refused by check 6. -/
def State.verdictOn (s : State) (op : PendOp) (ok : Bool) : State :=
  if !s.opStands op then s.opGone op
  else
    let (code, inst) := if ok then (s.opCand op).check else (6, 0)
    if code = 0 then s.opGo op else (s.w Reg.shpCHECK_RESULT (code + 256 * inst)).opRefused op

/-- The changes that wait are evaluated in their order until one is put to the partner (R324); n bounds their number. -/
def State.candNext (s : State) : Nat → State
  | 0 => s
  | n + 1 => match s.shep.cands with
    | [] => s
    | e :: rest =>
      let t := { s with shep := { s.shep with cands := rest } }
      let c := (t.opCand e.2).check.1
      if t.opStands e.2 ∧ c = 0 ∧ t.partnerUp then t.askPartner (t.opCand e.2) e.2
      else
        let u := t.verdictOn e.2 true
        if u.shep.asked then u else u.candNext n

/-- The change put to the partner gets its verdict, and the next one its turn. -/
def State.verdictIn (s : State) (ok : Bool) : State := match s.shep.cands with
  | e :: rest =>
    let t := State.verdictOn { s with shep := { s.shep with cands := rest, asked := false } } e.2 ok
    (if t.shep.asked then t else t.candNext rest.length).done
  | [] => s

/-- Meaning of VERDICT. -/
def execVerdict (dt : Nat) (m : PartnerMsg) (code : Nat) (s : State) : Host.Outcome State Fault Refusal :=
  .next ((s.advance dt).partnerIn m fun t => t.verdictIn (decide (code = 0)))

/-- Without a verdict for 10 ms the change is refused; with the partner lanes down check 6 passes (R325). -/
def State.verdictLate (s : State) : State := match s.shep.cands with
  | e :: _ => if s.since e.1 10000000 then s.verdictIn (!s.partnerUp) else s
  | [] => s

/-- Meaning of VERDICT_TIMEOUT. -/
def execVerdictTimeout (dt : Nat) (s : State) : Host.Outcome State Fault Refusal := .next (s.advance dt).verdictLate

/-! ## CONFIG_SYNC (R325, R480, R498) -/

/-- A set of CONFIG_SYNC: known already, the current one of a pipeline that has none, or armed. -/
def State.syncSet (s : State) (i : SetIn) : State :=
  let h := i.head.val
  let x := s.pipe h
  if x.cur.any (fun p => p.tag = i.tag) || x.armed.any (fun p => p.tag = i.tag) then s
  else if x.cur.isNone then
    let p := s.setOf i
    ((s.wPipe h { x with cur := some p }).wHr h { s.hr h with lastTag := max (s.hr h).lastTag p.tag }).wAll
      [(Reg.hsCURRENT_TAG h, p.tag), (Reg.pcSUB_REF h, enc2 16 p.subRef), (Reg.pkBOUND_SLOTS h, p.slots)]
  else s.armSet h (s.setOf i)

/-- Is a replicated object one that is written? -/
def syncable (key : Nat) : Bool := replicated key && (rowAt key).any fun r => r.acc = .rw || r.acc = .rws

/-- The follower takes the bellwether's configuration and admits it again, shedding where a check fails. -/
def State.syncConfig (s : State) (vals : List (Nat × Nat)) (blocks : List (Nat × Bytes)) (sets : List SetIn) : State :=
  if !s.follower then s
  else
    let news := vals.filter fun e => syncable e.1 && decide (s.r e.1 ≠ e.2)
    let s1 := (s.stored news).each news fun e t => t.applied e.1 (s.r e.1) e.2
    let s2 := s1.each (blocks.filter fun e => syncable e.1) fun e t =>
      if t.syncBlock e.1 = e.2 then t
      else (t.blockPut e.1 0 e.2).2
    let s3 := s2.each sets fun i t => t.syncSet i
    let s4 := if s3.check.1 = 0 then s3.admitNow else s3.replace 4
    State.done { s4 with pair := { s4.pair with synced := true } }

/-- Meaning of CONFIG_SYNC. -/
def execConfigSync (dt : Nat) (m : PartnerMsg) (vals : List (Nat × Nat)) (blocks : List (Nat × Bytes)) (sets : List SetIn)
    (s : State) : Host.Outcome State Fault Refusal := .next ((s.advance dt).partnerIn m fun t => t.syncConfig vals blocks sets)

/-! ## Refresh and claim lines (R477, R478, R488, R489) -/

/-- The management controller refreshes authority and claim; a claim that waits for its conditions may start, and a partner lost is
reported where the master has come within reach since (R477, R488, R492). -/
def State.refresh (s : State) : State := (State.peerLost { s with pair := { s.pair with refreshed := s.up } }).tryClaim

/-- Meaning of AUTHORITY_REFRESH. -/
def execAuthorityRefresh (dt : Nat) (s : State) : Host.Outcome State Fault Refusal := .next (s.advance dt).refresh

/-- Every gate off at once: the events of a bank that drives end where they are. -/
def State.gatesOff (s : State) : State := s.each bankNos fun b t => t.when (decide (t.r (Reg.bkBANK_STATE b) = 4)) fun u => u.hardReact b

/-- No refresh for 1 ms while the device holds authority or claims: both end, and every gate is turned off and released. -/
def State.lapse (s : State) : State :=
  if s.pair.mode ∧ (s.pair.authority ∨ s.pair.toggling) ∧ s.since s.pair.refreshed 1000000 then
    let s1 := s.gatesOff.dropAuthority
    State.w { s1 with pair := { s1.pair with demotedSinceLapse := false } } Reg.prCLAIM_LAPSED 1
  else s

/-- Meaning of CLAIM_LAPSED. -/
def execClaimLapsed (dt : Nat) (s : State) : Host.Outcome State Fault Refusal := .next (s.advance dt).lapse

/-- An edge on PEER_CLAIM. -/
def State.peerEdge (s : State) : State :=
  s.when s.pair.mode fun t => State.peerPub { t with pair := { t.pair with edges := (t.up :: t.pair.edges).take 4 } }

/-- Meaning of PEER_CLAIM_EDGE. -/
def execPeerClaimEdge (dt : Nat) (s : State) : Host.Outcome State Fault Refusal := .next (s.advance dt).peerEdge

/-- No edge on PEER_CLAIM for 75 µs. -/
def State.peerQuiet (s : State) : State := s.when (s.pair.mode && !s.peerToggles) State.peerPub

/-- Meaning of PEER_CLAIM_TIMEOUT. -/
def execPeerClaimTimeout (dt : Nat) (s : State) : Host.Outcome State Fault Refusal := .next (s.advance dt).peerQuiet

/-- 200 µs after OWN_CLAIM has started the claim settles, unless the partner claims, too. -/
def State.settleClaim (s : State) : State :=
  if s.pair.claiming ∧ s.pair.toggling ∧ s.since s.pair.claimSince 200000 then
    if s.r Reg.prPEER_CLAIM_STATE = 1 then s.collide else s.takeAuthority
  else s

/-- Meaning of CLAIM_SETTLE. -/
def execClaimSettle (dt : Nat) (s : State) : Host.Outcome State Fault Refusal := .next (s.advance dt).settleClaim

/-- Does the right of a claim that collided still stand: the grant it rested on, or the partner's YIELD in its newest HEARTBEAT (R488,
R489; DEDUCED, assumption 108)? -/
def State.rightStands (s : State) : Bool := s.keepsEpoch && (s.pair.granted || (s.partnerUp && bit 0 s.pair.peer.flags))

/-- The back-off ends: the device claims again under the epoch it has stored if its right still stands, or stays follower. -/
def State.backoffOver (s : State) : State := match s.pair.backoffEnd with
  | some t =>
    if s.up < t then s
    else
      let s1 := State.w { s with pair := { s.pair with backoffEnd := none } } Reg.prROLE 1
      if s1.mayClaim ∧ s1.rightStands then s1.startClaim s1.epoch s1.pair.granted else s1.tryClaim
  | none => s

/-- Meaning of CLAIM_BACKOFF. -/
def execClaimBackoff (dt : Nat) (s : State) : Host.Outcome State Fault Refusal := .next (s.advance dt).backoffOver

/-! ## Lease and handover (R493, R497) -/

/-- The lease runs out. -/
def State.leaseTime (s : State) : State := match s.pair.leaseEnd with
  | some t => if t ≤ s.up then s.leaseOver else s
  | none => s

/-- Meaning of LEASE_EXPIRED. -/
def execLeaseExpired (dt : Nat) (s : State) : Host.Outcome State Fault Refusal := .next (s.advance dt).leaseTime

/-- Meaning of HANDOVER. -/
def execHandover (dt : Nat) (o : Origin) (v : Nat) (s : State) : Host.Outcome State Fault Refusal :=
  .next ((s.advance dt).actBy o Reg.prHANDOVER v fun t => t.handoverRun)

end Sys2Proof.Machine
end

