-- ==== Sys2Proof/Machine/Recover.lean ====
section
/-! DEFINITION. NVM recovery: intents, twin records, spread counters and the Tally mirror, decided from the cells alone
(R540-R548, R470). -/

namespace Sys2Proof.Machine

/-- The pages from p on, n of them. -/
def Nvm.run (n : Nvm) (p k : Nat) : Bytes := tgetRun nvmErased n.cells (256 * p) (256 * k)

/-- One copy of a record when it is valid: its SEQ and data (R540, R542). -/
def Nvm.copy (n : Nvm) (id : Nat) (b : Bool) : Option (Nat × Bytes) :=
  let (pa, pb, k) := recPages id
  let img := n.run (if b then pb else pa) k
  let len := fld 2 2 img
  let d := (img.drop 16).take len
  if fld 0 1 img = id ∧ fld 1 1 img = k ∧ len + 16 ≤ 256 * k ∧ fld 8 4 img = crc32 (img.take 8 ++ d) then some (fld 4 4 img, d) else none

/-- Rewrite one copy of a record from the other, page for page. -/
def Nvm.copyOver (n : Nvm) (id : Nat) (toB : Bool) : Nvm :=
  let (pa, pb, k) := recPages id
  { n with cells := tsetRun nvmErased n.cells (256 * (if toB then pb else pa)) (n.run (if toB then pa else pb) k) }

/-- What recovery finds: the NVM, events to be raised, and the counts of R560. -/
structure Recovery where
  nvm : Nvm
  events : List (Nat × Nat × Nat) := []
  fixes : Nat := 0
  lost : Nat := 0
  settled : Nat := 0

/-- The intent with the highest INTENT_SEQ among pages whose CRC checks (R544). -/
def Nvm.lastIntent (n : Nvm) : Option Bytes :=
  let l := (((List.range 8).map fun i => n.page (8 + i)).filter fun p => fld 24 4 p = crc32 (p.take 24))
  l.foldl (fun a p => match a with
    | some q => if fld 0 4 q < fld 0 4 p then some p else some q
    | none => some p) none

/-- Settle an open intent: complete it from copy A, or roll it back from copy B (R544). -/
def Recovery.intent (r : Recovery) : Recovery :=
  match r.nvm.lastIntent with
  | none => r
  | some p =>
    let seq := fld 0 4 p
    let id := fld 4 1 p
    let r1 := { r with nvm := { r.nvm with intentSeq := seq } }
    if fld 28 1 p ≠ 0xFF ∨ !(recIds.contains id) then r1
    else
      let new := decide (((r1.nvm.copy id false).map (·.1)) = some (fld 12 4 p)) &&
        decide (fld 8 4 (r1.nvm.run (recPages id).1 1) = fld 16 4 p)
      let n1 := if new then r1.nvm.copyOver id true
        else if (r1.nvm.copy id true).isSome then r1.nvm.copyOver id false else r1.nvm
      let n2 := { n1 with cells := NvmOp.apply (.cell (8 + seq % 8) ((List.range 8).map (224 + ·))) n1.cells }
      { r1 with nvm := n2, settled := r1.settled + 1, events := r1.events ++ [(0x0603, id, if new then 1 else 2)] }

/-- Decide one record (R542). -/
def Recovery.record (r : Recovery) (id : Nat) : Recovery :=
  let note (n : Nvm) (q : Nat) : Recovery :=
    { r with nvm := { n with recSeq := tset 0 n.recSeq id q }, fixes := r.fixes + 1, events := r.events ++ [(0x0601, id, q)] }
  match r.nvm.copy id false, r.nvm.copy id true with
  | some a, some b =>
    if a = b then { r with nvm := { r.nvm with recSeq := tset 0 r.nvm.recSeq id a.1 } } else note (r.nvm.copyOver id true) a.1
  | some a, none => note (r.nvm.copyOver id true) a.1
  | none, some b => note (r.nvm.copyOver id false) b.1
  | none, none => { r with lost := r.lost + 1, events := r.events ++ [(0x0602, id, 0)] }

/-- The data of a record that has been decided. -/
def Nvm.data (n : Nvm) (id : Nat) : Option Bytes := (n.copy id false).map (·.2)

/-- Counter c as its shadow and its step page give it (R545). -/
def Nvm.counter (n : Nvm) (c : Nat) : Spread :=
  let d := ((n.data (0x1A + c / 20)).getD []).drop (12 * (c % 20))
  let done := (n.page (80 + c)).foldl (fun k b => k + ((List.range 8).filter fun i => !(b.toNat.testBit i)).length) 0
  { base := fld 0 4 d, gen := fld 4 4 d, cleared := fld 8 4 d, cells := done }

/-- Write the shadow record of counter c with counter c as x: both copies, with SEQ + 1. -/
def Nvm.shadow (n : Nvm) (c : Nat) (x : Spread) : Nvm :=
  let sp := tset {} n.spread c x
  let one (k : Nat) : Bytes := let y := tget {} sp k; leBytes 4 y.base ++ leBytes 4 y.gen ++ leBytes 4 y.cleared
  let id := 0x1A + c / 20
  let m := { n with spread := sp }.begin_ ⟨3, id, some ((List.range 20).map fun i => one (20 * (c / 20) + i)).flatten, [], []⟩
  { m.1 with cells := m.2.ops.foldl (fun v o => o.apply v) m.1.cells }

/-- Steps 2 and 3 of a roll-over: the step page, then the shadow with CLEARED_GEN (R546). -/
def Nvm.cleared (n : Nvm) (c : Nat) : Nvm :=
  let x := tget {} n.spread c
  Nvm.shadow { n with cells := NvmOp.apply (.page (80 + c) (List.replicate 256 0xFF)) n.cells } c { x with cleared := x.gen, cells := 0 }

/-- Complete counter c: the rest of a roll-over that was cut, or the whole of one that is due (R547). -/
def Nvm.complete (n : Nvm) (c : Nat) : Nvm :=
  let x := tget {} n.spread c
  if x.gen ≠ x.cleared then n.cleared c
  else if 2048 ≤ x.cells then (n.shadow c { x with base := x.base + 2048, gen := x.gen + 1 }).cleared c
  else n

/-- The counters as shadows and step pages give them, each completed in its turn. -/
def Nvm.counters (n : Nvm) : Nvm :=
  let read := { n with spread := (List.range 48).foldl (fun t c => tset {} t c (n.counter c)) n.spread }
  (List.range 48).foldl Nvm.complete read

/-- The whole recovery of records and counters, in the order of R548. -/
def Nvm.recover (n : Nvm) : Recovery :=
  let r := recIds.foldl (fun r id => r.record id) ({ nvm := n } : Recovery).intent
  { r with nvm := r.nvm.counters }

/-- Valid mirror pages: PAGE_GEN and the highest SEQ (R470). -/
def Nvm.mirrorMarks (n : Nvm) : List (Nat × Nat) :=
  ((List.range 40).map fun k =>
    let p := n.page (128 + k)
    let c := fld 4 1 p
    if 1 ≤ c ∧ c ≤ 7 ∧ fld 28 4 p = crc32 (p.take 28 ++ p.drop 32) then
      [(fld 8 4 p, ((List.range c).map fun i => fld (32 + 32 * i) 4 p).foldl max 0)] else []).flatten

/-! ## What the objects take from it -/

/-- Record 0x10 (R539). -/
def State.takeSettings (s : State) : State :=
  match s.nvm.data 0x10 with
  | some d => s.wAll ([(Reg.nodeNODE_ADDR, fld 0 1 d), (Reg.prPAIR_MODE, fld 1 1 d), (Reg.memECC_MODE, fld 2 1 d),
      (Reg.flFLASH_READ, fld 3 1 d), (Reg.memRATE, fld 4 2 d), (Reg.flFLASH_DIV, fld 6 1 d), (Reg.flFLASH_DUMMY, fld 7 1 d)] ++
      (List.range 4).map fun i => (Reg.rgnGRAIN i, fld (8 + i) 1 d))
  | none => s

/-- The lane record of head h. -/
def State.takeLane (s : State) (h : Nat) : State :=
  match s.nvm.data (0x12 + h / 4) with
  | some d0 =>
    let d := d0.drop (32 * (h % 4))
    let serial := d.take 12
    (s.wBlob (Reg.hdBOUND_SERIAL h) (if serial.all (· = 0) then [] else serial)).wAll
      [(Reg.hlSHUTTER_SUSPECT h, fld 12 1 d % 2), (Reg.hlFOLD_FAIL_SEQ h, fld 13 1 d), (Reg.hlFOLD_RUNS h, fld 16 4 d),
       (Reg.hlFOLD_FAILS h, fld 20 4 d), (Reg.hlFOLD_LAST_OK h, fld 24 8 d)]
  | none => s

/-- The persistent patch list of head h. -/
def State.takePatches (s : State) (h : Nat) : State :=
  match s.nvm.data (0x20 + h) with
  | some d =>
    let n := fld 0 2 d
    let l := (List.range n).map fun i => (⟨fld (4 + 16 * i) 4 d, fld (8 + 16 * i) 4 d, fld (12 + 16 * i) 8 d⟩ : Patch)
    State.w { s with px := { s.px with persist := tset [] s.px.persist h l } } (Reg.pcPERSIST_COUNT h) n
  | none => s

/-- The stop record. -/
def State.takeStop (s : State) : State :=
  match s.nvm.data 0x11 with
  | some d => s.wAll [(Reg.thmSTOP_CAUSE, fld 0 1 d), (Reg.thmSTOP_TIME, fld 8 8 d)]
  | none => s

/-- The Tally mark: the next SEQ is the stored one, and HWM + 3,072 is stored before any entry (R466); what the mirror holds (R467). -/
def State.takeTally (s : State) : State :=
  let hwm := (s.nvm.data 0x01).elim 0 (fld 0 4)
  let marks := s.nvm.mirrorMarks
  let last := match marks with
    | [] => 0xFFFFFFFF
    | m :: l => l.foldl (fun a e => max a e.2) m.2
  let gen := marks.foldl (fun a e => max a (e.1 + 1)) 0
  let s1 := s.wAll [(Reg.tlyHWM, hwm), (Reg.tlyNEXT_SEQ, hwm), (Reg.tlyOLDEST_SEQ, hwm), (Reg.tlyPREV_LAST_SEQ, last),
    (Reg.tlyMIRROR_SEQ, last)]
  State.hwmStore { s1 with tly := { s1.tly with pageGen := gen } } (hwm + 3072)

/-- The pair: PAIR_MODE takes effect, and the epoch is the stored one (R483, R501). -/
def State.takePair (s : State) : State :=
  let mode := decide (s.r Reg.prPAIR_MODE = 1)
  State.wAll { s with pair := { s.pair with mode := mode, authority := !mode } }
    [(Reg.prPAIR_EPOCH, (s.nvm.data 0x02).elim 0 (fld 0 4)), (Reg.prROLE, b2n mode)]

/-- The command of window reads by FLASH_READ: READ4, FAST_READ4, or quad I/O FAST_READ4 (R550, R552). -/
def windowCmd (read : Nat) : Nat := if read = 0 then 0x13 else if read = 1 then 0x0C else 0xEC

/-- Dummy clocks of window reads: only the fast commands have them (R552). -/
def windowDummy (read dummy : Nat) : Nat := if read = 0 then 0 else dummy

/-- NVM recovery (R548): the records, then every object that is kept in one. -/
def State.recover (s : State) : State :=
  let r := s.nvm.recover
  let s1 := { s with nvm := r.nvm, boot := { s.boot with owed := r.events } }
  let s2 := ((s1.takeSettings).takeStop.each (List.range 32) fun h t => (t.takeLane h).takePatches h).takePair
  let s3 := s2.wAll [(Reg.nvmTWIN_FIXES, r.fixes), (Reg.nvmRECORDS_LOST, r.lost), (Reg.nvmRECOVERED_OPS, r.settled), (Reg.nvmNVM_STATE, 1),
    (Reg.nvmRECOVERY_TIME, (s2.up - s2.boot.recoverAt) / 1000)]
  State.takeTally { s3 with flash := { s3.flash with
    div := s3.r Reg.flFLASH_DIV, cmd := windowCmd (s3.r Reg.flFLASH_READ), dummy := windowDummy (s3.r Reg.flFLASH_READ) (s3.r Reg.flFLASH_DUMMY) } }

end Sys2Proof.Machine
end

