-- ==== Sys2Proof/Machine/Start.lean ====
section
/-! DEFINITION. Resets, start-up and life cycle (R526, R528, R564-R577). -/

namespace Sys2Proof.Machine

/-! ## Reset sources (R564-R567) -/

/-- A monitored supply has been below its threshold for dur ns, and is above it again; VAO takes the retention register and the power of
the drain clamps with it (R564, R565, R568). -/
def State.supplyLow (s : State) (vaoLow : Bool) (dur : Nat) : State :=
  if dur < 1000 then s
  else
    let t := s.wipe 1
    let u := { t with boot := { t.boot with supplyAt := t.up } }
    if vaoLow then { u with ret := {}, tap := { ({} : Tap) with challenge := u.tap.challenge }, d2d := { u.d2d with clamps := 0 } } else u

/-- Meaning of POWER_ON. -/
def execPowerOn (dt : Nat) (vaoLow : Bool) (dur : Nat) (s : State) : Host.Outcome State Fault Refusal :=
  .next ((s.advance dt).supplyLow vaoLow dur)

/-- A wiping reset that leaves a cut-off in force (R528). -/
def State.wipeKept (s : State) (cause : Nat) : State :=
  let t := s.wipe cause
  { t with pwr := { t.pwr with cutoff := s.pwr.cutoff, recoverSince := if s.pwr.cutoff then s.pwr.recoverSince else none } }

/-- RST_N has been low for width ns: 1 µs or more resets, below 100 ns does nothing, between them is open (R564). -/
def State.rstLow (s : State) (width : Nat) : State :=
  if width < 100 then s
  else if 1000 ≤ width then s.wipeKept 2
  else if Config.freeBool s.free then s.used.wipeKept 2 else s.used

/-- Meaning of RST_N. -/
def execRstN (dt : Nat) (width : Nat) (s : State) : Host.Outcome State Fault Refusal := .next ((s.advance dt).rstLow width)

/-- The armed watchdog has not been serviced for 250 ms (R566). -/
def State.watchdogOver (s : State) : State :=
  if s.boot.wdArmed ∧ s.since s.boot.wdLast 250000000 ∧ !s.stopHeld then s.wipe 3 else s

/-- Meaning of WATCHDOG. -/
def execWatchdog (dt : Nat) (s : State) : Host.Outcome State Fault Refusal := .next (s.advance dt).watchdogOver

/-- The firmware services the watchdog. -/
def State.serviced (s : State) : State := if s.boot.wdArmed then { s with boot := { s.boot with wdLast := s.up } } else s

/-- Meaning of WATCHDOG_SERVICE. -/
def execWatchdogService (dt : Nat) (s : State) : Host.Outcome State Fault Refusal := .next (s.advance dt).serviced

/-- DEBUG_RESET (R564). -/
def execDebugReset (dt : Nat) (o : Origin) (v : Nat) (s : State) : Host.Outcome State Fault Refusal :=
  .next ((s.advance dt).actBy o Reg.dbgDEBUG_RESET v fun t => t.debugReset)

/-- A comparator at 125 °C trips: gates low, reset, every domain but PD00 off, and CUTOFFS (R528). -/
def State.cutOff (s : State) : State :=
  let t := (s.stopAll 1 true).wipe 8
  State.w { t with
    ret := { s.ret with cutoffs := min 0xFFFFFFFF (s.ret.cutoffs + 1), cutoffOwed := true }
    pwr := { t.pwr with cutoff := true }, d2d := { t.d2d with clamps := 0 } } Reg.thmDOMAINS_UP 1

/-- Meaning of CUTOFF. -/
def execCutoff (dt : Nat) (_ : Fin 16) (s : State) : Host.Outcome State Fault Refusal := .next (s.advance dt).cutOff

/-- May a thermal recovery end what the device is in: a cut-off, or an orderly stop for heat after its step 5 (R526, R528)? -/
def State.hotWait (s : State) : Bool :=
  s.pwr.cutoff || (decide (s.r Reg.opDEVICE_STATE = stSTOPPING ∧ (s.r Reg.thmSTOP_CAUSE = 1 ∨ s.r Reg.thmSTOP_CAUSE = 2)) && s.pwr.stopOver)

/-- The sensors are read, in 0.1 °C: 10 s at or below 95 °C start a power-on reset. -/
def State.cooled (s : State) (ts : List Int) : State :=
  if !s.hotWait then s
  else if ts.all fun t => t ≤ 950 then
    match s.pwr.recoverSince with
    | some t => if s.since t 10000000000 then s.wipe 8 else s
    | none => { s with pwr := { s.pwr with recoverSince := some s.up } }
  else { s with pwr := { s.pwr with recoverSince := none } }

/-- Meaning of THERMAL_RECOVERY. -/
def execThermalRecovery (dt : Nat) (ts : List Int) (s : State) : Host.Outcome State Fault Refusal := .next ((s.advance dt).cooled ts)

/-! ## Start-up steps 1 to 4 (R570, R573, R598) -/

/-- Rails 0-10 inside their fault windows end step 1; a pending life-cycle wipe follows. -/
def State.stepOne (s : State) (rails : List Nat) : State :=
  if (rails.take 11).zipIdx.any fun e => railFault e.2 e.1 then s
  else
    let t := State.w { s with boot := { s.boot with recoverAt := s.up } } Reg.rstSTART_STEP 1
    if t.fac.wipePending then
      let u := t.userWipe
      { u with fac := { u.fac with wipePending := false } }
    else t

/-- The reset is released, no sooner than 2 ms after the supplies are good: PAIR_ID is sampled and PD00-PD03 are up (R565, R570). -/
def State.release (s : State) (pairId : Nat) (rails : List Nat) : State :=
  if s.boot.released.isSome ∨ s.pwr.cutoff ∨ !s.since s.boot.supplyAt 2000000 then s
  else
    let t := State.wAll { s with boot := { s.boot with released := some s.up, status := 1 }, d2d := { s.d2d with clamps := 0 } }
      [(Reg.prPAIR_ID, pairId), (Reg.thmDOMAINS_UP, 15), (Reg.nvmNVM_STATE, 0), (Reg.rstSTART_STEP, 0)]
    t.stepOne rails

/-- Meaning of RESET_RELEASE. -/
def execResetRelease (dt : Nat) (pairId : Fin 2) (rails : List Nat) (s : State) : Host.Outcome State Fault Refusal :=
  .next ((s.advance dt).release pairId rails)

/-- The rails are converted again while step 1 waits for them. -/
def State.recheck (s : State) (rails : List Nat) : State :=
  if s.boot.released.isSome ∧ s.r Reg.rstSTART_STEP = 0 then s.stepOne rails else s

/-- Meaning of SUPPLY_RECHECK. -/
def execSupplyRecheck (dt : Nat) (rails : List Nat) (s : State) : Host.Outcome State Fault Refusal := .next ((s.advance dt).recheck rails)

/-- NVM recovery ends and the boot code reads RDID and the image header, a second time where the first read is bad (R573). -/
def State.bootRead (s : State) (rdid : Nat) (headerOk : Bool) : State :=
  if s.r Reg.rstSTART_STEP ≠ 1 then s
  else
    let t := (s.recover.wAll [(Reg.rstSTART_STEP, 2), (Reg.flFLASH_ID, rdid % 2 ^ 24)])
    if rdid % 2 ^ 24 = 0 ∨ rdid % 2 ^ 24 = 0xFFFFFF then { t with boot := { t.boot with status := 4 } }
    else if !headerOk then { t with boot := { t.boot with status := 2 } }
    else t.used.wAll [(Reg.rstSTART_STEP, 3), (Reg.flFLASH_SIZE, if Config.freeBool t.free then 64 else 32)]

/-- Meaning of NVM_RECOVERY_DONE. -/
def execNvmRecoveryDone (dt : Nat) (rdid : Nat) (headerOk : Bool) (s : State) : Host.Outcome State Fault Refusal :=
  .next ((s.advance dt).bootRead rdid headerOk)

/-- The resident part has been loaded and checked: the firmware starts, and DRAM training begins; one that was bad twice is final (R566,
R573). -/
def State.firmware (s : State) (residentOk : Bool) : State :=
  if s.r Reg.rstSTART_STEP ≠ 3 ∨ s.boot.status ≠ 1 then s
  else if !residentOk then { s with boot := { s.boot with status := 3 } }
  else
    let t := State.wAll { s with
        boot := { s.boot with status := 0, wdArmed := true, wdLast := s.up, owed := [] }, mem := { s.mem with trainRate := s.r Reg.memRATE } }
      [(Reg.rstSTART_STEP, 4), (Reg.memMEM_STATE, 1)]
    (t.each s.boot.owed fun e u => u.event e.1 e.2.1 e.2.2).loadTables

/-- Meaning of FIRMWARE_START. -/
def execFirmwareStart (dt : Nat) (residentOk : Bool) (s : State) : Host.Outcome State Fault Refusal :=
  .next ((s.advance dt).firmware residentOk)

/-! ## Start-up step 5: training (R331, R349, R350) -/

/-- Supported rates below a rate, highest first. -/
def lowerRate (r : Nat) : Option Nat := ([8000, 7200, 6400, 5600, 4800].filter fun k => k < r).head?

/-- A set of subchannels as a mask. -/
def maskOf (l : List Nat) : Nat := l.foldl (fun m d => setBit d true m) 0

/-- Training has ended for good with subchannels `good` in service; `bad` have failed for a cause each. -/
def State.trainingDone (s : State) (r : List TrainIn) (good : List Nat) (bad : List (Nat × Nat)) : State :=
  let density := match r with
    | x :: _ => x.density
    | [] => 0
  let cap := (r.map fun x => x.density / 4).foldl (· + ·) 0
  let t := State.wAll { s with mem := { s.mem with passed := maskOf good, eccMode := s.r Reg.memECC_MODE } }
    ([(Reg.memDENSITY, density), (Reg.memCAPACITY, cap), (Reg.memIN_SERVICE, maskOf good)] ++
     (List.range 4).map fun i => (Reg.rgnGRAIN_ACTIVE i, s.r (Reg.rgnGRAIN i)))
  let u := t.each good fun d x =>
    (x.wSubCh d { x.subCh d with eyes := fullEyes (r.getD d ⟨0, []⟩).sweeps }).wAll [(Reg.subSUB_STATE d, 1), (Reg.subLAST_TRAIN d, x.now)]
  (u.each bad fun e x => x.subOut e.1 e.2).regionSizes

/-- Does a subchannel pass training (R349)? -/
def State.trainOk (s : State) (x : TrainIn) : Bool := decide (s.r Reg.memEYE_MIN ≤ narrowest (fullEyes x.sweeps))

/-- The subchannels have been trained at a rate: 8 or more that pass make it RATE_ACTIVE, otherwise the next lower one is tried; below
4,800 MT/s the memory stays off, and what passed or failed there is not marked (R350). A subchannel of another density than DS0's has
failed in any case (R331). -/
def State.trained (s : State) (r : List TrainIn) : State :=
  if s.r Reg.rstSTART_STEP ≠ 4 then s
  else
    let l := r.zipIdx.filter fun e => e.1.density ≠ 0
    let d0 := match r with
      | x :: _ => x.density
      | [] => 0
    let mine := l.filter fun e => e.1.density = d0
    let other := (l.filter fun e => e.1.density ≠ d0).map fun e => (e.2, 2)
    let good := (mine.filter fun e => s.trainOk e.1).map (·.2)
    let fail := (mine.filter fun e => !s.trainOk e.1).map fun e => (e.2, 1)
    if 8 ≤ good.length then
      let t := s.trainingDone r good (other ++ fail)
      State.wAll { t with boot := { t.boot with wipeAt := t.up } }
        [(Reg.memMEM_STATE, 2), (Reg.memRATE_ACTIVE, s.mem.trainRate), (Reg.rstSTART_STEP, 5)]
    else match lowerRate s.mem.trainRate with
      | some k => { s with mem := { s.mem with trainRate := k } }
      | none => (s.trainingDone r [] other).wAll [(Reg.memMEM_STATE, 0), (Reg.memFAIL_CAUSE, 1), (Reg.rstSTART_STEP, 5)]

/-- Meaning of DRAM_TRAINING_DONE. -/
def execDramTrainingDone (dt : Nat) (r : List TrainIn) (s : State) : Host.Outcome State Fault Refusal := .next ((s.advance dt).trained r)

/-! ## Start-up steps 6 to 8 (R558, R571) -/

/-- The first entry of the journal; what was changed before it follows it (R467). -/
def State.startEntry (s : State) : State :=
  let t := s.w Reg.tlyLIFE_START_SEQ (s.r Reg.tlyNEXT_SEQ)
  let e : TEntry := ⟨0, t.epoch, 0x42, 8, Reg.tlyNEXT_SEQ / 256, Reg.tlyNEXT_SEQ % 256, 0, 0,
    t.r Reg.tlyPREV_LAST_SEQ + t.fac.lifeCycle * 2 ^ 32, t.now⟩
  State.tlyGoOn { t with tly := { t.tly with held := e :: t.tly.held, awaits := false } }

/-- Does POWER hold (check 5 of R317)? -/
def State.powerFits (s : State) : Bool :=
  let p := s.fillPool
  decide (10 * s.pEst p (s.placeStreams s.checkCap s.liveStreams).1 ≤ s.r Reg.opPOWER_LIMIT)

/-- Shed until the power check passes, too; n bounds the items. -/
def State.shedPower (s : State) : Nat → State
  | 0 => s
  | n + 1 => if s.powerFits then s else match s.shedOne with
    | some t => t.shedPower n
    | none => s

/-- Shepherd places the loaded configuration once: what fails a check is shed, and streams without a place are refused (R558). -/
def State.placeLoaded (s : State) : State :=
  let t := s.each stations fun st u => u.when (u.runs st && decide (2048 < u.r (Reg.sstBAND_LINES st))) fun v =>
    (v.wb Reg.shpSHED_STATIONS st true).event 0x0203 4 st
  let u := (if t.r Reg.memMEM_STATE = 0 then t else t.shed 72).shedPower 72
  u.publish 0 (u.placeStreams u.checkCap u.liveStreams).1 u.runFormat

/-- The wipe ends, or there is no DRAM to wipe: START, the configuration, the ring, STANDBY. -/
def State.wiped (s : State) : State :=
  if s.r Reg.rstSTART_STEP ≠ 5 then s
  else
    let a := s.when (decide (s.r Reg.memMEM_STATE = 2)) fun t =>
      t.memStart.w Reg.rstWIPE_TIME ((t.up - t.boot.wipeAt) / 1000000)
    let b := a.startEntry.loadConfig.placeLoaded
    let c := State.wAll { b with boot := { b.boot with standbyAt := b.up } } [(Reg.opDEVICE_STATE, stSTANDBY), (Reg.rstSTART_STEP, 8)]
    let d := c.ringBringUp
    if d.r Reg.suBOOT_TARGET = 1 then
      (d.when (decide (d.r Reg.memMEM_STATE = 3)) fun t => t.w Reg.memMEM_STATE 4).started
    else d

/-- Meaning of DRAM_WIPE_DONE. -/
def execDramWipeDone (dt : Nat) (s : State) : Host.Outcome State Fault Refusal := .next (s.advance dt).wiped.bootSettle

/-! ## Start-up steps 9 to 11 (R572) -/

/-- 10 s after step 8 without SYNCED. -/
def State.timeWait (s : State) : State :=
  if s.r Reg.rstSTART_STEP = 8 ∧ !s.boot.arrived ∧ !s.boot.waitRaised ∧ s.r Reg.timeTIME_STATE ≠ 2 ∧ s.since s.boot.standbyAt 10000000000 then
    State.event { s with boot := { s.boot with waitRaised := true } } 0x0802 0 0
  else s

/-- Meaning of START_TIME_WAIT. -/
def execStartTimeWait (dt : Nat) (s : State) : Host.Outcome State Fault Refusal := .next (s.advance dt).timeWait

/-- START_WAIT has passed since step 10: step 11 begins anyway. -/
def State.waitOver (s : State) : State :=
  if s.r Reg.rstSTART_STEP = 10 ∧ !s.boot.arrived ∧ s.pwr.target.isNone ∧ s.since s.boot.readyAt (1000000 * s.r Reg.suSTART_WAIT) then
    (s.event 0x0803 0 s.startMask).startRun
  else s

/-- Meaning of START_WAIT_EXPIRED. -/
def execStartWaitExpired (dt : Nat) (s : State) : Host.Outcome State Fault Refusal := .next (s.advance dt).waitOver.bootSettle

/-! ## Life cycle (R575-R577) -/

/-- Meaning of LC_REQ. -/
def execLcReq (dt : Nat) (o : Origin) (v : Nat) (s : State) : Host.Outcome State Fault Refusal :=
  .next ((s.advance dt).actBy o Reg.lcLC_REQ v fun t => t.lcRun v)

/-- Meaning of OWNER_KEY. -/
def execOwnerKey (dt : Nat) (o : Origin) (offset : Nat) (key : Bytes) (s : State) : Host.Outcome State Fault Refusal :=
  .next ((s.advance dt).blockBy o Reg.lcOWNER_KEY offset key fun t => t.blockPut Reg.lcOWNER_KEY offset key)

end Sys2Proof.Machine
end

