-- ==== Sys2Proof/Machine/Debug.lean ====
section
/-! DEFINITION. The debug port and the debug objects: TAP instructions, unlocking, object and memory access, halts and steps
(R578-R591). -/

namespace Sys2Proof.Machine

/-! ## TAP instructions (R578) -/

/-- Select an instruction; leaving HIGHZ ends its effect on the outputs. -/
def State.wIr (s : State) (code : Nat) : State := { s with tap := { s.tap with ir := code, floating := false } }

/-- EXTEST, CLAMP and HIGHZ are available in BLANK, DEVELOP and RETURN while PD19 is down. -/
def State.boundaryOpen (s : State) : Bool := decide (s.fac.lifeCycle ≠ 2) && !s.domUp 19

/-- The bypass register captures 0. -/
def State.selBypass (s : State) (code : Nat) : State :=
  let t := s.wIr code
  { t with tap := { t.tap with bypass := false } }

/-- TRST_N or test-logic reset selects IDCODE. -/
def State.tapReset (s : State) : State := s.wIr 0x01

/-- Meaning of TAP_RESET. -/
def execTapReset (dt : Nat) (s : State) : Host.Outcome State Fault Refusal := .next (s.advance dt).tapReset

/-- IDCODE captures the device's code. -/
def State.readIdcode (s : State) : State :=
  let t := s.wIr 0x01
  { t with tap := { t.tap with dr := 0x13219A97 } }

/-- Meaning of IDCODE. -/
def execIdcode (dt : Nat) (s : State) : Host.Outcome State Fault Refusal := .next (s.advance dt).readIdcode

/-- The boundary register captures the pins and takes new update values. -/
def State.boundary (s : State) (code : Nat) (pins update : List Bool) : State :=
  let t := s.wIr code
  { t with tap := { t.tap with pins := pins, update := update } }

/-- Meaning of SAMPLE/PRELOAD. -/
def execSamplePreload (dt : Nat) (pins update : List Bool) (s : State) : Host.Outcome State Fault Refusal :=
  .next ((s.advance dt).boundary 0x02 pins update)

/-- EXTEST drives the outputs from the update values, or acts as BYPASS. -/
def State.extest (s : State) (pins update : List Bool) : State :=
  if s.boundaryOpen then s.boundary 0x03 pins update else s.selBypass 0xFF

/-- Meaning of EXTEST. -/
def execExtest (dt : Nat) (pins update : List Bool) (s : State) : Host.Outcome State Fault Refusal :=
  .next ((s.advance dt).extest pins update)

/-- CLAMP holds the outputs at the update values with the bypass register selected, or acts as BYPASS. -/
def State.clampPins (s : State) : State := s.selBypass (if s.boundaryOpen then 0x04 else 0xFF)

/-- Meaning of CLAMP. -/
def execClamp (dt : Nat) (s : State) : Host.Outcome State Fault Refusal := .next (s.advance dt).clampPins

/-- HIGHZ floats the outputs with the bypass register selected, or acts as BYPASS. -/
def State.highz (s : State) : State :=
  if s.boundaryOpen then
    let t := s.selBypass 0x05
    { t with tap := { t.tap with floating := true } }
  else s.selBypass 0xFF

/-- Meaning of HIGHZ. -/
def execHighz (dt : Nat) (s : State) : Host.Outcome State Fault Refusal := .next (s.advance dt).highz

/-- Meaning of BYPASS. -/
def execBypass (dt : Nat) (s : State) : Host.Outcome State Fault Refusal := .next ((s.advance dt).selBypass 0xFF)

/-- DBG_STATUS: life cycle, lock and boot status. -/
def State.readStatus (s : State) : State :=
  let t := s.wIr 0x12
  { t with tap := { t.tap with dr := s.fac.lifeCycle + 256 * s.dbgLock + 65536 * s.boot.status } }

/-- Meaning of DBG_STATUS. -/
def execDbgStatus (dt : Nat) (s : State) : Host.Outcome State Fault Refusal := .next (s.advance dt).readStatus

/-! ## Unlocking (R579) -/

/-- The response that unlocks the port. -/
def State.unlockWord (s : State) : Option Bytes :=
  s.fac.ownerKey.map fun k => mac128 k ([0x55] ++ s.tap.challenge ++ padTo 12 s.fac.serial)

/-- A fresh challenge. -/
def State.newChallenge (s : State) : State :=
  State.used { s with tap := { s.tap with challenge := padTo 16 (Config.freeBytes s.free 16) } }

/-- An attempt in DEPLOYED outside a lockout: a match unlocks, a mismatch counts, and the third in a row locks out for 60 s. -/
def State.unlockTry (s : State) (response : Bytes) : State :=
  if s.unlockWord = some response then
    State.event { s.newChallenge with
      tap := { s.newChallenge.tap with unlocked := true }, ret := { s.ret with unlockFails := 0 } } 0x0805 0 0
  else
    let n := min 255 (s.ret.unlockFails + 1)
    let t := { s.newChallenge with ret := { s.ret with unlockFails := n } }
    let u := if 3 ≤ n then { t with tap := { t.tap with lockout := some (s.up + 60000000000) } } else t
    u.event 0x0806 0 n

/-- DBG_UNLOCK: the capture of the challenge, then the response. -/
def State.unlock (s : State) (response : Bytes) : State :=
  let t := s.wIr 0x13
  if s.fac.lifeCycle ≠ 2 then t
  else
    let u := { t with tap := { t.tap with dr := leNat s.tap.challenge } }
    if u.dbgLock = 3 then u else u.unlockTry response

/-- Meaning of DBG_UNLOCK. -/
def execDbgUnlock (dt : Nat) (response : Bytes) (s : State) : Host.Outcome State Fault Refusal := .next ((s.advance dt).unlock response)

/-- 60 s after the lockout began it ends. -/
def State.lockoutOver (s : State) : State := match s.tap.lockout with
  | some t => if t ≤ s.up then { s with tap := { s.tap with lockout := none } } else s
  | none => s

/-- Meaning of UNLOCK_LOCKOUT_END. -/
def execUnlockLockoutEnd (dt : Nat) (s : State) : Host.Outcome State Fault Refusal := .next (s.advance dt).lockoutOver

/-- Meaning of DBG_RELOCK. -/
def execDbgRelock (dt : Nat) (o : Origin) (v : Nat) (s : State) : Host.Outcome State Fault Refusal :=
  .next ((s.advance dt).actBy o Reg.dbgDBG_RELOCK v fun t => t.relockRun)

/-! ## DBG_OBJ (R580) -/

/-- Set the status of DBG_OBJ. -/
def State.objEnd (s : State) (status token : Nat) : State := { s with tap := { s.tap with objStatus := status, objToken := token } }

/-- What an Update-DR of DBG_OBJ sets: OP, and the fields that the access names. -/
structure ObjReq where
  op : Nat
  index : Option Nat := none
  sub : Option Nat := none
  len : Option Nat := none
  off : Option Nat := none
  data : Option Nat := none
  deriving DecidableEq, Repr

/-- The register with the fields of an Update-DR (R580). -/
def Tap.objSet (x : Tap) (q : ObjReq) : Tap :=
  { x with
    objOp := q.op, objIndex := q.index.getD x.objIndex, objSub := q.sub.getD x.objSub, objLength := q.len.getD x.objLength % 16
    objOffset := q.off.getD x.objOffset, objData := q.data.getD x.objData % 2 ^ 64 }

/-- An access through DBG_OBJ: denied while the port is locked, ignored while one is running. -/
def State.objAccess (s : State) (q : ObjReq) (f : State → State) : State :=
  let t := s.wIr 0x10
  if !t.dbgOpen then t.objEnd 0x18 0 else if t.tap.objStatus = 0xFE then t else f { t with tap := t.tap.objSet q }

/-- Read an object: DATA holds its first 8 bytes. -/
def State.objRead (s : State) (key : Nat) : State :=
  let (st, tok, b) := s.readObj 0x40 key
  let t := (s.toADie key).objEnd st tok
  { t with tap := { t.tap with objData := leNat (b.take 8) } }

/-- Meaning of DBG_OBJ read. -/
def execDbgObjRead (dt index sub : Nat) (s : State) : Host.Outcome State Fault Refusal :=
  .next ((s.advance dt).objAccess { op := 1, index := some index, sub := some sub } fun t => t.objRead (256 * index + sub))

/-- Write an object, or trigger an action. -/
def State.objWrite (s : State) (key len v : Nat) : State :=
  ((s.objEnd 0xFE 0).putObj ⟨0x40, s.epoch⟩ key len (if len ≤ 8 then v % 256 ^ len else v) .debug).done

/-- Meaning of DBG_OBJ write. -/
def execDbgObjWrite (dt index sub length data : Nat) (s : State) : Host.Outcome State Fault Refusal :=
  .next ((s.advance dt).objAccess { op := 2, index := some index, sub := some sub, len := some length, data := some data } fun t =>
    t.objWrite (256 * index + sub) length data)

/-- Read bytes of a BLOCK object; OFFSET advances by those returned. -/
def State.objBlock (s : State) (key len off : Nat) : State :=
  if len = 0 ∨ 8 < len then s.objEnd 0x16 0
  else
    let (st, b) := s.readBlock 0x40 key off len
    let t := s.objEnd st 0
    { t with tap := { t.tap with objData := leNat b, objOffset := off + b.length } }

/-- Meaning of DBG_OBJ block read. -/
def execDbgObjBlockRead (dt index sub length offset : Nat) (s : State) : Host.Outcome State Fault Refusal :=
  .next ((s.advance dt).objAccess { op := 3, index := some index, sub := some sub, len := some length, off := some offset } fun t =>
    t.objBlock (256 * index + sub) length offset)

/-- Put bytes into the staging buffer of 64 KiB. -/
def State.objStage (s : State) (len off v : Nat) : State :=
  if len = 0 ∨ 8 < len ∨ 65536 < off + len then s.objEnd 0x16 0
  else
    let t := s.objEnd 0 0
    { t with tap := { t.tap with staging := tsetRun 0 t.tap.staging off (leBytes len v), objOffset := off + len } }

/-- Meaning of DBG_OBJ block stage. -/
def execDbgObjBlockStage (dt length offset data : Nat) (s : State) : Host.Outcome State Fault Refusal :=
  .next ((s.advance dt).objAccess { op := 4, len := some length, off := some offset, data := some data } fun t => t.objStage length offset data)

/-- One block write of the staged bytes before OFFSET, which is then 0; an object of another type than BLOCK does nothing. -/
def State.objApply (s : State) (key off : Nat) : State :=
  let t := ((s.objEnd 0xFE 0).putBlock ⟨0x40, s.epoch⟩ key 0 (tgetRun 0 s.tap.staging 0 (min off 65536)) .debug).done
  if (rowAt key).any fun (r : ObjRow) => decide (r.ty ≠ Ty.block) then t else { t with tap := { t.tap with objOffset := 0 } }

/-- Meaning of DBG_OBJ block apply. -/
def execDbgObjBlockApply (dt index sub offset : Nat) (s : State) : Host.Outcome State Fault Refusal :=
  .next ((s.advance dt).objAccess { op := 5, index := some index, sub := some sub, off := some offset } fun t =>
    t.objApply (256 * index + sub) offset)

/-! ## DBG_MEM (R581) -/

/-- Bytes of the space that an address lies in, counted as the addresses are: the end of its region in DRAM. -/
def State.memEnd (s : State) (space addr : Nat) : Nat :=
  if space = 0 then 2 ^ 38 * (addr / 2 ^ 38) + s.r (Reg.rgnSIZE (addr / 2 ^ 38))
  else if space = 1 then 33554432 else if space = 2 then 2621440 else 524288

/-- The copy that a read of an address goes to: its subchannel, none where no copy is in service or each is uncorrectable, and the
local address (R339, R340). -/
def State.dramCopy (s : State) (addr : Nat) : Option Nat × Nat :=
  let r := addr / 2 ^ 38
  let (ds, l) := s.dramPlace r (addr % 2 ^ 38)
  let bad (d : Nat) : Bool := s.mem.ue.contains (d, l / 64) || (decide (r = 3 ∧ d % 2 = 0) && s.mem.copyBad.contains (d / 2, l / 64))
  (ds.find? fun d => s.rb Reg.memIN_SERVICE d && !bad d, l)

/-- A read or a partial write finds its block uncorrectable: counted, entered, and for a write a second entry (R336, R357); both copies
of region 3 reset the device (R354). Requests of a failed subchannel only end so (R353). -/
def State.dramLost (s : State) (addr : Nat) (write : Bool) : State :=
  let (ds, l) := s.dramPlace (addr / 2 ^ 38) (addr % 2 ^ 38)
  let src := sourceOf 3 (addr / 2 ^ 38) false false
  match ds.find? fun d => s.rb Reg.memIN_SERVICE d with
  | some d =>
    let t := (s.uncorrected d l src).when write fun t => t.partialLost d l src
    if addr / 2 ^ 38 = 3 then t.memFatal else t
  | none => s

/-- The head whose segment takes slot p of the pool. -/
def State.slotOwner (s : State) (p : Nat) : Option Nat := headNos.find? fun h => s.placed h && decide (tget 8 s.shep.segs h = p)

/-- 8 bytes of DRAM or pool cells: those debug has written, else zero as the wipes leave them while nothing has been placed there since,
free afterwards. -/
def State.cellRead (s : State) (cells : List Host.Cell) (seen : List (Nat × Bool)) (a : Nat) (zero : Bool) : Nat × State :=
  if zero then (leNat (tgetRun 0 cells a 8), s)
  else
    let f := padTo 8 (Config.freeBytes s.free 8)
    (leNat ((List.range 8).map fun i => if tget false seen (a + i) then tget 0 cells (a + i) else f.getD i 0), s.used)

/-- 8 bytes at a pool address without records. -/
def State.poolRead (s : State) (a : Nat) : Nat × State := s.cellRead s.mem.pool s.mem.poolSet a (!bit (8 + a / 4194304) s.mem.touched)

/-- Write 8 bytes at a pool address without records. -/
def State.poolWrite (s : State) (a v : Nat) : State :=
  { s with mem := { s.mem with
      pool := tsetRun 0 s.mem.pool a (leBytes 8 v), poolSet := tsetRun false s.mem.poolSet a (List.replicate 8 true) } }

/-- Is a region as the wipe left it, but for what debug wrote? Region 3 is not: START is entered in Tally as soon as the wipe has ended. -/
def State.dramZero (s : State) (r : Nat) : Bool := decide (r < 3) && !bit r s.mem.touched

/-- The 64 bytes of a block whose first byte has key k, where the model knows them all. -/
def State.blockBytes (s : State) (k : Nat) (zero : Bool) : Option Bytes :=
  if zero || (List.range 64).all fun i => tget false s.mem.dramSet (k + i) then
    some ((List.range 64).map fun i => BitVec.ofNat 8 (tget 0 s.mem.dram (k + i)).toNat)
  else none

/-- Write 8 bytes of DRAM at a local address of a subchannel: the block is read, merged and written whole with its 4 check symbols
(R336). -/
def State.dramWrite (s : State) (d l v : Nat) : State :=
  let k := d * 2 ^ 33 + l
  let b := d * 2 ^ 33 + l / 64 * 64
  let s1 := { s with mem := { s.mem with
      dram := tsetRun 0 s.mem.dram k (leBytes 8 v), dramSet := tsetRun false s.mem.dramSet k (List.replicate 8 true) } }
  let sym := (s1.blockBytes b (s.dramZero (regionAt l))).map checkSymbols
  { s1 with mem := { s1.mem with check := tset (some (List.replicate 4 0)) s1.mem.check b sym } }

/-- 8 bytes of a space. -/
def State.spaceRead (s : State) (space a : Nat) : Nat × State :=
  if space = 0 then
    let c := s.dramCopy a
    s.cellRead s.mem.dram s.mem.dramSet (c.1.getD 0 * 2 ^ 33 + c.2) (s.dramZero (a / 2 ^ 38))
  else if space = 1 then
    match s.slotOwner (a / 4194304) with
    | some h =>
      let i := a % 4194304 / 8
      if i < s.factCount h then (s.record h i, s) else s.poolRead a
    | none => s.poolRead a
  else if space = 2 then (fld (a % 32768) 8 (padTo 32768 (tget [] s.rad (a / 32768))), s)
  else (if a < 2048 then 0 else leNat (tgetRun nvmErased (s.nvm.seen (a / 256)) a 8), s)

/-- Write 8 bytes of DRAM, every copy in service, or pool. -/
def State.spaceWrite (s : State) (space a v : Nat) : State :=
  if space = 0 then
    let (ds, l) := s.dramPlace (a / 2 ^ 38) (a % 2 ^ 38)
    s.each (ds.filter fun d => s.rb Reg.memIN_SERVICE d) fun d t => t.dramWrite d l v
  else
    match s.slotOwner (a / 4194304) with
    | some h =>
      let i := a % 4194304 / 8
      if i < s.factCount h then s.wRecord h i v else s.poolWrite a v
    | none => s.poolWrite a v

/-- The end of an access: status, data, and the address that AUTOINC advances after OK. -/
def State.memDone (s : State) (status a data : Nat) (inc : Bool) : State :=
  { s with tap := { s.tap with
    memStatus := status, memAddr := if status = 0 ∧ inc then (a + 8) % 2 ^ 40 else a, memData := data } }

/-- An access whose block is lost ends with MEM_ERROR, unless the loss resets the device. -/
def State.memLost (s : State) (a data : Nat) (write : Bool) : State :=
  let t := s.dramLost a write
  if a / 2 ^ 38 = 3 ∧ !s.stopHeld ∧ ((s.dramPlace 3 (a % 2 ^ 38)).1.any fun d => s.rb Reg.memIN_SERVICE d) then t else t.memDone 0x20 a data false

/-- Is the block that holds an address unusable, its domain down: every subchannel of it in DRAM, or the pool (R15)? -/
def State.memDown (s : State) (space a : Nat) : Bool :=
  if space = 0 then ((s.dramPlace (a / 2 ^ 38) (a % 2 ^ 38)).1).all fun d => !s.domUp (11 + d / 4)
  else decide (space = 1) && !s.domUp 15

/-- Read through DBG_MEM; a block that is down gives MEM_ERROR and a free value, and no controller counts it (R15, R581; assumption
108). -/
def State.memLook (s : State) (space addr : Nat) (inc : Bool) : State :=
  let a := addr % 2 ^ 40 / 8 * 8
  if s.memEnd space a ≤ a then s.memDone 0x02 (addr % 2 ^ 40) 0 false
  else if s.memDown space a then s.used.memDone 0x20 a (s.freeNat % 2 ^ 64) false
  else if space = 0 ∧ (s.dramCopy a).1.isNone then (s.memLost a (s.freeNat % 2 ^ 64) false).used
  else
    let (v, t) := s.spaceRead space a
    t.memDone 0 a v inc

/-- Write through DBG_MEM: table memory and NVM are read-only, and a block that cannot be read keeps its contents (R336). -/
def State.memStore (s : State) (space addr v : Nat) (inc : Bool) : State :=
  let a := addr % 2 ^ 40 / 8 * 8
  let d := v % 2 ^ 64
  if 2 ≤ space then s.memDone 0x12 (addr % 2 ^ 40) d false
  else if s.memEnd space a ≤ a then s.memDone 0x02 (addr % 2 ^ 40) d false
  else if s.memDown space a then s.memDone 0x20 a d false
  else if space = 0 ∧ (s.dramCopy a).1.isNone then s.memLost a d true
  else (s.spaceWrite space a d).memDone 0 a d inc

/-- An access through DBG_MEM, which sets OP, AUTOINC and SPACE: denied while the port is locked. -/
def State.memAccess (s : State) (op space : Nat) (inc : Bool) (f : State → State) : State :=
  let t := s.wIr 0x11
  if !t.dbgOpen then { t with tap := { t.tap with memStatus := 0x18 } }
  else f { t with tap := { t.tap with memOp := op, memInc := inc, memSpace := space } }

/-- Meaning of DBG_MEM read. -/
def execDbgMemRead (dt : Nat) (space : Fin 4) (addr : Nat) (autoinc : Bool) (s : State) : Host.Outcome State Fault Refusal :=
  .next ((s.advance dt).memAccess 1 space autoinc fun t => t.memLook space addr autoinc)

/-- Meaning of DBG_MEM write. -/
def execDbgMemWrite (dt : Nat) (space : Fin 4) (addr : Nat) (autoinc : Bool) (data : Nat) (s : State) :
    Host.Outcome State Fault Refusal := .next ((s.advance dt).memAccess 2 space autoinc fun t => t.memStore space addr data autoinc)

/-! ## Halts and steps (R582-R585) -/

/-- Meaning of HALT_PIPES. -/
def execHaltPipes (dt : Nat) (o : Origin) (v : Nat) (s : State) : Host.Outcome State Fault Refusal :=
  .next ((s.advance dt).writeCmd o Reg.dbgHALT_PIPES v)

/-- Meaning of HALT_STATIONS. -/
def execHaltStations (dt : Nat) (o : Origin) (v : Nat) (s : State) : Host.Outcome State Fault Refusal :=
  .next ((s.advance dt).writeCmd o Reg.dbgHALT_STATIONS v)

/-- Meaning of HALT_ZONES. -/
def execHaltZones (dt : Nat) (o : Origin) (v : Nat) (s : State) : Host.Outcome State Fault Refusal :=
  .next ((s.advance dt).writeCmd o Reg.dbgHALT_ZONES v)

/-- Meaning of LIVE_ACT. -/
def execLiveAct (dt : Nat) (o : Origin) (v : Nat) (s : State) : Host.Outcome State Fault Refusal :=
  .next ((s.advance dt).writeCmd o Reg.dbgLIVE_ACT v)

/-- Meaning of STEP_PIPES. -/
def execStepPipes (dt : Nat) (o : Origin) (v : Nat) (s : State) : Host.Outcome State Fault Refusal :=
  .next ((s.advance dt).actBy o Reg.dbgSTEP_PIPES v fun t => t.stepPipesRun v)

/-- Meaning of STEP_STATIONS. -/
def execStepStations (dt : Nat) (o : Origin) (v : Nat) (s : State) : Host.Outcome State Fault Refusal :=
  .next ((s.advance dt).actBy o Reg.dbgSTEP_STATIONS v fun t => t.stepStationsRun v)

/-- Meaning of STEP_TICK. -/
def execStepTick (dt : Nat) (o : Origin) (v : Nat) (s : State) : Host.Outcome State Fault Refusal :=
  .next ((s.advance dt).actBy o Reg.dbgSTEP_TICK v fun t => t.stepTickRun)

end Sys2Proof.Machine
end

