-- ==== Sys2Proof/Machine/Dispatch.lean ====
section
/-! DEFINITION. One arm per command: the direct call of its meaning. -/

namespace Sys2Proof.Machine

/-- The effect of a command on everything but the queue. -/
def exec (i : Instr) (s : State) : Host.Outcome State Fault Refusal :=
  match i with
  | .tickStart dt inp => Sys2Proof.Machine.execTickStart dt inp s
  | .d2dHeartbeatTx dt => Sys2Proof.Machine.execD2dHeartbeatTx dt s
  | .d2dLoss dt => Sys2Proof.Machine.execD2dLoss dt s
  | .d2dRecovered dt => Sys2Proof.Machine.execD2dRecovered dt s
  | .stopNLow dt width => Sys2Proof.Machine.execStopNLow dt width s
  | .stopNRelease dt => Sys2Proof.Machine.execStopNRelease dt s
  | .vgateLow dt mv => Sys2Proof.Machine.execVgateLow dt mv s
  | .floatingSupplyLow dt b boost mv dur => Sys2Proof.Machine.execFloatingSupplyLow dt b boost mv dur s
  | .commit dt h o v => Sys2Proof.Machine.execCommit dt h o v s
  | .sof dt h p => Sys2Proof.Machine.execSof dt h p s
  | .line dt h p => Sys2Proof.Machine.execLine dt h p s
  | .eof dt h p => Sys2Proof.Machine.execEof dt h p s
  | .frameTimeout dt h => Sys2Proof.Machine.execFrameTimeout dt h s
  | .frameLate dt h => Sys2Proof.Machine.execFrameLate dt h s
  | .reply dt h p => Sys2Proof.Machine.execReply dt h p s
  | .tableData dt h p => Sys2Proof.Machine.execTableData dt h p s
  | .headEvent dt h p => Sys2Proof.Machine.execHeadEvent dt h p s
  | .timeProbe dt h => Sys2Proof.Machine.execTimeProbe dt h s
  | .cmdTimeout dt h => Sys2Proof.Machine.execCmdTimeout dt h s
  | .busyRetry dt h => Sys2Proof.Machine.execBusyRetry dt h s
  | .authRetry dt h => Sys2Proof.Machine.execAuthRetry dt h s
  | .attachRetry dt h => Sys2Proof.Machine.execAttachRetry dt h s
  | .streamMinute dt h => Sys2Proof.Machine.execStreamMinute dt h s
  | .lifeWriteDue dt h => Sys2Proof.Machine.execLifeWriteDue dt h s
  | .writebackPacket dt h => Sys2Proof.Machine.execWritebackPacket dt h s
  | .rebind dt h o v => Sys2Proof.Machine.execRebind dt h o v s
  | .coefFetchDone dt h upTo => Sys2Proof.Machine.execCoefFetchDone dt h upTo s
  | .persistClear dt h o v => Sys2Proof.Machine.execPersistClear dt h o v s
  | .tauCommit dt h o v => Sys2Proof.Machine.execTauCommit dt h o v s
  | .tableBlockWrite dt t o offset data => Sys2Proof.Machine.execTableBlockWrite dt t o offset data s
  | .driftConfUpdate dt h => Sys2Proof.Machine.execDriftConfUpdate dt h s
  | .foldTrigger dt h => Sys2Proof.Machine.execFoldTrigger dt h s
  | .foldNow dt h o v => Sys2Proof.Machine.execFoldNow dt h o v s
  | .foldClosingLimit dt h => Sys2Proof.Machine.execFoldClosingLimit dt h s
  | .foldCheckDone dt h => Sys2Proof.Machine.execFoldCheckDone dt h s
  | .shutterOpenRetry dt h => Sys2Proof.Machine.execShutterOpenRetry dt h s
  | .encEdge dt e a b => Sys2Proof.Machine.execEncEdge dt e a b s
  | .encLatch dt => Sys2Proof.Machine.execEncLatch dt s
  | .encCoarseCopy dt => Sys2Proof.Machine.execEncCoarseCopy dt s
  | .speed dt => Sys2Proof.Machine.execSpeed dt s
  | .coverage dt f => Sys2Proof.Machine.execCoverage dt f s
  | .headAbsent dt st slot => Sys2Proof.Machine.execHeadAbsent dt st slot s
  | .stationRun dt st o v => Sys2Proof.Machine.execStationRun dt st o v s
  | .slotHead dt st slot o v => Sys2Proof.Machine.execSlotHead dt st slot o v s
  | .slotMap dt st slot o offset data => Sys2Proof.Machine.execSlotMap dt st slot o offset data s
  | .covEnable dt o v => Sys2Proof.Machine.execCovEnable dt o v s
  | .zoneRun dt z o v => Sys2Proof.Machine.execZoneRun dt z o v s
  | .demands dt m tick zs => Sys2Proof.Machine.execDemands dt m tick zs s
  | .arm dt b o => Sys2Proof.Machine.execArm dt b o s
  | .disarm dt b o => Sys2Proof.Machine.execDisarm dt b o s
  | .testPulse dt n o v => Sys2Proof.Machine.execTestPulse dt n o v s
  | .requestEligible dt n pts => Sys2Proof.Machine.execRequestEligible dt n pts s
  | .requestDeadline dt n => Sys2Proof.Machine.execRequestDeadline dt n s
  | .boostEnd dt n inp => Sys2Proof.Machine.execBoostEnd dt n inp s
  | .fallEnd dt n inp => Sys2Proof.Machine.execFallEnd dt n inp s
  | .peakEnd dt n inp => Sys2Proof.Machine.execPeakEnd dt n inp s
  | .phDropEnd dt n inp => Sys2Proof.Machine.execPhDropEnd dt n inp s
  | .chopThreshold dt n inp => Sys2Proof.Machine.execChopThreshold dt n inp s
  | .durationEnd dt n inp => Sys2Proof.Machine.execDurationEnd dt n inp s
  | .tSlowEnd dt n => Sys2Proof.Machine.execTSlowEnd dt n s
  | .decayEnd dt n inp rEst => Sys2Proof.Machine.execDecayEnd dt n inp rEst s
  | .decayLong dt n => Sys2Proof.Machine.execDecayLong dt n s
  | .bankFree dt b pts => Sys2Proof.Machine.execBankFree dt b pts s
  | .railSample dt b boost shs => Sys2Proof.Machine.execRailSample dt b boost shs s
  | .pwmPeriod dt n iAvg => Sys2Proof.Machine.execPwmPeriod dt n iAvg s
  | .overcurrent dt n inp vds => Sys2Proof.Machine.execOvercurrent dt n inp vds s
  | .openCheck dt n inp => Sys2Proof.Machine.execOpenCheck dt n inp s
  | .offTestRound dt b => Sys2Proof.Machine.execOffTestRound dt b s
  | .railOffTestSample dt b vd vr => Sys2Proof.Machine.execRailOffTestSample dt b vd vr s
  | .railOnTestSample dt n vd vr => Sys2Proof.Machine.execRailOnTestSample dt n vd vr s
  | .diagClear dt n o v => Sys2Proof.Machine.execDiagClear dt n o v s
  | .bankDiagClear dt b o v => Sys2Proof.Machine.execBankDiagClear dt b o v s
  | .cdWindowOpen dt n => Sys2Proof.Machine.execCdWindowOpen dt n s
  | .cdWindowEnd dt n pts => Sys2Proof.Machine.execCdWindowEnd dt n pts s
  | .channelCalDone dt n cs ds shs trims => Sys2Proof.Machine.execChannelCalDone dt n cs ds shs trims s
  | .calOverdue dt n => Sys2Proof.Machine.execCalOverdue dt n s
  | .calNow dt o v => Sys2Proof.Machine.execCalNow dt o v s
  | .restore dt => Sys2Proof.Machine.execRestore dt s
  | .segmentCopyDone dt h => Sys2Proof.Machine.execSegmentCopyDone dt h s
  | .intentWrite dt o station inp sub v => Sys2Proof.Machine.execIntentWrite dt o station inp sub v s
  | .streamWrite dt x o sub v => Sys2Proof.Machine.execStreamWrite dt x o sub v s
  | .powerLimit dt o v => Sys2Proof.Machine.execPowerLimit dt o v s
  | .refreshDue dt d waiting sweeps => Sys2Proof.Machine.execRefreshDue dt d waiting sweeps s
  | .memReadDone dt r => Sys2Proof.Machine.execMemReadDone dt r s
  | .scrubRead dt r odecc => Sys2Proof.Machine.execScrubRead dt r odecc s
  | .subchannelRetrain dt d o v => Sys2Proof.Machine.execSubchannelRetrain dt d o v s
  | .stageADone dt l => Sys2Proof.Machine.execStageADone dt l s
  | .stageTimeout dt l seen => Sys2Proof.Machine.execStageTimeout dt l seen s
  | .cap dt l w => Sys2Proof.Machine.execCap dt l w s
  | .capAck dt l w => Sys2Proof.Machine.execCapAck dt l w s
  | .rateGo dt l w => Sys2Proof.Machine.execRateGo dt l w s
  | .eqReq dt l w => Sys2Proof.Machine.execEqReq dt l w s
  | .eqStatus dt l w => Sys2Proof.Machine.execEqStatus dt l w s
  | .eqMeasure dt l eyeH eyeW => Sys2Proof.Machine.execEqMeasure dt l eyeH eyeW s
  | .ctleStep dt l eyeH eyeW => Sys2Proof.Machine.execCtleStep dt l eyeH eyeW s
  | .eqDone dt l w => Sys2Proof.Machine.execEqDone dt l w s
  | .lull dt l w => Sys2Proof.Machine.execLull dt l w s
  | .rxStatus dt l w => Sys2Proof.Machine.execRxStatus dt l w s
  | .rxStatusTimeout dt l => Sys2Proof.Machine.execRxStatusTimeout dt l s
  | .loss dt l x => Sys2Proof.Machine.execLoss dt l x s
  | .cdrLock dt l => Sys2Proof.Machine.execCdrLock dt l s
  | .relockTimeout dt l => Sys2Proof.Machine.execRelockTimeout dt l s
  | .absentRetry dt l => Sys2Proof.Machine.execAbsentRetry dt l s
  | .signalDetect dt l => Sys2Proof.Machine.execSignalDetect dt l s
  | .laneRetrain dt l o v => Sys2Proof.Machine.execLaneRetrain dt l o v s
  | .exportLaneFree dt x => Sys2Proof.Machine.execExportLaneFree dt x s
  | .stripeRejoin dt x => Sys2Proof.Machine.execStripeRejoin dt x s
  | .auxMode dt a o v => Sys2Proof.Machine.execAuxMode dt a o v s
  | .bitSlip dt a o v => Sys2Proof.Machine.execBitSlip dt a o v s
  | .captureArm dt a o v => Sys2Proof.Machine.execCaptureArm dt a o v s
  | .matchWrite dt a o mask v => Sys2Proof.Machine.execMatchWrite dt a o mask v s
  | .lullReq dt a o v => Sys2Proof.Machine.execLullReq dt a o v s
  | .ringFrameForward dt f => Sys2Proof.Machine.execRingFrameForward dt f s
  | .frameInsert dt collide => Sys2Proof.Machine.execFrameInsert dt collide s
  | .ringStatus dt f => Sys2Proof.Machine.execRingStatus dt f s
  | .ringStatusTx dt => Sys2Proof.Machine.execRingStatusTx dt s
  | .ringStatusTimeout dt p => Sys2Proof.Machine.execRingStatusTimeout dt p s
  | .unwrap dt p => Sys2Proof.Machine.execUnwrap dt p s
  | .delayExchange dt t1 => Sys2Proof.Machine.execDelayExchange dt t1 s
  | .delayReq dt f t2 t3 => Sys2Proof.Machine.execDelayReq dt f t2 t3 s
  | .delayRsp dt f t4 => Sys2Proof.Machine.execDelayRsp dt f t4 s
  | .timeSync dt f residence => Sys2Proof.Machine.execTimeSync dt f residence s
  | .masterTimeLost dt => Sys2Proof.Machine.execMasterTimeLost dt s
  | .estop dt f => Sys2Proof.Machine.execEstop dt f s
  | .estopClear dt f => Sys2Proof.Machine.execEstopClear dt f s
  | .enum dt f => Sys2Proof.Machine.execEnum dt f s
  | .ringReset dt f => Sys2Proof.Machine.execRingReset dt f s
  | .ringJoin dt o v => Sys2Proof.Machine.execRingJoin dt o v s
  | .grantTake dt f => Sys2Proof.Machine.execGrantTake dt f s
  | .grantRenew dt f => Sys2Proof.Machine.execGrantRenew dt f s
  | .grantRevoke dt f => Sys2Proof.Machine.execGrantRevoke dt f s
  | .objReqRead dt f => Sys2Proof.Machine.execObjReqRead dt f s
  | .objReqWrite dt f => Sys2Proof.Machine.execObjReqWrite dt f s
  | .blockRead dt f => Sys2Proof.Machine.execBlockRead dt f s
  | .blockWrite dt f => Sys2Proof.Machine.execBlockWrite dt f s
  | .rangeRead dt f => Sys2Proof.Machine.execRangeRead dt f s
  | .rangeWrite dt f => Sys2Proof.Machine.execRangeWrite dt f s
  | .blockData dt f => Sys2Proof.Machine.execBlockData dt f s
  | .xferTimeout dt src xfer => Sys2Proof.Machine.execXferTimeout dt src xfer s
  | .cyclic dt f => Sys2Proof.Machine.execCyclic dt f s
  | .mapEnable dt m o v => Sys2Proof.Machine.execMapEnable dt m o v s
  | .mirrorWrite dt => Sys2Proof.Machine.execMirrorWrite dt s
  | .nvmWriteDone dt bank => Sys2Proof.Machine.execNvmWriteDone dt bank s
  | .nvmProgramDone dt bank => Sys2Proof.Machine.execNvmProgramDone dt bank s
  | .heartbeat dt m p => Sys2Proof.Machine.execHeartbeat dt m p s
  | .partnerHeartbeatTx dt => Sys2Proof.Machine.execPartnerHeartbeatTx dt s
  | .partnerDown dt => Sys2Proof.Machine.execPartnerDown dt s
  | .objFwd dt m key data => Sys2Proof.Machine.execObjFwd dt m key data s
  | .armedSet dt m inp => Sys2Proof.Machine.execArmedSet dt m inp s
  | .offsets dt m h tag part => Sys2Proof.Machine.execOffsets dt m h tag part s
  | .diagState dt m chs banks => Sys2Proof.Machine.execDiagState dt m chs banks s
  | .candidate dt m vals => Sys2Proof.Machine.execCandidate dt m vals s
  | .verdict dt m code => Sys2Proof.Machine.execVerdict dt m code s
  | .verdictTimeout dt => Sys2Proof.Machine.execVerdictTimeout dt s
  | .configSync dt m vals blocks sets => Sys2Proof.Machine.execConfigSync dt m vals blocks sets s
  | .authorityRefresh dt => Sys2Proof.Machine.execAuthorityRefresh dt s
  | .claimLapsed dt => Sys2Proof.Machine.execClaimLapsed dt s
  | .peerClaimEdge dt => Sys2Proof.Machine.execPeerClaimEdge dt s
  | .peerClaimTimeout dt => Sys2Proof.Machine.execPeerClaimTimeout dt s
  | .claimSettle dt => Sys2Proof.Machine.execClaimSettle dt s
  | .claimBackoff dt => Sys2Proof.Machine.execClaimBackoff dt s
  | .leaseExpired dt => Sys2Proof.Machine.execLeaseExpired dt s
  | .handover dt o v => Sys2Proof.Machine.execHandover dt o v s
  | .stateReq dt o v => Sys2Proof.Machine.execStateReq dt o v s
  | .domainSwitch dt => Sys2Proof.Machine.execDomainSwitch dt s
  | .quadrantIdle dt q => Sys2Proof.Machine.execQuadrantIdle dt q s
  | .clockCheck dt sysHz laneAHz laneBHz crystalHz => Sys2Proof.Machine.execClockCheck dt sysHz laneAHz laneBHz crystalHz s
  | .housekeepingRound dt inp => Sys2Proof.Machine.execHousekeepingRound dt inp s
  | .orderlyStopEnd dt => Sys2Proof.Machine.execOrderlyStopEnd dt s
  | .thermalRecovery dt ts => Sys2Proof.Machine.execThermalRecovery dt ts s
  | .cutoff dt sensor => Sys2Proof.Machine.execCutoff dt sensor s
  | .flashPoll dt busy => Sys2Proof.Machine.execFlashPoll dt busy s
  | .spiSel dt o v => Sys2Proof.Machine.execSpiSel dt o v s
  | .selTimeout dt => Sys2Proof.Machine.execSelTimeout dt s
  | .spiGo dt o v => Sys2Proof.Machine.execSpiGo dt o v s
  | .spiShiftDone dt miso => Sys2Proof.Machine.execSpiShiftDone dt miso s
  | .configSave dt o v => Sys2Proof.Machine.execConfigSave dt o v s
  | .configClear dt o v => Sys2Proof.Machine.execConfigClear dt o v s
  | .powerOn dt vaoLow dur => Sys2Proof.Machine.execPowerOn dt vaoLow dur s
  | .rstN dt width => Sys2Proof.Machine.execRstN dt width s
  | .watchdog dt => Sys2Proof.Machine.execWatchdog dt s
  | .resetRelease dt pairId rails => Sys2Proof.Machine.execResetRelease dt pairId rails s
  | .supplyRecheck dt rails => Sys2Proof.Machine.execSupplyRecheck dt rails s
  | .nvmRecoveryDone dt rdid headerOk => Sys2Proof.Machine.execNvmRecoveryDone dt rdid headerOk s
  | .firmwareStart dt residentOk => Sys2Proof.Machine.execFirmwareStart dt residentOk s
  | .dramTrainingDone dt r => Sys2Proof.Machine.execDramTrainingDone dt r s
  | .dramWipeDone dt => Sys2Proof.Machine.execDramWipeDone dt s
  | .startTimeWait dt => Sys2Proof.Machine.execStartTimeWait dt s
  | .startWaitExpired dt => Sys2Proof.Machine.execStartWaitExpired dt s
  | .lcReq dt o v => Sys2Proof.Machine.execLcReq dt o v s
  | .ownerKey dt o offset key => Sys2Proof.Machine.execOwnerKey dt o offset key s
  | .debugReset dt o v => Sys2Proof.Machine.execDebugReset dt o v s
  | .tapReset dt => Sys2Proof.Machine.execTapReset dt s
  | .idcode dt => Sys2Proof.Machine.execIdcode dt s
  | .samplePreload dt pins update => Sys2Proof.Machine.execSamplePreload dt pins update s
  | .extest dt pins update => Sys2Proof.Machine.execExtest dt pins update s
  | .clamp dt => Sys2Proof.Machine.execClamp dt s
  | .highz dt => Sys2Proof.Machine.execHighz dt s
  | .bypass dt => Sys2Proof.Machine.execBypass dt s
  | .dbgStatus dt => Sys2Proof.Machine.execDbgStatus dt s
  | .dbgUnlock dt response => Sys2Proof.Machine.execDbgUnlock dt response s
  | .unlockLockoutEnd dt => Sys2Proof.Machine.execUnlockLockoutEnd dt s
  | .dbgRelock dt o v => Sys2Proof.Machine.execDbgRelock dt o v s
  | .dbgObjRead dt index sub => Sys2Proof.Machine.execDbgObjRead dt index sub s
  | .dbgObjWrite dt index sub length data => Sys2Proof.Machine.execDbgObjWrite dt index sub length data s
  | .dbgObjBlockRead dt index sub length offset => Sys2Proof.Machine.execDbgObjBlockRead dt index sub length offset s
  | .dbgObjBlockStage dt length offset data => Sys2Proof.Machine.execDbgObjBlockStage dt length offset data s
  | .dbgObjBlockApply dt index sub offset => Sys2Proof.Machine.execDbgObjBlockApply dt index sub offset s
  | .dbgMemRead dt space addr autoinc => Sys2Proof.Machine.execDbgMemRead dt space addr autoinc s
  | .dbgMemWrite dt space addr autoinc data => Sys2Proof.Machine.execDbgMemWrite dt space addr autoinc data s
  | .haltPipes dt o v => Sys2Proof.Machine.execHaltPipes dt o v s
  | .haltStations dt o v => Sys2Proof.Machine.execHaltStations dt o v s
  | .haltZones dt o v => Sys2Proof.Machine.execHaltZones dt o v s
  | .liveAct dt o v => Sys2Proof.Machine.execLiveAct dt o v s
  | .stepPipes dt o v => Sys2Proof.Machine.execStepPipes dt o v s
  | .stepStations dt o v => Sys2Proof.Machine.execStepStations dt o v s
  | .stepTick dt o v => Sys2Proof.Machine.execStepTick dt o v s
  | .auxReceivedWord dt a w => Sys2Proof.Machine.execAuxReceivedWord dt a w s
  | .watchdogService dt => Sys2Proof.Machine.execWatchdogService dt s
  | .fullTrainingDone dt d sweeps => Sys2Proof.Machine.execFullTrainingDone dt d sweeps s
  | .decayLimit dt n => Sys2Proof.Machine.execDecayLimit dt n s
  | .gateReleaseAfterD2dLoss dt => Sys2Proof.Machine.execGateReleaseAfterD2dLoss dt s

end Sys2Proof.Machine
end

