-- ==== Sys2Proof/Safety.lean ====
section
/-! DEFINITION. The terms that claims about the block are stated in: what a command makes of a state, what a frame is, the canonical
form of the stores, and the invariant of every run. -/

namespace Sys2Proof.Machine

/-! ## What a command does -/

/-- From s the command answers a next state, and P holds of it. -/
def Gives (c : Instr) (s : State) (P : State → Prop) : Prop := ∃ t, exec c s = .next t ∧ P t

/-- From s the command answers a next state: what `State.done` (halts, stations, device state, start-up, restores) makes of a state of
which P holds. -/
def GivesDone (c : Instr) (s : State) (P : State → Prop) : Prop := ∃ u, exec c s = .next u.done ∧ P u

/-- From s the command answers what the transitions of device states and start-up (`State.bootSettle`) make of a state of which P holds. -/
def GivesBoot (c : Instr) (s : State) (P : State → Prop) : Prop := ∃ u, exec c s = .next u.bootSettle ∧ P u

/-- Registers outside a list hold in t what they hold in a. -/
def SameRegsBut (a t : State) (ks : List Nat) : Prop := ∀ k, k ∉ ks → t.r k = a.r k

/-- Only registers differ, and of these only those listed. -/
def OnlyRegs (a t : State) (ks : List Nat) : Prop := t = { a with regs := t.regs } ∧ SameRegsBut a t ks

end Sys2Proof.Machine

namespace Sys2Proof

/-- The own time, ns, that a command brings (assumption 1). -/
def Instr.dt : Instr → Nat
  | .tickStart dt _ | .d2dHeartbeatTx dt | .d2dLoss dt | .d2dRecovered dt | .stopNLow dt _ | .stopNRelease dt
  | .vgateLow dt _ | .floatingSupplyLow dt _ _ _ _ | .commit dt _ _ _ | .sof dt _ _ | .line dt _ _ | .eof dt _ _
  | .frameTimeout dt _ | .frameLate dt _ | .reply dt _ _ | .tableData dt _ _ | .headEvent dt _ _ | .timeProbe dt _
  | .cmdTimeout dt _ | .busyRetry dt _ | .authRetry dt _ | .attachRetry dt _ | .streamMinute dt _ | .lifeWriteDue dt _
  | .writebackPacket dt _ | .rebind dt _ _ _ | .coefFetchDone dt _ _ | .persistClear dt _ _ _ | .tauCommit dt _ _ _
  | .tableBlockWrite dt _ _ _ _ | .driftConfUpdate dt _ | .foldTrigger dt _ | .foldNow dt _ _ _ | .foldClosingLimit dt _
  | .foldCheckDone dt _ | .shutterOpenRetry dt _ | .encEdge dt _ _ _ | .encLatch dt | .encCoarseCopy dt | .speed dt
  | .coverage dt _ | .headAbsent dt _ _ | .stationRun dt _ _ _ | .slotHead dt _ _ _ _ | .slotMap dt _ _ _ _ _
  | .covEnable dt _ _ | .zoneRun dt _ _ _ | .demands dt _ _ _ | .arm dt _ _ | .disarm dt _ _ | .testPulse dt _ _ _
  | .requestEligible dt _ _ | .requestDeadline dt _ | .boostEnd dt _ _ | .fallEnd dt _ _ | .peakEnd dt _ _
  | .phDropEnd dt _ _ | .chopThreshold dt _ _ | .durationEnd dt _ _ | .tSlowEnd dt _ | .decayEnd dt _ _ _ | .decayLong dt _
  | .bankFree dt _ _ | .railSample dt _ _ _ | .pwmPeriod dt _ _ | .overcurrent dt _ _ _ | .openCheck dt _ _
  | .offTestRound dt _ | .railOffTestSample dt _ _ _ | .railOnTestSample dt _ _ _ | .diagClear dt _ _ _
  | .bankDiagClear dt _ _ _ | .cdWindowOpen dt _ | .cdWindowEnd dt _ _ | .channelCalDone dt _ _ _ _ _ | .calOverdue dt _
  | .calNow dt _ _ | .restore dt | .segmentCopyDone dt _ | .intentWrite dt _ _ _ _ _ | .streamWrite dt _ _ _ _
  | .powerLimit dt _ _ | .refreshDue dt _ _ _ | .memReadDone dt _ | .scrubRead dt _ _ | .subchannelRetrain dt _ _ _
  | .stageADone dt _ | .stageTimeout dt _ _ | .cap dt _ _ | .capAck dt _ _ | .rateGo dt _ _ | .eqReq dt _ _
  | .eqStatus dt _ _ | .eqMeasure dt _ _ _ | .ctleStep dt _ _ _ | .eqDone dt _ _ | .lull dt _ _ | .rxStatus dt _ _
  | .rxStatusTimeout dt _ | .loss dt _ _ | .cdrLock dt _ | .relockTimeout dt _ | .absentRetry dt _ | .signalDetect dt _
  | .laneRetrain dt _ _ _ | .exportLaneFree dt _ | .stripeRejoin dt _ | .auxMode dt _ _ _ | .bitSlip dt _ _ _
  | .captureArm dt _ _ _ | .matchWrite dt _ _ _ _ | .lullReq dt _ _ _ | .ringFrameForward dt _ | .frameInsert dt _
  | .ringStatus dt _ | .ringStatusTx dt | .ringStatusTimeout dt _ | .unwrap dt _ | .delayExchange dt _ | .delayReq dt _ _ _
  | .delayRsp dt _ _ | .timeSync dt _ _ | .masterTimeLost dt | .estop dt _ | .estopClear dt _ | .enum dt _ | .ringReset dt _
  | .ringJoin dt _ _ | .grantTake dt _ | .grantRenew dt _ | .grantRevoke dt _ | .objReqRead dt _ | .objReqWrite dt _
  | .blockRead dt _ | .blockWrite dt _ | .rangeRead dt _ | .rangeWrite dt _ | .blockData dt _ | .xferTimeout dt _ _
  | .cyclic dt _ | .mapEnable dt _ _ _ | .mirrorWrite dt | .nvmWriteDone dt _ | .nvmProgramDone dt _ | .heartbeat dt _ _
  | .partnerHeartbeatTx dt | .partnerDown dt | .objFwd dt _ _ _ | .armedSet dt _ _ | .offsets dt _ _ _ _
  | .diagState dt _ _ _ | .candidate dt _ _ | .verdict dt _ _ | .verdictTimeout dt | .configSync dt _ _ _ _
  | .authorityRefresh dt | .claimLapsed dt | .peerClaimEdge dt | .peerClaimTimeout dt | .claimSettle dt | .claimBackoff dt
  | .leaseExpired dt | .handover dt _ _ | .stateReq dt _ _ | .domainSwitch dt | .quadrantIdle dt _ | .clockCheck dt _ _ _ _
  | .housekeepingRound dt _ | .orderlyStopEnd dt | .thermalRecovery dt _ | .cutoff dt _ | .flashPoll dt _ | .spiSel dt _ _
  | .selTimeout dt | .spiGo dt _ _ | .spiShiftDone dt _ | .configSave dt _ _ | .configClear dt _ _ | .powerOn dt _ _
  | .rstN dt _ | .watchdog dt | .resetRelease dt _ _ | .supplyRecheck dt _ | .nvmRecoveryDone dt _ _ | .firmwareStart dt _
  | .dramTrainingDone dt _ | .dramWipeDone dt | .startTimeWait dt | .startWaitExpired dt | .lcReq dt _ _ | .ownerKey dt _ _ _
  | .debugReset dt _ _ | .tapReset dt | .idcode dt | .samplePreload dt _ _ | .extest dt _ _ | .clamp dt | .highz dt
  | .bypass dt | .dbgStatus dt | .dbgUnlock dt _ | .unlockLockoutEnd dt | .dbgRelock dt _ _ | .dbgObjRead dt _ _
  | .dbgObjWrite dt _ _ _ _ | .dbgObjBlockRead dt _ _ _ _ | .dbgObjBlockStage dt _ _ _ | .dbgObjBlockApply dt _ _ _
  | .dbgMemRead dt _ _ _ | .dbgMemWrite dt _ _ _ _ | .haltPipes dt _ _ | .haltStations dt _ _ | .haltZones dt _ _
  | .liveAct dt _ _ | .stepPipes dt _ _ | .stepStations dt _ _ | .stepTick dt _ _ | .auxReceivedWord dt _ _
  | .watchdogService dt | .fullTrainingDone dt _ _ | .decayLimit dt _ | .gateReleaseAfterD2dLoss dt => dt

/-- The commands that may write a byte store: those that end an NVM or flash operation, every reset, the loss of the pool's domain, the
debug port's own writes, and those that may trigger one of these through an ACT object. -/
def Instr.storage : Instr → Bool
  | .nvmWriteDone .. | .nvmProgramDone .. | .flashPoll .. | .quadrantIdle .. | .orderlyStopEnd .. | .stateReq .. | .domainSwitch ..
  | .fullTrainingDone .. | .memReadDone .. | .scrubRead .. | .objReqRead .. | .objReqWrite .. | .powerOn .. | .rstN .. | .watchdog ..
  | .debugReset .. | .cutoff .. | .thermalRecovery .. | .resetRelease .. | .supplyRecheck .. | .nvmRecoveryDone .. | .ringReset ..
  | .ringFrameForward .. | .objFwd .. | .dbgObjWrite .. | .dbgObjBlockStage .. | .dbgMemRead .. | .dbgMemWrite .. => true
  | _ => false

end Sys2Proof

namespace Sys2Proof.Machine

/-! ## The stores (R332, R359, R535, R550, R580) -/

/-- The canonical form of a byte store whose unlisted addresses read as d: addresses rise strictly and no entry equals d. -/
def Memory.wf (d : Byte) (m : List Host.Cell) : Bool := twf d m

/-- Every byte store of the block is in its canonical form: NVM and boot flash erased where unlisted, DRAM, pool and the debug staging
buffer zero where unlisted. -/
def State.storesWf (s : State) : Bool :=
  Memory.wf nvmErased s.nvm.cells && Memory.wf nvmErased s.flash.cells && Memory.wf 0 s.mem.dram && Memory.wf 0 s.mem.pool &&
    Memory.wf 0 s.tap.staging

/-- The invariant of every run: the stores are in canonical form. -/
def StoresInv (s : State) : Prop := s.storesWf = true

/-- The token that the next accepted action gets: the newest plus one, never 0 (R448). -/
def State.nextToken (s : State) : Nat := if s.r Reg.actLAST_TOKEN = 65535 then 1 else s.r Reg.actLAST_TOKEN + 1

/-! ## Banks -/

/-- No gate of bank b is driven. -/
def GatesOff (t : State) (b : Nat) : Prop := t.gates b = .released ∨ t.gates b = .driven 0 false false

/-- Bank b has been stopped with cause k: the cause is set, no gate is driven, and a bank that was ARMED is STOPPED with an empty
queue. -/
def Stopped (a t : State) (b k : Nat) : Prop :=
  t.rb (Reg.bkSTOP_CAUSE b) k = true ∧ GatesOff t b ∧
    (a.r (Reg.bkBANK_STATE b) = 4 → t.r (Reg.bkBANK_STATE b) = 2 ∧ (t.bank b).queue = [])

/-- Only bank b, its channels and the listed registers differ. -/
def OnlyBank (a t : State) (b : Nat) (ks : List Nat) : Prop :=
  t = { a with banks := t.banks, chans := t.chans, regs := t.regs } ∧ (∀ j, j ≠ b → t.bank j = a.bank j) ∧
    (∀ n, n / 8 ≠ b → t.chan n = a.chan n) ∧ SameRegsBut a t ks

/-! ## Writes, words and frames that pass their checks -/

/-- A write of v to the object is accepted and takes effect: its access checks pass, and where it is an admission event no other
waits, its candidate passes and no partner has to agree, or the partner itself has sent it (R317, R324, R325, R620). -/
def State.writeGoes (a : State) (o : Origin) (key v : Nat) : Bool :=
  decide (a.accCheck o key (keySize key) v (a.relOk (a.w key v) key) = 0) &&
    (!a.admits key v || decide (o.src = 0x41) || (decide (a.shep.cands = []) && decide ((a.stored [(key, v)]).check.1 = 0) && !a.partnerUp))

/-- No breakpoint of kind 4 is set. -/
def State.noWriteBreak (a : State) : Prop := ∀ n, n < 8 → a.r (Reg.bpBP_KIND n) ≠ 4

/-- In t one training word of a type and first field has left, and on lane l. -/
def SentWord (t : State) (l ty f0 : Nat) : Prop := ∃ w, t.tw = [(l, w)] ∧ wordOk w ty = true ∧ w.f0 = f0

/-- A ring frame arrives on a trained port whose lanes are deskewed, whole and not aborted (R400, R404). -/
def State.whole (a : State) (f : RingFrame) : Bool :=
  (portLanes f.port).all (fun l => a.laneUp l) && (a.port f.port).deskewed && decide (f.skew ≤ 32) && hcrcOk f && frameOk f && !f.aborted

/-- A whole unicast frame of another node for the device (R406). -/
def State.forMe (a : State) (f : RingFrame) : Bool :=
  a.whole f && decide (1 < f.hops ∧ a.addr = some f.dst ∧ f.src ≠ f.dst ∧ a.r Reg.nodeADDR_CONFLICT = 0)

/-- A whole broadcast frame of another node (R406). -/
def State.forAll (a : State) (f : RingFrame) : Bool :=
  a.whole f && decide (1 < f.hops ∧ f.dst = 0x7F ∧ a.addr ≠ some f.src ∧ a.addr ≠ some 0x7F)

/-- Frame g leaves through port p, and nothing else does. -/
def Leaves (t : State) (p : Nat) (P : RingFrame → Prop) : Prop := ∃ g, t.ring.out = [⟨p, g⟩] ∧ hcrcOk g = true ∧ frameOk g = true ∧ P g

/-- The newest frame of the device's own that waits to be sent. -/
def NewestOwn (t : State) (ty dst : Nat) (payload : Bytes) : Prop :=
  ∃ q g, t.ring.txq = q ++ [g] ∧ g.ty = ty ∧ g.dst = dst ∧ g.payload = payload

/-- A partner message arrives whole on a partner lane that is UP, under the device's own epoch (R479, R482). -/
def State.hears (a : State) (m : PartnerMsg) : Prop :=
  m.valid = true ∧ a.pair.mode = true ∧ a.laneUp (88 + m.lane) = true ∧ m.epoch = a.epoch

/-- Between a and u one partner message leaves, and no other: on the partner lane that carries them, under the next SEQ (R37, R479). -/
def SentPartner (a u : State) (m : PMsg) : Prop :=
  ∀ l, a.partnerLane? = some l → u.ptx = [⟨l, m.type, a.pair.txSeq, m⟩] ∧ u.pair.txSeq = (a.pair.txSeq + 1) % 256

/-! ## Resets (R567, R568) -/

/-- What a wiping reset of a cause makes of a: every register at its reset value but the pair counters, the working state empty, the
factory data, the queue of commands and the power of the drain clamps kept, the debug port locked and idle, the cause and the boot
counted. -/
def Wiped (a t : State) (cause : Nat) : Prop :=
  (∀ k, k ∉ pairCounters → t.r k = State.reset.r k) ∧ (∀ k, k ∈ pairCounters → t.r k = a.r k) ∧ t.pending = a.pending ∧ t.up = a.up ∧
    t.fac = a.fac ∧ t.mem = {} ∧ t.od = {} ∧ t.tly = {} ∧ t.heads = [] ∧ t.banks = [] ∧ t.ring.estops = [] ∧ t.tap.unlocked = false ∧
    t.tap.objStatus = 0xFF ∧ t.tap.memStatus = 0xFF ∧ t.d2d.clamps = a.clampBanks ∧ t.ret = a.ret.after a.boot.released.isNone cause

/-! ## A safe run -/

/-- A run of k steps that meets no fault and no refusal. -/
def SafeRun (k : Nat) (s : State) : Prop := ∃ t, Host.Core.run ⟨State, Fault, Refusal, step, State.reset⟩ k s = .next t

end Sys2Proof.Machine
end

