-- ==== Sys2Proof/Certificates/Slice0/Obligations.lean ====
section
/-! DEFINITION. The statements for the provers. Time: a command brings dt ns of its own time, and `s.advance dt` is the state in which
it takes effect; "a" stands for that state. -/

open Sys2Proof Sys2Proof.Machine

/-! ## The block as a whole -/

/-- A step carries out the command at the front of the queue on the state with the queue's rest, and answers what that command
answers. -/
def Obligations.StepRunsFront : Prop :=
  ∀ (c : Instr) (q : List Instr) (s : State), s.pending = c :: q → step s = exec c { s with pending := q }

/-- With an empty queue a step answers the state unchanged: the model's choice (assumption 4). -/
def Obligations.EmptyQueueIdles : Prop := ∀ s : State, s.pending = [] → step s = .next s

/-- From every state whose byte stores are in canonical form a step answers a next state, with no fault and no refusal; it takes at
most the front command from the queue, puts none into it, and keeps every byte store in canonical form. -/
def Obligations.StepKeepsInvariant : Prop :=
  ∀ s : State, StoresInv s → ∃ t, step s = .next t ∧ StoresInv t ∧ t.pending = s.pending.tail

/-- The invariant of the byte stores holds at reset. -/
def Obligations.ResetInvariant : Prop := StoresInv State.reset

/-- Every command outside the list Instr.storage completes and leaves every byte of NVM, boot flash, DRAM, the pool and the debug
staging buffer, and the queue, as they were. -/
def Obligations.StoresKeptByOtherCommands : Prop :=
  ∀ (c : Instr) (s : State), c.storage = false →
    Gives c s fun t => (∀ k, tget nvmErased t.nvm.cells k = tget nvmErased s.nvm.cells k) ∧
      (∀ k, tget nvmErased t.flash.cells k = tget nvmErased s.flash.cells k) ∧ (∀ k, tget 0 t.mem.dram k = tget 0 s.mem.dram k) ∧
      (∀ k, tget 0 t.mem.pool k = tget 0 s.mem.pool k) ∧ (∀ k, tget 0 t.tap.staging k = tget 0 s.tap.staging k) ∧
      t.pending = s.pending

/-- A record of one page keeps its old data until copy A of the new has been written, and holds the new data from then on: after k
whole page writes, and a cut one that leaves a copy that does not check, recovery finds the old data for k = 0 and the new data
otherwise. -/
def Obligations.RecordSurvivesCut : Prop :=
  ∀ (n : Nvm) (id seq k : Nat) (old new torn : Bytes), id ∈ recIds → (recPages id).2.2 = 1 → new.length ≤ 240 → seq + 1 < 2 ^ 32 →
    n.copy id false = some (seq, old) → n.copy id true = some (seq, old) →
    let img := recImage id (seq + 1) new
    let ops := copyOps (recPages id).1 1 img ++ copyOps (recPages id).2.1 1 img
    let cut := (ops.drop k).head?.map fun o => NvmOp.page o.pageNo torn
    let m : Nvm := { n with cells := (ops.take k ++ cut.toList).foldl (fun c o => o.apply c) n.cells }
    (k < 2 → m.copy id (decide (k = 1)) = none) →
    (({ nvm := m } : Recovery).record id).nvm.data id = some (if k = 0 then old else new)

/-- At reset every object reads the default of its table; among them DEVICE_STATE is 1 STANDBY, TICK_PERIOD 1,000 µs, POWER_LIMIT
80.0 W, LAST_TOKEN 0, EVENT_ENABLE 1 and EVENT_HOLDOFF 100 ms, and no command waits. -/
def Obligations.ResetValues : Prop :=
  (∀ k, State.reset.r k = regDflt k) ∧ State.reset.r Reg.opDEVICE_STATE = 1 ∧ State.reset.r Reg.opTICK_PERIOD = 1000 ∧
    State.reset.r Reg.opPOWER_LIMIT = 800 ∧ State.reset.r Reg.actLAST_TOKEN = 0 ∧ State.reset.r Reg.evEVENT_ENABLE = 1 ∧
    State.reset.r Reg.evEVENT_HOLDOFF = 100 ∧ State.reset.pending = []

/-! ## Stops and the die-to-die link -/

/-- D2D_LOSS (50 µs without traffic while PD18 is up), STOP_N low for 40 ns or longer and VGATE below 10.5 V each set their stop
cause in every bank, leave no gate of any bank driven, and leave a bank that was ARMED in STOPPED with an empty queue. -/
def Obligations.HardStops : Prop :=
  ∀ (dt : Nat) (s : State), let a := s.advance dt
    (a.domUp 18 = true → a.d2d.lost = false → a.since a.d2d.lastRx 50000 = true →
      Gives (.d2dLoss dt) s fun t => t.d2d.lost = true ∧ t.d2d.lossAt = a.up ∧ ∀ b, b < 24 → Stopped a t b 2) ∧
    (∀ width, 40 ≤ width →
      Gives (.stopNLow dt width) s fun t => t.d2d.stopLow = true ∧ ∀ b, b < 24 → Stopped a t b 0) ∧
    (∀ mv, mv < 10500 → Gives (.vgateLow dt mv) s fun t => t.d2d.vgateLow = true ∧ ∀ b, b < 24 → Stopped a t b 4)

/-- A heartbeat due while PD18 is up renews the link's time and changes nothing else; 1 ms of heartbeats ends the loss, and a bank
without AUTO_REARM keeps its cause and its state; STOP_N going high is noted with its time; 1 ms after the loss a pair device
releases the gates of the banks that it stopped and no other bank's; a floating supply below 9.0 V for 2 µs turns that high side off
and changes nothing else of the bank's gates. -/
def Obligations.StopsEnd : Prop :=
  ∀ (dt : Nat) (s : State), let a := s.advance dt
    (a.domUp 18 = true → a.since a.d2d.lastTx 10000 = true →
      Gives (.d2dHeartbeatTx dt) s fun t => t = { a with d2d := t.d2d } ∧ t.d2d.lastTx = a.up ∧ t.d2d.lastRx = a.up ∧
        t.d2d.lost = a.d2d.lost) ∧
    (∀ t0, a.d2d.lost = true → a.d2d.hbSince = some t0 → a.since t0 1000000 = true → a.since a.d2d.lastTx 50000 = false →
      Gives (.d2dRecovered dt) s fun t => t.d2d.lost = false ∧ ∀ b, b < 24 → a.r (Reg.bkAUTO_REARM b) = 0 →
        t.r (Reg.bkSTOP_CAUSE b) = a.r (Reg.bkSTOP_CAUSE b) ∧ t.r (Reg.bkBANK_STATE b) = a.r (Reg.bkBANK_STATE b)) ∧
    (a.d2d.stopLow = true →
      Gives (.stopNRelease dt) s fun t => t = { a with d2d := { a.d2d with stopLow := false, stopHigh := a.up } }) ∧
    (a.pair.mode = true → a.since a.d2d.lossAt 1000000 = true →
      Gives (.gateReleaseAfterD2dLoss dt) s fun t => t = { a with banks := t.banks } ∧
        ∀ b, b < 24 → if a.rb (Reg.bkSTOP_CAUSE b) 2 then t.gates b = .released else t.bank b = a.bank b) ∧
    (∀ (b : Fin 24) (boost : Bool) (mv dur : Nat), mv < 9000 → 2000 ≤ dur →
      (if boost then (a.bank b).hb else (a.bank b).hh) = true →
      Gives (.floatingSupplyLow dt b boost mv dur) s fun t => t = { a with banks := t.banks } ∧
        (∀ j, j ≠ b.val → t.bank j = a.bank j) ∧ (t.bank b).ls = (a.bank b).ls ∧
        (if boost then (t.bank b).hb = false ∧ (t.bank b).hh = (a.bank b).hh
          else (t.bank b).hh = false ∧ (t.bank b).hb = (a.bank b).hb))

/-- An ARM action whose access checks pass is accepted with the next token. With value 1 on a bank that neither is ARMED nor FOLLOW,
ARM_RESULT names the first failing check of R261 and the bank is unchanged, or every check passes, STOP_CAUSE is cleared and the
bank arms at the next tick start; no other bank changes; with value 0 cause [6] is set and the gates are off unless an end decay
runs. -/
def Obligations.ArmDisarm : Prop :=
  ∀ (dt : Nat) (b : Fin 24) (o : Origin) (s : State), let a := s.advance dt
    (a.accCheck o (Reg.bkARM b) 1 1 true = 0 → a.bankRuns b = false →
      Gives (.arm dt b o) s fun t => t.od.rsp = ⟨0, a.nextToken, []⟩ ∧ t.r (Reg.bkARM_RESULT b) = a.armCheck b ∧
        (if a.armCheck b = 0 then t.r (Reg.bkSTOP_CAUSE b) = 0 ∧ (t.bank b).toArm = true
          else t.r (Reg.bkSTOP_CAUSE b) = a.r (Reg.bkSTOP_CAUSE b) ∧ t.bank b = a.bank b ∧
            t.r (Reg.bkBANK_STATE b) = a.r (Reg.bkBANK_STATE b)) ∧ ∀ j, j ≠ b.val → t.bank j = a.bank j) ∧
    (a.accCheck o (Reg.bkARM b) 1 0 true = 0 →
      Gives (.disarm dt b o) s fun t => t.od.rsp = ⟨0, a.nextToken, []⟩ ∧ t.r (Reg.bkARM_RESULT b) = 0 ∧
        t.rb (Reg.bkSTOP_CAUSE b) 6 = true ∧ (t.bank b).toArm = false)

/-! ## Requests and events -/

/-- A TEST_PULSE whose checks pass queues a request of priority 7 for the next tick's start plus 30 µs with the channel's deadline,
and one refused for the bank names NOT_ARMED; a request still queued at its deadline is dropped and counted for channel and bank;
the only request of a free ARMED injector bank starts BOOST once it is eligible; a bank whose gap has ended and whose queue is empty
is free. -/
def Obligations.RequestsRun : Prop :=
  ∀ (dt : Nat) (n : Fin 192) (s : State), let a := s.advance dt; let b := n.val / 8; let x := a.bank b
    (∀ (o : Origin) (v : Nat), a.accCheck o (Reg.chTEST_PULSE n) 4 v true = 0 →
      (a.r (Reg.bkBANK_STATE b) = 4 → a.r (Reg.bkBANK_TYPE b) = 1 → a.zoneOf n = none → 100 ≤ v → v ≤ a.r (Reg.chMAX_ON n) →
        a.r (Reg.chdCH_FAULT n) = 0 → x.occ = none →
        Gives (.testPulse dt n o v) s fun t => t.od.rsp = ⟨0, a.nextToken, []⟩ ∧ ∃ q ∈ (t.bank b).queue, q.ch = n.val ∧ q.dur = v ∧
          q.prio = 7 ∧ q.test = true ∧ q.ts = a.nextTickAt + 30000 ∧ q.deadline = q.ts + tenth (a.r (Reg.chEV_DEADLINE n))) ∧
      (a.r (Reg.bkBANK_STATE b) ≠ 4 → Gives (.testPulse dt n o v) s fun t => t.r (Reg.chTEST_RESULT n) = 1 ∧ t.bank b = x)) ∧
    (∀ q, x.queue.find? (fun q => decide (q.ch = n.val ∧ q.deadline ≤ a.up) && !q.re) = some q → q.test = false →
      Gives (.requestDeadline dt n) s fun t => (∀ p ∈ (t.bank b).queue, p.ch ≠ n.val) ∧
        t.r (Reg.chsBANK_OVERLAP n) = min 0xFFFFFFFF (a.r (Reg.chsBANK_OVERLAP n) + 1) ∧
        t.r (Reg.bstBANK_OVERLAP b) = min 0xFFFFFFFF (a.r (Reg.bstBANK_OVERLAP b) + 1)) ∧
    (∀ (q : Req) (pts : List Int), x.queue = [q] → q.ch = n.val → q.ts ≤ a.up → q.re = false → q.test = false → x.occ = none → x.cd = none →
      a.r (Reg.bkBANK_STATE b) = 4 → a.r (Reg.bkBANK_TYPE b) = 1 →
      Gives (.requestEligible dt n pts) s fun t => (t.bank b).occ = some n.val ∧ (t.bank b).queue = [] ∧ t.r (Reg.chsCH_STATE n) = 2 ∧
        bit (n % 8) (t.bank b).ls = true ∧ (t.bank b).hb = true ∧ (t.bank b).hh = false ∧ (t.bank b).first = a.up ∧
        (t.bank b).endAt = a.up + tenth q.dur ∧ t.r (Reg.chsLAST_START n) = a.now) ∧
    (∀ (c : Fin 24) (t0 : Nat) (pts : List Int), (a.bank c).freeAt = some t0 → t0 ≤ a.up → (a.bank c).queue = [] →
      Gives (.bankFree dt c pts) s fun t => (t.bank c).occ = none ∧ (t.bank c).freeAt = none ∧ t.r (Reg.bkBANK_STATE c) =
        a.r (Reg.bkBANK_STATE c))

/-- With the profile that the event runs with: BOOST ends at I_BOOST in FALL, at once where the current is there when it begins, or
after T_BOOST_MAX, which counts BOOST_TIMEOUT; FALL ends at I_PEAK - PEAK_HYST in PEAK; PEAK or FALL ends with T_PEAK in PH_DROP
with the gates that PH_DECAY asks for; PH_DROP ends at I_HOLD in HOLD; PEAK and HOLD begin with the hold high side on where the
current is below the band and the side has been off for 1 µs; in PEAK and HOLD it goes off at the level and on at the level less the
hysteresis. Nothing but the bank, its channel, CH_STATE and BOOST_TIMEOUT changes. -/
def Obligations.InjectorPhases : Prop :=
  ∀ (dt i : Nat) (n : Fin 192) (s : State), let a := s.advance dt; let b := n.val / 8; let x := a.bank b
    let p := fun k => x.p k; let may := x.hh || a.since x.hhAt 1000
    let gates := fun (t : State) (ls hb hh : Bool) => bit (n % 8) (t.bank b).ls = ls ∧ (t.bank b).hb = hb ∧ (t.bank b).hh = hh
    (a.inPhase n 2 = true → p 1 ≤ i → (a.since x.edgeAt 500 = true ∨ a.up = x.edge) → p 3 < i + p 4 → p 5 ≠ 0 →
      Gives (.boostEnd dt n i) s fun t => t.r (Reg.chsCH_STATE n) = 3 ∧ gates t true false false ∧
        OnlyBank a t b [Reg.chsCH_STATE n]) ∧
    (a.inPhase n 2 = true → i < p 1 → a.since x.edge (tenth (p 2)) = true → p 3 < i + p 4 → p 5 ≠ 0 →
      Gives (.boostEnd dt n i) s fun t => t.r (Reg.chsCH_STATE n) = 3 ∧ gates t true false false ∧
        t.r (Reg.chsBOOST_TIMEOUT n) = min 0xFFFFFFFF (a.r (Reg.chsBOOST_TIMEOUT n) + 1) ∧
        OnlyBank a t b [Reg.chsCH_STATE n, Reg.chsBOOST_TIMEOUT n]) ∧
    (a.inPhase n 3 = true → a.peakOver n = false → i + p 4 ≤ p 3 → a.since x.edgeAt 500 = true →
      Gives (.fallEnd dt n i) s fun t => t.r (Reg.chsCH_STATE n) = 4 ∧ gates t true false may ∧
        OnlyBank a t b [Reg.chsCH_STATE n]) ∧
    ((a.inPhase n 3 || a.inPhase n 4) = true → a.peakOver n = true → p 7 < i →
      Gives (.peakEnd dt n i) s fun t => t.r (Reg.chsCH_STATE n) = 5 ∧ gates t (decide (p 6 = 0)) false false ∧
        OnlyBank a t b [Reg.chsCH_STATE n]) ∧
    (a.inPhase n 5 = true → i ≤ p 7 → a.since x.edgeAt 500 = true →
      Gives (.phDropEnd dt n i) s fun t => t.r (Reg.chsCH_STATE n) = 6 ∧ gates t true false (decide (i + p 8 ≤ p 7) && may) ∧
        OnlyBank a t b [Reg.chsCH_STATE n]) ∧
    ((a.inPhase n 4 || a.inPhase n 6) = true → a.since x.edgeAt 500 = true → a.since x.hhAt 1000 = true →
      let level := if a.inPhase n 4 then p 3 else p 7; let hyst := if a.inPhase n 4 then p 4 else p 8;
      (x.hh = true → level ≤ i → Gives (.chopThreshold dt n i) s fun t => gates t true false false ∧ OnlyBank a t b []) ∧
      (x.hh = false → i + hyst ≤ level → Gives (.chopThreshold dt n i) s fun t => gates t true false true ∧ OnlyBank a t b []))

/-- With the profile and the parameters that the event runs with: at t_first + d the end decay begins whatever the phase, with the
gates that DECAY asks for, and LAST_ON is the energised time; a mixed decay turns fast after T_SLOW; at I_END the low side goes off
and the bank is free after BANK_GAP; a decay longer than DECAY_MAX turns fast, is counted, and ends 200 µs later at the latest. -/
def Obligations.EndDecay : Prop :=
  ∀ (dt i : Nat) (n : Fin 192) (s : State), let a := s.advance dt; let b := n.val / 8; let x := a.bank b
    let p := fun k => x.p k
    let off := fun (t : State) => bit (n % 8) (t.bank b).ls = false ∧ (t.bank b).hb = false ∧ (t.bank b).hh = false
    (x.occ = some n.val → x.decayAt = none → x.endAt ≤ a.up → x.par.iEnd < i →
      Gives (.durationEnd dt n i) s fun t => t.r (Reg.chsCH_STATE n) = 7 ∧ (t.bank b).decayAt = some a.up ∧
        t.r (Reg.chsLAST_ON n) = min 0xFFFFFFFF ((a.up - x.first) / 100) ∧ bit (n % 8) (t.bank b).ls = decide (p 9 ≠ 1) ∧
        (t.bank b).hb = false ∧ (t.bank b).hh = false ∧ OnlyBank a t b [Reg.chsCH_STATE n, Reg.chsLAST_ON n]) ∧
    (∀ t0, x.decayAt = some t0 → a.inPhase n 7 = true → x.fast = false → p 9 = 2 → a.since t0 (tenth (p 10)) = true →
      Gives (.tSlowEnd dt n) s fun t => (t.bank b).fast = true ∧ off t ∧ OnlyBank a t b []) ∧
    (∀ rEst, a.inPhase n 7 = true → i ≤ x.par.iEnd → a.pair.handover ≠ 2 →
      Gives (.decayEnd dt n i rEst) s fun t => off t ∧ (t.bank b).limitAt = none ∧
        (t.bank b).freeAt = some (a.up + tenth x.par.gap)) ∧
    (∀ t0, x.decayAt = some t0 → x.limitAt = none → a.inPhase n 7 = true → a.since t0 (tenth (p 11)) = true →
      Gives (.decayLong dt n) s fun t => (t.bank b).fast = true ∧ (t.bank b).limitAt = some (a.up + 200000) ∧ off t ∧
        t.r (Reg.bstDECAY_LONG b) = min 0xFFFFFFFF (a.r (Reg.bstDECAY_LONG b) + 1) ∧ OnlyBank a t b [Reg.bstDECAY_LONG b]) ∧
    (∀ t0, x.limitAt = some t0 → t0 ≤ a.up → a.inPhase n 7 = true → a.pair.handover ≠ 2 →
      Gives (.decayLimit dt n) s fun t => off t ∧ (t.bank b).cd = none ∧
        (t.bank b).freeAt = some (a.up + tenth x.par.gap))

/-- A PWM period of an ARMED proportional bank that is due keeps the hold high side on; with I_SET 0 the low side is off, DUTY is 0
and the accumulator 0; otherwise DUTY and the accumulator are those of the loop of R281, and the low side is on unless the on-time
is below 100 ns, until the on-time's end unless the off-time is below 100 ns. The rail sample 2 µs after a boost turn-on of an
injector bank records BOOST_V and LOW_BOOST, whether boost has ended since or not, and a rail that has risen passes the check. -/
def Obligations.ProportionalLoop : Prop :=
  ∀ (dt iAvg : Nat) (n : Fin 192) (s : State), let a := s.advance dt; let b := n.val / 8; let c := a.chan n
    let iSet := (a.iDue c).1
    let freq := a.r (Reg.prpPWM_FREQ b)
    (∀ k, a.r (Reg.bkBANK_STATE b) = 4 → a.r (Reg.bkBANK_TYPE b) = 2 → freq ≠ 0 → a.pwmIndex n = some k → c.pwmN ≤ k →
      (iSet = 0 → Gives (.pwmPeriod dt n iAvg) s fun t => t.r (Reg.chsDUTY n) = 0 ∧ t.r (Reg.chsI_SET n) = 0 ∧ (t.chan n).acc = 0 ∧
        bit (n % 8) (t.bank b).ls = false ∧ (t.bank b).hh = true) ∧
      (iSet ≠ 0 → a.r (Reg.chdCH_FAULT n) = 0 → c.frozen = none →
        let l := pwmLoop (a.r (Reg.prpCUR_KP b)) (a.r (Reg.prpCUR_KI b)) c.acc (a.iRef n iSet) iAvg
        Gives (.pwmPeriod dt n iAvg) s fun t => t.r (Reg.chsDUTY n) = l.2.1 ∧ t.r (Reg.chsI_SET n) = iSet ∧
          t.r (Reg.chsI_AVG n) = min 65535 iAvg ∧ t.r (Reg.chsCH_STATE n) = 8 ∧ (t.chan n).acc = l.1 ∧ (t.bank b).hh = true ∧
          bit (n % 8) (t.bank b).ls = dutyOn l.2.1 freq ∧ (t.chan n).pwmN = k + 1 ∧
          (t.chan n).offAt = if dutyOn l.2.1 freq && !dutyFull l.2.1 freq then some (a.pwmOff n k l.2.1) else none)) ∧
    (∀ (c : Fin 24) (shs t0 : Nat), a.r (Reg.bkBANK_TYPE c) = 1 → (a.bank c).hbOn = some t0 → a.since t0 2000 = true →
      (a.par c).vboostMin ≠ 0 →
      ((a.bank c).hb = false ∨ (a.since (a.bank c).hsAt 2000 = true ∧ (a.par c).railRise * a.r Reg.railVBOOST ≤ 100 * shs)) →
      Gives (.railSample dt c true shs) s fun t => t.r (Reg.bstBOOST_V c) = min 65535 ((shs + 50) / 100) ∧ (t.bank c).hbOn = none ∧
        ((a.bank c).hb = true → (t.bank c).railOk = true) ∧
        t.r (Reg.bstLOW_BOOST c) = (if shs < 100 * (a.par c).vboostMin then min 0xFFFFFFFF (a.r (Reg.bstLOW_BOOST c) + 1)
          else a.r (Reg.bstLOW_BOOST c)))

/-! ## Diagnostics and calibration -/

/-- Overcurrent with the low side on takes the low side and both high sides of the bank off, counts OVERCURRENT and, on a device
that is no follower, latches OVERCURRENT on the channel; an event whose current stays below I_OPEN after the rail check is one
NO_CURRENT observation and its decay begins, and one whose current is there clears the count. -/
def Obligations.OnStateFaults : Prop :=
  ∀ (dt i vds : Nat) (n : Fin 192) (s : State), let a := s.advance dt; let b := n.val / 8; let x := a.bank b
    (a.lowOn n = true → x.par.iOc ≤ i → a.r (Reg.bkBANK_TYPE b) = 1 → x.occ = some n.val → a.follower = false →
      a.r (Reg.chdCH_FAULT n) = 0 →
      Gives (.overcurrent dt n i vds) s fun t => bit (n % 8) (t.bank b).ls = false ∧ (t.bank b).hb = false ∧ (t.bank b).hh = false ∧
        t.r (Reg.chdOVERCURRENT n) = min 0xFFFFFFFF (a.r (Reg.chdOVERCURRENT n) + 1) ∧ t.r (Reg.chdCH_FAULT n) = 3 ∧
        t.r (Reg.chsCH_STATE n) = 7 ∧ (t.bank b).limitAt = some (a.up + 200000)) ∧
    (x.occ = some n.val → x.decayAt = none → x.openDone = false → a.since x.first (tenth x.par.tOpenChk) = true →
      (x.railOk = true → i < x.par.iOpen → x.par.iEnd < i → a.follower = false → (a.chan n).curN + 1 < a.confirm b →
        Gives (.openCheck dt n i) s fun t => (t.chan n).curN = (a.chan n).curN + 1 ∧ t.r (Reg.chsCH_STATE n) = 7 ∧
          (t.bank b).decayAt = some a.up) ∧
      (x.par.iOpen ≤ i →
        Gives (.openCheck dt n i) s fun t => (t.chan n).curN = 0 ∧ t = { a with banks := t.banks, chans := t.chans } ∧
          t.bank b = { x with openDone := true } ∧ (∀ j, j ≠ b → t.bank j = a.bank j) ∧ ∀ m, m ≠ n.val → t.chan m = a.chan m))

/-- A round due after OFF_PERIOD holds every channel of the bank; while the tests are allowed, a reading 100 µs after the bias of a
rail-off test, and one 10 µs after the tick start of a rail-on test, give LAST_OFF by the thresholds of R297 with the ring time, and
the tested channel has left the round; a rail-off test that is allowed no longer is dropped and its channel stays in the round. -/
def Obligations.OffStateTests : Prop :=
  ∀ (dt vd vr : Nat) (b : Fin 24) (n : Fin 192) (s : State), let a := s.advance dt
    (a.since (a.bank b).roundAt (1000000 * a.r (Reg.bdgOFF_PERIOD b)) = true →
      Gives (.offTestRound dt b) s fun t => (t.bank b).roundAt = a.up ∧ (∀ m ∈ chansOf b, m ∈ (t.bank b).round) ∧
        t = { a with banks := t.banks }) ∧
    (∀ t0, (a.bank b).test = some (n.val, t0) → n.val / 8 = b.val →
      (a.testOk b = true → a.since t0 100000 = true →
        Gives (.railOffTestSample dt b vd vr) s fun t => n.val ∉ (t.bank b).round ∧ t.r (Reg.chdLAST_OFF_TIME n) = a.now ∧
          t.r (Reg.chdLAST_OFF n) =
            (if 7000 < vd then 4 else if vd < 1000 then 3 else if 300 < Sys2Proof.Machine.dist vd vr then 2 else 1)) ∧
      (a.testOk b = false → Gives (.railOffTestSample dt b vd vr) s fun t => t = { a with banks := t.banks } ∧
        t.bank b = { a.bank b with test := none } ∧ ∀ j, j ≠ b.val → t.bank j = a.bank j)) ∧
    (∀ t0, (a.chan n).railOn = some t0 → a.onOk n = true → a.since t0 10000 = true →
      Gives (.railOnTestSample dt n vd vr) s fun t => (t.chan n).railOn = none ∧ t.r (Reg.chdLAST_OFF_TIME n) = a.now ∧
        t.r (Reg.chdLAST_OFF n) = (if vd < 1000 then 3 else if vd + 300 < vr then 2 else 1))

/-- A DIAG_CLEAR or BANK_DIAG_CLEAR whose checks pass is accepted with the next token and waits for the tick start; with the event's
own parameters the window of closing detection opens CD_START after the decay's end; at its end a kink among the means of 8 samples
that reaches CD_THRESH gives CLOSE_DELAY and counts CD_DETECT, and no kink that does gives 0xFFFF and counts CD_MISS. -/
def Obligations.ClearsAndClosing : Prop :=
  ∀ (dt v : Nat) (o : Origin) (b : Fin 24) (n : Fin 192) (pts : List Int) (c : CdWin) (s : State), let a := s.advance dt
    let d := n.val / 8
    (a.accCheck o (Reg.chdDIAG_CLEAR n) (keySize (Reg.chdDIAG_CLEAR n)) v true = 0 →
      Gives (.diagClear dt n o v) s fun t => t.od.rsp = ⟨0, a.nextToken, []⟩ ∧ (t.chan n).clear = true ∧
        (∀ m, m ≠ n.val → t.chan m = a.chan m) ∧ t.r (Reg.chdCH_FAULT n) = a.r (Reg.chdCH_FAULT n)) ∧
    (a.accCheck o (Reg.bdgBANK_DIAG_CLEAR b) (keySize (Reg.bdgBANK_DIAG_CLEAR b)) v true = 0 →
      Gives (.bankDiagClear dt b o v) s fun t => t.od.rsp = ⟨0, a.nextToken, []⟩ ∧ (t.bank b).clear = true ∧
        (∀ j, j ≠ b.val → t.bank j = a.bank j) ∧ t.r (Reg.bdgBANK_FAULT b) = a.r (Reg.bdgBANK_FAULT b)) ∧
    ((a.bank d).cd = some c → c.ch = n.val →
      (c.openAt = none → c.decayEnd + tenth c.par.cdStart ≤ a.up →
        Gives (.cdWindowOpen dt n) s fun t => t = { a with banks := t.banks } ∧
          (t.bank d).cd = some { c with openAt := some (c.decayEnd + tenth c.par.cdStart) }) ∧
      (∀ t0, c.openAt = some t0 → a.since t0 (tenth c.par.cdLen) = true →
        let found := kink ((blockSums pts).take (c.par.cdLen / 4)) c.par.cdSpan (decide (c.par.cdPol = 1))
        (∀ k (w : Int), found = some (k, w) → (8 * c.par.cdThresh : Int) ≤ w →
          Gives (.cdWindowEnd dt n pts) s fun t => (t.bank d).cd = none ∧
            t.r (Reg.chdCLOSE_DELAY n) = (clampI 0 65534 (roundHA (mkRat ((t0 + 200 + 400 * k : Nat) - (c.durEnd : Int)) 100))).toNat ∧
            t.r (Reg.chdCD_DETECT n) = min 0xFFFFFFFF (a.r (Reg.chdCD_DETECT n) + 1)) ∧
        ((∀ k (w : Int), found = some (k, w) → w < 8 * c.par.cdThresh) →
          Gives (.cdWindowEnd dt n pts) s fun t => (t.bank d).cd = none ∧ t.r (Reg.chdCLOSE_DELAY n) = 0xFFFF ∧
            t.r (Reg.chdCD_MISS n) = min 0xFFFFFFFF (a.r (Reg.chdCD_MISS n) + 1))))

/-! ## Sense calibration, the tick and the zones -/

/-- The calibration that runs in an idle bank applies its values together when they are in range, those of SHS_b with position 0,
records its time, clears CAL_OVERDUE and the frozen duty and leaves the run; a channel that has waited 100 ms is CAL_OVERDUE;
CAL_NOW is accepted with a token, is refused with result 1 while a run goes on, and else starts a run of cause 2 over every channel
of a configured bank. -/
def Obligations.Calibration : Prop :=
  ∀ (dt v : Nat) (w : CalVals) (n : Fin 192) (o : Origin) (s : State), let a := s.advance dt
    (a.calRuns n = true →
      Gives (.channelCalDone dt n ⟨w.csOff, w.csGain⟩ ⟨w.dsOff, w.dsGain⟩ ⟨w.shsOff, w.shsGain⟩ w.trims) s fun t =>
        n.val ∉ t.pwr.calLeft ∧ (t.chan n).frozen = none ∧
        t.r (Reg.chdCAL_TIME n) = a.now ∧ t.r (Reg.chdCAL_OVERDUE n) = 0 ∧
        (calValsOk w n = true → t.r (Reg.chdCS_OFFSET n) = sat2 16 w.csOff ∧ t.r (Reg.chdCS_GAIN n) = w.csGain ∧
          t.r (Reg.chdDS_OFFSET n) = sat2 16 w.dsOff ∧ t.r (Reg.chdDS_GAIN n) = w.dsGain ∧ (t.chan n).trims = w.trims ∧
          (n % 8 = 0 → (t.bank (n / 8)).shsOffset = w.shsOff ∧ (t.bank (n / 8)).shsGain = w.shsGain) ∧
          ∀ m, m ≠ n.val → t.chan m = a.chan m) ∧
        (calValsOk w n = false → t.r (Reg.chdCS_GAIN n) = a.r (Reg.chdCS_GAIN n) ∧
          t.r (Reg.chdDS_GAIN n) = a.r (Reg.chdDS_GAIN n) ∧
          (a.follower = false → a.r (Reg.chdCH_FAULT n) = 0 → t.r (Reg.chdCH_FAULT n) = 4))) ∧
    (n.val ∈ a.pwr.calLeft → a.since (a.chan n).calSince 100000000 = true →
      Gives (.calOverdue dt n) s fun t => t.r (Reg.chdCAL_OVERDUE n) = 1 ∧ OnlyRegs a t [Reg.chdCAL_OVERDUE n]) ∧
    (a.accCheck o Reg.calCAL_NOW (keySize Reg.calCAL_NOW) v true = 0 →
      Gives (.calNow dt o v) s fun t => t.od.rsp = ⟨0, a.nextToken, []⟩ ∧
        (a.r Reg.calCAL_STATE = 1 → t.r (Reg.calCAL_NOW + 1) = 1 ∧ t.pwr = a.pwr) ∧
        (a.r Reg.calCAL_STATE ≠ 1 → t.r Reg.calCAL_CAUSE = 2 ∧ t.r Reg.calCAL_REF_T = a.r Reg.tsA_DIE_MEAN ∧
          (a.calChans ≠ [] → t.r Reg.calCAL_STATE = 1 ∧ t.pwr.calLeft = a.calChans ∧
            ∀ m ∈ a.calChans, (t.chan m).calSince = a.up)))

/-- At the first TICK_START at or after the start of tick n = ring time / tick period the tick n is processed: its number is
TICK_COUNT, its start in ring and own time is kept, and the next tick is n + 1; a TICK_START of a tick that has run changes nothing.
-/
def Obligations.TickRunsOnce : Prop :=
  ∀ (dt : Nat) (i : TickIn) (s : State), let a := s.advance dt; let per := 1000 * a.r Reg.opTICK_PERIOD; let n := a.now / per
    (a.tick.next ≤ n → Gives (.tickStart dt i) s fun t =>
      t.tick = { next := n + 1, at_ := a.up - (a.now - n * per), t0 := n * per } ∧ t.r Reg.opTICK_COUNT = n) ∧
    (n < a.tick.next → exec (.tickStart dt i) s = .next a)

/-- Valid DEMANDS of the device's epoch on a lane that is up give each zone of a device without authority the demand of that zone,
and change nothing else; a device with authority takes none of it. -/
def Obligations.DemandsTaken : Prop :=
  ∀ (dt tick : Nat) (i : Fin 4) (zs : List (Nat × Nat)) (s : State), let a := s.advance dt
    a.pair.mode = true → a.laneUp (88 + i) = true →
    (a.auth = false →
      Gives (.demands dt ⟨i, a.epoch, true⟩ tick zs) s fun t => t = { a with zones := t.zones } ∧
        ∀ z, z < 192 → t.zone z = match zs[z]? with
          | some e => { a.zone z with bell := some (tick, e.1) }
          | none => a.zone z) ∧
    (a.auth = true → exec (.demands dt ⟨i, a.epoch, true⟩ tick zs) s = .next a)

/-- Where OUT_MIN <= u_prev <= OUT_MAX the demand of the law of R231 lies between OUT_MIN and OUT_MAX and within RATE_MAX of u_prev;
its integrator stays within ±100 %, and is the old one when the demand is limited in the direction of the error. -/
def Obligations.ZoneDemandLimits : Prop :=
  ∀ (p i iCand uff inc e : Rat) (sc outMin outMax rate uPrev : Nat), outMin ≤ uPrev → uPrev ≤ outMax → -10000 ≤ i → i ≤ 10000 →
    let o := piLaw p i iCand uff inc e sc outMin outMax rate uPrev
    (outMin : Int) ≤ o.u ∧ o.u ≤ outMax ∧ (uPrev : Int) - rate ≤ o.u ∧ o.u ≤ uPrev + rate ∧ -10000 ≤ o.i ∧ o.i ≤ 10000 ∧
      (o.windup = true → o.i = i ∧ ((o.u = o.hi ∧ 0 < e) ∨ (o.u = o.lo ∧ e < 0)))

/-- In its tick a zone that has started, whose configuration check passed and which has a safe cause, is in state SAFE with these
causes and delivers SAFE_DEMAND; where it follows no bellwether's demand it keeps its integrator, unless its register value exceeds
32 bits. -/
def Obligations.SafeZone : Prop :=
  ∀ (s : State) (z t0 at_ : Nat) (prev : Nat → Nat) (halt tracking : Bool), z < 192 → (s.zone z).init = true →
    (s.zone z).cfgErr = false → s.safeCauses z halt ≠ 0 → let t := s.zoneTick z t0 at_ prev halt tracking
    t.r (Reg.zsZONE_STATE z) = 5 ∧ t.r (Reg.zsSAFE_CAUSE z) = s.safeCauses z halt ∧ t.r (Reg.zsDEMAND z) = s.r (Reg.zoSAFE_DEMAND z) ∧
      t.delivered z = s.r (Reg.zoSAFE_DEMAND z) ∧
      (tracking = false → s.r (Reg.zsINTEGRAL z) < 2 ^ 32 → t.r (Reg.zsINTEGRAL z) = s.r (Reg.zsINTEGRAL z))

/-! ## Heads and pipelines -/

/-- On a lane that is not up a head packet changes nothing; one whose CRC, version or length does not check is discarded and counted
and changes nothing else. A reply to the outstanding STREAM of attach step 9 ends the command and the step; table data at the
expected offset extends the upload and restarts the timeout; an event that is not held off becomes the newest entry of EVENT_LOG.
Completion: under the conditions on the state and the operands named, and nothing else, reply, tableData and headEvent each answer a
next state with the effect said here. -/
def Obligations.HeadPackets : Prop :=
  ∀ (dt : Nat) (h : Fin 32) (p : HeadPkt) (drop : Bool) (s : State), let a := s.advance dt; let d := pktData p; let x := a.hd h
    (a.laneUp h = false → ∀ c ∈ [Instr.sof dt h p, .line dt h ⟨p, drop⟩, .eof dt h p, .reply dt h p, .tableData dt h p, .headEvent dt h p],
      exec c s = .next a) ∧
    (a.laneUp h = true → pktOk p 0x41 = false → exec (.reply dt h p) s = .next (a.bump (Reg.hcLINK_DISCARD h))) ∧
    (a.laneUp h = true → pktOk p 0x41 = true → ∀ c, x.cmd = some c → c.code = 0x0B → fld 0 1 c.args = 2 → c.waiting = none →
      c.void = false → x.step = 9 → x.queue = [] → fld 0 1 d = 0x0B → fld 1 1 d = c.req → fld 2 1 d = 0 →
      GivesDone (.reply dt h p) s fun u => (u.hd h).step = 10 ∧ (u.hd h).cmd = none ∧ ∀ g, g ≠ h.val → u.hd g = a.hd g) ∧
    (a.laneUp h = true → pktOk p 0x42 = true → ∀ c, x.cmd = some c → c.code = 0x06 → p.words.headD 0 % 256 = fld 0 1 c.args →
      (p.words.drop 1).headD 0 = fld 1 4 c.args + x.up.length →
      Gives (.tableData dt h p) s fun t => (t.hd h).up = (x.up ++ wordBytes (p.words.drop 2)).take (fld 5 4 c.args) ∧
        (t.hd h).cmd = some { c with sentAt := a.up } ∧ ∀ g, g ≠ h.val → t.hd g = a.hd g) ∧
    (a.laneUp h = true → pktOk p 0x43 = true → tget none (a.od.holds.map fun e => (e.1, some e.2)) (0x0104 * 65536 + h.val) = none →
      Gives (.headEvent dt h p) s fun t => ∃ e, t.od.log = e :: a.od.log.take 255 ∧ e.code = 0x0104 ∧ e.inst = h.val ∧
        e.data = p.words.headD 0 % 65536 ∧ e.time = a.now ∧ t.r Reg.evEVENT_SEQ = e.seq)

/-- With nothing outstanding a TIME_PROBE goes to an attached head 100 ms after the last; a command whose reply timeout has passed
is sent once more under its request id, a BUSY one after 10 ms under the next, but one that changes the head waits while a new epoch
is being stored; an authentication starts again with a fresh nonce and an attach from step 1 one second after their failure.
Completion: under the conditions on the state and the operands named, and nothing else, timeProbe, cmdTimeout, busyRetry, authRetry
and attachRetry each answer a next state with the effect said here. -/
def Obligations.HeadTimers : Prop :=
  ∀ (dt : Nat) (h : Fin 32) (s : State), let a := s.advance dt; let x := a.hd h
    let sent := fun (t : State) (ty : Nat) => ∃ p, t.hout = [⟨h.val, p, ty⟩] ∧ pktOk p ty = true
    (a.attached h = true → a.since x.lastProbe 100000000 = true → x.cmd = none → x.queue = [] →
      Gives (.timeProbe dt h) s fun t => sent t 0x82 ∧ (t.hd h).lastProbe = a.up ∧
        ∃ c, (t.hd h).cmd = some c ∧ c.code = 0x0A ∧ c.req = (x.reqId + 1) % 256 ∧ c.sentAt = a.up) ∧
    (∀ c, x.cmd = some c → c.waiting = none → c.sentAt + cmdTimeoutNs c.code ≤ a.up → c.tries < 2 → c.void = false →
      a.notSent c.code = false →
      (a.epochWaits c.code = true → GivesDone (.cmdTimeout dt h) s fun u => OnlyRegs a u [Reg.hlFOLD_STATE h]) ∧
      (a.epochWaits c.code = false → GivesDone (.cmdTimeout dt h) s fun u => sent u 0x82 ∧
        (u.hd h).cmd = some { c with tries := 2, sentAt := a.up, sent16 := a.clk.ring16 })) ∧
    (∀ c t0, x.cmd = some c → c.waiting = some t0 → t0 + 10000000 ≤ a.up → a.notSent c.code = false →
      (a.epochWaits c.code = true → Gives (.busyRetry dt h) s (· = a)) ∧
      (a.epochWaits c.code = false → Gives (.busyRetry dt h) s fun t => sent t 0x82 ∧ (t.hd h).reqId = (x.reqId + 1) % 256 ∧
        (t.hd h).cmd =
          some { c with waiting := none, req := (x.reqId + 1) % 256, tries := 1, sentAt := a.up, sent16 := a.clk.ring16 })) ∧
    (∀ t0, x.authRetryAt = some t0 → a.since t0 1000000000 = true → a.laneUp h = true →
      Gives (.authRetry dt h) s fun t => (t.hd h).step = 3 ∧ (t.hd h).authRetryAt = none ∧
        (t.hd h).nD = padTo 16 (Config.freeBytes a.free 16) ∧ t.free = a.free + 1) ∧
    (∀ t0, x.retryAt = some t0 → a.since t0 1000000000 = true → a.laneUp h = true →
      GivesDone (.attachRetry dt h) s fun u => (u.hd h).step = 1 ∧ (u.hd h).session = false ∧ (u.hd h).retryAt = none ∧
        u.attach h = atATTACHING ∧ u.r (Reg.hdREFUSE_CAUSE h) = 0)

/-- A streaming minute adds one to the head's streaming time and the weight of its mean WINDOW_TEMP to the window time that is owed;
every ten minutes a life record falls due; the next packet of a write-back leaves 8 ms after the last. Completion: under the
conditions on the state and the operands named, and nothing else, streamMinute, lifeWriteDue and writebackPacket each answer a next
state with the effect said here. -/
def Obligations.HeadLife : Prop :=
  ∀ (dt : Nat) (h : Fin 32) (s : State), let a := s.advance dt; let y := a.hr h
    (a.attach h = atSTREAMING → a.since y.minuteAt 60000000000 = true → 0 < y.winN →
      Gives (.streamMinute dt h) s fun t => (t.hr h).minutes = y.minutes + 1 ∧ (t.hr h).minuteAt = a.up ∧ (t.hr h).winN = 0 ∧
        (t.hd h).owed.stream = (a.hd h).owed.stream + 1 ∧ (t.hd h).owed.window = (a.hd h).owed.window +
          (if y.winSum < 6000 * y.winN then 1 else if y.winSum < 8000 * y.winN then 2 else if y.winSum < 10000 * y.winN then 4 else 8)) ∧
    (a.attach h = atSTREAMING → 10 ≤ y.minutes →
      Gives (.lifeWriteDue dt h) s fun t => (t.hr h).minutes = y.minutes - 10 ∧
        ((a.hd h).session = true → a.follower = false →
          ∃ c ∈ (t.hd h).cmd.toList ++ (t.hd h).queue, c.code = 0x05 ∧ c.args = a.lifeBytes h)) ∧
    (∀ w, (a.hd h).wb = some w → w.stage = 1 → a.since w.lastAt 8000000 = true → w.sent < w.offs.length → a.follower = false →
      a.pair.storing = none →
      Gives (.writebackPacket dt h) s fun t => (t.hd h).wb = some { w with sent := w.sent + 8192, lastAt := a.up } ∧
        ∃ p, t.hout = [⟨h.val, p, 0x83⟩] ∧ pktOk p 0x83 = true)

/-- A SOF of the current set's size at a streaming head without an open frame and a run, and with nothing halted, opens a frame
under the current set, or under the armed set whose tag it carries, which becomes the current one; the next LINE of an open frame is
taken and counted as taken; an EOF of its count and the timeout close it; a late frame counts in FRAME_LATE; fetched records let
waiting lines go on. Completion: under the conditions on the state and the operands named, and nothing else, sof, line, eof,
frameTimeout, frameLate and coefFetchDone each answer a next state with the effect said here. -/
def Obligations.FramesRun : Prop :=
  ∀ (dt : Nat) (h : Fin 32) (p : HeadPkt) (drop : Bool) (s : State), let a := s.advance dt; let d := pktData p; let x := a.pipe h
    (let f := sofOf d;
      a.laneUp h = true → pktOk p 0x01 = true → a.attach h = atSTREAMING → (a.hd h).step ≠ 10 → x.frame = none → (a.fold h).run = none →
      (a.hr h).rebuilt = [] → a.r Reg.dbgHALT_PIPES = 0 → a.r Reg.dbgHALTED_PIPES = 0 → a.r Reg.dbgHALT_STATIONS = 0 →
      a.r Reg.dbgHALTED_STATIONS = 0 → bit h a.shep.hdPend = false → f.epoch ≤ a.epoch →
      (∀ c, x.cur = some c → x.armed = none → c.v 0x101 = f.width → c.v 0x102 = f.height →
        ((a.hr h).subDue && decide (c.kind = .attach ∧ c.tag = f.tag)) = false →
        GivesDone (.sof dt h p) s fun u => ∃ g, (u.pipe h).frame = some g ∧ g.cnt = f.cnt ∧ g.set = c ∧ g.width = f.width ∧
          g.height = f.height ∧ g.switching = false ∧ g.incoherent = decide (c.tag ≠ f.tag) ∧ g.next = 0 ∧
          g.dT = max (-(c.v 0x402 : Int)) (min (c.v 0x402) (f.sub - c.subRef)) ∧ (u.hr h).sofAt = some a.up) ∧
      (∀ c q, x.cur = some c → x.armed = some q → q.tag = f.tag → q.v 0x101 = f.width → q.v 0x102 = f.height →
        GivesDone (.sof dt h p) s fun u => (u.pipe h).cur = some q ∧ (u.pipe h).armed = none ∧ u.r (Reg.hsCURRENT_TAG h) = q.tag ∧
          u.r (Reg.hsARMED_TAG h) = 0xFFFF ∧ ∃ g, (u.pipe h).frame = some g ∧ g.cnt = f.cnt ∧ g.set = q ∧ g.switching = true)) ∧
    (∀ f, x.frame = some f → a.laneUp h = true →
      (pktOk p 0x02 = true → fld 0 2 d = f.cnt % 65536 → fld 2 2 d = f.next → f.next < f.height → fld 4 2 d = f.width →
        bit 0 (fld 6 1 d) = false → (f.buf.filter fun b => b.px.isSome).length < 8 →
        Gives (.line dt h ⟨p, drop⟩) s fun t => ∃ g, (t.pipe h).frame = some g ∧ g.cnt = f.cnt ∧ g.set = f.set ∧ g.next = f.next + 1 ∧
          g.padded = f.padded) ∧
      (pktOk p 0x03 = true → fld 0 4 d = f.cnt → GivesDone (.eof dt h p) s fun u => (u.pipe h).frame = none)) ∧
    (∀ f, x.frame = some f →
      (a.since f.at_ (f.interval + f.interval * f.set.v 0x10C / 100) = true →
        GivesDone (.frameTimeout dt h) s fun u => (u.pipe h).frame = none) ∧
      (∀ upTo, f.buf = [] → Gives (.coefFetchDone dt h upTo) s fun t => (t.pipe h).frame = some { f with fetched := max f.fetched upTo } ∧
        t = { a with pipes := t.pipes })) ∧
    (∀ c t0, x.cur = some c → (a.hr h).sofAt = some t0 → a.attach h = atSTREAMING → (a.hr h).late ≠ 7 →
      a.since t0 (((a.hr h).late + 1) * (a.hr h).interval + c.v 0x10C * (a.hr h).interval / 100) = true →
      Gives (.frameLate dt h) s fun t => (t.hr h).late = (a.hr h).late + 1 ∧
        t.r (Reg.hcFRAME_LATE h) = min 0xFFFFFFFF (a.r (Reg.hcFRAME_LATE h) + 1))

/-- Each is accepted with the next token. A COMMIT that passes its checks and the admission arms the host set under the next tag,
which is its result, and one that fails leaves the armed set; TAU_COMMIT arms the current set with the pending proposals;
PERSIST_CLEAR empties the persistent list; REBIND without a head clears the binding; FOLD_NOW on a streaming head without a run
waits for the run. Completion: under the conditions on the state and the operands named, and nothing else, commit, rebind,
persistClear, tauCommit and foldNow each answer a next state with the effect said here. -/
def Obligations.HeadActions : Prop :=
  ∀ (dt v : Nat) (h : Fin 32) (o : Origin) (s : State), let a := s.advance dt
    let acc := fun k => a.accCheck o k (keySize k) v true = 0
    let on := fun k => a.actStart o.src k v (keySize k)
    let tag := nextTag (a.hr h).lastTag
    let rsp := fun (t : State) => t.od.rsp = ⟨0, a.nextToken, []⟩
    (acc (Reg.hsCOMMIT h) → let b := on (Reg.hsCOMMIT h);
      (b.commitCode h (b.hostSet h) = 0 → (b.withArmed h (some (b.hostSet h))).check.1 = 0 → b.partnerUp = false →
        a.shep.cands = [] →
        Gives (.commit dt h o v) s fun t => rsp t ∧ (t.pipe h).armed = some (b.hostSet h) ∧ (b.hostSet h).tag = tag ∧
          t.r (Reg.hsARMED_TAG h) = tag ∧ t.r (Reg.hsCOMMIT h + 1) = tag ∧ t.r (Reg.pcPATCH_COUNT h) = 0) ∧
      (b.commitCode h (b.hostSet h) ≠ 0 → Gives (.commit dt h o v) s fun t => rsp t ∧ t.pipes = a.pipes ∧
        t.r (Reg.hsCOMMIT h + 1) / 65536 = b.commitCode h (b.hostSet h))) ∧
    (acc (Reg.pcTAU_COMMIT h) → ∀ c, (a.pipe h).cur = some c → a.attached h = true → a.mustWait h = false →
      Gives (.tauCommit dt h o v) s fun t => rsp t ∧ t.r (Reg.pcTAU_PROPOSED h) = 0 ∧ t.r (Reg.pcTAU_COMMIT h + 1) = tag ∧
        ∃ p, (t.pipe h).armed = some p ∧ p.tag = tag ∧ p.taus = a.proposals h ∧ p.vals = c.vals) ∧
    (acc (Reg.pcPERSIST_CLEAR h) → Gives (.persistClear dt h o v) s fun t => rsp t ∧ t.persist h = [] ∧
      t.r (Reg.pcPERSIST_COUNT h) = 0 ∧ ∀ g, g ≠ h.val → t.persist g = a.persist g) ∧
    (acc (Reg.hdREBIND h) → a.laneUp h = false → GivesDone (.rebind dt h o v) s fun u => rsp u ∧ u.blob (Reg.hdBOUND_SERIAL h) = [] ∧
      u.r (Reg.hlSHUTTER_SUSPECT h) = 0 ∧ u.r (Reg.hlFOLD_FAIL_SEQ h) = 0) ∧
    (acc (Reg.hlFOLD_NOW h) → (v = 1 ∨ v = 2) → a.attach h = atSTREAMING → (a.fold h).run = none →
      Gives (.foldNow dt h o v) s fun t => rsp t ∧ (t.fold h).explicit_ = v ∧ (t.fold h).explicitWaits = true ∧ (t.fold h).run = none)

/-- DRIFT_CONF is formed anew every 100 ms of streaming; the triggers start a due attach run; the CLOSING limit fails a run with
code 1 and a failing check with its own, and both count the failure and open the shutter; a run that passes waits in OPENING;
SHUTTER open is repeated a second after the last. Completion: under the conditions on the state and the operands named, and nothing
else, driftConfUpdate, foldTrigger, foldClosingLimit, foldCheckDone and shutterOpenRetry each answer a next state with the effect
said here. -/
def Obligations.FoldRuns : Prop :=
  ∀ (dt : Nat) (h : Fin 32) (s : State), let a := s.advance dt; let f := a.fold h
    let failed := fun (u : State) (code : Nat) => u.r (Reg.hlFOLD_STATE h) = 6 ∧ u.r (Reg.hlLAST_FOLD_RESULT h) = 0xFFFF + 65536 * code ∧
      u.r (Reg.hlFOLD_FAILS h) = min 0xFFFFFFFF (a.r (Reg.hlFOLD_FAILS h) + 1) ∧
      u.r (Reg.hlFOLD_FAIL_SEQ h) = min 255 (a.r (Reg.hlFOLD_FAIL_SEQ h) + 1) ∧
      ∃ r, (u.fold h).run = some r ∧ r.result = code ∧ r.passed = false
    (a.attach h = atSTREAMING → a.since f.confAt 100000000 = true →
      Gives (.driftConfUpdate dt h) s fun t => t.r (Reg.hlDRIFT_CONF h) = a.driftConf h (a.hr h).winT ∧ (t.fold h).confAt = a.up ∧
        t = { a with regs := t.regs, folds := t.folds } ∧ SameRegsBut a t [Reg.hlDRIFT_CONF h]) ∧
    (a.since f.evalAt 100000000 = true → f.run = none → a.attach h = atSTREAMING → a.follower = false →
      a.rb Reg.dbgHALTED_PIPES h = false → (a.pipe h).armed = none → f.attachDue = true →
      Gives (.foldTrigger dt h) s fun t => t.r (Reg.hlFOLD_STATE h) = 1 ∧ t.r (Reg.hlFOLD_CAUSE h) = 0 ∧
        t.r (Reg.hlFOLD_RUNS h) = min 0xFFFFFFFF (a.r (Reg.hlFOLD_RUNS h) + 1) ∧ (t.fold h).attachDue = false ∧
        ∃ r, (t.fold h).run = some r ∧ r.cause = 0) ∧
    (∀ r t0, f.run = some r → r.replied = some t0 → r.first = none → a.r (Reg.hlFOLD_STATE h) = 1 →
      a.since t0 (8 * (a.pipe h).curInterval) = true → GivesDone (.foldClosingLimit dt h) s fun u => failed u 1) ∧
    (∀ r c, f.run = some r → (a.pipe h).cur = some c → a.r (Reg.hlFOLD_STATE h) = 5 → let k := a.foldCheck h r c;
      (k.code ≠ 0 → GivesDone (.foldCheckDone dt h) s fun u => failed u k.code) ∧
      (k.code = 0 → GivesDone (.foldCheckDone dt h) s fun u => u.r (Reg.hlFOLD_STATE h) = 6 ∧ u.r (Reg.hlLAST_SIGMA h) = k.sigma ∧
        u.r (Reg.hlFOLD_KEPT h) = k.kept ∧ ∃ q, (u.fold h).run = some q ∧ q.passed = true ∧ q.newSub = k.sub)) ∧
    ((a.hr h).reopen = true → a.attached h = true → a.since (a.hr h).reopenAt 1000000000 = true →
      GivesDone (.shutterOpenRetry dt h) s fun u => (u.hr h).reopenAt = a.up ∧
        (a.follower = false → ∃ c ∈ (u.hd h).cmd.toList ++ (u.hd h).queue, c.code = 0x09 ∧ c.args = leBytes 1 0))

/-! ## Web registration and Shepherd -/

/-- A phase step forward in the quadrature sequence adds ENC_SCALE to the encoder's position, a step backward takes it off unless
the position would go below 0, ENC_INVERT exchanges the two, a step of both phases counts in ENC_ERR; a latch, 1 µs after the last,
is the newest entry of the fine history and its copy, 100 µs after the last, the newest of the coarse one; one that comes earlier
changes nothing. No other encoder changes with an edge. Completion: under the conditions on the state and the operands named, and
nothing else, encEdge, encLatch and encCoarseCopy each answer a next state with the effect said here. -/
def Obligations.Encoders : Prop :=
  ∀ (dt : Nat) (e : Fin 4) (s : State), let a := s.advance dt; let x := a.enc e; let sc := a.r (Reg.encENC_SCALE e)
    (∀ p q, Gives (.encEdge dt e p q) s fun t => let y := t.enc e; let d := phaseStep x.a x.b p q;
      t = { a with encs := t.encs, regs := t.regs } ∧ SameRegsBut a t [Reg.encENC_ERR e] ∧ (∀ j, j ≠ e.val → t.enc j = a.enc j) ∧
      y.a = p ∧ y.b = q ∧ y.fine = x.fine ∧ y.coarse = x.coarse ∧ y.delta = x.delta ∧
      (d = 0 → y.pos = x.pos ∧ y.counts = x.counts ∧ t.regs = a.regs) ∧
      (d = 2 → y.pos = x.pos ∧ y.errAt = some a.up ∧ t.r (Reg.encENC_ERR e) = min 0xFFFFFFFF (a.r (Reg.encENC_ERR e) + 1)) ∧
      ((d = 1 ∨ d = 3) → t.regs = a.regs ∧
        ((d = 1 ↔ a.r (Reg.encENC_INVERT e) ≠ 1) → y.pos = x.pos + sc ∧ y.netAt a.up = x.netAt a.up + 1 ∧ y.fwd = true ∧
          y.te = some (a.now - a.r (Reg.encENC_FILTER e))) ∧
        (¬ (d = 1 ↔ a.r (Reg.encENC_INVERT e) ≠ 1) → if x.pos < sc then y.pos = x.pos ∧ y.counts = x.counts else
          y.pos + sc = x.pos ∧ y.netAt a.up = x.netAt a.up - 1 ∧ y.fwd = false ∧ y.te = some (a.now - a.r (Reg.encENC_FILTER e))))) ∧
    Gives (.encLatch dt) s (fun t => t = { a with encs := t.encs } ∧ t.enc e = if a.since x.latchAt 1000 then
      { x with fine := (⟨a.now, x.pos, x.te, x.fwd⟩ :: x.fine).take 1024, latchAt := a.up } else x) ∧
    Gives (.encCoarseCopy dt) s (fun t => t = { a with encs := t.encs } ∧
      ∀ l r, x.fine = l :: r → t.enc e = if a.since x.coarseAt 100000 then
        { x with coarse := (l :: x.coarse).take 1024, coarseAt := a.up } else x)

/-- SPEED, 1 ms after the last, is the net count over the millisecond that ends times ENC_SCALE over 1,000, exactly where that is a
whole number of the object's range; the default ENC_SCALE is 15,625,000 pm, at which a net count of 384 gives 6,000,000; a negative
net count is counted in REVERSE, any other is not. A SPEED that comes earlier changes nothing of the encoder. Completion: under the
conditions on the state and the operands named, and nothing else, speed answers a next state with the effect said here. -/
def Obligations.EncoderSpeed : Prop :=
  ∀ (dt : Nat) (e : Fin 4) (s : State), let a := s.advance dt; let x := a.enc e; let n := x.netAt a.up
    let sc := a.r (Reg.encENC_SCALE e)
    State.reset.r (Reg.encENC_SCALE e) = 15625000 ∧
    (a.since x.speedAt 1000000 = true → Gives (.speed dt) s fun t => t.enc e = { x with speedAt := a.up } ∧
      (∀ q : Int, n * sc = 1000 * q → -2147483648 ≤ q → q ≤ 2147483647 → t.ri 32 (Reg.encSPEED e) = q) ∧
      (n = 384 → sc = 15625000 → t.r (Reg.encSPEED e) = 6000000) ∧
      t.r (Reg.encREVERSE e) = if n < 0 then min 0xFFFFFFFF (a.r (Reg.encREVERSE e) + 1) else a.r (Reg.encREVERSE e)) ∧
    (a.since x.speedAt 1000000 = false → Gives (.speed dt) s fun t => t.enc e = x ∧ t.r (Reg.encSPEED e) = a.r (Reg.encSPEED e) ∧
      t.r (Reg.encREVERSE e) = a.r (Reg.encREVERSE e))

/-- A broadcast coverage frame of node 0 whose fields hold counts in COV_FRAMES, its SEQ is noted, and a line of it stands in the
store; one whose fields do not hold counts in COV_FORMAT_ERR and stores nothing. A present head without a line for its interval and
tolerance leaves the frontier. An item whose hold has passed is restored with cause 3. A copied segment waits for the next SOF.
Completion: under the conditions on the state and the operands named, and nothing else, coverage, headAbsent, restore and
segmentCopyDone each answer a next state with the effect said here. -/
def Obligations.CoverageAndRestores : Prop :=
  ∀ (dt : Nat) (s : State), let a := s.advance dt
    (∀ f, f.ty = 0x30 → f.src = 0 → a.forAll f = true → a.r Reg.covCOV_ENABLE = 1 → let b := f.payload;
      (a.covOk b = true → fld 5 1 b = 1 → Gives (.coverage dt f) s fun t =>
        t.r Reg.covCOV_FRAMES = min 0xFFFFFFFF (a.r Reg.covCOV_FRAMES + 1) ∧ t.cov.seq = some (fld 0 4 b) ∧
        let l := sgn 64 (fld 24 8 b) / ((1000 * a.r Reg.covCOV_PITCH : Nat) : Int);
        tget none t.cov.store (l % (a.r Reg.covCOV_DEPTH : Int)).toNat =
          some ⟨l, a.up, (List.range (fld 6 2 b)).map fun i => fld (48 + 2 * i) 2 b⟩) ∧
      (a.covOk b = false → Gives (.coverage dt f) s fun t => t.cov = a.cov ∧
        t.r Reg.covCOV_FORMAT_ERR = min 0xFFFFFFFF (a.r Reg.covCOV_FORMAT_ERR + 1))) ∧
    (∀ (st slot : Fin 8) c, let k := 8 * st.val + slot.val;
      a.stActive st = true → bit st.val a.shep.stPend = false → a.slotPresent k = true → (a.pipe (a.slotHead k)).cur = some c →
      a.since (a.slotRun k).at_ (c.v 0x103 + c.v 0x103 * c.v 0x10C / 100) = true →
      Gives (.headAbsent dt st slot) s fun t => (t.slotRun k).silent = true ∧ t.slotPresent k = false) ∧
    (∀ i, a.watchStep.restoreDue = some i → a.shep.cands = [] → a.partnerUp = false → GivesDone (.restore dt) s fun u => u.shep.lastRestore = some a.up ∧ u.shep.watch = none ∧
      u.r Reg.shpLAST_CAUSE = 3 ∧ u.r Reg.shpREPLACEMENTS = min 0xFFFFFFFF (a.r Reg.shpREPLACEMENTS + 1)) ∧
    (∀ h : Fin 32, (a.pipe h).copying = 1 → Gives (.segmentCopyDone dt h) s fun t => t = { a with pipes := t.pipes } ∧
      t.pipe h = { a.pipe h with copying := 2 } ∧ ∀ g, g ≠ h.val → t.pipe g = a.pipe g)

/-! ## Writes of objects -/

/-- A write whose access checks fail is answered with the first failing status and changes nothing; one that passes is answered OK
and the object holds the value. An admission event whose candidate fails is answered 0x1D with CHECK_RESULT naming the check and the
object unchanged; with the partner connected a passing candidate is sent to it and the object waits; while another placement is
being decided the event waits for it. A write of a halt leaves the value where no breakpoint of kind 4 is set. Completion: under the
conditions on the state and the operands named, and nothing else, stationRun, slotHead, covEnable, zoneRun, intentWrite,
streamWrite, powerLimit, mapEnable, liveAct, haltPipes, haltStations and haltZones each answer a next state with the effect said
here. -/
def Obligations.PlainWrites : Prop :=
  ∀ (dt v sub : Nat) (o : Origin) (st slot m : Fin 8) (z : Fin 192) (i : Fin 32) (x : Fin 64) (b : Bool) (s : State), let a := s.advance dt
    (∀ e ∈ [(Instr.stationRun dt st o v, Reg.stRUN st), (.slotHead dt st slot o v, Reg.slotHEAD (8 * st + slot)),
        (.covEnable dt o v, Reg.covCOV_ENABLE), (.zoneRun dt z o v, Reg.zbZONE_RUN z),
        (.intentWrite dt o b i sub v, 256 * (if b then 0x2130 + i.val % 8 else 0x2110 + i.val) + sub % 256),
        (.streamWrite dt x o sub v, 256 * (0x2140 + x.val) + sub % 256), (.powerLimit dt o v, Reg.opPOWER_LIMIT),
        (.mapEnable dt m o v, Reg.mapMAP_ENABLE m), (.liveAct dt o v, Reg.dbgLIVE_ACT)],
      (a.writeGoes o e.2 v = true → GivesDone e.1 s fun u => u.r e.2 = v ∧ u.od.rsp = ⟨0, 0, []⟩) ∧
      (let c := a.accCheck o e.2 (keySize e.2) v (a.relOk (a.w e.2 v) e.2);
        (c ≠ 0 → GivesDone e.1 s fun u => u = { a with od := { a.od with rsp := ⟨c, 0, []⟩ } }) ∧
        (c = 0 → a.admits e.2 v = true → o.src ≠ 0x41 → a.shep.cands = [] → let k := (a.stored [(e.2, v)]).check;
          (k.1 ≠ 0 → GivesDone e.1 s fun u => u.r e.2 = a.r e.2 ∧ u.od.rsp = ⟨0x1D, 0, []⟩ ∧
            u.r Reg.shpCHECK_RESULT = k.1 + 256 * k.2) ∧
          (k.1 = 0 → a.partnerUp = true → GivesDone e.1 s fun u => u.r e.2 = a.r e.2 ∧ u.shep.asked = true ∧
            u.shep.cands = [(a.up, .write o.src 1 [(e.2, v)] .own)] ∧
            SentPartner a u (.candidate a.epoch (a.stored [(e.2, v)]).candidateVals))) ∧
        (c = 0 → a.admits e.2 v = true → o.src ≠ 0x41 → a.shep.cands ≠ [] → GivesDone e.1 s fun u =>
          u = { a with shep := { a.shep with cands := a.shep.cands ++ [(a.up, .write o.src 1 [(e.2, v)] .own)] } }))) ∧
    (a.noWriteBreak → ∀ e ∈ [(Instr.haltPipes dt o v, Reg.dbgHALT_PIPES), (.haltStations dt o v, Reg.dbgHALT_STATIONS),
        (.haltZones dt o v, Reg.dbgHALT_ZONES)], a.writeGoes o e.2 v = true →
      GivesDone e.1 s fun u => u.r e.2 = v ∧ u.od.rsp = ⟨0, 0, []⟩)

/-- A block write whose checks fail is answered with the first failing status. A geometric map that passes R191 is the slot's, with
its CRC published, and one that does not is answered 0x15 and stores nothing; bytes of a table that do not reach its end stand in
the table's free slot, complete ones that hold make it the newest, others are answered 0x15; bytes of the owner key replace those held
at their offset, and all 32 of them the whole key; the rest of a key that was never set is zeros, the model's choice (assumption 108).
Completion: under the conditions on the state and the operands named, and nothing else, tableBlockWrite, slotMap and ownerKey each
answer a next state with the effect said here. -/
def Obligations.BlockWrites : Prop :=
  ∀ (dt off : Nat) (d : Bytes) (o : Origin) (s : State), let a := s.advance dt
    (∀ st slot : Fin 8, let k := Reg.slotMAP (8 * st + slot); let c := a.blockCheck o k off d.length;
      (c ≠ 0 → GivesDone (.slotMap dt st slot o off d) s fun u => u = { a with od := { a.od with rsp := ⟨c, 0, []⟩ } }) ∧
      (c = 0 → mapOk d = true → GivesDone (.slotMap dt st slot o off d) s fun u => u.blob k = d ∧ u.od.rsp = ⟨0, 0, []⟩ ∧
        u.r (Reg.slotMAP_CRC (8 * st + slot)) = fld 8 4 d) ∧
      (c = 0 → mapOk d = false → GivesDone (.slotMap dt st slot o off d) s fun u =>
        u = { a with od := { a.od with rsp := ⟨0x15, 0, []⟩ } })) ∧
    (∀ t : Fin 40, let c := a.blockCheck o (tabKey t 1) off d.length;
      (c ≠ 0 → Gives (.tableBlockWrite dt t o off d) s fun u => u = { a with od := { a.od with rsp := ⟨c, 0, []⟩ } }) ∧
      (c = 0 → ∀ n, a.writeSlot t = some n → off = 0 → d.length = tabBytes t →
        (validTable t d = true → Gives (.tableBlockWrite dt t o off d) s fun u => u.od.rsp = ⟨0, 0, []⟩ ∧ u.newestTable t = d) ∧
        (validTable t d = false → Gives (.tableBlockWrite dt t o off d) s fun u => u.od.rsp = ⟨0x15, 0, []⟩ ∧ u.slot t n = [])) ∧
      (c = 0 → a.writeSlot t = none → Gives (.tableBlockWrite dt t o off d) s fun u => u.od.rsp = ⟨0x1E, 0, []⟩)) ∧
    (a.blockCheck o Reg.lcOWNER_KEY off d.length = 0 → Gives (.ownerKey dt o off d) s fun u => u.od.rsp = ⟨0, 0, []⟩ ∧
      u.fac.ownerKey = some (patchBytes (a.fac.ownerKey.getD (List.replicate 32 0)) off d) ∧
      (off = 0 → d.length = 32 → (a.fac.ownerKey.getD (List.replicate 32 0)).length = 32 → u.fac.ownerKey = some d))

/-! ## Memory -/

/-- A refresh that falls due while a request of SC0-SC2 waits is postponed within the band's limit, and beyond it the excess is
issued; without waiting requests the whole backlog is issued, each refresh with a slice of a running retrain. Of two waiting
requests on different blocks the older one that is older than its class allows is issued next, and where none is the one of the
lower class, then the older. A read without errors whose ROW_TAG is right changes only what waits for it; corrected symbols and
uncorrectable blocks are counted and entered, and a corrected block is written in SC4 where nothing else waits; a wrong ROW_TAG is
counted and makes the 15 blocks of its check block uncorrectable; a scrub read of the next block of its subchannel, when it is due,
takes the pass one block on, the last one of the last subchannel ends the pass, and any other changes nothing; a RETRAIN alone starts
the subchannel's slices, and one that has to wait answers QUEUED; a full training whose narrowest window reaches EYE_MIN puts its
settings in force, and one whose window does not takes the subchannel out with cause 1.
Completion: under the conditions on the state and the operands named, and nothing else, refreshDue, memReadDone, scrubRead,
subchannelRetrain and fullTrainingDone each answer a next state with the effect said here. -/
def Obligations.MemoryCommands : Prop :=
  ∀ (dt v : Nat) (d : Fin 16) (q q2 : MemReq) (sw : List LaneSweep) (o : Origin) (s : State), let a := s.advance dt; let x := a.subCh d
    let one := fun (u : State) (k : Nat) => u.r k = min 0xFFFFFFFF (a.r k + 1)
    let band := a.r (Reg.subBAND d); let b := a.r (Reg.subBACKLOG d) + 1
    (a.r Reg.memMEM_STATE = 3 → a.rb Reg.memIN_SERVICE d = true → x.refreshAt + x.interval ≤ a.up → x.fix = [] →
      let due := { x with refreshAt := a.up, interval := bandInterval band }
      (q.cls.val < 3 → b ≤ bandLimit band → GivesDone (.refreshDue dt d [q] sw) s fun u => u.r (Reg.subBACKLOG d) = b ∧
        one u (Reg.subPOSTPONED d) ∧ u.subCh d = { due with issued := some q }) ∧
      (q.cls.val < 3 → bandLimit band < b → x.retrain ≠ 2 → GivesDone (.refreshDue dt d [q] sw) s fun u =>
        u.r (Reg.subBACKLOG d) = bandLimit band ∧ u.subCh d = { due with issued := some q }) ∧
      (x.retrain ≠ 2 → GivesDone (.refreshDue dt d [] sw) s fun u => u.r (Reg.subBACKLOG d) = 0 ∧
        u.subCh d = { due with issued := none }) ∧
      (x.retrain = 2 → b ≤ bandLimit band → x.slices + b < 2048 → trackSwept x.eyes (x.sweeps ++ sw) = false →
        GivesDone (.refreshDue dt d [] sw) s fun u => u.r (Reg.subBACKLOG d) = 0 ∧
          u.subCh d = { due with issued := none, slices := x.slices + b, sweeps := x.sweeps ++ sw }) ∧
      (q.block ≠ q2.block → let late := fun (p : MemReq) => decide (a.ageLimit p.cls (a.up - p.age) < p.age);
        GivesDone (.refreshDue dt d [q, q2] sw) s fun u => (u.subCh d).issued =
          some (if late q ∧ (late q2 → q2.age ≤ q.age) then q else if late q2 then q2
            else if q2.cls < q.cls ∨ (q2.cls = q.cls ∧ q.age < q2.age) then q2 else q))) ∧
    (∀ (r : MemRead), let q := r.subch.val; let p := rowOf r.local_; let blk := r.local_ / 64;
      regionAt r.local_ ≠ 3 → a.r Reg.memMEM_STATE = 3 → a.rb Reg.memIN_SERVICE q = true →
      (r.tag = rowTag q p.1 →
        (r.errors = [] →
          r.waiting = [] → a.r (Reg.subBACKLOG q) = 0 → (a.subCh q).fix = [] →
            let y := { a.subCh q with issued := none }; let ue := a.mem.ue.filter (· ≠ (q, blk))
            (GivesDone (.memReadDone dt r) s fun u => u = { a with regs := u.regs, mem := u.mem } ∧ SameRegsBut a u [] ∧
              u.mem = { a.mem with subs := u.mem.subs, ue := ue } ∧ ∀ k, u.subCh k = if k = q then y else a.subCh k) ∧
            (a.scrubNext q blk = true → blk + 1 < a.subBlocks → GivesDone (.scrubRead dt r v) s fun u =>
              u = { a with regs := u.regs, mem := u.mem } ∧ SameRegsBut a u [] ∧
              u.mem = { a.mem with subs := u.mem.subs, ue := ue, scrubCount := a.mem.scrubCount + 1 } ∧
              ∀ k, u.subCh k = if k = q then { y with scrubAt := blk + 1 } else a.subCh k) ∧
            (a.scrubNext q blk = true → blk + 1 = a.subBlocks →
              (∀ k, k < 16 → k ≠ q → a.rb Reg.memIN_SERVICE k = true → a.subBlocks ≤ (a.subCh k).scrubAt) →
              GivesDone (.scrubRead dt r v) s fun u => one u Reg.memSCRUB_PASS ∧ u.mem.scrubCount = 0 ∧ u.mem.scrubFrom = a.up ∧
                u.r (Reg.subODECC_COUNT q) = min 0xFFFFFFFF v ∧
                ∀ k, k < 16 → a.rb Reg.memIN_SERVICE k = true → (u.subCh k).scrubAt = 0) ∧
            (a.scrubNext q blk = false → GivesDone (.scrubRead dt r v) s fun u => u = a)) ∧
        (∀ n, decodeEcc a.mem.eccMode r.errors = some (n, []) → 0 < n → GivesDone (.memReadDone dt r) s fun u =>
          u.r (Reg.subCE_SYMBOLS q) = min 0xFFFFFFFF (a.r (Reg.subCE_SYMBOLS q) + n) ∧ one u Reg.memLOG_SEQ ∧
          (∃ e, u.mem.log.head? = some e ∧ e.kind = 1 ∧ e.symbols = n ∧ e.sub = q ∧ e.time = a.now) ∧
          (r.waiting = [] → a.r (Reg.subBACKLOG q) = 0 → (a.subCh q).fix = [] →
            (u.subCh q).issued = some ⟨4, 0, blk, true⟩ ∧ (u.subCh q).fix = [])) ∧
        (decodeEcc a.mem.eccMode r.errors = none → GivesDone (.memReadDone dt r) s fun u => one u (Reg.subUE_BLOCKS q))) ∧
      (r.tag ≠ rowTag q p.1 → GivesDone (.memReadDone dt r) s fun u => one u (Reg.subTAG_FAULT q) ∧
        one u (Reg.subUE_BLOCKS q) ∧ ∀ i, i < 15 → (q, blk - p.2 % 15 + i) ∈ u.mem.ue)) ∧
    (a.accCheck o (Reg.subRETRAIN d) (keySize (Reg.subRETRAIN d)) v true = 0 → a.rb Reg.memIN_SERVICE d = true →
      a.rb Reg.memFAILED d = false → (∀ k, k < 16 → (a.subCh k).retrain = 0) →
      Gives (.subchannelRetrain dt d o v) s fun t => t.od.rsp = ⟨0, a.nextToken, []⟩ ∧ t.r (Reg.subSUB_STATE d) = 2 ∧
        t.subCh d = { x with retrain := 2, slices := 0, sweeps := [], action := true } ∧ ∀ k, k ≠ d.val → t.subCh k = a.subCh k) ∧
    (∀ k, k < 16 → k ≠ d.val → 2 ≤ (a.subCh k).retrain →
      a.accCheck o (Reg.subRETRAIN d) (keySize (Reg.subRETRAIN d)) v true = 0 → a.rb Reg.memIN_SERVICE d = true → x.retrain = 0 →
      Gives (.subchannelRetrain dt d o v) s fun t => t.od.rsp = ⟨0, a.nextToken, []⟩ ∧ t.r (Reg.subRETRAIN_RESULT d) = 2 ∧
        t.r (Reg.subSUB_STATE d) = 3 ∧ t.subCh d = { x with retrain := 1, queued := true } ∧ t.subCh k = a.subCh k) ∧
    (x.retrain = 3 → a.rb Reg.memFAILED d = false → (∀ k, k < 16 → k ≠ d.val → (a.subCh k).retrain = 0) →
      let w := narrowest (fullEyes sw);
      (a.r Reg.memEYE_MIN ≤ w → GivesDone (.fullTrainingDone dt d sw) s fun u => one u (Reg.subRETRAINS d) ∧
        u.r (Reg.subLAST_TRAIN d) = a.now ∧ u.r (Reg.subSUB_STATE d) = 1 ∧ (u.subCh d).retrain = 0 ∧
        (u.subCh d).eyes = fullEyes sw) ∧
      (w < a.r Reg.memEYE_MIN → a.rb Reg.memFAILED (2 * (d.val / 2) + 1 - d.val % 2) = false → 9 ≤ a.inService →
        GivesDone (.fullTrainingDone dt d sw) s fun u => u.rb Reg.memFAILED d = true ∧ u.rb Reg.memIN_SERVICE d = false ∧
          u.r Reg.memFAIL_CAUSE = 1))

/-! ## Serial lanes -/

/-- Stage A ends in Stage B with CAP sent, or in the sweep on an aux lane; a stage at its limit fails the attempt, the third failure
in a row makes the link absent with RATE_CAP 4, and a step at its limit of 5 ms, or of 4 ms since its equalisation began, lowers
RATE_CAP and goes back to Stage B; the third acceptable CAP is answered 16 times with the agreed rate, and begins the next step where three CAP_ACK have come before; a partner
that is not accepted fails the attempt with cause 4; the third CAP_ACK begins the next step with the preset taps and RATE_GO 16
times, or brings the lane UP; the third RATE_GO switches the rate. Completion: under the conditions on the state and the operands
named, and nothing else, stageADone, stageTimeout, cap, capAck and rateGo each answer a next state with the effect said here. -/
def Obligations.LaneBringUp : Prop :=
  ∀ (dt : Nat) (l : Fin 96) (w : TrainWord) (sig al : Bool) (s : State), let a := s.advance dt; let x := a.lane l; let st := a.laneState l
    let one := fun (u : State) (k : Nat) => u.r k = min 0xFFFFFFFF (a.r k + 1)
    let sixteen := fun (u : State) (ty f0 : Nat) => ∃ q, u.tw = List.replicate 16 (l.val, q) ∧ wordOk q ty = true ∧ q.f0 = f0
    let inB := fun (u : State) => u.laneState l = 2 ∧ u.r (Reg.laneRATE_ACTIVE l) = 1 ∧ SentWord u l 0x01 0x11
    (st = 1 → (laneClass l ≠ 4 → GivesDone (.stageADone dt l) s inB) ∧
      (laneClass l = 4 → GivesDone (.stageADone dt l) s fun u => u.laneState l = 3 ∧ (u.lane l).eye = true ∧ (u.lane l).code = 0)) ∧
    (laneClass l ≠ 4 → (st = 1 ∨ st = 2) → a.since x.at_ 10000000 = true →
      let c := stageCause st sig al;
      (x.fails < 2 → GivesDone (.stageTimeout dt l ⟨sig, al⟩) s fun u => one u (Reg.laneFAILED_ATTEMPTS l) ∧
        u.r (Reg.laneABSENT_CAUSE l) = c ∧ (u.lane l).fails = x.fails + 1 ∧ u.laneState l = if sig then 2 else 1) ∧
      (2 ≤ x.fails → GivesDone (.stageTimeout dt l ⟨sig, al⟩) s fun u => one u (Reg.laneFAILED_ATTEMPTS l) ∧
        u.r (Reg.laneABSENT_CAUSE l) = c ∧ u.laneState l = 6 ∧ u.r (Reg.laneRATE_CAP l) = 4 ∧ u.r (Reg.laneLULL l) = 1)) ∧
    (laneClass l ≠ 4 → st = 3 → (a.since x.at_ 5000000 = true ∨ ∃ t0, x.eqFrom = some t0 ∧ a.since t0 4000000 = true) → GivesDone (.stageTimeout dt l ⟨sig, al⟩) s fun u =>
      u.r (Reg.laneRATE_CAP l) = x.target - 1 ∧ inB u) ∧
    (st = 2 → wordOk w 0x01 = true →
      (accepts (laneClass l) (w.f0 % 16) (w.f2 / 4 % 8) = true → let g := topRate (w.f1 % 16) (min x.maxRate (a.r (Reg.laneRATE_CAP l)));
        (x.caps = 2 → x.acks < 3 → GivesDone (.cap dt l w) s fun u =>
          u.lane l = { x with caps := 3, peer := w.f1 % 16, agreed := g } ∧ sixteen u 0x02 g) ∧
        (x.caps = 2 → 3 ≤ x.acks → a.r (Reg.laneRATE_ACTIVE l) < g → GivesDone (.cap dt l w) s fun u =>
          u.laneState l = 3 ∧ (u.lane l).target = a.r (Reg.laneRATE_ACTIVE l) + 1) ∧
        (x.caps ≠ 2 → GivesDone (.cap dt l w) s fun u => u.lane l = { x with caps := x.caps + 1, peer := w.f1 % 16 } ∧ u.regs = a.regs)) ∧
      (accepts (laneClass l) (w.f0 % 16) (w.f2 / 4 % 8) = false → GivesDone (.cap dt l w) s fun u =>
        one u (Reg.laneFAILED_ATTEMPTS l) ∧ u.r (Reg.laneABSENT_CAUSE l) = 4)) ∧
    (st = 2 → wordOk w 0x02 = true →
      ((x.acks < 2 ∨ x.caps < 3) → GivesDone (.capAck dt l w) s fun u => u.lane l = { x with acks := x.acks + 1 } ∧ u.regs = a.regs) ∧
      (2 ≤ x.acks → 3 ≤ x.caps →
        (a.r (Reg.laneRATE_ACTIVE l) < x.agreed → GivesDone (.capAck dt l w) s fun u => let t := a.r (Reg.laneRATE_ACTIVE l) + 1;
          u.laneState l = 3 ∧ (u.lane l).target = t ∧ u.r (Reg.laneTAP_PRE l) = 2 ∧ u.r (Reg.laneTAP_MAIN l) = 53 ∧
          u.r (Reg.laneTAP_POST l) = 8 ∧ sixteen u 0x20 t) ∧
        (x.agreed ≤ a.r (Reg.laneRATE_ACTIVE l) → laneClass l ≠ 2 → GivesDone (.capAck dt l w) s fun u => u.laneUp l = true ∧
          (u.lane l).fails = 0))) ∧
    (st = 3 → wordOk w 0x20 = true → w.f0 = x.target → x.gos < 3 → Gives (.rateGo dt l w) s fun t => (t.lane l).gos = x.gos + 1 ∧
      t = { a with lanes := t.lanes, regs := t.regs } ∧ SameRegsBut a t [Reg.laneRATE_ACTIVE l] ∧
      t.r (Reg.laneRATE_ACTIVE l) = (if x.gos = 2 then x.target else a.r (Reg.laneRATE_ACTIVE l)) ∧ (x.gos = 2 → (t.lane l).eye = true))

/-- EQ_REQ for the preset of all taps sets them and is answered as updated, and no EQ_REQ takes taps out of their limits; EQ_STATUS
of an updated tap has it measured, one of another goes on to the next request; 20 µs after an update an eye that beats the area by 2
% is kept and any other asks for the reversal; a sweep step of 100 µs takes the better code and the sixteenth ends the sweep;
EQ_DONE with both sent ends the step. Completion: under the conditions on the state and the operands named, and nothing else, eqReq,
eqStatus, eqMeasure, ctleStep and eqDone each answer a next state with the effect said here. -/
def Obligations.LaneEqualises : Prop :=
  ∀ (dt eh ew : Nat) (l : Fin 96) (w : TrainWord) (s : State), let a := s.advance dt; let x := a.lane l
    let tap := fun (u : State) => (u.r (Reg.laneTAP_PRE l), u.r (Reg.laneTAP_MAIN l), u.r (Reg.laneTAP_POST l))
    let ok := fun (u : State) => tapsOk (tap u).1 (tap u).2.1 (tap u).2.2
    a.laneState l = 3 →
    (laneClass l ≤ 1 → wordOk w 0x10 = true →
      (w.f0 % 64 = 63 → Gives (.eqReq dt l w) s fun t => tap t = (2, 53, 8) ∧ SentWord t l 0x11 21) ∧
      Gives (.eqReq dt l w) s fun t => (ok a = true → ok t = true) ∧ (∃ q, t.tw = [(l.val, q)] ∧ wordOk q 0x11 = true ∧ q.f1 = w.f1) ∧
        SameRegsBut a t [Reg.laneTAP_PRE l, Reg.laneTAP_MAIN l, Reg.laneTAP_POST l]) ∧
    (wordOk w 0x11 = true → x.waitStatus = true → w.f1 = x.iter →
      let f := w.f0 / (if x.phase / 2 = 0 then 16 else if x.phase / 2 = 1 then 1 else 4) % 4;
      (f = 1 → GivesDone (.eqStatus dt l w) s fun u => u.lane l = { x with waitStatus := false, eye := true, eqAt := a.up } ∧
        u.regs = a.regs) ∧
      (f ≠ 1 → x.iter < 64 → (x.phase ≠ 5 ∨ x.kept ≠ 0) → GivesDone (.eqStatus dt l w) s fun u => (u.lane l).iter = x.iter + 1 ∧
        (u.lane l).waitStatus = true ∧ (u.lane l).phase = (if x.phase = 5 then 0 else x.phase + 1) ∧
        SentWord u l 0x10 (eqChange (u.lane l).phase false))) ∧
    (laneClass l = 0 → x.eye = true → 3 ≤ x.gos →
      (x.iter = 0 → GivesDone (.eqMeasure dt l eh ew) s fun u => (u.lane l).area = eh * ew ∧ (u.lane l).iter = 1 ∧
        u.r (Reg.laneEYE_H l) = min 65535 eh ∧ u.r (Reg.laneEYE_W l) = min 255 ew ∧ SentWord u l 0x10 (eqChange x.phase false)) ∧
      (0 < x.iter → x.reversing = false → a.since x.eqAt 20000 = true →
        (102 * x.area ≤ 100 * (eh * ew) → x.area < eh * ew → x.iter < 64 → x.phase ≠ 5 → GivesDone (.eqMeasure dt l eh ew) s fun u =>
          (u.lane l).area = eh * ew ∧ (u.lane l).kept = x.kept + 1 ∧ SentWord u l 0x10 (eqChange (x.phase + 1) false)) ∧
        (100 * (eh * ew) < 102 * x.area → GivesDone (.eqMeasure dt l eh ew) s fun u => (u.lane l).area = x.area ∧
          (u.lane l).reversing = true ∧ SentWord u l 0x10 (eqChange x.phase true)))) ∧
    (2 ≤ laneClass l → x.eye = true → a.since x.eqAt 100000 = true →
      (x.code < 15 → GivesDone (.ctleStep dt l eh ew) s fun u => (u.lane l).code = x.code + 1 ∧ u.laneState l = 3 ∧
        (x.code = 0 ∨ x.bestArea < eh * ew → u.r (Reg.laneCTLE l) = x.code ∧ (u.lane l).bestArea = eh * ew) ∧
        (x.code ≠ 0 → eh * ew ≤ x.bestArea → u.regs = a.regs ∧ (u.lane l).bestArea = x.bestArea)) ∧
      (15 ≤ x.code → (laneClass l = 4 → GivesDone (.ctleStep dt l eh ew) s fun u => u.laneUp l = true) ∧
        (laneClass l ≠ 4 → x.doneRx = false → GivesDone (.ctleStep dt l eh ew) s fun u => (u.lane l).doneSent = true ∧
          u.laneState l = 3 ∧ SentWord u l 0x12 0))) ∧
    (wordOk w 0x12 = true → 3 ≤ x.gos →
      (laneClass l ≠ 1 → x.doneSent = false → GivesDone (.eqDone dt l w) s fun u => u.lane l = { x with doneRx := true } ∧
        u.regs = a.regs) ∧
      ((laneClass l = 1 ∨ x.doneSent = true) → laneClass l ≠ 2 → x.agreed ≤ a.r (Reg.laneRATE_ACTIVE l) →
        GivesDone (.eqDone dt l w) s fun u => u.laneUp l = true) ∧
      ((laneClass l = 1 ∨ x.doneSent = true) → a.r (Reg.laneRATE_ACTIVE l) < x.agreed →
        GivesDone (.eqDone dt l w) s fun u => u.laneState l = 3 ∧ (u.lane l).target = a.r (Reg.laneRATE_ACTIVE l) + 1))

/-- Outside RX-Lull invalid symbols are counted and LOSS of a trained or training lane is, too; on an UP lane it begins the first relock
attempt; a lock brings the lane back UP, a failed attempt is followed by the next and the third by a retrain in Stage B, or afresh on
an aux lane; an absent link is tried again after 1 s and on a signal; RETRAIN starts Stage A, or an aux lane afresh, with RATE_CAP 4;
LULL puts the receiver of a lane that may sleep to sleep, and no other; RX_STATUS reports take an export lane out and bring it back
within 300 us, after which it retrains; a freed export lane counts its packet and a lost one rejoins its stripe set after 1 s.
Completion: under the conditions on the state and the operands named, and nothing else, lull, rxStatus, rxStatusTimeout, loss,
cdrLock, relockTimeout, absentRetry, signalDetect, laneRetrain, exportLaneFree and stripeRejoin each answer a next state with the
effect said here. -/
def Obligations.LaneLossAndReturn : Prop :=
  ∀ (dt n v : Nat) (l : Fin 96) (x : Fin 48) (w : TrainWord) (o : Origin) (s : State), let a := s.advance dt; let y := a.lane l
    let one := fun (u : State) (k : Nat) => u.r k = min 0xFFFFFFFF (a.r k + 1); let st := a.laneState l
    let symbols := fun (u : State) => u.r (Reg.laneCODE_ERR l) = min 0xFFFFFFFF (a.r (Reg.laneCODE_ERR l) + n)
    let afresh := fun (u : State) => u.laneState l = if a.r (Reg.auxAUX_MODE (l.val - 92)) = 0 then 0 else 1
    (∀ i, (a.rb (Reg.laneLULL l) 1 = true ∨ st = 0 ∨ st = 6) → GivesDone (.loss dt l i) s (· = a)) ∧
    (a.rb (Reg.laneLULL l) 1 = false → st ≠ 0 → st ≠ 6 →
      GivesDone (.loss dt l ⟨n, false⟩) s (fun u => symbols u ∧ OnlyRegs a u [Reg.laneCODE_ERR l]) ∧
      (st ≠ 4 → GivesDone (.loss dt l ⟨n, true⟩) s fun u => symbols u ∧ one u (Reg.laneLOSSES l) ∧
        OnlyRegs a u [Reg.laneLOSSES l, Reg.laneCODE_ERR l]) ∧
      (st = 4 → GivesDone (.loss dt l ⟨n, true⟩) s fun u => symbols u ∧ one u (Reg.laneLOSSES l) ∧ u.laneState l = 5 ∧
        one u (Reg.laneRELOCKS l) ∧ (u.lane l).relocks = 1 ∧ (u.lane l).hostLost = none)) ∧
    (st = 5 → y.hostLost = none →
      (laneClass l ≠ 2 → GivesDone (.cdrLock dt l) s fun u => u.laneUp l = true ∧ (u.lane l).relocks = 0) ∧
      (a.since y.at_ 100000 = true →
        (y.relocks < 3 → Gives (.relockTimeout dt l) s fun t => t.laneState l = 5 ∧ (t.lane l).relocks = y.relocks + 1 ∧
          one t (Reg.laneRELOCKS l) ∧ SameRegsBut a t [Reg.laneRELOCKS l]) ∧
        (3 ≤ y.relocks → Gives (.relockTimeout dt l) s fun t => one t (Reg.laneRETRAINS l) ∧ (laneClass l = 4 → afresh t) ∧
          (laneClass l ≠ 4 → t.laneState l = 2 ∧ SentWord t l 0x01 0x11)))) ∧
    (st = 6 → a.mayTry l = true → (a.since y.at_ 1000000000 = true → GivesDone (.absentRetry dt l) s fun u => u.laneState l = 1) ∧
      (a.lanePowered l = true → GivesDone (.signalDetect dt l) s fun u => u.laneState l = 1 ∧ u.r (Reg.laneLULL l) = 0)) ∧
    (a.lanePowered l = false → l.val < 32 → GivesDone (.signalDetect dt l) s fun u => (u.lane l).signal = true ∧ u.regs = a.regs) ∧
    (a.accCheck o (Reg.laneRETRAIN l) (keySize (Reg.laneRETRAIN l)) v true = 0 →
      GivesDone (.laneRetrain dt l o v) s fun u => u.od.rsp = ⟨0, a.nextToken, []⟩ ∧ u.r (Reg.laneRATE_CAP l) = 4 ∧
        (a.lanePowered l = false → u.lanes = a.lanes ∧ u.laneState l = st) ∧
        (a.lanePowered l = true → (laneClass l = 3 → a.pair.mode = true) → (laneClass l = 2 → a.ringMay = true) →
          (laneClass l = 4 → afresh u) ∧ (laneClass l ≠ 4 → u.laneState l = 1))) ∧
    (wordOk w 0x30 = true →
      (a.laneUp l = true → a.mayLull l = true → Gives (.lull dt l w) s fun t => t.rb (Reg.laneLULL l) 1 = true ∧
        OnlyRegs a t [Reg.laneLULL l]) ∧
      ((a.laneUp l = false ∨ a.mayLull l = false) → Gives (.lull dt l w) s (· = a))) ∧
    (laneClass l = 1 → wordOk w 0x40 = true → let k := reportedLane l w;
      (w.f1 = 1 → (a.laneUp k = true ∨ (a.laneState k = 5 ∧ (a.lane k).hostLost = none)) →
        Gives (.rxStatus dt l w) s fun t => t.laneState k = 5 ∧ (t.lane k).hostLost = some a.up ∧ one t (Reg.laneLOSSES k)) ∧
      (w.f1 ≠ 1 → ∀ t0, (a.lane k).hostLost = some t0 → a.laneState k = 5 → a.up ≤ t0 + 300000 →
        Gives (.rxStatus dt l w) s fun t => t.laneUp k = true ∧ (t.lane k).hostLost = none)) ∧
    (∀ t0, laneClass l = 1 → y.hostLost = some t0 → st = 5 → a.since t0 300000 = true → Gives (.rxStatusTimeout dt l) s fun t =>
      t.laneState l = 2 ∧ one t (Reg.laneRETRAINS l) ∧ SentWord t l 0x01 0x11) ∧
    (∀ p, a.xLane x = some p → Gives (.exportLaneFree dt x) s fun t => one t (Reg.grcPACKETS (x.val / 4)) ∧ t.lanes = a.lanes) ∧
    (tget false a.xp.out x = true → a.laneUp (32 + x.val) = true → a.since (tget 0 a.xp.upSince x) 1000000000 = true →
      Gives (.stripeRejoin dt x) s fun t => tget false t.xp.out x = false ∧ one t Reg.shpREPLACEMENTS ∧ t.r Reg.shpLAST_CAUSE = 2)

/-- A write of AUX_MODE makes the lane start afresh at AUX_RATE or turns it off and sets SLIP_POS to 0; a write of MATCH_WORD or
MATCH_MASK clears MATCH_COUNT; LULL_REQ takes effect at once on a lane that is UP; BIT_SLIP moves the boundary of a raw lane by one
bit of its width; CAPTURE_ARM empties and arms the buffer; a received raw word that matches counts and goes into the armed buffer.
Completion: under the conditions on the state and the operands named, and nothing else, auxMode, bitSlip, captureArm, matchWrite,
lullReq and auxReceivedWord each answer a next state with the effect said here. -/
def Obligations.AuxLanes : Prop :=
  ∀ (dt v : Nat) (i : Fin 4) (m : Bool) (o : Origin) (s : State), let a := s.advance dt; let l := 92 + i.val
    let acc := fun k => a.accCheck o k (keySize k) v true = 0
    let ok := fun (t : State) (k : Nat) => t.r k = v ∧ t.od.rsp = ⟨0, 0, []⟩
    (acc (Reg.auxAUX_MODE i) → Gives (.auxMode dt i o v) s fun t => ok t (Reg.auxAUX_MODE i) ∧ t.r (Reg.auxSLIP_POS i) = 0 ∧
      (v = 0 → t.laneState l = 0) ∧
      (v ≠ 0 → a.domUp 4 = true → t.laneState l = 1 ∧ t.r (Reg.laneRATE_ACTIVE l) = a.r (Reg.auxAUX_RATE i))) ∧
    (let k := if m then Reg.auxMATCH_MASK i else Reg.auxMATCH_WORD i;
      acc k → Gives (.matchWrite dt i o m v) s fun t => ok t k ∧ t.r (Reg.auxMATCH_COUNT i) = 0 ∧ t.lanes = a.lanes) ∧
    (acc (Reg.auxLULL_REQ i) → Gives (.lullReq dt i o v) s fun t => ok t (Reg.auxLULL_REQ i) ∧ (t.lane l).lullWant = v ∧
      (a.laneUp l = true → t.r (Reg.laneLULL l) = v)) ∧
    (acc (Reg.auxBIT_SLIP i) → a.r (Reg.auxAUX_MODE i) = 2 → Gives (.bitSlip dt i o v) s fun t => t.od.rsp = ⟨0, a.nextToken, []⟩ ∧
      t.r (Reg.auxSLIP_POS i) = (a.r (Reg.auxSLIP_POS i) + 1) % a.r (Reg.auxAUX_WIDTH i) ∧ t.lanes = a.lanes) ∧
    (acc (Reg.auxCAPTURE_ARM i) → Gives (.captureArm dt i o v) s fun t => t.od.rsp = ⟨0, a.nextToken, []⟩ ∧
      (tget {} t.auxs i : Aux) = { armed := true } ∧ ∀ j, j ≠ i.val → (tget {} t.auxs j : Aux) = tget {} a.auxs j) ∧
    (let n := a.r (Reg.auxAUX_WIDTH i); let x : Aux := tget {} a.auxs i;
      a.laneUp l = true → a.r (Reg.auxAUX_MODE i) = 2 → a.rb (Reg.laneLULL l) 1 = false →
      Gives (.auxReceivedWord dt i v) s fun t => t.r (Reg.auxMATCH_COUNT i) =
          (if ((v % 2 ^ n) ^^^ a.r (Reg.auxMATCH_WORD i)) &&& a.r (Reg.auxMATCH_MASK i) = 0 then
            min 0xFFFFFFFF (a.r (Reg.auxMATCH_COUNT i) + 1) else a.r (Reg.auxMATCH_COUNT i)) ∧
        (x.armed = true → (tget {} t.auxs i : Aux).captured = (x.captured ++ leBytes ((n + 7) / 8) (v % 2 ^ n)).take 8192) ∧
        (x.armed = false → t.auxs = a.auxs) ∧ SameRegsBut a t [Reg.auxMATCH_COUNT i])

/-! ## The ring -/

/-- A whole unicast frame of another node for another node leaves through the opposite port, or as a wrap sends it, with one hop
fewer, its payload unchanged and its checks right, and counts in FORWARDED; one without hops left counts in HOPS_EXPIRED, one of the
device's own is stripped and counts in UNDELIVERED, one whose header check fails counts in HDR_ERR, and none of these goes on; one
whose CRC-32 fails goes on aborted and counts in CRC_ERR; one whose lanes are more than 32 symbol times apart is lost and the port is
no longer bonded. The oldest own frame that has a port leaves at an idle gap and is gone from the queue; cut off it leaves aborted,
counts in INSERT_ABORT and stays. Completion: under the conditions on the state and the operands named, and
nothing else, ringFrameForward and frameInsert each answer a next state with the effect said here. -/
def Obligations.RingFrames : Prop :=
  ∀ (dt : Nat) (f : RingFrame) (s : State), let a := s.advance dt; let p := f.port.val
    let one := fun (u : State) (k : Nat) => u.r k = min 0xFFFFFFFF (a.r k + 1)
    let lanes := (portLanes f.port).all (fun l => a.laneUp l) = true ∧ (a.port p).deskewed = true; let up := lanes ∧ f.skew ≤ 32
    let other := neighbourTy f.ty = false ∧ a.addr ≠ some f.src ∧ a.addr ≠ some f.dst ∧ f.dst ≠ 0x7F
    (up → hcrcOk f = false → Gives (.ringFrameForward dt f) s fun t => one t (Reg.portHDR_ERR p) ∧ OnlyRegs a t [Reg.portHDR_ERR p]) ∧
    (a.whole f = true → neighbourTy f.ty = false → f.hops ≤ 1 → Gives (.ringFrameForward dt f) s fun t =>
      one t (Reg.portHOPS_EXPIRED p) ∧ OnlyRegs a t [Reg.portHOPS_EXPIRED p]) ∧
    (a.whole f = true → neighbourTy f.ty = false → 1 < f.hops → a.addr = some f.src → f.dst ≠ 0x7F →
      Gives (.ringFrameForward dt f) s fun t => one t (Reg.portUNDELIVERED p) ∧ OnlyRegs a t [Reg.portUNDELIVERED p]) ∧
    (other → 1 < f.hops → ∀ q w, a.exitPort (1 - p) = some (q, w) →
      (a.whole f = true → Gives (.ringFrameForward dt f) s fun t => one t (Reg.portFORWARDED p) ∧
        SameRegsBut a t [Reg.portFORWARDED p] ∧ Leaves t q fun g => g.hops = f.hops - 1 ∧ g.payload = f.payload ∧ g.ty = f.ty ∧
          g.dst = f.dst ∧ g.src = f.src ∧ g.epoch = f.epoch ∧ g.wrapped = (f.wrapped || w) ∧ g.aborted = false) ∧
      (up → hcrcOk f = true → frameOk f = false → Gives (.ringFrameForward dt f) s fun t => one t (Reg.portCRC_ERR p) ∧
        one t (Reg.portFORWARDED p) ∧ ∃ g, t.ring.out = [⟨q, g⟩] ∧ g.aborted = true ∧ g.hops = f.hops - 1)) ∧
    (other → 1 < f.hops → a.exitPort (1 - p) = none → a.whole f = true → Gives (.ringFrameForward dt f) s fun t => t.ring.out = [] ∧
      t.regs = a.regs) ∧
    (lanes → 32 < f.skew → Gives (.ringFrameForward dt f) s fun t => t.ring.out = [] ∧ t.portBonded p = false ∧ t.portUp p = false) ∧
    (∀ pre g post q w, a.ring.txq = pre ++ g :: post → (∀ x ∈ pre, a.leaves x = none) → a.leaves g = some (q, w) →
      Gives (.frameInsert dt false) s (fun t => t.ring.txq = pre ++ post ∧
        ((∀ h, h < 32 → (a.pipe h).statWait = []) → t.regs = a.regs) ∧ ∃ y, t.ring.out = [⟨q, y⟩] ∧ hcrcOk y = true ∧ frameOk y = true ∧
        y.ty = g.ty ∧ y.dst = g.dst ∧ y.seq = g.seq ∧ y.hops = 127 ∧ y.wrapped = w ∧ y.aborted = false ∧
        (g.ty ≠ 0x22 → y.payload.take g.payload.length = g.payload) ∧
        (g.ty = 0x21 → (t.port q).t1 = some (g.sop.getD a.clk.ring16))) ∧
      Gives (.frameInsert dt true) s fun t => t.ring.txq = pre ++ { g with sop := none } :: post ∧ one t (Reg.portINSERT_ABORT q) ∧
        ∃ y, t.ring.out = [⟨q, y⟩] ∧ y.ty = g.ty ∧ y.aborted = true)

/-- A whole RING_STATUS on a bonded port brings the port up, names the neighbour, and plans the unwrap of a wrapped port that is up
at both ends at the later of the two times; every 100 us RING_STATUS is queued for the bonded ports that are training or up, in place
of one that still waits there, and for no other port; a port that
hears nothing for 300 us is no longer up and wrapped; at the adopted time the port unwraps. Completion: under the conditions on the
state and the operands named, and nothing else, ringStatus, ringStatusTx, ringStatusTimeout and unwrap each answer a next state with
the effect said here. -/
def Obligations.RingStatusAndUnwrap : Prop :=
  ∀ (dt : Nat) (s : State), let a := s.advance dt
    (∀ f, f.ty = 0x50 → a.whole f = true → a.portBonded f.port = true → let p := f.port.val; let x := a.port p; let b := f.payload;
      GivesDone (.ringStatus dt f) s fun u => u.r (Reg.portPORT_STATE p) = 2 ∧ u.r (Reg.portNEIGHBOUR p) = fld 0 1 b ∧
        (u.port p).lastStatus = some a.up ∧ (u.port p).wrapped = x.wrapped ∧
        (x.wrapped = true → nbrPort p (fld 1 1 b) = 2 →
          (u.port p).unwrapAt = max (if x.unwrapAt = 0 then (a.now + 1999999) / 1000000 * 1000000 else x.unwrapAt) (fld 8 8 b))) ∧
    (a.since a.ring.lastStatusTx 100000 = true → Gives (.ringStatusTx dt) s fun t => t.ring.lastStatusTx = a.up ∧ t.regs = a.regs ∧
      ∀ p, p < 2 → let mine := fun (u : State) => u.ring.txq.filter fun g => decide (g.ty = 0x50 ∧ g.via = some p);
        if a.portBonded p = true ∧ a.portCode p ≠ 0 then ∃ g, mine t = [g] ∧ g.dst = 0x7F ∧ g.payload = a.statusPayload p
        else mine t = mine a) ∧
    (∀ p : Fin 2, a.portUp p = true → a.portHeard p = false → a.portBonded p = true → Gives (.ringStatusTimeout dt p) s fun t =>
      t.r (Reg.portPORT_STATE p) = 1 ∧ t.r (Reg.portNEIGHBOUR p) = 0xFF ∧ (t.port p).wrapped = true) ∧
    (∀ p : Fin 2, a.portUp p = true → a.portNow p = 2 → (a.port p).wrapped = true → (a.port p).unwrapAt ≠ 0 → (a.port p).unwrapAt ≤ a.now →
      Gives (.unwrap dt p) s fun t => (t.port p).wrapped = false ∧ (t.port p).unwrapAt = 0 ∧ t.portUp p = true)

/-- Every 100 ms a DELAY_REQ is queued for each port that is up, with the time its SOP is to leave at, and one that arrives is answered
on its port with its times; a response within 30 us gives a new value of 2 D and LINK_DELAY as the mean of the newest eight, a later
one none. The first copy of a TIME_SYNC is taken: the device sets its counter in UNSYNCED, steps it forward above +1 us, halves its
rate below -1 us and trims it otherwise, the eighth sync in a row within 50 ns makes it SYNCED, and the copy goes on with CORR brought
up to date; a later copy is only forwarded; three missed intervals make HOLDOVER. -/
def Obligations.RingTime : Prop :=
  ∀ (dt : Nat) (f : RingFrame) (s : State), let a := s.advance dt; let p := f.port.val; let x := a.port p
    (∀ t1 : List Nat, a.since a.ring.lastDelay 100000000 = true → Gives (.delayExchange dt t1) s fun t => t.ring.lastDelay = a.up ∧
      t.regs = a.regs ∧ ∀ q, q < 2 → a.portUp q = true → (t.port q).t1 = none ∧
        ∃ g, t.ring.txq.filter (fun g => decide (g.ty = 0x21 ∧ g.via = some q)) = [g] ∧ g.sop = t1[q]?) ∧
    (∀ t2 t3 : Nat, f.ty = 0x21 → a.whole f = true → Gives (.delayReq dt f t2 t3) s fun t => t.regs = a.regs ∧
      ∃ g, t.ring.txq = a.ring.txq ++ [g] ∧ g.ty = 0x22 ∧ g.via = some p ∧ g.sop = some t3 ∧ fld 0 8 g.payload = t2 % 2 ^ 64 ∧
        fld 8 8 g.payload = t3 % 2 ^ 64) ∧
    (∀ t4 t1 : Nat, f.ty = 0x22 → a.whole f = true → x.t1 = some t1 →
      let d : Int := (t4 : Int) - t1 - ((fld 8 8 f.payload : Int) - fld 0 8 f.payload) + 2 * a.ri 32 (Reg.portDELAY_ASYM p);
      ((t4 : Int) - t1 ≤ 480000 → Gives (.delayRsp dt f t4) s fun t => t.port p = { x with t1 := none, delays := (d :: x.delays).take 8 } ∧
        t.r (Reg.portLINK_DELAY p) = delayMean ((d :: x.delays).take 8) ∧ SameRegsBut a t [Reg.portLINK_DELAY p]) ∧
      (480000 < (t4 : Int) - t1 → Gives (.delayRsp dt f t4) s fun t => t.port p = { x with t1 := none } ∧ t.regs = a.regs)) ∧
    (∀ res : Nat, f.ty = 0x20 → a.forAll f = true → let b := a.fromMaster f false;
      (newerSeq (tget none a.ring.seen 0x20) f.seq = false →
        exec (.timeSync dt f res) s = .next (b.ringForward f f.payload false)) ∧
      (newerSeq (tget none a.ring.seen 0x20) f.seq = true →
        let rx := 16 * fld 0 8 f.payload + fld 8 8 f.payload + a.r (Reg.portLINK_DELAY p); let off : Int := (rx : Int) - a.clk.ring16;
        ∃ u : State, exec (.timeSync dt f res) s = .next ((u.done).ringForward f
            (patchBytes f.payload 8 (leBytes 8 (fld 8 8 f.payload + a.r (Reg.portLINK_DELAY p) + res))) false) ∧
          u.r Reg.timeSYNC_RX = min 0xFFFFFFFF (a.r Reg.timeSYNC_RX + 1) ∧ u.r Reg.timeOFFSET = sat2 32 off ∧ u.clk.lastSync = a.up ∧
          (a.r Reg.timeTIME_STATE = 0 → u.clk.ring16 = rx) ∧
          (if off.natAbs ≤ 800 ∧ 7 ≤ a.clk.good then u.r Reg.timeTIME_STATE = 2
            else a.r Reg.timeTIME_STATE = 0 ∨ a.r Reg.timeTIME_STATE = 3 → u.r Reg.timeTIME_STATE = 1) ∧
          (a.r Reg.timeTIME_STATE ≠ 0 →
            (16000 < off → u.clk.ring16 = rx ∧ u.r Reg.timeTIME_STEPS = min 0xFFFFFFFF (a.r Reg.timeTIME_STEPS + 1)) ∧
            (off < -16000 → u.clk.ring16 = a.clk.ring16 ∧ u.clk.slew = off ∧ u.clk.half = true ∧
              u.r Reg.timeTIME_STEPS = min 0xFFFFFFFF (a.r Reg.timeTIME_STEPS + 1)) ∧
            (-16000 ≤ off → off ≤ 16000 → u.clk.ring16 = a.clk.ring16 ∧ u.clk.slew = off ∧ u.clk.half = false ∧
              u.r Reg.timeTIME_STEPS = a.r Reg.timeTIME_STEPS)))) ∧
    ((a.r Reg.timeTIME_STATE = 1 ∨ a.r Reg.timeTIME_STATE = 2) → a.since a.clk.lastSync (3000 * a.r Reg.timeSYNC_EXPECT) = true →
      Gives (.masterTimeLost dt) s fun t => t.r Reg.timeTIME_STATE = 3 ∧ t.clk = { a.clk with good := 0 })

/-- While forwarding an ENUM frame of the layout of R416 the device takes NODE_ADDR when that is 1-63 and otherwise NEXT, which it
then writes as NEXT + 1; it writes its record ADDR, ROLE 1, the conflict flag, 0 and SERIAL into record K and writes K + 1; the flag
and ADDR_CONFLICT are set exactly when its address appears in records 0 to K - 1. While ADDR_CONFLICT is set a unicast frame for the
device is forwarded and not consumed. -/
def Obligations.Enumeration : Prop :=
  ∀ (dt : Nat) (f : RingFrame) (s : State), let a := s.advance dt; let p := f.payload; let k := fld 0 1 p; let own := a.r Reg.nodeNODE_ADDR
    let fixed := 1 ≤ own ∧ own ≤ 63
    let addr := if fixed then own else fld 1 1 p
    let clash := ∃ i, i < k ∧ fld (4 + 16 * i) 1 p = addr
    (f.ty = 0x51 → a.forAll f = true → p.length = 1028 → k < 64 →
      ∃ (u : State) (out : Bytes), exec (.enum dt f) s = .next ((u.done).ringForward f out false) ∧ u.r Reg.nodeACTIVE_ADDR = addr ∧
        (u.r Reg.nodeADDR_CONFLICT = 1 ↔ clash) ∧ (u.r Reg.nodeADDR_CONFLICT = 0 ↔ ¬ clash) ∧
        SameRegsBut a u [Reg.nodeACTIVE_ADDR, Reg.nodeADDR_CONFLICT] ∧
        out.length = 1028 ∧ fld 0 1 out = k + 1 ∧ fld 1 1 out = (if fixed then fld 1 1 p else (fld 1 1 p + 1) % 256) ∧
        fld (4 + 16 * k) 1 out = addr ∧ fld (5 + 16 * k) 1 out = 1 ∧ (fld (6 + 16 * k) 1 out = 1 ↔ clash) ∧
        (fld (6 + 16 * k) 1 out = 0 ↔ ¬ clash) ∧ fld (7 + 16 * k) 1 out = 0 ∧
        (out.drop (8 + 16 * k)).take 12 = padTo 12 a.fac.serial ∧
        ∀ j, 4 ≤ j → (j < 4 + 16 * k ∨ 20 + 16 * k ≤ j) → out[j]? = p[j]?) ∧
    (a.r Reg.nodeADDR_CONFLICT = 1 → a.whole f = true → neighbourTy f.ty = false → 1 < f.hops → a.addr = some f.dst → f.src ≠ f.dst →
      f.dst ≠ 0x7F → exec (.ringFrameForward dt f) s = .next ((a.fromMaster f false).ringForward f f.payload false))

/-- The first ESTOP with an ID stops every bank with RING_ESTOP and the ID becomes active, one whose ID is active changes no bank;
ESTOP_CLEAR of node 0 withdraws its ID; a RESET for the device's serial number with KIND 1 wipes it with cause 4, unless the orderly
stop of causes 3 to 5 holds it, and any other is counted in RESET_REFUSED; RING_JOIN starts Stage A on every ring lane where the ring
ports may run. A TAKE grant above the highest epoch taken starts the claim of a follower
that may claim and is its right otherwise, RENEW renews the lease, REVOKE ends it, and a grant that is not current leaves the pair
as it is. -/
def Obligations.RingCommands : Prop :=
  ∀ (dt : Nat) (f : RingFrame) (s : State), let a := s.advance dt; let id := fld 0 4 f.payload
    (f.ty = 0x40 → a.forAll f = true →
      (id ≠ 0 → id ∉ a.ring.estops → Gives (.estop dt f) s fun t => t.ring.estops = a.ring.estops ++ [id] ∧
        t.r Reg.nodeESTOP_ACTIVE = min 255 (a.ring.estops.length + 1) ∧ ∀ b, b < 24 → Stopped a t b 1) ∧
      (id ∈ a.ring.estops → Gives (.estop dt f) s fun t => t.ring.estops = a.ring.estops ∧ t.banks = a.banks ∧ t.chans = a.chans)) ∧
    (f.ty = 0x41 → f.src = 0 → a.forAll f = true → Gives (.estopClear dt f) s fun t =>
      t.ring.estops = a.ring.estops.filter (fun i => i ≠ id) ∧ t.r Reg.nodeESTOP_ACTIVE = min 255 t.ring.estops.length ∧ t.banks = a.banks) ∧
    (f.ty = 0x70 → a.forMe f = true → f.epoch ≤ a.epoch → let mine := f.payload.take 12 = padTo 12 a.fac.serial ∧ fld 12 1 f.payload = 1;
      (mine → (a.pair.mode = true → f.epoch = a.epoch) → Gives (.ringReset dt f) s fun t =>
        (a.stopHeld = false → Wiped a t 4) ∧ (a.stopHeld = true → t.regs = a.regs ∧ t.banks = a.banks ∧ t.ret = a.ret)) ∧
      ((¬ mine ∨ (a.pair.mode = true ∧ f.epoch < a.epoch)) → Gives (.ringReset dt f) s fun t =>
        t.r Reg.nodeRESET_REFUSED = min 0xFFFFFFFF (a.r Reg.nodeRESET_REFUSED + 1) ∧ SameRegsBut a t [Reg.nodeRESET_REFUSED])) ∧
    (∀ o v, a.accCheck o Reg.nodeRING_JOIN (keySize Reg.nodeRING_JOIN) v true = 0 → a.ringMay = true → Gives (.ringJoin dt o v) s fun t =>
      t.od.rsp = ⟨0, a.nextToken, []⟩ ∧ ∀ l, 80 ≤ l → l < 88 → t.laneState l = 1) ∧
    (f.ty = 0x48 → a.forMe f = true → f.epoch ≤ a.epoch → f.src = 0 → f.payload.take 12 = padTo 12 a.fac.serial → a.pair.mode = true →
      let e := fld 16 4 f.payload; let lease := a.pair.authority = true ∧ a.pair.leaseSafe = 0;
      (fld 12 1 f.payload = 1 → a.known < e → a.follower = true →
        (a.mayClaim = true → Gives (.grantTake dt f) s fun t => t.pair.claiming = true ∧ t.pair.storing = some (e, .claim) ∧
          t.r Reg.prROLE = 2 ∧ t.pair.toggling = a.pair.toggling) ∧
        (a.mayClaim = false → Gives (.grantTake dt f) s fun t => t.pair = { a.pair with right := some e })) ∧
      (fld 12 1 f.payload = 1 → e ≤ a.known → Gives (.grantTake dt f) s fun t => t.pair = a.pair) ∧
      (fld 12 1 f.payload = 2 → e = a.epoch → lease → Gives (.grantRenew dt f) s fun t =>
        t.pair = { a.pair with leaseEnd := some (a.up + 500000000), granted := true } ∧ t.regs = a.regs) ∧
      (fld 12 1 f.payload = 3 → e = a.epoch → lease → Gives (.grantRevoke dt f) s fun t =>
        t.pair = { a.pair with leaseEnd := none, leaseSafe := 1 } ∧
        t.r Reg.prLEASE_EXPIRIES = min 0xFFFFFFFF (a.r Reg.prLEASE_EXPIRIES + 1)))

/-! ## Object access over the ring -/

/-- A repeated OBJ_REQ returns the kept response and does nothing else. A read is answered with the status, token and bytes of
R436-R450 and changes no register; a refused write is answered with its first failing status and changes no register; an accepted
one is answered OK, an accepted action with its token. A block or range read sends its bytes in segments of at most 2,036 in order,
then BLOCK_RSP. A write opens a transfer and collects segments by offset; when its bytes are all there it is checked and applied in
one step and answered. -/
def Obligations.ObjectTransfers : Prop :=
  ∀ (dt : Nat) (f : RingFrame) (s : State), let a := s.advance dt; let b := a.fromMaster f true; let p := f.payload
    let idx := fld 2 2 p; let key := 256 * idx + fld 1 1 p; let req := fld 4 2 p; let o : Origin := ⟨f.src, f.epoch⟩
    let rsp := fun (t : State) (st tok : Nat) (d : Bytes) => NewestOwn t 2 f.src (rspPayload st key req tok d)
    let brsp := fun (t : State) (st k x n crc : Nat) => NewestOwn t 5 f.src (blockPayload st k x n crc)
    a.forMe f = true → f.epoch ≤ a.epoch →
    (f.ty = 1 → ∀ k, a.keptOf f.src req = some k → ∀ c ∈ [(1, Instr.objReqRead dt f), (2, .objReqWrite dt f)], fld 0 1 p = c.1 →
      Gives c.2 s fun t => NewestOwn t 2 f.src k.payload ∧ t = { b with ring := t.ring }) ∧
    (f.ty = 1 → a.keptOf f.src req = none → a.reqPending f.src req = false →
      (fld 0 1 p = 1 → Gives (.objReqRead dt f) s fun t => t = { b.toADie key with ring := t.ring, od := t.od } ∧ (t.keptOf f.src req).isSome = true ∧
        (indexExists idx = false → rsp t 0x10 0 []) ∧
        (indexExists idx = true → key % 256 ≠ 0 → rowAt key = none → rsp t 0x11 0 []) ∧
        (indexExists idx = true → key % 256 = 0 → rowAt key = none → if a.mayRead f.src key then rsp t 0 0 (leBytes 1 (topSub idx)) else rsp t 0x18 0 []) ∧
        (indexExists idx = true → ∀ r, rowAt key = some r → (a.mayRead f.src key = false → rsp t 0x18 0 []) ∧
          (a.mayRead f.src key = true → (r.acc = .wo ∨ r.acc = .act → rsp t 0x13 0 []) ∧
            (r.acc ≠ .wo → r.acc ≠ .act → (r.ty = .block → rsp t 0x17 0 []) ∧
              (r.ty ≠ .block → (b.resultReq key = none → rsp t 0 0 (b.readBytes key)) ∧
                ∀ q, b.resultReq key = some q → if q.busy then rsp t 3 q.tok [] else rsp t 0 q.tok (b.readBytes key)))))) ∧
      (fld 0 1 p = 2 → let n := fld 6 1 p; let d := slice 8 n p; let act := (rowAt key).any (fun r => r.acc = .act);
        let v := leNat d; let len := if d.length = n then n else 0; let st := b.accCheck o key len v (act || b.relOk (b.w key v) key);
        (st ≠ 0 → GivesDone (.objReqWrite dt f) s fun u => u = { b with ring := u.ring, od := u.od } ∧
          rsp u st (if st = 0x1A then (a.act key).tok else 0) []) ∧
        (st = 0 → act = false → b.admits key v = false → GivesDone (.objReqWrite dt f) s fun u => rsp u 0 0 [] ∧
          (key = Reg.timeSYNC_EXPECT → u.r key = v)) ∧
        (st = 0 → key = Reg.nodeRING_JOIN → GivesDone (.objReqWrite dt f) s fun u =>
          ∃ g ∈ u.ring.txq, g.ty = 2 ∧ g.dst = f.src ∧ g.payload = rspPayload 0 key req a.nextToken []))) ∧
    (f.ty = 3 → let c := b.closeXfer f.src req; let x : Xfer := ⟨f.src, req, fld 0 1 p, fld 1 1 p, idx, fld 6 1 p, fld 8 4 p, fld 12 4 p, f.epoch, a.up, []⟩;
      let sent := fun (t : State) (st k : Nat) (d : Bytes) => t = { c with ring := t.ring } ∧ ∃ segs g, t.ring.txq = a.ring.txq ++ segs ++ [g] ∧
        g.ty = 5 ∧ g.dst = f.src ∧ g.payload = blockPayload st k req d.length (crc32 d) ∧
        (segs.map fun z => slice 12 (fld 8 2 z.payload) z.payload).flatten = d ∧
        ∀ i, ∀ h : i < segs.length, let z := segs[i]; z.ty = 4 ∧ z.dst = f.src ∧ fld 0 2 z.payload = req ∧
          fld 2 2 z.payload = i % 65536 ∧ fld 4 4 z.payload = 2036 * i % 2 ^ 32 ∧ fld 8 2 z.payload ≤ 2036;
      c.od.xfers.length < 4 →
      (x.op = 1 → let r := c.readBlock f.src key x.offset x.length; Gives (.blockRead dt f) s fun t => sent t r.1 key r.2) ∧
      (x.op = 3 → let r := c.readRange f.src idx x.sub x.count; Gives (.rangeRead dt f) s fun t => sent t r.1 (256 * idx + r.2.1) r.2.2) ∧
      ∀ e ∈ [(2, Instr.blockWrite dt f), (4, .rangeWrite dt f)], x.op = e.1 → 0 < x.length →
        Gives e.2 s fun t => t = { c with od := t.od } ∧ t.od = { c.od with xfers := c.od.xfers ++ [x] }) ∧
    (f.ty = 4 → ∀ x, (a.od.xfers.find? fun z => decide (z.src = f.src ∧ z.xfer = fld 0 2 p)) = some x →
      let off := fld 4 4 p; let y : Xfer := { x with last := a.up, segs := (x.segs.filter fun e => e.1 ≠ off) ++ [(off, (slice 12 (fld 8 2 p) p).take (x.length - off))] };
      let c := b.closeXfer x.src x.xfer; let w : Origin := ⟨x.src, x.epoch⟩;
      (y.bytes = none → Gives (.blockData dt f) s fun t => t = { b with od := t.od } ∧ y ∈ t.od.xfers) ∧
      ∀ d, y.bytes = some d → let ok := fun (u : State) (k : Nat) => brsp u 0 k x.xfer d.length (crc32 d);
        let no := fun (u : State) (st k : Nat) => u = { c with ring := u.ring, od := c.od } ∧ brsp u st k x.xfer 0 0;
        (x.op = 2 → let k := 256 * x.index + x.sub; let st := c.blockCheck w k x.offset d.length;
          (st ≠ 0 → GivesDone (.blockData dt f) s fun u => no u st k) ∧
          (st = 0 → let r := c.blockPut k x.offset d;
            (r.1 ≠ 0 → GivesDone (.blockData dt f) s fun u => u = { r.2 with ring := u.ring } ∧ brsp u r.1 k x.xfer 0 0) ∧
            (r.1 = 0 → GivesDone (.blockData dt f) s fun u => ok u k) ∧
            ∀ m : Fin 8, k = Reg.mapENTRIES m → GivesDone (.blockData dt f) s fun u => u.blob k = patchBytes (padTo 128 (a.blob k)) x.offset d)) ∧
        (x.op ≠ 2 → (x.count = 0 ∨ 255 < x.count → GivesDone (.blockData dt f) s fun u => no u 0x15 (256 * x.index + x.sub)) ∧
          (1 ≤ x.count → x.count ≤ 255 → let l := (subsFrom x.index x.sub).take x.count; let r := c.rangeCheck w x.index x.sub l d;
            (r.1 ≠ 0 → GivesDone (.blockData dt f) s fun u => no u r.1 (256 * x.index + r.2)) ∧
            (r.1 = 0 → ((cutValues x.index l d).any fun e => c.admits e.1 e.2) = false → GivesDone (.blockData dt f) s fun u =>
              ok u (256 * x.index + r.2) ∧ ∀ v, cutValues x.index l d = [(Reg.timeSYNC_EXPECT, v)] → u.r Reg.timeSYNC_EXPECT = v))))

/-- A block or range write ends with TIMEOUT, BYTES 0, and changes nothing, once 10 ms have passed since its BLOCK_REQ or since its
last segment, and not before. A BLOCK_REQ that reuses the XFER_ID of an open transfer of its source abandons that transfer and
starts the new one. The device holds at most 4 open transfers; a fifth BLOCK_REQ of any operation returns XFER_BUSY with BYTES 0 and
changes nothing else. -/
def Obligations.TransferEnds : Prop :=
  ∀ (dt : Nat) (f : RingFrame) (s : State), let a := s.advance dt; let b := a.fromMaster f true; let p := f.payload; let xf := fld 4 2 p
    let key := 256 * fld 2 2 p + fld 1 1 p
    (∀ src n x, (a.od.xfers.find? fun z => decide (z.src = src ∧ z.xfer = n)) = some x →
      (a.since x.last 10000000 = true → Gives (.xferTimeout dt src n) s fun t =>
        NewestOwn t 5 src (blockPayload 0x1C (256 * x.index + x.sub) n 0 0) ∧ t = { a with ring := t.ring, od := t.od } ∧
        t.od = { a.od with xfers := a.od.xfers.filter fun z => !(decide (z.src = src ∧ z.xfer = n)) }) ∧
      (a.since x.last 10000000 = false → Gives (.xferTimeout dt src n) s (· = a))) ∧
    (a.forMe f = true → f.epoch ≤ a.epoch →
      (f.ty = 3 → ∀ e ∈ [(1, Instr.blockRead dt f), (2, .blockWrite dt f), (3, .rangeRead dt f), (4, .rangeWrite dt f)], fld 0 1 p = e.1 →
        (a.od.xfers.length ≤ 4 → e.1 = 1 ∨ e.1 = 3 ∨ 0 < fld 12 4 p → Gives e.2 s fun t => t.od.xfers.length ≤ 4) ∧
        ((b.closeXfer f.src xf).od.xfers.length < 4 → (e.1 = 2 ∨ e.1 = 4) → 0 < fld 12 4 p → Gives e.2 s fun t =>
          ∃ x, (t.od.xfers.filter fun z => decide (z.src = f.src ∧ z.xfer = xf)) = [x] ∧ x.segs = [] ∧ x.last = a.up ∧ x.op = e.1) ∧
        (4 ≤ (b.closeXfer f.src xf).od.xfers.length → Gives e.2 s fun t => NewestOwn t 5 f.src (blockPayload 0x1B key xf 0 0) ∧
          t = { b.closeXfer f.src xf with ring := t.ring })) ∧
      (f.ty = 4 → ∀ x, (a.od.xfers.find? fun z => decide (z.src = f.src ∧ z.xfer = fld 0 2 p)) = some x → let off := fld 4 4 p;
        ({ x with segs := (x.segs.filter fun e => e.1 ≠ off) ++ [(off, (slice 12 (fld 8 2 p) p).take (x.length - off))] } : Xfer).bytes = none →
        Gives (.blockData dt f) s fun t => ∀ z ∈ t.od.xfers, z.src = f.src → z.xfer = fld 0 2 p → z.last = a.up))

/-- A CYCLIC frame of one enabled map is forwarded. One that ends before the map's slot goes on untouched and counts in CYC_ERR. An
output map writes the values of its entries into its slot and nothing else, in every copy, and counts. An input map takes the first
copy of a SEQ only; an equal value is no write, a refused entry leaves its object and counts in CYC_ERR. -/
def Obligations.CyclicMaps : Prop :=
  ∀ (dt m : Nat) (f : RingFrame) (s : State), let a := s.advance dt; let b := a.fromMaster f false; let p := f.payload
    let lo := a.r (Reg.mapSLOT_OFFSET m); let hi := lo + a.slotLen m
    let one := fun (u : State) (k : Nat) => u.r k = min 0xFFFFFFFF (a.r k + 1)
    f.ty = 0x10 → a.forAll f = true → ((List.range 8).filter fun j => decide (a.r (Reg.mapMAP_ENABLE j) = 1 ∧ a.r (Reg.mapMAP_ID j) = f.info)) = [m] →
    ∃ (u : State) (out : Bytes), exec (.cyclic dt f) s = .next ((u.done).ringForward f out false) ∧
      (p.length < hi → out = p ∧ one u (Reg.mapCYC_ERR m) ∧ SameRegsBut a u [Reg.mapCYC_ERR m]) ∧
      (hi ≤ p.length → a.r (Reg.mapDIRECTION m) ≠ 0 → one u (Reg.mapCYC_FRAMES m) ∧ SameRegsBut a u [Reg.mapCYC_FRAMES m] ∧
        out.length = p.length ∧ (∀ j, j < lo ∨ hi ≤ j → out[j]? = p[j]?) ∧
        ∀ e ∈ b.mapPlaces m, slice e.2 (cycSize e.1) out = if a.mayRead f.src e.1 then (b.readBytes e.1).take (cycSize e.1) else slice e.2 (cycSize e.1) p) ∧
      (hi ≤ p.length → a.r (Reg.mapDIRECTION m) = 0 → out = p ∧ (newerSeq (tget none a.od.cycSeen f.info) f.seq = false → u.regs = a.regs) ∧
        (newerSeq (tget none a.od.cycSeen f.info) f.seq = true →
          let c := State.bump { b with od := { b.od with cycSeen := tset none b.od.cycSeen f.info (some f.seq) } } (Reg.mapCYC_FRAMES m);
          let k := a.mapEntry m 0; let v := fld lo (cycSize k) p;
          let st := c.accCheck ⟨f.src, f.epoch⟩ k (cycSize k) v (c.relOk (c.w k v) k);
          a.r (Reg.mapENTRY_COUNT m) = 1 → (c.readVal k = v → u = c) ∧
            (c.readVal k ≠ v → (st ≠ 0 → u = c.bump (Reg.mapCYC_ERR m)) ∧
              (st = 0 → k = Reg.timeSYNC_EXPECT → one u (Reg.mapCYC_FRAMES m) ∧ u.r k = v ∧ u.r (Reg.mapCYC_ERR m) = a.r (Reg.mapCYC_ERR m)))))

/-! ## The redundant pair -/

/-- Partner messages that are not valid, or arrive with PAIR_MODE 0 or on a partner lane that is not UP, do nothing; a stale one counts
only as a heartbeat; a newer epoch is adopted, demoting a device that holds authority or has come back from a lapsed claim. A HEARTBEAT,
whose payload stands in its packet, brings the connection up, a bellwether then sends CONFIG_SYNC; HEARTBEAT leaves every 100 us as a
packet that checks, with epoch, role, flags, lease, tick, handover epoch and serial number in their places; without one for 1 ms the
connection is down. -/
def Obligations.PartnerConnection : Prop :=
  ∀ (dt key tag tick code : Nat) (m : PartnerMsg) (p : HeadPkt) (j : SetIn) (h : Fin 32) (d : Bytes) (part : OffsPart)
    (l1 l2 : List DiagEntry) (vals zs : List (Nat × Nat)) (blocks : List (Nat × Bytes)) (sets : List SetIn) (s : State),
    let a := s.advance dt; let hb := hbEnvelope m p; let i := hbOf (pktData p)
    let lane := a.pair.mode = true ∧ a.laneUp (88 + m.lane) = true; let tx := a.pair.mode = true ∧ a.partnerLane = true
    (∀ c ∈ [(Instr.heartbeat dt m p, hb), (.demands dt m tick zs, m), (.objFwd dt m key d, m), (.armedSet dt m j, m),
        (.offsets dt m h tag part, m), (.diagState dt m l1 l2, m), (.candidate dt m vals, m), (.verdict dt m code, m),
        (.configSync dt m vals blocks sets, m)],
      (c.2.valid = false ∨ ¬ lane → Gives c.1 s (· = a)) ∧
      (c.2.valid = true → lane → c.2.epoch < a.epoch → Gives c.1 s fun t => t.pair.lastHb = some a.up ∧ t.pair.peer = a.pair.peer ∧
        t.pair.peerEpoch = c.2.epoch ∧ t.pair.authority = a.pair.authority ∧ t.pair.storing = a.pair.storing ∧
        (a.r Reg.prPARTNER_STATE = 0 → t.r Reg.prPARTNER_STATE = 1) ∧ (a.r Reg.prPARTNER_STATE ≠ 0 → t.regs = a.regs))) ∧
    (m.valid = true → lane → a.epoch < m.epoch → a.pair.storing = none → Gives (.candidate dt m vals) s fun t =>
      t.pair.storing = some (m.epoch, .adopt) ∧ t.epoch = a.epoch ∧
      (a.pair.authority = true → t.pair.authority = false ∧ t.pair.toggling = false ∧ t.r Reg.prROLE = 1 ∧
        t.r Reg.prDEMOTIONS = min 0xFFFFFFFF (a.r Reg.prDEMOTIONS + 1)) ∧
      (a.r Reg.prCLAIM_LAPSED = 1 → a.pair.demotedSinceLapse = false → t.pair.demotedSinceLapse = true ∧
        t.r Reg.prDEMOTIONS = min 0xFFFFFFFF (a.r Reg.prDEMOTIONS + 1))) ∧
    (a.hears hb → Gives (.heartbeat dt m p) s fun t => t.pair.lastHb = some a.up ∧ t.pair.peer = i ∧ t.pair.peerEpoch = hb.epoch ∧
      t.blob Reg.prPARTNER_SERIAL = i.serial ∧ (a.r Reg.prPARTNER_STATE = 0 → t.r Reg.prPARTNER_STATE = 1 ∧
        (a.pair.authority = true → ∃ e ∈ t.ptx, e.ty = 0xA9 ∧ ∃ v b c, e.msg = .configSync a.epoch v b c)) ∧
      (bit 0 i.flags = true → a.pair.authority = true → a.pair.leaseSafe = 0 → t.pair.leaseEnd = some (a.up + 500000000))) ∧
    (tx → a.since a.pair.lastHbTx 100000 = true → Gives (.partnerHeartbeatTx dt) s fun t => t.regs = a.regs ∧ t.pair.lastHbTx = a.up ∧
      ∃ q, SentPartner a t (.heartbeat q) ∧ pktOk q 0xA1 = true ∧ q.len = 8 ∧ q.seq = a.pair.txSeq ∧
        fld 0 4 (pktData q) = a.epoch % 2 ^ 32 ∧ let x := hbOf (pktData q);
        x.role = a.r Reg.prROLE % 256 ∧ bit 0 x.flags = a.yields ∧ bit 1 x.flags = a.masterOk ∧
        bit 2 x.flags = decide (a.r Reg.opDEVICE_STATE = 3) ∧ bit 3 x.flags = a.pair.toggling ∧ bit 4 x.flags = a.d2d.lost ∧
        x.leaseLeft = a.leaseLeft % 65536 ∧ x.tick = a.now / (1000 * a.r Reg.opTICK_PERIOD) % 2 ^ 64 ∧
        x.handoverEpoch = a.pair.handoverEpoch % 2 ^ 32 ∧ x.serial = padTo 12 a.fac.serial) ∧
    (¬ tx ∨ a.since a.pair.lastHbTx 100000 = false → Gives (.partnerHeartbeatTx dt) s (· = a)) ∧
    (a.r Reg.prPARTNER_STATE = 1 → (∀ x, a.pair.lastHb = some x → a.since x 1000000 = true) → Gives (.partnerDown dt) s fun t =>
      t.r Reg.prPARTNER_STATE = 0 ∧ t.pair = { a.pair with synced := false, lostSaid := t.pair.lostSaid } ∧
        t.r Reg.shpREPLACEMENTS = min 0xFFFFFFFF (a.r Reg.shpREPLACEMENTS + 1)) ∧
    (∀ x, a.pair.lastHb = some x → a.since x 1000000 = false → Gives (.partnerDown dt) s (· = a))

/-- OBJ_FWD, ARMED_SET, OFFSETS, DIAG_STATE and CONFIG_SYNC change nothing on a device that is no follower. A follower makes the
write of OBJ_FWD under the rules of a write; arms a set that its own checks pass under its tag, and re-places the configuration for one
they do not, and arms a set of an internal commit as it is; takes a part of the offsets for the set armed under their tag; mirrors every
channel's and bank's fault, observation and confirmation counts and stops a bank whose fault is new; takes the values of CONFIG_SYNC. -/
def Obligations.Followers : Prop :=
  ∀ (dt key tag : Nat) (m : PartnerMsg) (j : SetIn) (h : Fin 32) (d : Bytes) (part : OffsPart)
    (l1 l2 : List DiagEntry) (vals : List (Nat × Nat)) (blocks : List (Nat × Bytes)) (sets : List SetIn) (s : State),
    let a := s.advance dt
    a.hears m →
    (a.follower = false → ∀ c ∈ [Instr.objFwd dt m key d, .armedSet dt m j, .offsets dt m h tag part, .diagState dt m l1 l2,
      .configSync dt m vals blocks sets], Gives c s (· = a)) ∧
    (a.follower = true →
      (((rowAt key).any fun r => r.ty = .block) = false → let act := (rowAt key).any (fun r => r.acc = .act);
        let st := a.accCheck ⟨0x41, m.epoch⟩ key d.length (leNat d) (act || a.relOk (a.w key (leNat d)) key);
        (st ≠ 0 → GivesDone (.objFwd dt m key d) s (· = a)) ∧
        (st = 0 → (∃ n : Fin 192, key = Reg.chMAX_ON n) → GivesDone (.objFwd dt m key d) s fun u => u.r key = leNat d)) ∧
      (let c := (a.armSet j.head (a.setOf j)).check.1;
       (j.inner = false → c ≠ 0 → Gives (.armedSet dt m j) s fun t => t.r Reg.shpLAST_CAUSE = 0 ∧
        t.r Reg.shpREPLACEMENTS = min 0xFFFFFFFF (a.r Reg.shpREPLACEMENTS + 1)) ∧
       (j.inner = true ∨ c = 0 → Gives (.armedSet dt m j) s fun t => t.r (Reg.hsARMED_TAG j.head) = j.tag ∧
        (t.hr j.head).lastTag = laterTag j.tag (a.hr j.head).lastTag ∧
        (∃ p, (t.pipe j.head).armed = some p ∧ p.tag = j.tag ∧ p.vals = j.vals ∧ p.skim = j.skim ∧ p.subRef = j.subRef ∧ p.armedAt = a.now ∧
          (∀ c0, (a.pipe j.head).cur = some c0 → j.inner = true → p.slots = c0.slots) ∧
          (j.inner = false → p.slots = a.newestSlots j.head (tget 0 j.vals 0x424))) ∧
        (∀ p, (a.pipe j.head).armed = some p → t.r (Reg.pkTAG_TIMEOUT j.head) = min 0xFFFFFFFF (a.r (Reg.pkTAG_TIMEOUT j.head) + 1)) ∧
        (t.pipe j.head).cur = (a.pipe j.head).cur)) ∧
      (∀ p, (a.pipe h).armed = some p → p.tag = tag → Gives (.offsets dt m h tag part) s fun t =>
        (t.pipe h).armed = some { p with kind := .fold, offsets := true } ∧ t.regs = a.regs ∧
        (∀ k v, part.offs[k]? = some v → part.first + k < a.factCount h →
          tget 0x10000 t.px.stage (pxKey h (part.first + k)) = enc2 16 v)) ∧
      Gives (.diagState dt m l1 l2) s (fun t =>
        (∀ n, n < 192 → let e := diagEntry l1 n; t.r (Reg.chdCH_FAULT n) = e.fault ∧ (t.chan n).obs = e.obs ∧ (t.chan n).obsN = e.obsN ∧
          (t.chan n).curN = e.curN) ∧
        ∀ b, b < 24 → let e := diagEntry l2 b; t.r (Reg.bdgBANK_FAULT b) = e.fault ∧ (t.bank b).obs = e.obs ∧ (t.bank b).obsN = e.obsN ∧
          (a.r (Reg.bdgBANK_FAULT b) = 0 → e.fault ≠ 0 → t.rb (Reg.bkSTOP_CAUSE b) 5 = true ∧ GatesOff t b)) ∧
      GivesDone (.configSync dt m vals blocks sets) s fun u => u.pair.synced = true ∧
        ∀ (n : Fin 192) v, vals = [(Reg.chMAX_ON n, v)] → blocks = [] → sets = [] → u.r (Reg.chMAX_ON n) = v)

/-- A CANDIDATE is answered with the code of the first check that fails and changes nothing. A VERDICT decides the change that has been
put to the partner: refused, CHECK_RESULT is 6 and a write is answered 0x1D, a commit fails with code 4 and an attach is shed; allowed,
and admitted still, the value is stored or the set armed; no longer admitted, it is refused with the check that fails. The next change
that waits is then put to the partner. A commit that a set armed meanwhile or a run refuses fails with its own code. Without a verdict
for 10 ms the change is refused, or with the partner gone allowed; a verdict that nothing waits for does nothing. -/
def Obligations.Candidates : Prop :=
  ∀ (dt code : Nat) (m : PartnerMsg) (vals : List (Nat × Nat)) (s : State), let a := s.advance dt
    a.hears m →
    (a.partnerUp = true → Gives (.candidate dt m vals) s fun t => t = { a with ptx := t.ptx, pair := { a.pair with txSeq := t.pair.txSeq } } ∧
      SentPartner a t (.verdict a.epoch (a.candOf vals).check.1)) ∧
    (a.shep.cands = [] → Gives (.verdict dt m code) s (· = a) ∧ Gives (.verdictTimeout dt) s (· = a)) ∧
    (∀ t0 op rest, a.shep.cands = (t0, op) :: rest →
      (a.since t0 10000000 = true → (code = 0 ↔ a.partnerUp = false) → exec (.verdictTimeout dt) s = exec (.verdict dt m code) s) ∧
      (a.since t0 10000000 = false → Gives (.verdictTimeout dt) s (· = a)) ∧
      (∀ src kind vs t1 src1 kind1 vs1 rest1, op = .write src kind vs .own → rest = (t1, .write src1 kind1 vs1 .own) :: rest1 → code ≠ 0 →
        let c : State := { a.w Reg.shpCHECK_RESULT 6 with
          od := { a.od with rsp := ⟨0x1D, 0, []⟩ }, shep := { a.shep with cands := rest1, asked := false } };
        (c.stored vs1).check.1 = 0 → a.partnerUp = true → GivesDone (.verdict dt m code) s fun u =>
          u = { c with shep := { a.shep with cands := (a.up, .write src1 kind1 vs1 .own) :: rest1, asked := true }
                       ptx := u.ptx, pair := { a.pair with txSeq := u.pair.txSeq } } ∧
          SentPartner a u (.candidate a.epoch (c.stored vs1).candidateVals))) ∧
    (∀ t0 op, a.shep.cands = [(t0, op)] → let b : State := { a with shep := { a.shep with cands := [], asked := false } };
      (∀ src kind vs, op = .write src kind vs .own → let q := (b.stored vs).check;
        (code ≠ 0 ∨ q.1 ≠ 0 → GivesDone (.verdict dt m code) s fun u => u = { b with regs := u.regs, od := { b.od with rsp := ⟨0x1D, 0, []⟩ } } ∧
          u.r Reg.shpCHECK_RESULT = (if code ≠ 0 then 6 else q.1 + 256 * q.2) ∧ SameRegsBut a u [Reg.shpCHECK_RESULT]) ∧
        (code = 0 → q.1 = 0 → ∀ v, vs = [(Reg.opPOWER_LIMIT, v)] → GivesDone (.verdict dt m code) s fun u => u.r Reg.opPOWER_LIMIT = v ∧
          u.od.rsp = ⟨0, 0, []⟩ ∧ u.shep.cands = [])) ∧
      (∀ h, h < 32 → op = .commit h → a.attached h = true → let q := (b.withArmed h (some (b.hostSet h))).check.1;
        (code ≠ 0 → GivesDone (.verdict dt m code) s fun u => u.r Reg.shpCHECK_RESULT = 6 ∧ u.pipes = a.pipes ∧
          (a.actBusy (Reg.hsCOMMIT h) = true → u.r (Reg.hsCOMMIT h + 1) / 65536 = 4 ∧ u.actBusy (Reg.hsCOMMIT h) = false)) ∧
        (code = 0 → q = 0 → b.commitCode h (b.hostSet h) ≠ 0 → GivesDone (.verdict dt m code) s fun u => u.pipes = a.pipes ∧
          (a.actBusy (Reg.hsCOMMIT h) = true → u.r (Reg.hsCOMMIT h + 1) / 65536 = b.commitCode h (b.hostSet h))) ∧
        (code = 0 → q = 0 → b.commitCode h (b.hostSet h) = 0 → GivesDone (.verdict dt m code) s fun u => (u.pipe h).armed = some (b.hostSet h) ∧
          u.r (Reg.hsARMED_TAG h) = nextTag (a.hr h).lastTag ∧
          (a.actBusy (Reg.hsCOMMIT h) = true → u.r (Reg.hsCOMMIT h + 1) = nextTag (a.hr h).lastTag ∧ u.actBusy (Reg.hsCOMMIT h) = false))) ∧
      (∀ h, h < 32 → op = .attach h → ((a.hd h).step ≠ 7 → GivesDone (.verdict dt m code) s (· = b)) ∧
        ((a.hd h).step = 7 → code ≠ 0 → GivesDone (.verdict dt m code) s fun u => (u.hd h).step = 0 ∧ u.r (Reg.hdATTACH_STATE h) = 2 ∧
          u.rb Reg.shpSHED_HEADS h = true ∧ u.r Reg.shpCHECK_RESULT = 6)))

/-- A refresh counts from now and starts a claim that waits; without one for 1 ms authority and claim end with every gate released
and CLAIM_LAPSED set. PEER_CLAIM toggles while its last four edges lie 40-60 us apart and the newest at most 75 us back; while the
device claims, that is a collision with a back-off of 2 or 20 ms. A claim settles after 200 us: the device becomes bellwether with a
lease of 500 ms and its FOLLOW banks arm. A back-off ends in a new claim where the right to it still stands, or as follower; a lease ends in a safe tick; HANDOVER of a
ready pair is offered and answered. -/
def Obligations.Claims : Prop :=
  ∀ (dt v : Nat) (o : Origin) (s : State), let a := s.advance dt; let q := a.pair; let mode := q.mode = true
    let one := fun (u : State) (k : Nat) => u.r k = min 0xFFFFFFFF (a.r k + 1)
    let waits := ∃ e, q.right = some e ∧ a.known < e ∧ a.mayClaim = true
    let collided := fun (t : State) => one t Reg.prCOLLISIONS ∧ t.r Reg.prROLE = 4 ∧ t.pair.authority = false ∧ t.pair.toggling = false ∧
      t.pair.claiming = false ∧ t.pair.backoffEnd = some (a.up + if a.r Reg.prPAIR_ID = 0 then 2000000 else 20000000)
    let near := fun (x y : Nat) => x + 40000 ≤ y ∧ y ≤ x + 60000
    (¬ waits → Gives (.authorityRefresh dt) s fun t => t.pair = { q with refreshed := a.up, lostSaid := t.pair.lostSaid } ∧
      SameRegsBut a t [Reg.evEVENT_SEQ] ∧ (a.follower = false → t = { a with pair := { q with refreshed := a.up, lostSaid := false } })) ∧
    (∀ e, q.right = some e → a.known < e → a.mayClaim = true → Gives (.authorityRefresh dt) s fun t => t.pair.refreshed = a.up ∧
      t.pair.claiming = true ∧ t.pair.storing = some (e, .claim) ∧ t.r Reg.prROLE = 2 ∧ t.pair.right = none) ∧
    (mode → q.authority = true ∨ q.toggling = true → a.since q.refreshed 1000000 = true → Gives (.claimLapsed dt) s fun t =>
      t.pair.authority = false ∧ t.pair.toggling = false ∧ t.pair.claiming = false ∧ t.pair.leaseEnd = none ∧ t.r Reg.prROLE = 1 ∧
      t.r Reg.prCLAIM_LAPSED = 1 ∧ ∀ b, b < 24 → t.gates b = .released ∧ (a.r (Reg.bkBANK_STATE b) = 4 → t.r (Reg.bkBANK_STATE b) = 3)) ∧
    (¬ mode ∨ (q.authority = false ∧ q.toggling = false) ∨ a.since q.refreshed 1000000 = false → Gives (.claimLapsed dt) s (· = a)) ∧
    (mode → ∀ x y z rest, q.edges = x :: y :: z :: rest → Gives (.peerClaimEdge dt) s fun t =>
      (near x a.up ∧ near y x ∧ near z y → t.r Reg.prPEER_CLAIM_STATE = 1 ∧ (q.toggling = true → collided t) ∧
        (q.toggling = false → t.pair = { q with edges := [a.up, x, y, z], lineFault := false })) ∧
      (¬ (near x a.up ∧ near y x ∧ near z y) → t.r Reg.prPEER_CLAIM_STATE = 0 ∧ t.pair.edges = [a.up, x, y, z])) ∧
    (mode → a.peerToggles = false → Gives (.peerClaimTimeout dt) s fun t => t.r Reg.prPEER_CLAIM_STATE = 0) ∧
    (¬ mode ∨ a.peerToggles = true → Gives (.peerClaimTimeout dt) s (· = a)) ∧
    (q.claiming = true → q.toggling = true → a.since q.claimSince 200000 = true →
      (a.r Reg.prPEER_CLAIM_STATE = 1 → Gives (.claimSettle dt) s collided) ∧
      (a.r Reg.prPEER_CLAIM_STATE ≠ 1 → Gives (.claimSettle dt) s fun t => t.pair.authority = true ∧ t.pair.claiming = false ∧
        t.pair.leaseEnd = some (a.up + 500000000) ∧ t.r Reg.prROLE = 3 ∧ one t Reg.prTAKEOVERS ∧ t.r Reg.prLAST_TAKEOVER = a.now ∧
        ∀ b, b < 24 → a.r (Reg.bkBANK_STATE b) = 3 → (t.bank b).toArm = true)) ∧
    (∀ x, q.backoffEnd = some x → (a.up < x → Gives (.claimBackoff dt) s (· = a)) ∧
      (x ≤ a.up → let b : State := { a with pair := { q with backoffEnd := none } };
        (b.mayClaim = true → b.rightStands = true → Gives (.claimBackoff dt) s fun t => t.pair.claiming = true ∧ t.pair.toggling = true ∧ t.pair.claimSince = a.up ∧
          t.r Reg.prROLE = 2) ∧
        (b.mayClaim = false ∨ (b.rightStands = false ∧ q.right = none) → Gives (.claimBackoff dt) s fun t => t.pair = b.pair ∧ t.r Reg.prROLE = 1))) ∧
    (∀ x, q.leaseEnd = some x → x ≤ a.up → mode → q.authority = true → q.leaseSafe = 0 → Gives (.leaseExpired dt) s fun t =>
      t.pair = { q with leaseEnd := none, leaseSafe := 1 } ∧ one t Reg.prLEASE_EXPIRIES) ∧
    (a.accCheck o Reg.prHANDOVER (keySize Reg.prHANDOVER) v true = 0 → Gives (.handover dt o v) s fun t =>
      t.od.rsp = ⟨0, a.nextToken, []⟩ ∧ t.actBusy Reg.prHANDOVER = false ∧
      let c := if ¬ (mode ∧ q.authority = true) then 3 else if a.partnerUp = false then 1 else if bit 2 q.peer.flags && bit 1 q.peer.flags then 0 else 2;
      t.r Reg.prHANDOVER_RESULT = c ∧ (c = 0 → q.handover = 0 → t.pair = { q with handover := 1 }) ∧ (c ≠ 0 → t.pair = q))

/-! ## Power, temperature and clocks -/

/-- An accepted STATE_REQ gets its token; its result names the state reached, 1 for a value outside 1-3 and 2 where it may not be
made: in STOPPING, out of STANDBY with fewer than 8 subchannels in service, out of RUN while a bank is ARMED or FOLLOW. READY to
STANDBY turns PD05-PD10 and PD15-PD19 off and leaves memory in self-refresh, which a wake starts again once the domains it needs are
up. DOMAIN_SWITCH opens every switch not needed, makes the domain whose switch closed 20 us ago usable, and closes the lowest needed
one, 20 us after the last. A quadrant whose lanes have been absent for 10 s goes down; 10 ms after its beginning a stop ends with
PD04-PD19 down and both Stile outputs low. -/
def Obligations.DeviceStates : Prop :=
  ∀ (dt v : Nat) (o : Origin) (q : Fin 4) (s : State), let a := s.advance dt; let d := a.r Reg.opDEVICE_STATE
    let off := fun (t : State) => ∀ k, (5 ≤ k ∧ k ≤ 10) ∨ (15 ≤ k ∧ k ≤ 19) → t.domUp k = false
    (a.accCheck o Reg.opSTATE_REQ (keySize Reg.opSTATE_REQ) v true = 0 → GivesBoot (.stateReq dt o v) s fun u => u.od.rsp = ⟨0, a.nextToken, []⟩ ∧
      let ended := fun (code st : Nat) => u.r Reg.opSTATE_RESULT = code + 256 * st ∧ u.r Reg.opDEVICE_STATE = st ∧ u.actBusy Reg.opSTATE_REQ = false;
      (d = 4 → ended 2 4) ∧ (d ≠ 4 → v < 1 ∨ 3 < v → ended 1 d) ∧ (d ≠ 4 → 1 ≤ v → v ≤ 3 → v = d → ended 0 d ∧ u.pwr = a.pwr) ∧
      (d = 1 → v = 2 ∨ v = 3 → (a.inService < 8 → ended 2 1) ∧
        (8 ≤ a.inService → let up := ({ a with pwr := { a.pwr with target := some v } } : State).domsUp;
          (up = false → u.r Reg.opDEVICE_STATE = 1 ∧ u.pwr.target = some v ∧ u.r Reg.memMEM_STATE = a.r Reg.memMEM_STATE ∧
            (a.pwr.stopOver = false → u.pwr.fast = 15)) ∧
          (up = true → a.r Reg.memMEM_STATE = 4 → u.r Reg.memMEM_STATE = 3))) ∧
      (d = 2 → v = 3 → (ended 0 3 ∧ u.pwr.target = none) ∨ (u.r Reg.opDEVICE_STATE = 2 ∧ u.pwr.target = some 3)) ∧
      (d = 2 → v = 1 → a.pwr.target = none → ended 0 1 ∧ off u ∧ (a.r Reg.memMEM_STATE = 3 → u.r Reg.memMEM_STATE = 4)) ∧
      (d = 3 → v = 1 ∨ v = 2 → ((∃ b, b < 24 ∧ a.bankRuns b = true) → ended 2 3) ∧ ((∀ b, b < 24 → a.bankRuns b = false) → ended 0 v))) ∧
    (let b := a.domDrop; let waited := a.since a.pwr.switchAt 20000 = true; let lack := fun (k : Nat) => b.domNeeded k = true ∧ b.domUp k = false;
      GivesBoot (.domainSwitch dt) s fun u => (∀ k, k < 20 → b.domUp k = (a.domUp k && a.domNeeded k)) ∧
      (∀ k, k < 20 → a.pwr.closing = some k →
        (waited → lack k → u.domUp k = true ∧ ∀ j, j < 20 → j ≠ k → u.domUp j = b.domUp j) ∧
        (¬ waited → u.pwr.closing = some k ∧ u.pwr.switchAt = a.pwr.switchAt ∧ ∀ j, j < 20 → u.domUp j = b.domUp j)) ∧
      (a.pwr.closing = none → (∀ j, j < 20 → u.domUp j = b.domUp j) ∧
        ((∀ k, k < 20 → ¬ lack k) ∨ ¬ waited → u = { b with pwr := { b.pwr with fast := u.pwr.fast } }) ∧
        ∀ k, k < 20 → lack k → (∀ j, j < k → ¬ lack j) → waited → u.pwr.closing = some k ∧ u.pwr.switchAt = a.up)) ∧
    (let gone := fun (l : Nat) => (a.laneState l = 6 ∨ a.laneState l = 1) ∧ ∃ t0, (a.lane l).absentAt = some t0 ∧ a.since t0 10000000000 = true;
      (a.domUp (5 + q) = true → (∀ l, l / 8 = q.val → gone l) → Gives (.quadrantIdle dt q) s fun t =>
        t.domUp (5 + q) = false ∧ ∀ l, l / 8 = q.val → t.laneState l = 0) ∧
      ((∃ l, l / 8 = q.val ∧ ¬ gone l) → Gives (.quadrantIdle dt q) s (· = a))) ∧
    (∀ t0, a.pwr.stopAt = some t0 → d = 4 → a.pwr.stopOver = false → (a.since t0 10000000 = false → Gives (.orderlyStopEnd dt) s (· = a)) ∧
      (a.since t0 10000000 = true → Gives (.orderlyStopEnd dt) s fun t => t.pwr.stopOver = true ∧ (∀ k, 4 ≤ k → k < 20 → t.domUp k = false) ∧
        t.r Reg.opDEVICE_STATE = 4 ∧ (a.r Reg.memMEM_STATE = 3 → t.r Reg.memMEM_STATE = 4) ∧ ∀ p, p < 2 → t.r (Reg.portSTILE p) = 0))

/-- A housekeeping round, one for each 10 ms of ring time, publishes TS0-TS15, T_MAX and every rail, sets RAIL_WARN as 4 % or 5 % say
and stops the device at 118 degC; in a cut-off, or when its 10 ms have had theirs, it does nothing. Each millisecond CLOCK_STATE shows
which clocks are absent or more than 1 % off; a reference that has just become bad takes its lanes out, ring lanes among them that no
recovered clock feeds, and the system reference stops the device with cause 5 and leaves it on its internal oscillator. -/
def Obligations.HouseAndClock : Prop :=
  ∀ (dt f0 f1 f2 f3 : Nat) (i : HouseIn) (s : State), let a := s.advance dt
    let off := fun (nom f : Nat) => 100 * f < 99 * nom ∨ 101 * nom < 100 * f
    (a.pwr.cutoff = true ∨ a.pwr.roundNo = some (a.now / 10000000) → GivesDone (.housekeepingRound dt i) s (· = a)) ∧
    (a.pwr.cutoff = false → a.pwr.roundNo ≠ some (a.now / 10000000) → i.ts.length = 16 → i.rails.length = 14 → (∀ x ∈ i.ts, -32768 ≤ x ∧ x ≤ 32767) → GivesDone (.housekeepingRound dt i) s fun u =>
      (∀ k, ∀ h : k < i.ts.length, u.ri 16 (Reg.tsTS0 + k) = i.ts[k]) ∧
      u.ri 16 Reg.thmT_MAX ∈ i.ts ∧ (∀ x ∈ i.ts, x ≤ u.ri 16 Reg.thmT_MAX) ∧
      (∀ k, ∀ h : k < i.rails.length, u.r (Reg.railVCORE_N + k) = min 65535 i.rails[k] ∧
        (k < 11 → (u.rb Reg.railRAIL_WARN k = true ↔ 100 * i.rails[k] < 96 * railNominal.getD k 0 ∨ 104 * railNominal.getD k 0 < 100 * i.rails[k])) ∧
        (k = 11 → (u.rb Reg.railRAIL_WARN k = true ↔ 100 * i.rails[k] < 95 * 12000 ∨ 105 * 12000 < 100 * i.rails[k]))) ∧
      u.pwr.roundNo = some (a.now / 10000000) ∧ ((∃ x ∈ i.ts, 1180 ≤ x) → u.r Reg.opDEVICE_STATE = 4)) ∧
    GivesDone (.clockCheck dt f0 f1 f2 f3) s fun u =>
      (∀ e ∈ [(0, 100000000, f0), (1, 156250000, f1), (2, 156250000, f2), (3, 32768, f3)], u.rb Reg.thmCLOCK_STATE e.1 = true ↔ off e.2.1 e.2.2) ∧
      (∀ l : Fin 96, a.laneUp l = true → (l.val < 80 ∧ off 156250000 f1 ∧ a.rb Reg.thmCLOCK_STATE 1 = false) ∨
        ((88 ≤ l.val ∨ (80 ≤ l.val ∧ (a.lane l).clock = none)) ∧ off 156250000 f2 ∧ a.rb Reg.thmCLOCK_STATE 2 = false) →
        u.laneState l = 5) ∧
      (off 100000000 f0 → a.rb Reg.thmCLOCK_STATE 0 = false → u.pwr.intSys = true ∧ u.r Reg.opDEVICE_STATE = 4 ∧
        (a.r Reg.opDEVICE_STATE ≠ 4 → u.r Reg.thmSTOP_CAUSE = 5))

/-! ## Storage -/

/-- A page write or cell program that ends is in the cells; the job goes on, or its end takes effect: the mark, MIRROR_SEQ or the
pair epoch. A completion of the other kind, or of an idle bank, does nothing. The mirror is written 100 ms after the oldest waiting
entry or with 7 of them, and 100 ms after the write before. CONFIG_SAVE queues both copies of the image, or fails with result 2
where it is too long; CONFIG_CLEAR queues their erasure. -/
def Obligations.NvmAndMirror : Prop :=
  ∀ (dt v : Nat) (b : Fin 4) (o : Origin) (s : State), let a := s.advance dt; let tok := a.nextToken
    let due := (∃ t0 e rest, a.tly.waiting = (t0, e) :: rest ∧ a.since t0 100000000 = true) ∨ 7 ≤ a.tly.waiting.length
    let gap := ∀ t0, a.tly.lastMirror = some t0 → a.since t0 100000000 = true
    (∀ j x rest, tget none a.nvm.cur b = some j → j.ops = x :: rest →
      let c := match x with | .page .. => Instr.nvmWriteDone dt b | .cell .. => Instr.nvmProgramDone dt b;
      let other := match x with | .page .. => Instr.nvmProgramDone dt b | .cell .. => Instr.nvmWriteDone dt b;
      Gives other s (· = a) ∧
      (rest ≠ [] ∨ j.fin = [] → Gives c s fun t => t.nvm.cells = x.apply a.nvm.cells ∧ t = { a with nvm := t.nvm, regs := t.regs }) ∧
      (rest = [] → (∀ q, j.fin = [.mirror q] → Gives c s fun t => t.nvm.cells = x.apply a.nvm.cells ∧ t.r Reg.tlyMIRROR_SEQ = q) ∧
        (∀ e, j.fin = [.epoch e] → Gives c s fun t => t.epoch = e ∧ ∀ w, a.pair.storing = some (e, w) → t.pair.storing = none) ∧
        (∀ m, j.fin = [.hwm m] → Gives c s fun t => t.r Reg.tlyHWM = m))) ∧
    (tget none a.nvm.cur b = none → Gives (.nvmWriteDone dt b) s (· = a) ∧ Gives (.nvmProgramDone dt b) s (· = a)) ∧
    (due → gap → Gives (.mirrorWrite dt) s fun t => t.tly.waiting = [] ∧ t.tly.lastMirror = some a.up ∧ t.tly.pageGen = a.tly.pageGen + 1 ∧
      t.r Reg.tlyMIRROR_SKIP = min 0xFFFFFFFF (a.r Reg.tlyMIRROR_SKIP + (a.tly.waiting.length - 7)) ∧ t.nvm.cells = a.nvm.cells) ∧
    (¬ due ∨ ¬ gap → Gives (.mirrorWrite dt) s (· = a)) ∧
    (a.accCheck o Reg.cfgCONFIG_SAVE (keySize Reg.cfgCONFIG_SAVE) v true = 0 → Gives (.configSave dt o v) s fun t =>
      t.od.rsp = ⟨0, tok, []⟩ ∧ ((∃ x y, t.flash.jobs = a.flash.jobs ++ [x, y] ∧ x.for_ = .configA ∧ y.for_ = .configB ∧ t.actBusy Reg.cfgCONFIG_SAVE = true) ∨
        (t.flash = a.flash ∧ t.r Reg.cfgCONFIG_RESULT = 2 ∧ t.actBusy Reg.cfgCONFIG_SAVE = false))) ∧
    (a.accCheck o Reg.cfgCONFIG_CLEAR (keySize Reg.cfgCONFIG_CLEAR) v true = 0 → Gives (.configClear dt o v) s fun t => t.od.rsp = ⟨0, tok, []⟩ ∧
      ∃ x y, t.flash.jobs = a.flash.jobs ++ [x, y] ∧ x.for_ = .clearA ∧ y.for_ = .clearB ∧ x.ops.length = 16 ∧ y.ops.length = 16)

/-- A clear status ends the operation as written and the job goes on; one busy beyond its limit, 3 s for an erase and 10 ms for a
program, counts in FLASH_FAULTS. SPI_SEL asserts one line or releases it, ending a shift with result 1; anything else is refused. A
select held for 10 ms is released with result 3. SPI_GO without a select fails with 2, else it shifts SPI_BITS of SPI_TX; after N +
2 clocks SPI_RX holds MISO and the result tells N clocks. -/
def Obligations.FlashAndSpi : Prop :=
  ∀ (dt v miso : Nat) (busy : Bool) (o : Origin) (s : State), let a := s.advance dt; let x := a.flash; let old := a.r Reg.spiSPI_SEL
    let end_ := fun (t : State) (r : Nat) => t.r Reg.spiSPI_RESULT = r ∧ t.actBusy Reg.spiSPI_GO = false ∧ t.flash.shift = none
    (x.pollSince = none ∨ x.jobs = [] → Gives (.flashPoll dt busy) s (· = a)) ∧
    (∀ t0 j q p rest, x.pollSince = some t0 → x.jobs = j :: q → j.ops = p :: rest →
      let lim := match p with | .erase _ => 3000000000 | .program _ _ => 10000000;
      (busy = true → a.up ≤ t0 + lim → Gives (.flashPoll dt busy) s (· = a)) ∧
      (busy = false → rest ≠ [] → Gives (.flashPoll dt busy) s fun t => t.flash.cells = p.apply x.cells ∧ t.flash.jobs = { j with ops := rest } :: q) ∧
      (busy = false → rest = [] → ∀ k, j.for_ = .table k → Gives (.flashPoll dt busy) s fun t => t.flash.cells = p.apply x.cells ∧ t.flash.jobs = q) ∧
      (busy = true → t0 + lim < a.up → ∀ k, j.for_ = .table k → Gives (.flashPoll dt busy) s fun t => t.flash.cells = x.cells ∧ t.flash.jobs = q ∧
        t.r Reg.flFLASH_FAULTS = min 0xFFFFFFFF (a.r Reg.flFLASH_FAULTS + 1))) ∧
    (a.accCheck o Reg.spiSPI_SEL (keySize Reg.spiSPI_SEL) v true = 0 →
      ((v = 2 ∨ v = 4 ∨ v = 8) → old = 0 → Gives (.spiSel dt o v) s fun t => t.od.rsp = ⟨0, 0, []⟩ ∧ t.r Reg.spiSPI_SEL = v ∧ t.flash.selSince = some a.up) ∧
      (v = 0 → (old = 2 ∨ old = 4 ∨ old = 8) → Gives (.spiSel dt o v) s fun t => t.od.rsp = ⟨0, 0, []⟩ ∧ t.r Reg.spiSPI_SEL = 0 ∧ t.flash.selSince = none ∧
        (x.shift.isSome = true → a.actBusy Reg.spiSPI_GO = true → end_ t (t.r Reg.spiSPI_RESULT) ∧ t.r Reg.spiSPI_RESULT % 256 = 1 ∧ t.r Reg.spiSPI_RX = 0)) ∧
      ((v ≠ 0 ∧ v ≠ 2 ∧ v ≠ 4 ∧ v ≠ 8) ∨ ((old = 2 ∨ old = 4 ∨ old = 8) ∧ v ≠ 0 ∧ v ≠ old) → Gives (.spiSel dt o v) s fun t =>
        t = { a with od := { a.od with rsp := ⟨0x15, 0, []⟩ } })) ∧
    (∀ t0, x.selSince = some t0 → (a.since t0 10000000 = false → Gives (.selTimeout dt) s (· = a)) ∧
      (a.since t0 10000000 = true → Gives (.selTimeout dt) s fun t => t.r Reg.spiSPI_SEL = 0 ∧ t.flash.selSince = none ∧ t.flash.shift = none ∧
        (x.shift = none ∨ a.actBusy Reg.spiSPI_GO = true → t.r Reg.spiSPI_RESULT % 256 = 3))) ∧
    (a.accCheck o Reg.spiSPI_GO (keySize Reg.spiSPI_GO) v true = 0 → Gives (.spiGo dt o v) s fun t => t.od.rsp = ⟨0, a.nextToken, []⟩ ∧
      (x.selSince = none → t.r Reg.spiSPI_RESULT = 2 ∧ t.actBusy Reg.spiSPI_GO = false ∧ t.flash = x) ∧
      (x.selSince.isSome = true → let n := a.r Reg.spiSPI_BITS; t.flash = { x with shift := some (n, a.r Reg.spiSPI_TX % 2 ^ n), shiftAt := a.up } ∧
        t.actBusy Reg.spiSPI_GO = true)) ∧
    (∀ n tx, x.shift = some (n, tx) → let ready := x.pollSince = none ∧ a.since x.shiftAt ((n + 2) * (5 * x.div)) = true;
      (¬ ready → Gives (.spiShiftDone dt miso) s (· = a)) ∧
      (ready → Gives (.spiShiftDone dt miso) s fun t => t.r Reg.spiSPI_RX = miso % 2 ^ n ∧ t.flash = { x with shift := none } ∧
        (a.actBusy Reg.spiSPI_GO = true → end_ t (256 * n))))

/-! ## Resets, start-up and life cycle -/

/-- A supply low for 1 us, RST_N low for 1 us, a watchdog not serviced for 250 ms, DEBUG_RESET and thermal recovery are wiping
resets with their causes; shorter excursions do nothing, nor do the watchdog and DEBUG_RESET while the orderly stop of causes 3 to 5
holds the device. A loss of VAO clears the retention register and the power of the drain clamps, too. A cut-off turns every
domain but PD00 off, counts, keeps the cause, and only 10 s at or below 95 degC end it. LC_REQ changes the state of the life cycle
where R575 allows it, and otherwise its result says why not. -/
def Obligations.ResetsAndLifeCycle : Prop :=
  ∀ (dt n v : Nat) (vao : Bool) (k : Fin 16) (ts : List Int) (o : Origin) (s : State), let a := s.advance dt; let f := a.fac.lifeCycle
    let hot := a.pwr.cutoff = true ∨ (a.r Reg.opDEVICE_STATE = 4 ∧ (a.r Reg.thmSTOP_CAUSE = 1 ∨ a.r Reg.thmSTOP_CAUSE = 2) ∧ a.pwr.stopOver = true)
    (n < 1000 → Gives (.powerOn dt vao n) s (· = a)) ∧
    (1000 ≤ n → (vao = false → Gives (.powerOn dt vao n) s fun t => Wiped a t 1) ∧
      (vao = true → Gives (.powerOn dt vao n) s fun t => t.ret = {} ∧ t.d2d.clamps = 0 ∧ t.fac = a.fac ∧ t.mem = {} ∧ t.heads = [] ∧
        (∀ j, j ∉ pairCounters → t.r j = State.reset.r j) ∧ t.pending = a.pending)) ∧
    (n < 100 → Gives (.rstN dt n) s (· = a)) ∧
    (1000 ≤ n → Gives (.rstN dt n) s fun t => Wiped a t 2 ∧ t.pwr.cutoff = a.pwr.cutoff) ∧
    (100 ≤ n → n < 1000 → Gives (.rstN dt n) s fun t => Wiped a t 2 ∨ t = { a with free := a.free + 1 }) ∧
    (a.boot.wdArmed = true ∧ a.since a.boot.wdLast 250000000 = true → a.stopHeld = false → Gives (.watchdog dt) s fun t => Wiped a t 3 ∧
      t.ret.watchdogs = min 0xFFFFFFFF (a.ret.watchdogs + 1)) ∧
    (a.boot.wdArmed = false ∨ a.since a.boot.wdLast 250000000 = false ∨ a.stopHeld = true → Gives (.watchdog dt) s (· = a)) ∧
    Gives (.watchdogService dt) s (fun t => t = if a.boot.wdArmed then { a with boot := { a.boot with wdLast := a.up } } else a) ∧
    (a.accCheck o Reg.dbgDEBUG_RESET (keySize Reg.dbgDEBUG_RESET) v true = 0 → Gives (.debugReset dt o v) s fun t =>
      (a.stopHeld = false → Wiped a t 7) ∧ (a.stopHeld = true → t.ret = a.ret ∧ t.banks = a.banks ∧ t.boot = a.boot)) ∧
    Gives (.cutoff dt k) s (fun t => t.pwr.cutoff = true ∧ t.r Reg.thmDOMAINS_UP = 1 ∧ t.ret = { a.ret with cutoffs := min 0xFFFFFFFF (a.ret.cutoffs + 1), cutoffOwed := true } ∧
      (∀ j, j ∉ Reg.thmDOMAINS_UP :: pairCounters → t.r j = State.reset.r j) ∧ t.fac = a.fac ∧ ∀ b, b < 24 → GatesOff t b) ∧
    (¬ hot → Gives (.thermalRecovery dt ts) s (· = a)) ∧
    (hot → ((∃ x ∈ ts, 950 < x) → Gives (.thermalRecovery dt ts) s fun t => t = { a with pwr := { a.pwr with recoverSince := none } }) ∧
      ((∀ x ∈ ts, x ≤ 950) → (a.pwr.recoverSince = none → Gives (.thermalRecovery dt ts) s fun t => t = { a with pwr := { a.pwr with recoverSince := some a.up } }) ∧
        ∀ t0, a.pwr.recoverSince = some t0 → (a.since t0 10000000000 = true → Gives (.thermalRecovery dt ts) s fun t => Wiped a t 8) ∧
          (a.since t0 10000000000 = false → Gives (.thermalRecovery dt ts) s (· = a)))) ∧
    (a.accCheck o Reg.lcLC_REQ (keySize Reg.lcLC_REQ) v true = 0 → Gives (.lcReq dt o v) s fun t => t.od.rsp = ⟨0, a.nextToken, []⟩ ∧
      let c := if v = 0 ∨ 3 < v then 1 else if ¬ ((f, v) ∈ [(0, 1), (0, 2), (1, 2), (1, 3), (2, 1), (2, 3)]) then 2
        else if a.r Reg.opDEVICE_STATE ≠ 1 then 3 else if v = 2 ∧ a.fac.ownerKey = none then 4
        else if f = 2 ∧ ¬ (o.src = 0x40 ∧ a.tap.unlocked = true) then 5 else 0;
      (c ≠ 0 → t.r Reg.lcLC_RESULT = c ∧ t.fac = a.fac ∧ t.actBusy Reg.lcLC_REQ = false) ∧
      (c = 0 → t.actBusy Reg.lcLC_REQ = true ∧ t.fac = { a.fac with
        lifeCycle := v, wipePending := true, transitions := min 255 (a.fac.transitions + 1)
        kFleet := if v = 3 then [] else a.fac.kFleet, ownerKey := if v = 3 then none else a.fac.ownerKey }))

/-- The release of the reset, 2 ms after the supplies at the earliest, samples PAIR_ID, brings PD00-PD03 up and goes on once rails 0-10 are inside their fault windows, wiping
the user area where a wipe is pending. NVM recovery ends step 1; a missing flash or a bad header stops with status 4 or 2. The
firmware arms the watchdog and starts training, or stops with status 3 for good. Training with 8 or more good subchannels leads to the wipe,
otherwise the next lower rate is tried, and below 4800 there is no DRAM. The wipe ends with START in the journal, in STANDBY at step 8, with the ring's lanes
in Stage A. 10 s without SYNCED raise an event; START_WAIT ends step 10. -/
def Obligations.StartUp : Prop :=
  ∀ (dt rdid : Nat) (ok : Bool) (id : Fin 2) (rails : List Nat) (r : List TrainIn) (s : State), let a := s.advance dt; let st := a.r Reg.rstSTART_STEP
    let bad := ∃ k, ∃ h : k < rails.length, k < 11 ∧ (100 * rails[k] < 92 * railNominal.getD k 0 ∨ 108 * railNominal.getD k 0 < 100 * rails[k])
    let one := fun (t : State) => (bad → t.r Reg.rstSTART_STEP = 0) ∧ (¬ bad → t.r Reg.rstSTART_STEP = 1 ∧ t.fac.wipePending = false ∧
      (a.fac.wipePending = true → ∀ j, 8192 ≤ j → tget nvmErased t.nvm.cells j = nvmErased))
    (a.boot.released = none → a.pwr.cutoff = false → a.since a.boot.supplyAt 2000000 = true → Gives (.resetRelease dt id rails) s fun t => t.boot.released = some a.up ∧ t.boot.status = 1 ∧
      t.r Reg.prPAIR_ID = id.val ∧ t.r Reg.thmDOMAINS_UP = 15 ∧ t.r Reg.nvmNVM_STATE = 0 ∧ one t) ∧
    (a.boot.released.isSome = true ∨ a.pwr.cutoff = true ∨ a.since a.boot.supplyAt 2000000 = false →
      Gives (.resetRelease dt id rails) s (· = a)) ∧
    (a.boot.released.isSome = true → st = 0 → Gives (.supplyRecheck dt rails) s fun t => one t ∧ (bad → t = a)) ∧
    (a.boot.released = none ∨ st ≠ 0 → Gives (.supplyRecheck dt rails) s (· = a)) ∧
    (let n := rdid % 2 ^ 24; let x := a.nvm.recover; (st ≠ 1 → Gives (.nvmRecoveryDone dt rdid ok) s (· = a)) ∧
      (st = 1 → Gives (.nvmRecoveryDone dt rdid ok) s fun t => t.r Reg.flFLASH_ID = n ∧ t.r Reg.nvmNVM_STATE = 1 ∧
        t.epoch = (x.nvm.data 0x02).elim 0 (fld 0 4) ∧ t.r Reg.tlyNEXT_SEQ = (x.nvm.data 0x01).elim 0 (fld 0 4) ∧
        t.pair.mode = decide (t.r Reg.prPAIR_MODE = 1) ∧ t.pair.authority = !t.pair.mode ∧
        (n = 0 ∨ n = 0xFFFFFF → t.r Reg.rstSTART_STEP = 2 ∧ t.boot.status = 4) ∧
        (n ≠ 0 → n ≠ 0xFFFFFF → (ok = false → t.r Reg.rstSTART_STEP = 2 ∧ t.boot.status = 2) ∧
          (ok = true → t.r Reg.rstSTART_STEP = 3 ∧ (t.r Reg.flFLASH_SIZE = 32 ∨ t.r Reg.flFLASH_SIZE = 64))))) ∧
    ((st ≠ 3 ∨ a.boot.status ≠ 1 → Gives (.firmwareStart dt ok) s (· = a)) ∧
      (st = 3 → a.boot.status = 1 → ok = false → Gives (.firmwareStart dt ok) s fun t => t = { a with boot := { a.boot with status := 3 } }) ∧
      (st = 3 → a.boot.status = 1 → ok = true → Gives (.firmwareStart dt ok) s fun t => t.r Reg.rstSTART_STEP = 4 ∧ t.r Reg.memMEM_STATE = 1 ∧
        t.mem.trainRate = a.r Reg.memRATE ∧ t.boot.wdArmed = true ∧ t.boot.wdLast = a.up ∧ t.boot.status = 0)) ∧
    (let mine := fun (d : Nat) => ∃ h : d < r.length, r[d].density ≠ 0 ∧ r[d].density = (r.head?.map (·.density)).getD 0;
      let good := (List.range r.length).filter fun d => (r[d]?).any fun x => decide (x.density ≠ 0 ∧ x.density = (r.head?.map (·.density)).getD 0 ∧
        a.r Reg.memEYE_MIN ≤ narrowest (fullEyes x.sweeps));
      (st ≠ 4 → Gives (.dramTrainingDone dt r) s (· = a)) ∧
      (st = 4 → r.length = 16 → (8 ≤ good.length → Gives (.dramTrainingDone dt r) s fun t => t.r Reg.rstSTART_STEP = 5 ∧ t.r Reg.memMEM_STATE = 2 ∧
          t.r Reg.memRATE_ACTIVE = a.mem.trainRate ∧ ∀ d, d < 16 → (t.rb Reg.memIN_SERVICE d = true ↔ d ∈ good) ∧
            (d ∈ good → mine d ∧ (t.subCh d).eyes = fullEyes ((r[d]?).map (·.sweeps) |>.getD []))) ∧
        (good.length < 8 → (∀ k, lowerRate a.mem.trainRate = some k → Gives (.dramTrainingDone dt r) s fun t =>
            t = { a with mem := { a.mem with trainRate := k } } ∧ k < a.mem.trainRate) ∧
          (a.mem.trainRate ≤ 4800 → Gives (.dramTrainingDone dt r) s fun t => t.r Reg.rstSTART_STEP = 5 ∧ t.r Reg.memMEM_STATE = 0 ∧
            t.r Reg.memFAIL_CAUSE = 1 ∧ t.r Reg.memIN_SERVICE = 0 ∧ t.r Reg.memRATE_ACTIVE = a.r Reg.memRATE_ACTIVE)))) ∧
    ((st ≠ 5 → GivesBoot (.dramWipeDone dt) s (· = a)) ∧
      (st = 5 → GivesBoot (.dramWipeDone dt) s fun u => u.r Reg.opDEVICE_STATE = 1 ∧ u.r Reg.rstSTART_STEP = 8 ∧ u.boot.standbyAt = a.up ∧
        u.r Reg.tlyLIFE_START_SEQ = a.r Reg.tlyNEXT_SEQ ∧ u.tly.awaits = false ∧
        (a.boot.released.isSome = true → a.pwr.cutoff = false → a.pwr.stopOver = false → ∀ l, 80 ≤ l → l < 88 → u.laneState l = 1) ∧ (u.r Reg.suBOOT_TARGET = 1 → u.boot.arrived = true))) ∧
    (let late := st = 8 ∧ a.boot.arrived = false ∧ a.boot.waitRaised = false ∧ a.r Reg.timeTIME_STATE ≠ 2 ∧ a.since a.boot.standbyAt 10000000000 = true;
      (late → Gives (.startTimeWait dt) s fun t => t.boot = { a.boot with waitRaised := true }) ∧ (¬ late → Gives (.startTimeWait dt) s (· = a))) ∧
    (let due := st = 10 ∧ a.boot.arrived = false ∧ a.pwr.target = none ∧ a.since a.boot.readyAt (1000000 * a.r Reg.suSTART_WAIT) = true;
      (¬ due → GivesBoot (.startWaitExpired dt) s (· = a)) ∧
      (due → a.r Reg.opDEVICE_STATE = 2 → GivesBoot (.startWaitExpired dt) s fun u => u.r Reg.opDEVICE_STATE = 3 ∨ u.pwr.target = some 3))

/-! ## The debug port, actions and events -/

/-- Each instruction selects its code; TRST_N and test-logic reset select IDCODE; IDCODE captures 0x13219A97, SAMPLE/PRELOAD the
pins, DBG_STATUS life cycle, lock and boot status. EXTEST, CLAMP and HIGHZ are available outside DEPLOYED with PD19 down and act as
BYPASS otherwise; DBG_UNLOCK does nothing outside DEPLOYED. While the port is locked DBG_OBJ and DBG_MEM capture DENIED and do
nothing. -/
def Obligations.TapInstructions : Prop :=
  ∀ (dt i sub len off v : Nat) (sp : Fin 4) (inc : Bool) (pins update : List Bool) (resp : Bytes) (s : State), let a := s.advance dt; let x := a.tap
    let sel := fun (c : Instr) (y : Tap) => Gives c s fun t => t = { a with tap := y }
    let bypass : Tap := { x with ir := 0xFF, floating := false, bypass := false }
    let avail := a.fac.lifeCycle ≠ 2 ∧ a.domUp 19 = false
    let lock := if a.fac.lifeCycle ≠ 2 then 0 else if x.unlocked then 2 else if x.lockout.any (fun t => decide (a.up < t)) then 3 else 1
    sel (.tapReset dt) { x with ir := 0x01, floating := false } ∧
    sel (.idcode dt) { x with ir := 0x01, floating := false, dr := 0x13219A97 } ∧
    sel (.samplePreload dt pins update) { x with ir := 0x02, floating := false, pins := pins, update := update } ∧
    sel (.dbgStatus dt) { x with ir := 0x12, floating := false, dr := a.fac.lifeCycle + 256 * lock + 65536 * a.boot.status } ∧
    sel (.bypass dt) bypass ∧
    (avail → sel (.extest dt pins update) { x with ir := 0x03, floating := false, pins := pins, update := update } ∧
      sel (.clamp dt) { x with ir := 0x04, floating := false, bypass := false } ∧ sel (.highz dt) { x with ir := 0x05, floating := true, bypass := false }) ∧
    (¬ avail → sel (.extest dt pins update) bypass ∧ sel (.clamp dt) bypass ∧ sel (.highz dt) bypass) ∧
    (a.fac.lifeCycle ≠ 2 → sel (.dbgUnlock dt resp) { x with ir := 0x13, floating := false }) ∧
    (lock = 1 ∨ lock = 3 →
      (∀ c ∈ [Instr.dbgObjRead dt i sub, .dbgObjWrite dt i sub len v, .dbgObjBlockRead dt i sub len off, .dbgObjBlockStage dt len off v,
        .dbgObjBlockApply dt i sub off], sel c { x with ir := 0x10, floating := false, objStatus := 0x18, objToken := 0 }) ∧
      ∀ c ∈ [Instr.dbgMemRead dt sp i inc, .dbgMemWrite dt sp i inc v], sel c { x with ir := 0x11, floating := false, memStatus := 0x18 })

/-- In DEPLOYED a matching response unlocks the port and clears the count; a mismatch counts, and the third in a row locks out for
60 s, in which responses are ignored. DBG_RELOCK locks again. DBG_OBJ reads and writes objects with the statuses of those accesses,
reads blocks, stages bytes and applies them by one block write; DBG_MEM reads NVM and table memory, writes DRAM and pool, and
answers RANGE, READ_ONLY, and MEM_ERROR where the block is down or lost, which resets the device where both copies of region 3 are. STEP_PIPES, STEP_STATIONS and STEP_TICK act on halted blocks only. -/
def Obligations.DebugAccess : Prop :=
  ∀ (dt i sub len off v addr : Nat) (sp : Fin 4) (inc : Bool) (resp : Bytes) (o : Origin) (s : State), let a := s.advance dt; let x := a.tap
    let key := 256 * i + sub; let w : Origin := ⟨0x40, a.epoch⟩; let acc := fun k => a.accCheck o k (keySize k) v true = 0; let tok := a.nextToken
    let sel := fun (c : Instr) (y : Tap) => Gives c s fun t => t = { a with tap := y }
    (a.fac.lifeCycle = 2 → let y : Tap := { x with ir := 0x13, floating := false, dr := leNat x.challenge };
      (a.dbgLock = 3 → sel (.dbgUnlock dt resp) y) ∧
      (a.dbgLock ≠ 3 → (a.unlockWord = some resp → Gives (.dbgUnlock dt resp) s fun t => t.tap.unlocked = true ∧ t.ret.unlockFails = 0 ∧
          t.tap.dr = leNat x.challenge ∧ t.dbgLock = 2) ∧
        (a.unlockWord ≠ some resp → Gives (.dbgUnlock dt resp) s fun t => t.tap.unlocked = x.unlocked ∧
          t.ret.unlockFails = min 255 (a.ret.unlockFails + 1) ∧ t.tap.lockout = if 2 ≤ a.ret.unlockFails then some (a.up + 60000000000) else x.lockout))) ∧
    (∀ t0, x.lockout = some t0 → if t0 ≤ a.up then sel (.unlockLockoutEnd dt) { x with lockout := none } else Gives (.unlockLockoutEnd dt) s (· = a)) ∧
    (acc Reg.dbgDBG_RELOCK → Gives (.dbgRelock dt o v) s fun t => t.od.rsp = ⟨0, tok, []⟩ ∧ t.tap.unlocked = false) ∧
    (a.dbgOpen = true → let y : Tap := { x with ir := 0x10, floating := false };
      (x.objStatus = 0xFE → ∀ c ∈ [Instr.dbgObjRead dt i sub, .dbgObjWrite dt i sub len v, .dbgObjBlockRead dt i sub len off, .dbgObjBlockStage dt len off v,
        .dbgObjBlockApply dt i sub off], sel c y) ∧
      (x.objStatus ≠ 0xFE → let r := a.readObj 0x40 key; let b := a.readBlock 0x40 key off len; let n := if len ≤ 8 then v % 256 ^ len else v;
        let act := (rowAt key).any (fun r => r.acc = .act); let st := a.accCheck w key len n (act || a.relOk (a.w key n) key);
        let d := tgetRun 0 x.staging 0 (min off 65536); let bst := a.blockCheck w key 0 d.length;
        let z3 := y.objSet { op := 3, index := some i, sub := some sub, len := some len, off := some off };
        let z4 := y.objSet { op := 4, len := some len, off := some off, data := some v };
        Gives (.dbgObjRead dt i sub) s (· = { a.toADie key with tap := { y.objSet { op := 1, index := some i, sub := some sub } with objStatus := r.1, objToken := r.2.1, objData := leNat (r.2.2.take 8) } }) ∧
        (st ≠ 0 → GivesDone (.dbgObjWrite dt i sub len v) s fun u => u.tap.objStatus = st ∧ u.regs = a.regs) ∧
        (st = 0 → act = false → a.admits key n = false → GivesDone (.dbgObjWrite dt i sub len v) s fun u => u.tap.objStatus = 0 ∧
          (key = Reg.timeSYNC_EXPECT → u.r key = n)) ∧
        (len = 0 ∨ 8 < len → sel (.dbgObjBlockRead dt i sub len off) { z3 with objStatus := 0x16, objToken := 0 }) ∧
        (1 ≤ len → len ≤ 8 → sel (.dbgObjBlockRead dt i sub len off)
          { z3 with objStatus := b.1, objToken := 0, objData := leNat b.2, objOffset := off + b.2.length }) ∧
        (len = 0 ∨ 8 < len ∨ 65536 < off + len → sel (.dbgObjBlockStage dt len off v) { z4 with objStatus := 0x16, objToken := 0 }) ∧
        (1 ≤ len → len ≤ 8 → off + len ≤ 65536 → Gives (.dbgObjBlockStage dt len off v) s fun t => t.tap.objStatus = 0 ∧ t.tap.objOffset = off + len ∧
          tgetRun 0 t.tap.staging off len = leBytes len v ∧ ∀ j, j < off ∨ off + len ≤ j → tget 0 t.tap.staging j = tget 0 x.staging j) ∧
        ∃ u : State, exec (.dbgObjBlockApply dt i sub off) s = .next (if (rowAt key).any fun r => decide (r.ty ≠ .block) then u.done
            else { u.done with tap := { u.done.tap with objOffset := 0 } }) ∧
          (bst ≠ 0 → u.tap.objStatus = bst ∧ u.regs = a.regs) ∧ (bst = 0 → u.tap.objStatus = (a.blockPut key 0 d).1))) ∧
    (a.dbgOpen = true → let b := addr % 2 ^ 40 / 8 * 8; let y : Nat → Tap := fun op =>
        { x with ir := 0x11, floating := false, memOp := op, memInc := inc, memSpace := sp };
      let ok : Nat → Tap := fun op => { y op with memStatus := 0, memAddr := if inc then (b + 8) % 2 ^ 40 else b };
      let err : Nat → Tap := fun code => { y 2 with memStatus := code, memAddr := addr % 2 ^ 40, memData := v % 2 ^ 64 };
      (a.memEnd sp b ≤ b → sel (.dbgMemRead dt sp addr inc) { y 1 with memStatus := 0x02, memAddr := addr % 2 ^ 40, memData := 0 }) ∧
      (b < 524288 → sp.val = 3 → sel (.dbgMemRead dt sp addr inc)
        { ok 1 with memData := if b < 2048 then 0 else leNat (tgetRun nvmErased (a.nvm.seen (b / 256)) b 8) }) ∧
      (b < 2621440 → sp.val = 2 → sel (.dbgMemRead dt sp addr inc)
        { ok 1 with memData := fld (b % 32768) 8 (padTo 32768 (tget [] a.rad (b / 32768))) }) ∧
      (2 ≤ sp.val → sel (.dbgMemWrite dt sp addr inc v) (err 0x12)) ∧
      (sp.val < 2 → a.memEnd sp b ≤ b → sel (.dbgMemWrite dt sp addr inc v) (err 0x02)) ∧
      (sp.val < 2 → b < a.memEnd sp b → a.memDown sp b = true →
        sel (.dbgMemWrite dt sp addr inc v) { err 0x20 with memAddr := b } ∧
        Gives (.dbgMemRead dt sp addr inc) s fun t => t.tap.memStatus = 0x20 ∧ t.tap.memAddr = b ∧ t.mem = a.mem ∧ t.regs = a.regs) ∧
      (sp.val = 0 → b < a.memEnd 0 b → a.memDown 0 b = false → let ds := (a.dramPlace (b / 2 ^ 38) (b % 2 ^ 38)).1;
        (∀ d l, a.dramCopy b = (some d, l) →
          let in_ := fun (j : Nat) => ∃ e, e ∈ ds ∧ a.rb Reg.memIN_SERVICE e = true ∧ e * 2 ^ 33 + l ≤ j ∧ j < e * 2 ^ 33 + l + 8;
          (Gives (.dbgMemWrite dt sp addr inc v) s fun t => t.tap = { ok 2 with memData := v % 2 ^ 64 } ∧
            t = { a with tap := t.tap, mem := { a.mem with dram := t.mem.dram, dramSet := t.mem.dramSet, check := t.mem.check } } ∧
            (∀ e, e ∈ ds → a.rb Reg.memIN_SERVICE e = true →
              tgetRun 0 t.mem.dram (e * 2 ^ 33 + l) 8 = leBytes 8 v) ∧
            ∀ j, (in_ j → tget false t.mem.dramSet j = true) ∧
              (¬ in_ j → tget 0 t.mem.dram j = tget 0 a.mem.dram j ∧ tget false t.mem.dramSet j = tget false a.mem.dramSet j)) ∧
          ((∀ j, j < 8 → tget false a.mem.dramSet (d * 2 ^ 33 + l + j) = true) → Gives (.dbgMemRead dt sp addr inc) s fun t =>
            t.tap = { ok 1 with memData := leNat (tgetRun 0 a.mem.dram (d * 2 ^ 33 + l) 8) } ∧ t.mem = a.mem ∧ t.regs = a.regs)) ∧
        ((a.dramCopy b).1 = none →
          (b / 2 ^ 38 ≠ 3 → (Gives (.dbgMemWrite dt sp addr inc v) s fun t =>
              t.tap = { err 0x20 with memAddr := b } ∧ t.mem.dram = a.mem.dram) ∧
            (Gives (.dbgMemRead dt sp addr inc) s fun t => t.tap.memStatus = 0x20 ∧ t.tap.memAddr = b ∧ t.mem.dram = a.mem.dram)) ∧
          (b / 2 ^ 38 = 3 → a.stopHeld = false → (∃ e ∈ ds, a.rb Reg.memIN_SERVICE e = true) →
            Gives (.dbgMemWrite dt sp addr inc v) s (fun t => Wiped a t 5) ∧ Gives (.dbgMemRead dt sp addr inc) s fun t => Wiped a t 5))) ∧
      (sp.val = 1 → b < 33554432 → a.domUp 15 = true → a.slotOwner (b / 4194304) = none → Gives (.dbgMemWrite dt sp addr inc v) s fun t =>
        t.tap = { ok 2 with memData := v % 2 ^ 64 } ∧ tgetRun 0 t.mem.pool b 8 = leBytes 8 v)) ∧
    (acc Reg.dbgSTEP_PIPES → Gives (.stepPipes dt o v) s fun t => t.od.rsp = ⟨0, tok, []⟩ ∧ let all_ := (List.range 32).all fun h => !bit h v || a.rb Reg.dbgHALTED_PIPES h;
      t.r Reg.dbgSTEP_RESULT = (if v = 0 then 2 else if all_ = true then 0 else 1) ∧
      t.boot.stepPipes = if v ≠ 0 ∧ all_ = true then a.boot.stepPipes ||| v else a.boot.stepPipes) ∧
    (acc Reg.dbgSTEP_STATIONS → Gives (.stepStations dt o v) s fun t => t.od.rsp = ⟨0, tok, []⟩ ∧
      let all_ := (List.range 8).all fun h => !bit h v || a.rb Reg.dbgHALTED_STATIONS h; t.r Reg.dbgSTEP_RESULT = (if v = 0 then 2 else if all_ = true then 0 else 1) ∧
      ∀ h, h < 8 → tget 0 t.boot.stepStations h = if all_ = true ∧ bit h v = true then a.presentHeads h else tget 0 a.boot.stepStations h) ∧
    (acc Reg.dbgSTEP_TICK → Gives (.stepTick dt o v) s fun t => t.od.rsp = ⟨0, tok, []⟩ ∧
      t.r Reg.dbgSTEP_RESULT = (if a.r Reg.dbgZONES_HALTED = 0 then 1 else 0) ∧ t.boot.stepTick = (a.boot.stepTick || decide (a.r Reg.dbgZONES_HALTED ≠ 0)))

/-- While a request of an ACT object is executing, a further write of that object returns 0x1A with the running request's token and
changes nothing else; a write whose checks pass finds the object idle, and accepting it leaves the requests of every other ACT
object as they are. -/
def Obligations.ActBusy : Prop :=
  ∀ (dt v : Nat) (b : Fin 24) (n : Fin 192) (h : Fin 32) (l : Fin 96) (d : Fin 16) (i : Fin 4) (o : Origin) (s : State), let a := s.advance dt
    let busy := fun k => { a with od := { a.od with rsp := ⟨0x1A, (a.act k).tok, []⟩ } }
    let chk := fun k x => a.accCheck o k (keySize k) x true
    (∀ e ∈ [(Instr.arm dt b o, Reg.bkARM b, 1), (.disarm dt b o, Reg.bkARM b, 0), (.testPulse dt n o v, Reg.chTEST_PULSE n, v),
        (.diagClear dt n o v, Reg.chdDIAG_CLEAR n, v), (.bankDiagClear dt b o v, Reg.bdgBANK_DIAG_CLEAR b, v), (.dbgRelock dt o v, Reg.dbgDBG_RELOCK, v),
        (.stepPipes dt o v, Reg.dbgSTEP_PIPES, v), (.stepStations dt o v, Reg.dbgSTEP_STATIONS, v), (.stepTick dt o v, Reg.dbgSTEP_TICK, v),
        (.rebind dt h o v, Reg.hdREBIND h, v), (.commit dt h o v, Reg.hsCOMMIT h, v), (.tauCommit dt h o v, Reg.pcTAU_COMMIT h, v),
        (.persistClear dt h o v, Reg.pcPERSIST_CLEAR h, v), (.foldNow dt h o v, Reg.hlFOLD_NOW h, v), (.bitSlip dt i o v, Reg.auxBIT_SLIP i, v),
        (.captureArm dt i o v, Reg.auxCAPTURE_ARM i, v), (.subchannelRetrain dt d o v, Reg.subRETRAIN d, v), (.handover dt o v, Reg.prHANDOVER, v),
        (.calNow dt o v, Reg.calCAL_NOW, v), (.ringJoin dt o v, Reg.nodeRING_JOIN, v), (.debugReset dt o v, Reg.dbgDEBUG_RESET, v),
        (.lcReq dt o v, Reg.lcLC_REQ, v), (.configSave dt o v, Reg.cfgCONFIG_SAVE, v), (.configClear dt o v, Reg.cfgCONFIG_CLEAR, v),
        (.spiGo dt o v, Reg.spiSPI_GO, v)],
      (chk e.2.1 e.2.2 = 0x1A → a.actBusy e.2.1 = true ∧ Gives e.1 s (· = busy e.2.1)) ∧
      (chk e.2.1 e.2.2 = 0 → a.actBusy e.2.1 = false)) ∧
    (chk (Reg.laneRETRAIN l) v = 0x1A → GivesDone (.laneRetrain dt l o v) s (· = busy (Reg.laneRETRAIN l))) ∧
    (chk Reg.opSTATE_REQ v = 0x1A → GivesBoot (.stateReq dt o v) s (· = busy Reg.opSTATE_REQ)) ∧
    ∀ src k x len, (a.actStart src k x len).actBusy k = true ∧ ∀ j, j ≠ k → (a.actStart src k x len).act j = a.act j

/-- An event within EVENT_HOLDOFF ms of the last logged one of its code and instance is neither logged nor sent; it raises the count
of merged ones. The next that is logged carries that count, at most 65,535, which starts again at 0; it gets the next EVENT_SEQ, and
leaves as an EVENT frame to node 0 exactly while EVENT_ENABLE is 1. -/
def Obligations.EventHoldOff : Prop :=
  ∀ (code inst data : Nat) (s : State), inst < 65536 → let k := code * 65536 + inst; let t := s.event code inst data
    let hold := fun (u : State) => tget none (u.od.holds.map fun e => (e.1, some e.2)) k
    let held := fun (x : Hold) => s.up < x.at_ + s.r Reg.evEVENT_HOLDOFF * 1000000
    (∀ x, hold s = some x → held x → t = { s with od := { s.od with holds := t.od.holds } } ∧ hold t = some ⟨x.at_, x.merged + 1⟩) ∧
    ((∀ x, hold s = some x → ¬ held x) → let n := ((hold s).map Hold.merged).getD 0; let seq := (s.r Reg.evEVENT_SEQ + 1) % 2 ^ 32;
      let e : Evt := ⟨seq, code, inst, data, min 65535 n, s.now⟩;
      t.od.log = (e :: s.od.log).take 256 ∧ t.r Reg.evEVENT_SEQ = seq ∧ SameRegsBut s t [Reg.evEVENT_SEQ] ∧ hold t = some ⟨s.up, 0⟩ ∧
        (s.r Reg.evEVENT_ENABLE = 1 → NewestOwn t 0x60 0 e.bytes) ∧ (s.r Reg.evEVENT_ENABLE ≠ 1 → t.ring = s.ring)) ∧
    ∀ c j, j < 65536 → c * 65536 + j ≠ k → tget none (t.od.holds.map fun e => (e.1, some e.2)) (c * 65536 + j) = tget none (s.od.holds.map fun e => (e.1, some e.2)) (c * 65536 + j)
end

