-- ==== Sys2Proof/Laws/Tables.lean ====
section
/-! SUPPORT. The sparse tables: reading what was written, and the canonical form that every table operation keeps. -/

namespace Sys2Proof.Machine

theorem tget_tins {α : Type} (d x : α) (t : List (Nat × α)) (k j : Nat) (h : ∀ e ∈ t, e.1 ≠ k) :
    tget d (tins k x t) j = if j = k then x else tget d t j := by
  induction t with
  | nil => simp [tins, tget, eq_comm]
  | cons e t ih =>
    obtain ⟨i, y⟩ := e
    have hi : i ≠ k := h (i, y) (by simp)
    have ht := ih fun e he => h e (by simp [he])
    unfold tins
    split
    · simp [tget, eq_comm]
    · simp only [tget]
      by_cases hij : i = j
      · subst hij; simp [hi]
      · simp [hij, ht]

theorem tdel_sublist {α : Type} (k : Nat) (t : List (Nat × α)) : (tdel k t).Sublist t := by
  induction t with
  | nil => exact List.Sublist.slnil
  | cons e t ih =>
    unfold tdel
    split
    · exact ih.cons _
    · exact ih.cons_cons _

theorem tdel_ne {α : Type} (t : List (Nat × α)) (k : Nat) : ∀ e ∈ tdel k t, e.1 ≠ k := by
  induction t with
  | nil => simp [tdel]
  | cons e t ih =>
    unfold tdel
    split
    · exact ih
    · intro x hx
      rcases List.mem_cons.1 hx with rfl | hx
      · assumption
      · exact ih x hx

theorem tget_tdel {α : Type} (d : α) (t : List (Nat × α)) (k j : Nat) : tget d (tdel k t) j = if j = k then d else tget d t j := by
  induction t with
  | nil => simp [tdel, tget]
  | cons e t ih =>
    obtain ⟨i, y⟩ := e
    by_cases hik : i = k
    · subst hik
      by_cases hij : j = i
      · rw [if_pos hij, tdel, if_pos rfl, ih, if_pos hij]
      · simp [tdel, tget, ih, hij, Ne.symm hij]
    · by_cases hij : i = j
      · subst hij; simp [tdel, tget, hik]
      · simp [tdel, tget, hik, hij, ih]

/-- Reading after a write: the written key gives the value written, every other key what it gave. -/
@[simp] theorem tget_tset {α : Type} [DecidableEq α] (d : α) (t : List (Nat × α)) (k : Nat) (x : α) (j : Nat) :
    tget d (tset d t k x) j = if j = k then x else tget d t j := by
  unfold tset
  split
  · subst_vars; rw [tget_tdel]
  · rw [tget_tins _ _ _ _ _ (tdel_ne t k), tget_tdel]
    split <;> simp_all

/-- A key that was not written reads as before, whatever default the read uses. -/
theorem tget_tset_ne {α : Type} [DecidableEq α] (d d' : α) (t : List (Nat × α)) (k : Nat) (x : α) (j : Nat) (h : j ≠ k) :
    tget d (tset d' t k x) j = tget d t j := by
  unfold tset
  split
  · rw [tget_tdel, if_neg h]
  · rw [tget_tins _ _ _ _ _ (tdel_ne t k), if_neg h, tget_tdel, if_neg h]

/-- Reading after a run of writes. -/
theorem tget_tsetRun {α : Type} [DecidableEq α] (d : α) (xs : List α) (t : List (Nat × α)) (k j : Nat) :
    tget d (tsetRun d t k xs) j = if k ≤ j ∧ j < k + xs.length then xs.getD (j - k) d else tget d t j := by
  induction xs generalizing t k with
  | nil => simp only [tsetRun, List.length_nil]; split
           · omega
           · rfl
  | cons x xs ih =>
    simp only [tsetRun, ih, tget_tset, List.length_cons]
    by_cases h : j = k
    · subst h; simp
    · by_cases h2 : k + 1 ≤ j ∧ j < k + 1 + xs.length
      · have h3 : k ≤ j ∧ j < k + (xs.length + 1) := by omega
        have h4 : j - k = (j - (k + 1)) + 1 := by omega
        simp [h2, h3, h4]
      · have h3 : ¬ (k ≤ j ∧ j < k + (xs.length + 1)) := by omega
        rw [if_neg h2, if_neg h3, if_neg h]

theorem tget_tkeep {α : Type} (d : α) (p : Nat → Bool) (t : List (Nat × α)) (j : Nat) :
    tget d (tkeep p t) j = if p j then tget d t j else d := by
  induction t with
  | nil => simp [tkeep, tget]
  | cons e t ih =>
    obtain ⟨i, y⟩ := e
    simp only [tkeep] at ih ⊢
    by_cases hp : p i
    · simp only [List.filter_cons, hp, if_true, tget, ih]
      by_cases hij : i = j
      · subst hij; simp [hp]
      · simp [hij]
    · simp only [List.filter_cons, hp, tget]
      by_cases hij : i = j
      · subst hij; simp [hp, ih]
      · simp [hij, ih]

/-! ## The canonical form -/

theorem tsorted_pairwise {α : Type} (t : List (Nat × α)) : tsorted t = true ↔ t.Pairwise fun a b => a.1 < b.1 := by
  induction t with
  | nil => simp [tsorted]
  | cons a t ih =>
    cases t with
    | nil => simp [tsorted]
    | cons b t =>
      simp only [tsorted, Bool.and_eq_true, decide_eq_true_eq, ih, List.pairwise_cons]
      constructor
      · rintro ⟨h, hb, ht⟩
        refine ⟨fun e he => ?_, hb, ht⟩
        rcases List.mem_cons.1 he with rfl | he
        · exact h
        · exact Nat.lt_trans h (hb e he)
      · rintro ⟨h, hb, ht⟩
        exact ⟨h b (by simp), hb, ht⟩

theorem twf_iff {α : Type} [DecidableEq α] (d : α) (t : List (Nat × α)) :
    twf d t = true ↔ (t.Pairwise fun a b => a.1 < b.1) ∧ ∀ e ∈ t, e.2 ≠ d := by
  simp [twf, tsorted_pairwise]

theorem tins_mem {α : Type} (k : Nat) (x : α) (t : List (Nat × α)) (e : Nat × α) : e ∈ tins k x t ↔ e = (k, x) ∨ e ∈ t := by
  induction t with
  | nil => simp [tins]
  | cons a t ih =>
    unfold tins
    split
    · simp
    · simp only [List.mem_cons, ih]; tauto

theorem tins_pairwise {α : Type} (k : Nat) (x : α) (t : List (Nat × α)) (h : t.Pairwise fun a b => a.1 < b.1) (hk : ∀ e ∈ t, e.1 ≠ k) :
    (tins k x t).Pairwise fun a b => a.1 < b.1 := by
  induction t with
  | nil => simp [tins]
  | cons a t ih =>
    obtain ⟨i, y⟩ := a
    rw [List.pairwise_cons] at h
    unfold tins
    split
    · rename_i hlt
      refine List.pairwise_cons.2 ⟨fun e he => ?_, List.pairwise_cons.2 h⟩
      rcases List.mem_cons.1 he with rfl | he
      · exact hlt
      · exact Nat.lt_trans hlt (h.1 e he)
    · rename_i hge
      have hne : i ≠ k := hk (i, y) (by simp)
      refine List.pairwise_cons.2 ⟨fun e he => ?_, ih h.2 fun e he => hk e (by simp [he])⟩
      rcases (tins_mem k x t e).1 he with rfl | he
      · simp only; omega
      · exact h.1 e he

/-- A write keeps the canonical form. -/
theorem tset_twf {α : Type} [DecidableEq α] (d : α) (t : List (Nat × α)) (k : Nat) (x : α) (h : twf d t = true) :
    twf d (tset d t k x) = true := by
  rw [twf_iff] at h ⊢
  have hd : (tdel k t).Pairwise fun a b => a.1 < b.1 := h.1.sublist (tdel_sublist k t)
  unfold tset
  split
  · exact ⟨hd, fun e he => h.2 e ((tdel_sublist k t).subset he)⟩
  · refine ⟨tins_pairwise _ _ _ hd (tdel_ne t k), fun e he => ?_⟩
    rcases (tins_mem _ _ _ _).1 he with rfl | he
    · assumption
    · exact h.2 e ((tdel_sublist k t).subset he)

theorem tsetRun_twf {α : Type} [DecidableEq α] (d : α) (xs : List α) (t : List (Nat × α)) (k : Nat) (h : twf d t = true) :
    twf d (tsetRun d t k xs) = true := by
  induction xs generalizing t k with
  | nil => exact h
  | cons x xs ih => exact ih _ _ (tset_twf d t k x h)

theorem tkeep_twf {α : Type} [DecidableEq α] (d : α) (p : Nat → Bool) (t : List (Nat × α)) (h : twf d t = true) :
    twf d (tkeep p t) = true := by
  rw [twf_iff] at h ⊢
  exact ⟨h.1.sublist List.filter_sublist, fun e he => h.2 e (List.mem_of_mem_filter he)⟩

/-- Every NVM operation keeps the canonical form of the cells. -/
theorem nvmOp_twf (o : NvmOp) (c : List Host.Cell) (h : twf nvmErased c = true) : twf nvmErased (o.apply c) = true := by
  cases o with
  | page p d => exact tsetRun_twf _ _ _ _ h
  | cell p bs =>
    unfold NvmOp.apply
    induction bs generalizing c with
    | nil => exact h
    | cons b bs ih => exact ih _ (tset_twf _ _ _ _ h)

/-- Every flash operation keeps the canonical form of the cells. -/
theorem flashOp_twf (o : FlashOp) (c : List Host.Cell) (h : twf nvmErased c = true) : twf nvmErased (o.apply c) = true := by
  cases o with
  | erase a => unfold FlashOp.apply; exact tkeep_twf nvmErased _ c h
  | program a d => exact tsetRun_twf nvmErased _ c a h

/-- Carrying out a list of NVM operations keeps the canonical form. -/
theorem nvmOps_twf (l : List NvmOp) (c : List Host.Cell) (h : twf nvmErased c = true) :
    twf nvmErased (l.foldl (fun m o => o.apply m) c) = true := by
  induction l generalizing c with
  | nil => exact h
  | cons o l ih => exact ih _ (nvmOp_twf o c h)

/-- Writing entries one by one keeps the canonical form. -/
theorem foldl_tset_twf {α β : Type} [DecidableEq α] (d : α) (key : β → Nat) (val : β → α) (l : List β) (t : List (Nat × α))
    (h : twf d t = true) : twf d (l.foldl (fun m e => tset d m (key e) (val e)) t) = true := by
  induction l generalizing t with
  | nil => exact h
  | cons e l ih => exact ih _ (tset_twf d t _ _ h)

/-- The copy of region 3 keeps the canonical form (R355). -/
theorem mirrorCopy_twf {α : Type} [DecidableEq α] (d : α) (src dst : Nat) (t : List (Nat × α)) (h : twf d t = true) :
    twf d (mirrorCopy d src dst t) = true := foldl_tset_twf d _ _ _ _ (tkeep_twf d _ t h)

end Sys2Proof.Machine
end

