-- ==== Sys2Proof/Laws/State.lean ====
section
/-! SUPPORT. The state under its updates: one lemma for each field that an update leaves alone, and what registers and units read as
after a write. -/

namespace Sys2Proof.Machine

/-! w -/

@[simp] theorem State.w_pending (s : State) (k v : Nat) : (s.w k v).pending = s.pending := rfl
@[simp] theorem State.w_clk (s : State) (k v : Nat) : (s.w k v).clk = s.clk := rfl
@[simp] theorem State.w_free (s : State) (k v : Nat) : (s.w k v).free = s.free := rfl
@[simp] theorem State.w_blobs (s : State) (k v : Nat) : (s.w k v).blobs = s.blobs := rfl
@[simp] theorem State.w_od (s : State) (k v : Nat) : (s.w k v).od = s.od := rfl
@[simp] theorem State.w_tly (s : State) (k v : Nat) : (s.w k v).tly = s.tly := rfl
@[simp] theorem State.w_nvm (s : State) (k v : Nat) : (s.w k v).nvm = s.nvm := rfl
@[simp] theorem State.w_flash (s : State) (k v : Nat) : (s.w k v).flash = s.flash := rfl
@[simp] theorem State.w_fac (s : State) (k v : Nat) : (s.w k v).fac = s.fac := rfl
@[simp] theorem State.w_ret (s : State) (k v : Nat) : (s.w k v).ret = s.ret := rfl
@[simp] theorem State.w_tap (s : State) (k v : Nat) : (s.w k v).tap = s.tap := rfl
@[simp] theorem State.w_boot (s : State) (k v : Nat) : (s.w k v).boot = s.boot := rfl
@[simp] theorem State.w_pair (s : State) (k v : Nat) : (s.w k v).pair = s.pair := rfl
@[simp] theorem State.w_ptx (s : State) (k v : Nat) : (s.w k v).ptx = s.ptx := rfl
@[simp] theorem State.w_pwr (s : State) (k v : Nat) : (s.w k v).pwr = s.pwr := rfl
@[simp] theorem State.w_ring (s : State) (k v : Nat) : (s.w k v).ring = s.ring := rfl
@[simp] theorem State.w_heads (s : State) (k v : Nat) : (s.w k v).heads = s.heads := rfl
@[simp] theorem State.w_hrx (s : State) (k v : Nat) : (s.w k v).hrx = s.hrx := rfl
@[simp] theorem State.w_hout (s : State) (k v : Nat) : (s.w k v).hout = s.hout := rfl
@[simp] theorem State.w_pipes (s : State) (k v : Nat) : (s.w k v).pipes = s.pipes := rfl
@[simp] theorem State.w_folds (s : State) (k v : Nat) : (s.w k v).folds = s.folds := rfl
@[simp] theorem State.w_px (s : State) (k v : Nat) : (s.w k v).px = s.px := rfl
@[simp] theorem State.w_rad (s : State) (k v : Nat) : (s.w k v).rad = s.rad := rfl
@[simp] theorem State.w_xp (s : State) (k v : Nat) : (s.w k v).xp = s.xp := rfl
@[simp] theorem State.w_shep (s : State) (k v : Nat) : (s.w k v).shep = s.shep := rfl
@[simp] theorem State.w_mem (s : State) (k v : Nat) : (s.w k v).mem = s.mem := rfl
@[simp] theorem State.w_lanes (s : State) (k v : Nat) : (s.w k v).lanes = s.lanes := rfl
@[simp] theorem State.w_auxs (s : State) (k v : Nat) : (s.w k v).auxs = s.auxs := rfl
@[simp] theorem State.w_tw (s : State) (k v : Nat) : (s.w k v).tw = s.tw := rfl
@[simp] theorem State.w_banks (s : State) (k v : Nat) : (s.w k v).banks = s.banks := rfl
@[simp] theorem State.w_chans (s : State) (k v : Nat) : (s.w k v).chans = s.chans := rfl
@[simp] theorem State.w_d2d (s : State) (k v : Nat) : (s.w k v).d2d = s.d2d := rfl
@[simp] theorem State.w_zones (s : State) (k v : Nat) : (s.w k v).zones = s.zones := rfl
@[simp] theorem State.w_tick (s : State) (k v : Nat) : (s.w k v).tick = s.tick := rfl
@[simp] theorem State.w_encs (s : State) (k v : Nat) : (s.w k v).encs = s.encs := rfl
@[simp] theorem State.w_cov (s : State) (k v : Nat) : (s.w k v).cov = s.cov := rfl
@[simp] theorem State.w_stns (s : State) (k v : Nat) : (s.w k v).stns = s.stns := rfl
@[simp] theorem State.w_zrecs (s : State) (k v : Nat) : (s.w k v).zrecs = s.zrecs := rfl
@[simp] theorem State.w_zmeas (s : State) (k v : Nat) : (s.w k v).zmeas = s.zmeas := rfl
@[simp] theorem State.w_blob (s : State) (k v : Nat) (j0 : Nat) : (s.w k v).blob j0 = s.blob j0 := rfl

/-! wBlob -/

@[simp] theorem State.wBlob_pending (s : State) (k : Nat) (b : Bytes) : (s.wBlob k b).pending = s.pending := rfl
@[simp] theorem State.wBlob_clk (s : State) (k : Nat) (b : Bytes) : (s.wBlob k b).clk = s.clk := rfl
@[simp] theorem State.wBlob_free (s : State) (k : Nat) (b : Bytes) : (s.wBlob k b).free = s.free := rfl
@[simp] theorem State.wBlob_regs (s : State) (k : Nat) (b : Bytes) : (s.wBlob k b).regs = s.regs := rfl
@[simp] theorem State.wBlob_od (s : State) (k : Nat) (b : Bytes) : (s.wBlob k b).od = s.od := rfl
@[simp] theorem State.wBlob_tly (s : State) (k : Nat) (b : Bytes) : (s.wBlob k b).tly = s.tly := rfl
@[simp] theorem State.wBlob_nvm (s : State) (k : Nat) (b : Bytes) : (s.wBlob k b).nvm = s.nvm := rfl
@[simp] theorem State.wBlob_flash (s : State) (k : Nat) (b : Bytes) : (s.wBlob k b).flash = s.flash := rfl
@[simp] theorem State.wBlob_fac (s : State) (k : Nat) (b : Bytes) : (s.wBlob k b).fac = s.fac := rfl
@[simp] theorem State.wBlob_ret (s : State) (k : Nat) (b : Bytes) : (s.wBlob k b).ret = s.ret := rfl
@[simp] theorem State.wBlob_tap (s : State) (k : Nat) (b : Bytes) : (s.wBlob k b).tap = s.tap := rfl
@[simp] theorem State.wBlob_boot (s : State) (k : Nat) (b : Bytes) : (s.wBlob k b).boot = s.boot := rfl
@[simp] theorem State.wBlob_pair (s : State) (k : Nat) (b : Bytes) : (s.wBlob k b).pair = s.pair := rfl
@[simp] theorem State.wBlob_ptx (s : State) (k : Nat) (b : Bytes) : (s.wBlob k b).ptx = s.ptx := rfl
@[simp] theorem State.wBlob_pwr (s : State) (k : Nat) (b : Bytes) : (s.wBlob k b).pwr = s.pwr := rfl
@[simp] theorem State.wBlob_ring (s : State) (k : Nat) (b : Bytes) : (s.wBlob k b).ring = s.ring := rfl
@[simp] theorem State.wBlob_heads (s : State) (k : Nat) (b : Bytes) : (s.wBlob k b).heads = s.heads := rfl
@[simp] theorem State.wBlob_hrx (s : State) (k : Nat) (b : Bytes) : (s.wBlob k b).hrx = s.hrx := rfl
@[simp] theorem State.wBlob_hout (s : State) (k : Nat) (b : Bytes) : (s.wBlob k b).hout = s.hout := rfl
@[simp] theorem State.wBlob_pipes (s : State) (k : Nat) (b : Bytes) : (s.wBlob k b).pipes = s.pipes := rfl
@[simp] theorem State.wBlob_folds (s : State) (k : Nat) (b : Bytes) : (s.wBlob k b).folds = s.folds := rfl
@[simp] theorem State.wBlob_px (s : State) (k : Nat) (b : Bytes) : (s.wBlob k b).px = s.px := rfl
@[simp] theorem State.wBlob_rad (s : State) (k : Nat) (b : Bytes) : (s.wBlob k b).rad = s.rad := rfl
@[simp] theorem State.wBlob_xp (s : State) (k : Nat) (b : Bytes) : (s.wBlob k b).xp = s.xp := rfl
@[simp] theorem State.wBlob_shep (s : State) (k : Nat) (b : Bytes) : (s.wBlob k b).shep = s.shep := rfl
@[simp] theorem State.wBlob_mem (s : State) (k : Nat) (b : Bytes) : (s.wBlob k b).mem = s.mem := rfl
@[simp] theorem State.wBlob_lanes (s : State) (k : Nat) (b : Bytes) : (s.wBlob k b).lanes = s.lanes := rfl
@[simp] theorem State.wBlob_auxs (s : State) (k : Nat) (b : Bytes) : (s.wBlob k b).auxs = s.auxs := rfl
@[simp] theorem State.wBlob_tw (s : State) (k : Nat) (b : Bytes) : (s.wBlob k b).tw = s.tw := rfl
@[simp] theorem State.wBlob_banks (s : State) (k : Nat) (b : Bytes) : (s.wBlob k b).banks = s.banks := rfl
@[simp] theorem State.wBlob_chans (s : State) (k : Nat) (b : Bytes) : (s.wBlob k b).chans = s.chans := rfl
@[simp] theorem State.wBlob_d2d (s : State) (k : Nat) (b : Bytes) : (s.wBlob k b).d2d = s.d2d := rfl
@[simp] theorem State.wBlob_zones (s : State) (k : Nat) (b : Bytes) : (s.wBlob k b).zones = s.zones := rfl
@[simp] theorem State.wBlob_tick (s : State) (k : Nat) (b : Bytes) : (s.wBlob k b).tick = s.tick := rfl
@[simp] theorem State.wBlob_encs (s : State) (k : Nat) (b : Bytes) : (s.wBlob k b).encs = s.encs := rfl
@[simp] theorem State.wBlob_cov (s : State) (k : Nat) (b : Bytes) : (s.wBlob k b).cov = s.cov := rfl
@[simp] theorem State.wBlob_stns (s : State) (k : Nat) (b : Bytes) : (s.wBlob k b).stns = s.stns := rfl
@[simp] theorem State.wBlob_zrecs (s : State) (k : Nat) (b : Bytes) : (s.wBlob k b).zrecs = s.zrecs := rfl
@[simp] theorem State.wBlob_zmeas (s : State) (k : Nat) (b : Bytes) : (s.wBlob k b).zmeas = s.zmeas := rfl
@[simp] theorem State.wBlob_r (s : State) (k : Nat) (b : Bytes) (j : Nat) : (s.wBlob k b).r j = s.r j := rfl

/-! advance -/

@[simp] theorem State.advance_pending (s : State) (dt : Nat) : (s.advance dt).pending = s.pending := rfl
@[simp] theorem State.advance_free (s : State) (dt : Nat) : (s.advance dt).free = s.free := rfl
@[simp] theorem State.advance_regs (s : State) (dt : Nat) : (s.advance dt).regs = s.regs := rfl
@[simp] theorem State.advance_blobs (s : State) (dt : Nat) : (s.advance dt).blobs = s.blobs := rfl
@[simp] theorem State.advance_od (s : State) (dt : Nat) : (s.advance dt).od = s.od := rfl
@[simp] theorem State.advance_tly (s : State) (dt : Nat) : (s.advance dt).tly = s.tly := rfl
@[simp] theorem State.advance_nvm (s : State) (dt : Nat) : (s.advance dt).nvm = s.nvm := rfl
@[simp] theorem State.advance_flash (s : State) (dt : Nat) : (s.advance dt).flash = s.flash := rfl
@[simp] theorem State.advance_fac (s : State) (dt : Nat) : (s.advance dt).fac = s.fac := rfl
@[simp] theorem State.advance_ret (s : State) (dt : Nat) : (s.advance dt).ret = s.ret := rfl
@[simp] theorem State.advance_tap (s : State) (dt : Nat) : (s.advance dt).tap = s.tap := rfl
@[simp] theorem State.advance_boot (s : State) (dt : Nat) : (s.advance dt).boot = s.boot := rfl
@[simp] theorem State.advance_pair (s : State) (dt : Nat) : (s.advance dt).pair = s.pair := rfl
@[simp] theorem State.advance_pwr (s : State) (dt : Nat) : (s.advance dt).pwr = s.pwr := rfl
@[simp] theorem State.advance_heads (s : State) (dt : Nat) : (s.advance dt).heads = s.heads := rfl
@[simp] theorem State.advance_hrx (s : State) (dt : Nat) : (s.advance dt).hrx = s.hrx := rfl
@[simp] theorem State.advance_pipes (s : State) (dt : Nat) : (s.advance dt).pipes = s.pipes := rfl
@[simp] theorem State.advance_folds (s : State) (dt : Nat) : (s.advance dt).folds = s.folds := rfl
@[simp] theorem State.advance_px (s : State) (dt : Nat) : (s.advance dt).px = s.px := rfl
@[simp] theorem State.advance_rad (s : State) (dt : Nat) : (s.advance dt).rad = s.rad := rfl
@[simp] theorem State.advance_xp (s : State) (dt : Nat) : (s.advance dt).xp = s.xp := rfl
@[simp] theorem State.advance_shep (s : State) (dt : Nat) : (s.advance dt).shep = s.shep := rfl
@[simp] theorem State.advance_mem (s : State) (dt : Nat) : (s.advance dt).mem = s.mem := rfl
@[simp] theorem State.advance_lanes (s : State) (dt : Nat) : (s.advance dt).lanes = s.lanes := rfl
@[simp] theorem State.advance_auxs (s : State) (dt : Nat) : (s.advance dt).auxs = s.auxs := rfl
@[simp] theorem State.advance_banks (s : State) (dt : Nat) : (s.advance dt).banks = s.banks := rfl
@[simp] theorem State.advance_chans (s : State) (dt : Nat) : (s.advance dt).chans = s.chans := rfl
@[simp] theorem State.advance_d2d (s : State) (dt : Nat) : (s.advance dt).d2d = s.d2d := rfl
@[simp] theorem State.advance_zones (s : State) (dt : Nat) : (s.advance dt).zones = s.zones := rfl
@[simp] theorem State.advance_tick (s : State) (dt : Nat) : (s.advance dt).tick = s.tick := rfl
@[simp] theorem State.advance_encs (s : State) (dt : Nat) : (s.advance dt).encs = s.encs := rfl
@[simp] theorem State.advance_cov (s : State) (dt : Nat) : (s.advance dt).cov = s.cov := rfl
@[simp] theorem State.advance_stns (s : State) (dt : Nat) : (s.advance dt).stns = s.stns := rfl
@[simp] theorem State.advance_zrecs (s : State) (dt : Nat) : (s.advance dt).zrecs = s.zrecs := rfl
@[simp] theorem State.advance_zmeas (s : State) (dt : Nat) : (s.advance dt).zmeas = s.zmeas := rfl
@[simp] theorem State.advance_r (s : State) (dt : Nat) (k : Nat) : (s.advance dt).r k = s.r k := rfl
@[simp] theorem State.advance_blob (s : State) (dt : Nat) (j0 : Nat) : (s.advance dt).blob j0 = s.blob j0 := rfl

/-! used -/

@[simp] theorem State.used_pending (s : State) : s.used.pending = s.pending := rfl
@[simp] theorem State.used_clk (s : State) : s.used.clk = s.clk := rfl
@[simp] theorem State.used_regs (s : State) : s.used.regs = s.regs := rfl
@[simp] theorem State.used_blobs (s : State) : s.used.blobs = s.blobs := rfl
@[simp] theorem State.used_od (s : State) : s.used.od = s.od := rfl
@[simp] theorem State.used_tly (s : State) : s.used.tly = s.tly := rfl
@[simp] theorem State.used_nvm (s : State) : s.used.nvm = s.nvm := rfl
@[simp] theorem State.used_flash (s : State) : s.used.flash = s.flash := rfl
@[simp] theorem State.used_fac (s : State) : s.used.fac = s.fac := rfl
@[simp] theorem State.used_ret (s : State) : s.used.ret = s.ret := rfl
@[simp] theorem State.used_tap (s : State) : s.used.tap = s.tap := rfl
@[simp] theorem State.used_boot (s : State) : s.used.boot = s.boot := rfl
@[simp] theorem State.used_pair (s : State) : s.used.pair = s.pair := rfl
@[simp] theorem State.used_ptx (s : State) : s.used.ptx = s.ptx := rfl
@[simp] theorem State.used_pwr (s : State) : s.used.pwr = s.pwr := rfl
@[simp] theorem State.used_ring (s : State) : s.used.ring = s.ring := rfl
@[simp] theorem State.used_heads (s : State) : s.used.heads = s.heads := rfl
@[simp] theorem State.used_hrx (s : State) : s.used.hrx = s.hrx := rfl
@[simp] theorem State.used_hout (s : State) : s.used.hout = s.hout := rfl
@[simp] theorem State.used_pipes (s : State) : s.used.pipes = s.pipes := rfl
@[simp] theorem State.used_folds (s : State) : s.used.folds = s.folds := rfl
@[simp] theorem State.used_px (s : State) : s.used.px = s.px := rfl
@[simp] theorem State.used_rad (s : State) : s.used.rad = s.rad := rfl
@[simp] theorem State.used_xp (s : State) : s.used.xp = s.xp := rfl
@[simp] theorem State.used_shep (s : State) : s.used.shep = s.shep := rfl
@[simp] theorem State.used_mem (s : State) : s.used.mem = s.mem := rfl
@[simp] theorem State.used_lanes (s : State) : s.used.lanes = s.lanes := rfl
@[simp] theorem State.used_auxs (s : State) : s.used.auxs = s.auxs := rfl
@[simp] theorem State.used_tw (s : State) : s.used.tw = s.tw := rfl
@[simp] theorem State.used_banks (s : State) : s.used.banks = s.banks := rfl
@[simp] theorem State.used_chans (s : State) : s.used.chans = s.chans := rfl
@[simp] theorem State.used_d2d (s : State) : s.used.d2d = s.d2d := rfl
@[simp] theorem State.used_zones (s : State) : s.used.zones = s.zones := rfl
@[simp] theorem State.used_tick (s : State) : s.used.tick = s.tick := rfl
@[simp] theorem State.used_encs (s : State) : s.used.encs = s.encs := rfl
@[simp] theorem State.used_cov (s : State) : s.used.cov = s.cov := rfl
@[simp] theorem State.used_stns (s : State) : s.used.stns = s.stns := rfl
@[simp] theorem State.used_zrecs (s : State) : s.used.zrecs = s.zrecs := rfl
@[simp] theorem State.used_zmeas (s : State) : s.used.zmeas = s.zmeas := rfl
@[simp] theorem State.used_r (s : State) (k : Nat) : s.used.r k = s.r k := rfl
@[simp] theorem State.used_blob (s : State) (j0 : Nat) : s.used.blob j0 = s.blob j0 := rfl

/-! wSpread -/

@[simp] theorem State.wSpread_pending (s : State) (n : Nat) (c : Spread) : (s.wSpread n c).pending = s.pending := rfl
@[simp] theorem State.wSpread_clk (s : State) (n : Nat) (c : Spread) : (s.wSpread n c).clk = s.clk := rfl
@[simp] theorem State.wSpread_free (s : State) (n : Nat) (c : Spread) : (s.wSpread n c).free = s.free := rfl
@[simp] theorem State.wSpread_regs (s : State) (n : Nat) (c : Spread) : (s.wSpread n c).regs = s.regs := rfl
@[simp] theorem State.wSpread_blobs (s : State) (n : Nat) (c : Spread) : (s.wSpread n c).blobs = s.blobs := rfl
@[simp] theorem State.wSpread_od (s : State) (n : Nat) (c : Spread) : (s.wSpread n c).od = s.od := rfl
@[simp] theorem State.wSpread_tly (s : State) (n : Nat) (c : Spread) : (s.wSpread n c).tly = s.tly := rfl
@[simp] theorem State.wSpread_flash (s : State) (n : Nat) (c : Spread) : (s.wSpread n c).flash = s.flash := rfl
@[simp] theorem State.wSpread_fac (s : State) (n : Nat) (c : Spread) : (s.wSpread n c).fac = s.fac := rfl
@[simp] theorem State.wSpread_ret (s : State) (n : Nat) (c : Spread) : (s.wSpread n c).ret = s.ret := rfl
@[simp] theorem State.wSpread_tap (s : State) (n : Nat) (c : Spread) : (s.wSpread n c).tap = s.tap := rfl
@[simp] theorem State.wSpread_boot (s : State) (n : Nat) (c : Spread) : (s.wSpread n c).boot = s.boot := rfl
@[simp] theorem State.wSpread_pair (s : State) (n : Nat) (c : Spread) : (s.wSpread n c).pair = s.pair := rfl
@[simp] theorem State.wSpread_ptx (s : State) (n : Nat) (c : Spread) : (s.wSpread n c).ptx = s.ptx := rfl
@[simp] theorem State.wSpread_pwr (s : State) (n : Nat) (c : Spread) : (s.wSpread n c).pwr = s.pwr := rfl
@[simp] theorem State.wSpread_ring (s : State) (n : Nat) (c : Spread) : (s.wSpread n c).ring = s.ring := rfl
@[simp] theorem State.wSpread_heads (s : State) (n : Nat) (c : Spread) : (s.wSpread n c).heads = s.heads := rfl
@[simp] theorem State.wSpread_hrx (s : State) (n : Nat) (c : Spread) : (s.wSpread n c).hrx = s.hrx := rfl
@[simp] theorem State.wSpread_hout (s : State) (n : Nat) (c : Spread) : (s.wSpread n c).hout = s.hout := rfl
@[simp] theorem State.wSpread_pipes (s : State) (n : Nat) (c : Spread) : (s.wSpread n c).pipes = s.pipes := rfl
@[simp] theorem State.wSpread_folds (s : State) (n : Nat) (c : Spread) : (s.wSpread n c).folds = s.folds := rfl
@[simp] theorem State.wSpread_px (s : State) (n : Nat) (c : Spread) : (s.wSpread n c).px = s.px := rfl
@[simp] theorem State.wSpread_rad (s : State) (n : Nat) (c : Spread) : (s.wSpread n c).rad = s.rad := rfl
@[simp] theorem State.wSpread_xp (s : State) (n : Nat) (c : Spread) : (s.wSpread n c).xp = s.xp := rfl
@[simp] theorem State.wSpread_shep (s : State) (n : Nat) (c : Spread) : (s.wSpread n c).shep = s.shep := rfl
@[simp] theorem State.wSpread_mem (s : State) (n : Nat) (c : Spread) : (s.wSpread n c).mem = s.mem := rfl
@[simp] theorem State.wSpread_lanes (s : State) (n : Nat) (c : Spread) : (s.wSpread n c).lanes = s.lanes := rfl
@[simp] theorem State.wSpread_auxs (s : State) (n : Nat) (c : Spread) : (s.wSpread n c).auxs = s.auxs := rfl
@[simp] theorem State.wSpread_tw (s : State) (n : Nat) (c : Spread) : (s.wSpread n c).tw = s.tw := rfl
@[simp] theorem State.wSpread_banks (s : State) (n : Nat) (c : Spread) : (s.wSpread n c).banks = s.banks := rfl
@[simp] theorem State.wSpread_chans (s : State) (n : Nat) (c : Spread) : (s.wSpread n c).chans = s.chans := rfl
@[simp] theorem State.wSpread_d2d (s : State) (n : Nat) (c : Spread) : (s.wSpread n c).d2d = s.d2d := rfl
@[simp] theorem State.wSpread_zones (s : State) (n : Nat) (c : Spread) : (s.wSpread n c).zones = s.zones := rfl
@[simp] theorem State.wSpread_tick (s : State) (n : Nat) (c : Spread) : (s.wSpread n c).tick = s.tick := rfl
@[simp] theorem State.wSpread_encs (s : State) (n : Nat) (c : Spread) : (s.wSpread n c).encs = s.encs := rfl
@[simp] theorem State.wSpread_cov (s : State) (n : Nat) (c : Spread) : (s.wSpread n c).cov = s.cov := rfl
@[simp] theorem State.wSpread_stns (s : State) (n : Nat) (c : Spread) : (s.wSpread n c).stns = s.stns := rfl
@[simp] theorem State.wSpread_zrecs (s : State) (n : Nat) (c : Spread) : (s.wSpread n c).zrecs = s.zrecs := rfl
@[simp] theorem State.wSpread_zmeas (s : State) (n : Nat) (c : Spread) : (s.wSpread n c).zmeas = s.zmeas := rfl
@[simp] theorem State.wSpread_r (s : State) (n : Nat) (c : Spread) (k : Nat) : (s.wSpread n c).r k = s.r k := rfl
@[simp] theorem State.wSpread_blob (s : State) (n : Nat) (c : Spread) (j0 : Nat) : (s.wSpread n c).blob j0 = s.blob j0 := rfl

/-! answer -/

@[simp] theorem State.answer_pending (s : State) (status token : Nat) : (s.answer status token).pending = s.pending := rfl
@[simp] theorem State.answer_clk (s : State) (status token : Nat) : (s.answer status token).clk = s.clk := rfl
@[simp] theorem State.answer_free (s : State) (status token : Nat) : (s.answer status token).free = s.free := rfl
@[simp] theorem State.answer_regs (s : State) (status token : Nat) : (s.answer status token).regs = s.regs := rfl
@[simp] theorem State.answer_blobs (s : State) (status token : Nat) : (s.answer status token).blobs = s.blobs := rfl
@[simp] theorem State.answer_tly (s : State) (status token : Nat) : (s.answer status token).tly = s.tly := rfl
@[simp] theorem State.answer_nvm (s : State) (status token : Nat) : (s.answer status token).nvm = s.nvm := rfl
@[simp] theorem State.answer_flash (s : State) (status token : Nat) : (s.answer status token).flash = s.flash := rfl
@[simp] theorem State.answer_fac (s : State) (status token : Nat) : (s.answer status token).fac = s.fac := rfl
@[simp] theorem State.answer_ret (s : State) (status token : Nat) : (s.answer status token).ret = s.ret := rfl
@[simp] theorem State.answer_tap (s : State) (status token : Nat) : (s.answer status token).tap = s.tap := rfl
@[simp] theorem State.answer_boot (s : State) (status token : Nat) : (s.answer status token).boot = s.boot := rfl
@[simp] theorem State.answer_pair (s : State) (status token : Nat) : (s.answer status token).pair = s.pair := rfl
@[simp] theorem State.answer_ptx (s : State) (status token : Nat) : (s.answer status token).ptx = s.ptx := rfl
@[simp] theorem State.answer_pwr (s : State) (status token : Nat) : (s.answer status token).pwr = s.pwr := rfl
@[simp] theorem State.answer_ring (s : State) (status token : Nat) : (s.answer status token).ring = s.ring := rfl
@[simp] theorem State.answer_heads (s : State) (status token : Nat) : (s.answer status token).heads = s.heads := rfl
@[simp] theorem State.answer_hrx (s : State) (status token : Nat) : (s.answer status token).hrx = s.hrx := rfl
@[simp] theorem State.answer_hout (s : State) (status token : Nat) : (s.answer status token).hout = s.hout := rfl
@[simp] theorem State.answer_pipes (s : State) (status token : Nat) : (s.answer status token).pipes = s.pipes := rfl
@[simp] theorem State.answer_folds (s : State) (status token : Nat) : (s.answer status token).folds = s.folds := rfl
@[simp] theorem State.answer_px (s : State) (status token : Nat) : (s.answer status token).px = s.px := rfl
@[simp] theorem State.answer_rad (s : State) (status token : Nat) : (s.answer status token).rad = s.rad := rfl
@[simp] theorem State.answer_xp (s : State) (status token : Nat) : (s.answer status token).xp = s.xp := rfl
@[simp] theorem State.answer_shep (s : State) (status token : Nat) : (s.answer status token).shep = s.shep := rfl
@[simp] theorem State.answer_mem (s : State) (status token : Nat) : (s.answer status token).mem = s.mem := rfl
@[simp] theorem State.answer_lanes (s : State) (status token : Nat) : (s.answer status token).lanes = s.lanes := rfl
@[simp] theorem State.answer_auxs (s : State) (status token : Nat) : (s.answer status token).auxs = s.auxs := rfl
@[simp] theorem State.answer_tw (s : State) (status token : Nat) : (s.answer status token).tw = s.tw := rfl
@[simp] theorem State.answer_banks (s : State) (status token : Nat) : (s.answer status token).banks = s.banks := rfl
@[simp] theorem State.answer_chans (s : State) (status token : Nat) : (s.answer status token).chans = s.chans := rfl
@[simp] theorem State.answer_d2d (s : State) (status token : Nat) : (s.answer status token).d2d = s.d2d := rfl
@[simp] theorem State.answer_zones (s : State) (status token : Nat) : (s.answer status token).zones = s.zones := rfl
@[simp] theorem State.answer_tick (s : State) (status token : Nat) : (s.answer status token).tick = s.tick := rfl
@[simp] theorem State.answer_encs (s : State) (status token : Nat) : (s.answer status token).encs = s.encs := rfl
@[simp] theorem State.answer_cov (s : State) (status token : Nat) : (s.answer status token).cov = s.cov := rfl
@[simp] theorem State.answer_stns (s : State) (status token : Nat) : (s.answer status token).stns = s.stns := rfl
@[simp] theorem State.answer_zrecs (s : State) (status token : Nat) : (s.answer status token).zrecs = s.zrecs := rfl
@[simp] theorem State.answer_zmeas (s : State) (status token : Nat) : (s.answer status token).zmeas = s.zmeas := rfl
@[simp] theorem State.answer_r (s : State) (status token : Nat) (k : Nat) : (s.answer status token).r k = s.r k := rfl
@[simp] theorem State.answer_blob (s : State) (status token : Nat) (j0 : Nat) : (s.answer status token).blob j0 = s.blob j0 := rfl

/-! wHd -/

@[simp] theorem State.wHd_pending (s : State) (h : Nat) (x : Head) : (s.wHd h x).pending = s.pending := rfl
@[simp] theorem State.wHd_clk (s : State) (h : Nat) (x : Head) : (s.wHd h x).clk = s.clk := rfl
@[simp] theorem State.wHd_free (s : State) (h : Nat) (x : Head) : (s.wHd h x).free = s.free := rfl
@[simp] theorem State.wHd_regs (s : State) (h : Nat) (x : Head) : (s.wHd h x).regs = s.regs := rfl
@[simp] theorem State.wHd_blobs (s : State) (h : Nat) (x : Head) : (s.wHd h x).blobs = s.blobs := rfl
@[simp] theorem State.wHd_od (s : State) (h : Nat) (x : Head) : (s.wHd h x).od = s.od := rfl
@[simp] theorem State.wHd_tly (s : State) (h : Nat) (x : Head) : (s.wHd h x).tly = s.tly := rfl
@[simp] theorem State.wHd_nvm (s : State) (h : Nat) (x : Head) : (s.wHd h x).nvm = s.nvm := rfl
@[simp] theorem State.wHd_flash (s : State) (h : Nat) (x : Head) : (s.wHd h x).flash = s.flash := rfl
@[simp] theorem State.wHd_fac (s : State) (h : Nat) (x : Head) : (s.wHd h x).fac = s.fac := rfl
@[simp] theorem State.wHd_ret (s : State) (h : Nat) (x : Head) : (s.wHd h x).ret = s.ret := rfl
@[simp] theorem State.wHd_tap (s : State) (h : Nat) (x : Head) : (s.wHd h x).tap = s.tap := rfl
@[simp] theorem State.wHd_boot (s : State) (h : Nat) (x : Head) : (s.wHd h x).boot = s.boot := rfl
@[simp] theorem State.wHd_pair (s : State) (h : Nat) (x : Head) : (s.wHd h x).pair = s.pair := rfl
@[simp] theorem State.wHd_ptx (s : State) (h : Nat) (x : Head) : (s.wHd h x).ptx = s.ptx := rfl
@[simp] theorem State.wHd_pwr (s : State) (h : Nat) (x : Head) : (s.wHd h x).pwr = s.pwr := rfl
@[simp] theorem State.wHd_ring (s : State) (h : Nat) (x : Head) : (s.wHd h x).ring = s.ring := rfl
@[simp] theorem State.wHd_hrx (s : State) (h : Nat) (x : Head) : (s.wHd h x).hrx = s.hrx := rfl
@[simp] theorem State.wHd_hout (s : State) (h : Nat) (x : Head) : (s.wHd h x).hout = s.hout := rfl
@[simp] theorem State.wHd_pipes (s : State) (h : Nat) (x : Head) : (s.wHd h x).pipes = s.pipes := rfl
@[simp] theorem State.wHd_folds (s : State) (h : Nat) (x : Head) : (s.wHd h x).folds = s.folds := rfl
@[simp] theorem State.wHd_px (s : State) (h : Nat) (x : Head) : (s.wHd h x).px = s.px := rfl
@[simp] theorem State.wHd_rad (s : State) (h : Nat) (x : Head) : (s.wHd h x).rad = s.rad := rfl
@[simp] theorem State.wHd_xp (s : State) (h : Nat) (x : Head) : (s.wHd h x).xp = s.xp := rfl
@[simp] theorem State.wHd_shep (s : State) (h : Nat) (x : Head) : (s.wHd h x).shep = s.shep := rfl
@[simp] theorem State.wHd_mem (s : State) (h : Nat) (x : Head) : (s.wHd h x).mem = s.mem := rfl
@[simp] theorem State.wHd_lanes (s : State) (h : Nat) (x : Head) : (s.wHd h x).lanes = s.lanes := rfl
@[simp] theorem State.wHd_auxs (s : State) (h : Nat) (x : Head) : (s.wHd h x).auxs = s.auxs := rfl
@[simp] theorem State.wHd_tw (s : State) (h : Nat) (x : Head) : (s.wHd h x).tw = s.tw := rfl
@[simp] theorem State.wHd_banks (s : State) (h : Nat) (x : Head) : (s.wHd h x).banks = s.banks := rfl
@[simp] theorem State.wHd_chans (s : State) (h : Nat) (x : Head) : (s.wHd h x).chans = s.chans := rfl
@[simp] theorem State.wHd_d2d (s : State) (h : Nat) (x : Head) : (s.wHd h x).d2d = s.d2d := rfl
@[simp] theorem State.wHd_zones (s : State) (h : Nat) (x : Head) : (s.wHd h x).zones = s.zones := rfl
@[simp] theorem State.wHd_tick (s : State) (h : Nat) (x : Head) : (s.wHd h x).tick = s.tick := rfl
@[simp] theorem State.wHd_encs (s : State) (h : Nat) (x : Head) : (s.wHd h x).encs = s.encs := rfl
@[simp] theorem State.wHd_cov (s : State) (h : Nat) (x : Head) : (s.wHd h x).cov = s.cov := rfl
@[simp] theorem State.wHd_stns (s : State) (h : Nat) (x : Head) : (s.wHd h x).stns = s.stns := rfl
@[simp] theorem State.wHd_zrecs (s : State) (h : Nat) (x : Head) : (s.wHd h x).zrecs = s.zrecs := rfl
@[simp] theorem State.wHd_zmeas (s : State) (h : Nat) (x : Head) : (s.wHd h x).zmeas = s.zmeas := rfl
@[simp] theorem State.wHd_r (s : State) (h : Nat) (x : Head) (k : Nat) : (s.wHd h x).r k = s.r k := rfl
@[simp] theorem State.wHd_blob (s : State) (h : Nat) (x : Head) (j0 : Nat) : (s.wHd h x).blob j0 = s.blob j0 := rfl

/-! wHr -/

@[simp] theorem State.wHr_pending (s : State) (h : Nat) (x : HeadRx) : (s.wHr h x).pending = s.pending := rfl
@[simp] theorem State.wHr_clk (s : State) (h : Nat) (x : HeadRx) : (s.wHr h x).clk = s.clk := rfl
@[simp] theorem State.wHr_free (s : State) (h : Nat) (x : HeadRx) : (s.wHr h x).free = s.free := rfl
@[simp] theorem State.wHr_regs (s : State) (h : Nat) (x : HeadRx) : (s.wHr h x).regs = s.regs := rfl
@[simp] theorem State.wHr_blobs (s : State) (h : Nat) (x : HeadRx) : (s.wHr h x).blobs = s.blobs := rfl
@[simp] theorem State.wHr_od (s : State) (h : Nat) (x : HeadRx) : (s.wHr h x).od = s.od := rfl
@[simp] theorem State.wHr_tly (s : State) (h : Nat) (x : HeadRx) : (s.wHr h x).tly = s.tly := rfl
@[simp] theorem State.wHr_nvm (s : State) (h : Nat) (x : HeadRx) : (s.wHr h x).nvm = s.nvm := rfl
@[simp] theorem State.wHr_flash (s : State) (h : Nat) (x : HeadRx) : (s.wHr h x).flash = s.flash := rfl
@[simp] theorem State.wHr_fac (s : State) (h : Nat) (x : HeadRx) : (s.wHr h x).fac = s.fac := rfl
@[simp] theorem State.wHr_ret (s : State) (h : Nat) (x : HeadRx) : (s.wHr h x).ret = s.ret := rfl
@[simp] theorem State.wHr_tap (s : State) (h : Nat) (x : HeadRx) : (s.wHr h x).tap = s.tap := rfl
@[simp] theorem State.wHr_boot (s : State) (h : Nat) (x : HeadRx) : (s.wHr h x).boot = s.boot := rfl
@[simp] theorem State.wHr_pair (s : State) (h : Nat) (x : HeadRx) : (s.wHr h x).pair = s.pair := rfl
@[simp] theorem State.wHr_ptx (s : State) (h : Nat) (x : HeadRx) : (s.wHr h x).ptx = s.ptx := rfl
@[simp] theorem State.wHr_pwr (s : State) (h : Nat) (x : HeadRx) : (s.wHr h x).pwr = s.pwr := rfl
@[simp] theorem State.wHr_ring (s : State) (h : Nat) (x : HeadRx) : (s.wHr h x).ring = s.ring := rfl
@[simp] theorem State.wHr_heads (s : State) (h : Nat) (x : HeadRx) : (s.wHr h x).heads = s.heads := rfl
@[simp] theorem State.wHr_hout (s : State) (h : Nat) (x : HeadRx) : (s.wHr h x).hout = s.hout := rfl
@[simp] theorem State.wHr_pipes (s : State) (h : Nat) (x : HeadRx) : (s.wHr h x).pipes = s.pipes := rfl
@[simp] theorem State.wHr_folds (s : State) (h : Nat) (x : HeadRx) : (s.wHr h x).folds = s.folds := rfl
@[simp] theorem State.wHr_px (s : State) (h : Nat) (x : HeadRx) : (s.wHr h x).px = s.px := rfl
@[simp] theorem State.wHr_rad (s : State) (h : Nat) (x : HeadRx) : (s.wHr h x).rad = s.rad := rfl
@[simp] theorem State.wHr_xp (s : State) (h : Nat) (x : HeadRx) : (s.wHr h x).xp = s.xp := rfl
@[simp] theorem State.wHr_shep (s : State) (h : Nat) (x : HeadRx) : (s.wHr h x).shep = s.shep := rfl
@[simp] theorem State.wHr_mem (s : State) (h : Nat) (x : HeadRx) : (s.wHr h x).mem = s.mem := rfl
@[simp] theorem State.wHr_lanes (s : State) (h : Nat) (x : HeadRx) : (s.wHr h x).lanes = s.lanes := rfl
@[simp] theorem State.wHr_auxs (s : State) (h : Nat) (x : HeadRx) : (s.wHr h x).auxs = s.auxs := rfl
@[simp] theorem State.wHr_tw (s : State) (h : Nat) (x : HeadRx) : (s.wHr h x).tw = s.tw := rfl
@[simp] theorem State.wHr_banks (s : State) (h : Nat) (x : HeadRx) : (s.wHr h x).banks = s.banks := rfl
@[simp] theorem State.wHr_chans (s : State) (h : Nat) (x : HeadRx) : (s.wHr h x).chans = s.chans := rfl
@[simp] theorem State.wHr_d2d (s : State) (h : Nat) (x : HeadRx) : (s.wHr h x).d2d = s.d2d := rfl
@[simp] theorem State.wHr_zones (s : State) (h : Nat) (x : HeadRx) : (s.wHr h x).zones = s.zones := rfl
@[simp] theorem State.wHr_tick (s : State) (h : Nat) (x : HeadRx) : (s.wHr h x).tick = s.tick := rfl
@[simp] theorem State.wHr_encs (s : State) (h : Nat) (x : HeadRx) : (s.wHr h x).encs = s.encs := rfl
@[simp] theorem State.wHr_cov (s : State) (h : Nat) (x : HeadRx) : (s.wHr h x).cov = s.cov := rfl
@[simp] theorem State.wHr_stns (s : State) (h : Nat) (x : HeadRx) : (s.wHr h x).stns = s.stns := rfl
@[simp] theorem State.wHr_zrecs (s : State) (h : Nat) (x : HeadRx) : (s.wHr h x).zrecs = s.zrecs := rfl
@[simp] theorem State.wHr_zmeas (s : State) (h : Nat) (x : HeadRx) : (s.wHr h x).zmeas = s.zmeas := rfl
@[simp] theorem State.wHr_r (s : State) (h : Nat) (x : HeadRx) (k : Nat) : (s.wHr h x).r k = s.r k := rfl
@[simp] theorem State.wHr_blob (s : State) (h : Nat) (x : HeadRx) (j0 : Nat) : (s.wHr h x).blob j0 = s.blob j0 := rfl

/-! wPipe -/

@[simp] theorem State.wPipe_pending (s : State) (h : Nat) (x : Pipe) : (s.wPipe h x).pending = s.pending := rfl
@[simp] theorem State.wPipe_clk (s : State) (h : Nat) (x : Pipe) : (s.wPipe h x).clk = s.clk := rfl
@[simp] theorem State.wPipe_free (s : State) (h : Nat) (x : Pipe) : (s.wPipe h x).free = s.free := rfl
@[simp] theorem State.wPipe_regs (s : State) (h : Nat) (x : Pipe) : (s.wPipe h x).regs = s.regs := rfl
@[simp] theorem State.wPipe_blobs (s : State) (h : Nat) (x : Pipe) : (s.wPipe h x).blobs = s.blobs := rfl
@[simp] theorem State.wPipe_od (s : State) (h : Nat) (x : Pipe) : (s.wPipe h x).od = s.od := rfl
@[simp] theorem State.wPipe_tly (s : State) (h : Nat) (x : Pipe) : (s.wPipe h x).tly = s.tly := rfl
@[simp] theorem State.wPipe_nvm (s : State) (h : Nat) (x : Pipe) : (s.wPipe h x).nvm = s.nvm := rfl
@[simp] theorem State.wPipe_flash (s : State) (h : Nat) (x : Pipe) : (s.wPipe h x).flash = s.flash := rfl
@[simp] theorem State.wPipe_fac (s : State) (h : Nat) (x : Pipe) : (s.wPipe h x).fac = s.fac := rfl
@[simp] theorem State.wPipe_ret (s : State) (h : Nat) (x : Pipe) : (s.wPipe h x).ret = s.ret := rfl
@[simp] theorem State.wPipe_tap (s : State) (h : Nat) (x : Pipe) : (s.wPipe h x).tap = s.tap := rfl
@[simp] theorem State.wPipe_boot (s : State) (h : Nat) (x : Pipe) : (s.wPipe h x).boot = s.boot := rfl
@[simp] theorem State.wPipe_pair (s : State) (h : Nat) (x : Pipe) : (s.wPipe h x).pair = s.pair := rfl
@[simp] theorem State.wPipe_ptx (s : State) (h : Nat) (x : Pipe) : (s.wPipe h x).ptx = s.ptx := rfl
@[simp] theorem State.wPipe_pwr (s : State) (h : Nat) (x : Pipe) : (s.wPipe h x).pwr = s.pwr := rfl
@[simp] theorem State.wPipe_ring (s : State) (h : Nat) (x : Pipe) : (s.wPipe h x).ring = s.ring := rfl
@[simp] theorem State.wPipe_heads (s : State) (h : Nat) (x : Pipe) : (s.wPipe h x).heads = s.heads := rfl
@[simp] theorem State.wPipe_hrx (s : State) (h : Nat) (x : Pipe) : (s.wPipe h x).hrx = s.hrx := rfl
@[simp] theorem State.wPipe_hout (s : State) (h : Nat) (x : Pipe) : (s.wPipe h x).hout = s.hout := rfl
@[simp] theorem State.wPipe_folds (s : State) (h : Nat) (x : Pipe) : (s.wPipe h x).folds = s.folds := rfl
@[simp] theorem State.wPipe_px (s : State) (h : Nat) (x : Pipe) : (s.wPipe h x).px = s.px := rfl
@[simp] theorem State.wPipe_rad (s : State) (h : Nat) (x : Pipe) : (s.wPipe h x).rad = s.rad := rfl
@[simp] theorem State.wPipe_xp (s : State) (h : Nat) (x : Pipe) : (s.wPipe h x).xp = s.xp := rfl
@[simp] theorem State.wPipe_shep (s : State) (h : Nat) (x : Pipe) : (s.wPipe h x).shep = s.shep := rfl
@[simp] theorem State.wPipe_mem (s : State) (h : Nat) (x : Pipe) : (s.wPipe h x).mem = s.mem := rfl
@[simp] theorem State.wPipe_lanes (s : State) (h : Nat) (x : Pipe) : (s.wPipe h x).lanes = s.lanes := rfl
@[simp] theorem State.wPipe_auxs (s : State) (h : Nat) (x : Pipe) : (s.wPipe h x).auxs = s.auxs := rfl
@[simp] theorem State.wPipe_tw (s : State) (h : Nat) (x : Pipe) : (s.wPipe h x).tw = s.tw := rfl
@[simp] theorem State.wPipe_banks (s : State) (h : Nat) (x : Pipe) : (s.wPipe h x).banks = s.banks := rfl
@[simp] theorem State.wPipe_chans (s : State) (h : Nat) (x : Pipe) : (s.wPipe h x).chans = s.chans := rfl
@[simp] theorem State.wPipe_d2d (s : State) (h : Nat) (x : Pipe) : (s.wPipe h x).d2d = s.d2d := rfl
@[simp] theorem State.wPipe_zones (s : State) (h : Nat) (x : Pipe) : (s.wPipe h x).zones = s.zones := rfl
@[simp] theorem State.wPipe_tick (s : State) (h : Nat) (x : Pipe) : (s.wPipe h x).tick = s.tick := rfl
@[simp] theorem State.wPipe_encs (s : State) (h : Nat) (x : Pipe) : (s.wPipe h x).encs = s.encs := rfl
@[simp] theorem State.wPipe_cov (s : State) (h : Nat) (x : Pipe) : (s.wPipe h x).cov = s.cov := rfl
@[simp] theorem State.wPipe_stns (s : State) (h : Nat) (x : Pipe) : (s.wPipe h x).stns = s.stns := rfl
@[simp] theorem State.wPipe_zrecs (s : State) (h : Nat) (x : Pipe) : (s.wPipe h x).zrecs = s.zrecs := rfl
@[simp] theorem State.wPipe_zmeas (s : State) (h : Nat) (x : Pipe) : (s.wPipe h x).zmeas = s.zmeas := rfl
@[simp] theorem State.wPipe_r (s : State) (h : Nat) (x : Pipe) (k : Nat) : (s.wPipe h x).r k = s.r k := rfl
@[simp] theorem State.wPipe_blob (s : State) (h : Nat) (x : Pipe) (j0 : Nat) : (s.wPipe h x).blob j0 = s.blob j0 := rfl

/-! wFold -/

@[simp] theorem State.wFold_pending (s : State) (h : Nat) (x : FoldSt) : (s.wFold h x).pending = s.pending := rfl
@[simp] theorem State.wFold_clk (s : State) (h : Nat) (x : FoldSt) : (s.wFold h x).clk = s.clk := rfl
@[simp] theorem State.wFold_free (s : State) (h : Nat) (x : FoldSt) : (s.wFold h x).free = s.free := rfl
@[simp] theorem State.wFold_regs (s : State) (h : Nat) (x : FoldSt) : (s.wFold h x).regs = s.regs := rfl
@[simp] theorem State.wFold_blobs (s : State) (h : Nat) (x : FoldSt) : (s.wFold h x).blobs = s.blobs := rfl
@[simp] theorem State.wFold_od (s : State) (h : Nat) (x : FoldSt) : (s.wFold h x).od = s.od := rfl
@[simp] theorem State.wFold_tly (s : State) (h : Nat) (x : FoldSt) : (s.wFold h x).tly = s.tly := rfl
@[simp] theorem State.wFold_nvm (s : State) (h : Nat) (x : FoldSt) : (s.wFold h x).nvm = s.nvm := rfl
@[simp] theorem State.wFold_flash (s : State) (h : Nat) (x : FoldSt) : (s.wFold h x).flash = s.flash := rfl
@[simp] theorem State.wFold_fac (s : State) (h : Nat) (x : FoldSt) : (s.wFold h x).fac = s.fac := rfl
@[simp] theorem State.wFold_ret (s : State) (h : Nat) (x : FoldSt) : (s.wFold h x).ret = s.ret := rfl
@[simp] theorem State.wFold_tap (s : State) (h : Nat) (x : FoldSt) : (s.wFold h x).tap = s.tap := rfl
@[simp] theorem State.wFold_boot (s : State) (h : Nat) (x : FoldSt) : (s.wFold h x).boot = s.boot := rfl
@[simp] theorem State.wFold_pair (s : State) (h : Nat) (x : FoldSt) : (s.wFold h x).pair = s.pair := rfl
@[simp] theorem State.wFold_ptx (s : State) (h : Nat) (x : FoldSt) : (s.wFold h x).ptx = s.ptx := rfl
@[simp] theorem State.wFold_pwr (s : State) (h : Nat) (x : FoldSt) : (s.wFold h x).pwr = s.pwr := rfl
@[simp] theorem State.wFold_ring (s : State) (h : Nat) (x : FoldSt) : (s.wFold h x).ring = s.ring := rfl
@[simp] theorem State.wFold_heads (s : State) (h : Nat) (x : FoldSt) : (s.wFold h x).heads = s.heads := rfl
@[simp] theorem State.wFold_hrx (s : State) (h : Nat) (x : FoldSt) : (s.wFold h x).hrx = s.hrx := rfl
@[simp] theorem State.wFold_hout (s : State) (h : Nat) (x : FoldSt) : (s.wFold h x).hout = s.hout := rfl
@[simp] theorem State.wFold_pipes (s : State) (h : Nat) (x : FoldSt) : (s.wFold h x).pipes = s.pipes := rfl
@[simp] theorem State.wFold_px (s : State) (h : Nat) (x : FoldSt) : (s.wFold h x).px = s.px := rfl
@[simp] theorem State.wFold_rad (s : State) (h : Nat) (x : FoldSt) : (s.wFold h x).rad = s.rad := rfl
@[simp] theorem State.wFold_xp (s : State) (h : Nat) (x : FoldSt) : (s.wFold h x).xp = s.xp := rfl
@[simp] theorem State.wFold_shep (s : State) (h : Nat) (x : FoldSt) : (s.wFold h x).shep = s.shep := rfl
@[simp] theorem State.wFold_mem (s : State) (h : Nat) (x : FoldSt) : (s.wFold h x).mem = s.mem := rfl
@[simp] theorem State.wFold_lanes (s : State) (h : Nat) (x : FoldSt) : (s.wFold h x).lanes = s.lanes := rfl
@[simp] theorem State.wFold_auxs (s : State) (h : Nat) (x : FoldSt) : (s.wFold h x).auxs = s.auxs := rfl
@[simp] theorem State.wFold_tw (s : State) (h : Nat) (x : FoldSt) : (s.wFold h x).tw = s.tw := rfl
@[simp] theorem State.wFold_banks (s : State) (h : Nat) (x : FoldSt) : (s.wFold h x).banks = s.banks := rfl
@[simp] theorem State.wFold_chans (s : State) (h : Nat) (x : FoldSt) : (s.wFold h x).chans = s.chans := rfl
@[simp] theorem State.wFold_d2d (s : State) (h : Nat) (x : FoldSt) : (s.wFold h x).d2d = s.d2d := rfl
@[simp] theorem State.wFold_zones (s : State) (h : Nat) (x : FoldSt) : (s.wFold h x).zones = s.zones := rfl
@[simp] theorem State.wFold_tick (s : State) (h : Nat) (x : FoldSt) : (s.wFold h x).tick = s.tick := rfl
@[simp] theorem State.wFold_encs (s : State) (h : Nat) (x : FoldSt) : (s.wFold h x).encs = s.encs := rfl
@[simp] theorem State.wFold_cov (s : State) (h : Nat) (x : FoldSt) : (s.wFold h x).cov = s.cov := rfl
@[simp] theorem State.wFold_stns (s : State) (h : Nat) (x : FoldSt) : (s.wFold h x).stns = s.stns := rfl
@[simp] theorem State.wFold_zrecs (s : State) (h : Nat) (x : FoldSt) : (s.wFold h x).zrecs = s.zrecs := rfl
@[simp] theorem State.wFold_zmeas (s : State) (h : Nat) (x : FoldSt) : (s.wFold h x).zmeas = s.zmeas := rfl
@[simp] theorem State.wFold_r (s : State) (h : Nat) (x : FoldSt) (k : Nat) : (s.wFold h x).r k = s.r k := rfl
@[simp] theorem State.wFold_blob (s : State) (h : Nat) (x : FoldSt) (j0 : Nat) : (s.wFold h x).blob j0 = s.blob j0 := rfl

/-! wRecord -/

@[simp] theorem State.wRecord_pending (s : State) (h i v : Nat) : (s.wRecord h i v).pending = s.pending := rfl
@[simp] theorem State.wRecord_clk (s : State) (h i v : Nat) : (s.wRecord h i v).clk = s.clk := rfl
@[simp] theorem State.wRecord_free (s : State) (h i v : Nat) : (s.wRecord h i v).free = s.free := rfl
@[simp] theorem State.wRecord_regs (s : State) (h i v : Nat) : (s.wRecord h i v).regs = s.regs := rfl
@[simp] theorem State.wRecord_blobs (s : State) (h i v : Nat) : (s.wRecord h i v).blobs = s.blobs := rfl
@[simp] theorem State.wRecord_od (s : State) (h i v : Nat) : (s.wRecord h i v).od = s.od := rfl
@[simp] theorem State.wRecord_tly (s : State) (h i v : Nat) : (s.wRecord h i v).tly = s.tly := rfl
@[simp] theorem State.wRecord_nvm (s : State) (h i v : Nat) : (s.wRecord h i v).nvm = s.nvm := rfl
@[simp] theorem State.wRecord_flash (s : State) (h i v : Nat) : (s.wRecord h i v).flash = s.flash := rfl
@[simp] theorem State.wRecord_fac (s : State) (h i v : Nat) : (s.wRecord h i v).fac = s.fac := rfl
@[simp] theorem State.wRecord_ret (s : State) (h i v : Nat) : (s.wRecord h i v).ret = s.ret := rfl
@[simp] theorem State.wRecord_tap (s : State) (h i v : Nat) : (s.wRecord h i v).tap = s.tap := rfl
@[simp] theorem State.wRecord_boot (s : State) (h i v : Nat) : (s.wRecord h i v).boot = s.boot := rfl
@[simp] theorem State.wRecord_pair (s : State) (h i v : Nat) : (s.wRecord h i v).pair = s.pair := rfl
@[simp] theorem State.wRecord_ptx (s : State) (h i v : Nat) : (s.wRecord h i v).ptx = s.ptx := rfl
@[simp] theorem State.wRecord_pwr (s : State) (h i v : Nat) : (s.wRecord h i v).pwr = s.pwr := rfl
@[simp] theorem State.wRecord_ring (s : State) (h i v : Nat) : (s.wRecord h i v).ring = s.ring := rfl
@[simp] theorem State.wRecord_heads (s : State) (h i v : Nat) : (s.wRecord h i v).heads = s.heads := rfl
@[simp] theorem State.wRecord_hrx (s : State) (h i v : Nat) : (s.wRecord h i v).hrx = s.hrx := rfl
@[simp] theorem State.wRecord_hout (s : State) (h i v : Nat) : (s.wRecord h i v).hout = s.hout := rfl
@[simp] theorem State.wRecord_pipes (s : State) (h i v : Nat) : (s.wRecord h i v).pipes = s.pipes := rfl
@[simp] theorem State.wRecord_folds (s : State) (h i v : Nat) : (s.wRecord h i v).folds = s.folds := rfl
@[simp] theorem State.wRecord_rad (s : State) (h i v : Nat) : (s.wRecord h i v).rad = s.rad := rfl
@[simp] theorem State.wRecord_xp (s : State) (h i v : Nat) : (s.wRecord h i v).xp = s.xp := rfl
@[simp] theorem State.wRecord_shep (s : State) (h i v : Nat) : (s.wRecord h i v).shep = s.shep := rfl
@[simp] theorem State.wRecord_mem (s : State) (h i v : Nat) : (s.wRecord h i v).mem = s.mem := rfl
@[simp] theorem State.wRecord_lanes (s : State) (h i v : Nat) : (s.wRecord h i v).lanes = s.lanes := rfl
@[simp] theorem State.wRecord_auxs (s : State) (h i v : Nat) : (s.wRecord h i v).auxs = s.auxs := rfl
@[simp] theorem State.wRecord_tw (s : State) (h i v : Nat) : (s.wRecord h i v).tw = s.tw := rfl
@[simp] theorem State.wRecord_banks (s : State) (h i v : Nat) : (s.wRecord h i v).banks = s.banks := rfl
@[simp] theorem State.wRecord_chans (s : State) (h i v : Nat) : (s.wRecord h i v).chans = s.chans := rfl
@[simp] theorem State.wRecord_d2d (s : State) (h i v : Nat) : (s.wRecord h i v).d2d = s.d2d := rfl
@[simp] theorem State.wRecord_zones (s : State) (h i v : Nat) : (s.wRecord h i v).zones = s.zones := rfl
@[simp] theorem State.wRecord_tick (s : State) (h i v : Nat) : (s.wRecord h i v).tick = s.tick := rfl
@[simp] theorem State.wRecord_encs (s : State) (h i v : Nat) : (s.wRecord h i v).encs = s.encs := rfl
@[simp] theorem State.wRecord_cov (s : State) (h i v : Nat) : (s.wRecord h i v).cov = s.cov := rfl
@[simp] theorem State.wRecord_stns (s : State) (h i v : Nat) : (s.wRecord h i v).stns = s.stns := rfl
@[simp] theorem State.wRecord_zrecs (s : State) (h i v : Nat) : (s.wRecord h i v).zrecs = s.zrecs := rfl
@[simp] theorem State.wRecord_zmeas (s : State) (h i v : Nat) : (s.wRecord h i v).zmeas = s.zmeas := rfl
@[simp] theorem State.wRecord_r (s : State) (h i v : Nat) (k : Nat) : (s.wRecord h i v).r k = s.r k := rfl
@[simp] theorem State.wRecord_blob (s : State) (h i v : Nat) (j0 : Nat) : (s.wRecord h i v).blob j0 = s.blob j0 := rfl

/-! wBank -/

@[simp] theorem State.wBank_pending (s : State) (b : Nat) (x : Bank) : (s.wBank b x).pending = s.pending := rfl
@[simp] theorem State.wBank_clk (s : State) (b : Nat) (x : Bank) : (s.wBank b x).clk = s.clk := rfl
@[simp] theorem State.wBank_free (s : State) (b : Nat) (x : Bank) : (s.wBank b x).free = s.free := rfl
@[simp] theorem State.wBank_regs (s : State) (b : Nat) (x : Bank) : (s.wBank b x).regs = s.regs := rfl
@[simp] theorem State.wBank_blobs (s : State) (b : Nat) (x : Bank) : (s.wBank b x).blobs = s.blobs := rfl
@[simp] theorem State.wBank_od (s : State) (b : Nat) (x : Bank) : (s.wBank b x).od = s.od := rfl
@[simp] theorem State.wBank_tly (s : State) (b : Nat) (x : Bank) : (s.wBank b x).tly = s.tly := rfl
@[simp] theorem State.wBank_nvm (s : State) (b : Nat) (x : Bank) : (s.wBank b x).nvm = s.nvm := rfl
@[simp] theorem State.wBank_flash (s : State) (b : Nat) (x : Bank) : (s.wBank b x).flash = s.flash := rfl
@[simp] theorem State.wBank_fac (s : State) (b : Nat) (x : Bank) : (s.wBank b x).fac = s.fac := rfl
@[simp] theorem State.wBank_ret (s : State) (b : Nat) (x : Bank) : (s.wBank b x).ret = s.ret := rfl
@[simp] theorem State.wBank_tap (s : State) (b : Nat) (x : Bank) : (s.wBank b x).tap = s.tap := rfl
@[simp] theorem State.wBank_boot (s : State) (b : Nat) (x : Bank) : (s.wBank b x).boot = s.boot := rfl
@[simp] theorem State.wBank_pair (s : State) (b : Nat) (x : Bank) : (s.wBank b x).pair = s.pair := rfl
@[simp] theorem State.wBank_ptx (s : State) (b : Nat) (x : Bank) : (s.wBank b x).ptx = s.ptx := rfl
@[simp] theorem State.wBank_pwr (s : State) (b : Nat) (x : Bank) : (s.wBank b x).pwr = s.pwr := rfl
@[simp] theorem State.wBank_ring (s : State) (b : Nat) (x : Bank) : (s.wBank b x).ring = s.ring := rfl
@[simp] theorem State.wBank_heads (s : State) (b : Nat) (x : Bank) : (s.wBank b x).heads = s.heads := rfl
@[simp] theorem State.wBank_hrx (s : State) (b : Nat) (x : Bank) : (s.wBank b x).hrx = s.hrx := rfl
@[simp] theorem State.wBank_hout (s : State) (b : Nat) (x : Bank) : (s.wBank b x).hout = s.hout := rfl
@[simp] theorem State.wBank_pipes (s : State) (b : Nat) (x : Bank) : (s.wBank b x).pipes = s.pipes := rfl
@[simp] theorem State.wBank_folds (s : State) (b : Nat) (x : Bank) : (s.wBank b x).folds = s.folds := rfl
@[simp] theorem State.wBank_px (s : State) (b : Nat) (x : Bank) : (s.wBank b x).px = s.px := rfl
@[simp] theorem State.wBank_rad (s : State) (b : Nat) (x : Bank) : (s.wBank b x).rad = s.rad := rfl
@[simp] theorem State.wBank_xp (s : State) (b : Nat) (x : Bank) : (s.wBank b x).xp = s.xp := rfl
@[simp] theorem State.wBank_shep (s : State) (b : Nat) (x : Bank) : (s.wBank b x).shep = s.shep := rfl
@[simp] theorem State.wBank_mem (s : State) (b : Nat) (x : Bank) : (s.wBank b x).mem = s.mem := rfl
@[simp] theorem State.wBank_lanes (s : State) (b : Nat) (x : Bank) : (s.wBank b x).lanes = s.lanes := rfl
@[simp] theorem State.wBank_auxs (s : State) (b : Nat) (x : Bank) : (s.wBank b x).auxs = s.auxs := rfl
@[simp] theorem State.wBank_tw (s : State) (b : Nat) (x : Bank) : (s.wBank b x).tw = s.tw := rfl
@[simp] theorem State.wBank_chans (s : State) (b : Nat) (x : Bank) : (s.wBank b x).chans = s.chans := rfl
@[simp] theorem State.wBank_d2d (s : State) (b : Nat) (x : Bank) : (s.wBank b x).d2d = s.d2d := rfl
@[simp] theorem State.wBank_zones (s : State) (b : Nat) (x : Bank) : (s.wBank b x).zones = s.zones := rfl
@[simp] theorem State.wBank_tick (s : State) (b : Nat) (x : Bank) : (s.wBank b x).tick = s.tick := rfl
@[simp] theorem State.wBank_encs (s : State) (b : Nat) (x : Bank) : (s.wBank b x).encs = s.encs := rfl
@[simp] theorem State.wBank_cov (s : State) (b : Nat) (x : Bank) : (s.wBank b x).cov = s.cov := rfl
@[simp] theorem State.wBank_stns (s : State) (b : Nat) (x : Bank) : (s.wBank b x).stns = s.stns := rfl
@[simp] theorem State.wBank_zrecs (s : State) (b : Nat) (x : Bank) : (s.wBank b x).zrecs = s.zrecs := rfl
@[simp] theorem State.wBank_zmeas (s : State) (b : Nat) (x : Bank) : (s.wBank b x).zmeas = s.zmeas := rfl
@[simp] theorem State.wBank_r (s : State) (b : Nat) (x : Bank) (k : Nat) : (s.wBank b x).r k = s.r k := rfl
@[simp] theorem State.wBank_blob (s : State) (b : Nat) (x : Bank) (j0 : Nat) : (s.wBank b x).blob j0 = s.blob j0 := rfl

/-! wChan -/

@[simp] theorem State.wChan_pending (s : State) (n : Nat) (x : Chan) : (s.wChan n x).pending = s.pending := rfl
@[simp] theorem State.wChan_clk (s : State) (n : Nat) (x : Chan) : (s.wChan n x).clk = s.clk := rfl
@[simp] theorem State.wChan_free (s : State) (n : Nat) (x : Chan) : (s.wChan n x).free = s.free := rfl
@[simp] theorem State.wChan_regs (s : State) (n : Nat) (x : Chan) : (s.wChan n x).regs = s.regs := rfl
@[simp] theorem State.wChan_blobs (s : State) (n : Nat) (x : Chan) : (s.wChan n x).blobs = s.blobs := rfl
@[simp] theorem State.wChan_od (s : State) (n : Nat) (x : Chan) : (s.wChan n x).od = s.od := rfl
@[simp] theorem State.wChan_tly (s : State) (n : Nat) (x : Chan) : (s.wChan n x).tly = s.tly := rfl
@[simp] theorem State.wChan_nvm (s : State) (n : Nat) (x : Chan) : (s.wChan n x).nvm = s.nvm := rfl
@[simp] theorem State.wChan_flash (s : State) (n : Nat) (x : Chan) : (s.wChan n x).flash = s.flash := rfl
@[simp] theorem State.wChan_fac (s : State) (n : Nat) (x : Chan) : (s.wChan n x).fac = s.fac := rfl
@[simp] theorem State.wChan_ret (s : State) (n : Nat) (x : Chan) : (s.wChan n x).ret = s.ret := rfl
@[simp] theorem State.wChan_tap (s : State) (n : Nat) (x : Chan) : (s.wChan n x).tap = s.tap := rfl
@[simp] theorem State.wChan_boot (s : State) (n : Nat) (x : Chan) : (s.wChan n x).boot = s.boot := rfl
@[simp] theorem State.wChan_pair (s : State) (n : Nat) (x : Chan) : (s.wChan n x).pair = s.pair := rfl
@[simp] theorem State.wChan_ptx (s : State) (n : Nat) (x : Chan) : (s.wChan n x).ptx = s.ptx := rfl
@[simp] theorem State.wChan_pwr (s : State) (n : Nat) (x : Chan) : (s.wChan n x).pwr = s.pwr := rfl
@[simp] theorem State.wChan_ring (s : State) (n : Nat) (x : Chan) : (s.wChan n x).ring = s.ring := rfl
@[simp] theorem State.wChan_heads (s : State) (n : Nat) (x : Chan) : (s.wChan n x).heads = s.heads := rfl
@[simp] theorem State.wChan_hrx (s : State) (n : Nat) (x : Chan) : (s.wChan n x).hrx = s.hrx := rfl
@[simp] theorem State.wChan_hout (s : State) (n : Nat) (x : Chan) : (s.wChan n x).hout = s.hout := rfl
@[simp] theorem State.wChan_pipes (s : State) (n : Nat) (x : Chan) : (s.wChan n x).pipes = s.pipes := rfl
@[simp] theorem State.wChan_folds (s : State) (n : Nat) (x : Chan) : (s.wChan n x).folds = s.folds := rfl
@[simp] theorem State.wChan_px (s : State) (n : Nat) (x : Chan) : (s.wChan n x).px = s.px := rfl
@[simp] theorem State.wChan_rad (s : State) (n : Nat) (x : Chan) : (s.wChan n x).rad = s.rad := rfl
@[simp] theorem State.wChan_xp (s : State) (n : Nat) (x : Chan) : (s.wChan n x).xp = s.xp := rfl
@[simp] theorem State.wChan_shep (s : State) (n : Nat) (x : Chan) : (s.wChan n x).shep = s.shep := rfl
@[simp] theorem State.wChan_mem (s : State) (n : Nat) (x : Chan) : (s.wChan n x).mem = s.mem := rfl
@[simp] theorem State.wChan_lanes (s : State) (n : Nat) (x : Chan) : (s.wChan n x).lanes = s.lanes := rfl
@[simp] theorem State.wChan_auxs (s : State) (n : Nat) (x : Chan) : (s.wChan n x).auxs = s.auxs := rfl
@[simp] theorem State.wChan_tw (s : State) (n : Nat) (x : Chan) : (s.wChan n x).tw = s.tw := rfl
@[simp] theorem State.wChan_banks (s : State) (n : Nat) (x : Chan) : (s.wChan n x).banks = s.banks := rfl
@[simp] theorem State.wChan_d2d (s : State) (n : Nat) (x : Chan) : (s.wChan n x).d2d = s.d2d := rfl
@[simp] theorem State.wChan_zones (s : State) (n : Nat) (x : Chan) : (s.wChan n x).zones = s.zones := rfl
@[simp] theorem State.wChan_tick (s : State) (n : Nat) (x : Chan) : (s.wChan n x).tick = s.tick := rfl
@[simp] theorem State.wChan_encs (s : State) (n : Nat) (x : Chan) : (s.wChan n x).encs = s.encs := rfl
@[simp] theorem State.wChan_cov (s : State) (n : Nat) (x : Chan) : (s.wChan n x).cov = s.cov := rfl
@[simp] theorem State.wChan_stns (s : State) (n : Nat) (x : Chan) : (s.wChan n x).stns = s.stns := rfl
@[simp] theorem State.wChan_zrecs (s : State) (n : Nat) (x : Chan) : (s.wChan n x).zrecs = s.zrecs := rfl
@[simp] theorem State.wChan_zmeas (s : State) (n : Nat) (x : Chan) : (s.wChan n x).zmeas = s.zmeas := rfl
@[simp] theorem State.wChan_r (s : State) (n : Nat) (x : Chan) (k : Nat) : (s.wChan n x).r k = s.r k := rfl
@[simp] theorem State.wChan_blob (s : State) (n : Nat) (x : Chan) (j0 : Nat) : (s.wChan n x).blob j0 = s.blob j0 := rfl

/-! wZone -/

@[simp] theorem State.wZone_pending (s : State) (z : Nat) (x : Zone) : (s.wZone z x).pending = s.pending := rfl
@[simp] theorem State.wZone_clk (s : State) (z : Nat) (x : Zone) : (s.wZone z x).clk = s.clk := rfl
@[simp] theorem State.wZone_free (s : State) (z : Nat) (x : Zone) : (s.wZone z x).free = s.free := rfl
@[simp] theorem State.wZone_regs (s : State) (z : Nat) (x : Zone) : (s.wZone z x).regs = s.regs := rfl
@[simp] theorem State.wZone_blobs (s : State) (z : Nat) (x : Zone) : (s.wZone z x).blobs = s.blobs := rfl
@[simp] theorem State.wZone_od (s : State) (z : Nat) (x : Zone) : (s.wZone z x).od = s.od := rfl
@[simp] theorem State.wZone_tly (s : State) (z : Nat) (x : Zone) : (s.wZone z x).tly = s.tly := rfl
@[simp] theorem State.wZone_nvm (s : State) (z : Nat) (x : Zone) : (s.wZone z x).nvm = s.nvm := rfl
@[simp] theorem State.wZone_flash (s : State) (z : Nat) (x : Zone) : (s.wZone z x).flash = s.flash := rfl
@[simp] theorem State.wZone_fac (s : State) (z : Nat) (x : Zone) : (s.wZone z x).fac = s.fac := rfl
@[simp] theorem State.wZone_ret (s : State) (z : Nat) (x : Zone) : (s.wZone z x).ret = s.ret := rfl
@[simp] theorem State.wZone_tap (s : State) (z : Nat) (x : Zone) : (s.wZone z x).tap = s.tap := rfl
@[simp] theorem State.wZone_boot (s : State) (z : Nat) (x : Zone) : (s.wZone z x).boot = s.boot := rfl
@[simp] theorem State.wZone_pair (s : State) (z : Nat) (x : Zone) : (s.wZone z x).pair = s.pair := rfl
@[simp] theorem State.wZone_ptx (s : State) (z : Nat) (x : Zone) : (s.wZone z x).ptx = s.ptx := rfl
@[simp] theorem State.wZone_pwr (s : State) (z : Nat) (x : Zone) : (s.wZone z x).pwr = s.pwr := rfl
@[simp] theorem State.wZone_ring (s : State) (z : Nat) (x : Zone) : (s.wZone z x).ring = s.ring := rfl
@[simp] theorem State.wZone_heads (s : State) (z : Nat) (x : Zone) : (s.wZone z x).heads = s.heads := rfl
@[simp] theorem State.wZone_hrx (s : State) (z : Nat) (x : Zone) : (s.wZone z x).hrx = s.hrx := rfl
@[simp] theorem State.wZone_hout (s : State) (z : Nat) (x : Zone) : (s.wZone z x).hout = s.hout := rfl
@[simp] theorem State.wZone_pipes (s : State) (z : Nat) (x : Zone) : (s.wZone z x).pipes = s.pipes := rfl
@[simp] theorem State.wZone_folds (s : State) (z : Nat) (x : Zone) : (s.wZone z x).folds = s.folds := rfl
@[simp] theorem State.wZone_px (s : State) (z : Nat) (x : Zone) : (s.wZone z x).px = s.px := rfl
@[simp] theorem State.wZone_rad (s : State) (z : Nat) (x : Zone) : (s.wZone z x).rad = s.rad := rfl
@[simp] theorem State.wZone_xp (s : State) (z : Nat) (x : Zone) : (s.wZone z x).xp = s.xp := rfl
@[simp] theorem State.wZone_shep (s : State) (z : Nat) (x : Zone) : (s.wZone z x).shep = s.shep := rfl
@[simp] theorem State.wZone_mem (s : State) (z : Nat) (x : Zone) : (s.wZone z x).mem = s.mem := rfl
@[simp] theorem State.wZone_lanes (s : State) (z : Nat) (x : Zone) : (s.wZone z x).lanes = s.lanes := rfl
@[simp] theorem State.wZone_auxs (s : State) (z : Nat) (x : Zone) : (s.wZone z x).auxs = s.auxs := rfl
@[simp] theorem State.wZone_tw (s : State) (z : Nat) (x : Zone) : (s.wZone z x).tw = s.tw := rfl
@[simp] theorem State.wZone_banks (s : State) (z : Nat) (x : Zone) : (s.wZone z x).banks = s.banks := rfl
@[simp] theorem State.wZone_chans (s : State) (z : Nat) (x : Zone) : (s.wZone z x).chans = s.chans := rfl
@[simp] theorem State.wZone_d2d (s : State) (z : Nat) (x : Zone) : (s.wZone z x).d2d = s.d2d := rfl
@[simp] theorem State.wZone_tick (s : State) (z : Nat) (x : Zone) : (s.wZone z x).tick = s.tick := rfl
@[simp] theorem State.wZone_encs (s : State) (z : Nat) (x : Zone) : (s.wZone z x).encs = s.encs := rfl
@[simp] theorem State.wZone_cov (s : State) (z : Nat) (x : Zone) : (s.wZone z x).cov = s.cov := rfl
@[simp] theorem State.wZone_stns (s : State) (z : Nat) (x : Zone) : (s.wZone z x).stns = s.stns := rfl
@[simp] theorem State.wZone_zrecs (s : State) (z : Nat) (x : Zone) : (s.wZone z x).zrecs = s.zrecs := rfl
@[simp] theorem State.wZone_zmeas (s : State) (z : Nat) (x : Zone) : (s.wZone z x).zmeas = s.zmeas := rfl
@[simp] theorem State.wZone_r (s : State) (z : Nat) (x : Zone) (k : Nat) : (s.wZone z x).r k = s.r k := rfl
@[simp] theorem State.wZone_blob (s : State) (z : Nat) (x : Zone) (j0 : Nat) : (s.wZone z x).blob j0 = s.blob j0 := rfl

/-! wPort -/

@[simp] theorem State.wPort_pending (s : State) (p : Nat) (x : Port) : (s.wPort p x).pending = s.pending := rfl
@[simp] theorem State.wPort_clk (s : State) (p : Nat) (x : Port) : (s.wPort p x).clk = s.clk := rfl
@[simp] theorem State.wPort_free (s : State) (p : Nat) (x : Port) : (s.wPort p x).free = s.free := rfl
@[simp] theorem State.wPort_regs (s : State) (p : Nat) (x : Port) : (s.wPort p x).regs = s.regs := rfl
@[simp] theorem State.wPort_blobs (s : State) (p : Nat) (x : Port) : (s.wPort p x).blobs = s.blobs := rfl
@[simp] theorem State.wPort_od (s : State) (p : Nat) (x : Port) : (s.wPort p x).od = s.od := rfl
@[simp] theorem State.wPort_tly (s : State) (p : Nat) (x : Port) : (s.wPort p x).tly = s.tly := rfl
@[simp] theorem State.wPort_nvm (s : State) (p : Nat) (x : Port) : (s.wPort p x).nvm = s.nvm := rfl
@[simp] theorem State.wPort_flash (s : State) (p : Nat) (x : Port) : (s.wPort p x).flash = s.flash := rfl
@[simp] theorem State.wPort_fac (s : State) (p : Nat) (x : Port) : (s.wPort p x).fac = s.fac := rfl
@[simp] theorem State.wPort_ret (s : State) (p : Nat) (x : Port) : (s.wPort p x).ret = s.ret := rfl
@[simp] theorem State.wPort_tap (s : State) (p : Nat) (x : Port) : (s.wPort p x).tap = s.tap := rfl
@[simp] theorem State.wPort_boot (s : State) (p : Nat) (x : Port) : (s.wPort p x).boot = s.boot := rfl
@[simp] theorem State.wPort_pair (s : State) (p : Nat) (x : Port) : (s.wPort p x).pair = s.pair := rfl
@[simp] theorem State.wPort_ptx (s : State) (p : Nat) (x : Port) : (s.wPort p x).ptx = s.ptx := rfl
@[simp] theorem State.wPort_pwr (s : State) (p : Nat) (x : Port) : (s.wPort p x).pwr = s.pwr := rfl
@[simp] theorem State.wPort_heads (s : State) (p : Nat) (x : Port) : (s.wPort p x).heads = s.heads := rfl
@[simp] theorem State.wPort_hrx (s : State) (p : Nat) (x : Port) : (s.wPort p x).hrx = s.hrx := rfl
@[simp] theorem State.wPort_hout (s : State) (p : Nat) (x : Port) : (s.wPort p x).hout = s.hout := rfl
@[simp] theorem State.wPort_pipes (s : State) (p : Nat) (x : Port) : (s.wPort p x).pipes = s.pipes := rfl
@[simp] theorem State.wPort_folds (s : State) (p : Nat) (x : Port) : (s.wPort p x).folds = s.folds := rfl
@[simp] theorem State.wPort_px (s : State) (p : Nat) (x : Port) : (s.wPort p x).px = s.px := rfl
@[simp] theorem State.wPort_rad (s : State) (p : Nat) (x : Port) : (s.wPort p x).rad = s.rad := rfl
@[simp] theorem State.wPort_xp (s : State) (p : Nat) (x : Port) : (s.wPort p x).xp = s.xp := rfl
@[simp] theorem State.wPort_shep (s : State) (p : Nat) (x : Port) : (s.wPort p x).shep = s.shep := rfl
@[simp] theorem State.wPort_mem (s : State) (p : Nat) (x : Port) : (s.wPort p x).mem = s.mem := rfl
@[simp] theorem State.wPort_lanes (s : State) (p : Nat) (x : Port) : (s.wPort p x).lanes = s.lanes := rfl
@[simp] theorem State.wPort_auxs (s : State) (p : Nat) (x : Port) : (s.wPort p x).auxs = s.auxs := rfl
@[simp] theorem State.wPort_tw (s : State) (p : Nat) (x : Port) : (s.wPort p x).tw = s.tw := rfl
@[simp] theorem State.wPort_banks (s : State) (p : Nat) (x : Port) : (s.wPort p x).banks = s.banks := rfl
@[simp] theorem State.wPort_chans (s : State) (p : Nat) (x : Port) : (s.wPort p x).chans = s.chans := rfl
@[simp] theorem State.wPort_d2d (s : State) (p : Nat) (x : Port) : (s.wPort p x).d2d = s.d2d := rfl
@[simp] theorem State.wPort_zones (s : State) (p : Nat) (x : Port) : (s.wPort p x).zones = s.zones := rfl
@[simp] theorem State.wPort_tick (s : State) (p : Nat) (x : Port) : (s.wPort p x).tick = s.tick := rfl
@[simp] theorem State.wPort_encs (s : State) (p : Nat) (x : Port) : (s.wPort p x).encs = s.encs := rfl
@[simp] theorem State.wPort_cov (s : State) (p : Nat) (x : Port) : (s.wPort p x).cov = s.cov := rfl
@[simp] theorem State.wPort_stns (s : State) (p : Nat) (x : Port) : (s.wPort p x).stns = s.stns := rfl
@[simp] theorem State.wPort_zrecs (s : State) (p : Nat) (x : Port) : (s.wPort p x).zrecs = s.zrecs := rfl
@[simp] theorem State.wPort_zmeas (s : State) (p : Nat) (x : Port) : (s.wPort p x).zmeas = s.zmeas := rfl
@[simp] theorem State.wPort_r (s : State) (p : Nat) (x : Port) (k : Nat) : (s.wPort p x).r k = s.r k := rfl
@[simp] theorem State.wPort_blob (s : State) (p : Nat) (x : Port) (j0 : Nat) : (s.wPort p x).blob j0 = s.blob j0 := rfl

/-! wSlot -/

@[simp] theorem State.wSlot_pending (s : State) (t c : Nat) (b : Bytes) : (s.wSlot t c b).pending = s.pending := rfl
@[simp] theorem State.wSlot_clk (s : State) (t c : Nat) (b : Bytes) : (s.wSlot t c b).clk = s.clk := rfl
@[simp] theorem State.wSlot_free (s : State) (t c : Nat) (b : Bytes) : (s.wSlot t c b).free = s.free := rfl
@[simp] theorem State.wSlot_regs (s : State) (t c : Nat) (b : Bytes) : (s.wSlot t c b).regs = s.regs := rfl
@[simp] theorem State.wSlot_blobs (s : State) (t c : Nat) (b : Bytes) : (s.wSlot t c b).blobs = s.blobs := rfl
@[simp] theorem State.wSlot_od (s : State) (t c : Nat) (b : Bytes) : (s.wSlot t c b).od = s.od := rfl
@[simp] theorem State.wSlot_tly (s : State) (t c : Nat) (b : Bytes) : (s.wSlot t c b).tly = s.tly := rfl
@[simp] theorem State.wSlot_nvm (s : State) (t c : Nat) (b : Bytes) : (s.wSlot t c b).nvm = s.nvm := rfl
@[simp] theorem State.wSlot_flash (s : State) (t c : Nat) (b : Bytes) : (s.wSlot t c b).flash = s.flash := rfl
@[simp] theorem State.wSlot_fac (s : State) (t c : Nat) (b : Bytes) : (s.wSlot t c b).fac = s.fac := rfl
@[simp] theorem State.wSlot_ret (s : State) (t c : Nat) (b : Bytes) : (s.wSlot t c b).ret = s.ret := rfl
@[simp] theorem State.wSlot_tap (s : State) (t c : Nat) (b : Bytes) : (s.wSlot t c b).tap = s.tap := rfl
@[simp] theorem State.wSlot_boot (s : State) (t c : Nat) (b : Bytes) : (s.wSlot t c b).boot = s.boot := rfl
@[simp] theorem State.wSlot_pair (s : State) (t c : Nat) (b : Bytes) : (s.wSlot t c b).pair = s.pair := rfl
@[simp] theorem State.wSlot_ptx (s : State) (t c : Nat) (b : Bytes) : (s.wSlot t c b).ptx = s.ptx := rfl
@[simp] theorem State.wSlot_pwr (s : State) (t c : Nat) (b : Bytes) : (s.wSlot t c b).pwr = s.pwr := rfl
@[simp] theorem State.wSlot_ring (s : State) (t c : Nat) (b : Bytes) : (s.wSlot t c b).ring = s.ring := rfl
@[simp] theorem State.wSlot_heads (s : State) (t c : Nat) (b : Bytes) : (s.wSlot t c b).heads = s.heads := rfl
@[simp] theorem State.wSlot_hrx (s : State) (t c : Nat) (b : Bytes) : (s.wSlot t c b).hrx = s.hrx := rfl
@[simp] theorem State.wSlot_hout (s : State) (t c : Nat) (b : Bytes) : (s.wSlot t c b).hout = s.hout := rfl
@[simp] theorem State.wSlot_pipes (s : State) (t c : Nat) (b : Bytes) : (s.wSlot t c b).pipes = s.pipes := rfl
@[simp] theorem State.wSlot_folds (s : State) (t c : Nat) (b : Bytes) : (s.wSlot t c b).folds = s.folds := rfl
@[simp] theorem State.wSlot_px (s : State) (t c : Nat) (b : Bytes) : (s.wSlot t c b).px = s.px := rfl
@[simp] theorem State.wSlot_xp (s : State) (t c : Nat) (b : Bytes) : (s.wSlot t c b).xp = s.xp := rfl
@[simp] theorem State.wSlot_shep (s : State) (t c : Nat) (b : Bytes) : (s.wSlot t c b).shep = s.shep := rfl
@[simp] theorem State.wSlot_mem (s : State) (t c : Nat) (b : Bytes) : (s.wSlot t c b).mem = s.mem := rfl
@[simp] theorem State.wSlot_lanes (s : State) (t c : Nat) (b : Bytes) : (s.wSlot t c b).lanes = s.lanes := rfl
@[simp] theorem State.wSlot_auxs (s : State) (t c : Nat) (b : Bytes) : (s.wSlot t c b).auxs = s.auxs := rfl
@[simp] theorem State.wSlot_tw (s : State) (t c : Nat) (b : Bytes) : (s.wSlot t c b).tw = s.tw := rfl
@[simp] theorem State.wSlot_banks (s : State) (t c : Nat) (b : Bytes) : (s.wSlot t c b).banks = s.banks := rfl
@[simp] theorem State.wSlot_chans (s : State) (t c : Nat) (b : Bytes) : (s.wSlot t c b).chans = s.chans := rfl
@[simp] theorem State.wSlot_d2d (s : State) (t c : Nat) (b : Bytes) : (s.wSlot t c b).d2d = s.d2d := rfl
@[simp] theorem State.wSlot_zones (s : State) (t c : Nat) (b : Bytes) : (s.wSlot t c b).zones = s.zones := rfl
@[simp] theorem State.wSlot_tick (s : State) (t c : Nat) (b : Bytes) : (s.wSlot t c b).tick = s.tick := rfl
@[simp] theorem State.wSlot_encs (s : State) (t c : Nat) (b : Bytes) : (s.wSlot t c b).encs = s.encs := rfl
@[simp] theorem State.wSlot_cov (s : State) (t c : Nat) (b : Bytes) : (s.wSlot t c b).cov = s.cov := rfl
@[simp] theorem State.wSlot_stns (s : State) (t c : Nat) (b : Bytes) : (s.wSlot t c b).stns = s.stns := rfl
@[simp] theorem State.wSlot_zrecs (s : State) (t c : Nat) (b : Bytes) : (s.wSlot t c b).zrecs = s.zrecs := rfl
@[simp] theorem State.wSlot_zmeas (s : State) (t c : Nat) (b : Bytes) : (s.wSlot t c b).zmeas = s.zmeas := rfl
@[simp] theorem State.wSlot_r (s : State) (t c : Nat) (b : Bytes) (k : Nat) : (s.wSlot t c b).r k = s.r k := rfl
@[simp] theorem State.wSlot_blob (s : State) (t c : Nat) (b : Bytes) (j0 : Nat) : (s.wSlot t c b).blob j0 = s.blob j0 := rfl

/-! wXQueue -/

@[simp] theorem State.wXQueue_pending (s : State) (g : Nat) (q : List XPkt) : (s.wXQueue g q).pending = s.pending := rfl
@[simp] theorem State.wXQueue_clk (s : State) (g : Nat) (q : List XPkt) : (s.wXQueue g q).clk = s.clk := rfl
@[simp] theorem State.wXQueue_free (s : State) (g : Nat) (q : List XPkt) : (s.wXQueue g q).free = s.free := rfl
@[simp] theorem State.wXQueue_regs (s : State) (g : Nat) (q : List XPkt) : (s.wXQueue g q).regs = s.regs := rfl
@[simp] theorem State.wXQueue_blobs (s : State) (g : Nat) (q : List XPkt) : (s.wXQueue g q).blobs = s.blobs := rfl
@[simp] theorem State.wXQueue_od (s : State) (g : Nat) (q : List XPkt) : (s.wXQueue g q).od = s.od := rfl
@[simp] theorem State.wXQueue_tly (s : State) (g : Nat) (q : List XPkt) : (s.wXQueue g q).tly = s.tly := rfl
@[simp] theorem State.wXQueue_nvm (s : State) (g : Nat) (q : List XPkt) : (s.wXQueue g q).nvm = s.nvm := rfl
@[simp] theorem State.wXQueue_flash (s : State) (g : Nat) (q : List XPkt) : (s.wXQueue g q).flash = s.flash := rfl
@[simp] theorem State.wXQueue_fac (s : State) (g : Nat) (q : List XPkt) : (s.wXQueue g q).fac = s.fac := rfl
@[simp] theorem State.wXQueue_ret (s : State) (g : Nat) (q : List XPkt) : (s.wXQueue g q).ret = s.ret := rfl
@[simp] theorem State.wXQueue_tap (s : State) (g : Nat) (q : List XPkt) : (s.wXQueue g q).tap = s.tap := rfl
@[simp] theorem State.wXQueue_boot (s : State) (g : Nat) (q : List XPkt) : (s.wXQueue g q).boot = s.boot := rfl
@[simp] theorem State.wXQueue_pair (s : State) (g : Nat) (q : List XPkt) : (s.wXQueue g q).pair = s.pair := rfl
@[simp] theorem State.wXQueue_ptx (s : State) (g : Nat) (q : List XPkt) : (s.wXQueue g q).ptx = s.ptx := rfl
@[simp] theorem State.wXQueue_pwr (s : State) (g : Nat) (q : List XPkt) : (s.wXQueue g q).pwr = s.pwr := rfl
@[simp] theorem State.wXQueue_ring (s : State) (g : Nat) (q : List XPkt) : (s.wXQueue g q).ring = s.ring := rfl
@[simp] theorem State.wXQueue_heads (s : State) (g : Nat) (q : List XPkt) : (s.wXQueue g q).heads = s.heads := rfl
@[simp] theorem State.wXQueue_hrx (s : State) (g : Nat) (q : List XPkt) : (s.wXQueue g q).hrx = s.hrx := rfl
@[simp] theorem State.wXQueue_hout (s : State) (g : Nat) (q : List XPkt) : (s.wXQueue g q).hout = s.hout := rfl
@[simp] theorem State.wXQueue_pipes (s : State) (g : Nat) (q : List XPkt) : (s.wXQueue g q).pipes = s.pipes := rfl
@[simp] theorem State.wXQueue_folds (s : State) (g : Nat) (q : List XPkt) : (s.wXQueue g q).folds = s.folds := rfl
@[simp] theorem State.wXQueue_px (s : State) (g : Nat) (q : List XPkt) : (s.wXQueue g q).px = s.px := rfl
@[simp] theorem State.wXQueue_rad (s : State) (g : Nat) (q : List XPkt) : (s.wXQueue g q).rad = s.rad := rfl
@[simp] theorem State.wXQueue_shep (s : State) (g : Nat) (q : List XPkt) : (s.wXQueue g q).shep = s.shep := rfl
@[simp] theorem State.wXQueue_mem (s : State) (g : Nat) (q : List XPkt) : (s.wXQueue g q).mem = s.mem := rfl
@[simp] theorem State.wXQueue_lanes (s : State) (g : Nat) (q : List XPkt) : (s.wXQueue g q).lanes = s.lanes := rfl
@[simp] theorem State.wXQueue_auxs (s : State) (g : Nat) (q : List XPkt) : (s.wXQueue g q).auxs = s.auxs := rfl
@[simp] theorem State.wXQueue_tw (s : State) (g : Nat) (q : List XPkt) : (s.wXQueue g q).tw = s.tw := rfl
@[simp] theorem State.wXQueue_banks (s : State) (g : Nat) (q : List XPkt) : (s.wXQueue g q).banks = s.banks := rfl
@[simp] theorem State.wXQueue_chans (s : State) (g : Nat) (q : List XPkt) : (s.wXQueue g q).chans = s.chans := rfl
@[simp] theorem State.wXQueue_d2d (s : State) (g : Nat) (q : List XPkt) : (s.wXQueue g q).d2d = s.d2d := rfl
@[simp] theorem State.wXQueue_zones (s : State) (g : Nat) (q : List XPkt) : (s.wXQueue g q).zones = s.zones := rfl
@[simp] theorem State.wXQueue_tick (s : State) (g : Nat) (q : List XPkt) : (s.wXQueue g q).tick = s.tick := rfl
@[simp] theorem State.wXQueue_encs (s : State) (g : Nat) (q : List XPkt) : (s.wXQueue g q).encs = s.encs := rfl
@[simp] theorem State.wXQueue_cov (s : State) (g : Nat) (q : List XPkt) : (s.wXQueue g q).cov = s.cov := rfl
@[simp] theorem State.wXQueue_stns (s : State) (g : Nat) (q : List XPkt) : (s.wXQueue g q).stns = s.stns := rfl
@[simp] theorem State.wXQueue_zrecs (s : State) (g : Nat) (q : List XPkt) : (s.wXQueue g q).zrecs = s.zrecs := rfl
@[simp] theorem State.wXQueue_zmeas (s : State) (g : Nat) (q : List XPkt) : (s.wXQueue g q).zmeas = s.zmeas := rfl
@[simp] theorem State.wXQueue_r (s : State) (g : Nat) (q : List XPkt) (k : Nat) : (s.wXQueue g q).r k = s.r k := rfl
@[simp] theorem State.wXQueue_blob (s : State) (g : Nat) (q : List XPkt) (j0 : Nat) : (s.wXQueue g q).blob j0 = s.blob j0 := rfl

/-! wXLane -/

@[simp] theorem State.wXLane_pending (s : State) (x : Nat) (p : Option XPkt) : (s.wXLane x p).pending = s.pending := rfl
@[simp] theorem State.wXLane_clk (s : State) (x : Nat) (p : Option XPkt) : (s.wXLane x p).clk = s.clk := rfl
@[simp] theorem State.wXLane_free (s : State) (x : Nat) (p : Option XPkt) : (s.wXLane x p).free = s.free := rfl
@[simp] theorem State.wXLane_regs (s : State) (x : Nat) (p : Option XPkt) : (s.wXLane x p).regs = s.regs := rfl
@[simp] theorem State.wXLane_blobs (s : State) (x : Nat) (p : Option XPkt) : (s.wXLane x p).blobs = s.blobs := rfl
@[simp] theorem State.wXLane_od (s : State) (x : Nat) (p : Option XPkt) : (s.wXLane x p).od = s.od := rfl
@[simp] theorem State.wXLane_tly (s : State) (x : Nat) (p : Option XPkt) : (s.wXLane x p).tly = s.tly := rfl
@[simp] theorem State.wXLane_nvm (s : State) (x : Nat) (p : Option XPkt) : (s.wXLane x p).nvm = s.nvm := rfl
@[simp] theorem State.wXLane_flash (s : State) (x : Nat) (p : Option XPkt) : (s.wXLane x p).flash = s.flash := rfl
@[simp] theorem State.wXLane_fac (s : State) (x : Nat) (p : Option XPkt) : (s.wXLane x p).fac = s.fac := rfl
@[simp] theorem State.wXLane_ret (s : State) (x : Nat) (p : Option XPkt) : (s.wXLane x p).ret = s.ret := rfl
@[simp] theorem State.wXLane_tap (s : State) (x : Nat) (p : Option XPkt) : (s.wXLane x p).tap = s.tap := rfl
@[simp] theorem State.wXLane_boot (s : State) (x : Nat) (p : Option XPkt) : (s.wXLane x p).boot = s.boot := rfl
@[simp] theorem State.wXLane_pair (s : State) (x : Nat) (p : Option XPkt) : (s.wXLane x p).pair = s.pair := rfl
@[simp] theorem State.wXLane_ptx (s : State) (x : Nat) (p : Option XPkt) : (s.wXLane x p).ptx = s.ptx := rfl
@[simp] theorem State.wXLane_pwr (s : State) (x : Nat) (p : Option XPkt) : (s.wXLane x p).pwr = s.pwr := rfl
@[simp] theorem State.wXLane_ring (s : State) (x : Nat) (p : Option XPkt) : (s.wXLane x p).ring = s.ring := rfl
@[simp] theorem State.wXLane_heads (s : State) (x : Nat) (p : Option XPkt) : (s.wXLane x p).heads = s.heads := rfl
@[simp] theorem State.wXLane_hrx (s : State) (x : Nat) (p : Option XPkt) : (s.wXLane x p).hrx = s.hrx := rfl
@[simp] theorem State.wXLane_hout (s : State) (x : Nat) (p : Option XPkt) : (s.wXLane x p).hout = s.hout := rfl
@[simp] theorem State.wXLane_pipes (s : State) (x : Nat) (p : Option XPkt) : (s.wXLane x p).pipes = s.pipes := rfl
@[simp] theorem State.wXLane_folds (s : State) (x : Nat) (p : Option XPkt) : (s.wXLane x p).folds = s.folds := rfl
@[simp] theorem State.wXLane_px (s : State) (x : Nat) (p : Option XPkt) : (s.wXLane x p).px = s.px := rfl
@[simp] theorem State.wXLane_rad (s : State) (x : Nat) (p : Option XPkt) : (s.wXLane x p).rad = s.rad := rfl
@[simp] theorem State.wXLane_shep (s : State) (x : Nat) (p : Option XPkt) : (s.wXLane x p).shep = s.shep := rfl
@[simp] theorem State.wXLane_mem (s : State) (x : Nat) (p : Option XPkt) : (s.wXLane x p).mem = s.mem := rfl
@[simp] theorem State.wXLane_lanes (s : State) (x : Nat) (p : Option XPkt) : (s.wXLane x p).lanes = s.lanes := rfl
@[simp] theorem State.wXLane_auxs (s : State) (x : Nat) (p : Option XPkt) : (s.wXLane x p).auxs = s.auxs := rfl
@[simp] theorem State.wXLane_tw (s : State) (x : Nat) (p : Option XPkt) : (s.wXLane x p).tw = s.tw := rfl
@[simp] theorem State.wXLane_banks (s : State) (x : Nat) (p : Option XPkt) : (s.wXLane x p).banks = s.banks := rfl
@[simp] theorem State.wXLane_chans (s : State) (x : Nat) (p : Option XPkt) : (s.wXLane x p).chans = s.chans := rfl
@[simp] theorem State.wXLane_d2d (s : State) (x : Nat) (p : Option XPkt) : (s.wXLane x p).d2d = s.d2d := rfl
@[simp] theorem State.wXLane_zones (s : State) (x : Nat) (p : Option XPkt) : (s.wXLane x p).zones = s.zones := rfl
@[simp] theorem State.wXLane_tick (s : State) (x : Nat) (p : Option XPkt) : (s.wXLane x p).tick = s.tick := rfl
@[simp] theorem State.wXLane_encs (s : State) (x : Nat) (p : Option XPkt) : (s.wXLane x p).encs = s.encs := rfl
@[simp] theorem State.wXLane_cov (s : State) (x : Nat) (p : Option XPkt) : (s.wXLane x p).cov = s.cov := rfl
@[simp] theorem State.wXLane_stns (s : State) (x : Nat) (p : Option XPkt) : (s.wXLane x p).stns = s.stns := rfl
@[simp] theorem State.wXLane_zrecs (s : State) (x : Nat) (p : Option XPkt) : (s.wXLane x p).zrecs = s.zrecs := rfl
@[simp] theorem State.wXLane_zmeas (s : State) (x : Nat) (p : Option XPkt) : (s.wXLane x p).zmeas = s.zmeas := rfl
@[simp] theorem State.wXLane_r (s : State) (x : Nat) (p : Option XPkt) (k : Nat) : (s.wXLane x p).r k = s.r k := rfl
@[simp] theorem State.wXLane_blob (s : State) (x : Nat) (p : Option XPkt) (j0 : Nat) : (s.wXLane x p).blob j0 = s.blob j0 := rfl

/-! wXFrame -/

@[simp] theorem State.wXFrame_pending (s : State) (x : Nat) (f : Option XFrame) : (s.wXFrame x f).pending = s.pending := rfl
@[simp] theorem State.wXFrame_clk (s : State) (x : Nat) (f : Option XFrame) : (s.wXFrame x f).clk = s.clk := rfl
@[simp] theorem State.wXFrame_free (s : State) (x : Nat) (f : Option XFrame) : (s.wXFrame x f).free = s.free := rfl
@[simp] theorem State.wXFrame_regs (s : State) (x : Nat) (f : Option XFrame) : (s.wXFrame x f).regs = s.regs := rfl
@[simp] theorem State.wXFrame_blobs (s : State) (x : Nat) (f : Option XFrame) : (s.wXFrame x f).blobs = s.blobs := rfl
@[simp] theorem State.wXFrame_od (s : State) (x : Nat) (f : Option XFrame) : (s.wXFrame x f).od = s.od := rfl
@[simp] theorem State.wXFrame_tly (s : State) (x : Nat) (f : Option XFrame) : (s.wXFrame x f).tly = s.tly := rfl
@[simp] theorem State.wXFrame_nvm (s : State) (x : Nat) (f : Option XFrame) : (s.wXFrame x f).nvm = s.nvm := rfl
@[simp] theorem State.wXFrame_flash (s : State) (x : Nat) (f : Option XFrame) : (s.wXFrame x f).flash = s.flash := rfl
@[simp] theorem State.wXFrame_fac (s : State) (x : Nat) (f : Option XFrame) : (s.wXFrame x f).fac = s.fac := rfl
@[simp] theorem State.wXFrame_ret (s : State) (x : Nat) (f : Option XFrame) : (s.wXFrame x f).ret = s.ret := rfl
@[simp] theorem State.wXFrame_tap (s : State) (x : Nat) (f : Option XFrame) : (s.wXFrame x f).tap = s.tap := rfl
@[simp] theorem State.wXFrame_boot (s : State) (x : Nat) (f : Option XFrame) : (s.wXFrame x f).boot = s.boot := rfl
@[simp] theorem State.wXFrame_pair (s : State) (x : Nat) (f : Option XFrame) : (s.wXFrame x f).pair = s.pair := rfl
@[simp] theorem State.wXFrame_ptx (s : State) (x : Nat) (f : Option XFrame) : (s.wXFrame x f).ptx = s.ptx := rfl
@[simp] theorem State.wXFrame_pwr (s : State) (x : Nat) (f : Option XFrame) : (s.wXFrame x f).pwr = s.pwr := rfl
@[simp] theorem State.wXFrame_ring (s : State) (x : Nat) (f : Option XFrame) : (s.wXFrame x f).ring = s.ring := rfl
@[simp] theorem State.wXFrame_heads (s : State) (x : Nat) (f : Option XFrame) : (s.wXFrame x f).heads = s.heads := rfl
@[simp] theorem State.wXFrame_hrx (s : State) (x : Nat) (f : Option XFrame) : (s.wXFrame x f).hrx = s.hrx := rfl
@[simp] theorem State.wXFrame_hout (s : State) (x : Nat) (f : Option XFrame) : (s.wXFrame x f).hout = s.hout := rfl
@[simp] theorem State.wXFrame_pipes (s : State) (x : Nat) (f : Option XFrame) : (s.wXFrame x f).pipes = s.pipes := rfl
@[simp] theorem State.wXFrame_folds (s : State) (x : Nat) (f : Option XFrame) : (s.wXFrame x f).folds = s.folds := rfl
@[simp] theorem State.wXFrame_px (s : State) (x : Nat) (f : Option XFrame) : (s.wXFrame x f).px = s.px := rfl
@[simp] theorem State.wXFrame_rad (s : State) (x : Nat) (f : Option XFrame) : (s.wXFrame x f).rad = s.rad := rfl
@[simp] theorem State.wXFrame_shep (s : State) (x : Nat) (f : Option XFrame) : (s.wXFrame x f).shep = s.shep := rfl
@[simp] theorem State.wXFrame_mem (s : State) (x : Nat) (f : Option XFrame) : (s.wXFrame x f).mem = s.mem := rfl
@[simp] theorem State.wXFrame_lanes (s : State) (x : Nat) (f : Option XFrame) : (s.wXFrame x f).lanes = s.lanes := rfl
@[simp] theorem State.wXFrame_auxs (s : State) (x : Nat) (f : Option XFrame) : (s.wXFrame x f).auxs = s.auxs := rfl
@[simp] theorem State.wXFrame_tw (s : State) (x : Nat) (f : Option XFrame) : (s.wXFrame x f).tw = s.tw := rfl
@[simp] theorem State.wXFrame_banks (s : State) (x : Nat) (f : Option XFrame) : (s.wXFrame x f).banks = s.banks := rfl
@[simp] theorem State.wXFrame_chans (s : State) (x : Nat) (f : Option XFrame) : (s.wXFrame x f).chans = s.chans := rfl
@[simp] theorem State.wXFrame_d2d (s : State) (x : Nat) (f : Option XFrame) : (s.wXFrame x f).d2d = s.d2d := rfl
@[simp] theorem State.wXFrame_zones (s : State) (x : Nat) (f : Option XFrame) : (s.wXFrame x f).zones = s.zones := rfl
@[simp] theorem State.wXFrame_tick (s : State) (x : Nat) (f : Option XFrame) : (s.wXFrame x f).tick = s.tick := rfl
@[simp] theorem State.wXFrame_encs (s : State) (x : Nat) (f : Option XFrame) : (s.wXFrame x f).encs = s.encs := rfl
@[simp] theorem State.wXFrame_cov (s : State) (x : Nat) (f : Option XFrame) : (s.wXFrame x f).cov = s.cov := rfl
@[simp] theorem State.wXFrame_stns (s : State) (x : Nat) (f : Option XFrame) : (s.wXFrame x f).stns = s.stns := rfl
@[simp] theorem State.wXFrame_zrecs (s : State) (x : Nat) (f : Option XFrame) : (s.wXFrame x f).zrecs = s.zrecs := rfl
@[simp] theorem State.wXFrame_zmeas (s : State) (x : Nat) (f : Option XFrame) : (s.wXFrame x f).zmeas = s.zmeas := rfl
@[simp] theorem State.wXFrame_r (s : State) (x : Nat) (f : Option XFrame) (k : Nat) : (s.wXFrame x f).r k = s.r k := rfl
@[simp] theorem State.wXFrame_blob (s : State) (x : Nat) (f : Option XFrame) (j0 : Nat) : (s.wXFrame x f).blob j0 = s.blob j0 := rfl

/-! wEnc -/

@[simp] theorem State.wEnc_pending (s : State) (e : Nat) (x : Enc) : (s.wEnc e x).pending = s.pending := rfl
@[simp] theorem State.wEnc_clk (s : State) (e : Nat) (x : Enc) : (s.wEnc e x).clk = s.clk := rfl
@[simp] theorem State.wEnc_free (s : State) (e : Nat) (x : Enc) : (s.wEnc e x).free = s.free := rfl
@[simp] theorem State.wEnc_regs (s : State) (e : Nat) (x : Enc) : (s.wEnc e x).regs = s.regs := rfl
@[simp] theorem State.wEnc_blobs (s : State) (e : Nat) (x : Enc) : (s.wEnc e x).blobs = s.blobs := rfl
@[simp] theorem State.wEnc_od (s : State) (e : Nat) (x : Enc) : (s.wEnc e x).od = s.od := rfl
@[simp] theorem State.wEnc_tly (s : State) (e : Nat) (x : Enc) : (s.wEnc e x).tly = s.tly := rfl
@[simp] theorem State.wEnc_nvm (s : State) (e : Nat) (x : Enc) : (s.wEnc e x).nvm = s.nvm := rfl
@[simp] theorem State.wEnc_flash (s : State) (e : Nat) (x : Enc) : (s.wEnc e x).flash = s.flash := rfl
@[simp] theorem State.wEnc_fac (s : State) (e : Nat) (x : Enc) : (s.wEnc e x).fac = s.fac := rfl
@[simp] theorem State.wEnc_ret (s : State) (e : Nat) (x : Enc) : (s.wEnc e x).ret = s.ret := rfl
@[simp] theorem State.wEnc_tap (s : State) (e : Nat) (x : Enc) : (s.wEnc e x).tap = s.tap := rfl
@[simp] theorem State.wEnc_boot (s : State) (e : Nat) (x : Enc) : (s.wEnc e x).boot = s.boot := rfl
@[simp] theorem State.wEnc_pair (s : State) (e : Nat) (x : Enc) : (s.wEnc e x).pair = s.pair := rfl
@[simp] theorem State.wEnc_ptx (s : State) (e : Nat) (x : Enc) : (s.wEnc e x).ptx = s.ptx := rfl
@[simp] theorem State.wEnc_pwr (s : State) (e : Nat) (x : Enc) : (s.wEnc e x).pwr = s.pwr := rfl
@[simp] theorem State.wEnc_ring (s : State) (e : Nat) (x : Enc) : (s.wEnc e x).ring = s.ring := rfl
@[simp] theorem State.wEnc_heads (s : State) (e : Nat) (x : Enc) : (s.wEnc e x).heads = s.heads := rfl
@[simp] theorem State.wEnc_hrx (s : State) (e : Nat) (x : Enc) : (s.wEnc e x).hrx = s.hrx := rfl
@[simp] theorem State.wEnc_hout (s : State) (e : Nat) (x : Enc) : (s.wEnc e x).hout = s.hout := rfl
@[simp] theorem State.wEnc_pipes (s : State) (e : Nat) (x : Enc) : (s.wEnc e x).pipes = s.pipes := rfl
@[simp] theorem State.wEnc_folds (s : State) (e : Nat) (x : Enc) : (s.wEnc e x).folds = s.folds := rfl
@[simp] theorem State.wEnc_px (s : State) (e : Nat) (x : Enc) : (s.wEnc e x).px = s.px := rfl
@[simp] theorem State.wEnc_rad (s : State) (e : Nat) (x : Enc) : (s.wEnc e x).rad = s.rad := rfl
@[simp] theorem State.wEnc_xp (s : State) (e : Nat) (x : Enc) : (s.wEnc e x).xp = s.xp := rfl
@[simp] theorem State.wEnc_shep (s : State) (e : Nat) (x : Enc) : (s.wEnc e x).shep = s.shep := rfl
@[simp] theorem State.wEnc_mem (s : State) (e : Nat) (x : Enc) : (s.wEnc e x).mem = s.mem := rfl
@[simp] theorem State.wEnc_lanes (s : State) (e : Nat) (x : Enc) : (s.wEnc e x).lanes = s.lanes := rfl
@[simp] theorem State.wEnc_auxs (s : State) (e : Nat) (x : Enc) : (s.wEnc e x).auxs = s.auxs := rfl
@[simp] theorem State.wEnc_tw (s : State) (e : Nat) (x : Enc) : (s.wEnc e x).tw = s.tw := rfl
@[simp] theorem State.wEnc_banks (s : State) (e : Nat) (x : Enc) : (s.wEnc e x).banks = s.banks := rfl
@[simp] theorem State.wEnc_chans (s : State) (e : Nat) (x : Enc) : (s.wEnc e x).chans = s.chans := rfl
@[simp] theorem State.wEnc_d2d (s : State) (e : Nat) (x : Enc) : (s.wEnc e x).d2d = s.d2d := rfl
@[simp] theorem State.wEnc_zones (s : State) (e : Nat) (x : Enc) : (s.wEnc e x).zones = s.zones := rfl
@[simp] theorem State.wEnc_tick (s : State) (e : Nat) (x : Enc) : (s.wEnc e x).tick = s.tick := rfl
@[simp] theorem State.wEnc_cov (s : State) (e : Nat) (x : Enc) : (s.wEnc e x).cov = s.cov := rfl
@[simp] theorem State.wEnc_stns (s : State) (e : Nat) (x : Enc) : (s.wEnc e x).stns = s.stns := rfl
@[simp] theorem State.wEnc_zrecs (s : State) (e : Nat) (x : Enc) : (s.wEnc e x).zrecs = s.zrecs := rfl
@[simp] theorem State.wEnc_zmeas (s : State) (e : Nat) (x : Enc) : (s.wEnc e x).zmeas = s.zmeas := rfl
@[simp] theorem State.wEnc_r (s : State) (e : Nat) (x : Enc) (k : Nat) : (s.wEnc e x).r k = s.r k := rfl
@[simp] theorem State.wEnc_blob (s : State) (e : Nat) (x : Enc) (j0 : Nat) : (s.wEnc e x).blob j0 = s.blob j0 := rfl

/-! wStn -/

@[simp] theorem State.wStn_pending (s : State) (st : Nat) (x : Station) : (s.wStn st x).pending = s.pending := rfl
@[simp] theorem State.wStn_clk (s : State) (st : Nat) (x : Station) : (s.wStn st x).clk = s.clk := rfl
@[simp] theorem State.wStn_free (s : State) (st : Nat) (x : Station) : (s.wStn st x).free = s.free := rfl
@[simp] theorem State.wStn_regs (s : State) (st : Nat) (x : Station) : (s.wStn st x).regs = s.regs := rfl
@[simp] theorem State.wStn_blobs (s : State) (st : Nat) (x : Station) : (s.wStn st x).blobs = s.blobs := rfl
@[simp] theorem State.wStn_od (s : State) (st : Nat) (x : Station) : (s.wStn st x).od = s.od := rfl
@[simp] theorem State.wStn_tly (s : State) (st : Nat) (x : Station) : (s.wStn st x).tly = s.tly := rfl
@[simp] theorem State.wStn_nvm (s : State) (st : Nat) (x : Station) : (s.wStn st x).nvm = s.nvm := rfl
@[simp] theorem State.wStn_flash (s : State) (st : Nat) (x : Station) : (s.wStn st x).flash = s.flash := rfl
@[simp] theorem State.wStn_fac (s : State) (st : Nat) (x : Station) : (s.wStn st x).fac = s.fac := rfl
@[simp] theorem State.wStn_ret (s : State) (st : Nat) (x : Station) : (s.wStn st x).ret = s.ret := rfl
@[simp] theorem State.wStn_tap (s : State) (st : Nat) (x : Station) : (s.wStn st x).tap = s.tap := rfl
@[simp] theorem State.wStn_boot (s : State) (st : Nat) (x : Station) : (s.wStn st x).boot = s.boot := rfl
@[simp] theorem State.wStn_pair (s : State) (st : Nat) (x : Station) : (s.wStn st x).pair = s.pair := rfl
@[simp] theorem State.wStn_ptx (s : State) (st : Nat) (x : Station) : (s.wStn st x).ptx = s.ptx := rfl
@[simp] theorem State.wStn_pwr (s : State) (st : Nat) (x : Station) : (s.wStn st x).pwr = s.pwr := rfl
@[simp] theorem State.wStn_ring (s : State) (st : Nat) (x : Station) : (s.wStn st x).ring = s.ring := rfl
@[simp] theorem State.wStn_heads (s : State) (st : Nat) (x : Station) : (s.wStn st x).heads = s.heads := rfl
@[simp] theorem State.wStn_hrx (s : State) (st : Nat) (x : Station) : (s.wStn st x).hrx = s.hrx := rfl
@[simp] theorem State.wStn_hout (s : State) (st : Nat) (x : Station) : (s.wStn st x).hout = s.hout := rfl
@[simp] theorem State.wStn_pipes (s : State) (st : Nat) (x : Station) : (s.wStn st x).pipes = s.pipes := rfl
@[simp] theorem State.wStn_folds (s : State) (st : Nat) (x : Station) : (s.wStn st x).folds = s.folds := rfl
@[simp] theorem State.wStn_px (s : State) (st : Nat) (x : Station) : (s.wStn st x).px = s.px := rfl
@[simp] theorem State.wStn_rad (s : State) (st : Nat) (x : Station) : (s.wStn st x).rad = s.rad := rfl
@[simp] theorem State.wStn_xp (s : State) (st : Nat) (x : Station) : (s.wStn st x).xp = s.xp := rfl
@[simp] theorem State.wStn_shep (s : State) (st : Nat) (x : Station) : (s.wStn st x).shep = s.shep := rfl
@[simp] theorem State.wStn_mem (s : State) (st : Nat) (x : Station) : (s.wStn st x).mem = s.mem := rfl
@[simp] theorem State.wStn_lanes (s : State) (st : Nat) (x : Station) : (s.wStn st x).lanes = s.lanes := rfl
@[simp] theorem State.wStn_auxs (s : State) (st : Nat) (x : Station) : (s.wStn st x).auxs = s.auxs := rfl
@[simp] theorem State.wStn_tw (s : State) (st : Nat) (x : Station) : (s.wStn st x).tw = s.tw := rfl
@[simp] theorem State.wStn_banks (s : State) (st : Nat) (x : Station) : (s.wStn st x).banks = s.banks := rfl
@[simp] theorem State.wStn_chans (s : State) (st : Nat) (x : Station) : (s.wStn st x).chans = s.chans := rfl
@[simp] theorem State.wStn_d2d (s : State) (st : Nat) (x : Station) : (s.wStn st x).d2d = s.d2d := rfl
@[simp] theorem State.wStn_zones (s : State) (st : Nat) (x : Station) : (s.wStn st x).zones = s.zones := rfl
@[simp] theorem State.wStn_tick (s : State) (st : Nat) (x : Station) : (s.wStn st x).tick = s.tick := rfl
@[simp] theorem State.wStn_encs (s : State) (st : Nat) (x : Station) : (s.wStn st x).encs = s.encs := rfl
@[simp] theorem State.wStn_cov (s : State) (st : Nat) (x : Station) : (s.wStn st x).cov = s.cov := rfl
@[simp] theorem State.wStn_zrecs (s : State) (st : Nat) (x : Station) : (s.wStn st x).zrecs = s.zrecs := rfl
@[simp] theorem State.wStn_zmeas (s : State) (st : Nat) (x : Station) : (s.wStn st x).zmeas = s.zmeas := rfl
@[simp] theorem State.wStn_r (s : State) (st : Nat) (x : Station) (k : Nat) : (s.wStn st x).r k = s.r k := rfl
@[simp] theorem State.wStn_blob (s : State) (st : Nat) (x : Station) (j0 : Nat) : (s.wStn st x).blob j0 = s.blob j0 := rfl

/-! wLane -/

@[simp] theorem State.wLane_pending (s : State) (l : Nat) (x : Lane) : (s.wLane l x).pending = s.pending := rfl
@[simp] theorem State.wLane_clk (s : State) (l : Nat) (x : Lane) : (s.wLane l x).clk = s.clk := rfl
@[simp] theorem State.wLane_free (s : State) (l : Nat) (x : Lane) : (s.wLane l x).free = s.free := rfl
@[simp] theorem State.wLane_regs (s : State) (l : Nat) (x : Lane) : (s.wLane l x).regs = s.regs := rfl
@[simp] theorem State.wLane_blobs (s : State) (l : Nat) (x : Lane) : (s.wLane l x).blobs = s.blobs := rfl
@[simp] theorem State.wLane_od (s : State) (l : Nat) (x : Lane) : (s.wLane l x).od = s.od := rfl
@[simp] theorem State.wLane_tly (s : State) (l : Nat) (x : Lane) : (s.wLane l x).tly = s.tly := rfl
@[simp] theorem State.wLane_nvm (s : State) (l : Nat) (x : Lane) : (s.wLane l x).nvm = s.nvm := rfl
@[simp] theorem State.wLane_flash (s : State) (l : Nat) (x : Lane) : (s.wLane l x).flash = s.flash := rfl
@[simp] theorem State.wLane_fac (s : State) (l : Nat) (x : Lane) : (s.wLane l x).fac = s.fac := rfl
@[simp] theorem State.wLane_ret (s : State) (l : Nat) (x : Lane) : (s.wLane l x).ret = s.ret := rfl
@[simp] theorem State.wLane_tap (s : State) (l : Nat) (x : Lane) : (s.wLane l x).tap = s.tap := rfl
@[simp] theorem State.wLane_boot (s : State) (l : Nat) (x : Lane) : (s.wLane l x).boot = s.boot := rfl
@[simp] theorem State.wLane_pair (s : State) (l : Nat) (x : Lane) : (s.wLane l x).pair = s.pair := rfl
@[simp] theorem State.wLane_ptx (s : State) (l : Nat) (x : Lane) : (s.wLane l x).ptx = s.ptx := rfl
@[simp] theorem State.wLane_pwr (s : State) (l : Nat) (x : Lane) : (s.wLane l x).pwr = s.pwr := rfl
@[simp] theorem State.wLane_ring (s : State) (l : Nat) (x : Lane) : (s.wLane l x).ring = s.ring := rfl
@[simp] theorem State.wLane_heads (s : State) (l : Nat) (x : Lane) : (s.wLane l x).heads = s.heads := rfl
@[simp] theorem State.wLane_hrx (s : State) (l : Nat) (x : Lane) : (s.wLane l x).hrx = s.hrx := rfl
@[simp] theorem State.wLane_hout (s : State) (l : Nat) (x : Lane) : (s.wLane l x).hout = s.hout := rfl
@[simp] theorem State.wLane_pipes (s : State) (l : Nat) (x : Lane) : (s.wLane l x).pipes = s.pipes := rfl
@[simp] theorem State.wLane_folds (s : State) (l : Nat) (x : Lane) : (s.wLane l x).folds = s.folds := rfl
@[simp] theorem State.wLane_px (s : State) (l : Nat) (x : Lane) : (s.wLane l x).px = s.px := rfl
@[simp] theorem State.wLane_rad (s : State) (l : Nat) (x : Lane) : (s.wLane l x).rad = s.rad := rfl
@[simp] theorem State.wLane_xp (s : State) (l : Nat) (x : Lane) : (s.wLane l x).xp = s.xp := rfl
@[simp] theorem State.wLane_shep (s : State) (l : Nat) (x : Lane) : (s.wLane l x).shep = s.shep := rfl
@[simp] theorem State.wLane_mem (s : State) (l : Nat) (x : Lane) : (s.wLane l x).mem = s.mem := rfl
@[simp] theorem State.wLane_auxs (s : State) (l : Nat) (x : Lane) : (s.wLane l x).auxs = s.auxs := rfl
@[simp] theorem State.wLane_tw (s : State) (l : Nat) (x : Lane) : (s.wLane l x).tw = s.tw := rfl
@[simp] theorem State.wLane_banks (s : State) (l : Nat) (x : Lane) : (s.wLane l x).banks = s.banks := rfl
@[simp] theorem State.wLane_chans (s : State) (l : Nat) (x : Lane) : (s.wLane l x).chans = s.chans := rfl
@[simp] theorem State.wLane_d2d (s : State) (l : Nat) (x : Lane) : (s.wLane l x).d2d = s.d2d := rfl
@[simp] theorem State.wLane_zones (s : State) (l : Nat) (x : Lane) : (s.wLane l x).zones = s.zones := rfl
@[simp] theorem State.wLane_tick (s : State) (l : Nat) (x : Lane) : (s.wLane l x).tick = s.tick := rfl
@[simp] theorem State.wLane_encs (s : State) (l : Nat) (x : Lane) : (s.wLane l x).encs = s.encs := rfl
@[simp] theorem State.wLane_cov (s : State) (l : Nat) (x : Lane) : (s.wLane l x).cov = s.cov := rfl
@[simp] theorem State.wLane_stns (s : State) (l : Nat) (x : Lane) : (s.wLane l x).stns = s.stns := rfl
@[simp] theorem State.wLane_zrecs (s : State) (l : Nat) (x : Lane) : (s.wLane l x).zrecs = s.zrecs := rfl
@[simp] theorem State.wLane_zmeas (s : State) (l : Nat) (x : Lane) : (s.wLane l x).zmeas = s.zmeas := rfl
@[simp] theorem State.wLane_r (s : State) (l : Nat) (x : Lane) (k : Nat) : (s.wLane l x).r k = s.r k := rfl
@[simp] theorem State.wLane_blob (s : State) (l : Nat) (x : Lane) (j0 : Nat) : (s.wLane l x).blob j0 = s.blob j0 := rfl

/-! wSubCh -/

@[simp] theorem State.wSubCh_pending (s : State) (d : Nat) (x : SubCh) : (s.wSubCh d x).pending = s.pending := rfl
@[simp] theorem State.wSubCh_clk (s : State) (d : Nat) (x : SubCh) : (s.wSubCh d x).clk = s.clk := rfl
@[simp] theorem State.wSubCh_free (s : State) (d : Nat) (x : SubCh) : (s.wSubCh d x).free = s.free := rfl
@[simp] theorem State.wSubCh_regs (s : State) (d : Nat) (x : SubCh) : (s.wSubCh d x).regs = s.regs := rfl
@[simp] theorem State.wSubCh_blobs (s : State) (d : Nat) (x : SubCh) : (s.wSubCh d x).blobs = s.blobs := rfl
@[simp] theorem State.wSubCh_od (s : State) (d : Nat) (x : SubCh) : (s.wSubCh d x).od = s.od := rfl
@[simp] theorem State.wSubCh_tly (s : State) (d : Nat) (x : SubCh) : (s.wSubCh d x).tly = s.tly := rfl
@[simp] theorem State.wSubCh_nvm (s : State) (d : Nat) (x : SubCh) : (s.wSubCh d x).nvm = s.nvm := rfl
@[simp] theorem State.wSubCh_flash (s : State) (d : Nat) (x : SubCh) : (s.wSubCh d x).flash = s.flash := rfl
@[simp] theorem State.wSubCh_fac (s : State) (d : Nat) (x : SubCh) : (s.wSubCh d x).fac = s.fac := rfl
@[simp] theorem State.wSubCh_ret (s : State) (d : Nat) (x : SubCh) : (s.wSubCh d x).ret = s.ret := rfl
@[simp] theorem State.wSubCh_tap (s : State) (d : Nat) (x : SubCh) : (s.wSubCh d x).tap = s.tap := rfl
@[simp] theorem State.wSubCh_boot (s : State) (d : Nat) (x : SubCh) : (s.wSubCh d x).boot = s.boot := rfl
@[simp] theorem State.wSubCh_pair (s : State) (d : Nat) (x : SubCh) : (s.wSubCh d x).pair = s.pair := rfl
@[simp] theorem State.wSubCh_ptx (s : State) (d : Nat) (x : SubCh) : (s.wSubCh d x).ptx = s.ptx := rfl
@[simp] theorem State.wSubCh_pwr (s : State) (d : Nat) (x : SubCh) : (s.wSubCh d x).pwr = s.pwr := rfl
@[simp] theorem State.wSubCh_ring (s : State) (d : Nat) (x : SubCh) : (s.wSubCh d x).ring = s.ring := rfl
@[simp] theorem State.wSubCh_heads (s : State) (d : Nat) (x : SubCh) : (s.wSubCh d x).heads = s.heads := rfl
@[simp] theorem State.wSubCh_hrx (s : State) (d : Nat) (x : SubCh) : (s.wSubCh d x).hrx = s.hrx := rfl
@[simp] theorem State.wSubCh_hout (s : State) (d : Nat) (x : SubCh) : (s.wSubCh d x).hout = s.hout := rfl
@[simp] theorem State.wSubCh_pipes (s : State) (d : Nat) (x : SubCh) : (s.wSubCh d x).pipes = s.pipes := rfl
@[simp] theorem State.wSubCh_folds (s : State) (d : Nat) (x : SubCh) : (s.wSubCh d x).folds = s.folds := rfl
@[simp] theorem State.wSubCh_px (s : State) (d : Nat) (x : SubCh) : (s.wSubCh d x).px = s.px := rfl
@[simp] theorem State.wSubCh_rad (s : State) (d : Nat) (x : SubCh) : (s.wSubCh d x).rad = s.rad := rfl
@[simp] theorem State.wSubCh_xp (s : State) (d : Nat) (x : SubCh) : (s.wSubCh d x).xp = s.xp := rfl
@[simp] theorem State.wSubCh_shep (s : State) (d : Nat) (x : SubCh) : (s.wSubCh d x).shep = s.shep := rfl
@[simp] theorem State.wSubCh_lanes (s : State) (d : Nat) (x : SubCh) : (s.wSubCh d x).lanes = s.lanes := rfl
@[simp] theorem State.wSubCh_auxs (s : State) (d : Nat) (x : SubCh) : (s.wSubCh d x).auxs = s.auxs := rfl
@[simp] theorem State.wSubCh_tw (s : State) (d : Nat) (x : SubCh) : (s.wSubCh d x).tw = s.tw := rfl
@[simp] theorem State.wSubCh_banks (s : State) (d : Nat) (x : SubCh) : (s.wSubCh d x).banks = s.banks := rfl
@[simp] theorem State.wSubCh_chans (s : State) (d : Nat) (x : SubCh) : (s.wSubCh d x).chans = s.chans := rfl
@[simp] theorem State.wSubCh_d2d (s : State) (d : Nat) (x : SubCh) : (s.wSubCh d x).d2d = s.d2d := rfl
@[simp] theorem State.wSubCh_zones (s : State) (d : Nat) (x : SubCh) : (s.wSubCh d x).zones = s.zones := rfl
@[simp] theorem State.wSubCh_tick (s : State) (d : Nat) (x : SubCh) : (s.wSubCh d x).tick = s.tick := rfl
@[simp] theorem State.wSubCh_encs (s : State) (d : Nat) (x : SubCh) : (s.wSubCh d x).encs = s.encs := rfl
@[simp] theorem State.wSubCh_cov (s : State) (d : Nat) (x : SubCh) : (s.wSubCh d x).cov = s.cov := rfl
@[simp] theorem State.wSubCh_stns (s : State) (d : Nat) (x : SubCh) : (s.wSubCh d x).stns = s.stns := rfl
@[simp] theorem State.wSubCh_zrecs (s : State) (d : Nat) (x : SubCh) : (s.wSubCh d x).zrecs = s.zrecs := rfl
@[simp] theorem State.wSubCh_zmeas (s : State) (d : Nat) (x : SubCh) : (s.wSubCh d x).zmeas = s.zmeas := rfl
@[simp] theorem State.wSubCh_r (s : State) (d : Nat) (x : SubCh) (k : Nat) : (s.wSubCh d x).r k = s.r k := rfl
@[simp] theorem State.wSubCh_blob (s : State) (d : Nat) (x : SubCh) (j0 : Nat) : (s.wSubCh d x).blob j0 = s.blob j0 := rfl

/-! ## The register file -/

/-- A register reads what was last written to it; every other register reads as before (R428). -/
@[simp] theorem State.w_r (s : State) (k v j : Nat) : (s.w k v).r j = if j = k then v else s.r j := by
  by_cases h : j = k
  · subst h; simp only [if_true]; exact (tget_tset (regDflt j) s.regs j v j).trans (if_pos rfl)
  · rw [if_neg h]; exact tget_tset_ne _ _ _ _ _ _ h

theorem State.wb_r (s : State) (k n : Nat) (b : Bool) (j : Nat) : (s.wb k n b).r j = if j = k then setBit n b (s.r k) else s.r j :=
  State.w_r s k _ j

theorem State.wi_r (s : State) (w k : Nat) (v : Int) (j : Nat) : (s.wi w k v).r j = if j = k then sat2 w v else s.r j :=
  State.w_r s k _ j

theorem State.add32_r (s : State) (k n j : Nat) : (s.add32 k n).r j = if j = k then min 0xFFFFFFFF (s.r k + n) else s.r j :=
  State.w_r s k _ j

theorem State.bump_r (s : State) (k j : Nat) : (s.bump k).r j = if j = k then min 0xFFFFFFFF (s.r k + 1) else s.r j :=
  State.w_r s k _ j

/-- A register none of whose keys is in the list reads as before. -/
theorem State.wAll_r_ne (s : State) (l : List (Nat × Nat)) (j : Nat) (h : ∀ e ∈ l, e.1 ≠ j) : (s.wAll l).r j = s.r j := by
  unfold State.wAll
  induction l generalizing s with
  | nil => rfl
  | cons e l ih =>
    simp only [List.foldl_cons]
    rw [ih _ fun x hx => h x (by simp [hx]), State.w_r, if_neg]
    exact fun hj => h e (by simp) hj.symm

/-- Writing registers changes nothing else. -/
theorem State.wAll_eq (s : State) (l : List (Nat × Nat)) : s.wAll l = { s with regs := (s.wAll l).regs } := by
  unfold State.wAll
  induction l generalizing s with
  | nil => rfl
  | cons e l ih => simp only [List.foldl_cons]; rw [ih]; rfl

@[simp] theorem State.wBlob_blob (s : State) (k : Nat) (b : Bytes) (j : Nat) : (s.wBlob k b).blob j = if j = k then b else s.blob j := by
  unfold State.wBlob State.blob; rw [tget_tset]

/-- What one unit's state reads as after a write of one. -/
@[simp] theorem State.wBank_bank (s : State) (b : Nat) (x : Bank) (j : Nat) : (s.wBank b x).bank j = if j = b then x else s.bank j := by
  unfold State.wBank State.bank; rw [tget_tset]

@[simp] theorem State.wChan_chan (s : State) (n : Nat) (x : Chan) (j : Nat) : (s.wChan n x).chan j = if j = n then x else s.chan j := by
  unfold State.wChan State.chan; rw [tget_tset]

@[simp] theorem State.wZone_zone (s : State) (z : Nat) (x : Zone) (j : Nat) : (s.wZone z x).zone j = if j = z then x else s.zone j := by
  unfold State.wZone State.zone; rw [tget_tset]

@[simp] theorem State.wHd_hd (s : State) (h : Nat) (x : Head) (j : Nat) : (s.wHd h x).hd j = if j = h then x else s.hd j := by
  unfold State.wHd State.hd; rw [tget_tset]

@[simp] theorem State.wHr_hr (s : State) (h : Nat) (x : HeadRx) (j : Nat) : (s.wHr h x).hr j = if j = h then x else s.hr j := by
  unfold State.wHr State.hr; rw [tget_tset]

@[simp] theorem State.wPipe_pipe (s : State) (h : Nat) (x : Pipe) (j : Nat) : (s.wPipe h x).pipe j = if j = h then x else s.pipe j := by
  unfold State.wPipe State.pipe; rw [tget_tset]

@[simp] theorem State.wFold_fold (s : State) (h : Nat) (x : FoldSt) (j : Nat) : (s.wFold h x).fold j = if j = h then x else s.fold j := by
  unfold State.wFold State.fold; rw [tget_tset]

@[simp] theorem State.wLane_lane (s : State) (l : Nat) (x : Lane) (j : Nat) : (s.wLane l x).lane j = if j = l then x else s.lane j := by
  unfold State.wLane State.lane; rw [tget_tset]

@[simp] theorem State.wStn_stn (s : State) (st : Nat) (x : Station) (j : Nat) : (s.wStn st x).stn j = if j = st then x else s.stn j := by
  unfold State.wStn State.stn; rw [tget_tset]

@[simp] theorem State.wEnc_enc (s : State) (e : Nat) (x : Enc) (j : Nat) : (s.wEnc e x).enc j = if j = e then x else s.enc j := by
  unfold State.wEnc State.enc; rw [tget_tset]

/-! ## The step -/

/-- A step runs the command at the front of the queue on the state with the queue's rest. -/
theorem step_cons (s : State) (c : Instr) (q : List Instr) (h : s.pending = c :: q) : step s = exec c { s with pending := q } := by
  unfold step; rw [h]

end Sys2Proof.Machine
end

