-- ==== Sys2Proof/Laws/Book.lean ====
section
/-! SUPPORT. What the bookkeeping of an access can touch: events, the journal, the NVM queue, tokens, partner messages and breakpoints
write their own registers and parts of the state, and nothing else. -/

set_option linter.all false

namespace Sys2Proof.Machine

/-- The registers that bookkeeping writes: actions, events, the journal, NVM and the debug objects. -/
def bookKey (k : Nat) : Bool :=
  decide (k / 256 = 0x1200 ∨ k / 256 = 0x1201 ∨ k / 256 = 0x1210 ∨ k / 256 = 0x2500 ∨ 0x6000 ≤ k / 256)

/-- All that bookkeeping leaves alone. -/
def State.book (s : State) : (Nat → Nat) × State :=
  (fun k => if bookKey k then 0 else s.r k,
    { s with regs := [], od := {}, tly := {}, nvm := {}, ptx := [], ring := {}, pair := { s.pair with txSeq := 0 } })

@[simp] theorem book_upd (s : State) x_od x_tly x_nvm x_ptx x_ring : (State.mk s.pending s.clk s.free s.regs s.blobs x_od x_tly x_nvm s.flash s.fac s.ret s.tap s.boot s.pair x_ptx s.pwr x_ring s.heads s.hrx s.hout s.pipes s.folds s.px s.rad s.xp s.shep s.mem s.lanes s.auxs s.tw s.banks s.chans s.d2d s.zones s.tick s.encs s.cov s.stns s.zrecs s.zmeas).book = s.book := rfl

@[simp] theorem book_w (s : State) (k v : Nat) (h : bookKey k = true) : (s.w k v).book = s.book := by
  unfold State.book
  refine Prod.ext (funext fun j => ?_) rfl
  simp only [State.w_r]
  split
  · rfl
  · rename_i hj
    rw [if_neg]
    intro hjk
    subst hjk
    exact hj h

@[simp] theorem book_upd_w (s : State) x_od x_tly x_nvm x_ptx x_ring (k v : Nat) (h : bookKey k = true) : (State.mk s.pending s.clk s.free (s.w k v).regs s.blobs x_od x_tly x_nvm s.flash s.fac s.ret s.tap s.boot s.pair x_ptx s.pwr x_ring s.heads s.hrx s.hout s.pipes s.folds s.px s.rad s.xp s.shep s.mem s.lanes s.auxs s.tw s.banks s.chans s.d2d s.zones s.tick s.encs s.cov s.stns s.zrecs s.zmeas).book = s.book := book_w s k v h

@[simp] theorem book_bump (s : State) (k : Nat) (h : bookKey k = true) : (s.bump k).book = s.book := book_w s k _ h

@[simp] theorem book_ite (c : Prop) [Decidable c] (x y : State) : (if c then x else y).book = if c then x.book else y.book := by
  split <;> rfl

theorem book_when (s : State) (c : Bool) (f : State → State) (h : ∀ t, (f t).book = t.book) : (s.when c f).book = s.book := by
  unfold State.when; split
  · exact h s
  · rfl

theorem book_each {α : Type} (s : State) (l : List α) (f : α → State → State) (h : ∀ a t, (f a t).book = t.book) :
    (s.each l f).book = s.book := by
  unfold State.each
  induction l generalizing s with
  | nil => rfl
  | cons a l ih => simp only [List.foldl_cons]; rw [ih, h]

/-- A register that bookkeeping does not write reads the same. -/
theorem book_r {s t : State} (h : t.book = s.book) (k : Nat) (hk : bookKey k = false) : t.r k = s.r k := by
  have h1 := congrFun (congrArg Prod.fst h) k
  simpa [State.book, hk] using h1

/-- Two records of the pair that agree but for the number of the next message. -/
theorem pair_eq (p q : Pair) (h : { p with txSeq := 0 } = ({ q with txSeq := 0 } : Pair)) : p = { q with txSeq := p.txSeq } := by
  cases p; cases q
  simp only [Pair.mk.injEq] at h ⊢
  simp_all

/-- Bookkeeping changes only registers and its own parts of the state. -/
theorem book_eq {s t : State} (h : t.book = s.book) :
    t = { s with regs := t.regs, od := t.od, tly := t.tly, nvm := t.nvm, ptx := t.ptx, ring := t.ring, pair := { s.pair with txSeq := t.pair.txSeq } } := by
  have h1 := congrArg Prod.snd h
  have h2 := pair_eq t.pair s.pair (congrArg State.pair h1)
  cases s; cases t
  simp only [State.book, State.mk.injEq] at h1 ⊢
  (repeat' apply And.intro) <;> first | rfl | exact h2 | (clear h2; simp_all)

@[simp] theorem book_answer (s : State) (status token : Nat) : (State.answer s status token).book = s.book := by
  unfold State.answer; (repeat' split) <;> simp [bookKey, Reg.evEVENT_SEQ, Reg.actLAST_TOKEN, Reg.nvmBANK_BUSY, Reg.nvmWRITES_QUEUED, Reg.tlyOVERRUN] <;> (repeat' split) <;> simp [bookKey, Reg.evEVENT_SEQ, Reg.actLAST_TOKEN, Reg.nvmBANK_BUSY, Reg.nvmWRITES_QUEUED, Reg.tlyOVERRUN]

@[simp] theorem book_ringQueue (s : State) (via sop : Option Nat) (ty dst info : Nat) (payload : Bytes) : (State.ringQueue s via sop ty dst info payload).book = s.book := rfl

@[simp] theorem book_ringSend (s : State) (ty dst info : Nat) (payload : Bytes) : (State.ringSend s ty dst info payload).book = s.book := by
  exact book_ringQueue _ _ _ _ _ _ _

@[simp] theorem book_event (s : State) (code inst data : Nat) : (State.event s code inst data).book = s.book := by
  unfold State.event; (repeat' split) <;> simp [bookKey, Reg.evEVENT_SEQ, Reg.actLAST_TOKEN, Reg.nvmBANK_BUSY, Reg.nvmWRITES_QUEUED, Reg.tlyOVERRUN] <;> (repeat' split) <;> simp [bookKey, Reg.evEVENT_SEQ, Reg.actLAST_TOKEN, Reg.nvmBANK_BUSY, Reg.nvmWRITES_QUEUED, Reg.tlyOVERRUN]

@[simp] theorem book_nvmPublish (s : State) : (State.nvmPublish s).book = s.book := by
  unfold State.nvmPublish; (repeat' split) <;> simp [bookKey, Reg.evEVENT_SEQ, Reg.actLAST_TOKEN, Reg.nvmBANK_BUSY, Reg.nvmWRITES_QUEUED, Reg.tlyOVERRUN] <;> (repeat' split) <;> simp [bookKey, Reg.evEVENT_SEQ, Reg.actLAST_TOKEN, Reg.nvmBANK_BUSY, Reg.nvmWRITES_QUEUED, Reg.tlyOVERRUN]

@[simp] theorem book_nvmJob (s : State) (j : NvmJob) : (State.nvmJob s j).book = s.book := by
  unfold State.nvmJob; (repeat' split) <;> simp [bookKey, Reg.evEVENT_SEQ, Reg.actLAST_TOKEN, Reg.nvmBANK_BUSY, Reg.nvmWRITES_QUEUED, Reg.tlyOVERRUN] <;> (repeat' split) <;> simp [bookKey, Reg.evEVENT_SEQ, Reg.actLAST_TOKEN, Reg.nvmBANK_BUSY, Reg.nvmWRITES_QUEUED, Reg.tlyOVERRUN]

@[simp] theorem book_nvmRecord (s : State) (id cls : Nat) (data : Bytes) (fin : NvmDone) : (State.nvmRecord s id cls data fin).book = s.book := by
  unfold State.nvmRecord; (repeat' split) <;> simp [bookKey, Reg.evEVENT_SEQ, Reg.actLAST_TOKEN, Reg.nvmBANK_BUSY, Reg.nvmWRITES_QUEUED, Reg.tlyOVERRUN] <;> (repeat' split) <;> simp [bookKey, Reg.evEVENT_SEQ, Reg.actLAST_TOKEN, Reg.nvmBANK_BUSY, Reg.nvmWRITES_QUEUED, Reg.tlyOVERRUN]

@[simp] theorem book_nvmOps (s : State) (cls : Nat) (ops : List NvmOp) (fin : NvmDone) : (State.nvmOps s cls ops fin).book = s.book := by
  exact book_nvmJob _ _

@[simp] theorem book_wSpread (s : State) (n : Nat) (c : Spread) : (State.wSpread s n c).book = s.book := by
  unfold State.wSpread; (repeat' split) <;> simp [bookKey, Reg.evEVENT_SEQ, Reg.actLAST_TOKEN, Reg.nvmBANK_BUSY, Reg.nvmWRITES_QUEUED, Reg.tlyOVERRUN] <;> (repeat' split) <;> simp [bookKey, Reg.evEVENT_SEQ, Reg.actLAST_TOKEN, Reg.nvmBANK_BUSY, Reg.nvmWRITES_QUEUED, Reg.tlyOVERRUN]

@[simp] theorem book_spreadShadow (s : State) (n : Nat) (fin : NvmDone) : (State.spreadShadow s n fin).book = s.book := by
  unfold State.spreadShadow; (repeat' split) <;> simp [bookKey, Reg.evEVENT_SEQ, Reg.actLAST_TOKEN, Reg.nvmBANK_BUSY, Reg.nvmWRITES_QUEUED, Reg.tlyOVERRUN] <;> (repeat' split) <;> simp [bookKey, Reg.evEVENT_SEQ, Reg.actLAST_TOKEN, Reg.nvmBANK_BUSY, Reg.nvmWRITES_QUEUED, Reg.tlyOVERRUN]

@[simp] theorem book_spreadInc (s : State) (n : Nat) : (State.spreadInc s n).book = s.book := by
  unfold State.spreadInc; dsimp only
  split
  · simp
  · simp

@[simp] theorem book_spreadRoll (s : State) (n b : Nat) : (State.spreadRoll s n b).book = s.book := by
  unfold State.spreadRoll; (repeat' split) <;> simp [bookKey, Reg.evEVENT_SEQ, Reg.actLAST_TOKEN, Reg.nvmBANK_BUSY, Reg.nvmWRITES_QUEUED, Reg.tlyOVERRUN] <;> (repeat' split) <;> simp [bookKey, Reg.evEVENT_SEQ, Reg.actLAST_TOKEN, Reg.nvmBANK_BUSY, Reg.nvmWRITES_QUEUED, Reg.tlyOVERRUN]

@[simp] theorem book_hwmStore (s : State) (v : Nat) : (State.hwmStore s v).book = s.book := by
  unfold State.hwmStore; (repeat' split) <;> simp [bookKey, Reg.evEVENT_SEQ, Reg.actLAST_TOKEN, Reg.nvmBANK_BUSY, Reg.nvmWRITES_QUEUED, Reg.tlyOVERRUN] <;> (repeat' split) <;> simp [bookKey, Reg.evEVENT_SEQ, Reg.actLAST_TOKEN, Reg.nvmBANK_BUSY, Reg.nvmWRITES_QUEUED, Reg.tlyOVERRUN]

@[simp] theorem book_tlyNumber (s : State) (e : TEntry) : (State.tlyNumber s e).book = s.book := by
  have h1 : bookKey Reg.tlyNEXT_SEQ = true := by decide
  have h2 : bookKey Reg.tlyOLDEST_SEQ = true := by decide
  unfold State.tlyNumber; dsimp only
  split
  · rw [book_hwmStore, book_when _ _ _ fun t => book_w t _ _ h2, book_w _ _ _ h1]; rfl
  · rw [book_when _ _ _ fun t => book_w t _ _ h2, book_w _ _ _ h1]; rfl

@[simp] theorem book_tlyPut (s : State) (e : TEntry) : (State.tlyPut s e).book = s.book := by
  unfold State.tlyPut; (repeat' split) <;> simp [bookKey, Reg.evEVENT_SEQ, Reg.actLAST_TOKEN, Reg.nvmBANK_BUSY, Reg.nvmWRITES_QUEUED, Reg.tlyOVERRUN] <;> (repeat' split) <;> simp [bookKey, Reg.evEVENT_SEQ, Reg.actLAST_TOKEN, Reg.nvmBANK_BUSY, Reg.nvmWRITES_QUEUED, Reg.tlyOVERRUN]

@[simp] theorem book_tlyAdd (s : State) (src kind key result token value : Nat) : (State.tlyAdd s src kind key result token value).book = s.book := by
  unfold State.tlyAdd; (repeat' split) <;> simp [bookKey, Reg.evEVENT_SEQ, Reg.actLAST_TOKEN, Reg.nvmBANK_BUSY, Reg.nvmWRITES_QUEUED, Reg.tlyOVERRUN] <;> (repeat' split) <;> simp [bookKey, Reg.evEVENT_SEQ, Reg.actLAST_TOKEN, Reg.nvmBANK_BUSY, Reg.nvmWRITES_QUEUED, Reg.tlyOVERRUN]

@[simp] theorem book_bpHit (s : State) (b : Bp) : (State.bpHit s b).book = s.book := by
  have h1 : bookKey Reg.dbgHALT_PIPES = true := by decide
  have h2 : bookKey Reg.dbgHALT_STATIONS = true := by decide
  have h3 : bookKey Reg.dbgHALT_ZONES = true := by decide
  have h4 : bookKey (Reg.bpBP_HITS b.k) = true := by unfold bookKey Reg.bpBP_HITS; exact decide_eq_true (by omega)
  have h5 : bookKey (Reg.bpBP_LAST b.k) = true := by unfold bookKey Reg.bpBP_LAST; exact decide_eq_true (by omega)
  have h6 : bookKey (Reg.bpBP_KIND b.k) = true := by unfold bookKey Reg.bpBP_KIND; exact decide_eq_true (by omega)
  unfold State.bpHit; dsimp only
  rw [book_when _ _ _ fun t => book_w t _ _ h6, book_event, book_w _ _ _ h5, book_bump _ _ h4, book_when _ _ _ fun t => book_w t _ _ h3,
    book_w _ _ _ h2, book_w _ _ _ h1]

@[simp] theorem book_bpWrite (s : State) (key : Nat) : (State.bpWrite s key).book = s.book := by
  unfold State.bpWrite
  exact book_each _ _ _ fun k t => book_when _ _ _ fun u => book_bpHit u (u.bpAt k)

@[simp] theorem book_partnerSend (s : State) (m : PMsg) : (State.partnerSend s m).book = s.book := by
  unfold State.partnerSend; split <;> rfl

@[simp] theorem book_toPartner (s : State) (m : PMsg) : (State.toPartner s m).book = s.book := by
  unfold State.toPartner; (repeat' split) <;> simp [bookKey, Reg.evEVENT_SEQ, Reg.actLAST_TOKEN, Reg.nvmBANK_BUSY, Reg.nvmWRITES_QUEUED, Reg.tlyOVERRUN] <;> (repeat' split) <;> simp [bookKey, Reg.evEVENT_SEQ, Reg.actLAST_TOKEN, Reg.nvmBANK_BUSY, Reg.nvmWRITES_QUEUED, Reg.tlyOVERRUN]

@[simp] theorem book_forward (s : State) (src key token : Nat) (data : Bytes) : (State.forward s src key token data).book = s.book := by
  unfold State.forward; (repeat' split) <;> simp [bookKey, Reg.evEVENT_SEQ, Reg.actLAST_TOKEN, Reg.nvmBANK_BUSY, Reg.nvmWRITES_QUEUED, Reg.tlyOVERRUN] <;> (repeat' split) <;> simp [bookKey, Reg.evEVENT_SEQ, Reg.actLAST_TOKEN, Reg.nvmBANK_BUSY, Reg.nvmWRITES_QUEUED, Reg.tlyOVERRUN]

@[simp] theorem book_actStart (s : State) (src key value len : Nat) : (State.actStart s src key value len).book = (s.toADie key).book := by
  have h : bookKey Reg.actLAST_TOKEN = true := by decide
  unfold State.actStart; dsimp only
  rw [book_bpWrite, book_forward, book_tlyAdd]
  exact book_w (s.toADie key) _ _ h

@[simp] theorem book_wrote (s : State) (src kind key len v : Nat) : (State.wrote s src kind key len v).book = (s.toADie key).book := by
  unfold State.wrote; dsimp only
  rw [book_when _ _ _ fun t => book_nvmRecord t _ _ _ _, book_forward, book_tlyAdd]

@[simp] theorem book_laneRecord (s : State) (h : Nat) : (State.laneRecord s h).book = s.book := by
  unfold State.laneRecord; (repeat' split) <;> simp [bookKey, Reg.evEVENT_SEQ, Reg.actLAST_TOKEN, Reg.nvmBANK_BUSY, Reg.nvmWRITES_QUEUED, Reg.tlyOVERRUN] <;> (repeat' split) <;> simp [bookKey, Reg.evEVENT_SEQ, Reg.actLAST_TOKEN, Reg.nvmBANK_BUSY, Reg.nvmWRITES_QUEUED, Reg.tlyOVERRUN]

/-! ## Tokens, requests and answers -/

/-- What events, journal entries, NVM writes and breakpoints leave of the object dictionary's own state: tokens, requests, block
transfers, the last answer, and the newest token. -/
def State.toks (s : State) : Od × Nat := ({ s.od with log := [], holds := [] }, s.r Reg.actLAST_TOKEN)

@[simp] theorem toks_upd (s : State) x_pending x_clk x_free x_blobs x_tly x_nvm x_flash x_fac x_ret x_tap x_boot x_pair x_ptx x_pwr x_ring x_heads x_hrx x_hout x_pipes x_folds x_px x_rad x_xp x_shep x_mem x_lanes x_auxs x_tw x_banks x_chans x_d2d x_zones x_tick x_encs x_cov x_stns x_zrecs x_zmeas : (State.mk x_pending x_clk x_free s.regs x_blobs s.od x_tly x_nvm x_flash x_fac x_ret x_tap x_boot x_pair x_ptx x_pwr x_ring x_heads x_hrx x_hout x_pipes x_folds x_px x_rad x_xp x_shep x_mem x_lanes x_auxs x_tw x_banks x_chans x_d2d x_zones x_tick x_encs x_cov x_stns x_zrecs x_zmeas).toks = s.toks := rfl

@[simp] theorem toks_upd_w (s : State) x_pending x_clk x_free x_blobs x_tly x_nvm x_flash x_fac x_ret x_tap x_boot x_pair x_ptx x_pwr x_ring x_heads x_hrx x_hout x_pipes x_folds x_px x_rad x_xp x_shep x_mem x_lanes x_auxs x_tw x_banks x_chans x_d2d x_zones x_tick x_encs x_cov x_stns x_zrecs x_zmeas (k v : Nat) (h : k ≠ Reg.actLAST_TOKEN) : (State.mk x_pending x_clk x_free (s.w k v).regs x_blobs s.od x_tly x_nvm x_flash x_fac x_ret x_tap x_boot x_pair x_ptx x_pwr x_ring x_heads x_hrx x_hout x_pipes x_folds x_px x_rad x_xp x_shep x_mem x_lanes x_auxs x_tw x_banks x_chans x_d2d x_zones x_tick x_encs x_cov x_stns x_zrecs x_zmeas).toks = s.toks := by
  unfold State.toks
  refine Prod.ext rfl ?_
  exact (State.w_r s k v _).trans (if_neg h.symm)

@[simp] theorem toks_w (s : State) (k v : Nat) (h : k ≠ Reg.actLAST_TOKEN) : (s.w k v).toks = s.toks := by
  unfold State.toks
  refine Prod.ext rfl ?_
  exact (State.w_r s k v _).trans (if_neg h.symm)

@[simp] theorem toks_bump (s : State) (k : Nat) (h : k ≠ Reg.actLAST_TOKEN) : (s.bump k).toks = s.toks := toks_w s k _ h

@[simp] theorem toks_log (s : State) (k v : Nat) (hk : k ≠ Reg.actLAST_TOKEN) (l : List Evt) (h : List (Nat × Hold)) :
    State.toks { s.w k v with od := { s.od with log := l, holds := h } } = s.toks := by
  unfold State.toks
  refine Prod.ext rfl ?_
  exact (State.w_r s k v _).trans (if_neg hk.symm)

@[simp] theorem toks_holds (s : State) (h : List (Nat × Hold)) : State.toks { s with od := { s.od with holds := h } } = s.toks := rfl

@[simp] theorem toks_ite (c : Prop) [Decidable c] (x y : State) : (if c then x else y).toks = if c then x.toks else y.toks := by
  split <;> rfl

theorem toks_when (s : State) (c : Bool) (f : State → State) (h : ∀ t, (f t).toks = t.toks) : (s.when c f).toks = s.toks := by
  unfold State.when; split
  · exact h s
  · rfl

theorem toks_each {α : Type} (s : State) (l : List α) (f : α → State → State) (h : ∀ a t, (f a t).toks = t.toks) :
    (s.each l f).toks = s.toks := by
  unfold State.each
  induction l generalizing s with
  | nil => rfl
  | cons a l ih => simp only [List.foldl_cons]; rw [ih, h]

@[simp] theorem toks_toADie (s : State) (key : Nat) : (s.toADie key).toks = s.toks := by
  unfold State.toADie
  exact toks_when _ _ _ fun t => by unfold State.d2dTraffic; split <;> rfl

/-- An access that crosses the die-to-die link writes no register and none of the object dictionary's own state. -/
theorem toADie_eq (s : State) (key : Nat) : s.toADie key = { s with d2d := (s.toADie key).d2d } := by
  unfold State.toADie State.when State.d2dTraffic
  split
  · split <;> rfl
  · rfl

/-- The last answer, a request's state and the newest token are the same. -/
theorem toks_eq {s t : State} (h : t.toks = s.toks) :
    t.od.rsp = s.od.rsp ∧ t.od.acts = s.od.acts ∧ t.od.tokens = s.od.tokens ∧ t.od.xfers = s.od.xfers ∧ t.od.kept = s.od.kept ∧
      t.r Reg.actLAST_TOKEN = s.r Reg.actLAST_TOKEN := by
  unfold State.toks at h
  have h1 := congrArg Prod.fst h
  have h2 := congrArg Prod.snd h
  simp only [Od.mk.injEq] at h1
  obtain ⟨_, _, h3⟩ := h1
  simp_all

@[simp] theorem toks_ringQueue (s : State) (via sop : Option Nat) (ty dst info : Nat) (payload : Bytes) : (State.ringQueue s via sop ty dst info payload).toks = s.toks := rfl

@[simp] theorem toks_ringSend (s : State) (ty dst info : Nat) (payload : Bytes) : (State.ringSend s ty dst info payload).toks = s.toks := by
  exact toks_ringQueue _ _ _ _ _ _ _

@[simp] theorem toks_event (s : State) (code inst data : Nat) : (State.event s code inst data).toks = s.toks := by
  unfold State.event; dsimp only
  (repeat' split) <;> first | rfl | (rw [toks_ringSend]; exact toks_log _ _ _ (by decide) _ _) | exact toks_log _ _ _ (by decide) _ _

@[simp] theorem toks_nvmPublish (s : State) : (State.nvmPublish s).toks = s.toks := by
  unfold State.nvmPublish; dsimp only
  rw [toks_w _ _ _ (by decide), toks_w _ _ _ (by decide)]

@[simp] theorem toks_nvmJob (s : State) (j : NvmJob) : (State.nvmJob s j).toks = s.toks := by
  unfold State.nvmJob; (repeat' split) <;> simp [Reg.evEVENT_SEQ, Reg.actLAST_TOKEN, Reg.nvmBANK_BUSY, Reg.nvmWRITES_QUEUED, Reg.tlyOVERRUN] <;> (repeat' split) <;> simp [Reg.evEVENT_SEQ, Reg.actLAST_TOKEN, Reg.nvmBANK_BUSY, Reg.nvmWRITES_QUEUED, Reg.tlyOVERRUN]

@[simp] theorem toks_nvmRecord (s : State) (id cls : Nat) (data : Bytes) (fin : NvmDone) : (State.nvmRecord s id cls data fin).toks = s.toks := by
  unfold State.nvmRecord; (repeat' split) <;> simp [Reg.evEVENT_SEQ, Reg.actLAST_TOKEN, Reg.nvmBANK_BUSY, Reg.nvmWRITES_QUEUED, Reg.tlyOVERRUN] <;> (repeat' split) <;> simp [Reg.evEVENT_SEQ, Reg.actLAST_TOKEN, Reg.nvmBANK_BUSY, Reg.nvmWRITES_QUEUED, Reg.tlyOVERRUN]

@[simp] theorem toks_nvmOps (s : State) (cls : Nat) (ops : List NvmOp) (fin : NvmDone) : (State.nvmOps s cls ops fin).toks = s.toks := by
  exact toks_nvmJob _ _

@[simp] theorem toks_wSpread (s : State) (n : Nat) (c : Spread) : (State.wSpread s n c).toks = s.toks := by
  unfold State.wSpread; (repeat' split) <;> simp [Reg.evEVENT_SEQ, Reg.actLAST_TOKEN, Reg.nvmBANK_BUSY, Reg.nvmWRITES_QUEUED, Reg.tlyOVERRUN] <;> (repeat' split) <;> simp [Reg.evEVENT_SEQ, Reg.actLAST_TOKEN, Reg.nvmBANK_BUSY, Reg.nvmWRITES_QUEUED, Reg.tlyOVERRUN]

@[simp] theorem toks_spreadShadow (s : State) (n : Nat) (fin : NvmDone) : (State.spreadShadow s n fin).toks = s.toks := by
  unfold State.spreadShadow; (repeat' split) <;> simp [Reg.evEVENT_SEQ, Reg.actLAST_TOKEN, Reg.nvmBANK_BUSY, Reg.nvmWRITES_QUEUED, Reg.tlyOVERRUN] <;> (repeat' split) <;> simp [Reg.evEVENT_SEQ, Reg.actLAST_TOKEN, Reg.nvmBANK_BUSY, Reg.nvmWRITES_QUEUED, Reg.tlyOVERRUN]

@[simp] theorem toks_spreadInc (s : State) (n : Nat) : (State.spreadInc s n).toks = s.toks := by
  unfold State.spreadInc; dsimp only
  split
  · simp
  · simp

@[simp] theorem toks_spreadRoll (s : State) (n b : Nat) : (State.spreadRoll s n b).toks = s.toks := by
  unfold State.spreadRoll; (repeat' split) <;> simp [Reg.evEVENT_SEQ, Reg.actLAST_TOKEN, Reg.nvmBANK_BUSY, Reg.nvmWRITES_QUEUED, Reg.tlyOVERRUN] <;> (repeat' split) <;> simp [Reg.evEVENT_SEQ, Reg.actLAST_TOKEN, Reg.nvmBANK_BUSY, Reg.nvmWRITES_QUEUED, Reg.tlyOVERRUN]

@[simp] theorem toks_hwmStore (s : State) (v : Nat) : (State.hwmStore s v).toks = s.toks := by
  unfold State.hwmStore; (repeat' split) <;> simp [Reg.evEVENT_SEQ, Reg.actLAST_TOKEN, Reg.nvmBANK_BUSY, Reg.nvmWRITES_QUEUED, Reg.tlyOVERRUN] <;> (repeat' split) <;> simp [Reg.evEVENT_SEQ, Reg.actLAST_TOKEN, Reg.nvmBANK_BUSY, Reg.nvmWRITES_QUEUED, Reg.tlyOVERRUN]

@[simp] theorem toks_tlyNumber (s : State) (e : TEntry) : (State.tlyNumber s e).toks = s.toks := by
  have h1 : Reg.tlyNEXT_SEQ ≠ Reg.actLAST_TOKEN := by decide
  have h2 : Reg.tlyOLDEST_SEQ ≠ Reg.actLAST_TOKEN := by decide
  unfold State.tlyNumber; dsimp only
  split
  · rw [toks_hwmStore, toks_when _ _ _ fun t => toks_w t _ _ h2, toks_w _ _ _ h1]; rfl
  · rw [toks_when _ _ _ fun t => toks_w t _ _ h2, toks_w _ _ _ h1]; rfl

@[simp] theorem toks_tlyPut (s : State) (e : TEntry) : (State.tlyPut s e).toks = s.toks := by
  unfold State.tlyPut; dsimp only
  (repeat' split)
  · simp
  · simp
  · rfl
  · exact toks_bump s Reg.tlyOVERRUN (by decide)

@[simp] theorem toks_tlyAdd (s : State) (src kind key result token value : Nat) : (State.tlyAdd s src kind key result token value).toks = s.toks := by
  unfold State.tlyAdd; (repeat' split) <;> simp [Reg.evEVENT_SEQ, Reg.actLAST_TOKEN, Reg.nvmBANK_BUSY, Reg.nvmWRITES_QUEUED, Reg.tlyOVERRUN] <;> (repeat' split) <;> simp [Reg.evEVENT_SEQ, Reg.actLAST_TOKEN, Reg.nvmBANK_BUSY, Reg.nvmWRITES_QUEUED, Reg.tlyOVERRUN]

@[simp] theorem toks_bpHit (s : State) (b : Bp) : (State.bpHit s b).toks = s.toks := by
  have h1 : Reg.dbgHALT_PIPES ≠ Reg.actLAST_TOKEN := by decide
  have h2 : Reg.dbgHALT_STATIONS ≠ Reg.actLAST_TOKEN := by decide
  have h3 : Reg.dbgHALT_ZONES ≠ Reg.actLAST_TOKEN := by decide
  have h4 : Reg.bpBP_HITS b.k ≠ Reg.actLAST_TOKEN := by unfold Reg.bpBP_HITS Reg.actLAST_TOKEN; omega
  have h5 : Reg.bpBP_LAST b.k ≠ Reg.actLAST_TOKEN := by unfold Reg.bpBP_LAST Reg.actLAST_TOKEN; omega
  have h6 : Reg.bpBP_KIND b.k ≠ Reg.actLAST_TOKEN := by unfold Reg.bpBP_KIND Reg.actLAST_TOKEN; omega
  unfold State.bpHit; dsimp only
  rw [toks_when _ _ _ fun t => toks_w t _ _ h6, toks_event, toks_w _ _ _ h5, toks_bump _ _ h4, toks_when _ _ _ fun t => toks_w t _ _ h3,
    toks_w _ _ _ h2, toks_w _ _ _ h1]

@[simp] theorem toks_bpWrite (s : State) (key : Nat) : (State.bpWrite s key).toks = s.toks := by
  unfold State.bpWrite
  exact toks_each _ _ _ fun k t => toks_when _ _ _ fun u => toks_bpHit u (u.bpAt k)

@[simp] theorem toks_partnerSend (s : State) (m : PMsg) : (State.partnerSend s m).toks = s.toks := by
  unfold State.partnerSend; split <;> rfl

@[simp] theorem toks_toPartner (s : State) (m : PMsg) : (State.toPartner s m).toks = s.toks := by
  unfold State.toPartner; (repeat' split) <;> simp [Reg.evEVENT_SEQ, Reg.actLAST_TOKEN, Reg.nvmBANK_BUSY, Reg.nvmWRITES_QUEUED, Reg.tlyOVERRUN] <;> (repeat' split) <;> simp [Reg.evEVENT_SEQ, Reg.actLAST_TOKEN, Reg.nvmBANK_BUSY, Reg.nvmWRITES_QUEUED, Reg.tlyOVERRUN]

@[simp] theorem toks_forward (s : State) (src key token : Nat) (data : Bytes) : (State.forward s src key token data).toks = s.toks := by
  unfold State.forward; (repeat' split) <;> simp [Reg.evEVENT_SEQ, Reg.actLAST_TOKEN, Reg.nvmBANK_BUSY, Reg.nvmWRITES_QUEUED, Reg.tlyOVERRUN] <;> (repeat' split) <;> simp [Reg.evEVENT_SEQ, Reg.actLAST_TOKEN, Reg.nvmBANK_BUSY, Reg.nvmWRITES_QUEUED, Reg.tlyOVERRUN]

@[simp] theorem toks_wrote (s : State) (src kind key len v : Nat) : (State.wrote s src kind key len v).toks = s.toks := by
  unfold State.wrote; dsimp only
  rw [toks_when _ _ _ fun t => toks_nvmRecord t _ _ _ _, toks_forward, toks_tlyAdd, toks_toADie]

@[simp] theorem toks_laneRecord (s : State) (h : Nat) : (State.laneRecord s h).toks = s.toks := by
  unfold State.laneRecord; (repeat' split) <;> simp [Reg.evEVENT_SEQ, Reg.actLAST_TOKEN, Reg.nvmBANK_BUSY, Reg.nvmWRITES_QUEUED, Reg.tlyOVERRUN] <;> (repeat' split) <;> simp [Reg.evEVENT_SEQ, Reg.actLAST_TOKEN, Reg.nvmBANK_BUSY, Reg.nvmWRITES_QUEUED, Reg.tlyOVERRUN]

/-- An accepted action: its answer, its token and its request (R448, R451). -/
theorem actStart_spec (s : State) (src key v len : Nat) :
    (s.actStart src key v len).od.rsp = ⟨0, s.nextToken, []⟩ ∧ (s.actStart src key v len).r Reg.actLAST_TOKEN = s.nextToken ∧
      (s.actStart src key v len).od.acts = tset {} s.od.acts key ⟨s.nextToken, true, src, s.od.reqN⟩ := by
  have hs : (s.actStart src key v len).toks = ({ s.od with
      log := [], holds := [], tokens := (Tok.mk s.nextToken key src false :: s.od.tokens).take 64
      acts := tset {} s.od.acts key ⟨s.nextToken, true, src, s.od.reqN⟩, reqN := s.od.reqN + 1, rsp := ⟨0, s.nextToken, []⟩ }, s.nextToken) := by
    unfold State.actStart; dsimp only
    rw [toks_bpWrite, toks_forward, toks_tlyAdd]
    rw [toADie_eq s key]
    unfold State.toks
    refine Prod.ext rfl ?_
    exact (State.w_r _ _ _ _).trans (if_pos rfl)
  unfold State.toks at hs
  have h1 := congrArg Prod.fst hs
  have h2 := congrArg Prod.snd hs
  simp only [Od.mk.injEq] at h1
  obtain ⟨_, _, h3⟩ := h1
  simp_all

/-- The end of an action writes its result object and nothing else outside the bookkeeping. -/
theorem actDone_r_ne (s : State) (key v : Nat) (ok : Bool) (j : Nat) (hb : bookKey j = false) (hj : resultOf key ≠ some j) :
    (s.actDone key v ok).r j = s.r j := by
  unfold State.actDone; dsimp only
  split
  · rw [book_r (book_tlyAdd _ _ _ _ _ _ _) j hb]
    cases hr : resultOf key with
    | none => rfl
    | some k =>
      dsimp only
      split
      · rfl
      · refine (State.w_r s k v j).trans (if_neg fun h => hj ?_)
        rw [hr, h]
  · rfl

/-- The result of an action that is executing. -/
theorem actDone_r_result (s : State) (key v : Nat) (ok : Bool) (j : Nat) (hb : bookKey j = false) (hj : resultOf key = some j)
    (hs : ((rowAt j).any fun (r : ObjRow) => decide (r.ty = Ty.str)) = false) (ha : (s.act key).busy = true) :
    (s.actDone key v ok).r j = v := by
  unfold State.actDone; dsimp only
  rw [if_pos ha, book_r (book_tlyAdd _ _ _ _ _ _ _) j hb]
  simp only [hj, hs]
  exact (State.w_r s j v j).trans (if_pos rfl)

/-- What the end of an action leaves alone: every part of the state but registers and the bookkeeping's own. -/
theorem actDone_eq (s : State) (key v : Nat) (ok : Bool) :
    s.actDone key v ok = { s with
      regs := (s.actDone key v ok).regs, od := (s.actDone key v ok).od, tly := (s.actDone key v ok).tly,
      nvm := (s.actDone key v ok).nvm, ptx := (s.actDone key v ok).ptx, ring := (s.actDone key v ok).ring,
      pair := { s.pair with txSeq := (s.actDone key v ok).pair.txSeq } } := by
  unfold State.actDone; dsimp only
  split
  · refine (book_eq (book_tlyAdd _ _ _ _ _ _ _)).trans ?_
    cases resultOf key with
    | none => rfl
    | some k => dsimp only; split <;> rfl
  · rfl

/-- The last answer stands when an action ends. -/
theorem actDone_rsp (s : State) (key v : Nat) (ok : Bool) : (s.actDone key v ok).od.rsp = s.od.rsp := by
  unfold State.actDone; dsimp only
  split
  · refine (toks_eq (toks_tlyAdd _ _ _ _ _ _ _)).1.trans ?_
    cases resultOf key with
    | none => rfl
    | some k => dsimp only; split <;> rfl
  · rfl

end Sys2Proof.Machine
end

