-- ==== Sys2Proof/Laws/Kept.lean ====
section
/-! SUPPORT. What most operations leave alone: the queue of commands and the byte stores (`State.kept`), and the form of those
that do write a store (`Good`). -/

set_option linter.all false

namespace Sys2Proof.Machine

/-- The queue and the byte stores: NVM, boot flash, DRAM, pool, debug staging. -/
abbrev KeptParts := List Instr × List Host.Cell × List Host.Cell × List Host.Cell × List Host.Cell × List Host.Cell

/-- The parts of the state that most operations leave alone: the queue and the byte stores. -/
def State.kept (s : State) : KeptParts :=
  (s.pending, s.nvm.cells, s.flash.cells, s.mem.dram, s.mem.pool, s.tap.staging)

@[simp] theorem kept_upd (s : State) x_clk x_free x_regs x_blobs x_od x_tly x_fac x_ret x_boot x_pair x_ptx x_pwr x_ring x_heads x_hrx x_hout x_pipes x_folds x_px x_rad x_xp x_shep x_lanes x_auxs x_tw x_banks x_chans x_d2d x_zones x_tick x_encs x_cov x_stns x_zrecs x_zmeas n fl m tp (hn : n.cells = s.nvm.cells) (hf : fl.cells = s.flash.cells)
    (hd : m.dram = s.mem.dram) (hp : m.pool = s.mem.pool) (ht : tp.staging = s.tap.staging) :
    (State.mk s.pending x_clk x_free x_regs x_blobs x_od x_tly n fl x_fac x_ret tp x_boot x_pair x_ptx x_pwr x_ring x_heads x_hrx x_hout x_pipes x_folds x_px x_rad x_xp x_shep m x_lanes x_auxs x_tw x_banks x_chans x_d2d x_zones x_tick x_encs x_cov x_stns x_zrecs x_zmeas).kept = s.kept := by
  simp only [State.kept, hn, hf, hd, hp, ht]

@[simp] theorem each_kept {α : Type} (s : State) (l : List α) (f : α → State → State) (h : ∀ a t, (f a t).kept = t.kept) :
    (s.each l f).kept = s.kept := by
  unfold State.each
  induction l generalizing s with
  | nil => rfl
  | cons a l ih => simp only [List.foldl_cons]; rw [ih, h]

theorem each_kept_mem {α : Type} (s : State) (l : List α) (f : α → State → State) (h : ∀ a ∈ l, ∀ t, (f a t).kept = t.kept) :
    (s.each l f).kept = s.kept := by
  unfold State.each
  induction l generalizing s with
  | nil => rfl
  | cons a l ih =>
    simp only [List.foldl_cons]
    rw [ih _ fun b hb => h b (List.mem_cons_of_mem _ hb), h a List.mem_cons_self]

@[simp] theorem when_kept (s : State) (c : Bool) (f : State → State) (h : ∀ t, (f t).kept = t.kept) : (s.when c f).kept = s.kept := by
  unfold State.when; split; exact h s; rfl

@[simp] theorem foldl_kept {α : Type} (l : List α) (f : State → α → State) (h : ∀ t a, (f t a).kept = t.kept) (s : State) :
    (l.foldl f s).kept = s.kept := by
  induction l generalizing s with
  | nil => rfl
  | cons a l ih => simp only [List.foldl_cons]; rw [ih, h]

@[simp] theorem ite_kept (c : Prop) [Decidable c] (x y : State) : (if c then x else y).kept = if c then x.kept else y.kept := by split <;> rfl

/-- Where the answer is a state, it keeps what k says. -/
def OptKept (o : Option State) (k : KeptParts) : Prop :=
  ∀ t, o = some t → t.kept = k
def SumKept (o : Nat ⊕ State) (k : KeptParts) : Prop :=
  ∀ t, o = .inr t → t.kept = k
def OutKept (o : Host.Outcome State Fault Refusal) (k : KeptParts) : Prop :=
  ∀ t, o = .next t → t.kept = k
@[simp] theorem optKept_some (t k) : OptKept (some t) k ↔ t.kept = k := by simp [OptKept]
@[simp] theorem optKept_none (k) : OptKept none k ↔ True := by simp [OptKept]
@[simp] theorem optKept_get (s : State) (o : Option State) (h : OptKept o s.kept) : (o.getD s).kept = s.kept := by
  cases o with
  | none => rfl
  | some t => exact h t rfl
@[simp] theorem sumKept_inr (t k) : SumKept (.inr t) k ↔ t.kept = k := by simp [SumKept]
@[simp] theorem sumKept_inl (n k) : SumKept (.inl n) k ↔ True := by simp [SumKept]
@[simp] theorem outKept_next (t k) : OutKept (.next t) k ↔ t.kept = k := by simp [OutKept]
theorem hook_kept (l : List (Hook State)) (key : Nat) (k : KeptParts) (h : ∀ e ∈ l, ∀ i, (e.run i).kept = k) : OptKept (hookFor l key) k := by
  intro t ht
  obtain ⟨e, he, hi⟩ := List.exists_of_findSome?_eq_some ht
  cases hn : instOf e.base e.stride e.count e.sub key with
  | none => simp [hn] at hi
  | some i => simp [hn] at hi; rw [← hi]; exact h e he i

theorem foldl1_kept {α β : Type} (l : List α) (f : State × β → α → State × β) (h : ∀ b x, (f b x).1.kept = b.1.kept) (a : State × β) :
    (l.foldl f a).1.kept = a.1.kept := by
  induction l generalizing a with
  | nil => rfl
  | cons x l ih => simp only [List.foldl_cons]; exact (ih _).trans (h a x)

/-- A choice between two pairs of a state and something else. -/
theorem ite_fst_kept {β : Type} (c : Prop) [Decidable c] (a b : State × β) {k : KeptParts} (ha : a.1.kept = k) (hb : b.1.kept = k) :
    (if c then a else b).1.kept = k := by
  split <;> assumption

/-- The queue is q and every store is in its canonical form. -/
def Good (q : List Instr) (k : KeptParts) : Prop :=
  k.1 = q ∧ twf nvmErased k.2.1 = true ∧ twf nvmErased k.2.2.1 = true ∧ twf 0 k.2.2.2.1 = true ∧ twf 0 k.2.2.2.2.1 = true ∧
    twf 0 k.2.2.2.2.2 = true

def OptGood (q : List Instr) (o : Option State) : Prop := ∀ t, o = some t → Good q t.kept
def SumGood (q : List Instr) (o : Nat ⊕ State) : Prop := ∀ t, o = .inr t → Good q t.kept
def OutGood (q : List Instr) (o : Host.Outcome State Fault Refusal) : Prop := ∀ t, o = .next t → Good q t.kept

@[simp] theorem optGood_some (q t) : OptGood q (some t) ↔ Good q t.kept := by simp [OptGood]
@[simp] theorem optGood_none (q) : OptGood q none ↔ True := by simp [OptGood]
@[simp] theorem optGood_get (q) (s : State) (o : Option State) (h : OptGood q o) (hs : Good q s.kept) : Good q (o.getD s).kept := by
  cases o with
  | none => exact hs
  | some t => exact h t rfl
@[simp] theorem sumGood_inr (q t) : SumGood q (.inr t) ↔ Good q t.kept := by simp [SumGood]
@[simp] theorem sumGood_inl (q n) : SumGood q (.inl n) ↔ True := by simp [SumGood]
@[simp] theorem outGood_next (q t) : OutGood q (.next t) ↔ Good q t.kept := by simp [OutGood]

theorem outKept_good (q) (o) (k : KeptParts) (h : OutKept o k) (hk : Good q k) : OutGood q o := fun t ht => (h t ht) ▸ hk

@[simp] theorem each_good (q) {α : Type} (s : State) (l : List α) (f : α → State → State) (h : ∀ a t, Good q t.kept → Good q (f a t).kept)
    (hs : Good q s.kept) : Good q (s.each l f).kept := by
  unfold State.each
  induction l generalizing s with
  | nil => exact hs
  | cons a l ih => simp only [List.foldl_cons]; exact ih _ (h a s hs)

@[simp] theorem when_good (q) (s : State) (c : Bool) (f : State → State) (h : ∀ t, Good q t.kept → Good q (f t).kept) (hs : Good q s.kept) :
    Good q (s.when c f).kept := by
  unfold State.when; split
  · exact h s hs
  · exact hs

theorem hook_good (q) (l : List (Hook State)) (key : Nat) (h : ∀ e ∈ l, ∀ i, Good q (e.run i).kept) : OptGood q (hookFor l key) := by
  intro t ht
  obtain ⟨e, he, hi⟩ := List.exists_of_findSome?_eq_some ht
  cases hn : instOf e.base e.stride e.count e.sub key with
  | none => simp [hn] at hi
  | some i => simp [hn] at hi; rw [← hi]; exact h e he i

@[simp] theorem begin_cells (n : Nvm) (j : NvmJob) : (n.begin_ j).1.cells = n.cells := by
  unfold Nvm.begin_
  split
  · rfl
  · dsimp only; split <;> rfl

theorem kick1_cells (n : Nvm) (b : Nat) : (n.kick1 b).cells = n.cells := by
  unfold Nvm.kick1
  split
  · rfl
  · split
    · exact begin_cells n _
    · rfl

@[simp] theorem kick_cells (n : Nvm) : n.kick.cells = n.cells := by unfold Nvm.kick; simp only [kick1_cells]

@[simp] theorem keepPayload_fst (f : RingFrame) (g : State → State) (t : State) : (keepPayload f g t).1 = g t := rfl

/-- The shepherd's own fields are not kept. -/
theorem kept_shep (u : State) (x : Shep) : State.kept { u with shep := x } = u.kept := rfl
theorem kept_pwr (u : State) (x : Pwr) : State.kept { u with pwr := x } = u.kept := rfl
theorem kept_window (u : State) (d c k : Nat) : State.kept { u with flash := { u.flash with div := d, cmd := c, dummy := k } } = u.kept := rfl

end Sys2Proof.Machine
end

