-- ==== Sys2Proof/Laws/KeptOps.lean ====
section
/-! SUPPORT. The queue and the byte stores under the shared operations, links, placement and actuation: one lemma per
operation (`_kept`: left as they are; `_good`: the queue left, the canonical form kept). -/

set_option linter.all false

namespace Sys2Proof.Machine

/-! Ops -/

@[simp] theorem State_w_kept (s : State) (k v : Nat) : (State.w s k v).kept = s.kept := by
  unfold State.w; repeat' split
  all_goals (try simp [])

@[simp] theorem State_wi_kept (s : State) (w k : Nat) (v : Int) : (State.wi s w k v).kept = s.kept := by
  unfold State.wi; repeat' split
  all_goals (try simp [])

@[simp] theorem State_addTo_kept (s : State) (m k n : Nat) : (State.addTo s m k n).kept = s.kept := by
  unfold State.addTo; repeat' split
  all_goals (try simp [])

@[simp] theorem State_add32_kept (s : State) (k n : Nat) : (State.add32 s k n).kept = s.kept := by
  unfold State.add32; repeat' split
  all_goals (try simp [])

@[simp] theorem State_bump_kept (s : State) (k : Nat) : (State.bump s k).kept = s.kept := by
  unfold State.bump; repeat' split
  all_goals (try simp [])

@[simp] theorem State_wb_kept (s : State) (k n : Nat) (b : Bool) : (State.wb s k n b).kept = s.kept := by
  unfold State.wb; repeat' split
  all_goals (try simp [])

@[simp] theorem State_wAll_kept (s : State) (l : List (Nat × Nat)) : (State.wAll s l).kept = s.kept := by
  unfold State.wAll; repeat' split
  all_goals (try simp [])

@[simp] theorem State_wBlob_kept (s : State) (k : Nat) (b : Bytes) : (State.wBlob s k b).kept = s.kept := by
  unfold State.wBlob; repeat' split
  all_goals (try simp [])

@[simp] theorem State_advance_kept (s : State) (dt : Nat) : (State.advance s dt).kept = s.kept := by
  unfold State.advance; repeat' split
  all_goals (try simp [])

@[simp] theorem State_used_kept (s : State) : (State.used s).kept = s.kept := by
  unfold State.used; repeat' split
  all_goals (try simp [])

@[simp] theorem State_touch_kept (s : State) (m : Nat) : (State.touch s m).kept = s.kept := by
  unfold State.touch; repeat' split
  all_goals (try simp [])

@[simp] theorem State_d2dTraffic_kept (s : State) : (State.d2dTraffic s).kept = s.kept := by
  unfold State.d2dTraffic; repeat' split
  all_goals (try simp [])

@[simp] theorem State_toADie_kept (s : State) (key : Nat) : (State.toADie s key).kept = s.kept := by
  unfold State.toADie; repeat' split
  all_goals (try simp [])

@[simp] theorem State_ringQueue_kept (s : State) (via sop : Option Nat) (ty dst info : Nat) (payload : Bytes) : (State.ringQueue s via sop ty dst info payload).kept = s.kept := by
  unfold State.ringQueue; repeat' split
  all_goals (try simp [])

@[simp] theorem State_ringSend_kept (s : State) (ty dst info : Nat) (payload : Bytes) : (State.ringSend s ty dst info payload).kept = s.kept := by
  unfold State.ringSend; repeat' split
  all_goals (try simp [])

@[simp] theorem State_event_kept (s : State) (code inst data : Nat) : (State.event s code inst data).kept = s.kept := by
  unfold State.event; repeat' split
  all_goals (try simp [])

@[simp] theorem State_nvmPublish_kept (s : State) : (State.nvmPublish s).kept = s.kept := by
  unfold State.nvmPublish; repeat' split
  all_goals (try simp [])

@[simp] theorem State_nvmJob_kept (s : State) (j : NvmJob) : (State.nvmJob s j).kept = s.kept := by
  unfold State.nvmJob; repeat' split
  all_goals (try simp [])

@[simp] theorem State_nvmOps_kept (s : State) (cls : Nat) (ops : List NvmOp) (fin : NvmDone) : (State.nvmOps s cls ops fin).kept = s.kept := by
  unfold State.nvmOps; repeat' split
  all_goals (try simp [])

@[simp] theorem State_nvmRecord_kept (s : State) (id cls : Nat) (data : Bytes) (fin : NvmDone) : (State.nvmRecord s id cls data fin).kept = s.kept := by
  unfold State.nvmRecord; repeat' split
  all_goals (try simp [])

@[simp] theorem State_laneRecord_kept (s : State) (h : Nat) : (State.laneRecord s h).kept = s.kept := by
  unfold State.laneRecord; repeat' split
  all_goals (try simp [])

@[simp] theorem State_wSpread_kept (s : State) (n : Nat) (c : Spread) : (State.wSpread s n c).kept = s.kept := by
  unfold State.wSpread; repeat' split
  all_goals (try simp [])

@[simp] theorem State_spreadShadow_kept (s : State) (n : Nat) (fin : NvmDone) : (State.spreadShadow s n fin).kept = s.kept := by
  unfold State.spreadShadow; repeat' split
  all_goals (try simp [])

@[simp] theorem State_spreadInc_kept (s : State) (n : Nat) : (State.spreadInc s n).kept = s.kept := by
  unfold State.spreadInc; repeat' split
  all_goals (try simp [])

@[simp] theorem State_spreadRoll_kept (s : State) (n b : Nat) : (State.spreadRoll s n b).kept = s.kept := by
  unfold State.spreadRoll; repeat' split
  all_goals (try simp [])

@[simp] theorem State_spreadRestart_kept (s : State) (n : Nat) : (State.spreadRestart s n).kept = s.kept := by
  unfold State.spreadRestart; repeat' split
  all_goals (try simp [])

@[simp] theorem State_hwmStore_kept (s : State) (v : Nat) : (State.hwmStore s v).kept = s.kept := by
  unfold State.hwmStore; repeat' split
  all_goals (try simp [])

@[simp] theorem State_tlyNumber_kept (s : State) (e : TEntry) : (State.tlyNumber s e).kept = s.kept := by
  unfold State.tlyNumber; repeat' split
  all_goals (try simp [])

@[simp] theorem State_tlyPut_kept (s : State) (e : TEntry) : (State.tlyPut s e).kept = s.kept := by
  unfold State.tlyPut; repeat' split
  all_goals (try simp [])

@[simp] theorem State_tlyAdd_kept (s : State) (src kind key result token value : Nat) : (State.tlyAdd s src kind key result token value).kept = s.kept := by
  unfold State.tlyAdd; repeat' split
  all_goals (try simp [])

@[simp] theorem State_bpHit_kept (s : State) (b : Bp) : (State.bpHit s b).kept = s.kept := by
  unfold State.bpHit; repeat' split
  all_goals (try simp [])

@[simp] theorem State_bpWrite_kept (s : State) (key : Nat) : (State.bpWrite s key).kept = s.kept := by
  unfold State.bpWrite; repeat' split
  all_goals (try simp [])

@[simp] theorem State_partnerSend_kept (s : State) (m : PMsg) : (State.partnerSend s m).kept = s.kept := by
  unfold State.partnerSend; repeat' split
  all_goals (try simp [])

@[simp] theorem State_toPartner_kept (s : State) (m : PMsg) : (State.toPartner s m).kept = s.kept := by
  unfold State.toPartner; repeat' split
  all_goals (try simp [])

@[simp] theorem State_forward_kept (s : State) (src key token : Nat) (data : Bytes) : (State.forward s src key token data).kept = s.kept := by
  unfold State.forward; repeat' split
  all_goals (try simp [])

@[simp] theorem State_actStart_kept (s : State) (src key value len : Nat) : (State.actStart s src key value len).kept = s.kept := by
  unfold State.actStart; repeat' split
  all_goals (try simp [])

@[simp] theorem State_actDone_kept (s : State) (key value : Nat) (ok : Bool) : (State.actDone s key value ok).kept = s.kept := by
  unfold State.actDone; repeat' split
  all_goals (try simp [])

@[simp] theorem State_answer_kept (s : State) (status token : Nat) : (State.answer s status token).kept = s.kept := by
  unfold State.answer; repeat' split
  all_goals (try simp [])

@[simp] theorem State_wrote_kept (s : State) (src kind key len v : Nat) : (State.wrote s src kind key len v).kept = s.kept := by
  unfold State.wrote; repeat' split
  all_goals (try simp [])

@[simp] theorem State_writeBy_kept (s : State) (o : Origin) (key v : Nat) (rel : Bool) (f : State → Nat ⊕ State) (h_f : ∀ t, SumKept (f t) t.kept) : (State.writeBy s o key v rel f).kept = s.kept := by
  unfold State.writeBy; simp only []; split
  · simp
  · have h := h_f ((s.w key v).wrote o.src 1 key (keySize key) v)
    revert h; cases f ((s.w key v).wrote o.src 1 key (keySize key) v) <;> simp

@[simp] theorem State_writeBy_good (s : State) (o : Origin) (key v : Nat) (rel : Bool) (f : State → Nat ⊕ State) (q)
    (h_f : ∀ t, Good q t.kept → SumGood q (f t)) (h : Good q s.kept) : Good q (s.writeBy o key v rel f).kept := by
  have h1 := h_f ((s.w key v).wrote o.src 1 key (keySize key) v) (by simp [h])
  unfold State.writeBy; simp only []; split
  · simp [h]
  · revert h1; cases f ((s.w key v).wrote o.src 1 key (keySize key) v) with
    | inl e => intro _; simp [h]
    | inr t => intro h1; rw [sumGood_inr] at h1; simp [h1]

@[simp] theorem State_actBy_kept (s : State) (o : Origin) (key v : Nat) (f : State → State) (h_f : ∀ t, (f t).kept = t.kept) : (State.actBy s o key v f).kept = s.kept := by
  unfold State.actBy; repeat' split
  all_goals (try simp [h_f])

@[simp] theorem State_actBy_good (s : State) (o : Origin) (key v : Nat) (f : State → State) (q)
    (h_f : ∀ t, Good q t.kept → Good q (f t).kept) (h : Good q s.kept) : Good q (s.actBy o key v f).kept := by
  unfold State.actBy; simp only []; (repeat' split)
  · simp [h]
  · simp [h]
  · exact h_f _ (by simp [h])

/-! Link -/

@[simp] theorem State_wHd_kept (s : State) (h : Nat) (x : Head) : (State.wHd s h x).kept = s.kept := by
  unfold State.wHd; repeat' split
  all_goals (try simp [])

@[simp] theorem State_wHr_kept (s : State) (h : Nat) (x : HeadRx) : (State.wHr s h x).kept = s.kept := by
  unfold State.wHr; repeat' split
  all_goals (try simp [])

@[simp] theorem State_wPipe_kept (s : State) (h : Nat) (x : Pipe) : (State.wPipe s h x).kept = s.kept := by
  unfold State.wPipe; repeat' split
  all_goals (try simp [])

@[simp] theorem State_wFold_kept (s : State) (h : Nat) (x : FoldSt) : (State.wFold s h x).kept = s.kept := by
  unfold State.wFold; repeat' split
  all_goals (try simp [])

@[simp] theorem State_headIn_kept (s : State) (h ty : Nat) (p : HeadPkt) (f : State → State) (h_f : ∀ t, (f t).kept = t.kept) : (State.headIn s h ty p f).kept = s.kept := by
  unfold State.headIn; repeat' split
  all_goals (try simp [h_f])

@[simp] theorem State_headSend_kept (s : State) (h ty : Nat) (payload : Bytes) : (State.headSend s h ty payload).kept = s.kept := by
  unfold State.headSend; repeat' split
  all_goals (try simp [])

@[simp] theorem State_cmdPacket_kept (s : State) (h : Nat) (c : HeadCmd) : (State.cmdPacket s h c).kept = s.kept := by
  unfold State.cmdPacket; repeat' split
  all_goals (try simp [])

@[simp] theorem State_headKick_kept (s : State) (h : Nat) : (State.headKick s h).kept = s.kept := by
  unfold State.headKick; repeat' split
  all_goals (try simp [])
  all_goals (repeat' split) <;> (try simp_all [])

@[simp] theorem State_headCmd_kept (s : State) (h code : Nat) (args : Bytes) : (State.headCmd s h code args).kept = s.kept := by
  unfold State.headCmd; repeat' split
  all_goals (try simp [])

@[simp] theorem State_stream_kept (s : State) (h a : Nat) : (State.stream s h a).kept = s.kept := by
  unfold State.stream; repeat' split
  all_goals (try simp [])

@[simp] theorem State_shutter_kept (s : State) (h a : Nat) : (State.shutter s h a).kept = s.kept := by
  unfold State.shutter; repeat' split
  all_goals (try simp [])

@[simp] theorem State_probeIn_kept (s : State) (h : Nat) (c : HeadCmd) (headTime turn : Nat) : (State.probeIn s h c headTime turn).kept = s.kept := by
  unfold State.probeIn; repeat' split
  all_goals (try simp [])

@[simp] theorem State_sendSettings_kept (s : State) (h : Nat) (p : PSet) : (State.sendSettings s h p).kept = s.kept := by
  unfold State.sendSettings; repeat' split
  all_goals (try simp [])

@[simp] theorem State_dropStage_kept (s : State) (h : Nat) : (State.dropStage s h).kept = s.kept := by
  unfold State.dropStage; repeat' split
  all_goals (try simp [])

@[simp] theorem State_tagTimeout_kept (s : State) (h tag : Nat) : (State.tagTimeout s h tag).kept = s.kept := by
  unfold State.tagTimeout; repeat' split
  all_goals (try simp [])

@[simp] theorem State_armSet_kept (s : State) (h : Nat) (p : PSet) : (State.armSet s h p).kept = s.kept := by
  unfold State.armSet; repeat' split
  all_goals (try simp [])

@[simp] theorem State_disarm_kept (s : State) (h : Nat) : (State.disarm s h).kept = s.kept := by
  unfold State.disarm; repeat' split
  all_goals (try simp [])

@[simp] theorem State_wRecord_kept (s : State) (h i v : Nat) : (State.wRecord s h i v).kept = s.kept := by
  unfold State.wRecord; repeat' split
  all_goals (try simp [])

@[simp] theorem State_wPersist_kept (s : State) (h : Nat) (l : List Patch) : (State.wPersist s h l).kept = s.kept := by
  unfold State.wPersist; repeat' split
  all_goals (try simp [])

@[simp] theorem State_recountClasses_kept (s : State) (h : Nat) : (State.recountClasses s h).kept = s.kept := by
  unfold State.recountClasses; repeat' split
  all_goals (try simp [])

/-! Shepherd -/

@[simp] theorem State_wLane_kept (s : State) (l : Nat) (x : Lane) : (State.wLane s l x).kept = s.kept := by
  unfold State.wLane; repeat' split
  all_goals (try simp [])

@[simp] theorem State_sendWord_kept (s : State) (l ty f0 f1 f2 f3 : Nat) : (State.sendWord s l ty f0 f1 f2 f3).kept = s.kept := by
  unfold State.sendWord; repeat' split
  all_goals (try simp [])

@[simp] theorem State_sendLull_kept (s : State) (l : Nat) : (State.sendLull s l).kept = s.kept := by
  unfold State.sendLull; repeat' split
  all_goals (try simp [])

@[simp] theorem State_xLull_kept (s : State) : (State.xLull s).kept = s.kept := by
  unfold State.xLull; repeat' split
  all_goals (try simp [])

@[simp] theorem State_engines_kept (s : State) : (State.engines s).kept = s.kept := by
  unfold State.engines; repeat' split
  all_goals (try simp [])

@[simp] theorem State_groupPublish_kept (s : State) (pl : Placing) : (State.groupPublish s pl).kept = s.kept := by
  unfold State.groupPublish; repeat' split
  all_goals (try simp [])

@[simp] theorem State_segmentMove_kept (s : State) (h loc : Nat) : (State.segmentMove s h loc).kept = s.kept := by
  unfold State.segmentMove; repeat' split
  all_goals (try simp [])

@[simp] theorem State_publish_kept (s : State) (cause : Nat) (pl : Placing) (fmt : Nat → Nat) : (State.publish s cause pl fmt).kept = s.kept := by
  have e3 : ∀ (a : Nat) (t : State) (p : Pool), State.kept (if t.r (Reg.strmKIND a) = 0 then
      t.wAll [(Reg.strmSTREAM_STATE a, 0), (Reg.strmPLACED_GROUP a, 0xFF), (Reg.strmPLACED_FORMAT a, 0), (Reg.strmLOAD a, 0)]
    else match pl.find? fun e => e.1 = a with
      | some (_, g, load) => t.wAll [(Reg.strmPLACED_GROUP a, g), (Reg.strmLOAD a, mega load), (Reg.strmPLACED_FORMAT a, fmt a),
          (Reg.strmSTREAM_STATE a, if fmt a < t.r (Reg.strmFORMAT a) ∧ t.r (Reg.strmKIND a) = 1 then 4 else 1)]
      | none => t.wAll [(Reg.strmPLACED_GROUP a, 0xFF), (Reg.strmLOAD a, 0),
          (Reg.strmSTREAM_STATE a, if t.r (Reg.strmSTREAM_STATE a) = 3 then 3 else 2)]) = t.kept := by
    intro a t p; (repeat' split) <;> simp
  delta State.publish
  extract_lets p hist q1 s1 s2 s3 s5 b s6 s7 body s8 q2 s9
  have h7 : s7.kept = s.kept := by
    have h1 : s1.kept = s.kept := (State_touch_kept _ _).trans (kept_shep _ _)
    have h2 : s2.kept = s1.kept := each_kept _ _ _ fun a t => State_segmentMove_kept _ _ _
    have h3 : s3.kept = s2.kept := each_kept _ _ _ fun a t => e3 a t p
    have h5 : s5.kept = s3.kept := State_groupPublish_kept _ _
    have h6 : s6.kept = s5.kept := State_wAll_kept _ _
    exact (State_wAll_kept _ _).trans (h6.trans (h5.trans (h3.trans (h2.trans h1))))
  clear_value s7
  refine (State_xLull_kept _).trans ?_
  have h9 : s9.kept = s7.kept := by
    show State.kept (if body = s7.shep.entries then s7 else _) = s7.kept
    split
    · rfl
    · exact (kept_shep _ _).trans ((State_w_kept _ _ _).trans (State_w_kept _ _ _))
  exact h9.trans h7

@[simp] theorem State_admitNow_kept (s : State) : (State.admitNow s).kept = s.kept := by
  unfold State.admitNow; repeat' split
  all_goals (try simp [])

@[simp] theorem State_askPartner_kept (s cand : State) (op : PendOp) : (State.askPartner s cand op).kept = s.kept := by
  unfold State.askPartner; repeat' split
  all_goals (try simp [])

@[simp] theorem State_admission_kept (s cand : State) (op : PendOp) (refuse : State → State) (go : State → State) (h_refuse : ∀ t, (refuse t).kept = t.kept) (h_go : ∀ t, (go t).kept = t.kept) (hc : cand.kept = s.kept) : (State.admission s cand op refuse go).kept = s.kept := by
  unfold State.admission; split
  · rfl
  · generalize cand.check = c; obtain ⟨code, inst⟩ := c
    dsimp only; split
    · simp [h_refuse]
    · split
      · simp
      · simp [h_go, hc]

/-! Actuation -/

@[simp] theorem State_wBank_kept (s : State) (b : Nat) (x : Bank) : (State.wBank s b x).kept = s.kept := by
  unfold State.wBank; repeat' split
  all_goals (try simp [])

@[simp] theorem State_wChan_kept (s : State) (n : Nat) (x : Chan) : (State.wChan s n x).kept = s.kept := by
  unfold State.wChan; repeat' split
  all_goals (try simp [])

@[simp] theorem State_wZone_kept (s : State) (z : Nat) (x : Zone) : (State.wZone s z x).kept = s.kept := by
  unfold State.wZone; repeat' split
  all_goals (try simp [])

@[simp] theorem State_drive_kept (s : State) (n : Nat) (ls hb hh : Bool) : (State.drive s n ls hb hh).kept = s.kept := by
  unfold State.drive; repeat' split
  all_goals (try simp [])

@[simp] theorem State_allOff_kept (s : State) (b : Nat) : (State.allOff s b).kept = s.kept := by
  unfold State.allOff; repeat' split
  all_goals (try simp [])

@[simp] theorem State_coil_kept (s : State) (n r : Nat) (injector : Bool) : (State.coil s n r injector).kept = s.kept := by
  unfold State.coil; repeat' split
  all_goals (try simp [])

@[simp] theorem State_queuePub_kept (s : State) (b : Nat) : (State.queuePub s b).kept = s.kept := by
  unfold State.queuePub; repeat' split
  all_goals (try simp [])

@[simp] theorem State_dropReq_kept (s : State) (q : Req) : (State.dropReq s q).kept = s.kept := by
  unfold State.dropReq; repeat' split
  all_goals (try simp [])

@[simp] theorem State_request_kept (s : State) (q : Req) : (State.request s q).kept = s.kept := by
  unfold State.request; repeat' split
  all_goals (try simp [])

@[simp] theorem State_cdMissed_kept (s : State) (n : Nat) : (State.cdMissed s n).kept = s.kept := by
  unfold State.cdMissed; repeat' split
  all_goals (try simp [])

@[simp] theorem State_cdEnd_kept (s : State) (b : Nat) (samples : List Int) (cut : Bool) : (State.cdEnd s b samples cut).kept = s.kept := by
  unfold State.cdEnd; repeat' split
  all_goals (try simp [])
  all_goals (repeat' split) <;> (try simp_all [])

@[simp] theorem State_boost_kept (s : State) (n : Nat) (dur : Nat) (restart : Bool) : (State.boost s n dur restart).kept = s.kept := by
  unfold State.boost; repeat' split
  all_goals (try simp [])

@[simp] theorem State_startEvent_kept (s : State) (q : Req) (pts : List Int) : (State.startEvent s q pts).kept = s.kept := by
  unfold State.startEvent; repeat' split
  all_goals (try simp [])

@[simp] theorem State_startNext_kept (s : State) (b : Nat) (pts : List Int) : (State.startNext s b pts).kept = s.kept := by
  unfold State.startNext; repeat' split
  all_goals (try simp [])

@[simp] theorem State_holdEst_kept (s : State) (n : Nat) (rEst : Option Nat) : (State.holdEst s n rEst).kept = s.kept := by
  unfold State.holdEst; repeat' split
  all_goals (try simp [])

@[simp] theorem State_decayEnded_kept (s : State) (n : Nat) (clean : Bool) (rEst : Option Nat) : (State.decayEnded s n clean rEst).kept = s.kept := by
  unfold State.decayEnded; repeat' split
  all_goals (try simp [])

@[simp] theorem State_lastOn_kept (s : State) (n : Nat) : (State.lastOn s n).kept = s.kept := by
  unfold State.lastOn; repeat' split
  all_goals (try simp [])

@[simp] theorem State_startDecay_kept (s : State) (n : Nat) (i : Option Nat) : (State.startDecay s n i).kept = s.kept := by
  unfold State.startDecay; repeat' split
  all_goals (try simp [])

@[simp] theorem State_hold_kept (s : State) (n i : Nat) : (State.hold s n i).kept = s.kept := by
  unfold State.hold; repeat' split
  all_goals (try simp [])

@[simp] theorem State_phDrop_kept (s : State) (n i : Nat) : (State.phDrop s n i).kept = s.kept := by
  unfold State.phDrop; repeat' split
  all_goals (try simp [])

@[simp] theorem State_peak_kept (s : State) (n i : Nat) : (State.peak s n i).kept = s.kept := by
  unfold State.peak; repeat' split
  all_goals (try simp [])

@[simp] theorem State_fall_kept (s : State) (n i : Nat) : (State.fall s n i).kept = s.kept := by
  unfold State.fall; repeat' split
  all_goals (try simp [])

@[simp] theorem State_leaveArmed_kept (s : State) (b : Nat) : (State.leaveArmed s b).kept = s.kept := by
  unfold State.leaveArmed; repeat' split
  all_goals (try simp [])

@[simp] theorem State_softReact_kept (s : State) (b : Nat) : (State.softReact s b).kept = s.kept := by
  unfold State.softReact; repeat' split
  all_goals (try simp [])
  all_goals (repeat' split) <;> (try simp_all [])

@[simp] theorem State_eventCut_kept (s : State) (b : Nat) : (State.eventCut s b).kept = s.kept := by
  unfold State.eventCut; repeat' split
  all_goals (try simp [])
  all_goals (repeat' split) <;> (try simp_all [])

@[simp] theorem State_hardReact_kept (s : State) (b : Nat) : (State.hardReact s b).kept = s.kept := by
  unfold State.hardReact; repeat' split
  all_goals (try simp [])
  all_goals (repeat' split) <;> (try simp_all [])

@[simp] theorem State_bankStop_kept (s : State) (b k : Nat) (hard : Bool) : (State.bankStop s b k hard).kept = s.kept := by
  unfold State.bankStop; repeat' split
  all_goals (try simp [])

@[simp] theorem State_stopAll_kept (s : State) (k : Nat) (hard : Bool) : (State.stopAll s k hard).kept = s.kept := by
  unfold State.stopAll; repeat' split
  all_goals (try simp [])

@[simp] theorem State_toFollow_kept (s : State) : (State.toFollow s).kept = s.kept := by
  unfold State.toFollow; repeat' split
  all_goals (try simp [])

@[simp] theorem State_armed_kept (s : State) (b : Nat) : (State.armed s b).kept = s.kept := by
  unfold State.armed; repeat' split
  all_goals (try simp [])

@[simp] theorem State_diagMsg_kept (s : State) : (State.diagMsg s).kept = s.kept := by
  unfold State.diagMsg; repeat' split
  all_goals (try simp [])

@[simp] theorem State_bankFault_kept (s : State) (b code : Nat) : (State.bankFault s b code).kept = s.kept := by
  unfold State.bankFault; repeat' split
  all_goals (try simp [])

@[simp] theorem State_lowSideOff_kept (s : State) (n : Nat) : (State.lowSideOff s n).kept = s.kept := by
  unfold State.lowSideOff; repeat' split
  all_goals (try simp [])

@[simp] theorem State_chLatch_kept (s : State) (n code : Nat) : (State.chLatch s n code).kept = s.kept := by
  unfold State.chLatch; repeat' split
  all_goals (try simp [])

@[simp] theorem State_chFault_kept (s : State) (n code : Nat) : (State.chFault s n code).kept = s.kept := by
  unfold State.chFault; repeat' split
  all_goals (try simp [])

@[simp] theorem State_noCurrent_kept (s : State) (n : Nat) : (State.noCurrent s n).kept = s.kept := by
  unfold State.noCurrent; repeat' split
  all_goals (try simp [])

@[simp] theorem State_chObs_kept (s : State) (n obs : Nat) (latch : State → State) (h_latch : ∀ t, (latch t).kept = t.kept) : (State.chObs s n obs latch).kept = s.kept := by
  unfold State.chObs; repeat' split
  all_goals (try simp [h_latch])

@[simp] theorem State_bankObs_kept (s : State) (b obs : Nat) (latch : State → State) (h_latch : ∀ t, (latch t).kept = t.kept) : (State.bankObs s b obs latch).kept = s.kept := by
  unfold State.bankObs; repeat' split
  all_goals (try simp [h_latch])

@[simp] theorem State_resolve_kept (s : State) (n vd : Nat) (railOff : Bool) : (State.resolve s n vd railOff).kept = s.kept := by
  unfold State.resolve; repeat' split
  all_goals (try simp [])

@[simp] theorem State_judgeOff_kept (s : State) (n vd vr : Nat) : (State.judgeOff s n vd vr).kept = s.kept := by
  unfold State.judgeOff; repeat' split
  all_goals (try simp [])

@[simp] theorem State_judgeOn_kept (s : State) (n vd vr : Nat) : (State.judgeOn s n vd vr).kept = s.kept := by
  unfold State.judgeOn; repeat' split
  all_goals (try simp [])

@[simp] theorem State_startTest_kept (s : State) (b : Nat) : (State.startTest s b).kept = s.kept := by
  unfold State.startTest; repeat' split
  all_goals (try simp [])
  all_goals (repeat' split) <;> (try simp_all [])

@[simp] theorem State_dropTest_kept (s : State) (b : Nat) : (State.dropTest s b).kept = s.kept := by
  unfold State.dropTest; repeat' split
  all_goals (try simp [])

@[simp] theorem State_diagOff_kept (s : State) (b : Nat) : (State.diagOff s b).kept = s.kept := by
  unfold State.diagOff; repeat' split
  all_goals (try simp [])

@[simp] theorem State_calFinish_kept (s : State) : (State.calFinish s).kept = s.kept := by
  unfold State.calFinish; repeat' split
  all_goals (try simp [])

@[simp] theorem State_bankTypeSet_kept (s : State) (b v : Nat) : (State.bankTypeSet s b v).kept = s.kept := by
  unfold State.bankTypeSet; repeat' split
  all_goals (try simp [])

@[simp] theorem State_calTry_kept (s : State) (b : Nat) : (State.calTry s b).kept = s.kept := by
  unfold State.calTry; repeat' split
  all_goals (try simp [])

@[simp] theorem State_diagClears_kept (s : State) : (State.diagClears s).kept = s.kept := by
  have h1 : (s.each (List.range 192) fun n t =>
      if (t.chan n).clear then
        ((t.wChan n { t.chan n with clear := false, obs := 0, obsN := 0, curN := 0 }).w (Reg.chdCH_FAULT n) 0).actDone (Reg.chdDIAG_CLEAR n) 0 true
      else t).kept = s.kept := each_kept _ _ _ (fun n t => by split <;> simp)
  have h2 (u : State) : (u.each bankNos fun b t =>
      if (t.bank b).clear then
        State.actDone (((t.wBank b { t.bank b with clear := false, obs := 0, obsN := 0 }).w (Reg.bdgBANK_FAULT b) 0).each (chansOf b) fun n u =>
          (u.wChan n { u.chan n with obs := 0, obsN := 0, curN := 0 }).when
            (decide ((u.wChan n { u.chan n with obs := 0, obsN := 0, curN := 0 }).r (Reg.chdCH_FAULT n) = 5)) fun w => w.w (Reg.chdCH_FAULT n) 0)
          (Reg.bdgBANK_DIAG_CLEAR b) 0 true
      else t).kept = u.kept := each_kept _ _ _ (fun b t => by split <;> simp)
  unfold State.diagClears; simp only [ite_kept, State_diagMsg_kept, ite_self]
  exact (h2 _).trans h1

/-! Authority -/

@[simp] theorem State_setEpoch_kept (s : State) (e : Nat) (why : EpochFor) : (State.setEpoch s e why).kept = s.kept := by
  unfold State.setEpoch; repeat' split
  all_goals (try simp [])

@[simp] theorem State_dropAuthority_kept (s : State) : (State.dropAuthority s).kept = s.kept := by
  unfold State.dropAuthority; repeat' split
  all_goals (try simp [])

@[simp] theorem State_demote_kept (s : State) (e : Nat) : (State.demote s e).kept = s.kept := by
  unfold State.demote; repeat' split
  all_goals (try simp [])

@[simp] theorem State_seeEpoch_kept (s : State) (e : Nat) (fromHead : Bool) : (State.seeEpoch s e fromHead).kept = s.kept := by
  unfold State.seeEpoch; repeat' split
  all_goals (try simp [])

@[simp] theorem State_resendStale_kept (s : State) : (State.resendStale s).kept = s.kept := by
  unfold State.resendStale
  refine each_kept _ _ _ (fun a t => ?_)
  simp only []; (repeat' split) <;> simp

@[simp] theorem State_epochStored_kept (s : State) (e : Nat) : (State.epochStored s e).kept = s.kept := by
  unfold State.epochStored
  extract_lets s1 s2 q1 s3 q2
  have h2 : s2.kept = s.kept := by simp [s2, s1]
  have h3 : s3.kept = s.kept := Eq.trans rfl h2
  split
  · split
    · exact h2
    · split
      · exact (State_resendStale_kept _).trans h3
      · split
        · exact (State_w_kept _ _ _).trans (Eq.trans rfl h3)
        · exact h3
  · exact h2

@[simp] theorem State_takeAuthority_kept (s : State) : (State.takeAuthority s).kept = s.kept := by
  unfold State.takeAuthority; repeat' split
  all_goals (try simp [])

@[simp] theorem State_handoverYield_kept (s : State) : (State.handoverYield s).kept = s.kept := by
  unfold State.handoverYield; repeat' split
  all_goals (try simp [])

/-! Ring -/

@[simp] theorem State_wPort_kept (s : State) (p : Nat) (x : Port) : (State.wPort s p x).kept = s.kept := by
  unfold State.wPort; repeat' split
  all_goals (try simp [])

@[simp] theorem State_portDown_kept (s : State) (p : Nat) : (State.portDown s p).kept = s.kept := by
  unfold State.portDown; repeat' split
  all_goals (try simp [])

@[simp] theorem State_dropNeighbour_kept (s : State) : (State.dropNeighbour s).kept = s.kept := by
  unfold State.dropNeighbour; repeat' split
  all_goals (try simp [])

@[simp] theorem State_ringPub_kept (s : State) : (State.ringPub s).kept = s.kept := by
  unfold State.ringPub; repeat' split
  all_goals (try simp [])

@[simp] theorem State_ringEmit_kept (s : State) (p : Nat) (f : RingFrame) : (State.ringEmit s p f).kept = s.kept := by
  unfold State.ringEmit; repeat' split
  all_goals (try simp [])

@[simp] theorem State_sendPort_kept (s : State) (p : Nat) (sop : Option Nat) (ty : Nat) (payload : Bytes) : (State.sendPort s p sop ty payload).kept = s.kept := by
  unfold State.sendPort; repeat' split
  all_goals (try simp [])

@[simp] theorem State_noteSop_kept (s : State) (p : Nat) (g : TxFrame) : (State.noteSop s p g).kept = s.kept := by
  unfold State.noteSop; repeat' split
  all_goals (try simp [])

@[simp] theorem State_insertFrame_kept (s : State) (collide : Bool) : (State.insertFrame s collide).kept = s.kept := by
  unfold State.insertFrame; repeat' split
  all_goals (try simp [])

@[simp] theorem State_ringForward_kept (s : State) (f : RingFrame) (payload : Bytes) (bad : Bool) : (State.ringForward s f payload bad).kept = s.kept := by
  unfold State.ringForward; repeat' split
  all_goals (try simp [])

@[simp] theorem State_fromMaster_kept (s : State) (f : RingFrame) (mine : Bool) : (State.fromMaster s f mine).kept = s.kept := by
  unfold State.fromMaster; repeat' split
  all_goals (try simp [])

@[simp] theorem State_frameFault_kept (s : State) (f : RingFrame) : (State.frameFault s f).kept = s.kept := by
  unfold State.frameFault; repeat' split
  all_goals (try simp [])

@[simp] theorem State_deskew_kept (s : State) (f : RingFrame) : (State.deskew s f).kept = s.kept := by
  unfold State.deskew; repeat' split
  all_goals (try simp [])

@[simp] theorem State_ringIn_kept (s0 : State) (f : RingFrame) (eff : Effect) (h_eff : ∀ t, (eff t).1.kept = t.kept) : (State.ringIn s0 f eff).kept = s0.kept := by
  unfold State.ringIn; dsimp only
  (repeat' split) <;> simp [h_eff]

@[simp] theorem State_ringIn_good (s : State) (f : RingFrame) (eff : Effect) (q) (h_eff : ∀ t, Good q t.kept → Good q (eff t).1.kept)
    (h : Good q s.kept) : Good q (s.ringIn f eff).kept := by
  unfold State.ringIn; dsimp only
  (repeat' split) <;> simp [h_eff, h]

/-! ActCmd -/

@[simp] theorem State_d2dBeat_kept (s : State) : (State.d2dBeat s).kept = s.kept := by
  unfold State.d2dBeat; repeat' split
  all_goals (try simp [])

theorem execD2dHeartbeatTx_kept (dt : Nat) (s : State) : OutKept (execD2dHeartbeatTx dt s) s.kept := by
  unfold execD2dHeartbeatTx; repeat' split
  all_goals (try simp [])
  all_goals (repeat' split) <;> (try simp_all [])

@[simp] theorem State_offerHandover_kept (s : State) : (State.offerHandover s).kept = s.kept := by
  unfold State.offerHandover; repeat' split
  all_goals (try simp [])

@[simp] theorem State_d2dLost_kept (s : State) : (State.d2dLost s).kept = s.kept := by
  unfold State.d2dLost; repeat' split
  all_goals (try simp [])

theorem execD2dLoss_kept (dt : Nat) (s : State) : OutKept (execD2dLoss dt s) s.kept := by
  unfold execD2dLoss; repeat' split
  all_goals (try simp [])
  all_goals (repeat' split) <;> (try simp_all [])

@[simp] theorem State_autoRearm_kept (s : State) (b : Nat) : (State.autoRearm s b).kept = s.kept := by
  unfold State.autoRearm; repeat' split
  all_goals (try simp [])

@[simp] theorem State_d2dBack_kept (s : State) : (State.d2dBack s).kept = s.kept := by
  unfold State.d2dBack; repeat' split
  all_goals (try simp [])

theorem execD2dRecovered_kept (dt : Nat) (s : State) : OutKept (execD2dRecovered dt s) s.kept := by
  unfold execD2dRecovered; repeat' split
  all_goals (try simp [])
  all_goals (repeat' split) <;> (try simp_all [])

@[simp] theorem State_d2dRelease_kept (s : State) : (State.d2dRelease s).kept = s.kept := by
  unfold State.d2dRelease; repeat' split
  all_goals (try simp [])

theorem execGateReleaseAfterD2dLoss_kept (dt : Nat) (s : State) : OutKept (execGateReleaseAfterD2dLoss dt s) s.kept := by
  unfold execGateReleaseAfterD2dLoss; repeat' split
  all_goals (try simp [])
  all_goals (repeat' split) <;> (try simp_all [])

@[simp] theorem State_ownEstop_kept (s : State) : (State.ownEstop s).kept = s.kept := by
  unfold State.ownEstop; repeat' split
  all_goals (try simp [])

@[simp] theorem State_stopLow_kept (s : State) (width : Nat) : (State.stopLow s width).kept = s.kept := by
  unfold State.stopLow; repeat' split
  all_goals (try simp [])

theorem execStopNLow_kept (dt : Nat) (width : Nat) (s : State) : OutKept (execStopNLow dt width s) s.kept := by
  unfold execStopNLow; repeat' split
  all_goals (try simp [])
  all_goals (repeat' split) <;> (try simp_all [])

@[simp] theorem State_stopRelease_kept (s : State) : (State.stopRelease s).kept = s.kept := by
  unfold State.stopRelease; repeat' split
  all_goals (try simp [])

theorem execStopNRelease_kept (dt : Nat) (s : State) : OutKept (execStopNRelease dt s) s.kept := by
  unfold execStopNRelease; repeat' split
  all_goals (try simp [])
  all_goals (repeat' split) <;> (try simp_all [])

@[simp] theorem State_vgate_kept (s : State) (mv : Nat) : (State.vgate s mv).kept = s.kept := by
  unfold State.vgate; repeat' split
  all_goals (try simp [])

theorem execVgateLow_kept (dt : Nat) (mv : Nat) (s : State) : OutKept (execVgateLow dt mv s) s.kept := by
  unfold execVgateLow; repeat' split
  all_goals (try simp [])
  all_goals (repeat' split) <;> (try simp_all [])

@[simp] theorem State_floatLow_kept (s : State) (b : Nat) (boost : Bool) (mv dur : Nat) : (State.floatLow s b boost mv dur).kept = s.kept := by
  unfold State.floatLow; repeat' split
  all_goals (try simp [])

theorem execFloatingSupplyLow_kept (dt : Nat) (b : Fin 24) (boost : Bool) (mv dur : Nat) (s : State) : OutKept (execFloatingSupplyLow dt b boost mv dur s) s.kept := by
  unfold execFloatingSupplyLow; repeat' split
  all_goals (try simp [])
  all_goals (repeat' split) <;> (try simp_all [])

@[simp] theorem State_armRun_kept (s : State) (b v : Nat) : (State.armRun s b v).kept = s.kept := by
  unfold State.armRun; repeat' split
  all_goals (try simp [])

theorem execArm_kept (dt : Nat) (b : Fin 24) (o : Origin) (s : State) : OutKept (execArm dt b o s) s.kept := by
  unfold execArm; repeat' split
  all_goals (try simp [])
  all_goals (repeat' split) <;> (try simp_all [])

theorem execDisarm_kept (dt : Nat) (b : Fin 24) (o : Origin) (s : State) : OutKept (execDisarm dt b o s) s.kept := by
  unfold execDisarm; repeat' split
  all_goals (try simp [])
  all_goals (repeat' split) <;> (try simp_all [])

@[simp] theorem State_testRun_kept (s : State) (n v : Nat) : (State.testRun s n v).kept = s.kept := by
  unfold State.testRun; repeat' split
  all_goals (try simp [])

theorem execTestPulse_kept (dt : Nat) (n : Fin 192) (o : Origin) (v : Nat) (s : State) : OutKept (execTestPulse dt n o v s) s.kept := by
  unfold execTestPulse; repeat' split
  all_goals (try simp [])
  all_goals (repeat' split) <;> (try simp_all [])

@[simp] theorem State_eligible_kept (s : State) (n : Nat) (pts : List Int) : (State.eligible s n pts).kept = s.kept := by
  unfold State.eligible; repeat' split
  all_goals (try simp [])
  all_goals (repeat' split) <;> (try simp_all [])

theorem execRequestEligible_kept (dt : Nat) (n : Fin 192) (pts : List Int) (s : State) : OutKept (execRequestEligible dt n pts s) s.kept := by
  unfold execRequestEligible; repeat' split
  all_goals (try simp [])
  all_goals (repeat' split) <;> (try simp_all [])

@[simp] theorem State_deadline_kept (s : State) (n : Nat) : (State.deadline s n).kept = s.kept := by
  unfold State.deadline; repeat' split
  all_goals (try simp [])
  all_goals (repeat' split) <;> (try simp_all [])

theorem execRequestDeadline_kept (dt : Nat) (n : Fin 192) (s : State) : OutKept (execRequestDeadline dt n s) s.kept := by
  unfold execRequestDeadline; repeat' split
  all_goals (try simp [])
  all_goals (repeat' split) <;> (try simp_all [])

@[simp] theorem State_boostOver_kept (s : State) (n i : Nat) : (State.boostOver s n i).kept = s.kept := by
  unfold State.boostOver; repeat' split
  all_goals (try simp [])

theorem execBoostEnd_kept (dt : Nat) (n : Fin 192) (i : Nat) (s : State) : OutKept (execBoostEnd dt n i s) s.kept := by
  unfold execBoostEnd; repeat' split
  all_goals (try simp [])
  all_goals (repeat' split) <;> (try simp_all [])

@[simp] theorem State_fallOver_kept (s : State) (n i : Nat) : (State.fallOver s n i).kept = s.kept := by
  unfold State.fallOver; repeat' split
  all_goals (try simp [])

theorem execFallEnd_kept (dt : Nat) (n : Fin 192) (i : Nat) (s : State) : OutKept (execFallEnd dt n i s) s.kept := by
  unfold execFallEnd; repeat' split
  all_goals (try simp [])
  all_goals (repeat' split) <;> (try simp_all [])

@[simp] theorem State_peakEnds_kept (s : State) (n i : Nat) : (State.peakEnds s n i).kept = s.kept := by
  unfold State.peakEnds; repeat' split
  all_goals (try simp [])

theorem execPeakEnd_kept (dt : Nat) (n : Fin 192) (i : Nat) (s : State) : OutKept (execPeakEnd dt n i s) s.kept := by
  unfold execPeakEnd; repeat' split
  all_goals (try simp [])
  all_goals (repeat' split) <;> (try simp_all [])

@[simp] theorem State_phDropOver_kept (s : State) (n i : Nat) : (State.phDropOver s n i).kept = s.kept := by
  unfold State.phDropOver; repeat' split
  all_goals (try simp [])

theorem execPhDropEnd_kept (dt : Nat) (n : Fin 192) (i : Nat) (s : State) : OutKept (execPhDropEnd dt n i s) s.kept := by
  unfold execPhDropEnd; repeat' split
  all_goals (try simp [])
  all_goals (repeat' split) <;> (try simp_all [])

@[simp] theorem State_chop_kept (s : State) (n i : Nat) : (State.chop s n i).kept = s.kept := by
  unfold State.chop; repeat' split
  all_goals (try simp [])

theorem execChopThreshold_kept (dt : Nat) (n : Fin 192) (i : Nat) (s : State) : OutKept (execChopThreshold dt n i s) s.kept := by
  unfold execChopThreshold; repeat' split
  all_goals (try simp [])
  all_goals (repeat' split) <;> (try simp_all [])

@[simp] theorem State_durationOver_kept (s : State) (n i : Nat) : (State.durationOver s n i).kept = s.kept := by
  unfold State.durationOver; repeat' split
  all_goals (try simp [])

theorem execDurationEnd_kept (dt : Nat) (n : Fin 192) (i : Nat) (s : State) : OutKept (execDurationEnd dt n i s) s.kept := by
  unfold execDurationEnd; repeat' split
  all_goals (try simp [])
  all_goals (repeat' split) <;> (try simp_all [])

@[simp] theorem State_slowOver_kept (s : State) (n : Nat) : (State.slowOver s n).kept = s.kept := by
  unfold State.slowOver; repeat' split
  all_goals (try simp [])
  all_goals (repeat' split) <;> (try simp_all [])

theorem execTSlowEnd_kept (dt : Nat) (n : Fin 192) (s : State) : OutKept (execTSlowEnd dt n s) s.kept := by
  unfold execTSlowEnd; repeat' split
  all_goals (try simp [])
  all_goals (repeat' split) <;> (try simp_all [])

@[simp] theorem State_decayOver_kept (s : State) (n i rEst : Nat) : (State.decayOver s n i rEst).kept = s.kept := by
  unfold State.decayOver; repeat' split
  all_goals (try simp [])

theorem execDecayEnd_kept (dt : Nat) (n : Fin 192) (i rEst : Nat) (s : State) : OutKept (execDecayEnd dt n i rEst s) s.kept := by
  unfold execDecayEnd; repeat' split
  all_goals (try simp [])
  all_goals (repeat' split) <;> (try simp_all [])

@[simp] theorem State_decayTooLong_kept (s : State) (n : Nat) : (State.decayTooLong s n).kept = s.kept := by
  unfold State.decayTooLong; repeat' split
  all_goals (try simp [])
  all_goals (repeat' split) <;> (try simp_all [])

theorem execDecayLong_kept (dt : Nat) (n : Fin 192) (s : State) : OutKept (execDecayLong dt n s) s.kept := by
  unfold execDecayLong; repeat' split
  all_goals (try simp [])
  all_goals (repeat' split) <;> (try simp_all [])

@[simp] theorem State_decayLimited_kept (s : State) (n : Nat) : (State.decayLimited s n).kept = s.kept := by
  unfold State.decayLimited; repeat' split
  all_goals (try simp [])

theorem execDecayLimit_kept (dt : Nat) (n : Fin 192) (s : State) : OutKept (execDecayLimit dt n s) s.kept := by
  unfold execDecayLimit; repeat' split
  all_goals (try simp [])
  all_goals (repeat' split) <;> (try simp_all [])

@[simp] theorem State_bankFreed_kept (s : State) (b : Nat) (pts : List Int) : (State.bankFreed s b pts).kept = s.kept := by
  unfold State.bankFreed; repeat' split
  all_goals (try simp [])
  all_goals (repeat' split) <;> (try simp_all [])

theorem execBankFree_kept (dt : Nat) (b : Fin 24) (pts : List Int) (s : State) : OutKept (execBankFree dt b pts s) s.kept := by
  unfold execBankFree; repeat' split
  all_goals (try simp [])
  all_goals (repeat' split) <;> (try simp_all [])

@[simp] theorem State_boostSample_kept (s : State) (b shs : Nat) : (State.boostSample s b shs).kept = s.kept := by
  unfold State.boostSample; repeat' split
  all_goals (try simp [])

@[simp] theorem State_railCheck_kept (s : State) (b : Nat) (boost : Bool) (shs : Nat) : (State.railCheck s b boost shs).kept = s.kept := by
  unfold State.railCheck; repeat' split
  all_goals (try simp [])

theorem execRailSample_kept (dt : Nat) (b : Fin 24) (boost : Bool) (shs : Nat) (s : State) : OutKept (execRailSample dt b boost shs s) s.kept := by
  unfold execRailSample; repeat' split
  all_goals (try simp [])
  all_goals (repeat' split) <;> (try simp_all [])

@[simp] theorem State_pwmDrive_kept (s : State) (n k duty : Nat) : (State.pwmDrive s n k duty).kept = s.kept := by
  unfold State.pwmDrive; repeat' split
  all_goals (try simp [])

@[simp] theorem State_pwm_kept (s : State) (n iAvg : Nat) : (State.pwm s n iAvg).kept = s.kept := by
  unfold State.pwm; repeat' split
  all_goals (try simp [])

theorem execPwmPeriod_kept (dt : Nat) (n : Fin 192) (iAvg : Nat) (s : State) : OutKept (execPwmPeriod dt n iAvg s) s.kept := by
  unfold execPwmPeriod; repeat' split
  all_goals (try simp [])
  all_goals (repeat' split) <;> (try simp_all [])

@[simp] theorem State_tripped_kept (s : State) (n i vds : Nat) : (State.tripped s n i vds).kept = s.kept := by
  unfold State.tripped; repeat' split
  all_goals (try simp [])

theorem execOvercurrent_kept (dt : Nat) (n : Fin 192) (i vds : Nat) (s : State) : OutKept (execOvercurrent dt n i vds s) s.kept := by
  unfold execOvercurrent; repeat' split
  all_goals (try simp [])
  all_goals (repeat' split) <;> (try simp_all [])

@[simp] theorem State_openChecked_kept (s : State) (n i : Nat) : (State.openChecked s n i).kept = s.kept := by
  unfold State.openChecked; repeat' split
  all_goals (try simp [])

theorem execOpenCheck_kept (dt : Nat) (n : Fin 192) (i : Nat) (s : State) : OutKept (execOpenCheck dt n i s) s.kept := by
  unfold execOpenCheck; repeat' split
  all_goals (try simp [])
  all_goals (repeat' split) <;> (try simp_all [])

@[simp] theorem State_newRound_kept (s : State) (b : Nat) : (State.newRound s b).kept = s.kept := by
  unfold State.newRound; repeat' split
  all_goals (try simp [])

theorem execOffTestRound_kept (dt : Nat) (b : Fin 24) (s : State) : OutKept (execOffTestRound dt b s) s.kept := by
  unfold execOffTestRound; repeat' split
  all_goals (try simp [])
  all_goals (repeat' split) <;> (try simp_all [])

@[simp] theorem State_offSample_kept (s : State) (b vd vr : Nat) : (State.offSample s b vd vr).kept = s.kept := by
  unfold State.offSample; repeat' split
  all_goals (try simp [])
  all_goals (repeat' split) <;> (try simp_all [])

theorem execRailOffTestSample_kept (dt : Nat) (b : Fin 24) (vd vr : Nat) (s : State) : OutKept (execRailOffTestSample dt b vd vr s) s.kept := by
  unfold execRailOffTestSample; repeat' split
  all_goals (try simp [])
  all_goals (repeat' split) <;> (try simp_all [])

@[simp] theorem State_onSample_kept (s : State) (n vd vr : Nat) : (State.onSample s n vd vr).kept = s.kept := by
  unfold State.onSample; repeat' split
  all_goals (try simp [])

theorem execRailOnTestSample_kept (dt : Nat) (n : Fin 192) (vd vr : Nat) (s : State) : OutKept (execRailOnTestSample dt n vd vr s) s.kept := by
  unfold execRailOnTestSample; repeat' split
  all_goals (try simp [])
  all_goals (repeat' split) <;> (try simp_all [])

theorem execDiagClear_kept (dt : Nat) (n : Fin 192) (o : Origin) (v : Nat) (s : State) : OutKept (execDiagClear dt n o v s) s.kept := by
  unfold execDiagClear; repeat' split
  all_goals (try simp [])
  all_goals (repeat' split) <;> (try simp_all [])

theorem execBankDiagClear_kept (dt : Nat) (b : Fin 24) (o : Origin) (v : Nat) (s : State) : OutKept (execBankDiagClear dt b o v s) s.kept := by
  unfold execBankDiagClear; repeat' split
  all_goals (try simp [])
  all_goals (repeat' split) <;> (try simp_all [])

@[simp] theorem State_cdOpen_kept (s : State) (n : Nat) : (State.cdOpen s n).kept = s.kept := by
  unfold State.cdOpen; repeat' split
  all_goals (try simp [])
  all_goals (repeat' split) <;> (try simp_all [])

theorem execCdWindowOpen_kept (dt : Nat) (n : Fin 192) (s : State) : OutKept (execCdWindowOpen dt n s) s.kept := by
  unfold execCdWindowOpen; repeat' split
  all_goals (try simp [])
  all_goals (repeat' split) <;> (try simp_all [])

@[simp] theorem State_cdClose_kept (s : State) (n : Nat) (pts : List Int) : (State.cdClose s n pts).kept = s.kept := by
  unfold State.cdClose; repeat' split
  all_goals (try simp [])
  all_goals (repeat' split) <;> (try simp_all [])

theorem execCdWindowEnd_kept (dt : Nat) (n : Fin 192) (pts : List Int) (s : State) : OutKept (execCdWindowEnd dt n pts s) s.kept := by
  unfold execCdWindowEnd; repeat' split
  all_goals (try simp [])
  all_goals (repeat' split) <;> (try simp_all [])

@[simp] theorem State_calNext_kept (s : State) (n : Nat) : (State.calNext s n).kept = s.kept := by
  unfold State.calNext; repeat' split
  all_goals (try simp [])

@[simp] theorem State_calApply_kept (s : State) (n : Nat) (v : CalVals) : (State.calApply s n v).kept = s.kept := by
  unfold State.calApply; repeat' split
  all_goals (try simp [])

@[simp] theorem State_calDone_kept (s : State) (n : Nat) (v : CalVals) : (State.calDone s n v).kept = s.kept := by
  unfold State.calDone; repeat' split
  all_goals (try simp [])

theorem execChannelCalDone_kept (dt : Nat) (n : Fin 192) (cs ds shs : SenseCal) (trims : List Int) (s : State) :
    OutKept (execChannelCalDone dt n cs ds shs trims s) s.kept := by
  unfold execChannelCalDone; repeat' split
  all_goals (try simp [])
  all_goals (repeat' split) <;> (try simp_all [])

@[simp] theorem State_calLate_kept (s : State) (n : Nat) : (State.calLate s n).kept = s.kept := by
  unfold State.calLate; repeat' split
  all_goals (try simp [])

theorem execCalOverdue_kept (dt : Nat) (n : Fin 192) (s : State) : OutKept (execCalOverdue dt n s) s.kept := by
  unfold execCalOverdue; repeat' split
  all_goals (try simp [])
  all_goals (repeat' split) <;> (try simp_all [])

end Sys2Proof.Machine
end

