-- ==== Sys2Proof/Laws/KeptHeads.lean ====
section
/-! SUPPORT. The queue and the byte stores under folds, tables, attaching, exports, webs, zones and the stores: one lemma per
operation (`_kept`: left as they are; `_good`: the queue left, the canonical form kept). -/

set_option linter.all false

namespace Sys2Proof.Machine

/-! Fold -/

@[simp] theorem State_statPublish_kept (s : State) (h : Nat) : (State.statPublish s h).kept = s.kept := by
  unfold State.statPublish; repeat' split
  all_goals (try simp [])

@[simp] theorem State_statClose_kept (s : State) (h cause : Nat) : (State.statClose s h cause).kept = s.kept := by
  unfold State.statClose; repeat' split
  all_goals (try simp [])

@[simp] theorem State_lifePublish_kept (s : State) (h : Nat) : (State.lifePublish s h).kept = s.kept := by
  unfold State.lifePublish; repeat' split
  all_goals (try simp [])

@[simp] theorem State_lifeWrite_kept (s : State) (h : Nat) : (State.lifeWrite s h).kept = s.kept := by
  unfold State.lifeWrite; repeat' split
  all_goals (try simp [])

@[simp] theorem State_lifeShow_kept (s : State) (h : Nat) : (State.lifeShow s h).kept = s.kept := by
  unfold State.lifeShow; repeat' split
  all_goals (try simp [])

@[simp] theorem State_lifeAdd_kept (s : State) (h : Nat) (f : Life → Life) : (State.lifeAdd s h f).kept = s.kept := by
  unfold State.lifeAdd; repeat' split
  all_goals (try simp [])

@[simp] theorem State_actuation_kept (s : State) (h : Nat) : (State.actuation s h).kept = s.kept := by
  unfold State.actuation; repeat' split
  all_goals (try simp [])

@[simp] theorem State_writeBack_kept (s : State) (h : Nat) : (State.writeBack s h).kept = s.kept := by
  unfold State.writeBack; repeat' split
  all_goals (try simp [])

@[simp] theorem State_dropWriteBack_kept (s : State) (h : Nat) : (State.dropWriteBack s h).kept = s.kept := by
  unfold State.dropWriteBack; repeat' split
  all_goals (try simp [])

@[simp] theorem State_tauCount_kept (s : State) (h : Nat) : (State.tauCount s h).kept = s.kept := by
  unfold State.tauCount; repeat' split
  all_goals (try simp [])

@[simp] theorem State_tauMerge_kept (s : State) (h : Nat) (found : List (Nat × Nat)) : (State.tauMerge s h found).kept = s.kept := by
  unfold State.tauMerge; repeat' split
  all_goals (try simp [])

@[simp] theorem State_tauDiscard_kept (s : State) (h : Nat) : (State.tauDiscard s h).kept = s.kept := by
  unfold State.tauDiscard; repeat' split
  all_goals (try simp [])

@[simp] theorem State_dropProposals_kept (s : State) (h : Nat) : (State.dropProposals s h).kept = s.kept := by
  unfold State.dropProposals; repeat' split
  all_goals (try simp [])

@[simp] theorem State_foldClear_kept (s : State) (h : Nat) : (State.foldClear s h).kept = s.kept := by
  unfold State.foldClear; repeat' split
  all_goals (try simp [])

@[simp] theorem State_foldEnd_kept (s : State) (h code state : Nat) : (State.foldEnd s h code state).kept = s.kept := by
  unfold State.foldEnd; repeat' split
  all_goals (try simp [])

@[simp] theorem State_suspect_kept (s : State) (h : Nat) : (State.suspect s h).kept = s.kept := by
  unfold State.suspect; repeat' split
  all_goals (try simp [])

@[simp] theorem State_unsuspect_kept (s : State) (h : Nat) : (State.unsuspect s h).kept = s.kept := by
  unfold State.unsuspect; repeat' split
  all_goals (try simp [])

@[simp] theorem State_foldFail_kept (s : State) (h code : Nat) : (State.foldFail s h code).kept = s.kept := by
  unfold State.foldFail; repeat' split
  all_goals (try simp [])

@[simp] theorem State_lifeRun_kept (s : State) (h : Nat) : (State.lifeRun s h).kept = s.kept := by
  unfold State.lifeRun; repeat' split
  all_goals (try simp [])

@[simp] theorem State_foldAbort_kept (s : State) (h : Nat) : (State.foldAbort s h).kept = s.kept := by
  unfold State.foldAbort; repeat' split
  all_goals (try simp [])

@[simp] theorem State_foldDiscard_kept (s : State) (h : Nat) : (State.foldDiscard s h).kept = s.kept := by
  unfold State.foldDiscard; repeat' split
  all_goals (try simp [])

@[simp] theorem State_superArm_kept (s : State) (h : Nat) (p : PSet) : (State.superArm s h p).kept = s.kept := by
  unfold State.superArm; repeat' split
  all_goals (try simp [])

@[simp] theorem State_leaveStreaming_kept (s : State) (h dest : Nat) : (State.leaveStreaming s h dest).kept = s.kept := by
  unfold State.leaveStreaming; repeat' split
  all_goals (try simp [])

@[simp] theorem State_darken_kept (s : State) (h : Nat) : (State.darken s h).kept = s.kept := by
  unfold State.darken; repeat' split
  all_goals (try simp [])

@[simp] theorem State_foldStart_kept (s : State) (h cause : Nat) : (State.foldStart s h cause).kept = s.kept := by
  unfold State.foldStart; repeat' split
  all_goals (try simp [])

@[simp] theorem State_foldTrigger_kept (s : State) (h : Nat) : (State.foldTrigger s h).kept = s.kept := by
  unfold State.foldTrigger; repeat' split
  all_goals (try simp [])

@[simp] theorem State_commitLater_kept (s : State) (h : Nat) (k : SetKind) : (State.commitLater s h k).kept = s.kept := by
  unfold State.commitLater; repeat' split
  all_goals (try simp [])

@[simp] theorem State_skimArm_kept (s : State) (h : Nat) : (State.skimArm s h).kept = s.kept := by
  unfold State.skimArm; repeat' split
  all_goals (try simp [])

@[simp] theorem State_skimPass_kept (s : State) (h : Nat) : (State.skimPass s h).kept = s.kept := by
  unfold State.skimPass; repeat' split
  all_goals (try simp [])

@[simp] theorem State_foldChecked_kept (s : State) (h : Nat) : (State.foldChecked s h).kept = s.kept := by
  unfold State.foldChecked; repeat' split
  all_goals (try simp [])

@[simp] theorem State_offsetsOut_kept (s : State) (h tag : Nat) : (State.offsetsOut s h tag).kept = s.kept := by
  unfold State.offsetsOut; repeat' split
  all_goals (try simp [])

@[simp] theorem State_foldArm_kept (s : State) (h : Nat) : (State.foldArm s h).kept = s.kept := by
  unfold State.foldArm; repeat' split
  all_goals (try simp [])

@[simp] theorem State_foldOpened_kept (s : State) (h : Nat) : (State.foldOpened s h).kept = s.kept := by
  unfold State.foldOpened; repeat' split
  all_goals (try simp [])

@[simp] theorem State_foldNotOpen_kept (s : State) (h : Nat) : (State.foldNotOpen s h).kept = s.kept := by
  unfold State.foldNotOpen; repeat' split
  all_goals (try simp [])

@[simp] theorem State_foldSwitched_kept (s : State) (h t0 : Nat) : (State.foldSwitched s h t0).kept = s.kept := by
  unfold State.foldSwitched; repeat' split
  all_goals (try simp [])

/-! Replace -/

@[simp] theorem State_headShed_kept (s : State) (h : Nat) : (State.headShed s h).kept = s.kept := by
  unfold State.headShed; repeat' split
  all_goals (try simp [])

@[simp] theorem State_headBoundary_kept (s : State) (h : Nat) : (State.headBoundary s h).kept = s.kept := by
  unfold State.headBoundary; repeat' split
  all_goals (try simp [])

@[simp] theorem State_shedOne_kept (s : State) : OptKept (State.shedOne s) s.kept := by
  unfold State.shedOne; repeat' split
  all_goals (try simp [])
  all_goals (repeat' split) <;> (try simp_all [])

@[simp] theorem State_shed_kept (s : State) (fuel : Nat) : (State.shed s fuel).kept = s.kept := by
  induction fuel generalizing s with
  | zero => rfl
  | succ fuel ih =>
    unfold State.shed; simp only []; split
    · rfl
    · have h := State_shedOne_kept s
      revert h; cases s.shedOne <;> simp [ih]

@[simp] theorem State_easeStream_kept (s : State) (g step x : Nat) (p : Placing) : (State.easeStream s g step x p).1.kept = s.kept := by
  unfold State.easeStream; repeat' split
  all_goals (try simp [])
  all_goals (repeat' split) <;> (try simp_all [])

@[simp] theorem State_easeGroup_kept (s : State) (g : Nat) (p : Placing) : (State.easeGroup s g p).1.kept = s.kept := by
  unfold State.easeGroup
  exact foldl1_kept _ _ (fun a k => foldl1_kept _ _ (fun b x => State_easeStream_kept b.1 g k x b.2) a) (s, p)

@[simp] theorem State_rePlaced_kept (s : State) : (State.rePlaced s).1.kept = s.kept := by
  unfold State.rePlaced
  exact ite_fst_kept _ _ _ (foldl1_kept _ _ (fun b x => State_easeGroup_kept b.1 x b.2) _) rfl

@[simp] theorem State_mapNewer_kept (s : State) (old : Nat) : (State.mapNewer s old).kept = s.kept := by
  unfold State.mapNewer; split
  · rw [State_w_kept]; rfl
  · rfl

@[simp] theorem State_replaceWith_kept (s : State) (cause : Nat) (p : Placing) : (State.replaceWith s cause p).kept = s.kept := by
  unfold State.replaceWith
  simp only [State_tlyAdd_kept, State_mapNewer_kept, State_w_kept, State_bump_kept, State_publish_kept]

@[simp] theorem State_replace_kept (s : State) (cause : Nat) : (State.replace s cause).kept = s.kept := by
  unfold State.replace
  dsimp only
  rw [State_replaceWith_kept, State_rePlaced_kept, State_shed_kept]

@[simp] theorem State_restored_kept (s : State) (item : Nat) : (State.restored s item).kept = s.kept := by
  unfold State.restored; repeat' split
  all_goals (try simp [])

@[simp] theorem State_watchBegin_kept (s : State) (i : Nat) : (State.watchBegin s i).kept = s.kept := by
  unfold State.watchBegin; repeat' split
  all_goals (try simp [])

@[simp] theorem State_watchStep_kept (s : State) : (State.watchStep s).kept = s.kept := by
  unfold State.watchStep; repeat' split
  all_goals (try simp [])

/-! Flash -/

@[simp] theorem State_flashKick_kept (s : State) : (State.flashKick s).kept = s.kept := by
  unfold State.flashKick; repeat' split
  all_goals (try simp [])

@[simp] theorem State_flashJob_kept (s : State) (j : FlashJob) : (State.flashJob s j).kept = s.kept := by
  unfold State.flashJob; repeat' split
  all_goals (try simp [])

@[simp] theorem State_storeTable_kept (s : State) (t : Nat) (body : Bytes) : (State.storeTable s t body).kept = s.kept := by
  unfold State.storeTable; repeat' split
  all_goals (try simp [])

/-! Radio -/

@[simp] theorem State_wSlot_kept (s : State) (t c : Nat) (b : Bytes) : (State.wSlot s t c b).kept = s.kept := by
  unfold State.wSlot; repeat' split
  all_goals (try simp [])

@[simp] theorem State_newestPub_kept (s : State) (t c : Nat) : (State.newestPub s t c).kept = s.kept := by
  unfold State.newestPub; repeat' split
  all_goals (try simp [])

@[simp] theorem State_slotPut_kept (s : State) (t c : Nat) (b : Bytes) (origin : Nat) : (State.slotPut s t c b origin).kept = s.kept := by
  unfold State.slotPut; repeat' split
  all_goals (try simp [])

@[simp] theorem State_tableDone_kept (s : State) (t c : Nat) (b : Bytes) (origin : Nat) : (State.tableDone s t c b origin).kept = s.kept := by
  unfold State.tableDone; repeat' split
  all_goals (try simp [])

@[simp] theorem State_slotSpoil_kept (s : State) (t c : Nat) (b : Bytes) : (State.slotSpoil s t c b).kept = s.kept := by
  unfold State.slotSpoil; repeat' split
  all_goals (try simp [])

@[simp] theorem State_tableWrite_kept (s : State) (t offset : Nat) (d : Bytes) : (State.tableWrite s t offset d).2.kept = s.kept := by
  unfold State.tableWrite; repeat' split
  all_goals (try simp [])
  all_goals (repeat' split) <;> (try simp_all [])

@[simp] theorem State_loadTables_kept (s : State) : (State.loadTables s).kept = s.kept := by
  unfold State.loadTables
  refine each_kept _ _ _ (fun a t => ?_)
  simp only []; (repeat' split) <;> simp

@[simp] theorem State_firstResp_kept (s : State) (h : Nat) : (State.firstResp s h).kept = s.kept := by
  unfold State.firstResp; repeat' split
  all_goals (try simp [])

@[simp] theorem State_respDefaulted_kept (s : State) (h : Nat) : (State.respDefaulted s h).kept = s.kept := by
  unfold State.respDefaulted; repeat' split
  all_goals (try simp [])

/-! Attach -/

@[simp] theorem State_rebindEnd_kept (s : State) (h : Nat) (serial : Bytes) : (State.rebindEnd s h serial).kept = s.kept := by
  unfold State.rebindEnd; repeat' split
  all_goals (try simp [])

@[simp] theorem State_refuse_kept (s : State) (h cause : Nat) : (State.refuse s h cause).kept = s.kept := by
  unfold State.refuse; repeat' split
  all_goals (try simp [])

@[simp] theorem State_attachFail_kept (s : State) (h cause : Nat) : (State.attachFail s h cause).kept = s.kept := by
  unfold State.attachFail; repeat' split
  all_goals (try simp [])

@[simp] theorem State_startAttach_kept (s : State) (h : Nat) : (State.startAttach s h).kept = s.kept := by
  unfold State.startAttach; repeat' split
  all_goals (try simp [])

@[simp] theorem State_laneTrained_kept (s : State) (h : Nat) : (State.laneTrained s h).kept = s.kept := by
  unfold State.laneTrained; repeat' split
  all_goals (try simp [])

@[simp] theorem State_headLost_kept (s : State) (h : Nat) : (State.headLost s h).kept = s.kept := by
  unfold State.headLost; repeat' split
  all_goals (try simp [])

@[simp] theorem State_authStart_kept (s : State) (h : Nat) : (State.authStart s h).kept = s.kept := by
  unfold State.authStart; repeat' split
  all_goals (try simp [])

@[simp] theorem State_authFailed_kept (s : State) (h : Nat) : (State.authFailed s h).kept = s.kept := by
  unfold State.authFailed; repeat' split
  all_goals (try simp [])

@[simp] theorem State_authReply_kept (s : State) (h : Nat) (d : Bytes) : (State.authReply s h d).kept = s.kept := by
  unfold State.authReply; repeat' split
  all_goals (try simp [])

@[simp] theorem State_bindTo_kept (s : State) (h : Nat) (serial : Bytes) : (State.bindTo s h serial).kept = s.kept := by
  unfold State.bindTo; repeat' split
  all_goals (try simp [])

@[simp] theorem State_lifeWritten_kept (s : State) (h : Nat) (args : Bytes) : (State.lifeWritten s h args).kept = s.kept := by
  unfold State.lifeWritten; repeat' split
  all_goals (try simp [])

@[simp] theorem State_lifeEnded_kept (s : State) (h seq : Nat) : (State.lifeEnded s h seq).kept = s.kept := by
  unfold State.lifeEnded; repeat' split
  all_goals (try simp [])

@[simp] theorem State_parkOwed_kept (s : State) (h : Nat) (serial : Bytes) : (State.parkOwed s h serial).kept = s.kept := by
  unfold State.parkOwed; repeat' split
  all_goals (try simp [])

@[simp] theorem State_claimOwed_kept (s : State) (h : Nat) (serial : Bytes) : (State.claimOwed s h serial).kept = s.kept := by
  unfold State.claimOwed; repeat' split
  all_goals (try simp [])

@[simp] theorem State_lifeRead_kept (s : State) (h : Nat) (d : Bytes) (ok : Bool) : (State.lifeRead s h d ok).kept = s.kept := by
  unfold State.lifeRead; repeat' split
  all_goals (try simp [])

@[simp] theorem State_adjust_kept (s : State) (h : Nat) : (State.adjust s h).kept = s.kept := by
  unfold State.adjust; repeat' split
  all_goals (try simp [])

@[simp] theorem State_tableReadAt_kept (s : State) (h id off n : Nat) : (State.tableReadAt s h id off n).kept = s.kept := by
  unfold State.tableReadAt; repeat' split
  all_goals (try simp [])

@[simp] theorem State_tableRead_kept (s : State) (h id n : Nat) : (State.tableRead s h id n).kept = s.kept := by
  unfold State.tableRead; repeat' split
  all_goals (try simp [])

@[simp] theorem State_loadRecords_kept (s : State) (h : Nat) (d : Bytes) (n : Nat) : (State.loadRecords s h d n).kept = s.kept := by
  unfold State.loadRecords; repeat' split
  all_goals (try simp [])

@[simp] theorem State_rebuildNext_kept (s : State) (h : Nat) : (State.rebuildNext s h).kept = s.kept := by
  unfold State.rebuildNext; repeat' split
  all_goals (try simp [])

@[simp] theorem State_applyRebuilt_kept (s : State) (h : Nat) : (State.applyRebuilt s h).kept = s.kept := by
  unfold State.applyRebuilt; repeat' split
  all_goals (try simp [])

@[simp] theorem State_rebuildRead_kept (s : State) (h st : Nat) : (State.rebuildRead s h st).kept = s.kept := by
  unfold State.rebuildRead; repeat' split
  all_goals (try simp [])
  all_goals (repeat' split) <;> (try simp_all [])

@[simp] theorem State_loadOffsets_kept (s : State) (h : Nat) (d : Bytes) : (State.loadOffsets s h d).kept = s.kept := by
  unfold State.loadOffsets; repeat' split
  all_goals (try simp [])

@[simp] theorem State_takeAttachSet_kept (s : State) (h : Nat) : (State.takeAttachSet s h).kept = s.kept := by
  unfold State.takeAttachSet; repeat' split
  all_goals (try simp [])

@[simp] theorem State_attachNine_kept (s : State) (h : Nat) : (State.attachNine s h).kept = s.kept := by
  unfold State.attachNine; repeat' split
  all_goals (try simp [])
  all_goals (repeat' split) <;> (try simp_all [])

@[simp] theorem State_goNine_kept (s : State) (h : Nat) : (State.goNine s h).kept = s.kept := by
  unfold State.goNine; repeat' split
  all_goals (try simp [])

@[simp] theorem State_attachEight_kept (s : State) (h : Nat) : (State.attachEight s h).kept = s.kept := by
  unfold State.attachEight; repeat' split
  all_goals (try simp [])

@[simp] theorem State_workingRead_kept (s : State) (h st : Nat) : (State.workingRead s h st).kept = s.kept := by
  unfold State.workingRead; repeat' split
  all_goals (try simp [])

@[simp] theorem State_factoryRead_kept (s : State) (h st : Nat) : (State.factoryRead s h st).kept = s.kept := by
  unfold State.factoryRead; repeat' split
  all_goals (try simp [])

@[simp] theorem State_attachSeven_kept (s : State) (h : Nat) : (State.attachSeven s h).kept = s.kept := by
  unfold State.attachSeven; repeat' split
  all_goals (try simp [])

@[simp] theorem State_attachCand_kept (s : State) (h : Nat) : (State.attachCand s h).kept = s.kept := by
  unfold State.attachCand; repeat' split
  all_goals (try simp [])

@[simp] theorem State_attachShed_kept (s : State) (h : Nat) : (State.attachShed s h).kept = s.kept := by
  unfold State.attachShed; repeat' split
  all_goals (try simp [])

@[simp] theorem State_attachAdmit_kept (s : State) (h : Nat) : (State.attachAdmit s h).kept = s.kept := by
  unfold State.attachAdmit; repeat' split
  all_goals (try simp [])

@[simp] theorem State_attachFive_kept (s : State) (h : Nat) : (State.attachFive s h).kept = s.kept := by
  unfold State.attachFive; repeat' split
  all_goals (try simp [])

@[simp] theorem State_identified_kept (s : State) (h : Nat) (d : Bytes) : (State.identified s h d).kept = s.kept := by
  unfold State.identified; repeat' split
  all_goals (try simp [])

@[simp] theorem State_shutterReply_kept (s : State) (h arg st byte : Nat) : (State.shutterReply s h arg st byte).kept = s.kept := by
  unfold State.shutterReply; repeat' split
  all_goals (try simp [])
  all_goals (repeat' split) <;> (try simp_all [])

@[simp] theorem State_writeBackNext_kept (s : State) (h : Nat) : (State.writeBackNext s h).kept = s.kept := by
  unfold State.writeBackNext; repeat' split
  all_goals (try simp [])

@[simp] theorem State_writeBackReply_kept (s : State) (h code : Nat) (ok : Bool) : (State.writeBackReply s h code ok).kept = s.kept := by
  unfold State.writeBackReply; repeat' split
  all_goals (try simp [])

@[simp] theorem State_statusReply_kept (s : State) (h : Nat) (d : Bytes) : (State.statusReply s h d).kept = s.kept := by
  unfold State.statusReply; repeat' split
  all_goals (try simp [])

@[simp] theorem State_cmdDone_kept (s : State) (h : Nat) (c : HeadCmd) (st : Nat) (d : Bytes) : (State.cmdDone s h c st d).kept = s.kept := by
  unfold State.cmdDone; repeat' split
  all_goals (try simp [])

@[simp] theorem State_reply_kept (s : State) (h : Nat) (p : HeadPkt) : (State.reply s h p).kept = s.kept := by
  unfold State.reply; repeat' split
  all_goals (try simp [])
  all_goals (repeat' split) <;> (try simp_all [])

@[simp] theorem State_cmdFailed_kept (s : State) (h : Nat) (c : HeadCmd) : (State.cmdFailed s h c).kept = s.kept := by
  unfold State.cmdFailed; repeat' split
  all_goals (try simp [])
  all_goals (repeat' split) <;> (try simp_all [])

@[simp] theorem State_cmdGivenUp_kept (s : State) (h : Nat) (c : HeadCmd) : (State.cmdGivenUp s h c).kept = s.kept := by
  unfold State.cmdGivenUp; repeat' split
  all_goals (try simp [])

@[simp] theorem State_cmdTimedOut_kept (s : State) (h : Nat) : (State.cmdTimedOut s h).kept = s.kept := by
  unfold State.cmdTimedOut; repeat' split
  all_goals (try simp [])
  all_goals (repeat' split) <;> (try simp_all [])

@[simp] theorem State_busyAgain_kept (s : State) (h : Nat) : (State.busyAgain s h).kept = s.kept := by
  unfold State.busyAgain; repeat' split
  all_goals (try simp [])
  all_goals (repeat' split) <;> (try simp_all [])

@[simp] theorem State_tableIn_kept (s : State) (h : Nat) (p : HeadPkt) : (State.tableIn s h p).kept = s.kept := by
  unfold State.tableIn; repeat' split
  all_goals (try simp [])
  all_goals (repeat' split) <;> (try simp_all [])

@[simp] theorem State_headEv_kept (s : State) (h : Nat) (p : HeadPkt) : (State.headEv s h p).kept = s.kept := by
  unfold State.headEv; repeat' split
  all_goals (try simp [])

@[simp] theorem State_streaming_kept (s : State) (h : Nat) : (State.streaming s h).kept = s.kept := by
  unfold State.streaming; repeat' split
  all_goals (try simp [])

/-! Export -/

@[simp] theorem State_wXQueue_kept (s : State) (g : Nat) (q : List XPkt) : (State.wXQueue s g q).kept = s.kept := by
  unfold State.wXQueue; repeat' split
  all_goals (try simp [])

@[simp] theorem State_wXLane_kept (s : State) (x : Nat) (p : Option XPkt) : (State.wXLane s x p).kept = s.kept := by
  unfold State.wXLane; repeat' split
  all_goals (try simp [])

@[simp] theorem State_xStart_kept (s : State) (g i : Nat) : (State.xStart s g i).kept = s.kept := by
  unfold State.xStart; repeat' split
  all_goals (try simp [])
  all_goals (repeat' split) <;> (try simp_all [])

@[simp] theorem State_xPass_kept (s : State) : (State.xPass s).kept = s.kept := by
  unfold State.xPass; repeat' split
  all_goals (try simp [])

@[simp] theorem State_xPasses_kept (s : State) (fuel : Nat) : (State.xPasses s fuel).kept = s.kept := by
  induction fuel generalizing s with
  | zero => rfl
  | succ fuel ih =>
    unfold State.xPasses; repeat' split
    all_goals (try simp [ih])
    all_goals (repeat' split) <;> (try simp_all [ih])

@[simp] theorem State_xKick_kept (s : State) : (State.xKick s).kept = s.kept := by
  exact State_xPasses_kept s 48

@[simp] theorem State_xPut_kept (s : State) (g : Nat) (l : List XPkt) : (State.xPut s g l).kept = s.kept := by
  unfold State.xPut; repeat' split
  all_goals (try simp [])

@[simp] theorem State_xSend_kept (s : State) (g x ty info : Nat) (words : List Nat) : (State.xSend s g x ty info words).kept = s.kept := by
  unfold State.xSend; repeat' split
  all_goals (try simp [])

@[simp] theorem State_stripe_kept (s : State) (x : Nat) : (State.stripe s x).kept = s.kept := by
  unfold State.stripe; repeat' split
  all_goals (try simp [])

@[simp] theorem State_xOffer_kept (s : State) (x ty info : Nat) (words : List Nat) : (State.xOffer s x ty info words).kept = s.kept := by
  unfold State.xOffer; repeat' split
  all_goals (try simp [])

@[simp] theorem State_wXFrame_kept (s : State) (x : Nat) (f : Option XFrame) : (State.wXFrame s x f).kept = s.kept := by
  unfold State.wXFrame; repeat' split
  all_goals (try simp [])

@[simp] theorem State_xOpen_kept (s : State) (h : Nat) (f : Frame) : (State.xOpen s h f).kept = s.kept := by
  unfold State.xOpen; repeat' split
  all_goals (try simp [])

@[simp] theorem State_xLineOut_kept (s : State) (h : Nat) (raw : Bool) (no : Nat) (padded : Bool) (words : Nat → List Nat) : (State.xLineOut s h raw no padded words).kept = s.kept := by
  unfold State.xLineOut; repeat' split
  all_goals (try simp [])

@[simp] theorem State_xClose_kept (s : State) (h : Nat) (degraded cut truncated : Bool) : (State.xClose s h degraded cut truncated).kept = s.kept := by
  unfold State.xClose; repeat' split
  all_goals (try simp [])

@[simp] theorem State_xLost_kept (s : State) (x : Nat) : (State.xLost s x).kept = s.kept := by
  unfold State.xLost; simp
  refine (each_kept _ _ _ (fun a t => ?_)).trans (by simp)
  (repeat' split) <;> simp

@[simp] theorem State_xFree_kept (s : State) (x : Nat) : (State.xFree s x).kept = s.kept := by
  unfold State.xFree; repeat' split
  all_goals (try simp [])

/-! Web -/

@[simp] theorem State_wEnc_kept (s : State) (e : Nat) (x : Enc) : (State.wEnc s e x).kept = s.kept := by
  unfold State.wEnc; repeat' split
  all_goals (try simp [])

@[simp] theorem State_encCount_kept (s : State) (e : Nat) (fwd : Bool) : (State.encCount s e fwd).kept = s.kept := by
  unfold State.encCount; repeat' split
  all_goals (try simp [])

@[simp] theorem State_encEdge_kept (s : State) (e : Nat) (a b : Bool) : (State.encEdge s e a b).kept = s.kept := by
  unfold State.encEdge; repeat' split
  all_goals (try simp [])

@[simp] theorem State_encLatch_kept (s : State) : (State.encLatch s).kept = s.kept := by
  unfold State.encLatch; repeat' split
  all_goals (try simp [])

@[simp] theorem State_encCoarse_kept (s : State) : (State.encCoarse s).kept = s.kept := by
  unfold State.encCoarse
  refine each_kept _ _ _ (fun a t => ?_)
  simp only []; (repeat' split) <;> simp

@[simp] theorem State_encSpeed_kept (s : State) : (State.encSpeed s).kept = s.kept := by
  unfold State.encSpeed; repeat' split
  all_goals (try simp [])

@[simp] theorem State_wStn_kept (s : State) (st : Nat) (x : Station) : (State.wStn s st x).kept = s.kept := by
  unfold State.wStn; repeat' split
  all_goals (try simp [])

@[simp] theorem State_stBoundary_kept (s : State) (st : Nat) : (State.stBoundary s st).kept = s.kept := by
  unfold State.stBoundary; repeat' split
  all_goals (try simp [])

@[simp] theorem State_wSlotRun_kept (s : State) (k : Nat) (x : SlotRun) : (State.wSlotRun s k x).kept = s.kept := by
  unfold State.wSlotRun; repeat' split
  all_goals (try simp [])

@[simp] theorem State_stSpan_kept (s : State) (st : Nat) : (State.stSpan s st).kept = s.kept := by
  unfold State.stSpan; repeat' split
  all_goals (try simp [])
  all_goals (repeat' split) <;> (try simp_all [])

@[simp] theorem State_zoneAdd_kept (s : State) (st seq flags : Nat) (ws : List Nat) : (State.zoneAdd s st seq flags ws).kept = s.kept := by
  unfold State.zoneAdd; repeat' split
  all_goals (try simp [])

@[simp] theorem State_zoneClose_kept (s : State) : (State.zoneClose s).kept = s.kept := by
  unfold State.zoneClose; repeat' split
  all_goals (try simp [])

@[simp] theorem State_emitLine_kept (s : State) (st n : Nat) : (State.emitLine s st n).kept = s.kept := by
  unfold State.emitLine; repeat' split
  all_goals (try simp [])

@[simp] theorem State_stStop_kept (s : State) (st : Nat) : (State.stStop s st).kept = s.kept := by
  unfold State.stStop; repeat' split
  all_goals (try simp [])

@[simp] theorem State_emitLines_kept (s : State) (st n : Nat) (fuel : Nat) : (State.emitLines s st n fuel).kept = s.kept := by
  induction fuel generalizing s n with
  | zero => rfl
  | succ fuel ih =>
    unfold State.emitLines; simp only []; split
    · simp
    · rw [ih]; simp

@[simp] theorem State_formBand_kept (s : State) (st n0 : Nat) : (State.formBand s st n0).kept = s.kept := by
  unfold State.formBand; repeat' split
  all_goals (try simp [])

@[simp] theorem State_stSettle_kept (s : State) (st : Nat) : (State.stSettle s st).kept = s.kept := by
  unfold State.stSettle; split
  · rfl
  · dsimp only; split
    · simp
    · generalize hf : State.frontier _ st = o
      clear hf
      cases o with
      | none => simp
      | some f =>
        dsimp only
        rw [State_emitLines_kept, ite_kept, State_formBand_kept, ite_self]
        simp

@[simp] theorem State_webSettle_kept (s : State) : (State.webSettle s).kept = s.kept := by
  unfold State.webSettle; repeat' split
  all_goals (try simp [])
  all_goals (repeat' split) <;> (try simp_all [])

@[simp] theorem State_stStart_kept (s : State) (st : Nat) : (State.stStart s st).kept = s.kept := by
  unfold State.stStart; repeat' split
  all_goals (try simp [])

@[simp] theorem State_sample_kept (s : State) (k c r : Nat) (pe : Rat) (f : Frame) (o : OutPx) : (State.sample s k c r pe f o).kept = s.kept := by
  unfold State.sample; repeat' split
  all_goals (try simp [])

@[simp] theorem State_markDropped_kept (s : State) (st t : Nat) : (State.markDropped s st t).kept = s.kept := by
  unfold State.markDropped; repeat' split
  all_goals (try simp [])

@[simp] theorem State_deliver_kept (s : State) (h : Nat) (f : Frame) (x0 r t : Nat) (px : List OutPx) : (State.deliver s h f x0 r t px).kept = s.kept := by
  unfold State.deliver; repeat' split
  all_goals (try simp [])
  all_goals (repeat' split) <;> (try simp_all [])

@[simp] theorem State_headAbsent_kept (s : State) (k : Nat) : (State.headAbsent s k).kept = s.kept := by
  unfold State.headAbsent; repeat' split
  all_goals (try simp [])
  all_goals (repeat' split) <;> (try simp_all [])

@[simp] theorem State_covSync_kept (s : State) (e t : Nat) (d : Int) : (State.covSync s e t d).kept = s.kept := by
  unfold State.covSync; repeat' split
  all_goals (try simp [])
  all_goals (repeat' split) <;> (try simp_all [])

@[simp] theorem State_covLine_kept (s : State) (d : Int) (cells : List Nat) : (State.covLine s d cells).kept = s.kept := by
  unfold State.covLine
  refine (each_kept _ _ _ (fun a t => ?_)).trans (by simp)
  simp only []; (repeat' split) <;> simp

@[simp] theorem State_covFrame_kept (s : State) (b : Bytes) : (State.covFrame s b).kept = s.kept := by
  unfold State.covFrame; repeat' split
  all_goals (try simp [])

@[simp] theorem State_covStart_kept (s : State) : (State.covStart s).kept = s.kept := by
  unfold State.covStart; repeat' split
  all_goals (try simp [])

/-! Pairing -/

@[simp] theorem State_peerLost_kept (s : State) : (State.peerLost s).kept = s.kept := by
  unfold State.peerLost; repeat' split
  all_goals (try simp [])

@[simp] theorem State_connDown_kept (s : State) : (State.connDown s).kept = s.kept := by
  unfold State.connDown; repeat' split
  all_goals (try simp [])

@[simp] theorem State_connUp_kept (s : State) : (State.connUp s).kept = s.kept := by
  unfold State.connUp; repeat' split
  all_goals (try simp [])

@[simp] theorem State_partnerIn_kept (s : State) (m : PartnerMsg) (f : State → State) (h_f : ∀ t, (f t).kept = t.kept) : (State.partnerIn s m f).kept = s.kept := by
  unfold State.partnerIn; repeat' split
  all_goals (try simp [h_f])

@[simp] theorem State_partnerIn_good (s : State) (m : PartnerMsg) (f : State → State) (q) (h_f : ∀ t, Good q t.kept → Good q (f t).kept)
    (h : Good q s.kept) : Good q (s.partnerIn m f).kept := by
  unfold State.partnerIn; simp only []; (repeat' split) <;> simp [h, h_f]

@[simp] theorem State_pairLanes_kept (s : State) : (State.pairLanes s).kept = s.kept := by
  unfold State.pairLanes; repeat' split
  all_goals (try simp [])

/-! Zones -/

@[simp] theorem State_zoneConfig_kept (s : State) (z : Nat) : (State.zoneConfig s z).kept = s.kept := by
  unfold State.zoneConfig; repeat' split
  all_goals (try simp [])

@[simp] theorem State_stationEnters_kept (s : State) (st : Nat) : (State.stationEnters s st).kept = s.kept := by
  unfold State.stationEnters; repeat' split
  all_goals (try simp [])

@[simp] theorem State_zoneOff_kept (s : State) (z : Nat) : (State.zoneOff s z).kept = s.kept := by
  unfold State.zoneOff; repeat' split
  all_goals (try simp [])

@[simp] theorem State_zoneRunSet_kept (s : State) (z v : Nat) : (State.zoneRunSet s z v).kept = s.kept := by
  unfold State.zoneRunSet; repeat' split
  all_goals (try simp [])

@[simp] theorem State_feedForward_kept (s : State) (z st : Nat) (pe : Rat) (at_ : Nat) : (State.feedForward s z st pe at_).1.kept = s.kept := by
  unfold State.feedForward; repeat' split
  all_goals (try simp [])
  all_goals (repeat' split) <;> (try simp_all [])

@[simp] theorem State_zoneStart_kept (s : State) (z : Nat) (pos : Int) : (State.zoneStart s z pos).kept = s.kept := by
  unfold State.zoneStart; repeat' split
  all_goals (try simp [])

@[simp] theorem State_zoneEntered_kept (s : State) (z old new : Nat) : (State.zoneEntered s z old new).kept = s.kept := by
  unfold State.zoneEntered; repeat' split
  all_goals (try simp [])

@[simp] theorem State_staleStep_kept (s : State) (z st : Nat) (fresh : Bool) : (State.staleStep s z st fresh).kept = s.kept := by
  unfold State.staleStep; repeat' split
  all_goals (try simp [])

@[simp] theorem State_zoneTake_kept (s : State) (z : Nat) : (State.zoneTake s z).kept = s.kept := by
  unfold State.zoneTake; repeat' split
  all_goals (try simp [])

@[simp] theorem State_zoneTick_kept (s : State) (z t0 at_ : Nat) (prev : Nat → Nat) (halt tracking : Bool) : (State.zoneTick s z t0 at_ prev halt tracking).kept = s.kept := by
  unfold State.zoneTick
  extract_lets st0 e pe pos old s1 x m fresh s2 causes
  have h1 : s1.kept = s.kept := by
    simp only [s1]; split
    · rfl
    · exact State_zoneStart_kept _ _ _
  have h2 : s2.kept = s1.kept := State_zoneTake_kept _ _
  clear_value s2
  split
  extract_lets stA s3 n st back passing deg s4
  have h4 : s4.kept = s.kept :=
    (State_zoneEntered_kept _ _ _ _).trans ((State_staleStep_kept _ _ _ _).trans (h2.trans h1))
  clear_value s4 st
  generalize (if 8 ≤ st0 then ((x.ym : Rat), false) else histAt (pe - 1000 * (s4.ri 32 (Reg.zsDELAY_DIST z) : Rat)) x.hist) = yc
  obtain ⟨yd, clip⟩ := yc
  dsimp -zeta only
  extract_lets pvp err inc kp i0 i1 i2 o u ym y s6 hiHit loHit flags s7
  have h7 : s7.kept = s.kept :=
    (State_wAll_kept _ _).trans ((State_wZone_kept _ _ _).trans ((State_feedForward_kept _ _ _ _ _).trans h4))
  clear_value s7
  simp only [State.when]
  (repeat' split) <;> simp [h7]

@[simp] theorem State_zoneLate_kept (s : State) (z at_ : Nat) : (State.zoneLate s z at_).kept = s.kept := by
  unfold State.zoneLate; repeat' split
  all_goals (try simp [])

@[simp] theorem State_zoneHalted_kept (s : State) (z at_ : Nat) (live : Bool) : (State.zoneHalted s z at_ live).kept = s.kept := by
  unfold State.zoneHalted; repeat' split
  all_goals (try simp [])

@[simp] theorem State_haltTick_kept (s : State) : (State.haltTick s).1.kept = s.kept := by
  unfold State.haltTick; repeat' split
  all_goals (try simp [])
  all_goals (repeat' split) <;> (try simp_all [])

@[simp] theorem State_zonesTick_kept (s : State) (t0 at_ : Nat) (late : List Nat) : (State.zonesTick s t0 at_ late).kept = s.kept := by
  have h := State_haltTick_kept s
  unfold State.zonesTick; split
  · rfl
  · revert h; cases s.haltTick; intro h; simp at h; simp [h]; try (intros; (repeat' split) <;> simp [h])

@[simp] theorem State_schedule_kept (s : State) (n c t0own : Nat) : (State.schedule s n c t0own).kept = s.kept := by
  unfold State.schedule; repeat' split
  all_goals (try simp [])

@[simp] theorem State_propTick_kept (s : State) (c t0own : Nat) : (State.propTick s c t0own).kept = s.kept := by
  unfold State.propTick; repeat' split
  all_goals (try simp [])

@[simp] theorem State_bankLoad_kept (s : State) (b : Nat) : (State.bankLoad s b).kept = s.kept := by
  unfold State.bankLoad; repeat' split
  all_goals (try simp [])

@[simp] theorem State_tickBanks_kept (s : State) : (State.tickBanks s).kept = s.kept := by
  unfold State.tickBanks; repeat' split
  all_goals (try simp [])

@[simp] theorem State_bpZones_kept (s : State) (olds : Nat → Nat) : (State.bpZones s olds).kept = s.kept := by
  unfold State.bpZones; repeat' split
  all_goals (try simp [])

@[simp] theorem State_tickOut_kept (s : State) (n : Nat) (computed : Bool) : (State.tickOut s n computed).kept = s.kept := by
  unfold State.tickOut; repeat' split
  all_goals (try simp [])

@[simp] theorem State_tickAt_kept (s : State) (i : TickIn) (n t0 t0own : Nat) : (State.tickAt s i n t0 t0own).kept = s.kept := by
  unfold State.tickAt; repeat' split
  all_goals (try simp [])

@[simp] theorem State_tickRun_kept (s : State) (i : TickIn) : (State.tickRun s i).kept = s.kept := by
  unfold State.tickRun; repeat' split
  all_goals (try simp [])

theorem execTickStart_kept (dt : Nat) (i : TickIn) (s : State) : OutKept (execTickStart dt i s) s.kept := by
  unfold execTickStart; repeat' split
  all_goals (try simp [])
  all_goals (repeat' split) <;> (try simp_all [])

@[simp] theorem State_takeDemands_kept (s : State) (tick : Nat) (zs : List (Nat × Nat)) : (State.takeDemands s tick zs).kept = s.kept := by
  unfold State.takeDemands; repeat' split
  all_goals (try simp [])

theorem execDemands_kept (dt : Nat) (m : PartnerMsg) (tick : Nat) (zs : List (Nat × Nat)) (s : State) : OutKept (execDemands dt m tick zs s) s.kept := by
  unfold execDemands; repeat' split
  all_goals (try simp [])
  all_goals (repeat' split) <;> (try simp_all [])

/-! Wipe -/

@[simp] theorem State_nvmCut_good (s : State) (b : Nat) (pq : List Instr) (h : Good pq s.kept) : Good pq (State.nvmCut s b).kept := by
  unfold State.nvmCut; split
  · exact h
  · split
    · exact h
    · rename_i o _ _
      have hc := h.2.1
      refine ⟨h.1, ?_, h.2.2⟩
      cases o <;> simp only [State.kept] <;> split <;> first | exact nvmOp_twf _ _ hc | exact hc

@[simp] theorem State_nvmStop_good (s : State) (cause : Nat) (pq : List Instr) (h : Good pq s.kept) : Good pq (State.nvmStop s cause).kept := by
  unfold State.nvmStop; split
  · exact each_good pq s _ _ (fun b t ht => State_nvmCut_good t b pq ht) h
  · exact ⟨h.1, nvmOps_twf _ _ h.2.1, h.2.2⟩

@[simp] theorem State_flashStop_good (s : State) (cause : Nat) (pq : List Instr) (h : Good pq s.kept) : Good pq (State.flashStop s cause).kept := by
  unfold State.flashStop; (repeat' split)
  · refine ⟨h.1, h.2.1, ?_, h.2.2.2⟩
    simp only [State.kept]; split
    · exact flashOp_twf _ _ h.2.2.1
    · exact h.2.2.1
  · exact h
  · exact h

@[simp] theorem State_wipe_good (s0 : State) (cause : Nat) (pq : List Instr) (h : Good pq s0.kept) : Good pq (State.wipe s0 cause).kept := by
  have h1 := State_flashStop_good (s0.nvmStop cause) cause pq (State_nvmStop_good s0 cause pq h)
  unfold State.wipe; simp only [State_used_kept, State_wAll_kept]
  exact ⟨h1.1, h1.2.1, h1.2.2.1, rfl, rfl, rfl⟩

@[simp] theorem State_userWipe_good (s : State) (pq : List Instr) (h : Good pq s.kept) : Good pq (State.userWipe s).kept := by
  have h1 := h.2.1
  have h2 := h.2.2.1
  simp only [State.kept] at h1 h2
  unfold State.userWipe; simp only []; split
  · exact ⟨h.1, tkeep_twf nvmErased (fun k => decide (k < 8192)) _ h1,
      tkeep_twf nvmErased (fun k => decide (k < 0x1000000 ∨ 0x1700000 ≤ k)) _ h2, h.2.2.2⟩
  · exact ⟨h.1, tkeep_twf nvmErased (fun k => decide (k < 8192)) _ h1, h.2.2⟩

/-! Store -/

@[simp] theorem State_wroteBlock_kept (s : State) (src key : Nat) (d : Bytes) : (State.wroteBlock s src key d).kept = s.kept := by
  unfold State.wroteBlock; repeat' split
  all_goals (try simp [])

@[simp] theorem State_blockBy_kept (s : State) (o : Origin) (key off : Nat) (d : Bytes) (f : State → Nat × State) (h_f : ∀ t, (f t).2.kept = t.kept) : (State.blockBy s o key off d f).kept = s.kept := by
  unfold State.blockBy; simp only []; split
  · simp
  · have h := h_f s
    split <;> simp [h]

@[simp] theorem State_blockBy_good (s : State) (o : Origin) (key off : Nat) (d : Bytes) (f : State → Nat × State) (q)
    (h_f : ∀ t, Good q t.kept → Good q (f t).2.kept) (h : Good q s.kept) : Good q (s.blockBy o key off d f).kept := by
  have h1 := h_f s h
  unfold State.blockBy; simp only []; split
  · simp [h]
  · split <;> simp [h1]

theorem execTableBlockWrite_kept (dt : Nat) (t : Fin 40) (o : Origin) (offset : Nat) (data : Bytes) (s : State) : OutKept (execTableBlockWrite dt t o offset data s) s.kept := by
  unfold execTableBlockWrite; repeat' split
  all_goals (try simp [])
  all_goals (repeat' split) <;> (try simp_all [])

@[simp] theorem State_tlyRelease_kept (s : State) (fuel : Nat) : (State.tlyRelease s fuel).kept = s.kept := by
  induction fuel generalizing s with
  | zero => rfl
  | succ fuel ih =>
    unfold State.tlyRelease; repeat' split
    all_goals (try simp [ih])
    all_goals (repeat' split) <;> (try simp_all [ih])

@[simp] theorem State_tlyGoOn_kept (s : State) : (State.tlyGoOn s).kept = s.kept := by
  unfold State.tlyGoOn; repeat' split
  all_goals (try simp [])

@[simp] theorem State_hwmStored_kept (s : State) (v : Nat) : (State.hwmStored s v).kept = s.kept := by
  unfold State.hwmStored; dsimp only; split
  · rw [State_w_kept]; rfl
  · rw [State_tlyGoOn_kept, State_w_kept]; rfl

@[simp] theorem State_mirrorNow_kept (s : State) : (State.mirrorNow s).kept = s.kept := by
  unfold State.mirrorNow; repeat' split
  all_goals (try simp [])

@[simp] theorem State_mirrorDue_kept (s : State) : (State.mirrorDue s).kept = s.kept := by
  unfold State.mirrorDue; repeat' split
  all_goals (try simp [])

theorem execMirrorWrite_kept (dt : Nat) (s : State) : OutKept (execMirrorWrite dt s) s.kept := by
  unfold execMirrorWrite; repeat' split
  all_goals (try simp [])
  all_goals (repeat' split) <;> (try simp_all [])

@[simp] theorem State_spreadWaiting_kept (s : State) (c : Nat) (fuel : Nat) : (State.spreadWaiting s c fuel).kept = s.kept := by
  induction fuel generalizing s c with
  | zero => rfl
  | succ fuel ih =>
    unfold State.spreadWaiting; repeat' split
    all_goals (try simp [ih])
    all_goals (repeat' split) <;> (try simp_all [ih])

@[simp] theorem State_lcThree_kept (s : State) : (State.lcThree s).kept = s.kept := by
  unfold State.lcThree; repeat' split
  all_goals (try simp [])

@[simp] theorem State_lcFour_good (s : State) (pq : List Instr) (h : Good pq s.kept) : Good pq (State.lcFour s).kept := by
  unfold State.lcFour; repeat' split
  all_goals (try simp +contextual [h])
  all_goals (repeat' split) <;> (try simp_all)

@[simp] theorem State_nvmFinish_good (s : State) (d : NvmDone) (pq : List Instr) (h : Good pq s.kept) : Good pq (State.nvmFinish s d).kept := by
  cases d with
  | lcDone => exact State_lcFour_good s pq h
  | none => exact h
  | _ =>
    unfold State.nvmFinish; dsimp only
    (repeat' split) <;> (try simp only [State_hwmStored_kept, State_epochStored_kept, State_w_kept, State_lcThree_kept,
      State_spreadRoll_kept, State_wSpread_kept, State_nvmOps_kept, State_spreadShadow_kept, State_spreadWaiting_kept]) <;> exact h

@[simp] theorem State_nvmEnd_good (s : State) (b : Nat) (cell : Bool) (pq : List Instr) (h : Good pq s.kept) : Good pq (State.nvmEnd s b cell).kept := by
  have hu (n : Nvm) (hn : twf nvmErased n.cells = true) : Good pq (State.nvmPublish { s with nvm := n.kick }).kept := by
    simp only [State_nvmPublish_kept]; exact ⟨h.1, (congrArg (twf nvmErased) (kick_cells n)).trans hn, h.2.2⟩
  unfold State.nvmEnd; split
  · exact h
  · rename_i j _
    cases hj : j.ops with
    | nil => exact h
    | cons o rest =>
      have hc := nvmOp_twf o _ h.2.1
      cases o <;> dsimp only <;> split <;> first | exact h | skip
      all_goals
        by_cases hr : rest = []
        · simp only [hr, if_true]
          exact each_good pq _ _ _ (fun d t ht => State_nvmFinish_good t d pq ht) (hu _ hc)
        · simp only [hr, if_false]
          exact hu _ hc

theorem execNvmWriteDone_good (dt : Nat) (bank : Fin 4) (s : State) (pq : List Instr) (h : Good pq s.kept) : OutGood pq (execNvmWriteDone dt bank s) := by
  unfold execNvmWriteDone; repeat' split
  all_goals (try simp +contextual [h])
  all_goals (repeat' split) <;> (try simp_all)

theorem execNvmProgramDone_good (dt : Nat) (bank : Fin 4) (s : State) (pq : List Instr) (h : Good pq s.kept) : OutGood pq (execNvmProgramDone dt bank s) := by
  unfold execNvmProgramDone; repeat' split
  all_goals (try simp +contextual [h])
  all_goals (repeat' split) <;> (try simp_all)

@[simp] theorem State_configSave_kept (s : State) : (State.configSave s).kept = s.kept := by
  unfold State.configSave; repeat' split
  all_goals (try simp [])

theorem execConfigSave_kept (dt : Nat) (o : Origin) (v : Nat) (s : State) : OutKept (execConfigSave dt o v s) s.kept := by
  unfold execConfigSave; repeat' split
  all_goals (try simp [])
  all_goals (repeat' split) <;> (try simp_all [])

@[simp] theorem State_configClear_kept (s : State) : (State.configClear s).kept = s.kept := by
  unfold State.configClear; repeat' split
  all_goals (try simp [])

theorem execConfigClear_kept (dt : Nat) (o : Origin) (v : Nat) (s : State) : OutKept (execConfigClear dt o v s) s.kept := by
  unfold execConfigClear; repeat' split
  all_goals (try simp [])
  all_goals (repeat' split) <;> (try simp_all [])

@[simp] theorem State_imageRepair_kept (s : State) (c : Nat) : (State.imageRepair s c).kept = s.kept := by
  unfold State.imageRepair; repeat' split
  all_goals (try simp [])

@[simp] theorem State_flashDone_kept (s : State) (f : FlashFor) (ok : Bool) : (State.flashDone s f ok).kept = s.kept := by
  unfold State.flashDone; repeat' split
  all_goals (try simp [])

@[simp] theorem State_flashEnd_good (s : State) (ok : Bool) (pq : List Instr) (h : Good pq s.kept) : Good pq (State.flashEnd s ok).kept := by
  have hf (o : FlashOp) := flashOp_twf o _ h.2.2.1
  unfold State.flashEnd; (repeat' split) <;> simp only [] <;> (repeat' split) <;> simp [h]
  all_goals first | exact ⟨h.1, h.2.1, hf _, h.2.2.2⟩ | skip

@[simp] theorem State_flashPoll_good (s : State) (busy : Bool) (pq : List Instr) (h : Good pq s.kept) : Good pq (State.flashPoll s busy).kept := by
  unfold State.flashPoll; repeat' split
  all_goals (try simp +contextual [h])
  all_goals (repeat' split) <;> (try simp_all)

theorem execFlashPoll_good (dt : Nat) (busy : Bool) (s : State) (pq : List Instr) (h : Good pq s.kept) : OutGood pq (execFlashPoll dt busy s) := by
  unfold execFlashPoll; repeat' split
  all_goals (try simp +contextual [h])
  all_goals (repeat' split) <;> (try simp_all)

@[simp] theorem State_shiftAbort_kept (s : State) (code : Nat) : (State.shiftAbort s code).kept = s.kept := by
  unfold State.shiftAbort; repeat' split
  all_goals (try simp [])

@[simp] theorem State_spiRelease_kept (s : State) (code : Nat) : (State.spiRelease s code).kept = s.kept := by
  unfold State.spiRelease; repeat' split
  all_goals (try simp [])

@[simp] theorem State_spiSelect_kept (s : State) (old v : Nat) : SumKept (State.spiSelect s old v) s.kept := by
  unfold State.spiSelect; repeat' split
  all_goals (try simp [])
  all_goals (repeat' split) <;> (try simp_all [])

theorem execSpiSel_kept (dt : Nat) (o : Origin) (v : Nat) (s : State) : OutKept (execSpiSel dt o v s) s.kept := by
  unfold execSpiSel; repeat' split
  all_goals (try simp [])
  all_goals (repeat' split) <;> (try simp_all [])

@[simp] theorem State_selTimeout_kept (s : State) : (State.selTimeout s).kept = s.kept := by
  unfold State.selTimeout; repeat' split
  all_goals (try simp [])

theorem execSelTimeout_kept (dt : Nat) (s : State) : OutKept (execSelTimeout dt s) s.kept := by
  unfold execSelTimeout; repeat' split
  all_goals (try simp [])
  all_goals (repeat' split) <;> (try simp_all [])

@[simp] theorem State_spiGo_kept (s : State) : (State.spiGo s).kept = s.kept := by
  unfold State.spiGo; repeat' split
  all_goals (try simp [])

theorem execSpiGo_kept (dt : Nat) (o : Origin) (v : Nat) (s : State) : OutKept (execSpiGo dt o v s) s.kept := by
  unfold execSpiGo; repeat' split
  all_goals (try simp [])
  all_goals (repeat' split) <;> (try simp_all [])

@[simp] theorem State_shiftDone_kept (s : State) (miso : Nat) : (State.shiftDone s miso).kept = s.kept := by
  unfold State.shiftDone; repeat' split
  all_goals (try simp [])

theorem execSpiShiftDone_kept (dt : Nat) (miso : Nat) (s : State) : OutKept (execSpiShiftDone dt miso s) s.kept := by
  unfold execSpiShiftDone; repeat' split
  all_goals (try simp [])
  all_goals (repeat' split) <;> (try simp_all [])

end Sys2Proof.Machine
end

