-- ==== Sys2Proof/Laws/KeptPower.lean ====
section
/-! SUPPORT. The queue and the byte stores under pipelines, lanes, power, memory and the heat: one lemma per
operation (`_kept`: left as they are; `_good`: the queue left, the canonical form kept). -/

set_option linter.all false

namespace Sys2Proof.Machine

/-! Pipe -/

@[simp] theorem State_applyCoefs_kept (s : State) (h : Nat) (p : PSet) : (State.applyCoefs s h p).kept = s.kept := by
  unfold State.applyCoefs; repeat' split
  all_goals (try simp [])

@[simp] theorem State_switchSet_kept (s : State) (h : Nat) (a : PSet) : (State.switchSet s h a).kept = s.kept := by
  unfold State.switchSet; repeat' split
  all_goals (try simp [])

@[simp] theorem State_takeSubRef_kept (s : State) (h : Nat) (f : Sof) : (State.takeSubRef s h f).kept = s.kept := by
  unfold State.takeSubRef; repeat' split
  all_goals (try simp [])

@[simp] theorem State_capCommit_kept (s : State) (h : Nat) : (State.capCommit s h).kept = s.kept := by
  unfold State.capCommit; repeat' split
  all_goals (try simp [])

@[simp] theorem State_retryCommits_kept (s : State) (h : Nat) : (State.retryCommits s h).kept = s.kept := by
  unfold State.retryCommits; repeat' split
  all_goals (try simp [])

@[simp] theorem State_haltSettle_kept (s : State) : (State.haltSettle s).kept = s.kept := by
  unfold State.haltSettle; repeat' split
  all_goals (try simp [])

@[simp] theorem State_haltClosed_kept (s : State) (h : Nat) : (State.haltClosed s h).kept = s.kept := by
  unfold State.haltClosed; repeat' split
  all_goals (try simp [])

@[simp] theorem State_bpPixel_kept (s : State) (bps : List Bp) (l : Nat) (px : List OutPx) : (State.bpPixel s bps l px).kept = s.kept := by
  unfold State.bpPixel; repeat' split
  all_goals (try simp [])

@[simp] theorem State_keepLine_kept (s : State) (h : Nat) (fs : Bool) (no : Nat) (ws : List Nat) : (State.keepLine s h fs no ws).kept = s.kept := by
  unfold State.keepLine; repeat' split
  all_goals (try simp [])

@[simp] theorem State_foldGather_kept (s : State) (h : Nat) (f : Frame) (l : Nat) (xs : List (Px × Nat × PxCond)) : (State.foldGather s h f l xs).kept = s.kept := by
  unfold State.foldGather; repeat' split
  all_goals (try simp [])

@[simp] theorem State_lineDone_kept (s : State) (h l : Nat) (up mid down : Option (List Px)) : (State.lineDone s h l up mid down).kept = s.kept := by
  unfold State.lineDone; repeat' split
  all_goals (try simp [])
  all_goals (repeat' split) <;> (try simp_all [])

@[simp] theorem State_wFrame_kept (s : State) (h : Nat) (f : Frame) : (State.wFrame s h f).kept = s.kept := by
  unfold State.wFrame; repeat' split
  all_goals (try simp [])

@[simp] theorem State_stageTwo_kept (s : State) (h no : Nat) (px : Option (List Nat)) : (State.stageTwo s h no px).kept = s.kept := by
  unfold State.stageTwo; repeat' split
  all_goals (try simp [])
  all_goals (repeat' split) <;> (try simp_all [])

@[simp] theorem State_drain_kept (s : State) (h : Nat) (fuel : Nat) : (State.drain s h fuel).kept = s.kept := by
  induction fuel generalizing s h with
  | zero => rfl
  | succ fuel ih =>
    unfold State.drain; repeat' split
    all_goals (try simp [ih])
    all_goals (repeat' split) <;> (try simp_all [ih])

@[simp] theorem State_stageOne_kept (s : State) (h no : Nat) (px : Option (List Nat)) (pad : Bool) : (State.stageOne s h no px pad).kept = s.kept := by
  unfold State.stageOne; repeat' split
  all_goals (try simp [])
  all_goals (repeat' split) <;> (try simp_all [])

@[simp] theorem State_padLines_kept (s : State) (h no : Nat) (fuel : Nat) : (State.padLines s h no fuel).kept = s.kept := by
  induction fuel generalizing s h no with
  | zero => rfl
  | succ fuel ih =>
    unfold State.padLines; repeat' split
    all_goals (try simp [ih])
    all_goals (repeat' split) <;> (try simp_all [ih])

@[simp] theorem State_lineIn_kept (s : State) (h : Nat) (d : Bytes) : (State.lineIn s h d).kept = s.kept := by
  unfold State.lineIn; repeat' split
  all_goals (try simp [])
  all_goals (repeat' split) <;> (try simp_all [])

@[simp] theorem State_refuseLines_kept (s : State) (h : Nat) (b : Bool) : (State.refuseLines s h b).kept = s.kept := by
  unfold State.refuseLines; repeat' split
  all_goals (try simp [])

@[simp] theorem State_coefFetched_kept (s : State) (h upTo : Nat) : (State.coefFetched s h upTo).kept = s.kept := by
  unfold State.coefFetched; repeat' split
  all_goals (try simp [])
  all_goals (repeat' split) <;> (try simp_all [])

@[simp] theorem State_foldClosed_kept (s : State) (h : Nat) : (State.foldClosed s h).kept = s.kept := by
  unfold State.foldClosed; repeat' split
  all_goals (try simp [])

@[simp] theorem State_foldSkip_kept (s : State) (h : Nat) : (State.foldSkip s h).kept = s.kept := by
  unfold State.foldSkip; repeat' split
  all_goals (try simp [])

@[simp] theorem State_foldSof_kept (s : State) (h : Nat) (f : Sof) : (State.foldSof s h f).kept = s.kept := by
  unfold State.foldSof; repeat' split
  all_goals (try simp [])

@[simp] theorem State_tauFrame_kept (s : State) (h : Nat) (f : Frame) (k : Nat) : (State.tauFrame s h f k).kept = s.kept := by
  unfold State.tauFrame; repeat' split
  all_goals (try simp [])

@[simp] theorem State_foldFrame_kept (s : State) (h : Nat) (f : Frame) : (State.foldFrame s h f).kept = s.kept := by
  unfold State.foldFrame; repeat' split
  all_goals (try simp [])

@[simp] theorem State_statFrame_kept (s : State) (h : Nat) (f : Frame) : (State.statFrame s h f).kept = s.kept := by
  unfold State.statFrame; repeat' split
  all_goals (try simp [])

@[simp] theorem State_skimRange_kept (s : State) (h : Nat) (f : Frame) : (State.skimRange s h f).kept = s.kept := by
  unfold State.skimRange; repeat' split
  all_goals (try simp [])
  all_goals (repeat' split) <;> (try simp_all [])

@[simp] theorem State_closeFrame_kept (s : State) (h : Nat) (broken : Bool) : (State.closeFrame s h broken).kept = s.kept := by
  unfold State.closeFrame; repeat' split
  all_goals (try simp [])
  all_goals (repeat' split) <;> (try simp_all [])

@[simp] theorem State_stepSof_kept (s : State) (h : Nat) : (State.stepSof s h).kept = s.kept := by
  unfold State.stepSof; repeat' split
  all_goals (try simp [])

@[simp] theorem State_bpFrame_kept (s : State) (h cnt : Nat) : (State.bpFrame s h cnt).kept = s.kept := by
  unfold State.bpFrame; repeat' split
  all_goals (try simp [])

@[simp] theorem State_openFrame_kept (s : State) (h : Nat) (f : Sof) (p : PSet) (switching incoherent restart : Bool) : (State.openFrame s h f p switching incoherent restart).kept = s.kept := by
  unfold State.openFrame; repeat' split
  all_goals (try simp [])

@[simp] theorem State_sofOpen_kept (s : State) (h : Nat) (f : Sof) (sw : Option PSet) (gap : Nat) : (State.sofOpen s h f sw gap).kept = s.kept := by
  unfold State.sofOpen
  cases sw <;> cases (s.pipe h).cur <;> simp only []
  all_goals first | rfl | (split <;> simp)

@[simp] theorem State_takeTag_kept (s : State) (h tag : Nat) : (State.takeTag s h tag).kept = s.kept := by
  unfold State.takeTag; repeat' split
  all_goals (try simp [])

@[simp] theorem State_seeTag_kept (s : State) (h tag : Nat) : (State.seeTag s h tag).kept = s.kept := by
  unfold State.seeTag; repeat' split
  all_goals (try simp [])

@[simp] theorem State_sofIn_kept (s : State) (h : Nat) (f : Sof) : (State.sofIn s h f).kept = s.kept := by
  have h1 (t : State) (b : Bool) : (if b = true then t.streaming h else t).kept = t.kept := by split <;> simp
  have h2 (t : State) (b : Bool) : (if b = true then t.takeSubRef h f else t).kept = t.kept := by split <;> simp
  have h3 (t : State) (b : Bool) :
      (if b = true then { t with boot := { t.boot with stepPipes := setBit h false t.boot.stepPipes } } else t).kept = t.kept := by split <;> simp
  unfold State.sofIn; simp only []; split
  · simp [h1]
  · split
    · simp [h1]
    · simp [h1, h2, h3]

@[simp] theorem State_eofIn_kept (s : State) (h cnt : Nat) : (State.eofIn s h cnt).kept = s.kept := by
  unfold State.eofIn; repeat' split
  all_goals (try simp [])

@[simp] theorem State_frameLate_kept (s : State) (h : Nat) : (State.frameLate s h).kept = s.kept := by
  unfold State.frameLate; repeat' split
  all_goals (try simp [])
  all_goals (repeat' split) <;> (try simp_all [])

/-! Heads -/

@[simp] theorem State_settle_kept (s : State) : (State.settle s).kept = s.kept := by
  unfold State.settle; repeat' split
  all_goals (try simp [])

@[simp] theorem State_timeProbe_kept (s : State) (h : Nat) : (State.timeProbe s h).kept = s.kept := by
  unfold State.timeProbe; repeat' split
  all_goals (try simp [])

@[simp] theorem State_authAgain_kept (s : State) (h : Nat) : (State.authAgain s h).kept = s.kept := by
  unfold State.authAgain; repeat' split
  all_goals (try simp [])

@[simp] theorem State_attachAgain_kept (s : State) (h : Nat) : (State.attachAgain s h).kept = s.kept := by
  unfold State.attachAgain; repeat' split
  all_goals (try simp [])

@[simp] theorem State_streamMinute_kept (s : State) (h : Nat) : (State.streamMinute s h).kept = s.kept := by
  unfold State.streamMinute; repeat' split
  all_goals (try simp [])

@[simp] theorem State_lifeDue_kept (s : State) (h : Nat) : (State.lifeDue s h).kept = s.kept := by
  unfold State.lifeDue; repeat' split
  all_goals (try simp [])

@[simp] theorem State_writeBackTick_kept (s : State) (h : Nat) : (State.writeBackTick s h).kept = s.kept := by
  unfold State.writeBackTick; repeat' split
  all_goals (try simp [])

@[simp] theorem State_rebindRun_kept (s : State) (h : Nat) : (State.rebindRun s h).kept = s.kept := by
  unfold State.rebindRun; repeat' split
  all_goals (try simp [])

@[simp] theorem State_commitFail_kept (s : State) (key code : Nat) : (State.commitFail s key code).kept = s.kept := by
  unfold State.commitFail; repeat' split
  all_goals (try simp [])

@[simp] theorem State_commitArm_kept (s : State) (h : Nat) (p : PSet) : (State.commitArm s h p).kept = s.kept := by
  unfold State.commitArm; repeat' split
  all_goals (try simp [])

@[simp] theorem State_withArmed_kept (s : State) (h : Nat) (p : Option PSet) : (State.withArmed s h p).kept = s.kept := by
  unfold State.withArmed; repeat' split
  all_goals (try simp [])

@[simp] theorem State_commitRun_kept (s : State) (h : Nat) : (State.commitRun s h).kept = s.kept := by
  unfold State.commitRun; repeat' split
  all_goals (try simp [])

@[simp] theorem State_tauCommitRun_kept (s : State) (h : Nat) : (State.tauCommitRun s h).kept = s.kept := by
  unfold State.tauCommitRun; repeat' split
  all_goals (try simp [])

@[simp] theorem State_driftUpdate_kept (s : State) (h : Nat) : (State.driftUpdate s h).kept = s.kept := by
  unfold State.driftUpdate; repeat' split
  all_goals (try simp [])

@[simp] theorem State_foldEval_kept (s : State) (h : Nat) : (State.foldEval s h).kept = s.kept := by
  unfold State.foldEval; repeat' split
  all_goals (try simp [])

@[simp] theorem State_foldNowRun_kept (s : State) (h v : Nat) : (State.foldNowRun s h v).kept = s.kept := by
  unfold State.foldNowRun; repeat' split
  all_goals (try simp [])

@[simp] theorem State_closingLimit_kept (s : State) (h : Nat) : (State.closingLimit s h).kept = s.kept := by
  unfold State.closingLimit; repeat' split
  all_goals (try simp [])

@[simp] theorem State_checkDone_kept (s : State) (h : Nat) : (State.checkDone s h).kept = s.kept := by
  unfold State.checkDone; repeat' split
  all_goals (try simp [])

@[simp] theorem State_reopenAgain_kept (s : State) (h : Nat) : (State.reopenAgain s h).kept = s.kept := by
  unfold State.reopenAgain; repeat' split
  all_goals (try simp [])

/-! Lanes -/

@[simp] theorem State_laneGone_kept (s : State) (l : Nat) : (State.laneGone s l).kept = s.kept := by
  unfold State.laneGone; repeat' split
  all_goals (try simp [])

@[simp] theorem State_laneTo_kept (s : State) (l st : Nat) : (State.laneTo s l st).kept = s.kept := by
  unfold State.laneTo; repeat' split
  all_goals (try simp [])

@[simp] theorem State_stageBegin_kept (s : State) (l : Nat) : (State.stageBegin s l).kept = s.kept := by
  unfold State.stageBegin; repeat' split
  all_goals (try simp [])

@[simp] theorem State_takeMax_kept (s : State) (l : Nat) : (State.takeMax s l).kept = s.kept := by
  unfold State.takeMax; repeat' split
  all_goals (try simp [])

@[simp] theorem State_attempt_kept (s : State) (l : Nat) : (State.attempt s l).kept = s.kept := by
  unfold State.attempt; repeat' split
  all_goals (try simp [])

@[simp] theorem State_laneOff_kept (s : State) (l : Nat) : (State.laneOff s l).kept = s.kept := by
  unfold State.laneOff; repeat' split
  all_goals (try simp [])

@[simp] theorem State_auxStart_kept (s : State) (l : Nat) : (State.auxStart s l).kept = s.kept := by
  unfold State.auxStart; repeat' split
  all_goals (try simp [])

@[simp] theorem State_stageA_kept (s : State) (l : Nat) : (State.stageA s l).kept = s.kept := by
  unfold State.stageA; repeat' split
  all_goals (try simp [])

@[simp] theorem State_stageB_kept (s : State) (l : Nat) : (State.stageB s l).kept = s.kept := by
  unfold State.stageB; repeat' split
  all_goals (try simp [])

@[simp] theorem State_equalise_kept (s : State) (l : Nat) : (State.equalise s l).kept = s.kept := by
  unfold State.equalise; repeat' split
  all_goals (try simp [])

@[simp] theorem State_stageC_kept (s : State) (l : Nat) : (State.stageC s l).kept = s.kept := by
  unfold State.stageC; repeat' split
  all_goals (try simp [])

@[simp] theorem State_evenRates_kept (s : State) (p : Nat) : (State.evenRates s p).kept = s.kept := by
  unfold State.evenRates; repeat' split
  all_goals (try simp [])

@[simp] theorem State_lullApply_kept (s : State) (l : Nat) : (State.lullApply s l).kept = s.kept := by
  unfold State.lullApply; repeat' split
  all_goals (try simp [])

@[simp] theorem State_laneReady_kept (s : State) (l : Nat) : (State.laneReady s l).kept = s.kept := by
  unfold State.laneReady; repeat' split
  all_goals (try simp [])

@[simp] theorem State_stepEnd_kept (s : State) (l : Nat) : (State.stepEnd s l).kept = s.kept := by
  unfold State.stepEnd; repeat' split
  all_goals (try simp [])

@[simp] theorem State_linkAbsent_kept (s : State) (l : Nat) : (State.linkAbsent s l).kept = s.kept := by
  unfold State.linkAbsent; repeat' split
  all_goals (try simp [])

@[simp] theorem State_attemptFailed_kept (s : State) (l cause : Nat) (signal : Bool) : (State.attemptFailed s l cause signal).kept = s.kept := by
  unfold State.attemptFailed; repeat' split
  all_goals (try simp [])

@[simp] theorem State_stageLimit_kept (s : State) (l : Nat) (signal aligned : Bool) : (State.stageLimit s l signal aligned).kept = s.kept := by
  unfold State.stageLimit; repeat' split
  all_goals (try simp [])

@[simp] theorem State_capIn_kept (s : State) (l : Nat) (w : TrainWord) : (State.capIn s l w).kept = s.kept := by
  unfold State.capIn; repeat' split
  all_goals (try simp [])

@[simp] theorem State_capAckIn_kept (s : State) (l : Nat) (w : TrainWord) : (State.capAckIn s l w).kept = s.kept := by
  unfold State.capAckIn; repeat' split
  all_goals (try simp [])

@[simp] theorem State_rateGoIn_kept (s : State) (l : Nat) (w : TrainWord) : (State.rateGoIn s l w).kept = s.kept := by
  unfold State.rateGoIn; repeat' split
  all_goals (try simp [])

@[simp] theorem State_eqEnd_kept (s : State) (l : Nat) : (State.eqEnd s l).kept = s.kept := by
  unfold State.eqEnd; repeat' split
  all_goals (try simp [])

@[simp] theorem State_eqSend_kept (s : State) (l : Nat) : (State.eqSend s l).kept = s.kept := by
  unfold State.eqSend; repeat' split
  all_goals (try simp [])

@[simp] theorem State_eqAsk_kept (s : State) (l : Nat) (reverse : Bool) : (State.eqAsk s l reverse).kept = s.kept := by
  unfold State.eqAsk; repeat' split
  all_goals (try simp [])

@[simp] theorem State_eqNext_kept (s : State) (l : Nat) : (State.eqNext s l).kept = s.kept := by
  unfold State.eqNext; repeat' split
  all_goals (try simp [])

@[simp] theorem State_eqEye_kept (s : State) (l h w : Nat) : (State.eqEye s l h w).kept = s.kept := by
  unfold State.eqEye; repeat' split
  all_goals (try simp [])

@[simp] theorem State_eqStatusIn_kept (s : State) (l : Nat) (w : TrainWord) : (State.eqStatusIn s l w).kept = s.kept := by
  unfold State.eqStatusIn; repeat' split
  all_goals (try simp [])

@[simp] theorem State_eqReqIn_kept (s : State) (l : Nat) (w : TrainWord) : (State.eqReqIn s l w).kept = s.kept := by
  unfold State.eqReqIn; repeat' split
  all_goals (try simp [])

@[simp] theorem State_ctleIn_kept (s : State) (l h w : Nat) : (State.ctleIn s l h w).kept = s.kept := by
  unfold State.ctleIn; repeat' split
  all_goals (try simp [])

@[simp] theorem State_eqDoneIn_kept (s : State) (l : Nat) (w : TrainWord) : (State.eqDoneIn s l w).kept = s.kept := by
  unfold State.eqDoneIn; repeat' split
  all_goals (try simp [])

@[simp] theorem State_laneLoss_kept (s : State) (l codeErr : Nat) (host : Bool) : (State.laneLoss s l codeErr host).kept = s.kept := by
  unfold State.laneLoss; repeat' split
  all_goals (try simp [])

@[simp] theorem State_retrain_kept (s : State) (l : Nat) : (State.retrain s l).kept = s.kept := by
  unfold State.retrain; repeat' split
  all_goals (try simp [])

@[simp] theorem State_relockFailed_kept (s : State) (l : Nat) : (State.relockFailed s l).kept = s.kept := by
  unfold State.relockFailed; repeat' split
  all_goals (try simp [])

@[simp] theorem State_rxStatusIn_kept (s : State) (l : Nat) (w : TrainWord) : (State.rxStatusIn s l w).kept = s.kept := by
  unfold State.rxStatusIn; repeat' split
  all_goals (try simp [])
  all_goals (repeat' split) <;> (try simp_all [])

@[simp] theorem State_rxStatusLate_kept (s : State) (l : Nat) : (State.rxStatusLate s l).kept = s.kept := by
  unfold State.rxStatusLate; repeat' split
  all_goals (try simp [])

@[simp] theorem State_lullIn_kept (s : State) (l : Nat) (w : TrainWord) : (State.lullIn s l w).kept = s.kept := by
  unfold State.lullIn; repeat' split
  all_goals (try simp [])

/-! Power -/

@[simp] theorem State_trims_kept (s : State) : (State.trims s).kept = s.kept := by
  unfold State.trims; repeat' split
  all_goals (try simp [])

@[simp] theorem State_calStart_kept (s : State) (cause : Nat) : (State.calStart s cause).kept = s.kept := by
  unfold State.calStart; repeat' split
  all_goals (try simp [])

@[simp] theorem State_calNow_kept (s : State) : (State.calNow s).kept = s.kept := by
  unfold State.calNow; repeat' split
  all_goals (try simp [])

theorem execCalNow_kept (dt : Nat) (o : Origin) (v : Nat) (s : State) : OutKept (execCalNow dt o v s) s.kept := by
  unfold execCalNow; repeat' split
  all_goals (try simp [])
  all_goals (repeat' split) <;> (try simp_all [])

@[simp] theorem State_bankOn_kept (s : State) (b : Nat) : (State.bankOn s b).kept = s.kept := by
  unfold State.bankOn; repeat' split
  all_goals (try simp [])

@[simp] theorem State_bankOffAll_kept (s : State) (b : Nat) : (State.bankOffAll s b).kept = s.kept := by
  unfold State.bankOffAll; repeat' split
  all_goals (try simp [])

@[simp] theorem State_fastClocks_kept (s : State) : (State.fastClocks s).kept = s.kept := by
  unfold State.fastClocks; repeat' split
  all_goals (try simp [])

@[simp] theorem State_domOn_kept (s : State) (k : Nat) : (State.domOn s k).kept = s.kept := by
  unfold State.domOn; repeat' split
  all_goals (try simp [])

@[simp] theorem State_zonesEnd_kept (s : State) : (State.zonesEnd s).kept = s.kept := by
  unfold State.zonesEnd; repeat' split
  all_goals (try simp [])

@[simp] theorem State_domOff_good (s : State) (k : Nat) (pq : List Instr) (h : Good pq s.kept) : Good pq (State.domOff s k).kept := by
  unfold State.domOff
  dsimp only
  have h0 : Good pq (if (4 ≤ k ∧ k ≤ 10) then (s.wb Reg.thmDOMAINS_UP k false).each (domLanes k) fun l t => t.laneOff l
      else s.wb Reg.thmDOMAINS_UP k false).fastClocks.kept := by
    rw [State_fastClocks_kept]
    split
    · simp [h]
    · rw [State_wb_kept]; exact h
  generalize (if (4 ≤ k ∧ k ≤ 10) then (s.wb Reg.thmDOMAINS_UP k false).each (domLanes k) fun l t => t.laneOff l
      else s.wb Reg.thmDOMAINS_UP k false).fastClocks = u at h0 ⊢
  (repeat' split)
  · simpa using h0
  · exact ⟨h0.1, h0.2.1, h0.2.2.1, h0.2.2.2.1, rfl, h0.2.2.2.2.2⟩
  · simp [h0]
  · simp [h0]
  · exact h0
  · simp [h0]
  · exact h0

theorem State_domOff_kept_ne (s : State) (k : Nat) (hk : k ≠ 15) : (State.domOff s k).kept = s.kept := by
  unfold State.domOff
  dsimp only
  have h0 : (if (4 ≤ k ∧ k ≤ 10) then (s.wb Reg.thmDOMAINS_UP k false).each (domLanes k) fun l t => t.laneOff l
      else s.wb Reg.thmDOMAINS_UP k false).fastClocks.kept = s.kept := by
    rw [State_fastClocks_kept]
    split
    · simp
    · rw [State_wb_kept]
  generalize (if (4 ≤ k ∧ k ≤ 10) then (s.wb Reg.thmDOMAINS_UP k false).each (domLanes k) fun l t => t.laneOff l
      else s.wb Reg.thmDOMAINS_UP k false).fastClocks = u at h0 ⊢
  (repeat' split)
  · exact h0
  · rw [each_kept _ _ _ fun a t => State_stStop_kept _ _]; exact h0
  · rw [State_zonesEnd_kept]; exact h0
  · exact h0
  · rw [each_kept _ _ _ fun a t => State_bankOffAll_kept _ _]; exact h0
  · exact h0

@[simp] theorem State_domDrop_good (s : State) (pq : List Instr) (h : Good pq s.kept) : Good pq (State.domDrop s).kept := by
  unfold State.domDrop; repeat' split
  all_goals (try simp +contextual [h])
  all_goals (repeat' split) <;> (try simp_all)

@[simp] theorem State_domUsable_kept (s : State) : (State.domUsable s).kept = s.kept := by
  unfold State.domUsable; repeat' split
  all_goals (try simp [])

@[simp] theorem State_domNext_kept (s0 : State) : (State.domNext s0).kept = s0.kept := by
  refine Eq.trans (b := s0.domUsable.kept) ?_ (State_domUsable_kept s0)
  unfold State.domNext; dsimp only
  (repeat' split) <;> simp only [State_fastClocks_kept] <;> rfl

@[simp] theorem State_arrive_kept (s : State) : (State.arrive s).kept = s.kept := by
  unfold State.arrive; repeat' split
  all_goals (try simp [])

@[simp] theorem State_enterRun_kept (s : State) : (State.enterRun s).kept = s.kept := by
  unfold State.enterRun; repeat' split
  all_goals (try simp [])

@[simp] theorem State_leaveRun_good (s : State) (pq : List Instr) (h : Good pq s.kept) : Good pq (State.leaveRun s).kept := by
  unfold State.leaveRun; repeat' split
  all_goals (try simp +contextual [h])
  all_goals (repeat' split) <;> (try simp_all)

@[simp] theorem State_sleep_good (s : State) (pq : List Instr) (h : Good pq s.kept) : Good pq (State.sleep s).kept := by
  have h1 (t : State) : (t.each headNos fun h t =>
      State.when (if t.laneUp h ∧ !t.follower then (t.wHd h { t.hd h with cmd := none, queue := [] }).stream h 0 else t)
        (decide (tget 8 (if t.laneUp h ∧ !t.follower then (t.wHd h { t.hd h with cmd := none, queue := [] }).stream h 0 else t).shep.segs h ≠ 8))
        fun u => u.wHd h { u.hd h with lastFull := none }).kept = t.kept := each_kept _ _ _ (fun h t => by
    refine (when_kept _ _ _ (fun u => by simp)).trans ?_
    split <;> simp)
  unfold State.sleep
  refine State_domDrop_good _ pq ?_
  simp only [when_kept, State_w_kept]
  refine (congrArg (Good pq) ?_).mpr h
  refine (when_kept _ _ _ (fun u => by simp)).trans ?_
  exact (State_w_kept _ _ _).trans (h1 s)

@[simp] theorem State_nineGo_kept (s : State) : (State.nineGo s).kept = s.kept := by
  unfold State.nineGo; repeat' split
  all_goals (try simp [])

@[simp] theorem State_wSubCh_kept (s : State) (d : Nat) (x : SubCh) : (State.wSubCh s d x).kept = s.kept := by
  unfold State.wSubCh; repeat' split
  all_goals (try simp [])

@[simp] theorem State_retrainNext_kept (s : State) : (State.retrainNext s).kept = s.kept := by
  unfold State.retrainNext; repeat' split
  all_goals (try simp [])

@[simp] theorem State_retrainAsk_kept (s : State) (d : Nat) : (State.retrainAsk s d).kept = s.kept := by
  unfold State.retrainAsk; repeat' split
  all_goals (try simp [])

@[simp] theorem State_memStart_kept (s : State) : (State.memStart s).kept = s.kept := by
  unfold State.memStart
  refine (each_kept _ _ _ fun d t => State_wSubCh_kept _ _ _).trans (Eq.trans (b := (s.w Reg.memMEM_STATE 3).kept) rfl (State_w_kept _ _ _))

@[simp] theorem State_memWake_kept (s : State) : (State.memWake s).kept = s.kept := by
  unfold State.memWake; repeat' split
  all_goals (try simp [])

@[simp] theorem State_stateSettle_kept (s0 : State) : (State.stateSettle s0).kept = s0.kept := by
  unfold State.stateSettle; repeat' split
  all_goals (try simp [])
  all_goals (repeat' split) <;> (try simp_all [])

@[simp] theorem State_wake_kept (s : State) (t : Nat) : (State.wake s t).kept = s.kept := by
  unfold State.wake; simp only [State_stateSettle_kept, State_fastClocks_kept]; rfl

@[simp] theorem State_stateRun_good (s : State) (v : Nat) (pq : List Instr) (h : Good pq s.kept) : Good pq (State.stateRun s v).kept := by
  unfold State.stateRun; repeat' split
  all_goals (try simp +contextual [h])
  all_goals (repeat' split) <;> (try simp_all)

@[simp] theorem State_quadIdle_good (s : State) (q : Nat) (pq : List Instr) (h : Good pq s.kept) : Good pq (State.quadIdle s q).kept := by
  unfold State.quadIdle; repeat' split
  all_goals (try simp +contextual [h])
  all_goals (repeat' split) <;> (try simp_all)

theorem execQuadrantIdle_good (dt : Nat) (q : Fin 4) (s : State) (pq : List Instr) (h : Good pq s.kept) : OutGood pq (execQuadrantIdle dt q s) := by
  unfold execQuadrantIdle; repeat' split
  all_goals (try simp +contextual [h])
  all_goals (repeat' split) <;> (try simp_all)

@[simp] theorem State_stopEnter_kept (s : State) (cause : Nat) : (State.stopEnter s cause).kept = s.kept := by
  unfold State.stopEnter; dsimp only
  rw [State_actDone_kept, when_kept]
  · simp only [State_w_kept]
    exact (kept_pwr _ _).trans (each_kept _ _ _ fun z t => State_wb_kept _ _ _ _)
  · intro t
    refine each_kept_mem _ _ _ fun k hk u => State_domOff_kept_ne u k ?_
    simp only [List.mem_filter, List.mem_cons, List.not_mem_nil, or_false] at hk
    omega

@[simp] theorem State_stopRecord_kept (s : State) (cause : Nat) : (State.stopRecord s cause).kept = s.kept := by
  unfold State.stopRecord; repeat' split
  all_goals (try simp [])

@[simp] theorem State_stopEvent_kept (s : State) (cause : Nat) : (State.stopEvent s cause).kept = s.kept := by
  unfold State.stopEvent; repeat' split
  all_goals (try simp [])

@[simp] theorem State_stopHeads_kept (s : State) : (State.stopHeads s).kept = s.kept := by
  unfold State.stopHeads; repeat' split
  all_goals (try simp [])

@[simp] theorem State_stopOffer_kept (s : State) : (State.stopOffer s).kept = s.kept := by
  unfold State.stopOffer; repeat' split
  all_goals (try simp [])

@[simp] theorem State_orderlyStop_kept (s : State) (cause : Nat) : (State.orderlyStop s cause).kept = s.kept := by
  unfold State.orderlyStop; repeat' split
  all_goals (try simp [])

@[simp] theorem State_ringLeave_kept (s : State) : (State.ringLeave s).kept = s.kept := by
  unfold State.ringLeave; repeat' split
  all_goals (try simp [])

@[simp] theorem State_nvmLeave_kept (s : State) : (State.nvmLeave s).kept = s.kept := by
  unfold State.nvmLeave; repeat' split
  all_goals (try simp [])

@[simp] theorem State_stopEnd_good (s : State) (pq : List Instr) (h : Good pq s.kept) : Good pq (State.stopEnd s).kept := by
  unfold State.stopEnd; repeat' split
  all_goals (try simp +contextual [h])
  all_goals (repeat' split) <;> (try simp_all)

theorem execOrderlyStopEnd_good (dt : Nat) (s : State) (pq : List Instr) (h : Good pq s.kept) : OutGood pq (execOrderlyStopEnd dt s) := by
  unfold execOrderlyStopEnd; repeat' split
  all_goals (try simp +contextual [h])
  all_goals (repeat' split) <;> (try simp_all)

@[simp] theorem State_started_kept (s : State) : (State.started s).kept = s.kept := by
  unfold State.started
  extract_lets ms q1 s1 s2 q2
  have h2 : s2.kept = s.kept := by simp [s2, s1]
  split
  · exact (State_event_kept _ _ _ _).trans (Eq.trans rfl h2)
  · exact h2

@[simp] theorem State_startReady_kept (s : State) : (State.startReady s).kept = s.kept := by
  unfold State.startReady; repeat' split
  all_goals (try simp [])

@[simp] theorem State_startRun_kept (s : State) : (State.startRun s).kept = s.kept := by
  unfold State.startRun; repeat' split
  all_goals (try simp [])

@[simp] theorem State_bootSettle_kept (s0 : State) : (State.bootSettle s0).kept = s0.kept := by
  unfold State.bootSettle; repeat' split
  all_goals (try simp [])

@[simp] theorem State_done_kept (s : State) : (State.done s).kept = s.kept := by
  unfold State.done; repeat' split
  all_goals (try simp [])

theorem execStateReq_good (dt : Nat) (o : Origin) (v : Nat) (s : State) (pq : List Instr) (h : Good pq s.kept) : OutGood pq (execStateReq dt o v s) := by
  unfold execStateReq; repeat' split
  all_goals (try simp +contextual [h])
  all_goals (repeat' split) <;> (try simp_all)

theorem execDomainSwitch_good (dt : Nat) (s : State) (pq : List Instr) (h : Good pq s.kept) : OutGood pq (execDomainSwitch dt s) := by
  unfold execDomainSwitch; repeat' split
  all_goals (try simp +contextual [h])
  all_goals (repeat' split) <;> (try simp_all)

/-! Memory -/

@[simp] theorem State_regionSizes_kept (s : State) : (State.regionSizes s).kept = s.kept := by
  unfold State.regionSizes; repeat' split
  all_goals (try simp [])

@[simp] theorem State_memLog_kept (s : State) (d kind symbols source row block : Nat) : (State.memLog s d kind symbols source row block).kept = s.kept := by
  unfold State.memLog; repeat' split
  all_goals (try simp [])

@[simp] theorem State_zoneRefill_kept (s : State) (z : Nat) : (State.zoneRefill s z).kept = s.kept := by
  unfold State.zoneRefill; repeat' split
  all_goals (try simp [])

@[simp] theorem State_windowClear_kept (s : State) (st : Nat) : (State.windowClear s st).kept = s.kept := by
  unfold State.windowClear; repeat' split
  all_goals (try simp [])

@[simp] theorem State_dramRebuild_kept (s : State) : (State.dramRebuild s).kept = s.kept := by
  unfold State.dramRebuild; repeat' split
  all_goals (try simp [])

@[simp] theorem State_dramChanged_kept (s : State) : (State.dramChanged s).kept = s.kept := by
  unfold State.dramChanged; repeat' split
  all_goals (try simp [])

@[simp] theorem State_memFatal_good (s : State) (pq : List Instr) (h : Good pq s.kept) : Good pq (State.memFatal s).kept := by
  unfold State.memFatal; repeat' split
  all_goals (try simp +contextual [h])
  all_goals (repeat' split) <;> (try simp_all)

@[simp] theorem State_subOut_kept (s : State) (d cause : Nat) : (State.subOut s d cause).kept = s.kept := by
  unfold State.subOut; repeat' split
  all_goals (try simp [])

@[simp] theorem State_subFailed_good (s : State) (d cause : Nat) (pq : List Instr) (h : Good pq s.kept) : Good pq (State.subFailed s d cause).kept := by
  unfold State.subFailed; repeat' split
  all_goals (try simp +contextual [h])
  all_goals (repeat' split) <;> (try simp_all)

@[simp] theorem State_subBack_good (s : State) (d : Nat) (pq : List Instr) (h : Good pq s.kept) : Good pq (State.subBack s d).kept := by
  have h2 : Good pq ((((s.wb Reg.memIN_SERVICE d true).wb Reg.memFAILED d false).w (Reg.subSUB_STATE d) 1).wb Reg.memMIRROR_LOST (d / 2) false).kept := by
    simpa using h
  unfold State.subBack; dsimp only
  generalize (((s.wb Reg.memIN_SERVICE d true).wb Reg.memFAILED d false).w (Reg.subSUB_STATE d) 1).wb Reg.memMIRROR_LOST (d / 2) false = u at h2 ⊢
  rw [State_dramChanged_kept]
  exact ⟨h2.1, h2.2.1, h2.2.2.1, mirrorCopy_twf 0 _ _ _ h2.2.2.2.1, h2.2.2.2.2⟩

@[simp] theorem State_retrainResult_kept (s : State) (d code window : Nat) : (State.retrainResult s d code window).kept = s.kept := by
  unfold State.retrainResult; repeat' split
  all_goals (try simp [])

@[simp] theorem State_retrained_kept (s : State) (d : Nat) (eyes : List (Nat × Eye)) : (State.retrained s d eyes).kept = s.kept := by
  unfold State.retrained; repeat' split
  all_goals (try simp [])

@[simp] theorem State_slicesEnd_kept (s : State) (d : Nat) : (State.slicesEnd s d).kept = s.kept := by
  unfold State.slicesEnd; repeat' split
  all_goals (try simp [])

@[simp] theorem State_refreshed_kept (s : State) (d n : Nat) (sw : List LaneSweep) : (State.refreshed s d n sw).kept = s.kept := by
  unfold State.refreshed; repeat' split
  all_goals (try simp [])

@[simp] theorem State_issue_kept (s : State) (d n : Nat) (sw : List LaneSweep) : (State.issue s d n sw).kept = s.kept := by
  unfold State.issue; repeat' split
  all_goals (try simp [])

@[simp] theorem State_issueNext_kept (s : State) (d : Nat) (waiting : List MemReq) (sw : List LaneSweep) : (State.issueNext s d waiting sw).kept = s.kept := by
  unfold State.issueNext; repeat' split
  all_goals (try simp [])

@[simp] theorem State_refreshDue_kept (s : State) (d : Nat) (waiting : List MemReq) (sw : List LaneSweep) : (State.refreshDue s d waiting sw).kept = s.kept := by
  unfold State.refreshDue; repeat' split
  all_goals (try simp [])

theorem execRefreshDue_kept (dt : Nat) (d : Fin 16) (waiting : List MemReq) (sweeps : List LaneSweep) (s : State) : OutKept (execRefreshDue dt d waiting sweeps s) s.kept := by
  unfold execRefreshDue; repeat' split
  all_goals (try simp [])
  all_goals (repeat' split) <;> (try simp_all [])

@[simp] theorem State_trainingEnd_good (s : State) (d : Nat) (sweeps : List LaneSweep) (pq : List Instr) (h : Good pq s.kept) : Good pq (State.trainingEnd s d sweeps).kept := by
  unfold State.trainingEnd; repeat' split
  all_goals (try simp +contextual [h])
  all_goals (repeat' split) <;> (try simp_all)

theorem execFullTrainingDone_good (dt : Nat) (d : Fin 16) (sweeps : List LaneSweep) (s : State) (pq : List Instr) (h : Good pq s.kept) : OutGood pq (execFullTrainingDone dt d sweeps s) := by
  unfold execFullTrainingDone; repeat' split
  all_goals (try simp +contextual [h])
  all_goals (repeat' split) <;> (try simp_all)

@[simp] theorem State_subRetrain_kept (s : State) (d : Nat) : (State.subRetrain s d).kept = s.kept := by
  unfold State.subRetrain; repeat' split
  all_goals (try simp [])

theorem execSubchannelRetrain_kept (dt : Nat) (d : Fin 16) (o : Origin) (v : Nat) (s : State) : OutKept (execSubchannelRetrain dt d o v s) s.kept := by
  unfold execSubchannelRetrain; repeat' split
  all_goals (try simp [])
  all_goals (repeat' split) <;> (try simp_all [])

@[simp] theorem State_wrongRecords_kept (s : State) (h i0 : Nat) (v : Wrong) : (State.wrongRecords s h i0 v).kept = s.kept := by
  unfold State.wrongRecords; repeat' split
  all_goals (try simp [])

@[simp] theorem State_wrongSharp_kept (s : State) (h i0 : Nat) (v : Wrong) : (State.wrongSharp s h i0 v).kept = s.kept := by
  unfold State.wrongSharp; repeat' split
  all_goals (try simp [])

@[simp] theorem State_wrongStage_kept (s : State) (h off : Nat) (v : Wrong) : (State.wrongStage s h off v).kept = s.kept := by
  unfold State.wrongStage; repeat' split
  all_goals (try simp [])

@[simp] theorem State_wrongBand_kept (s : State) (st off : Nat) (v : Wrong) : (State.wrongBand s st off v).kept = s.kept := by
  unfold State.wrongBand; repeat' split
  all_goals (try simp [])

@[simp] theorem State_wrongWindow_kept (s : State) (st off : Nat) (v : Wrong) : (State.wrongWindow s st off v).kept = s.kept := by
  unfold State.wrongWindow; repeat' split
  all_goals (try simp [])

@[simp] theorem State_wrongCov_kept (s : State) (off : Nat) (v : Wrong) : (State.wrongCov s off v).kept = s.kept := by
  unfold State.wrongCov
  refine each_kept _ _ _ (fun a t => ?_)
  simp only []; (repeat' split) <;> simp

@[simp] theorem State_wrongHist_kept (s : State) (off : Nat) (v : Wrong) : (State.wrongHist s off v).kept = s.kept := by
  unfold State.wrongHist; repeat' split
  all_goals (try simp [])

@[simp] theorem State_wrongFrame_kept (s : State) (h off : Nat) (raw : Bool) (v : Wrong) : (State.wrongFrame s h off raw v).kept = s.kept := by
  unfold State.wrongFrame; repeat' split
  all_goals (try simp [])

@[simp] theorem State_wrongBlock_kept (s : State) (r : MemRead) (v : Wrong) : (State.wrongBlock s r v).kept = s.kept := by
  unfold State.wrongBlock; repeat' split
  all_goals (try simp [])

@[simp] theorem State_corrected_kept (s : State) (d l n src : Nat) : (State.corrected s d l n src).kept = s.kept := by
  unfold State.corrected; repeat' split
  all_goals (try simp [])

@[simp] theorem State_fixAsk_kept (s : State) (d blk : Nat) (waiting : List MemReq) : (State.fixAsk s d blk waiting).kept = s.kept := by
  unfold State.fixAsk; repeat' split
  all_goals (try simp [])

@[simp] theorem State_uncorrected_kept (s : State) (d l src : Nat) : (State.uncorrected s d l src).kept = s.kept := by
  unfold State.uncorrected; repeat' split
  all_goals (try simp [])

@[simp] theorem State_ueAdd_kept (s : State) (d blk : Nat) : (State.ueAdd s d blk).kept = s.kept := by
  unfold State.ueAdd; repeat' split
  all_goals (try simp [])

@[simp] theorem State_ueDrop_kept (s : State) (d blk : Nat) : (State.ueDrop s d blk).kept = s.kept := by
  unfold State.ueDrop; repeat' split
  all_goals (try simp [])

@[simp] theorem State_mirrorBad_good (s : State) (d l : Nat) (pq : List Instr) (h : Good pq s.kept) : Good pq (State.mirrorBad s d l).kept := by
  unfold State.mirrorBad; repeat' split
  all_goals (try simp +contextual [h])
  all_goals (repeat' split) <;> (try simp_all)

@[simp] theorem State_mirrorGood_kept (s : State) (d l : Nat) : (State.mirrorGood s d l).kept = s.kept := by
  unfold State.mirrorGood; repeat' split
  all_goals (try simp [])

@[simp] theorem State_partialLost_kept (s : State) (d l src : Nat) : (State.partialLost s d l src).kept = s.kept := by
  unfold State.partialLost; repeat' split
  all_goals (try simp [])

@[simp] theorem State_badBlock_good (s : State) (r : MemRead) (src : Nat) (pq : List Instr) (h : Good pq s.kept) : Good pq (State.badBlock s r src).kept := by
  unfold State.badBlock; repeat' split
  all_goals (try simp +contextual [h])
  all_goals (repeat' split) <;> (try simp_all)

theorem kept_mem (u : State) (m : Mem) (hd : m.dram = u.mem.dram) (hp : m.pool = u.mem.pool) : State.kept { u with mem := m } = u.kept := by
  simp only [State.kept, hd, hp]

@[simp] theorem State_badFound_good (s : State) (r : MemRead) (scrub : Bool) (src : Nat) (pq : List Instr) (h : Good pq s.kept) : Good pq (State.badFound s r scrub src).kept := by
  unfold State.badFound; dsimp only
  (repeat' split)
  · exact State_badBlock_good _ _ _ _ h
  · exact h
  · exact State_badBlock_good _ _ _ _ h

@[simp] theorem State_tagFault_good (s : State) (r : MemRead) (scrub : Bool) (src : Nat) (pq : List Instr) (h : Good pq s.kept) : Good pq (State.tagFault s r scrub src).kept := by
  unfold State.tagFault; dsimp only
  refine State_badFound_good _ _ _ _ _ ?_
  rw [each_kept _ _ _ fun i t => State_ueAdd_kept _ _ _, State_memLog_kept, State_bump_kept]
  exact h

@[simp] theorem State_readOk_kept (s : State) (r : MemRead) (n : Nat) (rest : List (Nat × Nat)) (src : Nat) : (State.readOk s r n rest src).kept = s.kept := by
  unfold State.readOk; repeat' split
  all_goals (try simp [])

@[simp] theorem State_memLooked_good (s : State) (r : MemRead) (scrub : Bool) (pq : List Instr) (h : Good pq s.kept) : Good pq (State.memLooked s r scrub).kept := by
  unfold State.memLooked; repeat' split
  all_goals (try simp +contextual [h])
  all_goals (repeat' split) <;> (try simp_all)

@[simp] theorem State_goOn_kept (s : State) (r : MemRead) : (State.goOn s r).kept = s.kept := by
  unfold State.goOn; repeat' split
  all_goals (try simp [])

@[simp] theorem State_memRead_good (s : State) (r : MemRead) (scrub : Bool) (pq : List Instr) (h : Good pq s.kept) : Good pq (State.memRead s r scrub).kept := by
  unfold State.memRead; repeat' split
  all_goals (try simp +contextual [h])
  all_goals (repeat' split) <;> (try simp_all)

theorem execMemReadDone_good (dt : Nat) (r : MemRead) (s : State) (pq : List Instr) (h : Good pq s.kept) : OutGood pq (execMemReadDone dt r s) := by
  unfold execMemReadDone; repeat' split
  all_goals (try simp +contextual [h])
  all_goals (repeat' split) <;> (try simp_all)

@[simp] theorem State_scrubEnd_kept (s : State) : (State.scrubEnd s).kept = s.kept := by
  unfold State.scrubEnd; dsimp only
  rw [State_bump_kept, each_kept _ _ _ fun k t => (State_w_kept _ _ _).trans (State_wSubCh_kept _ _ _)]
  rfl

@[simp] theorem State_scrub_good (s : State) (r : MemRead) (odecc : Nat) (pq : List Instr) (h : Good pq s.kept) : Good pq (State.scrub s r odecc).kept := by
  have h1 := State_memRead_good s r true pq h
  unfold State.scrub; dsimp only
  (repeat' split)
  · exact h
  · exact h1
  all_goals first
    | (rw [State_scrubEnd_kept, State_wSubCh_kept]; exact (kept_mem _ _ rfl rfl) ▸ h1)
    | (rw [State_wSubCh_kept]; exact (kept_mem _ _ rfl rfl) ▸ h1)

theorem execScrubRead_good (dt : Nat) (r : MemRead) (odecc : Nat) (s : State) (pq : List Instr) (h : Good pq s.kept) : OutGood pq (execScrubRead dt r odecc s) := by
  unfold execScrubRead; repeat' split
  all_goals (try simp +contextual [h])
  all_goals (repeat' split) <;> (try simp_all)

/-! Thermal -/

@[simp] theorem State_railRound_kept (s : State) (rails : List Nat) : (State.railRound s rails).kept = s.kept := by
  unfold State.railRound; repeat' split
  all_goals (try simp [])

@[simp] theorem State_bankSupply_kept (s : State) (b : Nat) : (State.bankSupply s b).kept = s.kept := by
  unfold State.bankSupply; repeat' split
  all_goals (try simp [])

@[simp] theorem State_bankSupplies_kept (s : State) : (State.bankSupplies s).kept = s.kept := by
  unfold State.bankSupplies; repeat' split
  all_goals (try simp [])

@[simp] theorem State_tempRound_kept (s : State) (ts : List Int) : (State.tempRound s ts).kept = s.kept := by
  unfold State.tempRound; repeat' split
  all_goals (try simp [])

@[simp] theorem State_toBand_kept (s : State) (k : Nat) : (State.toBand s k).kept = s.kept := by
  unfold State.toBand; repeat' split
  all_goals (try simp [])

@[simp] theorem State_bandRound_kept (s : State) : (State.bandRound s).kept = s.kept := by
  unfold State.bandRound; repeat' split
  all_goals (try simp [])

@[simp] theorem State_thermalCause_kept (s : State) (v : Bool) : (State.thermalCause s v).kept = s.kept := by
  unfold State.thermalCause; repeat' split
  all_goals (try simp [])

@[simp] theorem State_safeRound_kept (s : State) : (State.safeRound s).kept = s.kept := by
  unfold State.safeRound; repeat' split
  all_goals (try simp [])

@[simp] theorem State_atLevel_kept (s : State) (level : Nat) : (State.atLevel s level).kept = s.kept := by
  unfold State.atLevel; repeat' split
  all_goals (try simp [])

@[simp] theorem State_easeFormats_kept (s : State) (level : Nat) : (State.easeFormats s level).kept = s.kept := by
  unfold State.easeFormats; repeat' split
  all_goals (try simp [])

@[simp] theorem State_throttle_kept (s : State) (level : Nat) : (State.throttle s level).kept = s.kept := by
  unfold State.throttle; repeat' split
  all_goals (try simp [])

@[simp] theorem State_ladderSet_kept (s : State) (level : Nat) : (State.ladderSet s level).kept = s.kept := by
  unfold State.ladderSet; repeat' split
  all_goals (try simp [])

@[simp] theorem State_ladderStep_kept (s : State) : (State.ladderStep s).kept = s.kept := by
  unfold State.ladderStep; repeat' split
  all_goals (try simp [])

@[simp] theorem State_govern_kept (s0 : State) : (State.govern s0).kept = s0.kept := by
  unfold State.govern; repeat' split
  all_goals (try simp [])

@[simp] theorem State_bandRise_kept (s : State) (d new : Nat) : (State.bandRise s d new).kept = s.kept := by
  unfold State.bandRise; repeat' split
  all_goals (try simp [])

@[simp] theorem State_dramBand_kept (s : State) (d : Nat) (t : Int) : (State.dramBand s d t).kept = s.kept := by
  unfold State.dramBand; repeat' split
  all_goals (try simp [])

@[simp] theorem State_dramRound_kept (s : State) (ts : List Int) : (State.dramRound s ts).kept = s.kept := by
  unfold State.dramRound; repeat' split
  all_goals (try simp [])

@[simp] theorem State_hotRound_kept (s : State) : (State.hotRound s).kept = s.kept := by
  unfold State.hotRound; repeat' split
  all_goals (try simp [])

@[simp] theorem State_roundEnd_kept (s : State) : (State.roundEnd s).kept = s.kept := by
  unfold State.roundEnd; repeat' split
  all_goals (try simp [])

@[simp] theorem State_houseRound_kept (s0 : State) (i : HouseIn) : (State.houseRound s0 i).kept = s0.kept := by
  unfold State.houseRound; repeat' split
  all_goals (try simp [])

theorem execHousekeepingRound_kept (dt : Nat) (i : HouseIn) (s : State) : OutKept (execHousekeepingRound dt i s) s.kept := by
  unfold execHousekeepingRound; repeat' split
  all_goals (try simp [])
  all_goals (repeat' split) <;> (try simp_all [])

@[simp] theorem State_clockBit_kept (s : State) (k : Nat) (bad : Bool) : (State.clockBit s k bad).1.kept = s.kept := by
  unfold State.clockBit; repeat' split
  all_goals (try simp [])
  all_goals (repeat' split) <;> (try simp_all [])

@[simp] theorem State_clockCheck_kept (s : State) (sysHz laneA laneB crystal : Nat) : (State.clockCheck s sysHz laneA laneB crystal).kept = s.kept := by
  unfold State.clockCheck; simp; try (split <;> simp)

theorem execClockCheck_kept (dt : Nat) (sysHz laneAHz laneBHz crystalHz : Nat) (s : State) : OutKept (execClockCheck dt sysHz laneAHz laneBHz crystalHz s) s.kept := by
  unfold execClockCheck; repeat' split
  all_goals (try simp [])
  all_goals (repeat' split) <;> (try simp_all [])

end Sys2Proof.Machine
end

