-- ==== Sys2Proof/Laws/KeptObjects.lean ====
section
/-! SUPPORT. The queue and the byte stores under head and lane commands, objects, transfers and recovery: one lemma per
operation (`_kept`: left as they are; `_good`: the queue left, the canonical form kept). -/

set_option linter.all false

namespace Sys2Proof.Machine

/-! HeadCmd -/

theorem execSof_kept (dt : Nat) (h : Fin 32) (p : HeadPkt) (s : State) : OutKept (execSof dt h p s) s.kept := by
  unfold execSof; repeat' split
  all_goals (try simp [])
  all_goals (repeat' split) <;> (try simp_all [])

theorem execLine_kept (dt : Nat) (h : Fin 32) (p : LineIn) (s : State) : OutKept (execLine dt h p s) s.kept := by
  unfold execLine; repeat' split
  all_goals (try simp [])
  all_goals (repeat' split) <;> (try simp_all [])

theorem execEof_kept (dt : Nat) (h : Fin 32) (p : HeadPkt) (s : State) : OutKept (execEof dt h p s) s.kept := by
  unfold execEof; repeat' split
  all_goals (try simp [])
  all_goals (repeat' split) <;> (try simp_all [])

theorem execFrameTimeout_kept (dt : Nat) (h : Fin 32) (s : State) : OutKept (execFrameTimeout dt h s) s.kept := by
  unfold execFrameTimeout; repeat' split
  all_goals (try simp [])
  all_goals (repeat' split) <;> (try simp_all [])

theorem execFrameLate_kept (dt : Nat) (h : Fin 32) (s : State) : OutKept (execFrameLate dt h s) s.kept := by
  unfold execFrameLate; repeat' split
  all_goals (try simp [])
  all_goals (repeat' split) <;> (try simp_all [])

theorem execCoefFetchDone_kept (dt : Nat) (h : Fin 32) (upTo : Nat) (s : State) : OutKept (execCoefFetchDone dt h upTo s) s.kept := by
  unfold execCoefFetchDone; repeat' split
  all_goals (try simp [])
  all_goals (repeat' split) <;> (try simp_all [])

theorem execReply_kept (dt : Nat) (h : Fin 32) (p : HeadPkt) (s : State) : OutKept (execReply dt h p s) s.kept := by
  unfold execReply; repeat' split
  all_goals (try simp [])
  all_goals (repeat' split) <;> (try simp_all [])

theorem execTableData_kept (dt : Nat) (h : Fin 32) (p : HeadPkt) (s : State) : OutKept (execTableData dt h p s) s.kept := by
  unfold execTableData; repeat' split
  all_goals (try simp [])
  all_goals (repeat' split) <;> (try simp_all [])

theorem execHeadEvent_kept (dt : Nat) (h : Fin 32) (p : HeadPkt) (s : State) : OutKept (execHeadEvent dt h p s) s.kept := by
  unfold execHeadEvent; repeat' split
  all_goals (try simp [])
  all_goals (repeat' split) <;> (try simp_all [])

theorem execTimeProbe_kept (dt : Nat) (h : Fin 32) (s : State) : OutKept (execTimeProbe dt h s) s.kept := by
  unfold execTimeProbe; repeat' split
  all_goals (try simp [])
  all_goals (repeat' split) <;> (try simp_all [])

theorem execBusyRetry_kept (dt : Nat) (h : Fin 32) (s : State) : OutKept (execBusyRetry dt h s) s.kept := by
  unfold execBusyRetry; repeat' split
  all_goals (try simp [])
  all_goals (repeat' split) <;> (try simp_all [])

theorem execAuthRetry_kept (dt : Nat) (h : Fin 32) (s : State) : OutKept (execAuthRetry dt h s) s.kept := by
  unfold execAuthRetry; repeat' split
  all_goals (try simp [])
  all_goals (repeat' split) <;> (try simp_all [])

theorem execAttachRetry_kept (dt : Nat) (h : Fin 32) (s : State) : OutKept (execAttachRetry dt h s) s.kept := by
  unfold execAttachRetry; repeat' split
  all_goals (try simp [])
  all_goals (repeat' split) <;> (try simp_all [])

theorem execStreamMinute_kept (dt : Nat) (h : Fin 32) (s : State) : OutKept (execStreamMinute dt h s) s.kept := by
  unfold execStreamMinute; repeat' split
  all_goals (try simp [])
  all_goals (repeat' split) <;> (try simp_all [])

theorem execLifeWriteDue_kept (dt : Nat) (h : Fin 32) (s : State) : OutKept (execLifeWriteDue dt h s) s.kept := by
  unfold execLifeWriteDue; repeat' split
  all_goals (try simp [])
  all_goals (repeat' split) <;> (try simp_all [])

theorem execWritebackPacket_kept (dt : Nat) (h : Fin 32) (s : State) : OutKept (execWritebackPacket dt h s) s.kept := by
  unfold execWritebackPacket; repeat' split
  all_goals (try simp [])
  all_goals (repeat' split) <;> (try simp_all [])

theorem execRebind_kept (dt : Nat) (h : Fin 32) (o : Origin) (v : Nat) (s : State) : OutKept (execRebind dt h o v s) s.kept := by
  unfold execRebind; repeat' split
  all_goals (try simp [])
  all_goals (repeat' split) <;> (try simp_all [])

theorem execCommit_kept (dt : Nat) (h : Fin 32) (o : Origin) (v : Nat) (s : State) : OutKept (execCommit dt h o v s) s.kept := by
  unfold execCommit; repeat' split
  all_goals (try simp [])
  all_goals (repeat' split) <;> (try simp_all [])

theorem execTauCommit_kept (dt : Nat) (h : Fin 32) (o : Origin) (v : Nat) (s : State) : OutKept (execTauCommit dt h o v s) s.kept := by
  unfold execTauCommit; repeat' split
  all_goals (try simp [])
  all_goals (repeat' split) <;> (try simp_all [])

theorem execPersistClear_kept (dt : Nat) (h : Fin 32) (o : Origin) (v : Nat) (s : State) : OutKept (execPersistClear dt h o v s) s.kept := by
  unfold execPersistClear; repeat' split
  all_goals (try simp [])
  all_goals (repeat' split) <;> (try simp_all [])

theorem execDriftConfUpdate_kept (dt : Nat) (h : Fin 32) (s : State) : OutKept (execDriftConfUpdate dt h s) s.kept := by
  unfold execDriftConfUpdate; repeat' split
  all_goals (try simp [])
  all_goals (repeat' split) <;> (try simp_all [])

theorem execFoldTrigger_kept (dt : Nat) (h : Fin 32) (s : State) : OutKept (execFoldTrigger dt h s) s.kept := by
  unfold execFoldTrigger; repeat' split
  all_goals (try simp [])
  all_goals (repeat' split) <;> (try simp_all [])

theorem execFoldNow_kept (dt : Nat) (h : Fin 32) (o : Origin) (v : Nat) (s : State) : OutKept (execFoldNow dt h o v s) s.kept := by
  unfold execFoldNow; repeat' split
  all_goals (try simp [])
  all_goals (repeat' split) <;> (try simp_all [])

theorem execFoldClosingLimit_kept (dt : Nat) (h : Fin 32) (s : State) : OutKept (execFoldClosingLimit dt h s) s.kept := by
  unfold execFoldClosingLimit; repeat' split
  all_goals (try simp [])
  all_goals (repeat' split) <;> (try simp_all [])

theorem execFoldCheckDone_kept (dt : Nat) (h : Fin 32) (s : State) : OutKept (execFoldCheckDone dt h s) s.kept := by
  unfold execFoldCheckDone; repeat' split
  all_goals (try simp [])
  all_goals (repeat' split) <;> (try simp_all [])

theorem execShutterOpenRetry_kept (dt : Nat) (h : Fin 32) (s : State) : OutKept (execShutterOpenRetry dt h s) s.kept := by
  unfold execShutterOpenRetry; repeat' split
  all_goals (try simp [])
  all_goals (repeat' split) <;> (try simp_all [])

theorem execCmdTimeout_kept (dt : Nat) (h : Fin 32) (s : State) : OutKept (execCmdTimeout dt h s) s.kept := by
  unfold execCmdTimeout; repeat' split
  all_goals (try simp [])
  all_goals (repeat' split) <;> (try simp_all [])

/-! LaneCmd -/

@[simp] theorem State_stageAEnd_kept (s : State) (l : Nat) : (State.stageAEnd s l).kept = s.kept := by
  unfold State.stageAEnd; repeat' split
  all_goals (try simp [])

theorem execStageADone_kept (dt : Nat) (l : Fin 96) (s : State) : OutKept (execStageADone dt l s) s.kept := by
  unfold execStageADone; repeat' split
  all_goals (try simp [])
  all_goals (repeat' split) <;> (try simp_all [])

theorem execStageTimeout_kept (dt : Nat) (l : Fin 96) (seen : StageSeen) (s : State) : OutKept (execStageTimeout dt l seen s) s.kept := by
  unfold execStageTimeout; repeat' split
  all_goals (try simp [])
  all_goals (repeat' split) <;> (try simp_all [])

theorem execCap_kept (dt : Nat) (l : Fin 96) (w : TrainWord) (s : State) : OutKept (execCap dt l w s) s.kept := by
  unfold execCap; repeat' split
  all_goals (try simp [])
  all_goals (repeat' split) <;> (try simp_all [])

theorem execCapAck_kept (dt : Nat) (l : Fin 96) (w : TrainWord) (s : State) : OutKept (execCapAck dt l w s) s.kept := by
  unfold execCapAck; repeat' split
  all_goals (try simp [])
  all_goals (repeat' split) <;> (try simp_all [])

theorem execRateGo_kept (dt : Nat) (l : Fin 96) (w : TrainWord) (s : State) : OutKept (execRateGo dt l w s) s.kept := by
  unfold execRateGo; repeat' split
  all_goals (try simp [])
  all_goals (repeat' split) <;> (try simp_all [])

theorem execEqReq_kept (dt : Nat) (l : Fin 96) (w : TrainWord) (s : State) : OutKept (execEqReq dt l w s) s.kept := by
  unfold execEqReq; repeat' split
  all_goals (try simp [])
  all_goals (repeat' split) <;> (try simp_all [])

theorem execEqStatus_kept (dt : Nat) (l : Fin 96) (w : TrainWord) (s : State) : OutKept (execEqStatus dt l w s) s.kept := by
  unfold execEqStatus; repeat' split
  all_goals (try simp [])
  all_goals (repeat' split) <;> (try simp_all [])

theorem execEqMeasure_kept (dt : Nat) (l : Fin 96) (eyeH eyeW : Nat) (s : State) : OutKept (execEqMeasure dt l eyeH eyeW s) s.kept := by
  unfold execEqMeasure; repeat' split
  all_goals (try simp [])
  all_goals (repeat' split) <;> (try simp_all [])

theorem execCtleStep_kept (dt : Nat) (l : Fin 96) (eyeH eyeW : Nat) (s : State) : OutKept (execCtleStep dt l eyeH eyeW s) s.kept := by
  unfold execCtleStep; repeat' split
  all_goals (try simp [])
  all_goals (repeat' split) <;> (try simp_all [])

theorem execEqDone_kept (dt : Nat) (l : Fin 96) (w : TrainWord) (s : State) : OutKept (execEqDone dt l w s) s.kept := by
  unfold execEqDone; repeat' split
  all_goals (try simp [])
  all_goals (repeat' split) <;> (try simp_all [])

theorem execLull_kept (dt : Nat) (l : Fin 96) (w : TrainWord) (s : State) : OutKept (execLull dt l w s) s.kept := by
  unfold execLull; repeat' split
  all_goals (try simp [])
  all_goals (repeat' split) <;> (try simp_all [])

theorem execRxStatus_kept (dt : Nat) (l : Fin 96) (w : TrainWord) (s : State) : OutKept (execRxStatus dt l w s) s.kept := by
  unfold execRxStatus; repeat' split
  all_goals (try simp [])
  all_goals (repeat' split) <;> (try simp_all [])

theorem execRxStatusTimeout_kept (dt : Nat) (l : Fin 96) (s : State) : OutKept (execRxStatusTimeout dt l s) s.kept := by
  unfold execRxStatusTimeout; repeat' split
  all_goals (try simp [])
  all_goals (repeat' split) <;> (try simp_all [])

@[simp] theorem State_lossIn_kept (s : State) (l : Nat) (i : LossIn) : (State.lossIn s l i).kept = s.kept := by
  unfold State.lossIn; repeat' split
  all_goals (try simp [])

theorem execLoss_kept (dt : Nat) (l : Fin 96) (i : LossIn) (s : State) : OutKept (execLoss dt l i s) s.kept := by
  unfold execLoss; repeat' split
  all_goals (try simp [])
  all_goals (repeat' split) <;> (try simp_all [])

@[simp] theorem State_cdrLock_kept (s : State) (l : Nat) : (State.cdrLock s l).kept = s.kept := by
  unfold State.cdrLock; repeat' split
  all_goals (try simp [])

theorem execCdrLock_kept (dt : Nat) (l : Fin 96) (s : State) : OutKept (execCdrLock dt l s) s.kept := by
  unfold execCdrLock; repeat' split
  all_goals (try simp [])
  all_goals (repeat' split) <;> (try simp_all [])

theorem execRelockTimeout_kept (dt : Nat) (l : Fin 96) (s : State) : OutKept (execRelockTimeout dt l s) s.kept := by
  unfold execRelockTimeout; repeat' split
  all_goals (try simp [])
  all_goals (repeat' split) <;> (try simp_all [])

@[simp] theorem State_absentRetry_kept (s : State) (l : Nat) : (State.absentRetry s l).kept = s.kept := by
  unfold State.absentRetry; repeat' split
  all_goals (try simp [])

theorem execAbsentRetry_kept (dt : Nat) (l : Fin 96) (s : State) : OutKept (execAbsentRetry dt l s) s.kept := by
  unfold execAbsentRetry; repeat' split
  all_goals (try simp [])
  all_goals (repeat' split) <;> (try simp_all [])

@[simp] theorem State_signalIn_kept (s : State) (l : Nat) : (State.signalIn s l).kept = s.kept := by
  unfold State.signalIn; repeat' split
  all_goals (try simp [])

theorem execSignalDetect_kept (dt : Nat) (l : Fin 96) (s : State) : OutKept (execSignalDetect dt l s) s.kept := by
  unfold execSignalDetect; repeat' split
  all_goals (try simp [])
  all_goals (repeat' split) <;> (try simp_all [])

@[simp] theorem State_laneAgain_kept (s : State) (l : Nat) : (State.laneAgain s l).kept = s.kept := by
  unfold State.laneAgain; repeat' split
  all_goals (try simp [])

theorem execLaneRetrain_kept (dt : Nat) (l : Fin 96) (o : Origin) (v : Nat) (s : State) : OutKept (execLaneRetrain dt l o v s) s.kept := by
  unfold execLaneRetrain; repeat' split
  all_goals (try simp [])
  all_goals (repeat' split) <;> (try simp_all [])

theorem execExportLaneFree_kept (dt : Nat) (x : Fin 48) (s : State) : OutKept (execExportLaneFree dt x s) s.kept := by
  unfold execExportLaneFree; repeat' split
  all_goals (try simp [])
  all_goals (repeat' split) <;> (try simp_all [])

@[simp] theorem State_rejoin_kept (s : State) (x : Nat) : (State.rejoin s x).kept = s.kept := by
  unfold State.rejoin; repeat' split
  all_goals (try simp [])

theorem execStripeRejoin_kept (dt : Nat) (x : Fin 48) (s : State) : OutKept (execStripeRejoin dt x s) s.kept := by
  unfold execStripeRejoin; repeat' split
  all_goals (try simp [])
  all_goals (repeat' split) <;> (try simp_all [])

@[simp] theorem State_auxSet_kept (s : State) (a v : Nat) : (State.auxSet s a v).kept = s.kept := by
  unfold State.auxSet; repeat' split
  all_goals (try simp [])

theorem execAuxMode_kept (dt : Nat) (a : Fin 4) (o : Origin) (v : Nat) (s : State) : OutKept (execAuxMode dt a o v s) s.kept := by
  unfold execAuxMode; repeat' split
  all_goals (try simp [])
  all_goals (repeat' split) <;> (try simp_all [])

@[simp] theorem State_auxRate_kept (s : State) (a old v : Nat) : (State.auxRate s a old v).kept = s.kept := by
  unfold State.auxRate; repeat' split
  all_goals (try simp [])

@[simp] theorem State_bitSlip_kept (s : State) (a : Nat) : (State.bitSlip s a).kept = s.kept := by
  unfold State.bitSlip; repeat' split
  all_goals (try simp [])

theorem execBitSlip_kept (dt : Nat) (a : Fin 4) (o : Origin) (v : Nat) (s : State) : OutKept (execBitSlip dt a o v s) s.kept := by
  unfold execBitSlip; repeat' split
  all_goals (try simp [])
  all_goals (repeat' split) <;> (try simp_all [])

@[simp] theorem State_captureArm_kept (s : State) (a : Nat) : (State.captureArm s a).kept = s.kept := by
  unfold State.captureArm; repeat' split
  all_goals (try simp [])

theorem execCaptureArm_kept (dt : Nat) (a : Fin 4) (o : Origin) (v : Nat) (s : State) : OutKept (execCaptureArm dt a o v s) s.kept := by
  unfold execCaptureArm; repeat' split
  all_goals (try simp [])
  all_goals (repeat' split) <;> (try simp_all [])

theorem execMatchWrite_kept (dt : Nat) (a : Fin 4) (o : Origin) (mask : Bool) (v : Nat) (s : State) : OutKept (execMatchWrite dt a o mask v s) s.kept := by
  unfold execMatchWrite; repeat' split
  all_goals (try simp [])
  all_goals (repeat' split) <;> (try simp_all [])

@[simp] theorem State_lullSet_kept (s : State) (a v : Nat) : (State.lullSet s a v).kept = s.kept := by
  unfold State.lullSet; repeat' split
  all_goals (try simp [])

theorem execLullReq_kept (dt : Nat) (a : Fin 4) (o : Origin) (v : Nat) (s : State) : OutKept (execLullReq dt a o v s) s.kept := by
  unfold execLullReq; repeat' split
  all_goals (try simp [])
  all_goals (repeat' split) <;> (try simp_all [])

@[simp] theorem State_auxWord_kept (s : State) (a w : Nat) : (State.auxWord s a w).kept = s.kept := by
  unfold State.auxWord; repeat' split
  all_goals (try simp [])

theorem execAuxReceivedWord_kept (dt : Nat) (a : Fin 4) (w : Nat) (s : State) : OutKept (execAuxReceivedWord dt a w s) s.kept := by
  unfold execAuxReceivedWord; repeat' split
  all_goals (try simp [])
  all_goals (repeat' split) <;> (try simp_all [])

/-! Admit -/

@[simp] theorem State_objRsp_kept (s : State) (dst req : Nat) (payload : Bytes) : (State.objRsp s dst req payload).kept = s.kept := by
  unfold State.objRsp; repeat' split
  all_goals (try simp [])

@[simp] theorem State_respond_kept (s : State) (r : Reply) (status token : Nat) : (State.respond s r status token).kept = s.kept := by
  unfold State.respond; repeat' split
  all_goals (try simp [])

@[simp] theorem State_stored_kept (s : State) (vals : List (Nat × Nat)) : (State.stored s vals).kept = s.kept := by
  unfold State.stored
  refine (each_kept _ _ _ (fun a t => ?_)).trans (by simp)
  (repeat' split) <;> simp

@[simp] theorem State_runSet_kept (s : State) (st old v : Nat) : (State.runSet s st old v).kept = s.kept := by
  unfold State.runSet; repeat' split
  all_goals (try simp [])

@[simp] theorem State_zoneLoad_kept (s : State) (c : Nat) : (State.zoneLoad s c).kept = s.kept := by
  unfold State.zoneLoad; repeat' split
  all_goals (try simp [])

@[simp] theorem State_headSet_kept (s : State) (k old v : Nat) : (State.headSet s k old v).kept = s.kept := by
  unfold State.headSet; repeat' split
  all_goals (try simp [])

@[simp] theorem State_periodSet_kept (s : State) (v : Nat) : (State.periodSet s v).kept = s.kept := by
  unfold State.periodSet; repeat' split
  all_goals (try simp [])

@[simp] theorem State_ageWrite_kept (s : State) (c old : Nat) : (State.ageWrite s c old).kept = s.kept := by
  unfold State.ageWrite; repeat' split
  all_goals (try simp [])

@[simp] theorem State_effectHooks_kept (s : State) (old v : Nat) (key : Nat) : OptKept (hookFor (State.effectHooks s old v) key) s.kept := by
  refine hook_kept _ _ _ ?_
  simp only [State.effectHooks, List.forall_mem_cons]
  have h := State_spiSelect_kept s old v
  revert h; cases s.spiSelect old v <;> intro h <;> simp_all <;> intros <;> split <;> simp

@[simp] theorem State_applied_kept (s : State) (key old v : Nat) : (State.applied s key old v).kept = s.kept := by
  unfold State.applied; repeat' split
  all_goals (try simp [])
  all_goals (repeat' split) <;> (try simp_all [])

@[simp] theorem State_finish_kept (s old : State) (src kind : Nat) (vals : List (Nat × Nat)) (r : Reply) : (State.finish s old src kind vals r).kept = s.kept := by
  unfold State.finish; repeat' split
  all_goals (try simp [])

@[simp] theorem State_commitVals_kept (s : State) (src kind : Nat) (vals : List (Nat × Nat)) (r : Reply) : (State.commitVals s src kind vals r).kept = s.kept := by
  unfold State.commitVals; repeat' split
  all_goals (try simp [])

@[simp] theorem State_writeObj_kept (s : State) (o : Origin) (kind key len v : Nat) (r : Reply) : (State.writeObj s o kind key len v r).kept = s.kept := by
  unfold State.writeObj; repeat' split
  all_goals (try simp [])

@[simp] theorem State_writeCmd_kept (s : State) (o : Origin) (key v : Nat) : (State.writeCmd s o key v).kept = s.kept := by
  unfold State.writeCmd; repeat' split
  all_goals (try simp [])

/-! WebCmd -/

theorem execEncEdge_kept (dt : Nat) (e : Fin 4) (a b : Bool) (s : State) : OutKept (execEncEdge dt e a b s) s.kept := by
  unfold execEncEdge; repeat' split
  all_goals (try simp [])
  all_goals (repeat' split) <;> (try simp_all [])

theorem execEncLatch_kept (dt : Nat) (s : State) : OutKept (execEncLatch dt s) s.kept := by
  unfold execEncLatch; repeat' split
  all_goals (try simp [])
  all_goals (repeat' split) <;> (try simp_all [])

theorem execEncCoarseCopy_kept (dt : Nat) (s : State) : OutKept (execEncCoarseCopy dt s) s.kept := by
  unfold execEncCoarseCopy; repeat' split
  all_goals (try simp [])
  all_goals (repeat' split) <;> (try simp_all [])

theorem execSpeed_kept (dt : Nat) (s : State) : OutKept (execSpeed dt s) s.kept := by
  unfold execSpeed; repeat' split
  all_goals (try simp [])
  all_goals (repeat' split) <;> (try simp_all [])

@[simp] theorem State_frameIn_kept (s : State) (f : RingFrame) (ty : Nat) (eff : Effect) (h_eff : ∀ t, (eff t).1.kept = t.kept) : (State.frameIn s f ty eff).kept = s.kept := by
  unfold State.frameIn; split
  · exact State_ringIn_kept _ _ _ h_eff
  · rfl

@[simp] theorem State_frameIn_good (s : State) (f : RingFrame) (ty : Nat) (eff : Effect) (q) (h_eff : ∀ t, Good q t.kept → Good q (eff t).1.kept)
    (h : Good q s.kept) : Good q (s.frameIn f ty eff).kept := by
  unfold State.frameIn; split
  · exact State_ringIn_good _ _ _ q h_eff h
  · exact h

theorem execCoverage_kept (dt : Nat) (f : RingFrame) (s : State) : OutKept (execCoverage dt f s) s.kept := by
  unfold execCoverage; rw [outKept_next]
  rw [State_frameIn_kept, State_advance_kept]
  intro t; rw [keepPayload_fst]; split <;> simp

theorem execHeadAbsent_kept (dt : Nat) (st slot : Fin 8) (s : State) : OutKept (execHeadAbsent dt st slot s) s.kept := by
  unfold execHeadAbsent; repeat' split
  all_goals (try simp [])
  all_goals (repeat' split) <;> (try simp_all [])

theorem execStationRun_kept (dt : Nat) (st : Fin 8) (o : Origin) (v : Nat) (s : State) : OutKept (execStationRun dt st o v s) s.kept := by
  unfold execStationRun; repeat' split
  all_goals (try simp [])
  all_goals (repeat' split) <;> (try simp_all [])

theorem execSlotHead_kept (dt : Nat) (st slot : Fin 8) (o : Origin) (v : Nat) (s : State) : OutKept (execSlotHead dt st slot o v s) s.kept := by
  unfold execSlotHead; repeat' split
  all_goals (try simp [])
  all_goals (repeat' split) <;> (try simp_all [])

@[simp] theorem State_mapPut_kept (s : State) (k : Nat) (d : Bytes) : (State.mapPut s k d).2.kept = s.kept := by
  unfold State.mapPut; repeat' split
  all_goals (try simp [])
  all_goals (repeat' split) <;> (try simp_all [])

theorem execSlotMap_kept (dt : Nat) (st slot : Fin 8) (o : Origin) (offset : Nat) (data : Bytes) (s : State) : OutKept (execSlotMap dt st slot o offset data s) s.kept := by
  unfold execSlotMap; repeat' split
  all_goals (try simp [])
  all_goals (repeat' split) <;> (try simp_all [])

theorem execCovEnable_kept (dt : Nat) (o : Origin) (v : Nat) (s : State) : OutKept (execCovEnable dt o v s) s.kept := by
  unfold execCovEnable; repeat' split
  all_goals (try simp [])
  all_goals (repeat' split) <;> (try simp_all [])

theorem execZoneRun_kept (dt : Nat) (z : Fin 192) (o : Origin) (v : Nat) (s : State) : OutKept (execZoneRun dt z o v s) s.kept := by
  unfold execZoneRun; repeat' split
  all_goals (try simp [])
  all_goals (repeat' split) <;> (try simp_all [])

theorem execIntentWrite_kept (dt : Nat) (o : Origin) (station : Bool) (i : Fin 32) (sub v : Nat) (s : State) : OutKept (execIntentWrite dt o station i sub v s) s.kept := by
  unfold execIntentWrite; repeat' split
  all_goals (try simp [])
  all_goals (repeat' split) <;> (try simp_all [])

theorem execStreamWrite_kept (dt : Nat) (x : Fin 64) (o : Origin) (sub v : Nat) (s : State) : OutKept (execStreamWrite dt x o sub v s) s.kept := by
  unfold execStreamWrite; repeat' split
  all_goals (try simp [])
  all_goals (repeat' split) <;> (try simp_all [])

theorem execPowerLimit_kept (dt : Nat) (o : Origin) (v : Nat) (s : State) : OutKept (execPowerLimit dt o v s) s.kept := by
  unfold execPowerLimit; repeat' split
  all_goals (try simp [])
  all_goals (repeat' split) <;> (try simp_all [])

@[simp] theorem State_restoreItem_kept (s : State) (item : Nat) : (State.restoreItem s item).kept = s.kept := by
  unfold State.restoreItem; repeat' split
  all_goals (try simp [])

@[simp] theorem State_restoreStep_kept (s : State) : (State.restoreStep s).kept = s.kept := by
  unfold State.restoreStep; repeat' split
  all_goals (try simp [])
  all_goals (repeat' split) <;> (try simp_all [])

theorem execRestore_kept (dt : Nat) (s : State) : OutKept (execRestore dt s) s.kept := by
  unfold execRestore; repeat' split
  all_goals (try simp [])
  all_goals (repeat' split) <;> (try simp_all [])

@[simp] theorem State_copyDone_kept (s : State) (h : Nat) : (State.copyDone s h).kept = s.kept := by
  unfold State.copyDone; repeat' split
  all_goals (try simp [])

theorem execSegmentCopyDone_kept (dt : Nat) (h : Fin 32) (s : State) : OutKept (execSegmentCopyDone dt h s) s.kept := by
  unfold execSegmentCopyDone; repeat' split
  all_goals (try simp [])
  all_goals (repeat' split) <;> (try simp_all [])

/-! Actions -/

@[simp] theorem State_lcStart_kept (s : State) (v : Nat) : (State.lcStart s v).kept = s.kept := by
  unfold State.lcStart; repeat' split
  all_goals (try simp [])

@[simp] theorem State_lcRun_kept (s : State) (v : Nat) : (State.lcRun s v).kept = s.kept := by
  unfold State.lcRun; repeat' split
  all_goals (try simp [])

@[simp] theorem State_debugReset_good (s : State) (pq : List Instr) (h : Good pq s.kept) : Good pq (State.debugReset s).kept := by
  unfold State.debugReset; split
  · rw [State_actDone_kept]; exact h
  · exact State_wipe_good s 7 pq h

@[simp] theorem State_ringBringUp_kept (s : State) : (State.ringBringUp s).kept = s.kept := by
  unfold State.ringBringUp; repeat' split
  all_goals (try simp [])

@[simp] theorem State_ringJoinRun_kept (s : State) : (State.ringJoinRun s).kept = s.kept := by
  unfold State.ringJoinRun; repeat' split
  all_goals (try simp [])

@[simp] theorem State_handoverRun_kept (s : State) : (State.handoverRun s).kept = s.kept := by
  unfold State.handoverRun; repeat' split
  all_goals (try simp [])

@[simp] theorem State_stepPipesRun_kept (s : State) (v : Nat) : (State.stepPipesRun s v).kept = s.kept := by
  unfold State.stepPipesRun; repeat' split
  all_goals (try simp [])

@[simp] theorem State_stepStationsRun_kept (s : State) (v : Nat) : (State.stepStationsRun s v).kept = s.kept := by
  unfold State.stepStationsRun; repeat' split
  all_goals (try simp [])

@[simp] theorem State_stepTickRun_kept (s : State) : (State.stepTickRun s).kept = s.kept := by
  unfold State.stepTickRun; repeat' split
  all_goals (try simp [])

@[simp] theorem State_relockRun_kept (s : State) : (State.relockRun s).kept = s.kept := by
  unfold State.relockRun; repeat' split
  all_goals (try simp [])

@[simp] theorem State_actHooks_good (s : State) (v : Nat) (pq : List Instr) (key : Nat) (h : Good pq s.kept) : OptGood pq (hookFor (State.actHooks s v) key) := by
  refine hook_good _ _ _ ?_
  simp only [State.actHooks, List.forall_mem_cons, List.not_mem_nil]
  simp +contextual [h]

@[simp] theorem State_actRun_good (s : State) (src key v : Nat) (pq : List Instr) (h : Good pq s.kept) : Good pq (State.actRun s src key v).kept := by
  unfold State.actRun; repeat' split
  all_goals (try simp +contextual [h])
  all_goals (repeat' split) <;> (try simp_all)

@[simp] theorem State_actObj_good (s : State) (o : Origin) (key len v : Nat) (r : Reply) (pq : List Instr) (h : Good pq s.kept) : Good pq (State.actObj s o key len v r).kept := by
  unfold State.actObj; repeat' split
  all_goals (try simp +contextual [h])
  all_goals (repeat' split) <;> (try simp_all)

@[simp] theorem State_putObj_good (s : State) (o : Origin) (key len v : Nat) (r : Reply) (pq : List Instr) (h : Good pq s.kept) : Good pq (State.putObj s o key len v r).kept := by
  unfold State.putObj; repeat' split
  all_goals (try simp +contextual [h])
  all_goals (repeat' split) <;> (try simp_all)

/-! Objects -/

@[simp] theorem State_blockPut_kept (s : State) (key off : Nat) (d : Bytes) : (State.blockPut s key off d).2.kept = s.kept := by
  unfold State.blockPut; repeat' split
  all_goals (try simp [])
  all_goals (repeat' split) <;> (try simp_all [])

@[simp] theorem State_putBlock_kept (s : State) (o : Origin) (key off : Nat) (d : Bytes) (r : Reply) : (State.putBlock s o key off d r).kept = s.kept := by
  have h := State_blockPut_kept s key off d
  unfold State.putBlock; simp only []; (repeat' split) <;> simp [h]

@[simp] theorem State_putRange_kept (s : State) (o : Origin) (idx sub n : Nat) (d : Bytes) (r : Nat → Reply) : (State.putRange s o idx sub n d r).kept = s.kept := by
  unfold State.putRange; repeat' split
  all_goals (try simp [])

@[simp] theorem State_loadEntry_kept (s : State) (key : Nat) (d : Bytes) : OptKept (State.loadEntry s key d) s.kept := by
  have h := State_blockPut_kept s key 0 d
  unfold State.loadEntry; (repeat' split) <;> simp
  · have e := ‹s.blockPut key 0 d = (_, _)›
    rw [e] at h; exact h
  · split <;> simp

@[simp] theorem State_loadEntries_kept (s : State) (b : Bytes) (fuel : Nat) : (State.loadEntries s b fuel).kept = s.kept := by
  induction fuel generalizing s b with
  | zero => rfl
  | succ fuel ih =>
    unfold State.loadEntries; split
    · rfl
    · have h := State_loadEntry_kept s (256 * fld 0 2 b + fld 2 1 b) (slice 8 (fld 4 2 b) b)
      simp only [ih]
      revert h; cases s.loadEntry (256 * fld 0 2 b + fld 2 1 b) (slice 8 (fld 4 2 b) b) <;> simp

@[simp] theorem State_loadConfig_kept (s : State) : (State.loadConfig s).kept = s.kept := by
  unfold State.loadConfig; repeat' split
  all_goals (try simp [])
  all_goals (repeat' split) <;> (try simp_all [])

/-! Transfers -/

@[simp] theorem State_objReq_good (s : State) (f : RingFrame) (pq : List Instr) (h : Good pq s.kept) : Good pq (State.objReq s f).kept := by
  unfold State.objReq; repeat' split
  all_goals (try simp +contextual [h])
  all_goals (repeat' split) <;> (try simp_all)

theorem execObjReqRead_good (dt : Nat) (f : RingFrame) (s : State) (pq : List Instr) (h : Good pq s.kept) : OutGood pq (execObjReqRead dt f s) := by
  unfold execObjReqRead; rw [outGood_next]; split
  · exact State_frameIn_good _ _ _ _ pq (fun t ht => by rw [keepPayload_fst]; exact State_objReq_good _ _ _ ht) (by simp [h])
  · simp [h]

theorem execObjReqWrite_good (dt : Nat) (f : RingFrame) (s : State) (pq : List Instr) (h : Good pq s.kept) : OutGood pq (execObjReqWrite dt f s) := by
  unfold execObjReqWrite; rw [outGood_next]; split
  · exact State_frameIn_good _ _ _ _ pq (fun t ht => by rw [keepPayload_fst]; exact State_objReq_good _ _ _ ht) (by simp [h])
  · simp [h]

@[simp] theorem State_sendSegs_kept (s : State) (dst xfer seg pos : Nat) (d : Bytes) (fuel : Nat) : (State.sendSegs s dst xfer seg pos d fuel).kept = s.kept := by
  induction fuel generalizing s dst xfer seg pos d with
  | zero => rfl
  | succ fuel ih =>
    unfold State.sendSegs; repeat' split
    all_goals (try simp [ih])
    all_goals (repeat' split) <;> (try simp_all [ih])

@[simp] theorem State_sendRead_kept (s : State) (dst xfer key st : Nat) (d : Bytes) : (State.sendRead s dst xfer key st d).kept = s.kept := by
  unfold State.sendRead; repeat' split
  all_goals (try simp [])
  all_goals (repeat' split) <;> (try simp_all [])

@[simp] theorem State_closeXfer_kept (s : State) (src xfer : Nat) : (State.closeXfer s src xfer).kept = s.kept := by
  unfold State.closeXfer; repeat' split
  all_goals (try simp [])

@[simp] theorem State_applyXfer_kept (s : State) (x : Xfer) : (State.applyXfer s x).kept = s.kept := by
  unfold State.applyXfer; repeat' split
  all_goals (try simp [])

@[simp] theorem State_blockReq_kept (s : State) (f : RingFrame) : (State.blockReq s f).kept = s.kept := by
  unfold State.blockReq; repeat' split
  all_goals (try simp [])

@[simp] theorem State_blockFrame_kept (s : State) (f : RingFrame) (op : Nat) : (State.blockFrame s f op).kept = s.kept := by
  unfold State.blockFrame; repeat' split
  all_goals (try simp [])

theorem execBlockRead_kept (dt : Nat) (f : RingFrame) (s : State) : OutKept (execBlockRead dt f s) s.kept := by
  unfold execBlockRead; repeat' split
  all_goals (try simp [])
  all_goals (repeat' split) <;> (try simp_all [])

theorem execBlockWrite_kept (dt : Nat) (f : RingFrame) (s : State) : OutKept (execBlockWrite dt f s) s.kept := by
  unfold execBlockWrite; repeat' split
  all_goals (try simp [])
  all_goals (repeat' split) <;> (try simp_all [])

theorem execRangeRead_kept (dt : Nat) (f : RingFrame) (s : State) : OutKept (execRangeRead dt f s) s.kept := by
  unfold execRangeRead; repeat' split
  all_goals (try simp [])
  all_goals (repeat' split) <;> (try simp_all [])

theorem execRangeWrite_kept (dt : Nat) (f : RingFrame) (s : State) : OutKept (execRangeWrite dt f s) s.kept := by
  unfold execRangeWrite; repeat' split
  all_goals (try simp [])
  all_goals (repeat' split) <;> (try simp_all [])

@[simp] theorem State_segIn_kept (s : State) (f : RingFrame) : (State.segIn s f).kept = s.kept := by
  unfold State.segIn; repeat' split
  all_goals (try simp [])
  all_goals (repeat' split) <;> (try simp_all [])

theorem execBlockData_kept (dt : Nat) (f : RingFrame) (s : State) : OutKept (execBlockData dt f s) s.kept := by
  unfold execBlockData; repeat' split
  all_goals (try simp [])
  all_goals (repeat' split) <;> (try simp_all [])

@[simp] theorem State_xferTimeout_kept (s : State) (src xfer : Nat) : (State.xferTimeout s src xfer).kept = s.kept := by
  unfold State.xferTimeout; repeat' split
  all_goals (try simp [])

theorem execXferTimeout_kept (dt src xfer : Nat) (s : State) : OutKept (execXferTimeout dt src xfer s) s.kept := by
  unfold execXferTimeout; repeat' split
  all_goals (try simp [])
  all_goals (repeat' split) <;> (try simp_all [])

@[simp] theorem State_cycDone_kept (s : State) (src : Nat) (acc : List (Nat × Nat)) : (State.cycDone s src acc).kept = s.kept := by
  unfold State.cycDone; repeat' split
  all_goals (try simp [])

@[simp] theorem State_cycRun_kept (s : State) (turn : Bool) (o : Origin) (acc : List (Nat × Nat)) (l : List (Nat × Nat × Nat)) :
    (State.cycRun s turn o acc l).kept = s.kept := by
  induction l generalizing s acc with
  | nil => exact State_cycDone_kept s o.src acc
  | cons e rest ih =>
    unfold State.cycRun; dsimp only
    (repeat' split) <;> first | rfl | (simp only [ih, State_bump_kept, State_w_kept, State_askPartner_kept])

@[simp] theorem State_cyclicIn_kept (s : State) (f : RingFrame) : (State.cyclicIn s f).1.kept = s.kept := by
  unfold State.cyclicIn; repeat' split
  all_goals (try simp [])
  all_goals (repeat' split) <;> (try simp_all [])

theorem execCyclic_kept (dt : Nat) (f : RingFrame) (s : State) : OutKept (execCyclic dt f s) s.kept := by
  unfold execCyclic; repeat' split
  all_goals (try simp [])
  all_goals (repeat' split) <;> (try simp_all [])

theorem execMapEnable_kept (dt : Nat) (m : Fin 8) (o : Origin) (v : Nat) (s : State) : OutKept (execMapEnable dt m o v s) s.kept := by
  unfold execMapEnable; repeat' split
  all_goals (try simp [])
  all_goals (repeat' split) <;> (try simp_all [])

/-! Claim -/

@[simp] theorem State_startClaim_kept (s : State) (e : Nat) (grant : Bool) : (State.startClaim s e grant).kept = s.kept := by
  unfold State.startClaim; repeat' split
  all_goals (try simp [])

@[simp] theorem State_tryClaim_kept (s : State) : (State.tryClaim s).kept = s.kept := by
  unfold State.tryClaim; repeat' split
  all_goals (try simp [])

@[simp] theorem State_yieldClaim_kept (s : State) (e : Nat) : (State.yieldClaim s e).kept = s.kept := by
  unfold State.yieldClaim; repeat' split
  all_goals (try simp [])

@[simp] theorem State_rightTo_kept (s : State) (e : Nat) : (State.rightTo s e).kept = s.kept := by
  unfold State.rightTo; repeat' split
  all_goals (try simp [])

@[simp] theorem State_collide_kept (s : State) : (State.collide s).kept = s.kept := by
  unfold State.collide; repeat' split
  all_goals (try simp [])

@[simp] theorem State_claimCheck_kept (s : State) : (State.claimCheck s).kept = s.kept := by
  unfold State.claimCheck; repeat' split
  all_goals (try simp [])

@[simp] theorem State_leaseRenew_kept (s : State) : (State.leaseRenew s).kept = s.kept := by
  unfold State.leaseRenew; repeat' split
  all_goals (try simp [])

@[simp] theorem State_grantRenew_kept (s : State) : (State.grantRenew s).kept = s.kept := by
  unfold State.grantRenew; repeat' split
  all_goals (try simp [])

@[simp] theorem State_leaseOver_kept (s : State) : (State.leaseOver s).kept = s.kept := by
  unfold State.leaseOver; repeat' split
  all_goals (try simp [])

@[simp] theorem State_peerPub_kept (s : State) : (State.peerPub s).kept = s.kept := by
  unfold State.peerPub; repeat' split
  all_goals (try simp [])

/-! Recover -/

@[simp] theorem State_takeSettings_kept (s : State) : (State.takeSettings s).kept = s.kept := by
  unfold State.takeSettings; repeat' split
  all_goals (try simp [])

@[simp] theorem State_takeLane_kept (s : State) (h : Nat) : (State.takeLane s h).kept = s.kept := by
  unfold State.takeLane; repeat' split
  all_goals (try simp [])

@[simp] theorem State_takePatches_kept (s : State) (h : Nat) : (State.takePatches s h).kept = s.kept := by
  unfold State.takePatches; repeat' split
  all_goals (try simp [])

@[simp] theorem State_takeStop_kept (s : State) : (State.takeStop s).kept = s.kept := by
  unfold State.takeStop; repeat' split
  all_goals (try simp [])

@[simp] theorem State_takeTally_kept (s : State) : (State.takeTally s).kept = s.kept := by
  unfold State.takeTally; repeat' split
  all_goals (try simp [])

theorem copyOver_twf (n : Nvm) (id : Nat) (b : Bool) (h : twf nvmErased n.cells = true) : twf nvmErased (n.copyOver id b).cells = true := by
  unfold Nvm.copyOver; exact tsetRun_twf _ _ _ _ h

theorem intent_twf (r : Recovery) (h : twf nvmErased r.nvm.cells = true) : twf nvmErased r.intent.nvm.cells = true := by
  unfold Recovery.intent; split
  · exact h
  · simp only []; split
    · exact h
    · have hk (b : Bool) : twf nvmErased (Nvm.copyOver { r.nvm with intentSeq := fld 0 4 (by assumption) } (fld 4 1 (by assumption)) b).cells = true :=
        copyOver_twf _ _ _ h
      simp only []
      refine nvmOp_twf (.cell _ _) _ ?_
      (repeat' split) <;> first | exact hk _ | exact h

theorem record_twf (r : Recovery) (id : Nat) (h : twf nvmErased r.nvm.cells = true) : twf nvmErased (r.record id).nvm.cells = true := by
  unfold Recovery.record; simp only []; (repeat' split) <;> first | exact copyOver_twf _ _ _ h | exact h

theorem shadow_twf (n : Nvm) (c : Nat) (x : Spread) (h : twf nvmErased n.cells = true) : twf nvmErased (n.shadow c x).cells = true := by
  unfold Nvm.shadow; dsimp only
  refine nvmOps_twf _ _ ?_
  rw [begin_cells]; exact h

theorem cleared_twf (n : Nvm) (c : Nat) (h : twf nvmErased n.cells = true) : twf nvmErased (n.cleared c).cells = true := by
  have h2 (b : Bytes) := nvmOp_twf (.page (80 + c) b) n.cells h
  unfold Nvm.cleared; dsimp only
  refine shadow_twf _ _ _ ?_
  dsimp only
  exact h2 _

theorem complete_twf (n : Nvm) (c : Nat) (h : twf nvmErased n.cells = true) : twf nvmErased (n.complete c).cells = true := by
  unfold Nvm.complete; dsimp only; (repeat' split)
  · exact cleared_twf _ _ h
  · exact cleared_twf _ _ (shadow_twf _ _ _ h)
  · exact h

/-- NVM recovery keeps the canonical form of the cells. -/
theorem recover_twf (n : Nvm) (h : twf nvmErased n.cells = true) : twf nvmErased n.recover.nvm.cells = true := by
  have h1 (l : List Nat) (r : Recovery) (hr : twf nvmErased r.nvm.cells = true) :
      twf nvmErased (l.foldl (fun r id => r.record id) r).nvm.cells = true := by
    induction l generalizing r with
    | nil => exact hr
    | cons a l ih => exact ih _ (record_twf r a hr)
  have h2 (l : List Nat) (m : Nvm) (hr : twf nvmErased m.cells = true) : twf nvmErased (l.foldl Nvm.complete m).cells = true := by
    induction l generalizing m with
    | nil => exact hr
    | cons a l ih => exact ih _ (complete_twf m a hr)
  unfold Nvm.recover Nvm.counters; dsimp only
  have h3 := h1 recIds ({ nvm := n } : Recovery).intent (intent_twf _ h)
  generalize recIds.foldl (fun r id => r.record id) ({ nvm := n } : Recovery).intent = r at h3 ⊢
  generalize List.range 48 = l
  exact h2 l _ h3

@[simp] theorem State_takePair_kept (s : State) : (State.takePair s).kept = s.kept := by
  unfold State.takePair; repeat' split
  all_goals (try simp [])

@[simp] theorem State_recover_good (s : State) (pq : List Instr) (h : Good pq s.kept) : Good pq (State.recover s).kept := by
  have hw := recover_twf s.nvm h.2.1
  unfold State.recover
  generalize s.nvm.recover = r at hw ⊢
  have hr : Good pq (State.kept { s with nvm := r.nvm, boot := { s.boot with owed := r.events } }) :=
    ⟨h.1, hw, h.2.2⟩
  dsimp only
  rw [State_takeTally_kept, kept_window, State_wAll_kept]
  simp [-kept_upd]
  exact hr

end Sys2Proof.Machine
end

