-- ==== Sys2Proof/Laws/KeptRest.lean ====
section
/-! SUPPORT. The queue and the byte stores under start, ring, pair and debug commands: one lemma per
operation (`_kept`: left as they are; `_good`: the queue left, the canonical form kept). -/

set_option linter.all false

namespace Sys2Proof.Machine

/-! Start -/

@[simp] theorem State_supplyLow_good (s : State) (vaoLow : Bool) (dur : Nat) (pq : List Instr) (h : Good pq s.kept) : Good pq (State.supplyLow s vaoLow dur).kept := by
  have hw := State_wipe_good s 1 pq h
  unfold State.supplyLow; (repeat' split)
  · exact h
  · exact ⟨hw.1, hw.2.1, hw.2.2.1, hw.2.2.2.1, hw.2.2.2.2.1, rfl⟩
  · exact hw

theorem execPowerOn_good (dt : Nat) (vaoLow : Bool) (dur : Nat) (s : State) (pq : List Instr) (h : Good pq s.kept) : OutGood pq (execPowerOn dt vaoLow dur s) := by
  unfold execPowerOn; repeat' split
  all_goals (try simp +contextual [h])
  all_goals (repeat' split) <;> (try simp_all)

@[simp] theorem State_wipeKept_good (s : State) (cause : Nat) (pq : List Instr) (h : Good pq s.kept) : Good pq (State.wipeKept s cause).kept := by
  unfold State.wipeKept; repeat' split
  all_goals (try simp +contextual [h])
  all_goals (repeat' split) <;> (try simp_all)

@[simp] theorem State_rstLow_good (s : State) (width : Nat) (pq : List Instr) (h : Good pq s.kept) : Good pq (State.rstLow s width).kept := by
  unfold State.rstLow; repeat' split
  all_goals (try simp +contextual [h])
  all_goals (repeat' split) <;> (try simp_all)

theorem execRstN_good (dt : Nat) (width : Nat) (s : State) (pq : List Instr) (h : Good pq s.kept) : OutGood pq (execRstN dt width s) := by
  unfold execRstN; repeat' split
  all_goals (try simp +contextual [h])
  all_goals (repeat' split) <;> (try simp_all)

@[simp] theorem State_watchdogOver_good (s : State) (pq : List Instr) (h : Good pq s.kept) : Good pq (State.watchdogOver s).kept := by
  unfold State.watchdogOver; repeat' split
  all_goals (try simp +contextual [h])
  all_goals (repeat' split) <;> (try simp_all)

theorem execWatchdog_good (dt : Nat) (s : State) (pq : List Instr) (h : Good pq s.kept) : OutGood pq (execWatchdog dt s) := by
  unfold execWatchdog; repeat' split
  all_goals (try simp +contextual [h])
  all_goals (repeat' split) <;> (try simp_all)

@[simp] theorem State_serviced_kept (s : State) : (State.serviced s).kept = s.kept := by
  unfold State.serviced; repeat' split
  all_goals (try simp [])

theorem execWatchdogService_kept (dt : Nat) (s : State) : OutKept (execWatchdogService dt s) s.kept := by
  unfold execWatchdogService; repeat' split
  all_goals (try simp [])
  all_goals (repeat' split) <;> (try simp_all [])

theorem execDebugReset_good (dt : Nat) (o : Origin) (v : Nat) (s : State) (pq : List Instr) (h : Good pq s.kept) : OutGood pq (execDebugReset dt o v s) := by
  unfold execDebugReset; repeat' split
  all_goals (try simp +contextual [h])
  all_goals (repeat' split) <;> (try simp_all)

@[simp] theorem State_cutOff_good (s : State) (pq : List Instr) (h : Good pq s.kept) : Good pq (State.cutOff s).kept := by
  unfold State.cutOff; repeat' split
  all_goals (try simp +contextual [h])
  all_goals (repeat' split) <;> (try simp_all)

theorem execCutoff_good (dt : Nat) (x0 : Fin 16) (s : State) (pq : List Instr) (h : Good pq s.kept) : OutGood pq (execCutoff dt 0 s) := by
  unfold execCutoff; repeat' split
  all_goals (try simp +contextual [h])
  all_goals (repeat' split) <;> (try simp_all)

@[simp] theorem State_cooled_good (s : State) (ts : List Int) (pq : List Instr) (h : Good pq s.kept) : Good pq (State.cooled s ts).kept := by
  unfold State.cooled; repeat' split
  all_goals (try simp +contextual [h])
  all_goals (repeat' split) <;> (try simp_all)

theorem execThermalRecovery_good (dt : Nat) (ts : List Int) (s : State) (pq : List Instr) (h : Good pq s.kept) : OutGood pq (execThermalRecovery dt ts s) := by
  unfold execThermalRecovery; repeat' split
  all_goals (try simp +contextual [h])
  all_goals (repeat' split) <;> (try simp_all)

@[simp] theorem State_stepOne_good (s : State) (rails : List Nat) (pq : List Instr) (h : Good pq s.kept) : Good pq (State.stepOne s rails).kept := by
  unfold State.stepOne; dsimp only
  have h1 : Good pq (State.w { s with boot := { s.boot with recoverAt := s.up } } Reg.rstSTART_STEP 1).kept := by
    rw [State_w_kept]; exact h
  generalize State.w { s with boot := { s.boot with recoverAt := s.up } } Reg.rstSTART_STEP 1 = t at h1 ⊢
  (repeat' split)
  · exact h
  · exact State_userWipe_good t pq h1
  · exact h1

@[simp] theorem State_release_good (s : State) (pairId : Nat) (rails : List Nat) (pq : List Instr) (h : Good pq s.kept) : Good pq (State.release s pairId rails).kept := by
  unfold State.release; repeat' split
  all_goals (try simp +contextual [h])
  all_goals (repeat' split) <;> (try simp_all)

theorem execResetRelease_good (dt : Nat) (pairId : Fin 2) (rails : List Nat) (s : State) (pq : List Instr) (h : Good pq s.kept) : OutGood pq (execResetRelease dt pairId rails s) := by
  unfold execResetRelease; repeat' split
  all_goals (try simp +contextual [h])
  all_goals (repeat' split) <;> (try simp_all)

@[simp] theorem State_recheck_good (s : State) (rails : List Nat) (pq : List Instr) (h : Good pq s.kept) : Good pq (State.recheck s rails).kept := by
  unfold State.recheck; repeat' split
  all_goals (try simp +contextual [h])
  all_goals (repeat' split) <;> (try simp_all)

theorem execSupplyRecheck_good (dt : Nat) (rails : List Nat) (s : State) (pq : List Instr) (h : Good pq s.kept) : OutGood pq (execSupplyRecheck dt rails s) := by
  unfold execSupplyRecheck; repeat' split
  all_goals (try simp +contextual [h])
  all_goals (repeat' split) <;> (try simp_all)

@[simp] theorem State_bootRead_good (s : State) (rdid : Nat) (headerOk : Bool) (pq : List Instr) (h : Good pq s.kept) : Good pq (State.bootRead s rdid headerOk).kept := by
  unfold State.bootRead; repeat' split
  all_goals (try simp +contextual [h])
  all_goals (repeat' split) <;> (try simp_all)

theorem execNvmRecoveryDone_good (dt : Nat) (rdid : Nat) (headerOk : Bool) (s : State) (pq : List Instr) (h : Good pq s.kept) : OutGood pq (execNvmRecoveryDone dt rdid headerOk s) := by
  unfold execNvmRecoveryDone; repeat' split
  all_goals (try simp +contextual [h])
  all_goals (repeat' split) <;> (try simp_all)

@[simp] theorem State_firmware_kept (s : State) (residentOk : Bool) : (State.firmware s residentOk).kept = s.kept := by
  unfold State.firmware; repeat' split
  all_goals (try simp [])

theorem execFirmwareStart_kept (dt : Nat) (residentOk : Bool) (s : State) : OutKept (execFirmwareStart dt residentOk s) s.kept := by
  unfold execFirmwareStart; repeat' split
  all_goals (try simp [])
  all_goals (repeat' split) <;> (try simp_all [])

@[simp] theorem State_trainingDone_kept (s : State) (r : List TrainIn) (good : List Nat) (bad : List (Nat × Nat)) : (State.trainingDone s r good bad).kept = s.kept := by
  unfold State.trainingDone; repeat' split
  all_goals (try simp [])

@[simp] theorem State_trained_kept (s : State) (r : List TrainIn) : (State.trained s r).kept = s.kept := by
  unfold State.trained; repeat' split
  all_goals (try simp [])

theorem execDramTrainingDone_kept (dt : Nat) (r : List TrainIn) (s : State) : OutKept (execDramTrainingDone dt r s) s.kept := by
  unfold execDramTrainingDone; repeat' split
  all_goals (try simp [])
  all_goals (repeat' split) <;> (try simp_all [])

@[simp] theorem State_startEntry_kept (s : State) : (State.startEntry s).kept = s.kept := by
  unfold State.startEntry; repeat' split
  all_goals (try simp [])

@[simp] theorem State_shedPower_kept (s : State) (fuel : Nat) : (State.shedPower s fuel).kept = s.kept := by
  induction fuel generalizing s with
  | zero => rfl
  | succ fuel ih =>
    unfold State.shedPower; split
    · rfl
    · have h := State_shedOne_kept s
      revert h; cases s.shedOne <;> simp [ih]

@[simp] theorem State_placeLoaded_kept (s : State) : (State.placeLoaded s).kept = s.kept := by
  unfold State.placeLoaded; repeat' split
  all_goals (try simp [])
  all_goals (repeat' split) <;> (try simp_all [])

@[simp] theorem State_wiped_kept (s : State) : (State.wiped s).kept = s.kept := by
  unfold State.wiped; repeat' split
  all_goals (try simp [])

theorem execDramWipeDone_kept (dt : Nat) (s : State) : OutKept (execDramWipeDone dt s) s.kept := by
  unfold execDramWipeDone; repeat' split
  all_goals (try simp [])
  all_goals (repeat' split) <;> (try simp_all [])

@[simp] theorem State_timeWait_kept (s : State) : (State.timeWait s).kept = s.kept := by
  unfold State.timeWait; repeat' split
  all_goals (try simp [])

theorem execStartTimeWait_kept (dt : Nat) (s : State) : OutKept (execStartTimeWait dt s) s.kept := by
  unfold execStartTimeWait; repeat' split
  all_goals (try simp [])
  all_goals (repeat' split) <;> (try simp_all [])

@[simp] theorem State_waitOver_kept (s : State) : (State.waitOver s).kept = s.kept := by
  unfold State.waitOver; repeat' split
  all_goals (try simp [])

theorem execStartWaitExpired_kept (dt : Nat) (s : State) : OutKept (execStartWaitExpired dt s) s.kept := by
  unfold execStartWaitExpired; repeat' split
  all_goals (try simp [])
  all_goals (repeat' split) <;> (try simp_all [])

theorem execLcReq_kept (dt : Nat) (o : Origin) (v : Nat) (s : State) : OutKept (execLcReq dt o v s) s.kept := by
  unfold execLcReq; repeat' split
  all_goals (try simp [])
  all_goals (repeat' split) <;> (try simp_all [])

theorem execOwnerKey_kept (dt : Nat) (o : Origin) (offset : Nat) (key : Bytes) (s : State) : OutKept (execOwnerKey dt o offset key s) s.kept := by
  unfold execOwnerKey; repeat' split
  all_goals (try simp [])
  all_goals (repeat' split) <;> (try simp_all [])

/-! RingCmd -/

@[simp] theorem State_planUnwrap_kept (s : State) (p : Nat) : (State.planUnwrap s p).kept = s.kept := by
  unfold State.planUnwrap; repeat' split
  all_goals (try simp [])

@[simp] theorem State_statusIn_kept (s : State) (f : RingFrame) : (State.statusIn s f).kept = s.kept := by
  unfold State.statusIn; repeat' split
  all_goals (try simp [])

theorem execRingStatus_kept (dt : Nat) (f : RingFrame) (s : State) : OutKept (execRingStatus dt f s) s.kept := by
  unfold execRingStatus; repeat' split
  all_goals (try simp [])
  all_goals (repeat' split) <;> (try simp_all [])

@[simp] theorem State_statusOut_kept (s : State) : (State.statusOut s).kept = s.kept := by
  unfold State.statusOut; repeat' split
  all_goals (try simp [])

theorem execRingStatusTx_kept (dt : Nat) (s : State) : OutKept (execRingStatusTx dt s) s.kept := by
  unfold execRingStatusTx; repeat' split
  all_goals (try simp [])
  all_goals (repeat' split) <;> (try simp_all [])

theorem execRingStatusTimeout_kept (dt : Nat) (p : Fin 2) (s : State) : OutKept (execRingStatusTimeout dt p s) s.kept := by
  unfold execRingStatusTimeout; repeat' split
  all_goals (try simp [])
  all_goals (repeat' split) <;> (try simp_all [])

@[simp] theorem State_unwrap_kept (s : State) (p : Nat) : (State.unwrap s p).kept = s.kept := by
  unfold State.unwrap; repeat' split
  all_goals (try simp [])

theorem execUnwrap_kept (dt : Nat) (p : Fin 2) (s : State) : OutKept (execUnwrap dt p s) s.kept := by
  unfold execUnwrap; repeat' split
  all_goals (try simp [])
  all_goals (repeat' split) <;> (try simp_all [])

@[simp] theorem State_delayOut_kept (s : State) (t1 : List Nat) : (State.delayOut s t1).kept = s.kept := by
  unfold State.delayOut; repeat' split
  all_goals (try simp [])

theorem execDelayExchange_kept (dt : Nat) (t1 : List Nat) (s : State) : OutKept (execDelayExchange dt t1 s) s.kept := by
  unfold execDelayExchange; repeat' split
  all_goals (try simp [])
  all_goals (repeat' split) <;> (try simp_all [])

@[simp] theorem State_delayAnswer_kept (s : State) (f : RingFrame) (t2 t3 : Nat) : (State.delayAnswer s f t2 t3).kept = s.kept := by
  unfold State.delayAnswer; repeat' split
  all_goals (try simp [])

theorem execDelayReq_kept (dt : Nat) (f : RingFrame) (t2 t3 : Nat) (s : State) : OutKept (execDelayReq dt f t2 t3 s) s.kept := by
  unfold execDelayReq; repeat' split
  all_goals (try simp [])
  all_goals (repeat' split) <;> (try simp_all [])

@[simp] theorem State_delayDone_kept (s : State) (f : RingFrame) (t4 : Nat) : (State.delayDone s f t4).kept = s.kept := by
  unfold State.delayDone; repeat' split
  all_goals (try simp [])
  all_goals (repeat' split) <;> (try simp_all [])

theorem execDelayRsp_kept (dt : Nat) (f : RingFrame) (t4 : Nat) (s : State) : OutKept (execDelayRsp dt f t4 s) s.kept := by
  unfold execDelayRsp; repeat' split
  all_goals (try simp [])
  all_goals (repeat' split) <;> (try simp_all [])

@[simp] theorem State_stepTo_kept (s : State) (t : Nat) (count : Bool) : (State.stepTo s t count).kept = s.kept := by
  unfold State.stepTo; repeat' split
  all_goals (try simp [])

@[simp] theorem State_correct_kept (s : State) (off : Int) : (State.correct s off).kept = s.kept := by
  unfold State.correct; repeat' split
  all_goals (try simp [])

@[simp] theorem State_timeState_kept (s : State) (off : Int) : (State.timeState s off).kept = s.kept := by
  unfold State.timeState; repeat' split
  all_goals (try simp [])

@[simp] theorem State_syncTime_kept (s : State) (f : RingFrame) : (State.syncTime s f).kept = s.kept := by
  unfold State.syncTime; repeat' split
  all_goals (try simp [])

@[simp] theorem State_syncIn_kept (s : State) (f : RingFrame) (residence : Nat) : (State.syncIn s f residence).1.kept = s.kept := by
  unfold State.syncIn; repeat' split
  all_goals (try simp [])
  all_goals (repeat' split) <;> (try simp_all [])

theorem execTimeSync_kept (dt : Nat) (f : RingFrame) (residence : Nat) (s : State) : OutKept (execTimeSync dt f residence s) s.kept := by
  unfold execTimeSync; repeat' split
  all_goals (try simp [])
  all_goals (repeat' split) <;> (try simp_all [])

@[simp] theorem State_masterLost_kept (s : State) : (State.masterLost s).kept = s.kept := by
  unfold State.masterLost; repeat' split
  all_goals (try simp [])

theorem execMasterTimeLost_kept (dt : Nat) (s : State) : OutKept (execMasterTimeLost dt s) s.kept := by
  unfold execMasterTimeLost; repeat' split
  all_goals (try simp [])
  all_goals (repeat' split) <;> (try simp_all [])

@[simp] theorem State_estopPub_kept (s : State) (l : List Nat) : (State.estopPub s l).kept = s.kept := by
  unfold State.estopPub; repeat' split
  all_goals (try simp [])

@[simp] theorem State_estopIn_kept (s : State) (f : RingFrame) : (State.estopIn s f).kept = s.kept := by
  unfold State.estopIn; repeat' split
  all_goals (try simp [])

theorem execEstop_kept (dt : Nat) (f : RingFrame) (s : State) : OutKept (execEstop dt f s) s.kept := by
  unfold execEstop; repeat' split
  all_goals (try simp [])
  all_goals (repeat' split) <;> (try simp_all [])

@[simp] theorem State_estopOut_kept (s : State) (f : RingFrame) : (State.estopOut s f).kept = s.kept := by
  unfold State.estopOut; repeat' split
  all_goals (try simp [])

theorem execEstopClear_kept (dt : Nat) (f : RingFrame) (s : State) : OutKept (execEstopClear dt f s) s.kept := by
  unfold execEstopClear; repeat' split
  all_goals (try simp [])
  all_goals (repeat' split) <;> (try simp_all [])

@[simp] theorem State_enumIn_kept (s : State) (f : RingFrame) : (State.enumIn s f).1.kept = s.kept := by
  unfold State.enumIn; repeat' split
  all_goals (try simp [])
  all_goals (repeat' split) <;> (try simp_all [])

theorem execEnum_kept (dt : Nat) (f : RingFrame) (s : State) : OutKept (execEnum dt f s) s.kept := by
  unfold execEnum; repeat' split
  all_goals (try simp [])
  all_goals (repeat' split) <;> (try simp_all [])

@[simp] theorem State_resetIn_good (s : State) (f : RingFrame) (pq : List Instr) (h : Good pq s.kept) : Good pq (State.resetIn s f).kept := by
  unfold State.resetIn; repeat' split
  all_goals (try simp +contextual [h])
  all_goals (repeat' split) <;> (try simp_all)

theorem execRingReset_good (dt : Nat) (f : RingFrame) (s : State) (pq : List Instr) (h : Good pq s.kept) : OutGood pq (execRingReset dt f s) := by
  unfold execRingReset; rw [outGood_next]
  exact State_frameIn_good _ _ _ _ pq (fun t ht => by rw [keepPayload_fst]; exact State_resetIn_good _ _ _ ht) (by simp [h])

theorem execRingJoin_kept (dt : Nat) (o : Origin) (v : Nat) (s : State) : OutKept (execRingJoin dt o v s) s.kept := by
  unfold execRingJoin; repeat' split
  all_goals (try simp [])
  all_goals (repeat' split) <;> (try simp_all [])

@[simp] theorem State_grantIn_kept (s : State) (f : RingFrame) : (State.grantIn s f).kept = s.kept := by
  unfold State.grantIn; repeat' split
  all_goals (try simp [])

@[simp] theorem State_grantFrame_kept (s : State) (f : RingFrame) (kind : Nat) : (State.grantFrame s f kind).kept = s.kept := by
  unfold State.grantFrame; repeat' split
  all_goals (try simp [])

theorem execGrantTake_kept (dt : Nat) (f : RingFrame) (s : State) : OutKept (execGrantTake dt f s) s.kept := by
  unfold execGrantTake; repeat' split
  all_goals (try simp [])
  all_goals (repeat' split) <;> (try simp_all [])

theorem execGrantRenew_kept (dt : Nat) (f : RingFrame) (s : State) : OutKept (execGrantRenew dt f s) s.kept := by
  unfold execGrantRenew; repeat' split
  all_goals (try simp [])
  all_goals (repeat' split) <;> (try simp_all [])

theorem execGrantRevoke_kept (dt : Nat) (f : RingFrame) (s : State) : OutKept (execGrantRevoke dt f s) s.kept := by
  unfold execGrantRevoke; repeat' split
  all_goals (try simp [])
  all_goals (repeat' split) <;> (try simp_all [])

@[simp] theorem State_anyFrame_good (s : State) (f : RingFrame) (pq : List Instr) (h : Good pq s.kept) : Good pq (State.anyFrame s f).1.kept := by
  have hi (c : Prop) [Decidable c] (a b : State × Bytes) (ha : Good pq a.1.kept) (hb : Good pq b.1.kept) :
    Good pq (if c then a else b).1.kept := by split; exact ha; exact hb
  unfold State.anyFrame; dsimp only
  refine hi _ _ _ (State_objReq_good s f pq h) ?_
  refine hi _ _ _ (by simp only [State_blockReq_kept]; exact h) ?_
  refine hi _ _ _ (by simp only [State_segIn_kept]; exact h) ?_
  refine hi _ _ _ (by rw [State_cyclicIn_kept]; exact h) ?_
  refine hi _ _ _ (by rw [State_syncIn_kept, State_used_kept]; exact h) ?_
  refine hi _ _ _ (by simp only [State_delayAnswer_kept]; exact h) ?_
  refine hi _ _ _ (by simp only [State_delayDone_kept]; exact h) ?_
  refine hi _ _ _ (by simp only []; split <;> first | exact h | (rw [State_covFrame_kept]; exact h)) ?_
  refine hi _ _ _ (by simp only [State_estopIn_kept]; exact h) ?_
  refine hi _ _ _ (by simp only [State_estopOut_kept]; exact h) ?_
  refine hi _ _ _ (by simp only [State_grantIn_kept]; exact h) ?_
  refine hi _ _ _ (by simp only [State_done_kept, State_statusIn_kept]; exact h) ?_
  refine hi _ _ _ (by rw [State_enumIn_kept]; exact h) ?_
  refine hi _ _ _ (State_resetIn_good s f pq h) h

theorem execRingFrameForward_good (dt : Nat) (f : RingFrame) (s : State) (pq : List Instr) (h : Good pq s.kept) : OutGood pq (execRingFrameForward dt f s) := by
  unfold execRingFrameForward; repeat' split
  all_goals (try simp +contextual [h])
  all_goals (repeat' split) <;> (try simp_all)

@[simp] theorem State_statsDue_kept (s : State) : (State.statsDue s).kept = s.kept := by
  unfold State.statsDue; repeat' split
  all_goals (try simp [])

theorem execFrameInsert_kept (dt : Nat) (collide : Bool) (s : State) : OutKept (execFrameInsert dt collide s) s.kept := by
  unfold execFrameInsert; repeat' split
  all_goals (try simp [])
  all_goals (repeat' split) <;> (try simp_all [])

/-! PairCmd -/

@[simp] theorem State_heartbeatOut_kept (s : State) : (State.heartbeatOut s).kept = s.kept := by
  unfold State.heartbeatOut; repeat' split
  all_goals (try simp [])

theorem execPartnerHeartbeatTx_kept (dt : Nat) (s : State) : OutKept (execPartnerHeartbeatTx dt s) s.kept := by
  unfold execPartnerHeartbeatTx; repeat' split
  all_goals (try simp [])
  all_goals (repeat' split) <;> (try simp_all [])

@[simp] theorem State_lineFaultCheck_kept (s : State) : (State.lineFaultCheck s).kept = s.kept := by
  unfold State.lineFaultCheck; repeat' split
  all_goals (try simp [])

@[simp] theorem State_heartbeatIn_kept (s : State) (m : PartnerMsg) (i : HeartbeatIn) : (State.heartbeatIn s m i).kept = s.kept := by
  unfold State.heartbeatIn; repeat' split
  all_goals (try simp [])

theorem execHeartbeat_kept (dt : Nat) (m : PartnerMsg) (p : HeadPkt) (s : State) : OutKept (execHeartbeat dt m p s) s.kept := by
  unfold execHeartbeat; repeat' split
  all_goals (try simp [])
  all_goals (repeat' split) <;> (try simp_all [])

@[simp] theorem State_partnerSilent_kept (s : State) : (State.partnerSilent s).kept = s.kept := by
  unfold State.partnerSilent; repeat' split
  all_goals (try simp [])

theorem execPartnerDown_kept (dt : Nat) (s : State) : OutKept (execPartnerDown dt s) s.kept := by
  unfold execPartnerDown; repeat' split
  all_goals (try simp [])
  all_goals (repeat' split) <;> (try simp_all [])

@[simp] theorem State_objFwdIn_good (s : State) (m : PartnerMsg) (key : Nat) (d : Bytes) (pq : List Instr) (h : Good pq s.kept) : Good pq (State.objFwdIn s m key d).kept := by
  unfold State.objFwdIn; repeat' split
  all_goals (try simp +contextual [h])
  all_goals (repeat' split) <;> (try simp_all)

theorem execObjFwd_good (dt : Nat) (m : PartnerMsg) (key : Nat) (data : Bytes) (s : State) (pq : List Instr) (h : Good pq s.kept) : OutGood pq (execObjFwd dt m key data s) := by
  unfold execObjFwd; repeat' split
  all_goals (try simp +contextual [h])
  all_goals (repeat' split) <;> (try simp_all)

@[simp] theorem State_armedSetIn_kept (s : State) (i : SetIn) : (State.armedSetIn s i).kept = s.kept := by
  unfold State.armedSetIn; repeat' split
  all_goals (try simp [])

theorem execArmedSet_kept (dt : Nat) (m : PartnerMsg) (i : SetIn) (s : State) : OutKept (execArmedSet dt m i s) s.kept := by
  unfold execArmedSet; repeat' split
  all_goals (try simp [])
  all_goals (repeat' split) <;> (try simp_all [])

@[simp] theorem State_stagePart_kept (s : State) (h : Nat) (p : OffsPart) : (State.stagePart s h p).kept = s.kept := by
  unfold State.stagePart; repeat' split
  all_goals (try simp [])

@[simp] theorem State_offsetsIn_kept (s : State) (h tag : Nat) (part : OffsPart) : (State.offsetsIn s h tag part).kept = s.kept := by
  unfold State.offsetsIn; repeat' split
  all_goals (try simp [])

theorem execOffsets_kept (dt : Nat) (m : PartnerMsg) (h : Fin 32) (tag : Nat) (part : OffsPart) (s : State) : OutKept (execOffsets dt m h tag part s) s.kept := by
  unfold execOffsets; repeat' split
  all_goals (try simp [])
  all_goals (repeat' split) <;> (try simp_all [])

@[simp] theorem State_diagIn_kept (s : State) (chs banks : List DiagEntry) : (State.diagIn s chs banks).kept = s.kept := by
  unfold State.diagIn; repeat' split
  all_goals (try simp [])

theorem execDiagState_kept (dt : Nat) (m : PartnerMsg) (chs banks : List DiagEntry) (s : State) : OutKept (execDiagState dt m chs banks s) s.kept := by
  unfold execDiagState; repeat' split
  all_goals (try simp [])
  all_goals (repeat' split) <;> (try simp_all [])

@[simp] theorem State_candOf_kept (s : State) (vals : List (Nat × Nat)) : (State.candOf s vals).kept = s.kept := by
  unfold State.candOf; repeat' split
  all_goals (try simp [])

@[simp] theorem State_candidateIn_kept (s : State) (vals : List (Nat × Nat)) : (State.candidateIn s vals).kept = s.kept := by
  unfold State.candidateIn; repeat' split
  all_goals (try simp [])

theorem execCandidate_kept (dt : Nat) (m : PartnerMsg) (vals : List (Nat × Nat)) (s : State) : OutKept (execCandidate dt m vals s) s.kept := by
  unfold execCandidate; repeat' split
  all_goals (try simp [])
  all_goals (repeat' split) <;> (try simp_all [])

@[simp] theorem State_opRefused_kept (s : State) (op : PendOp) : (State.opRefused s op).kept = s.kept := by
  cases op <;> simp [State.opRefused]

@[simp] theorem State_opGo_kept (s : State) (op : PendOp) : (State.opGo s op).kept = s.kept := by
  cases op <;> simp [State.opGo]

@[simp] theorem State_opGone_kept (s : State) (op : PendOp) : (State.opGone s op).kept = s.kept := by
  cases op <;> simp [State.opGone]

@[simp] theorem State_verdictOn_kept (s : State) (op : PendOp) (ok : Bool) : (State.verdictOn s op ok).kept = s.kept := by
  unfold State.verdictOn; repeat' split
  all_goals (try simp [])

@[simp] theorem State_candNext_kept (s : State) (fuel : Nat) : (State.candNext s fuel).kept = s.kept := by
  induction fuel generalizing s with
  | zero => rfl
  | succ fuel ih =>
    unfold State.candNext; repeat' split
    all_goals (try simp [ih])
    all_goals (repeat' split) <;> (try simp_all [ih])

@[simp] theorem State_verdictIn_kept (s : State) (ok : Bool) : (State.verdictIn s ok).kept = s.kept := by
  unfold State.verdictIn; repeat' split
  all_goals (try simp [])

theorem execVerdict_kept (dt : Nat) (m : PartnerMsg) (code : Nat) (s : State) : OutKept (execVerdict dt m code s) s.kept := by
  unfold execVerdict; repeat' split
  all_goals (try simp [])
  all_goals (repeat' split) <;> (try simp_all [])

@[simp] theorem State_verdictLate_kept (s : State) : (State.verdictLate s).kept = s.kept := by
  unfold State.verdictLate; repeat' split
  all_goals (try simp [])

theorem execVerdictTimeout_kept (dt : Nat) (s : State) : OutKept (execVerdictTimeout dt s) s.kept := by
  unfold execVerdictTimeout; repeat' split
  all_goals (try simp [])
  all_goals (repeat' split) <;> (try simp_all [])

@[simp] theorem State_syncSet_kept (s : State) (i : SetIn) : (State.syncSet s i).kept = s.kept := by
  unfold State.syncSet; repeat' split
  all_goals (try simp [])

@[simp] theorem State_syncConfig_kept (s : State) (vals : List (Nat × Nat)) (blocks : List (Nat × Bytes)) (sets : List SetIn) : (State.syncConfig s vals blocks sets).kept = s.kept := by
  unfold State.syncConfig; split
  · rfl
  · have h1 (l : List (Nat × Bytes)) (t : State) : (t.each l fun e t =>
        if t.syncBlock e.1 = e.2 then t
        else (t.blockPut e.1 0 e.2).2).kept = t.kept := by
      refine each_kept _ _ _ (fun e t => ?_)
      split <;> simp
    simp only [State_done_kept]
    refine Eq.trans (b := State.kept (ite _ _ _)) rfl ?_
    rw [ite_kept, State_admitNow_kept, State_replace_kept, ite_self]
    exact (each_kept _ _ _ (fun _ _ => by simp)).trans ((h1 _ _).trans (by simp))

theorem execConfigSync_kept (dt : Nat) (m : PartnerMsg) (vals : List (Nat × Nat)) (blocks : List (Nat × Bytes)) (sets : List SetIn)
    (s : State) : OutKept (execConfigSync dt m vals blocks sets s) s.kept := by
  unfold execConfigSync; repeat' split
  all_goals (try simp [])
  all_goals (repeat' split) <;> (try simp_all [])

@[simp] theorem State_refresh_kept (s : State) : (State.refresh s).kept = s.kept := by
  unfold State.refresh; repeat' split
  all_goals (try simp [])

theorem execAuthorityRefresh_kept (dt : Nat) (s : State) : OutKept (execAuthorityRefresh dt s) s.kept := by
  unfold execAuthorityRefresh; repeat' split
  all_goals (try simp [])
  all_goals (repeat' split) <;> (try simp_all [])

@[simp] theorem State_gatesOff_kept (s : State) : (State.gatesOff s).kept = s.kept := by
  unfold State.gatesOff; repeat' split
  all_goals (try simp [])

@[simp] theorem State_lapse_kept (s : State) : (State.lapse s).kept = s.kept := by
  unfold State.lapse; repeat' split
  all_goals (try simp [])

theorem execClaimLapsed_kept (dt : Nat) (s : State) : OutKept (execClaimLapsed dt s) s.kept := by
  unfold execClaimLapsed; repeat' split
  all_goals (try simp [])
  all_goals (repeat' split) <;> (try simp_all [])

@[simp] theorem State_peerEdge_kept (s : State) : (State.peerEdge s).kept = s.kept := by
  unfold State.peerEdge; repeat' split
  all_goals (try simp [])

theorem execPeerClaimEdge_kept (dt : Nat) (s : State) : OutKept (execPeerClaimEdge dt s) s.kept := by
  unfold execPeerClaimEdge; repeat' split
  all_goals (try simp [])
  all_goals (repeat' split) <;> (try simp_all [])

@[simp] theorem State_peerQuiet_kept (s : State) : (State.peerQuiet s).kept = s.kept := by
  unfold State.peerQuiet; repeat' split
  all_goals (try simp [])

theorem execPeerClaimTimeout_kept (dt : Nat) (s : State) : OutKept (execPeerClaimTimeout dt s) s.kept := by
  unfold execPeerClaimTimeout; repeat' split
  all_goals (try simp [])
  all_goals (repeat' split) <;> (try simp_all [])

@[simp] theorem State_settleClaim_kept (s : State) : (State.settleClaim s).kept = s.kept := by
  unfold State.settleClaim; repeat' split
  all_goals (try simp [])

theorem execClaimSettle_kept (dt : Nat) (s : State) : OutKept (execClaimSettle dt s) s.kept := by
  unfold execClaimSettle; repeat' split
  all_goals (try simp [])
  all_goals (repeat' split) <;> (try simp_all [])

@[simp] theorem State_backoffOver_kept (s : State) : (State.backoffOver s).kept = s.kept := by
  unfold State.backoffOver; repeat' split
  all_goals (try simp [])

theorem execClaimBackoff_kept (dt : Nat) (s : State) : OutKept (execClaimBackoff dt s) s.kept := by
  unfold execClaimBackoff; repeat' split
  all_goals (try simp [])
  all_goals (repeat' split) <;> (try simp_all [])

@[simp] theorem State_leaseTime_kept (s : State) : (State.leaseTime s).kept = s.kept := by
  unfold State.leaseTime; repeat' split
  all_goals (try simp [])

theorem execLeaseExpired_kept (dt : Nat) (s : State) : OutKept (execLeaseExpired dt s) s.kept := by
  unfold execLeaseExpired; repeat' split
  all_goals (try simp [])
  all_goals (repeat' split) <;> (try simp_all [])

theorem execHandover_kept (dt : Nat) (o : Origin) (v : Nat) (s : State) : OutKept (execHandover dt o v s) s.kept := by
  unfold execHandover; repeat' split
  all_goals (try simp [])
  all_goals (repeat' split) <;> (try simp_all [])

/-! Debug -/

@[simp] theorem State_wIr_kept (s : State) (code : Nat) : (State.wIr s code).kept = s.kept := by
  unfold State.wIr; repeat' split
  all_goals (try simp [])

@[simp] theorem State_selBypass_kept (s : State) (code : Nat) : (State.selBypass s code).kept = s.kept := by
  unfold State.selBypass; repeat' split
  all_goals (try simp [])

@[simp] theorem State_tapReset_kept (s : State) : (State.tapReset s).kept = s.kept := by
  unfold State.tapReset; repeat' split
  all_goals (try simp [])

theorem execTapReset_kept (dt : Nat) (s : State) : OutKept (execTapReset dt s) s.kept := by
  unfold execTapReset; repeat' split
  all_goals (try simp [])
  all_goals (repeat' split) <;> (try simp_all [])

@[simp] theorem State_readIdcode_kept (s : State) : (State.readIdcode s).kept = s.kept := by
  unfold State.readIdcode; repeat' split
  all_goals (try simp [])

theorem execIdcode_kept (dt : Nat) (s : State) : OutKept (execIdcode dt s) s.kept := by
  unfold execIdcode; repeat' split
  all_goals (try simp [])
  all_goals (repeat' split) <;> (try simp_all [])

@[simp] theorem State_boundary_kept (s : State) (code : Nat) (pins update : List Bool) : (State.boundary s code pins update).kept = s.kept := by
  unfold State.boundary; repeat' split
  all_goals (try simp [])

theorem execSamplePreload_kept (dt : Nat) (pins update : List Bool) (s : State) : OutKept (execSamplePreload dt pins update s) s.kept := by
  unfold execSamplePreload; repeat' split
  all_goals (try simp [])
  all_goals (repeat' split) <;> (try simp_all [])

@[simp] theorem State_extest_kept (s : State) (pins update : List Bool) : (State.extest s pins update).kept = s.kept := by
  unfold State.extest; repeat' split
  all_goals (try simp [])

theorem execExtest_kept (dt : Nat) (pins update : List Bool) (s : State) : OutKept (execExtest dt pins update s) s.kept := by
  unfold execExtest; repeat' split
  all_goals (try simp [])
  all_goals (repeat' split) <;> (try simp_all [])

@[simp] theorem State_clampPins_kept (s : State) : (State.clampPins s).kept = s.kept := by
  unfold State.clampPins; repeat' split
  all_goals (try simp [])

theorem execClamp_kept (dt : Nat) (s : State) : OutKept (execClamp dt s) s.kept := by
  unfold execClamp; repeat' split
  all_goals (try simp [])
  all_goals (repeat' split) <;> (try simp_all [])

@[simp] theorem State_highz_kept (s : State) : (State.highz s).kept = s.kept := by
  unfold State.highz; repeat' split
  all_goals (try simp [])

theorem execHighz_kept (dt : Nat) (s : State) : OutKept (execHighz dt s) s.kept := by
  unfold execHighz; repeat' split
  all_goals (try simp [])
  all_goals (repeat' split) <;> (try simp_all [])

theorem execBypass_kept (dt : Nat) (s : State) : OutKept (execBypass dt s) s.kept := by
  unfold execBypass; repeat' split
  all_goals (try simp [])
  all_goals (repeat' split) <;> (try simp_all [])

@[simp] theorem State_readStatus_kept (s : State) : (State.readStatus s).kept = s.kept := by
  unfold State.readStatus; repeat' split
  all_goals (try simp [])

theorem execDbgStatus_kept (dt : Nat) (s : State) : OutKept (execDbgStatus dt s) s.kept := by
  unfold execDbgStatus; repeat' split
  all_goals (try simp [])
  all_goals (repeat' split) <;> (try simp_all [])

@[simp] theorem State_newChallenge_kept (s : State) : (State.newChallenge s).kept = s.kept := by
  unfold State.newChallenge; repeat' split
  all_goals (try simp [])

@[simp] theorem State_unlockTry_kept (s : State) (response : Bytes) : (State.unlockTry s response).kept = s.kept := by
  unfold State.unlockTry; repeat' split
  all_goals (try simp [])

@[simp] theorem State_unlock_kept (s : State) (response : Bytes) : (State.unlock s response).kept = s.kept := by
  unfold State.unlock; repeat' split
  all_goals (try simp [])

theorem execDbgUnlock_kept (dt : Nat) (response : Bytes) (s : State) : OutKept (execDbgUnlock dt response s) s.kept := by
  unfold execDbgUnlock; repeat' split
  all_goals (try simp [])
  all_goals (repeat' split) <;> (try simp_all [])

@[simp] theorem State_lockoutOver_kept (s : State) : (State.lockoutOver s).kept = s.kept := by
  unfold State.lockoutOver; repeat' split
  all_goals (try simp [])

theorem execUnlockLockoutEnd_kept (dt : Nat) (s : State) : OutKept (execUnlockLockoutEnd dt s) s.kept := by
  unfold execUnlockLockoutEnd; repeat' split
  all_goals (try simp [])
  all_goals (repeat' split) <;> (try simp_all [])

theorem execDbgRelock_kept (dt : Nat) (o : Origin) (v : Nat) (s : State) : OutKept (execDbgRelock dt o v s) s.kept := by
  unfold execDbgRelock; repeat' split
  all_goals (try simp [])
  all_goals (repeat' split) <;> (try simp_all [])

@[simp] theorem State_objEnd_kept (s : State) (status token : Nat) : (State.objEnd s status token).kept = s.kept := by
  unfold State.objEnd; repeat' split
  all_goals (try simp [])

@[simp] theorem State_objAccess_kept (s : State) (q : ObjReq) (f : State → State) (h_f : ∀ t, (f t).kept = t.kept) : (State.objAccess s q f).kept = s.kept := by
  unfold State.objAccess; dsimp only
  (repeat' split)
  · simp
  · simp
  · rw [h_f]; exact (State_wIr_kept s 0x10)

@[simp] theorem State_objAccess_good (s : State) (r : ObjReq) (f : State → State) (q) (h_f : ∀ t, Good q t.kept → Good q (f t).kept)
    (h : Good q s.kept) : Good q (s.objAccess r f).kept := by
  unfold State.objAccess; dsimp only
  have h1 : Good q (s.wIr 0x10).kept := by simp [h]
  (repeat' split)
  · simp [h]
  · exact h1
  · exact h_f _ h1

@[simp] theorem State_objRead_kept (s : State) (key : Nat) : (State.objRead s key).kept = s.kept := by
  unfold State.objRead; repeat' split
  all_goals (try simp [])

theorem execDbgObjRead_kept (dt index sub : Nat) (s : State) : OutKept (execDbgObjRead dt index sub s) s.kept := by
  unfold execDbgObjRead; repeat' split
  all_goals (try simp [])
  all_goals (repeat' split) <;> (try simp_all [])

@[simp] theorem State_objWrite_good (s : State) (key len v : Nat) (pq : List Instr) (h : Good pq s.kept) : Good pq (State.objWrite s key len v).kept := by
  unfold State.objWrite; repeat' split
  all_goals (try simp +contextual [h])
  all_goals (repeat' split) <;> (try simp_all)

theorem execDbgObjWrite_good (dt index sub length data : Nat) (s : State) (pq : List Instr) (h : Good pq s.kept) : OutGood pq (execDbgObjWrite dt index sub length data s) := by
  unfold execDbgObjWrite; repeat' split
  all_goals (try simp +contextual [h])
  all_goals (repeat' split) <;> (try simp_all)

@[simp] theorem State_objBlock_kept (s : State) (key len off : Nat) : (State.objBlock s key len off).kept = s.kept := by
  unfold State.objBlock; repeat' split
  all_goals (try simp [])

theorem execDbgObjBlockRead_kept (dt index sub length offset : Nat) (s : State) : OutKept (execDbgObjBlockRead dt index sub length offset s) s.kept := by
  unfold execDbgObjBlockRead; repeat' split
  all_goals (try simp [])
  all_goals (repeat' split) <;> (try simp_all [])

@[simp] theorem State_objStage_good (s : State) (len off v : Nat) (pq : List Instr) (h : Good pq s.kept) : Good pq (State.objStage s len off v).kept := by
  unfold State.objStage; split
  · simp [h]
  · have h1 : Good pq (s.objEnd 0 0).kept := by simp [h]
    exact ⟨h1.1, h1.2.1, h1.2.2.1, h1.2.2.2.1, h1.2.2.2.2.1, tsetRun_twf _ _ _ _ h1.2.2.2.2.2⟩

theorem execDbgObjBlockStage_good (dt length offset data : Nat) (s : State) (pq : List Instr) (h : Good pq s.kept) : OutGood pq (execDbgObjBlockStage dt length offset data s) := by
  unfold execDbgObjBlockStage; repeat' split
  all_goals (try simp +contextual [h])
  all_goals (repeat' split) <;> (try simp_all)

@[simp] theorem State_objApply_kept (s : State) (key off : Nat) : (State.objApply s key off).kept = s.kept := by
  unfold State.objApply; repeat' split
  all_goals (try simp [])

theorem execDbgObjBlockApply_kept (dt index sub offset : Nat) (s : State) : OutKept (execDbgObjBlockApply dt index sub offset s) s.kept := by
  unfold execDbgObjBlockApply; repeat' split
  all_goals (try simp [])
  all_goals (repeat' split) <;> (try simp_all [])

@[simp] theorem State_dramLost_good (s : State) (addr : Nat) (write : Bool) (pq : List Instr) (h : Good pq s.kept) : Good pq (State.dramLost s addr write).kept := by
  unfold State.dramLost; repeat' split
  all_goals (try simp +contextual [h])
  all_goals (repeat' split) <;> (try simp_all)

@[simp] theorem State_cellRead_kept (s : State) (cells : List Host.Cell) (seen : List (Nat × Bool)) (a : Nat) (zero : Bool) : (State.cellRead s cells seen a zero).2.kept = s.kept := by
  unfold State.cellRead; repeat' split
  all_goals (try simp [])
  all_goals (repeat' split) <;> (try simp_all [])

@[simp] theorem State_poolRead_kept (s : State) (a : Nat) : (State.poolRead s a).2.kept = s.kept := by
  unfold State.poolRead; repeat' split
  all_goals (try simp [])
  all_goals (repeat' split) <;> (try simp_all [])

@[simp] theorem State_poolWrite_good (s : State) (a v : Nat) (pq : List Instr) (h : Good pq s.kept) : Good pq (State.poolWrite s a v).kept :=
  ⟨h.1, h.2.1, h.2.2.1, h.2.2.2.1, tsetRun_twf _ _ _ _ h.2.2.2.2.1, h.2.2.2.2.2⟩

@[simp] theorem State_dramWrite_good (s : State) (d l v : Nat) (pq : List Instr) (h : Good pq s.kept) : Good pq (State.dramWrite s d l v).kept :=
  ⟨h.1, h.2.1, h.2.2.1, tsetRun_twf _ _ _ _ h.2.2.2.1, h.2.2.2.2⟩

@[simp] theorem State_spaceRead_kept (s : State) (space a : Nat) : (State.spaceRead s space a).2.kept = s.kept := by
  unfold State.spaceRead; repeat' split
  all_goals (try simp [])
  all_goals (repeat' split) <;> (try simp_all [])

@[simp] theorem State_spaceWrite_good (s : State) (space a v : Nat) (pq : List Instr) (h : Good pq s.kept) : Good pq (State.spaceWrite s space a v).kept := by
  unfold State.spaceWrite; (repeat' split) <;> (try simp [h])
  · exact each_good pq s _ _ (fun d t ht => State_dramWrite_good t d _ v pq ht) h
  · split <;> simp [h]

@[simp] theorem State_memDone_kept (s : State) (status a data : Nat) (inc : Bool) : (State.memDone s status a data inc).kept = s.kept := by
  unfold State.memDone; repeat' split
  all_goals (try simp [])

@[simp] theorem State_memLost_good (s : State) (a data : Nat) (write : Bool) (pq : List Instr) (h : Good pq s.kept) :
    Good pq (State.memLost s a data write).kept := by
  unfold State.memLost; dsimp only
  split <;> simp [h]

@[simp] theorem State_memLook_good (s : State) (space addr : Nat) (inc : Bool) (pq : List Instr) (h : Good pq s.kept) : Good pq (State.memLook s space addr inc).kept := by
  unfold State.memLook; dsimp only
  (repeat' split) <;> simp [h]

@[simp] theorem State_memStore_good (s : State) (space addr v : Nat) (inc : Bool) (pq : List Instr) (h : Good pq s.kept) : Good pq (State.memStore s space addr v inc).kept := by
  unfold State.memStore; repeat' split
  all_goals (try simp +contextual [h])
  all_goals (repeat' split) <;> (try simp_all)

@[simp] theorem State_memAccess_kept (s : State) (op space : Nat) (inc : Bool) (f : State → State) (h_f : ∀ t, (f t).kept = t.kept) : (State.memAccess s op space inc f).kept = s.kept := by
  unfold State.memAccess; repeat' split
  all_goals (try simp [h_f])

@[simp] theorem State_memAccess_good (s : State) (op space : Nat) (inc : Bool) (f : State → State) (q)
    (h_f : ∀ t, Good q t.kept → Good q (f t).kept) (h : Good q s.kept) : Good q (s.memAccess op space inc f).kept := by
  unfold State.memAccess; dsimp only
  have h1 : Good q (s.wIr 0x11).kept := by simp [h]
  split
  · exact h1
  · exact h_f _ h1

theorem execDbgMemRead_good (dt : Nat) (space : Fin 4) (addr : Nat) (autoinc : Bool) (s : State) (pq : List Instr) (h : Good pq s.kept) : OutGood pq (execDbgMemRead dt space addr autoinc s) := by
  unfold execDbgMemRead; repeat' split
  all_goals (try simp +contextual [h])
  all_goals (repeat' split) <;> (try simp_all)

theorem execDbgMemWrite_good (dt : Nat) (space : Fin 4) (addr : Nat) (autoinc : Bool) (data : Nat) (s : State) (pq : List Instr) (h : Good pq s.kept) : OutGood pq (execDbgMemWrite dt space addr autoinc data s) := by
  unfold execDbgMemWrite; repeat' split
  all_goals (try simp +contextual [h])
  all_goals (repeat' split) <;> (try simp_all)

theorem execHaltPipes_kept (dt : Nat) (o : Origin) (v : Nat) (s : State) : OutKept (execHaltPipes dt o v s) s.kept := by
  unfold execHaltPipes; repeat' split
  all_goals (try simp [])
  all_goals (repeat' split) <;> (try simp_all [])

theorem execHaltStations_kept (dt : Nat) (o : Origin) (v : Nat) (s : State) : OutKept (execHaltStations dt o v s) s.kept := by
  unfold execHaltStations; repeat' split
  all_goals (try simp [])
  all_goals (repeat' split) <;> (try simp_all [])

theorem execHaltZones_kept (dt : Nat) (o : Origin) (v : Nat) (s : State) : OutKept (execHaltZones dt o v s) s.kept := by
  unfold execHaltZones; repeat' split
  all_goals (try simp [])
  all_goals (repeat' split) <;> (try simp_all [])

theorem execLiveAct_kept (dt : Nat) (o : Origin) (v : Nat) (s : State) : OutKept (execLiveAct dt o v s) s.kept := by
  unfold execLiveAct; repeat' split
  all_goals (try simp [])
  all_goals (repeat' split) <;> (try simp_all [])

theorem execStepPipes_kept (dt : Nat) (o : Origin) (v : Nat) (s : State) : OutKept (execStepPipes dt o v s) s.kept := by
  unfold execStepPipes; repeat' split
  all_goals (try simp [])
  all_goals (repeat' split) <;> (try simp_all [])

theorem execStepStations_kept (dt : Nat) (o : Origin) (v : Nat) (s : State) : OutKept (execStepStations dt o v s) s.kept := by
  unfold execStepStations; repeat' split
  all_goals (try simp [])
  all_goals (repeat' split) <;> (try simp_all [])

theorem execStepTick_kept (dt : Nat) (o : Origin) (v : Nat) (s : State) : OutKept (execStepTick dt o v s) s.kept := by
  unfold execStepTick; repeat' split
  all_goals (try simp [])
  all_goals (repeat' split) <;> (try simp_all [])

end Sys2Proof.Machine
end

