-- ==== Sys2Proof/WellFormed.lean ====
section
/-! DEFINITION. Which commands are well formed: every field of a packet, frame or access fits the width its layout gives it. -/

namespace Sys2Proof

/-- A number that fits w bits. -/
def fitsBits (w n : Nat) : Bool := decide (n < 2 ^ w)

/-- Header fields of R37, payload words of 32 bits and a CRC of 32 bits; an unknown TYPE octet is none a head sends (R39). -/
def HeadPkt.wf (p : HeadPkt) : Bool :=
  fitsBits 8 p.seq && fitsBits 4 p.ver && fitsBits 12 p.len && p.words.all (fitsBits 32) && fitsBits 32 p.crc &&
    p.unknown.all fun t => fitsBits 8 t && !([0x01, 0x02, 0x03, 0x41, 0x42, 0x43].contains t)

/-- Header fields of R403, a payload of at most 4,096 words and a CRC of 32 bits. -/
def RingFrame.wf (f : RingFrame) : Bool :=
  fitsBits 8 f.ty && fitsBits 7 f.dst && fitsBits 7 f.src && fitsBits 1 f.ring && fitsBits 8 f.hops && decide (f.len ≤ 4096) &&
    fitsBits 16 f.seq && fitsBits 32 f.epoch && fitsBits 16 f.info && fitsBits 16 f.hcrc && decide (f.payload.length ≤ 16384) &&
    fitsBits 32 f.crc

/-- A source of R433: a ring address, the debug port or the partner. -/
def Origin.wf (o : Origin) : Bool := decide (o.src ≤ 63 ∨ o.src = 0x40 ∨ o.src = 0x41) && fitsBits 32 o.epoch

/-- Symbols of a training word (R370). -/
def TrainWord.wf (w : TrainWord) : Bool :=
  fitsBits 8 w.ty && fitsBits 8 w.f0 && fitsBits 8 w.f1 && fitsBits 8 w.f2 && fitsBits 8 w.f3 && fitsBits 8 w.crc

/-- A partner message's epoch. -/
def PartnerMsg.wf (m : PartnerMsg) : Bool := fitsBits 32 m.epoch

/-- Zones, banks and channels of a tick's inputs exist (R24). -/
def TickIn.wf (i : TickIn) : Bool :=
  i.late.all (fun z => decide (z < 192)) && i.shs.all (fun e => decide (e.1 < 24)) && i.rest.all (fun e => decide (e.1 < 192))

/-- Waiting requests stand in order of arrival (R344). -/
def waitingWf : List MemReq → Bool
  | a :: b :: l => decide (b.age ≤ a.age) && waitingWf (b :: l)
  | _ => true

/-- A column has delay steps 0 to 127 (R349). -/
def LaneSweep.wf (x : LaneSweep) : Bool := fitsBits 128 x.pass

/-- A memory read: an item's block lies in the item's region (R313, R337), erroneous symbols have different positions of the codeword
and change it (R334), a tag has 32 bits (R333). -/
def MemRead.wf (r : MemRead) : Bool :=
  let mib := 1048576
  let region := if r.local_ < 32 * mib then 0 else if r.local_ < 80 * mib then 2 else if r.local_ < 144 * mib then 3 else 1
  decide (r.local_ % 64 = 0) && fitsBits 33 r.local_ && fitsBits 32 r.tag && waitingWf r.waiting &&
    r.errors.all (fun e => decide (e.1 < 68) && decide (1 ≤ e.2 ∧ e.2 ≤ 255)) && decide ((r.errors.map (·.1)).Pairwise (· ≠ ·)) &&
    (let i := r.item % 128
     decide (r.item < 256) && (if i = 0 then true else if i ≤ 3 then decide (region = 0) else if i ≤ 7 then decide (region = 1)
       else decide (i ≤ 9) && decide (region = 2)))

/-- Sixteen sensors, fourteen rails, sixteen DRAM temperatures (R515). -/
def HouseIn.wf (i : HouseIn) : Bool := decide (i.ts.length = 16) && decide (i.rails.length = 14) && decide (i.dram.length = 16)

/-- A set's tag and its 32-byte slice lengths. -/
def SetIn.wf (i : SetIn) : Bool := fitsBits 16 i.tag && i.vals.all (fun e => fitsBits 32 e.2) && i.patches.all (fun e => fitsBits 64 e.2.2)

/-- A value of an object access fits 64 bits. -/
def valWf (v : Nat) : Bool := fitsBits 64 v

/-- Is a command well formed? -/
def Instr.wf : Instr → Bool
  | .tickStart _ i => i.wf
  | .d2dHeartbeatTx _ | .d2dLoss _ | .d2dRecovered _ | .stopNLow _ _ | .stopNRelease _ | .vgateLow _ _
  | .floatingSupplyLow _ _ _ _ _ => true
  | .commit _ _ o v => o.wf && valWf v
  | .line _ _ ⟨p, _⟩ | .sof _ _ p | .eof _ _ p | .reply _ _ p | .tableData _ _ p | .headEvent _ _ p => p.wf
  | .frameTimeout _ _ | .frameLate _ _ | .timeProbe _ _ | .cmdTimeout _ _ | .busyRetry _ _ | .authRetry _ _ | .attachRetry _ _
  | .streamMinute _ _ | .lifeWriteDue _ _ | .writebackPacket _ _ => true
  | .rebind _ _ o v => o.wf && valWf v
  | .coefFetchDone _ _ _ => true
  | .persistClear _ _ o v | .tauCommit _ _ o v => o.wf && valWf v
  | .tableBlockWrite _ _ o offset d => o.wf && fitsBits 32 offset && decide (d.length ≤ 65536)
  | .driftConfUpdate _ _ | .foldTrigger _ _ => true
  | .foldNow _ _ o v => o.wf && valWf v
  | .foldClosingLimit _ _ | .foldCheckDone _ _ | .shutterOpenRetry _ _ | .encEdge _ _ _ _ | .encLatch _ | .encCoarseCopy _ | .speed _ => true
  | .coverage _ f => f.wf
  | .headAbsent _ _ _ => true
  | .stationRun _ _ o v => o.wf && valWf v
  | .slotHead _ _ _ o v => o.wf && valWf v
  | .slotMap _ _ _ o offset d => o.wf && fitsBits 32 offset && decide (d.length ≤ 65536)
  | .covEnable _ o v => o.wf && valWf v
  | .zoneRun _ _ o v => o.wf && valWf v
  | .demands _ m tick zs => m.wf && fitsBits 64 tick && zs.all (fun e => fitsBits 16 e.1 && fitsBits 8 e.2)
  | .arm _ _ o | .disarm _ _ o => o.wf
  | .testPulse _ _ o v => o.wf && valWf v
  | .requestEligible _ _ _ | .requestDeadline _ _ | .boostEnd _ _ _ | .fallEnd _ _ _ | .peakEnd _ _ _ | .phDropEnd _ _ _
  | .chopThreshold _ _ _ | .durationEnd _ _ _ | .tSlowEnd _ _ | .decayEnd _ _ _ _ | .decayLong _ _ | .bankFree _ _ _
  | .railSample _ _ _ _ | .pwmPeriod _ _ _ | .overcurrent _ _ _ _ | .openCheck _ _ _ | .offTestRound _ _
  | .railOffTestSample _ _ _ _ | .railOnTestSample _ _ _ _ => true
  | .diagClear _ _ o v | .bankDiagClear _ _ o v => o.wf && valWf v
  | .cdWindowOpen _ _ | .cdWindowEnd _ _ _ | .channelCalDone _ _ _ _ _ _ | .calOverdue _ _ => true
  | .calNow _ o v => o.wf && valWf v
  | .restore _ | .segmentCopyDone _ _ => true
  | .intentWrite _ o _ _ _ v | .streamWrite _ _ o _ v | .powerLimit _ o v => o.wf && valWf v
  | .refreshDue _ _ q w => waitingWf q && w.all LaneSweep.wf
  | .memReadDone _ r | .scrubRead _ r _ => r.wf
  | .subchannelRetrain _ _ o v => o.wf && valWf v
  | .stageADone _ _ | .stageTimeout _ _ _ => true
  | .cap _ _ w | .capAck _ _ w | .rateGo _ _ w | .eqReq _ _ w | .eqStatus _ _ w | .eqDone _ _ w | .lull _ _ w | .rxStatus _ _ w => w.wf
  | .eqMeasure _ _ _ _ | .ctleStep _ _ _ _ | .rxStatusTimeout _ _ | .loss _ _ _ | .cdrLock _ _ | .relockTimeout _ _ | .absentRetry _ _
  | .signalDetect _ _ => true
  | .laneRetrain _ _ o v => o.wf && valWf v
  | .exportLaneFree _ _ | .stripeRejoin _ _ => true
  | .auxMode _ _ o v | .bitSlip _ _ o v | .captureArm _ _ o v | .matchWrite _ _ o _ v | .lullReq _ _ o v => o.wf && valWf v
  | .ringFrameForward _ f => f.wf
  | .frameInsert _ _ => true
  | .ringStatus _ f => f.wf
  | .ringStatusTx _ | .ringStatusTimeout _ _ | .unwrap _ _ => true
  | .delayExchange _ t1 => decide (t1.length ≤ 2)
  | .delayReq _ f _ _ | .delayRsp _ f _ | .timeSync _ f _ => f.wf
  | .masterTimeLost _ => true
  | .estop _ f | .estopClear _ f | .enum _ f | .ringReset _ f => f.wf
  | .ringJoin _ o v => o.wf && valWf v
  | .grantTake _ f | .grantRenew _ f | .grantRevoke _ f | .objReqRead _ f | .objReqWrite _ f | .blockRead _ f | .blockWrite _ f
  | .rangeRead _ f | .rangeWrite _ f | .blockData _ f => f.wf
  | .xferTimeout _ _ _ => true
  | .cyclic _ f => f.wf
  | .mapEnable _ _ o v => o.wf && valWf v
  | .mirrorWrite _ | .nvmWriteDone _ _ | .nvmProgramDone _ _ => true
  | .heartbeat _ m p => m.wf && p.wf
  | .partnerHeartbeatTx _ | .partnerDown _ => true
  | .objFwd _ m key d => m.wf && fitsBits 24 key && decide (d.length ≤ 65536)
  | .armedSet _ m i => m.wf && i.wf
  | .offsets _ m _ tag part => m.wf && fitsBits 16 tag && decide (part.offs.length ≤ 4096 ∧ part.first + part.offs.length ≤ 524288)
  | .diagState _ m _ _ => m.wf
  | .candidate _ m _ => m.wf
  | .verdict _ m code => m.wf && fitsBits 8 code
  | .verdictTimeout _ => true
  | .configSync _ m _ _ sets => m.wf && sets.all SetIn.wf
  | .authorityRefresh _ | .claimLapsed _ | .peerClaimEdge _ | .peerClaimTimeout _ | .claimSettle _ | .claimBackoff _ | .leaseExpired _ => true
  | .handover _ o v | .stateReq _ o v => o.wf && valWf v
  | .domainSwitch _ | .quadrantIdle _ _ | .clockCheck _ _ _ _ _ => true
  | .housekeepingRound _ i => i.wf
  | .orderlyStopEnd _ => true
  | .thermalRecovery _ ts => decide (ts.length = 16)
  | .cutoff _ _ | .flashPoll _ _ => true
  | .spiSel _ o v => o.wf && valWf v
  | .selTimeout _ => true
  | .spiGo _ o v => o.wf && valWf v
  | .spiShiftDone _ _ => true
  | .configSave _ o v | .configClear _ o v => o.wf && valWf v
  | .powerOn _ _ _ | .rstN _ _ | .watchdog _ => true
  | .resetRelease _ _ rails | .supplyRecheck _ rails => decide (rails.length = 14)
  | .nvmRecoveryDone _ _ _ | .firmwareStart _ _ => true
  | .dramTrainingDone _ r => decide (r.length = 16) && r.all fun x => x.sweeps.all LaneSweep.wf
  | .dramWipeDone _ | .startTimeWait _ | .startWaitExpired _ => true
  | .lcReq _ o v => o.wf && valWf v
  | .ownerKey _ o offset key => o.wf && fitsBits 32 offset && decide (key.length ≤ 65536)
  | .debugReset _ o v => o.wf && valWf v
  | .tapReset _ | .idcode _ | .samplePreload _ _ _ | .extest _ _ _ | .clamp _ | .highz _ | .bypass _ | .dbgStatus _ => true
  | .dbgUnlock _ response => decide (response.length = 16)
  | .unlockLockoutEnd _ => true
  | .dbgRelock _ o v => o.wf && valWf v
  | .dbgObjRead _ index sub => fitsBits 16 index && fitsBits 8 sub
  | .dbgObjWrite _ index sub length data => fitsBits 16 index && fitsBits 8 sub && fitsBits 8 length && valWf data
  | .dbgObjBlockRead _ index sub length offset => fitsBits 16 index && fitsBits 8 sub && fitsBits 8 length && fitsBits 32 offset
  | .dbgObjBlockStage _ length offset data => fitsBits 8 length && fitsBits 32 offset && valWf data
  | .dbgObjBlockApply _ index sub offset => fitsBits 16 index && fitsBits 8 sub && fitsBits 32 offset
  | .dbgMemRead _ _ _ _ => true
  | .dbgMemWrite _ _ _ _ data => valWf data
  | .haltPipes _ o v | .haltStations _ o v | .haltZones _ o v | .liveAct _ o v | .stepPipes _ o v | .stepStations _ o v
  | .stepTick _ o v => o.wf && valWf v
  | .auxReceivedWord _ _ w => fitsBits 32 w
  | .fullTrainingDone _ _ w => w.all LaneSweep.wf
  | .watchdogService _ | .decayLimit _ _ | .gateReleaseAfterD2dLoss _ => true

end Sys2Proof
end

