-- ==== Sys2Proof/Tests/Slice0.lean ====
section
/-! SUPPORT. Our own tests: for each statement a state and operands that meet its hypotheses, ill-formed terms that the checks refuse,
and a few values of the spec. -/

set_option Elab.async false

open Sys2Proof Sys2Proof.Machine

namespace Sys2Proof.Tests

/-- The block after reset with some objects written. -/
def objs (l : List (Nat × Nat)) : State := State.reset.wAll l

/-- The debug port as the source of an access. -/
def dbg : Origin := ⟨0x40, 0⟩

/-! ## Stops -/

def sStop : State := { objs [(Reg.thmDOMAINS_UP, 0xFFFFF), (Reg.bkBANK_STATE 0, 4), (Reg.bkSTOP_CAUSE 1, 4)] with
  banks := [(0, { occ := some 3, ls := 8, hb := true, queue := [⟨5, 1000, 0, 0, 0, 90000, false, false⟩] })] }

def sLoss : State := { objs [(Reg.thmDOMAINS_UP, 0xFFFFF), (Reg.bkSTOP_CAUSE 0, 4), (Reg.bkBANK_STATE 0, 2)] with
  d2d := { lost := true, hbSince := some 0, stopLow := true }, pair := { mode := true }
  banks := [(0, { hiZ := true, hb := true, hh := true, ls := 3 })] }

def sArm (st : Nat) : State := { objs [(Reg.bkBANK_TYPE 2, 1), (Reg.opDEVICE_STATE, st), (Reg.bkSTOP_CAUSE 2, 0x80)] with
  banks := [(2, { ls := 4, occ := some 18 })] }

/-! ## Requests and events of channel 9 in bank 1 -/

def sBank (st : Nat) (x : Bank) (l : List (Nat × Nat) := []) : State :=
  let r := objs ([(Reg.bkBANK_STATE 1, 4), (Reg.bkBANK_TYPE 1, 1), (Reg.chsCH_STATE 9, st)] ++ l)
  { r with banks := [(1, { x with par := if x.occ.isSome then r.parNow 1 else {} })] }

def sReq : State := sBank 0 { freeAt := none, queue := [⟨9, 1000, 0, 3, 0, 100000, false, false⟩] }
def sFree : State := sBank 0 { occ := some 9, freeAt := some 900000 }
def sPhase (st : Nat) : State := sBank st { occ := some 9, ls := 2, hb := true, hh := st = 6, edge := 0, boostEnd := 700000 }
def sOff (hh : Bool) : State := sBank 6 { occ := some 9, ls := 2, hh := hh, boostEnd := 700000 }

/-- A proportional bank 1 with a target current for channel 9. -/
def sProp (iSet : Nat) : State := { objs [(Reg.bkBANK_STATE 1, 4), (Reg.bkBANK_TYPE 1, 2)] with
  banks := [(1, { hh := true })], chans := [(9, { iNext := [(iSet, 0)] })] }
def sDiag : State := sBank 0 { ls := 2, occ := some 9, first := 0, railOk := true }
def sTest (st ty : Nat) : State := { sBank 0 { test := some (9, 0), round := [9, 10] } [(Reg.bkBANK_STATE 1, st), (Reg.bkBANK_TYPE 1, ty)] with
  chans := [(9, { railOn := some 0 })] }
def cdW (o : Option Nat) : CdWin := ⟨9, 100000, 50000, o, State.reset.parNow 1⟩
def sCd (o : Option Nat) : State := sBank 0 { cd := some (cdW o) }
def sCal (st : Nat) : State := { objs [(Reg.calCAL_STATE, st), (Reg.thmDOMAINS_UP, 0xFFFFF), (Reg.bkBANK_TYPE 1, 1), (Reg.bkBANK_STATE 1, 1)] with
  pwr := { calLeft := [9, 10] }, banks := [(1, { cal := some (9, 999960000) })] }
/-- Samples with a kink in the middle. -/
def kinked : List Int := (List.range 800).map fun (k : Nat) => if k < 400 then 0 else 10 * ((k : Int) - 400)
def calV (g : Nat) : CalVals := ⟨3, g, -3, 32768, [1, 2], 4, 32768⟩

def sSlow : State := sBank 7 { occ := some 9, ls := 2, decayAt := some 0 } [(0x500100 + 2048 + 256 + 9, 2)]
def sP3 : State := sBank 3 { occ := some 9, ls := 2, boostEnd := 950000 }
def sLimit : State := sBank 7 { occ := some 9, ls := 2, decayAt := some 0, limitAt := some 900000 }
def sRail : State := sBank 2 { hb := true, hbOn := some 0 } [(Reg.bkVBOOST_MIN 1, 100)]

theorem witness_StepRunsFront : ({ State.reset with pending := [.idcode 0] } : State).pending = Instr.idcode 0 :: [] := by decide

theorem witness_EmptyQueueIdles : State.reset.pending = [] := by decide

theorem witness_StepKeepsInvariant : State.reset.storesWf = true := by decide +kernel

theorem witness_StoresKeptByOtherCommands : (Instr.idcode 0).storage = false := by decide

/-- Two values of record 0x10, and the NVM that holds the first in both copies under sequence 7. -/
def recOld : Bytes := List.replicate 240 0xFF
def recNew : Bytes := 1 :: List.replicate 239 0xFF
def nRec : Nvm := { cells := (copyOps 32 1 (recImage 0x10 7 recOld) ++ copyOps 33 1 (recImage 0x10 7 recOld)).foldl (fun c o => o.apply c) [] }

/-- The same after k whole writes of the new value's copies and a cut one that leaves its page erased. -/
def nCut (k : Nat) : Nvm :=
  let ops := copyOps 32 1 (recImage 0x10 8 recNew) ++ copyOps 33 1 (recImage 0x10 8 recNew)
  let cut := (ops.drop k).head?.map fun o => NvmOp.page o.pageNo (List.replicate 256 0xFF)
  { nRec with cells := (ops.take k ++ cut.toList).foldl (fun c o => o.apply c) nRec.cells }

set_option maxRecDepth 20000 in
theorem witness_RecordSurvivesCut : 0x10 ∈ recIds ∧ (recPages 0x10).2.2 = 1 ∧ recNew.length ≤ 240 ∧ 7 + 1 < 2 ^ 32 ∧
    nRec.copy 0x10 false = some (7, recOld) ∧ nRec.copy 0x10 true = some (7, recOld) ∧ (nCut 0).copy 0x10 (decide (0 = 1)) = none ∧
    (nCut 1).copy 0x10 (decide (1 = 1)) = none := by decide +kernel

theorem witness_HardStops : let a := sStop.advance 1000000
    (a.domUp 18 = true ∧ a.d2d.lost = false ∧ a.since a.d2d.lastRx 50000 = true ∧ a.r (Reg.bkBANK_STATE 0) = 4) ∧ 40 ≤ 40 ∧
      10499 < 10500 := by decide +kernel

theorem witness_StopsEnd : let a := sLoss.advance 1000000
    (a.domUp 18 = true ∧ a.since a.d2d.lastTx 10000 = true) ∧
    (a.d2d.lost = true ∧ a.d2d.hbSince = some 0 ∧ a.since 0 1000000 = true ∧ a.r (Reg.bkAUTO_REARM 0) = 0) ∧ a.d2d.stopLow = true ∧
    (a.pair.mode = true ∧ a.since a.d2d.lossAt 1000000 = true ∧ a.rb (Reg.bkSTOP_CAUSE 0) 2 = true ∧
      a.rb (Reg.bkSTOP_CAUSE 1) 2 = false) ∧ (8999 < 9000 ∧ 2000 ≤ 2000 ∧ (a.bank 0).hb = true ∧ (a.bank 0).hh = true) := by
  decide +kernel

theorem witness_ArmDisarm : let a := (sArm 3).advance 1000000
    a.accCheck dbg (Reg.bkARM 2) 1 1 true = 0 ∧ a.bankRuns 2 = false ∧ a.armCheck 2 ≠ 0 ∧
      a.accCheck dbg (Reg.bkARM 2) 1 0 true = 0 := by decide +kernel

theorem witness_RequestsRun : (let a := (sBank 0 {}).advance 1000000;
      a.accCheck dbg (Reg.chTEST_PULSE 9) 4 100 true = 0 ∧ a.r (Reg.bkBANK_STATE 1) = 4 ∧ a.r (Reg.bkBANK_TYPE 1) = 1 ∧
        a.zoneOf 9 = none ∧ 100 ≤ a.r (Reg.chMAX_ON 9) ∧ a.r (Reg.chdCH_FAULT 9) = 0 ∧ (a.bank 1).occ = none) ∧
    ((sArm 3).advance 0).r (Reg.bkBANK_STATE 1) ≠ 4 ∧
    (let a := sReq.advance 1000000;
      ∃ q, (a.bank 1).queue.find? (fun q => decide (q.ch = 9 ∧ q.deadline ≤ a.up) && !q.re) = some q ∧ q.test = false) ∧
    (let a := sReq.advance 50000;
      ∃ q, (a.bank 1).queue = [q] ∧ q.ch = 9 ∧ q.ts ≤ a.up ∧ q.re = false ∧ q.test = false ∧ (a.bank 1).occ = none ∧ (a.bank 1).cd = none ∧
        a.r (Reg.bkBANK_STATE 1) = 4 ∧ a.r (Reg.bkBANK_TYPE 1) = 1) ∧
    (let a := sFree.advance 1000000;
      (a.bank 1).freeAt = some 900000 ∧ 900000 ≤ a.up ∧ (a.bank 1).queue = []) :=
  ⟨by decide +kernel, by decide +kernel, ⟨_, rfl, rfl⟩, ⟨_, rfl, by decide +kernel⟩, by decide +kernel⟩

theorem witness_InjectorPhases : (let a := (sPhase 2).advance 1000000; let x := a.bank 1;
      a.inPhase 9 2 = true ∧ x.p 1 ≤ 10000 ∧ a.since x.edgeAt 500 = true ∧ x.p 3 < 10000 + x.p 4 ∧ x.p 5 ≠ 0) ∧
    (let a := (sPhase 2).advance 1000000; let x := a.bank 1;
      a.inPhase 9 2 = true ∧ 9000 < x.p 1 ∧ a.since x.edge (tenth (x.p 2)) = true ∧ x.p 3 < 9000 + x.p 4 ∧ x.p 5 ≠ 0) ∧
    (let a := sP3.advance 1000000; let x := a.bank 1;
      a.inPhase 9 3 = true ∧ a.peakOver 9 = false ∧ 7500 + x.p 4 ≤ x.p 3 ∧ a.since x.edgeAt 500 = true) ∧
    (let a := (sPhase 4).advance 1000000; (a.inPhase 9 3 || a.inPhase 9 4) = true ∧ a.peakOver 9 = true ∧ (a.bank 1).p 7 < 2501) ∧
    (let a := (sPhase 5).advance 1000000; let x := a.bank 1; a.inPhase 9 5 = true ∧ 2500 ≤ x.p 7 ∧ a.since x.edgeAt 500 = true) ∧
    (let a := (sOff true).advance 1000000; let x := a.bank 1;
      (a.inPhase 9 4 || a.inPhase 9 6) = true ∧ a.since x.edgeAt 500 = true ∧ a.since x.hhAt 1000 = true ∧ x.hh = true ∧ x.p 7 ≤ 2500) ∧
    (let a := (sOff false).advance 1000000; let x := a.bank 1;
      (a.inPhase 9 4 || a.inPhase 9 6) = true ∧ a.since x.hhAt 1000 = true ∧ x.hh = false ∧ 2200 + x.p 8 ≤ x.p 7) := by decide +kernel


theorem witness_EndDecay : (let a := (sPhase 6).advance 1000000; let x := a.bank 1;
      x.occ = some 9 ∧ x.decayAt = none ∧ x.endAt ≤ a.up ∧ x.par.iEnd < 101) ∧
    (let a := sSlow.advance 1000000; let x := a.bank 1;
      x.decayAt = some 0 ∧ a.inPhase 9 7 = true ∧ x.fast = false ∧ x.p 9 = 2 ∧ a.since 0 (tenth (x.p 10)) = true ∧ 100 ≤ x.par.iEnd ∧
        a.pair.handover ≠ 2 ∧ x.limitAt = none ∧ a.since 0 (tenth (x.p 11)) = true) ∧
    (let a := sLimit.advance 1000000; let x := a.bank 1;
      x.limitAt = some 900000 ∧ 900000 ≤ a.up ∧ a.inPhase 9 7 = true ∧ a.pair.handover ≠ 2) := by decide +kernel


theorem witness_ProportionalLoop : (let a := (sProp 0).advance 1000000;
      a.r (Reg.bkBANK_STATE 1) = 4 ∧ a.r (Reg.bkBANK_TYPE 1) = 2 ∧ a.r (Reg.prpPWM_FREQ 1) ≠ 0 ∧
        (∃ k, a.pwmIndex 9 = some k ∧ (a.chan 9).pwmN ≤ k) ∧ (a.iDue (a.chan 9)).1 = 0) ∧
    (let a := (sProp 500).advance 1000000;
      (a.iDue (a.chan 9)).1 = 500 ∧ a.r (Reg.chdCH_FAULT 9) = 0 ∧ (a.chan 9).frozen = none) ∧
    (let a := sRail.advance 1000000;
      a.r (Reg.bkBANK_TYPE 1) = 1 ∧ (a.bank 1).hb = true ∧ a.since (a.bank 1).hsAt 2000 = true ∧ (a.par 1).vboostMin ≠ 0 ∧
        (a.par 1).railRise * a.r Reg.railVBOOST ≤ 100 * 0 ∧ (a.bank 1).hbOn = some 0) :=
  ⟨⟨by decide +kernel, by decide +kernel, by decide +kernel, ⟨_, rfl, by decide +kernel⟩, by decide +kernel⟩,
    by decide +kernel, by decide +kernel⟩

theorem witness_OnStateFaults : let a := sDiag.advance 1000000; let x := a.bank 1
    (a.lowOn 9 = true ∧ x.par.iOc ≤ 18000 ∧ a.r (Reg.bkBANK_TYPE 1) = 1 ∧ x.occ = some 9 ∧ a.follower = false ∧
      a.r (Reg.chdCH_FAULT 9) = 0) ∧
    x.decayAt = none ∧ x.openDone = false ∧ a.since x.first (tenth x.par.tOpenChk) = true ∧
    (x.railOk = true ∧ 200 < x.par.iOpen ∧ x.par.iEnd < 200 ∧ (a.chan 9).curN + 1 < a.confirm 1) ∧ x.par.iOpen ≤ 500 := by decide +kernel

theorem witness_OffStateTests : (let a := (sTest 1 1).advance 10000000000;
      a.since (a.bank 1).roundAt (1000000 * a.r (Reg.bdgOFF_PERIOD 1)) = true ∧ (a.bank 1).test = some (9, 0) ∧ a.testOk 1 = true ∧
        a.since 0 100000 = true ∧ 9 / 8 = 1) ∧
    (let a := (sTest 4 2).advance 10000000000;
      (a.bank 1).test = some (9, 0) ∧ a.testOk 1 = false ∧ (a.chan 9).railOn = some 0 ∧ a.onOk 9 = true ∧ a.since 0 10000 = true) := by
  decide +kernel

theorem witness_ClearsAndClosing : (let a := (sCd none).advance 1000000;
      a.accCheck dbg (Reg.chdDIAG_CLEAR 9) (keySize (Reg.chdDIAG_CLEAR 9)) 1 true = 0 ∧
      a.accCheck dbg (Reg.bdgBANK_DIAG_CLEAR 1) (keySize (Reg.bdgBANK_DIAG_CLEAR 1)) 1 true = 0 ∧
      (a.bank 1).cd = some (cdW none) ∧ (cdW none).ch = 9 ∧ (cdW none).openAt = none ∧
      (cdW none).decayEnd + tenth (cdW none).par.cdStart ≤ a.up) ∧
    (let a := (sCd (some 0)).advance 1000000000; let c := cdW (some 0);
      (a.bank 1).cd = some c ∧ c.openAt = some 0 ∧ a.since 0 (tenth c.par.cdLen) = true ∧
      kink ((blockSums kinked).take (c.par.cdLen / 4)) c.par.cdSpan (decide (c.par.cdPol = 1)) = some (50, 6120) ∧
      (8 * c.par.cdThresh : Int) ≤ 6120 ∧
      kink ((blockSums []).take (c.par.cdLen / 4)) c.par.cdSpan (decide (c.par.cdPol = 1)) = none) := by decide +kernel

theorem witness_Calibration : (let a := (sCal 1).advance 1000000000;
      a.calRuns 9 = true ∧ calValsOk (calV 32768) 9 = true ∧ calValsOk (calV 0) 9 = false ∧ a.follower = false ∧
      a.r (Reg.chdCH_FAULT 9) = 0 ∧ 9 ∈ a.pwr.calLeft ∧ a.since (a.chan 9).calSince 100000000 = true ∧
      a.accCheck dbg Reg.calCAL_NOW (keySize Reg.calCAL_NOW) 1 true = 0 ∧ a.r Reg.calCAL_STATE = 1) ∧
    (let a := (sCal 0).advance 1000000000;
      a.accCheck dbg Reg.calCAL_NOW (keySize Reg.calCAL_NOW) 1 true = 0 ∧ a.r Reg.calCAL_STATE ≠ 1 ∧ a.calChans ≠ []) := by decide +kernel

theorem witness_TickRunsOnce : (let a := State.reset.advance 2000000;
      a.tick.next ≤ a.now / (1000 * a.r Reg.opTICK_PERIOD)) ∧
    (let a := ({ State.reset with tick := { next := 3 } } : State).advance 2000000;
      a.now / (1000 * a.r Reg.opTICK_PERIOD) < a.tick.next) := by decide +kernel

/-! ## Zones, heads and pipelines -/

def sPair (auth : Bool) : State := { objs [(Reg.laneLANE_STATE 88, 4)] with pair := { mode := true, authority := auth } }

def sZone : State := { objs [(Reg.zbZONE_RUN 191, 1)] with zones := [(191, { init := true })] }

/-- A packet of type ty with the payload d. -/
def pktOf (ty : Nat) (d : Bytes) : HeadPkt :=
  let w := toWords d
  let p : HeadPkt := ⟨1, 1, w.length, w, 0, none⟩
  { p with crc := crc32 (pktBytes p ty) }

/-- Head 3 on a trained lane in an attach state. -/
def sHead (st : Nat) (x : Head) (l : List (Nat × Nat) := []) : State :=
  { objs ([(Reg.laneLANE_STATE 3, 4), (Reg.hdATTACH_STATE 3, st), (Reg.hdNATIVE_W 3, 64), (Reg.hdNATIVE_H 3, 64), (Reg.hsWIDTH 3, 64),
      (Reg.hsHEIGHT 3, 64), (Reg.thmDOMAINS_UP, 0xFFFFF)] ++ l) with heads := [(3, x)] }

def cmdOf (code : Nat) (args : Bytes) (w : Option Nat) : HeadCmd := { code := code, args := args, req := 9, tries := 1, waiting := w }
def sStep9 : State := sHead 1 { cmd := some (cmdOf 0x0B [2] none), step := 9 }
def sUpload : State := sHead 1 { cmd := some (cmdOf 0x06 [0, 0, 0, 0, 0, 16, 0, 0, 0] none), up := [1, 2, 3, 4], step := 5 }
def pReply : HeadPkt := pktOf 0x41 [0x0B, 9, 0, 0]
def pTable : HeadPkt := pktOf 0x42 [0, 0, 0, 0, 4, 0, 0, 0, 9, 9, 9, 9]
def pEvent : HeadPkt := pktOf 0x43 [5, 0, 0, 0]

def sWb : State := { sHead 3 { session := true, wb := some ⟨1, 5, List.replicate 12 0, 0, 1, 0⟩ } with
  hrx := [(3, { minutes := 10, winSum := 5999, winN := 1 })] }

/-- The set of a 64 x 2 window. -/
def pset (tag : Nat) : Sys2Proof.Machine.PSet := ⟨tag, .host, [(0x101, 64), (0x102, 2), (0x103, 1000), (0x10C, 50), (0x402, 300)], [], 0, [], false, [], 0, 0⟩
def sPipe (p : Pipe) : State := { sHead 3 {} with pipes := [(3, p)] }
def sIdle : State := sPipe { cur := some (pset 7) }
def sNew : State := sPipe { cur := some (pset 7), armed := some (pset 8) }
def frOf : Frame := {
  cnt := 5, tag := 7, set := pset 7, at_ := 0, t0 := 0, row := 0, interval := 1000, width := 64, height := 2, dT := 0, substrate := 0
  winT := 0, shutter := 0x80 }
def sOpen : State := { sPipe { cur := some (pset 7), frame := some frOf } with hrx := [(3, { sofAt := some 0, interval := 1000 })] }
def pSof (tag : Nat) : HeadPkt := pktOf 0x01 (leBytes 4 6 ++ leBytes 8 0 ++ leBytes 2 tag ++ leBytes 2 2500 ++ leBytes 4 1000 ++ leBytes 2 10 ++
  leBytes 2 3000 ++ leBytes 2 0x80 ++ leBytes 2 64 ++ leBytes 2 2 ++ leBytes 2 0 ++ leBytes 4 0)
def pLine : HeadPkt := pktOf 0x02 (leBytes 2 5 ++ leBytes 2 0 ++ leBytes 2 64 ++ leBytes 2 0 ++ List.replicate 128 1)
def pEof : HeadPkt := pktOf 0x03 (leBytes 4 5 ++ leBytes 4 2 ++ leBytes 8 0)

theorem witness_DemandsTaken :
    (let a := (sPair false).advance 1000; a.pair.mode = true ∧ a.partnerLane = true ∧ a.auth = false) ∧
    (let a := (sPair true).advance 1000; a.pair.mode = true ∧ a.partnerLane = true ∧ a.auth = true) := by decide +kernel

theorem witness_ZoneDemandLimits : 0 ≤ 5000 ∧ 5000 ≤ 5000 ∧ (-10000 : Rat) ≤ 10000 ∧ (-10000 : Rat) ≤ -10000 ∧
    (piLaw 100 10000 10100 0 0 (1/2) 1 0 5000 50 5000).windup = true := by decide +kernel

theorem witness_SafeZone : let s := sZone
    191 < 192 ∧ (s.zone 191).init = true ∧ (s.zone 191).cfgErr = false ∧ s.safeCauses 191 true ≠ 0 ∧
      s.r (Reg.zsINTEGRAL 191) < 2 ^ 32 := by decide +kernel

theorem witness_HeadPackets : (State.reset.advance 0).laneUp 3 = false ∧
    (let a := sStep9.advance 1000
     a.laneUp 3 = true ∧ pktOk pEvent 0x41 = false ∧ pktOk pReply 0x41 = true ∧ (a.hd 3).cmd = some (cmdOf 0x0B [2] none) ∧
      fld 0 1 (cmdOf 0x0B [2] none).args = 2 ∧ (cmdOf 0x0B [2] none).waiting = none ∧ (cmdOf 0x0B [2] none).void = false ∧ (a.hd 3).step = 9 ∧ (a.hd 3).queue = [] ∧
      fld 0 1 (pktData pReply) = 0x0B ∧ fld 1 1 (pktData pReply) = (cmdOf 0x0B [2] none).req ∧ fld 2 1 (pktData pReply) = 0) ∧
    (let a := sUpload.advance 1000
     a.laneUp 3 = true ∧ pktOk pTable 0x42 = true ∧ ∃ c, (a.hd 3).cmd = some c ∧ c.code = 0x06 ∧
      pTable.words.headD 0 % 256 = fld 0 1 c.args ∧ (pTable.words.drop 1).headD 0 = fld 1 4 c.args + (a.hd 3).up.length) ∧
    (let a := sUpload.advance 1000
     pktOk pEvent 0x43 = true ∧ tget none (a.od.holds.map fun e => (e.1, some e.2)) (0x0104 * 65536 + 3) = none) :=
  ⟨by decide +kernel, by decide +kernel, ⟨by decide +kernel, by decide +kernel, _, rfl, by decide +kernel⟩, by decide +kernel⟩

def sBusy : State := sHead 2 { cmd := some (cmdOf 5 [] (some 0)) }

/-- Two-unit operation with a new epoch being stored. -/
def sStoring (s : State) : State := { s with pair := { s.pair with storing := some (5, .adopt) } }

theorem witness_HeadTimers :
    (let a := (sHead 2 {}).advance 100000000
     a.attached 3 = true ∧ a.since (a.hd 3).lastProbe 100000000 = true ∧ (a.hd 3).cmd = none ∧ (a.hd 3).queue = []) ∧
    (let a := sStep9.advance 1000000; let c := cmdOf 0x0B [2] none
     (a.hd 3).cmd = some c ∧ c.waiting = none ∧ c.sentAt + cmdTimeoutNs c.code ≤ a.up ∧ c.tries < 2 ∧ c.void = false ∧
      a.notSent c.code = false ∧ a.epochWaits c.code = false) ∧
    (let a := sBusy.advance 10000000; let c := cmdOf 5 [] (some 0)
     (a.hd 3).cmd = some c ∧ c.waiting = some 0 ∧ 0 + 10000000 ≤ a.up ∧ a.notSent c.code = false ∧ a.epochWaits c.code = false) ∧
    (let a := (sStoring sStep9).advance 1000000; let c := cmdOf 0x0B [2] none
     (a.hd 3).cmd = some c ∧ c.waiting = none ∧ c.sentAt + cmdTimeoutNs c.code ≤ a.up ∧ c.tries < 2 ∧ c.void = false ∧
      a.notSent c.code = false ∧ a.epochWaits c.code = true) ∧
    (let a := (sStoring sBusy).advance 10000000; let c := cmdOf 5 [] (some 0)
     (a.hd 3).cmd = some c ∧ c.waiting = some 0 ∧ 0 + 10000000 ≤ a.up ∧ a.notSent c.code = false ∧ a.epochWaits c.code = true) ∧
    (let a := (sHead 1 { authRetryAt := some 0 }).advance 1000000000
     (a.hd 3).authRetryAt = some 0 ∧ a.since 0 1000000000 = true ∧ a.laneUp 3 = true) ∧
    (let a := (sHead 4 { retryAt := some 0 }).advance 1000000000
     (a.hd 3).retryAt = some 0 ∧ a.since 0 1000000000 = true ∧ a.laneUp 3 = true) := by decide +kernel

theorem witness_HeadLife : let a := sWb.advance 60000000000
    (a.attach 3 = atSTREAMING ∧ a.since (a.hr 3).minuteAt 60000000000 = true ∧ 0 < (a.hr 3).winN) ∧
    (10 ≤ (a.hr 3).minutes ∧ (a.hd 3).session = true ∧ a.follower = false) ∧
    (let w : WriteBack := ⟨1, 5, List.replicate 12 0, 0, 1, 0⟩
     (a.hd 3).wb = some w ∧ w.stage = 1 ∧ a.since w.lastAt 8000000 = true ∧ w.sent < w.offs.length ∧ a.pair.storing = none) := by decide +kernel

/-- What FramesRun asks of the state for a SOF p. -/
def takesSof (a : State) (p : HeadPkt) : Bool :=
  a.laneUp 3 && pktOk p 0x01 && decide (a.attach 3 = atSTREAMING ∧ (a.hd 3).step ≠ 10 ∧ (a.pipe 3).frame = none ∧ (a.fold 3).run = none ∧
    (a.hr 3).rebuilt = [] ∧ a.r Reg.dbgHALT_PIPES = 0 ∧ a.r Reg.dbgHALTED_PIPES = 0 ∧ a.r Reg.dbgHALT_STATIONS = 0 ∧
    a.r Reg.dbgHALTED_STATIONS = 0 ∧ bit 3 a.shep.hdPend = false ∧ (sofOf (pktData p)).epoch ≤ a.epoch)

theorem witness_FramesRun :
    (let a := sIdle.advance 1000; let f := sofOf (pktData (pSof 7)); let c := pset 7
     takesSof a (pSof 7) = true ∧ (a.pipe 3).cur = some c ∧ (a.pipe 3).armed = none ∧ c.v 0x101 = f.width ∧ c.v 0x102 = f.height ∧
      ((a.hr 3).subDue && decide (c.kind = .attach ∧ c.tag = f.tag)) = false) ∧
    (let a := sNew.advance 1000; let f := sofOf (pktData (pSof 8)); let q := pset 8
     takesSof a (pSof 8) = true ∧ (a.pipe 3).cur = some (pset 7) ∧ (a.pipe 3).armed = some q ∧ q.tag = f.tag ∧ q.v 0x101 = f.width ∧
      q.v 0x102 = f.height) ∧
    (let a := sOpen.advance 1000; let f := frOf; let d := pktData pLine
     (a.pipe 3).frame = some f ∧ a.laneUp 3 = true ∧ pktOk pLine 0x02 = true ∧ fld 0 2 d = f.cnt % 65536 ∧ fld 2 2 d = f.next ∧
      f.next < f.height ∧ fld 4 2 d = f.width ∧ bit 0 (fld 6 1 d) = false ∧ (f.buf.filter fun b => b.px.isSome).length < 8 ∧
      pktOk pEof 0x03 = true ∧ fld 0 4 (pktData pEof) = f.cnt ∧ f.buf = []) ∧
    (let a := sOpen.advance 2000; let f := frOf; let c := pset 7
     a.since f.at_ (f.interval + f.interval * f.set.v 0x10C / 100) = true ∧ (a.pipe 3).cur = some c ∧ (a.hr 3).sofAt = some 0 ∧
      a.attach 3 = atSTREAMING ∧ (a.hr 3).late ≠ 7 ∧
      a.since 0 (((a.hr 3).late + 1) * (a.hr 3).interval + c.v 0x10C * (a.hr 3).interval / 100) = true) := by decide +kernel

/-! ## Actions of heads, Fold, web, writes, memory -/

/-- The memory trained: 64 GB at 6,400 MT/s. -/
def memOn : List (Nat × Nat) := [(Reg.memMEM_STATE, 3), (Reg.memRATE_ACTIVE, 6400), (Reg.memDENSITY, 32), (Reg.memCAPACITY, 64),
  (Reg.memIN_SERVICE, 0xFFFF), (Reg.rgnSIZE 0, 2 ^ 34), (Reg.rgnSIZE 1, 2 ^ 34), (Reg.rgnSIZE 2, 2 ^ 34)]

def sCur (tags : List Nat) : State := { sHead 3 {} ((Reg.laneRATE_ACTIVE 3, 4) :: memOn) with
  pipes := [(3, { cur := some (pset 7), armed := tags.head?.map pset })] }

def runOf (o : Option Nat) : Fold := { cause := 0, par := [0, 0, 0, 0, 0, 0], replied := o }
def sFold (st : Nat) (r : Option Fold) : State := { sHead 3 {} [(Reg.hlFOLD_STATE 3, st)] with
  pipes := [(3, { cur := some { pset 7 with vals := [(0x101, 1), (0x102, 1)] } })], folds := [(3, { run := r, attachDue := true })]
  px := { meas := [(3, List.replicate 4 [⟨0, 0, 900, 0, true, true, false⟩])] }, hrx := [(3, { reopen := true })] }

/-- A frame as it arrives on port 0 from node src. -/
def inFrame (ty dst src : Nat) (d : Bytes) : RingFrame :=
  sealFrame ⟨0, ty, dst, false, src, 0, 10, d.length / 4, 1, 0, 0, 0, d, 0, false, 0⟩

/-- Node 5 with trained ring ports. -/
def sRing (l : List (Nat × Nat)) : State := { objs ((List.range 8).map (fun i => (Reg.laneLANE_STATE (80 + i), 4)) ++
  (List.range 8).map (fun i => (Reg.laneRATE_ACTIVE (80 + i), 4)) ++ [(Reg.nodeACTIVE_ADDR, 5), (Reg.portPORT_STATE 0, 2), (Reg.portPORT_STATE 1, 2)] ++ l) with
  ring := { ports := [(0, { wrapped := false }), (1, { wrapped := false })], joined := true } }

def sCov : State := sRing [(Reg.covCOV_ENABLE, 1), (Reg.covCOV_COLS, 2)]
def covFrame (cols : Nat) : RingFrame := inFrame 0x30 0x7F 0 (leBytes 4 1 ++ [0xFF, 1] ++ leBytes 2 cols ++ leBytes 16 0 ++ leBytes 8 0 ++
  leBytes 4 (State.reset.r Reg.covCOV_PITCH) ++ leBytes 4 (State.reset.r Reg.covCOV_COL_W) ++ leBytes 4 (State.reset.r Reg.covCOV_X0) ++
  leBytes 4 0 ++ leBytes 4 0x80018000)

def sSlot : State := { sHead 3 {} [(Reg.stRUN 1, 1), (Reg.opDEVICE_STATE, 3), (Reg.slotHEAD 10, 3)] with
  pipes := [(3, { cur := some (pset 7), copying := 1 })], blobs := [(Reg.slotMAP 10, [1, 0, 0, 0, 64, 0, 64, 0])] }
def sShed : State := { objs (memOn ++ [(Reg.shpSHED_HEADS, 8)]) with shep := { watch := some (259, 0) } }

def sMem (l : List (Nat × Nat)) : State := objs (memOn ++ l)
def sPair2 : State := { objs (memOn ++ [(Reg.laneLANE_STATE 88, 4), (Reg.prPARTNER_STATE, 1)]) with pair := { mode := true, lastHb := some 0 } }

def mapBody : Bytes := (List.range 561).flatMap fun (k : Nat) => leBytes 4 (1000 * (k % 33) + k / 33) ++ leBytes 4 (1000 * (k / 33) + k % 33)
def goodMap : Bytes := leBytes 2 33 ++ leBytes 2 17 ++ leBytes 2 64 ++ leBytes 2 64 ++ leBytes 4 (crc32 mapBody) ++ leBytes 4 0 ++ mapBody
def tabBody : Bytes := (List.range 256).flatMap fun _ => leBytes 2 1639
def goodTable : Bytes := leBytes 4 500 ++ leBytes 4 0 ++ leBytes 4 256 ++ leBytes 4 (crc32 tabBody) ++ tabBody
def sBound : State := { sMem [] with pipes := [(3, { cur := some (pset 7), armed := some { pset 8 with slots := 0xFF } })] }

/-- A read of a block of subchannel 5 with wrong symbols. -/
def rd (e : List (Nat × Nat)) (l : Nat := 0) : MemRead := ⟨5, l, 0, 0, 0, e, rowTag 5 (rowOf l).1, []⟩

/-- Sweeps of every byte lane at nine VREF steps that pass at 80 delays. -/
def eyeSweeps : List LaneSweep := [0, 1, 2, 3].flatMap fun (l : Fin 4) => [false, true].flatMap fun w =>
  (List.range 9).map fun v => ⟨l, w, 56 + v, (2 ^ 80 - 1) * 2 ^ 20⟩
def sLast : State := { sMem [] with mem := { subs := (5, { scrubAt := 125829119 }) :: ((List.range 16).filter (· ≠ 5)).map fun k => (k, { scrubAt := 125829120 }) } }
def sRetrain : State := { sMem [] with mem := { subs := [(5, { retrain := 3 })] } }

theorem crcBit_lt (c : Nat) (h : c < 2 ^ 32) : crcBit c < 2 ^ 32 := by
  unfold crcBit; split
  · exact Nat.xor_lt_two_pow (by omega) (by decide)
  · omega

theorem crc32_lt (b : Bytes) : crc32 b < 2 ^ 32 := by
  have h : ∀ (l : Bytes) (c : Nat), c < 2 ^ 32 → l.foldl crcByte c < 2 ^ 32 := by
    intro l; induction l with
    | nil => exact fun _ h => h
    | cons x l ih =>
      intro c hc
      have hx : c ^^^ x.toNat < 2 ^ 32 := Nat.xor_lt_two_pow hc (Nat.lt_of_lt_of_le x.isLt (by decide))
      exact ih _ (crcBit_lt _ (crcBit_lt _ (crcBit_lt _ (crcBit_lt _ (crcBit_lt _ (crcBit_lt _ (crcBit_lt _ (crcBit_lt _ hx))))))))
  exact Nat.xor_lt_two_pow (h b _ (by decide)) (by decide)

theorem leNat_leBytes (n v : Nat) : leNat (leBytes n v) = v % 256 ^ n := by
  induction n generalizing v with
  | zero => simp [leBytes, leNat, Nat.mod_one]
  | succ n ih =>
    simp only [leBytes, leNat, ih, BitVec.toNat_ofNat]
    rw [show 256 ^ (n + 1) = 256 * 256 ^ n by rw [Nat.pow_succ, Nat.mul_comm], Nat.mod_mul]

theorem leBytes_length (n v : Nat) : (leBytes n v).length = n := by
  induction n generalizing v with
  | zero => rfl
  | succ n ih => simp [leBytes, ih]

theorem drop_flat (f : Nat → Bytes) (n : Nat) (hf : ∀ k, (f k).length = n) (l : List Nat) (k : Nat) :
    (l.flatMap f).drop (n * k) = (l.drop k).flatMap f := by
  induction k generalizing l with
  | zero => simp
  | succ k ih => cases l with
    | nil => simp
    | cons x l =>
      rw [List.flatMap_cons, Nat.mul_succ, Nat.add_comm, ← List.drop_drop, List.drop_left' (hf x), ih]
      rfl

/-- Node (i, j) of the map that serves as a witness. -/
theorem goodMap_node (i j : Nat) (hi : i < 33) (hj : j < 17) : mapNode goodMap i j = (((1000 * i + j : Nat) : Int), ((1000 * j + i : Nat) : Int)) := by
  have hd : goodMap = leBytes 2 33 ++ leBytes 2 17 ++ leBytes 2 64 ++ leBytes 2 64 ++ leBytes 4 (crc32 mapBody) ++ leBytes 4 0 ++ mapBody := rfl
  have hk : 33 * j + i < 561 := by omega
  have hb : goodMap.drop (16 + 8 * (33 * j + i)) = ((List.range 561).drop (33 * j + i)).flatMap
      fun (k : Nat) => leBytes 4 (1000 * (k % 33) + k / 33) ++ leBytes 4 (1000 * (k / 33) + k % 33) := by
    rw [hd, ← List.drop_drop, List.drop_left' (by simp [leBytes_length]), mapBody]
    exact drop_flat _ 8 (fun k => by simp [leBytes_length]) _ _
  have hr : (List.range 561).drop (33 * j + i) = (33 * j + i) :: (List.range 561).drop (33 * j + i + 1) := by
    rw [List.drop_eq_getElem_cons (by simpa using hk)]; simp
  have e1 : (33 * j + i) % 33 = i := by omega
  have e2 : (33 * j + i) / 33 = j := by omega
  unfold mapNode
  rw [hr, List.flatMap_cons, e1, e2] at hb
  have h1 : fld (16 + 8 * (33 * j + i)) 4 goodMap = 1000 * i + j := by
    unfold fld
    rw [hb, List.append_assoc, List.take_left' (leBytes_length _ _), leNat_leBytes]
    omega
  have h2 : fld (16 + 8 * (33 * j + i) + 4) 4 goodMap = 1000 * j + i := by
    unfold fld
    rw [← List.drop_drop, hb, List.append_assoc, List.drop_left' (leBytes_length _ _), List.take_left' (leBytes_length _ _), leNat_leBytes]
    omega
  have sg : ∀ v : Nat, v < 100000 → sgn 32 v = (v : Int) := fun v h => by
    unfold sgn
    rw [Nat.mod_eq_of_lt (Nat.lt_of_lt_of_le h (by decide)), if_pos (Nat.lt_of_lt_of_le h (by decide))]
  simp only [h1, h2]
  rw [sg _ (by omega), sg _ (by omega)]

theorem goodMap_length : goodMap.length = 4504 := by
  have h : ∀ l : List Nat, (l.flatMap fun (k : Nat) => leBytes 4 (1000 * (k % 33) + k / 33) ++ leBytes 4 (1000 * (k / 33) + k % 33)).length = 8 * l.length := by
    intro l; induction l with
    | nil => rfl
    | cons x l ih => simp only [List.flatMap_cons, List.length_append, leBytes_length, ih, List.length_cons]; omega
  simp only [goodMap, mapBody, List.length_append, leBytes_length, h, List.length_range]

theorem goodMap_ok : mapOk goodMap = true := by
  have hc : fld 8 4 goodMap = crc32 (goodMap.drop 16) := by
    have hd : goodMap = leBytes 2 33 ++ leBytes 2 17 ++ leBytes 2 64 ++ leBytes 2 64 ++ (leBytes 4 (crc32 mapBody) ++ (leBytes 4 0 ++ mapBody)) := by
      simp only [goodMap, List.append_assoc]
    have h1 : goodMap.drop 16 = mapBody := by
      rw [goodMap, List.drop_left' (by simp [leBytes_length])]
    rw [h1, fld, hd, List.drop_left' (by simp [leBytes_length]), List.take_left' (leBytes_length _ _), leNat_leBytes]
    exact Nat.mod_eq_of_lt (crc32_lt _)
  have r1 : ∀ j, j < 17 → (List.range 33).map (fun i => (mapNode goodMap i j).1) = (List.range 33).map fun i => ((1000 * i + j : Nat) : Int) :=
    fun j hj => List.map_congr_left fun i hi => by rw [goodMap_node i j (by simpa using hi) hj]
  have r2 : ∀ j, j < 17 → (List.range 33).map (fun i => (mapNode goodMap i j).2) = (List.range 33).map fun i => ((1000 * j + i : Nat) : Int) :=
    fun j hj => List.map_congr_left fun i hi => by rw [goodMap_node i j (by simpa using hi) hj]
  have r3 : ∀ i, i < 33 → (List.range 17).map (fun j => (mapNode goodMap i j).1) = (List.range 17).map fun j => ((1000 * i + j : Nat) : Int) :=
    fun i hi => List.map_congr_left fun j hj => by rw [goodMap_node i j hi (by simpa using hj)]
  have r4 : ∀ i, i < 33 → (List.range 17).map (fun j => (mapNode goodMap i j).2) = (List.range 17).map fun j => ((1000 * j + i : Nat) : Int) :=
    fun i hi => List.map_congr_left fun j hj => by rw [goodMap_node i j hi (by simpa using hj)]
  have s1 : ∀ j, j < 17 → (rises ((List.range 33).map fun i => ((1000 * i + j : Nat) : Int)) &&
      rises ((List.range 33).map fun i => ((1000 * j + i : Nat) : Int))) = true := by decide +kernel
  have s2 : ∀ i, i < 33 → (rises ((List.range 17).map fun j => ((1000 * i + j : Nat) : Int)) &&
      rises ((List.range 17).map fun j => ((1000 * j + i : Nat) : Int))) = true := by decide +kernel
  have f1 : fld 0 2 goodMap = 33 := by
    have hd : goodMap = leBytes 2 33 ++ (leBytes 2 17 ++ (leBytes 2 64 ++ (leBytes 2 64 ++ (leBytes 4 (crc32 mapBody) ++ (leBytes 4 0 ++ mapBody))))) := by
      simp only [goodMap, List.append_assoc]
    rw [fld, hd, List.drop_zero, List.take_left' (leBytes_length _ _), leNat_leBytes]; rfl
  have f2 : fld 2 2 goodMap = 17 := by
    have hd : goodMap = leBytes 2 33 ++ (leBytes 2 17 ++ (leBytes 2 64 ++ (leBytes 2 64 ++ (leBytes 4 (crc32 mapBody) ++ (leBytes 4 0 ++ mapBody))))) := by
      simp only [goodMap, List.append_assoc]
    rw [fld, hd, List.drop_left' (leBytes_length _ _), List.take_left' (leBytes_length _ _), leNat_leBytes]; rfl
  unfold mapOk
  simp only [Bool.and_eq_true, decide_eq_true_eq, List.all_eq_true, List.mem_range]
  refine ⟨⟨⟨goodMap_length, f1, f2, hc⟩, fun j hj => ?_⟩, fun i hi => ?_⟩
  · rw [r1 j hj, r2 j hj]; exact Bool.and_eq_true_iff.mp (s1 j hj)
  · rw [r3 i hi, r4 i hi]; exact Bool.and_eq_true_iff.mp (s2 i hi)

theorem witness_HeadActions :
    (let b := ((sCur []).advance 1000).actStart dbg.src (Reg.hsCOMMIT 3) 1 (keySize (Reg.hsCOMMIT 3))
     ((sCur []).advance 1000).accCheck dbg (Reg.hsCOMMIT 3) (keySize (Reg.hsCOMMIT 3)) 1 true = 0 ∧
      b.commitCode 3 (b.hostSet 3) = 0 ∧ (b.withArmed 3 (some (b.hostSet 3))).check.1 = 0 ∧ b.partnerUp = false ∧ (sCur []).shep.cands = []) ∧
    (let b := ((sCur [8]).advance 1000).actStart dbg.src (Reg.hsCOMMIT 3) 1 (keySize (Reg.hsCOMMIT 3))
     ((sCur [8]).advance 1000).accCheck dbg (Reg.hsCOMMIT 3) (keySize (Reg.hsCOMMIT 3)) 1 true = 0 ∧ b.commitCode 3 (b.hostSet 3) ≠ 0) ∧
    (let a := (sCur []).advance 1000
     a.accCheck dbg (Reg.pcTAU_COMMIT 3) (keySize (Reg.pcTAU_COMMIT 3)) 1 true = 0 ∧ (a.pipe 3).cur = some (pset 7) ∧
      a.attached 3 = true ∧ a.mustWait 3 = false ∧
      a.accCheck dbg (Reg.pcPERSIST_CLEAR 3) (keySize (Reg.pcPERSIST_CLEAR 3)) 1 true = 0 ∧
      a.accCheck dbg (Reg.hlFOLD_NOW 3) (keySize (Reg.hlFOLD_NOW 3)) 1 true = 0 ∧ a.attach 3 = atSTREAMING ∧ (a.fold 3).run = none) ∧
    (let a := State.reset.advance 1000
     a.accCheck dbg (Reg.hdREBIND 3) (keySize (Reg.hdREBIND 3)) 1 true = 0 ∧ a.laneUp 3 = false) := by decide +kernel

theorem witness_FoldRuns :
    (let a := (sFold 0 none).advance 100000000; let f := a.fold 3
     a.attach 3 = atSTREAMING ∧ a.since f.confAt 100000000 = true ∧ a.since f.evalAt 100000000 = true ∧ f.run = none ∧
      a.follower = false ∧ a.rb Reg.dbgHALTED_PIPES 3 = false ∧ (a.pipe 3).armed = none ∧ f.attachDue = true) ∧
    (let a := (sFold 1 (some (runOf (some 0)))).advance 100000000; let r := runOf (some 0)
     (a.fold 3).run = some r ∧ r.replied = some 0 ∧ r.first = none ∧ a.r (Reg.hlFOLD_STATE 3) = 1 ∧
      a.since 0 (8 * (a.pipe 3).curInterval) = true) ∧
    (let a := (sFold 5 (some { runOf none with skips := 9 })).advance 1000000000
     ∃ r c, (a.fold 3).run = some r ∧ (a.pipe 3).cur = some c ∧ a.r (Reg.hlFOLD_STATE 3) = 5 ∧ (a.foldCheck 3 r c).code ≠ 0 ∧
      (a.hr 3).reopen = true ∧ a.attached 3 = true ∧ a.since (a.hr 3).reopenAt 1000000000 = true) ∧
    (let a := (sFold 5 (some (runOf none))).advance 1000
     ∃ r c, (a.fold 3).run = some r ∧ (a.pipe 3).cur = some c ∧ a.r (Reg.hlFOLD_STATE 3) = 5 ∧ (a.foldCheck 3 r c).code = 0) :=
  ⟨by decide +kernel, by decide +kernel, ⟨_, _, rfl, rfl, by decide +kernel⟩, ⟨_, _, rfl, rfl, by decide +kernel⟩⟩

theorem witness_Encoders : phaseStep false false false false = 0 ∧ phaseStep false false true true = 2 ∧
    (phaseStep false false true false = 1 ∧ (State.reset.advance 0).r (Reg.encENC_INVERT 2) ≠ 1) ∧ phaseStep false false false true = 3 := by
  decide +kernel

/-- Encoder 2 has counted 384 steps forward in the last millisecond. -/
def sEnc : State := { State.reset with encs := [(2, { counts := List.replicate 384 (600000, true) })] }

theorem witness_EncoderSpeed :
    (let a := sEnc.advance 1000000
     a.since (a.enc 2).speedAt 1000000 = true ∧ (a.enc 2).netAt a.up = 384 ∧ a.r (Reg.encENC_SCALE 2) = 15625000 ∧
      (384 * 15625000 : Int) = 1000 * 6000000) ∧
    (let a := sEnc.advance 1000; a.since (a.enc 2).speedAt 1000000 = false) := by decide +kernel

theorem witness_CoverageAndRestores :
    (let a := sCov.advance 1000
     (covFrame 2).ty = 0x30 ∧ (covFrame 2).src = 0 ∧ a.forAll (covFrame 2) = true ∧ a.r Reg.covCOV_ENABLE = 1 ∧
      a.covOk (covFrame 2).payload = true ∧ fld 5 1 (covFrame 2).payload = 1 ∧ a.forAll (covFrame 3) = true ∧
      a.covOk (covFrame 3).payload = false) ∧
    (let a := sSlot.advance 100000000
     a.stActive 1 = true ∧ bit 1 a.shep.stPend = false ∧ a.slotPresent 10 = true ∧ (a.pipe (a.slotHead 10)).cur = some (pset 7) ∧
      a.since (a.slotRun 10).at_ ((pset 7).v 0x103 + (pset 7).v 0x103 * (pset 7).v 0x10C / 100) = true ∧ (a.pipe 3).copying = 1) ∧
    ((sShed.advance 300000000000).watchStep.restoreDue = some 259 ∧ (sShed.advance 300000000000).shep.cands = [] ∧
      (sShed.advance 300000000000).partnerUp = false) := by decide +kernel

theorem witness_PlainWrites :
    ((sMem []).advance 0).writeGoes dbg (Reg.stRUN 1) 1 = true ∧
    (let a := sPair2.advance 0; a.accCheck ⟨7, 0⟩ (Reg.stRUN 1) (keySize (Reg.stRUN 1)) 99 (a.relOk (a.w (Reg.stRUN 1) 99) (Reg.stRUN 1)) ≠ 0) ∧
    (let a := State.reset.advance 0; let k := Reg.stRUN 1
     a.accCheck dbg k (keySize k) 1 (a.relOk (a.w k 1) k) = 0 ∧ a.admits k 1 = true ∧ dbg.src ≠ 0x41 ∧ (a.stored [(k, 1)]).check.1 ≠ 0) ∧
    (let a := sPair2.advance 0; let k := Reg.stRUN 1
     a.accCheck dbg k (keySize k) 1 (a.relOk (a.w k 1) k) = 0 ∧ a.admits k 1 = true ∧ (a.stored [(k, 1)]).check.1 = 0 ∧
      a.partnerUp = true) ∧
    State.noWriteBreak (State.reset.advance 0) ∧ (State.reset.advance 0).writeGoes dbg Reg.dbgHALT_PIPES 1 = true :=
  ⟨by decide +kernel, by decide +kernel, by decide +kernel, by decide +kernel, by unfold State.noWriteBreak; decide +kernel, by decide +kernel⟩

set_option maxRecDepth 20000 in
theorem witness_BlockWrites :
    (let a := (sMem []).advance 0
     a.blockCheck dbg (Reg.slotMAP 10) 1 4504 ≠ 0 ∧ a.blockCheck dbg (Reg.slotMAP 10) 0 4504 = 0 ∧ goodMap.length = 4504) ∧
    mapOk goodMap = true ∧
    (let a := (sMem []).advance 0; let d : Bytes := List.replicate 32 7
     a.blockCheck dbg (Reg.slotMAP 10) 0 32 ≠ 0 ∧ a.blockCheck dbg (tabKey 36 1) 0 528 = 0 ∧ a.writeSlot 36 = some 1 ∧ tabBytes 36 = 528 ∧
      a.blockCheck dbg (tabKey 36 1) 600 528 ≠ 0 ∧ a.blockCheck dbg Reg.lcOWNER_KEY 0 d.length = 0) ∧
    (goodTable.length = tabBytes 36 ∧ validTable 36 goodTable = true) ∧
    (validTable 36 (List.replicate 528 7) = false ∧ (List.replicate 528 (7 : Byte)).length = tabBytes 36) ∧
    (let a := sBound.advance 0; a.blockCheck dbg (tabKey 36 1) 0 528 = 0 ∧ a.writeSlot 36 = none) :=
  ⟨⟨by decide +kernel, by decide +kernel, goodMap_length⟩, goodMap_ok, by decide +kernel, by decide +kernel, by decide +kernel, by decide +kernel⟩

theorem witness_MemoryCommands :
    (let a := (sMem []).advance 10000000
     a.r Reg.memMEM_STATE = 3 ∧ a.rb Reg.memIN_SERVICE 5 = true ∧ (a.subCh 5).retrain ≠ 2 ∧
      (a.subCh 5).refreshAt + (a.subCh 5).interval ≤ a.up ∧ a.r (Reg.subBACKLOG 5) + 1 ≤ bandLimit (a.r (Reg.subBAND 5)) ∧
      (⟨1, 300, 8, false⟩ : MemReq).cls.val < 3 ∧ (⟨1, 300, 8, false⟩ : MemReq).block ≠ (⟨4, 900000, 9, true⟩ : MemReq).block ∧
      (a.subCh 5).fix = []) ∧
    (let a := (sMem [(Reg.subBACKLOG 5, 8)]).advance 10000000
     (a.subCh 5).refreshAt + (a.subCh 5).interval ≤ a.up ∧ bandLimit (a.r (Reg.subBAND 5)) < a.r (Reg.subBACKLOG 5) + 1) ∧
    (let a := ({ sMem [] with mem := { subs := [(5, { retrain := 2 })] } } : State).advance 10000000
     let x := a.subCh 5
     x.retrain = 2 ∧ x.slices + a.r (Reg.subBACKLOG 5) + 1 < 2048 ∧ trackSwept x.eyes (x.sweeps ++ eyeSweeps.take 2) = false) ∧
    (let a := (sMem []).advance 0
     regionAt (rd []).local_ ≠ 3 ∧ a.r Reg.memMEM_STATE = 3 ∧ a.rb Reg.memIN_SERVICE 5 = true ∧
      (rd []).tag = rowTag 5 (rowOf (rd []).local_).1 ∧ a.r (Reg.subBACKLOG 5) = 0 ∧ (rd []).waiting = [] ∧ (a.subCh 5).fix = [] ∧
      a.scrubNext 5 ((rd []).local_ / 64) = true ∧ (rd []).local_ / 64 + 1 < a.subBlocks ∧ a.scrubNext 5 ((rd [] 64).local_ / 64) = false ∧
      decodeEcc a.mem.eccMode (rd [(9, 3)]).errors = some (1, []) ∧
      decodeEcc a.mem.eccMode (rd [(9, 3), (20, 5), (40, 7)]).errors = none ∧
      ({ rd [] with tag := 7 } : MemRead).tag ≠ rowTag 5 (rowOf (rd []).local_).1) ∧
    (let a := sLast.advance 0; let r := rd [] (64 * 125829119)
     regionAt r.local_ ≠ 3 ∧ r.tag = rowTag 5 (rowOf r.local_).1 ∧ a.scrubNext 5 (r.local_ / 64) = true ∧ r.local_ / 64 + 1 = a.subBlocks ∧
      ∀ k, k < 16 → k ≠ 5 → a.rb Reg.memIN_SERVICE k = true → a.subBlocks ≤ (a.subCh k).scrubAt) ∧
    (let a := (sMem []).advance 0
     a.accCheck dbg (Reg.subRETRAIN 5) (keySize (Reg.subRETRAIN 5)) 1 true = 0 ∧ a.rb Reg.memIN_SERVICE 5 = true ∧
      a.rb Reg.memFAILED 5 = false ∧
      ∀ k, k < 16 → (a.subCh k).retrain = 0) ∧
    (let a := sRetrain.advance 0
     2 ≤ (a.subCh 5).retrain ∧ a.accCheck dbg (Reg.subRETRAIN 6) (keySize (Reg.subRETRAIN 6)) 1 true = 0 ∧
      a.rb Reg.memIN_SERVICE 6 = true ∧ (a.subCh 6).retrain = 0) ∧
    (let a := sRetrain.advance 0
     (a.subCh 5).retrain = 3 ∧ a.rb Reg.memFAILED 5 = false ∧ (∀ k, k < 16 → k ≠ 5 → (a.subCh k).retrain = 0) ∧
      a.r Reg.memEYE_MIN ≤ narrowest (fullEyes eyeSweeps) ∧ narrowest (fullEyes []) < a.r Reg.memEYE_MIN ∧
      a.rb Reg.memFAILED (2 * (5 / 2) + 1 - 5 % 2) = false ∧ 9 ≤ a.inService) :=
  ⟨by decide +kernel, by decide +kernel, by decide +kernel, by decide +kernel, by decide +kernel, by decide +kernel, by decide +kernel,
    by decide +kernel⟩

/-! ## Lanes -/

def tword (ty f0 f1 f2 : Nat) : TrainWord :=
  let w : TrainWord := ⟨ty, f0, f1, f2, 0, 0⟩
  { w with crc := wordCrc w }

/-- Lane l in a state. -/
def sLane (l st : Nat) (x : Lane) (o : List (Nat × Nat) := []) : State :=
  { objs ([(Reg.laneLANE_STATE l, st), (Reg.thmDOMAINS_UP, 0xFFFFF), (Reg.laneRATE_ACTIVE l, 1)] ++ o) with lanes := [(l, x)] }
def capWord : TrainWord := tword 0x01 2 15 0
def sEq (x : Lane) : State := sLane 3 3 x [(Reg.laneTAP_PRE 3, 2), (Reg.laneTAP_MAIN 3, 53), (Reg.laneTAP_POST 3, 8)]
def sXp : State := { sLane 33 4 {} with xp := { onLane := [(1, some ⟨0, 1, 0, 0, [7], some 0⟩)], out := [(1, true)] } }
def sAux : State := { sLane 93 4 {} [(Reg.auxAUX_MODE 1, 2), (Reg.auxAUX_WIDTH 1, 10)] with auxs := [(1, { armed := true })] }

theorem witness_LaneBringUp :
    (let a := (sLane 3 1 {}).advance 10000000
     a.laneState 3 = 1 ∧ laneClass 3 ≠ 4 ∧ a.since (a.lane 3).at_ 10000000 = true ∧ (a.lane 3).fails < 2) ∧
    (let a := (sLane 93 1 {}).advance 0; a.laneState 93 = 1 ∧ laneClass 93 = 4) ∧
    (let a := (sLane 3 2 { fails := 2, caps := 2 }).advance 10000000
     a.laneState 3 = 2 ∧ a.since (a.lane 3).at_ 10000000 = true ∧ 2 ≤ (a.lane 3).fails ∧ wordOk capWord 0x01 = true ∧
      accepts (laneClass 3) (capWord.f0 % 16) (capWord.f2 / 4 % 8) = true ∧ (a.lane 3).caps = 2) ∧
    (let a := (sLane 3 3 { target := 3 }).advance 5000000; a.laneState 3 = 3 ∧ a.since (a.lane 3).at_ 5000000 = true) ∧
    (let a := (sLane 3 3 { target := 3, eqFrom := some 0 }).advance 4000000
     a.laneState 3 = 3 ∧ (a.lane 3).eqFrom = some 0 ∧ a.since 0 4000000 = true) ∧
    (let a := (sLane 3 2 { caps := 2, acks := 3 }).advance 0
     (a.lane 3).caps = 2 ∧ 3 ≤ (a.lane 3).acks ∧ a.r (Reg.laneRATE_ACTIVE 3) < topRate (capWord.f1 % 16) (min (a.lane 3).maxRate (a.r (Reg.laneRATE_CAP 3)))) ∧
    (let a := (sLane 40 2 { caps := 1 }).advance 0
     a.laneState 40 = 2 ∧ (a.lane 40).caps ≠ 2 ∧ accepts (laneClass 40) (capWord.f0 % 16) (capWord.f2 / 4 % 8) = false) ∧
    (let a := (sLane 3 2 { caps := 3, acks := 1 }).advance 0
     a.laneState 3 = 2 ∧ wordOk (tword 2 3 0 0) 0x02 = true ∧ ((a.lane 3).acks < 2 ∨ (a.lane 3).caps < 3)) ∧
    (let a := (sLane 3 2 { caps := 3, acks := 2, agreed := 4 }).advance 0
     2 ≤ (a.lane 3).acks ∧ 3 ≤ (a.lane 3).caps ∧ a.r (Reg.laneRATE_ACTIVE 3) < (a.lane 3).agreed) ∧
    (let a := (sLane 3 2 { caps := 3, acks := 2, agreed := 1 }).advance 0
     (a.lane 3).agreed ≤ a.r (Reg.laneRATE_ACTIVE 3) ∧ laneClass 3 ≠ 2) ∧
    (let a := (sLane 3 3 { target := 3, gos := 2 }).advance 0; let w := tword 0x20 3 0 0
     a.laneState 3 = 3 ∧ wordOk w 0x20 = true ∧ w.f0 = (a.lane 3).target ∧ (a.lane 3).gos < 3) := by decide +kernel

theorem witness_LaneEqualises :
    (let a := (sEq {}).advance 0; let w := tword 0x10 63 5 0
     a.laneState 3 = 3 ∧ laneClass 3 ≤ 1 ∧ wordOk w 0x10 = true ∧ w.f0 % 64 = 63 ∧
      tapsOk (a.r (Reg.laneTAP_PRE 3)) (a.r (Reg.laneTAP_MAIN 3)) (a.r (Reg.laneTAP_POST 3)) = true) ∧
    (let x := ((sEq { waitStatus := true, iter := 5 }).advance 0).lane 3; let w := tword 0x11 0x10 5 0; let v := tword 0x11 0x20 5 0
     wordOk w 0x11 = true ∧ x.waitStatus = true ∧ w.f1 = x.iter ∧ x.phase / 2 = 0 ∧ w.f0 / 16 % 4 = 1 ∧ wordOk v 0x11 = true ∧
      v.f0 / 16 % 4 ≠ 1 ∧ x.iter < 64 ∧ (x.phase ≠ 5 ∨ x.kept ≠ 0)) ∧
    (let x := ((sEq { eye := true, gos := 3 }).advance 0).lane 3; laneClass 3 = 0 ∧ x.eye = true ∧ 3 ≤ x.gos ∧ x.iter = 0) ∧
    (let a := (sEq { eye := true, gos := 3, iter := 5, area := 1000 }).advance 20000; let x := a.lane 3
     a.since x.eqAt 20000 = true ∧ 0 < x.iter ∧ x.reversing = false ∧ 102 * x.area ≤ 100 * (30 * 34) ∧ x.area < 30 * 34 ∧ x.iter < 64 ∧ x.phase ≠ 5) ∧
    (let x := ((sEq { eye := true, gos := 3, iter := 5, area := 1190 }).advance 0).lane 3
     x.reversing = false ∧ 100 * (30 * 40) < 102 * x.area) ∧
    (let a := (sLane 89 3 { eye := true, code := 14, bestArea := 5 }).advance 100000; let x := a.lane 89
     a.since x.eqAt 100000 = true ∧ 2 ≤ laneClass 89 ∧ x.eye = true ∧ x.code < 15 ∧ x.code ≠ 0 ∧ x.bestArea < 30 * 40 ∧ 1 * 5 ≤ x.bestArea) ∧
    (let x := ((sLane 89 3 { eye := true, code := 15 }).advance 0).lane 89; 15 ≤ x.code ∧ laneClass 89 ≠ 4 ∧ x.doneRx = false) ∧
    (let x := ((sLane 93 3 { eye := true, code := 15 }).advance 0).lane 93; 15 ≤ x.code ∧ laneClass 93 = 4) ∧
    (let a := (sEq { gos := 3 }).advance 0
     wordOk (tword 0x12 0 0 0) 0x12 = true ∧ 3 ≤ (a.lane 3).gos ∧ laneClass 3 ≠ 1 ∧ (a.lane 3).doneSent = false) ∧
    (let a := (sEq { gos := 3, doneSent := true }).advance 0
     (a.lane 3).doneSent = true ∧ laneClass 3 ≠ 2 ∧ (a.lane 3).agreed ≤ a.r (Reg.laneRATE_ACTIVE 3)) ∧
    (let a := (sEq { gos := 3, doneSent := true, agreed := 4 }).advance 0
     (a.lane 3).doneSent = true ∧ a.r (Reg.laneRATE_ACTIVE 3) < (a.lane 3).agreed) := by decide +kernel

theorem witness_LaneLossAndReturn :
    (let a := (sLane 3 4 {} [(Reg.laneLULL 3, 2)]).advance 0; a.rb (Reg.laneLULL 3) 1 = true ∧ a.laneUp 3 = true ∧ a.mayLull 3 = true) ∧
    (let a := (sLane 80 4 {}).advance 0; a.laneUp 80 = true ∧ a.mayLull 80 = false ∧ a.rb (Reg.laneLULL 80) 1 = false) ∧
    (let a := (sLane 3 3 {}).advance 0; a.laneState 3 = 3 ∧ a.rb (Reg.laneLULL 3) 1 = false) ∧
    (let a := (sLane 93 5 { relocks := 3 }).advance 100000
     laneClass 93 = 4 ∧ a.laneState 93 = 5 ∧ (a.lane 93).hostLost = none ∧ a.since (a.lane 93).at_ 100000 = true ∧ 3 ≤ (a.lane 93).relocks) ∧
    (let a := State.reset.advance 0
     a.accCheck dbg (Reg.laneRETRAIN 40) (keySize (Reg.laneRETRAIN 40)) 1 true = 0 ∧ a.lanePowered 40 = false) ∧
    (let a := sXp.advance 1000000000; let w := tword 0x40 1 1 0
     a.laneUp 33 = true ∧ a.rb (Reg.laneLULL 33) 1 = false ∧ wordOk (tword 0x30 0 0 0) 0x30 = true ∧ a.mayLull 33 = true ∧ laneClass 33 = 1 ∧
      wordOk w 0x40 = true ∧ w.f1 = 1 ∧ a.laneUp (reportedLane 33 w) = true ∧ a.xLane 1 = some ⟨0, 1, 0, 0, [7], some 0⟩ ∧
      tget false a.xp.out 1 = true ∧ a.laneUp (32 + 1) = true ∧ a.since (tget 0 a.xp.upSince 1) 1000000000 = true ∧
      a.accCheck dbg (Reg.laneRETRAIN 33) (keySize (Reg.laneRETRAIN 33)) 1 true = 0 ∧ a.lanePowered 33 = true ∧ laneClass 33 < 3) ∧
    (let a := (sLane 3 5 { relocks := 2 }).advance 100000
     a.laneState 3 = 5 ∧ (a.lane 3).hostLost = none ∧ laneClass 3 ≠ 2 ∧ a.since (a.lane 3).at_ 100000 = true ∧ (a.lane 3).relocks < 3) ∧
    (let a := (sLane 3 5 { relocks := 3 }).advance 100000; a.since (a.lane 3).at_ 100000 = true ∧ 3 ≤ (a.lane 3).relocks) ∧
    (let a := (sLane 3 6 {}).advance 1000000000
     a.laneState 3 = 6 ∧ a.mayTry 3 = true ∧ a.since (a.lane 3).at_ 1000000000 = true ∧ a.lanePowered 3 = true) ∧
    ((State.reset.advance 0).lanePowered 3 = false ∧ 3 < 32) ∧
    (let a := (sLane 33 5 { hostLost := some 0 }).advance 300000; let w := tword 0x40 1 0 0; let k := reportedLane 33 w
     w.f1 ≠ 1 ∧ (a.lane k).hostLost = some 0 ∧ a.laneState k = 5 ∧ a.up ≤ 0 + 300000 ∧ (a.lane 33).hostLost = some 0 ∧
      a.laneState 33 = 5 ∧ a.since 0 300000 = true) := by decide +kernel

theorem witness_AuxLanes : let a := sAux.advance 0
    a.accCheck dbg (Reg.auxAUX_MODE 1) (keySize (Reg.auxAUX_MODE 1)) 2 true = 0 ∧ a.domUp 4 = true ∧
    a.accCheck dbg (Reg.auxAUX_MODE 1) (keySize (Reg.auxAUX_MODE 1)) 0 true = 0 ∧
    a.accCheck dbg (Reg.auxMATCH_MASK 1) (keySize (Reg.auxMATCH_MASK 1)) 1 true = 0 ∧
    a.accCheck dbg (Reg.auxMATCH_WORD 1) (keySize (Reg.auxMATCH_WORD 1)) 1 true = 0 ∧
    a.accCheck dbg (Reg.auxLULL_REQ 1) (keySize (Reg.auxLULL_REQ 1)) 1 true = 0 ∧ a.laneUp (92 + 1) = true ∧
    a.accCheck dbg (Reg.auxBIT_SLIP 1) (keySize (Reg.auxBIT_SLIP 1)) 1 true = 0 ∧ a.r (Reg.auxAUX_MODE 1) = 2 ∧
    a.accCheck dbg (Reg.auxCAPTURE_ARM 1) (keySize (Reg.auxCAPTURE_ARM 1)) 1 true = 0 ∧ a.rb (Reg.laneLULL 93) 1 = false ∧
    (tget {} a.auxs 1 : Aux).armed = true ∧ (tget {} a.auxs 2 : Aux).armed = false := by decide +kernel

/-! ## The ring -/

/-- The same, started up. -/
def sUp : State := { sRing [(Reg.rstSTART_STEP, 11)] with boot := { released := some 0 } }
def fFwd : RingFrame := inFrame 1 9 7 [1, 2, 3, 4]
def fBad : RingFrame := { fFwd with hcrc := fFwd.hcrc + 1 }
def fCut : RingFrame := { fFwd with crc := fFwd.crc + 1 }
def fLast : RingFrame := sealFrame { fFwd with hops := 1 }
def fOwn : RingFrame := inFrame 1 9 5 [1, 2, 3, 4]
def sTx : State := { sRing [] with ring := { (sRing []).ring with txq := [⟨0x50, 0x7F, 0, 0, 0, [7], some 2, none⟩, ⟨2, 9, 4, 0, 0, [5], none, none⟩] } }
/-- Both ports without a way out. -/
def sAlone : State := sRing [(Reg.portPORT_STATE 0, 1), (Reg.portPORT_STATE 1, 1)]

def statusF : RingFrame := inFrame 0x50 0x7F 7 ([7, 0x0A] ++ leBytes 6 0 ++ leBytes 8 3000000 ++ leBytes 8 0)
def sWrap (st : Nat) (last : Option Nat) : State := { sRing [(Reg.portPORT_STATE 0, st), (Reg.portPORT_STATE 1, st)] with
  ring := { ports := [(0, { unwrapAt := 500000, lastStatus := last, nbrUp := true, t1 := some 100 }),
    (1, { lastStatus := last, unwrapAt := 500000, nbrUp := true })], joined := true } }
def syncF : RingFrame := inFrame 0x20 0x7F 0 (leBytes 8 1000 ++ leBytes 8 0)
def dreqF (ty : Nat) : RingFrame := inFrame ty 0x7F 7 (leBytes 8 1000 ++ leBytes 8 2000)
def enumF (k : Nat) : RingFrame := inFrame 0x51 0x7F 0 ([BitVec.ofNat 8 k, 9, 0, 0] ++ List.replicate 1024 0)
def estopF (ty id : Nat) : RingFrame := inFrame ty 0x7F 0 (leBytes 4 id)
def resetF (k : Nat) : RingFrame := inFrame 0x70 5 0 (List.replicate 12 0x30 ++ [BitVec.ofNat 8 k, 0, 0, 0])
def grantF (k e : Nat) : RingFrame := inFrame 0x48 5 0 (List.replicate 12 0x30 ++ [BitVec.ofNat 8 k, 0, 0, 0] ++ leBytes 4 e)
def sFol (auth : Bool) : State := { sRing [(Reg.opDEVICE_STATE, 3)] with pair := { mode := true, authority := auth } }

theorem witness_RingFrames :
    (let a := (sRing []).advance 0
     (portLanes fBad.port).all (fun l => a.laneUp l) = true ∧ hcrcOk fBad = false ∧
      (a.whole fLast = true ∧ neighbourTy fLast.ty = false ∧ fLast.hops ≤ 1) ∧
      (a.whole fOwn = true ∧ neighbourTy fOwn.ty = false ∧ 1 < fOwn.hops ∧ a.addr = some fOwn.src ∧ fOwn.dst ≠ 0x7F)) ∧
    (let a := (sRing []).advance 0; let f := fFwd
     neighbourTy f.ty = false ∧ a.addr ≠ some f.src ∧ a.addr ≠ some f.dst ∧ f.dst ≠ 0x7F ∧ 1 < f.hops ∧
      a.exitPort (1 - f.port.val) = some (1, false) ∧ a.whole f = true) ∧
    (let a := (sRing []).advance 0; let f := fCut
     neighbourTy f.ty = false ∧ a.addr ≠ some f.src ∧ a.addr ≠ some f.dst ∧ f.dst ≠ 0x7F ∧ hcrcOk f = true ∧ frameOk f = false) ∧
    (let a := sAlone.advance 0; a.exitPort (1 - fFwd.port.val) = none ∧ a.whole fFwd = true ∧ a.addr = some 5) ∧
    (let a := sTx.advance 0; let g : TxFrame := ⟨2, 9, 4, 0, 0, [5], none, none⟩
     a.ring.txq = [⟨0x50, 0x7F, 0, 0, 0, [7], some 2, none⟩] ++ g :: [] ∧
      (∀ x ∈ [(⟨0x50, 0x7F, 0, 0, 0, [7], some 2, none⟩ : TxFrame)], a.leaves x = none) ∧ a.leaves g = some (0, false)) ∧
    (let a := (sRing []).advance 0
     (portLanes fFwd.port).all (fun l => a.laneUp l) = true ∧ (a.port 0).deskewed = true ∧ 32 < ({ fFwd with skew := 33 } : RingFrame).skew) := by
  decide +kernel

theorem witness_RingStatusAndUnwrap :
    (let a := (sWrap 2 none).advance 1000000; let x := a.port 0
     statusF.ty = 0x50 ∧ a.whole statusF = true ∧ a.portBonded statusF.port = true ∧ x.wrapped = true ∧
      nbrPort 0 (fld 1 1 statusF.payload) = 2 ∧ a.since a.ring.lastStatusTx 100000 = true ∧
      (a.portUp 1 = true ∧ a.portHeard 1 = false ∧ a.portBonded 1 = true) ∧ a.portCode 0 ≠ 0) ∧
    (let a := (sWrap 2 (some 1000000)).advance 1000000
     a.portUp 1 = true ∧ a.portNow 1 = 2 ∧ (a.port 1).wrapped = true ∧ (a.port 1).unwrapAt ≠ 0 ∧ (a.port 1).unwrapAt ≤ a.now) := by
  decide +kernel

theorem witness_RingTime :
    (let a := (sWrap 2 none).advance 100000000
     a.since a.ring.lastDelay 100000000 = true ∧ a.portUp 1 = true ∧ (dreqF 0x21).ty = 0x21 ∧ a.whole (dreqF 0x21) = true ∧
      (dreqF 0x22).ty = 0x22 ∧ a.whole (dreqF 0x22) = true ∧ (a.port 0).t1 = some 100 ∧ ((480100 : Nat) : Int) - 100 ≤ 480000 ∧
      480000 < ((480101 : Nat) : Int) - 100) ∧
    (let a := (sRing []).advance 0; let f := syncF
     f.ty = 0x20 ∧ a.forAll f = true ∧ newerSeq (tget none a.ring.seen 0x20) f.seq = true ∧ a.r Reg.timeTIME_STATE = 0) ∧
    (let a := ({ sRing [] with ring := { (sRing []).ring with seen := [(0x20, some 1)] } } : State).advance 0
     a.forAll syncF = true ∧ newerSeq (tget none a.ring.seen 0x20) syncF.seq = false) ∧
    (let a := (sRing [(Reg.timeTIME_STATE, 1)]).advance 100000000000
     let off : Int := (16 * fld 0 8 syncF.payload + fld 8 8 syncF.payload + a.r (Reg.portLINK_DELAY 0) : Nat) - a.clk.ring16
     a.r Reg.timeTIME_STATE ≠ 0 ∧ off < -16000 ∧ (a.r Reg.timeTIME_STATE = 1 ∨ a.r Reg.timeTIME_STATE = 2) ∧
      a.since a.clk.lastSync (3000 * a.r Reg.timeSYNC_EXPECT) = true) ∧
    (let a := ({ sRing [(Reg.timeTIME_STATE, 1)] with clk := { ring16 := 15950, good := 7 } } : State).advance 0
     let off : Int := (16 * fld 0 8 syncF.payload + fld 8 8 syncF.payload + a.r (Reg.portLINK_DELAY 0) : Nat) - a.clk.ring16
     a.r Reg.timeTIME_STATE ≠ 0 ∧ -16000 ≤ off ∧ off ≤ 16000 ∧ off.natAbs ≤ 800 ∧ 7 ≤ a.clk.good) ∧
    (let a := (sRing [(Reg.timeTIME_STATE, 1)]).advance 0
     let off : Int := (16 * fld 0 8 (leBytes 8 1001) : Nat) - a.clk.ring16
     16000 < off) := by decide +kernel

set_option maxRecDepth 20000 in
theorem witness_Enumeration :
    (let a := (sRing []).advance 0
     (enumF 63).ty = 0x51 ∧ a.forAll (enumF 63) = true ∧ (enumF 63).payload.length = 1028 ∧ fld 0 1 (enumF 63).payload = 63 ∧ 63 < 64) ∧
    (let a := (sRing [(Reg.nodeADDR_CONFLICT, 1)]).advance 0; let f := inFrame 1 5 7 [1, 2, 3, 4]
     a.r Reg.nodeADDR_CONFLICT = 1 ∧ a.whole f = true ∧ neighbourTy f.ty = false ∧ 1 < f.hops ∧ a.addr = some f.dst ∧ f.src ≠ f.dst ∧
      f.dst ≠ 0x7F) := by decide +kernel

theorem witness_RingCommands :
    (let a := (sRing []).advance 0; let f := estopF 0x40 77
     f.ty = 0x40 ∧ a.forAll f = true ∧ fld 0 4 f.payload ≠ 0 ∧ fld 0 4 f.payload ∉ a.ring.estops) ∧
    (let a := ({ sRing [] with ring := { (sRing []).ring with estops := [77] } } : State).advance 0; let f := estopF 0x41 77
     fld 0 4 (estopF 0x40 77).payload ∈ a.ring.estops ∧ f.ty = 0x41 ∧ f.src = 0 ∧ a.forAll f = true) ∧
    (let a := (sRing []).advance 0; let f := resetF 1; let g := resetF 2
     f.ty = 0x70 ∧ a.forMe f = true ∧ f.epoch ≤ a.epoch ∧ f.payload.take 12 = padTo 12 a.fac.serial ∧ fld 12 1 f.payload = 1 ∧
      a.forMe g = true ∧ fld 12 1 g.payload ≠ 1 ∧ a.stopHeld = false ∧ (a.pair.mode = true → f.epoch = a.epoch)) ∧
    (let a := sUp.advance 0; a.accCheck dbg Reg.nodeRING_JOIN (keySize Reg.nodeRING_JOIN) 1 true = 0 ∧ a.ringMay = true) ∧
    (let a := (sFol false).advance 0; let f := grantF 1 1
     f.ty = 0x48 ∧ a.forMe f = true ∧ f.epoch ≤ a.epoch ∧ f.src = 0 ∧ f.payload.take 12 = padTo 12 a.fac.serial ∧ a.pair.mode = true ∧
      fld 12 1 f.payload = 1 ∧ a.known < fld 16 4 f.payload ∧ a.follower = true ∧ a.mayClaim = true ∧
      fld 16 4 (grantF 1 0).payload ≤ a.known ∧ a.forMe (grantF 1 0) = true) ∧
    (let a := ({ sRing [(Reg.opDEVICE_STATE, 1)] with pair := { mode := true, authority := false } } : State).advance 0
     a.forMe (grantF 1 1) = true ∧ a.follower = true ∧ a.mayClaim = false) ∧
    (let a := (sFol true).advance 0; let f := grantF 2 0; let g := grantF 3 0
     a.forMe f = true ∧ fld 12 1 f.payload = 2 ∧ fld 16 4 f.payload = a.epoch ∧ a.pair.authority = true ∧ a.pair.leaseSafe = 0 ∧
      a.forMe g = true ∧ fld 12 1 g.payload = 3) := by decide +kernel

/-! ## Object access over the ring -/

/-- An OBJ_REQ of node 0 for key with a value of n bytes. -/
def reqF (op key n v : Nat) : RingFrame :=
  inFrame 1 5 0 (leBytes 1 op ++ leBytes 1 (key % 256) ++ leBytes 2 (key / 256) ++ leBytes 2 33 ++ leBytes 1 n ++ [0] ++ padTo 8 (leBytes n v))
def sKept : State := { sRing [] with od := { kept := [⟨0, 33, 0, [1, 2]⟩] } }
/-- A BLOCK_REQ of node 0: operation, key, transfer 6, count, offset, length. -/
def blkF (op key cnt off n : Nat) : RingFrame :=
  inFrame 3 5 0 (leBytes 1 op ++ leBytes 1 (key % 256) ++ leBytes 2 (key / 256) ++ leBytes 2 6 ++ leBytes 1 cnt ++ [0] ++ leBytes 4 off ++ leBytes 4 n)
/-- A BLOCK_DATA segment of transfer 6. -/
def segF (off : Nat) (d : Bytes) : RingFrame :=
  inFrame 4 5 0 (leBytes 2 6 ++ leBytes 2 0 ++ leBytes 4 off ++ leBytes 2 d.length ++ [0, 0] ++ d)
def xferOf (op key cnt n : Nat) : Xfer := ⟨0, 6, op, key % 256, key / 256, cnt, 0, n, 0, 0, []⟩
def sXfer (x : Xfer) : State := { sRing [] with od := { xfers := [x] } }
def sFull : State := { sRing [] with od := { xfers := (List.range 4).map fun (i : Nat) => { xferOf 2 (Reg.mapENTRIES 1) 0 8 with xfer := 10 + i } } }

/-- Map 1 with identifier 0 over one object. -/
def sMap (dir key off : Nat) : State := { sRing [(Reg.mapMAP_ENABLE 1, 1), (Reg.mapMAP_ID 1, 0), (Reg.mapDIRECTION 1, dir),
  (Reg.mapENTRY_COUNT 1, 1), (Reg.mapSLOT_OFFSET 1, off)] with
  blobs := [(Reg.mapENTRIES 1, leBytes 2 (key / 256) ++ leBytes 1 (key % 256) ++ [0])] }
def cycF (v : Nat) : RingFrame := inFrame 0x10 0x7F 0 (leBytes 8 v)

/-- What ObjectTransfers asks of every frame f. -/
def served (a : State) (f : RingFrame) : Bool := a.forMe f && decide (f.epoch ≤ a.epoch)

theorem witness_ObjectTransfers_requests :
    (let a := sKept.advance 0; let f := reqF 1 Reg.timeSYNC_EXPECT 4 0
     served a f = true ∧ f.ty = 1 ∧ a.keptOf f.src (fld 4 2 f.payload) = some ⟨0, 33, 0, [1, 2]⟩ ∧ fld 0 1 f.payload = 1) ∧
    (let a := (sRing []).advance 0; let f := reqF 1 Reg.timeSYNC_EXPECT 4 0; let b := a.fromMaster f true; let k := Reg.timeSYNC_EXPECT
     served a f = true ∧ a.keptOf f.src (fld 4 2 f.payload) = none ∧ a.reqPending f.src (fld 4 2 f.payload) = false ∧
      indexExists (k / 256) = true ∧ (rowAt k).any (fun r => r.acc ≠ .wo ∧ r.acc ≠ .act ∧ r.ty ≠ .block) = true ∧ a.mayRead f.src k = true ∧
      b.resultReq k = none) ∧
    (served ((sRing []).advance 0) (reqF 1 0x999901 4 0) = true ∧ indexExists 0x9999 = false) ∧
    (indexExists 0x1103 = true ∧ rowAt (256 * 0x1103 + 0x99) = none ∧ (256 * 0x1103 + 0x99) % 256 ≠ 0) ∧
    (rowAt (256 * 0x1103) = none ∧ (256 * 0x1103) % 256 = 0) ∧
    ((rowAt Reg.nodeRING_JOIN).any (fun r => r.acc = .act) = true ∧ (rowAt (Reg.mapENTRIES 1)).any (fun r => r.ty = .block) = true) ∧
    (let a := (sRing []).advance 0; let f := reqF 2 Reg.timeSYNC_EXPECT 4 2000; let b := a.fromMaster f true; let k := Reg.timeSYNC_EXPECT
     served a f = true ∧ fld 0 1 f.payload = 2 ∧ b.accCheck ⟨0, 0⟩ k 4 2000 (b.relOk (b.w k 2000) k) = 0 ∧ b.admits k 2000 = false ∧
      b.accCheck ⟨0, 0⟩ k 7 2000 (b.relOk (b.w k 2000) k) ≠ 0 ∧
      b.accCheck ⟨0, 0⟩ Reg.nodeRING_JOIN (keySize Reg.nodeRING_JOIN) 1 true = 0) := by decide +kernel

theorem witness_ObjectTransfers_blocks :
    (let a := (sRing []).advance 0; let f := blkF 2 (Reg.mapENTRIES 1) 0 0 8
     served a f = true ∧ f.ty = 3 ∧ ((a.fromMaster f true).closeXfer 0 6).od.xfers.length < 4 ∧ 0 < fld 12 4 f.payload ∧ fld 0 1 f.payload = 2 ∧
      fld 0 1 (blkF 1 (Reg.mapENTRIES 1) 0 0 8).payload = 1 ∧ served a (blkF 1 (Reg.mapENTRIES 1) 0 0 8) = true ∧
      fld 0 1 (blkF 3 0x110301 2 0 0).payload = 3 ∧ served a (blkF 3 0x110301 2 0 0) = true ∧
      fld 0 1 (blkF 4 0x110304 1 0 4).payload = 4 ∧ served a (blkF 4 0x110304 1 0 4) = true) ∧
    (let x := xferOf 2 (Reg.mapENTRIES 1) 0 8; let a := (sXfer x).advance 0; let f := segF 0 [1, 2, 3, 4]; let g := segF 0 [1, 2, 3, 4, 5, 6, 7, 8]
     served a f = true ∧ f.ty = 4 ∧ (a.od.xfers.find? fun z => decide (z.src = f.src ∧ z.xfer = fld 0 2 f.payload)) = some x ∧
      ({ x with segs := [(0, slice 12 (fld 8 2 f.payload) f.payload)] } : Xfer).bytes = none ∧
      served a g = true ∧ ({ x with segs := [(0, [1, 2, 3, 4, 5, 6, 7, 8])] } : Xfer).bytes = some [1, 2, 3, 4, 5, 6, 7, 8] ∧
      (a.fromMaster g true).blockCheck ⟨0, 0⟩ (Reg.mapENTRIES 1) 0 8 = 0 ∧ (a.fromMaster g true).blockCheck ⟨0, 0⟩ 0x999901 0 8 ≠ 0) ∧
    (let x := xferOf 4 Reg.timeSYNC_EXPECT 1 4; let a := (sXfer x).advance 0; let g := segF 0 [0xD0, 7, 0, 0]; let c := (a.fromMaster g true).closeXfer 0 6
     let l := (subsFrom 0x1103 4).take 1
     served a g = true ∧ ({ x with segs := [(0, [0xD0, 7, 0, 0])] } : Xfer).bytes = some [0xD0, 7, 0, 0] ∧ x.op ≠ 2 ∧ 1 ≤ x.count ∧ x.count ≤ 255 ∧
      (c.rangeCheck ⟨0, 0⟩ 0x1103 4 l [0xD0, 7, 0, 0]).1 = 0 ∧ (c.rangeCheck ⟨0, 0⟩ 0x9999 4 l [0xD0, 7, 0, 0]).1 ≠ 0 ∧
      cutValues 0x1103 l [0xD0, 7, 0, 0] = [(Reg.timeSYNC_EXPECT, 2000)] ∧
      ((cutValues 0x1103 l [0xD0, 7, 0, 0]).any fun e => c.admits e.1 e.2) = false) := by decide +kernel

/-- A block write of a geometric map of the wrong length ends with a status of its own; one of the entries of a map is taken. -/
theorem witness_ObjectTransfers_put : let a := (sRing []).advance 0
    (a.blockPut (Reg.slotMAP 1) 0 [1, 2]).1 ≠ 0 ∧ (a.blockPut (Reg.mapENTRIES 1) 0 [1, 2]).1 = 0 := by decide +kernel

theorem witness_TransferEnds :
    (let x := xferOf 2 (Reg.mapENTRIES 1) 0 8; let a := (sXfer x).advance 10000000; let b := (sXfer x).advance 9999999
     (a.od.xfers.find? fun z => decide (z.src = 0 ∧ z.xfer = 6)) = some x ∧ a.since x.last 10000000 = true ∧ b.since x.last 10000000 = false) ∧
    (let x := xferOf 2 (Reg.mapENTRIES 1) 0 8; let a := (sXfer x).advance 0; let f := blkF 2 (Reg.mapENTRIES 1) 0 0 8
     served a f = true ∧ f.ty = 3 ∧ fld 0 1 f.payload = 2 ∧ a.od.xfers.length ≤ 4 ∧ 0 < fld 12 4 f.payload ∧
      ((a.fromMaster f true).closeXfer f.src (fld 4 2 f.payload)).od.xfers.length < 4 ∧ served a (segF 0 [1, 2, 3, 4]) = true) ∧
    (let a := sFull.advance 0; let f := blkF 1 (Reg.mapENTRIES 1) 0 0 8
     served a f = true ∧ fld 0 1 f.payload = 1 ∧ 4 ≤ ((a.fromMaster f true).closeXfer f.src (fld 4 2 f.payload)).od.xfers.length) := by
  decide +kernel

/-- What CyclicMaps asks of every frame f and map 1. -/
def mapped (a : State) (f : RingFrame) : Bool :=
  decide (f.ty = 0x10) && a.forAll f && decide (((List.range 8).filter fun j =>
    decide (a.r (Reg.mapMAP_ENABLE j) = 1 ∧ a.r (Reg.mapMAP_ID j) = f.info)) = [1])

theorem witness_CyclicMaps :
    (let a := (sMap 1 Reg.timeSYNC_EXPECT 5).advance 0
     mapped a (cycF 2000) = true ∧ (cycF 2000).payload.length < a.r (Reg.mapSLOT_OFFSET 1) + a.slotLen 1) ∧
    (let a := (sMap 1 Reg.timeSYNC_EXPECT 4).advance 0
     mapped a (cycF 2000) = true ∧ a.r (Reg.mapSLOT_OFFSET 1) + a.slotLen 1 ≤ (cycF 2000).payload.length ∧ a.r (Reg.mapDIRECTION 1) ≠ 0) ∧
    (let a := (sMap 0 Reg.timeSYNC_EXPECT 4).advance 0
     let c := State.bump { a.fromMaster (cycF 0) false with od := { a.od with cycSeen := tset none a.od.cycSeen 0 (some 1) } } (Reg.mapCYC_FRAMES 1)
     let k := a.mapEntry 1 0
     mapped a (cycF 0) = true ∧ a.r (Reg.mapDIRECTION 1) = 0 ∧ newerSeq (tget none a.od.cycSeen 0) 1 = true ∧ a.r (Reg.mapENTRY_COUNT 1) = 1 ∧
      c.readVal k ≠ 2000 ∧ c.readVal k = c.r k ∧ c.accCheck ⟨0, 0⟩ k (cycSize k) 2000 (c.relOk (c.w k 2000) k) = 0 ∧
      c.accCheck ⟨7, 0⟩ k (cycSize k) 2000 (c.relOk (c.w k 2000) k) ≠ 0 ∧ k = Reg.timeSYNC_EXPECT) ∧
    newerSeq (some 1) 1 = false := by decide +kernel

/-! ## The redundant pair -/

/-- A device of a pair with its partner lane up. -/
def sPr (p : Pair) (l : List (Nat × Nat) := []) : State := { sRing ((Reg.laneLANE_STATE 88, 4) :: memOn ++ l) with pair := { p with mode := true } }
def hbIn (flags : Nat) : HeartbeatIn := ⟨1, flags, 0, 0, 0, List.replicate 12 0x31⟩
/-- A valid message of epoch e on partner lane PL0, and a HEARTBEAT packet of epoch e. -/
def pm (e : Nat) : PartnerMsg := ⟨0, e, true⟩
def hbPkt (e flags : Nat) : HeadPkt := hbPacket 1 (hbBytes e (hbIn flags))
def setIn (tag : Nat) (inner : Bool := false) : SetIn := ⟨3, tag, [(0x101, 64), (0x102, 2), (0x103, 1000)], [], [], 0, inner⟩
def sFolUp (l : List (Nat × Nat) := []) : State := { sPr { authority := false } ((Reg.prPARTNER_STATE, 1) :: l) with
  pipes := [(3, { cur := some (pset 7), armed := some (pset 8) })] }
def sFolBad : State := sFolUp [(Reg.memIN_SERVICE, 0), (Reg.hdATTACH_STATE 3, 3)]
def wOp (v : Nat) : PendOp := .write 0 1 [(Reg.opPOWER_LIMIT, v)] .own
def sCands (l : List (Nat × PendOp)) : State := { sPr {} [(Reg.prPARTNER_STATE, 1)] with shep := { cands := l } }
/-- Head 3 streams and its commit waits for the partner. -/
def sCandHd (op : PendOp) (step : Nat) : State := { sPr {} [(Reg.prPARTNER_STATE, 1), (Reg.laneLANE_STATE 3, 4), (Reg.laneRATE_ACTIVE 3, 4),
    (Reg.hdATTACH_STATE 3, if step = 0 then 3 else 1), (Reg.hdNATIVE_W 3, 64), (Reg.hdNATIVE_H 3, 64), (Reg.hsWIDTH 3, 64), (Reg.hsHEIGHT 3, 64),
    (Reg.thmDOMAINS_UP, 0xFFFFF)] with
  heads := [(3, { step := step })], pipes := [(3, { cur := some (pset 7) })], shep := { cands := [(0, op)] }
  od := { acts := [(Reg.hsCOMMIT 3, { tok := 4, busy := true, src := 0 })] } }

theorem witness_PartnerConnection :
    (let a := (sPr {} [(Reg.prPAIR_EPOCH, 3)]).advance 1000000; let m := pm 2; let n := pm 5; let p := hbPkt 3 1
     (⟨0, 3, false⟩ : PartnerMsg).valid = false ∧ a.pair.mode = true ∧ a.laneUp (88 + m.lane) = true ∧ a.partnerLane = true ∧ m.valid = true ∧
      m.epoch < a.epoch ∧ a.epoch < n.epoch ∧ a.pair.storing = none ∧ a.pair.authority = true ∧ a.hears (hbEnvelope m p) ∧
      (hbEnvelope m (hbPkt 2 1)).valid = true ∧ (hbEnvelope m (hbPkt 2 1)).epoch < a.epoch ∧ a.r Reg.prPARTNER_STATE = 0 ∧
      bit 0 (hbOf (pktData p)).flags = true ∧ a.pair.leaseSafe = 0 ∧ a.since a.pair.lastHbTx 100000 = true ∧ a.partnerLane? = some 0) ∧
    (let a := (sPr { authority := false } [(Reg.prPAIR_EPOCH, 3), (Reg.prCLAIM_LAPSED, 1)]).advance 0
     a.epoch < (pm 5).epoch ∧ a.pair.storing = none ∧ a.r Reg.prCLAIM_LAPSED = 1 ∧ a.pair.demotedSinceLapse = false) ∧
    (let a := ({ sPr { lastHb := some 0 } [(Reg.prPARTNER_STATE, 1)] with clk := { up := 5 } } : State).advance 1000000
     a.r Reg.prPARTNER_STATE = 1 ∧ a.pair.lastHb = some 0 ∧ a.since 0 1000000 = true) ∧
    (let a := (sPr { lastHb := some 0 } [(Reg.prPARTNER_STATE, 1)]).advance 1000; a.pair.lastHb = some 0 ∧ a.since 0 1000000 = false) := by
  unfold State.hears; decide +kernel

theorem witness_Followers :
    (let a := sFolUp.advance 0; let k := Reg.chMAX_ON 7
     a.hears (pm 0) ∧ a.follower = true ∧ ((rowAt k).any fun r => r.ty = .block) = false ∧
      a.accCheck ⟨0x41, 0⟩ k 4 15000 (a.relOk (a.w k 15000) k) = 0 ∧ (leBytes 4 15000).length = 4 ∧ leNat (leBytes 4 15000) = 15000 ∧
      a.accCheck ⟨0x41, 0⟩ k 3 15000 (a.relOk (a.w k 15000) k) ≠ 0 ∧ (a.armSet 3 (a.setOf (setIn 9))).check.1 = 0 ∧
      (a.pipe 3).cur = some (pset 7) ∧ (a.pipe 3).armed = some (pset 8) ∧ (pset 8).tag = 8 ∧ a.r (Reg.bdgBANK_FAULT 2) = 0 ∧
      (diagEntry [⟨2, 3, 1, 1, 0⟩] 2).fault ≠ 0) ∧
    (let a := sFolBad.advance 0; a.hears (pm 0) ∧ a.follower = true ∧ (setIn 9).inner = false ∧ (a.armSet 3 (a.setOf (setIn 9))).check.1 ≠ 0) ∧
    (let a := (sPr {}).advance 0; a.hears (pm 0) ∧ a.follower = false) := by
  unfold State.hears; decide +kernel

theorem witness_Candidates :
    (let a := (sCands []).advance 0; a.hears (pm 0) ∧ a.partnerUp = true ∧ a.shep.cands = []) ∧
    (let a := (sCands [(0, wOp 700), (5, wOp 710)]).advance 10000000
     a.hears (pm 0) ∧ a.shep.cands = (0, wOp 700) :: (5, wOp 710) :: [] ∧ a.since 0 10000000 = true ∧ a.partnerUp = true ∧
      (a.stored [(Reg.opPOWER_LIMIT, 710)]).check.1 = 0 ∧ a.partnerLane? = some 0) ∧
    (let a := (sCands [(0, wOp 700)]).advance 10; a.since 0 10000000 = false ∧ a.shep.cands = [(0, wOp 700)] ∧
      (a.stored [(Reg.opPOWER_LIMIT, 700)]).check.1 = 0) ∧
    (let a := (sCandHd (.commit 3) 0).advance 0; let b : State := { a with shep := { a.shep with cands := [] } }
     a.hears (pm 0) ∧ a.shep.cands = [(0, .commit 3)] ∧ a.attached 3 = true ∧ (b.withArmed 3 (some (b.hostSet 3))).check.1 = 0 ∧
      a.actBusy (Reg.hsCOMMIT 3) = true ∧ b.commitCode 3 (b.hostSet 3) = 0) ∧
    (let a := (sCandHd (.attach 3) 7).advance 0; a.hears (pm 0) ∧ a.shep.cands = [(0, .attach 3)] ∧ (a.hd 3).step = 7) ∧
    (let a := (sCandHd (.attach 3) 5).advance 0; (a.hd 3).step ≠ 7) := by
  unfold State.hears; decide +kernel

/-- The device claims; its partner's line has toggled at the given times. -/
def sClaim (edges : List Nat) (l : List (Nat × Nat) := []) : State :=
  sPr { authority := false, claiming := true, toggling := true, edges := edges } l
def sEdges : List Nat := [950000, 900000, 850000]
def sReady (p : Pair) : State := { sPr p [(Reg.opDEVICE_STATE, 3), (Reg.prPARTNER_STATE, 1)] with clk := { up := 1000 } }

theorem witness_Claims :
    (let a := (sReady { authority := false, right := some 4 }).advance 1000000
     a.pair.right = some 4 ∧ a.known < 4 ∧ a.mayClaim = true) ∧
    (sReady {}).pair.right = none ∧
    (let a := (sReady {}).advance 1000000; a.pair.mode = true ∧ a.pair.authority = true ∧ a.since a.pair.refreshed 1000000 = true) ∧
    (let a := (sReady {}).advance 100; a.since a.pair.refreshed 1000000 = false) ∧
    (let a := (sClaim sEdges).advance 1000000
     a.pair.edges = 950000 :: 900000 :: 850000 :: [] ∧ (950000 + 40000 ≤ a.up ∧ a.up ≤ 950000 + 60000) ∧ a.pair.toggling = true ∧
      a.pair.claiming = true ∧ a.since a.pair.claimSince 200000 = true ∧ a.r Reg.prPEER_CLAIM_STATE ≠ 1) ∧
    (let a := (sClaim sEdges [(Reg.prPEER_CLAIM_STATE, 1), (Reg.bkBANK_STATE 4, 3)]).advance 5000000
     a.r Reg.prPEER_CLAIM_STATE = 1 ∧ a.peerToggles = false ∧ ¬ (a.up ≤ 950000 + 60000)) ∧
    (let a := (sClaim [999000, 950000, 900000, 850000]).advance 1000000; a.peerToggles = true) ∧
    (let a := (sReady { authority := false, backoffEnd := some 5000, again := some 0, granted := true }).advance 5000; let b : State := { a with pair := { a.pair with backoffEnd := none } }
     a.pair.backoffEnd = some 5000 ∧ 5000 ≤ a.up ∧ b.mayClaim = true ∧ b.rightStands = true) ∧
    (let a := (sPr { authority := false, backoffEnd := some 5000 }).advance 5000; let b : State := { a with pair := { a.pair with backoffEnd := none } }
     5000 ≤ a.up ∧ b.mayClaim = false) ∧
    (let a := (sReady { leaseEnd := some 4000 }).advance 4000
     a.pair.leaseEnd = some 4000 ∧ 4000 ≤ a.up ∧ a.pair.mode = true ∧ a.pair.authority = true ∧ a.pair.leaseSafe = 0) ∧
    (let a := (sReady { peer := hbIn 6 }).advance 0; a.accCheck dbg Reg.prHANDOVER (keySize Reg.prHANDOVER) 1 true = 0 ∧
      a.partnerUp = true ∧ (bit 2 a.pair.peer.flags && bit 1 a.pair.peer.flags) = true ∧ a.pair.handover = 0) := by decide +kernel

/-! ## Power, storage, start-up and the debug port -/

def sDev (st : Nat) (l : List (Nat × Nat) := []) : State := objs ([(Reg.opDEVICE_STATE, st), (Reg.thmDOMAINS_UP, 0xFFFFF)] ++ memOn ++ l)
def sStopping : State := { sDev 4 with pwr := { stopAt := some 0 } }
/-- Quadrant 1 up, its lanes without a link. -/
def sQuad : State := { objs ((Reg.thmDOMAINS_UP, 0x40) :: (List.range 8).map fun i => (Reg.laneLANE_STATE (8 + i), 6)) with
  lanes := (List.range 8).map fun i => (8 + i, { absentAt := some 0 }) }
/-- The switch of PD17 has closed. -/
def sClose : State := { objs [(Reg.thmDOMAINS_UP, 0xF), (Reg.opDEVICE_STATE, 3), (Reg.bkBANK_TYPE 1, 1)] with pwr := { closing := some 17 } }
def houseIn (t : Int) : HouseIn := ⟨List.replicate 16 t, [750, 750, 800, 800, 900, 900, 1200, 1100, 1100, 1800, 3300, 12000, 12000, 0], []⟩

theorem witness_DeviceStates :
    (let k := Reg.opSTATE_REQ
     ((sDev 1).advance 0).accCheck dbg k (keySize k) 2 true = 0 ∧ 8 ≤ ((sDev 1).advance 0).inService ∧
      ((sDev 1 [(Reg.memIN_SERVICE, 0x7F)]).advance 0).inService < 8 ∧ ((sDev 2).advance 0).accCheck dbg k (keySize k) 3 true = 0 ∧
      ((sDev 2).advance 0).pwr.target = none ∧ ((sDev 3).advance 0).accCheck dbg k (keySize k) 1 true = 0 ∧
      (∀ b, b < 24 → ((sDev 3).advance 0).bankRuns b = false) ∧ ((sDev 3 [(Reg.bkBANK_STATE 4, 4)]).advance 0).bankRuns 4 = true ∧
      ((sDev 4).advance 0).accCheck dbg k (keySize k) 1 true = 0 ∧ ((sDev 1).advance 0).accCheck dbg k (keySize k) 9 true = 0) ∧
    (let a := (objs [(Reg.thmDOMAINS_UP, 0xF), (Reg.opDEVICE_STATE, 3), (Reg.bkBANK_TYPE 1, 1)]).advance 20000; let b := a.domDrop
     b.domNeeded 17 = true ∧ b.domUp 17 = false ∧ (∀ j, j < 17 → b.domNeeded j = true → b.domUp j = true) ∧
      a.since a.pwr.switchAt 20000 = true ∧ a.pwr.closing = none) ∧
    (let a := sClose.advance 20000; let b := a.domDrop
     a.pwr.closing = some 17 ∧ a.since a.pwr.switchAt 20000 = true ∧ b.domNeeded 17 = true ∧ b.domUp 17 = false) ∧
    (let a := sClose.advance 100; a.pwr.closing = some 17 ∧ a.since a.pwr.switchAt 20000 = false) ∧
    (let a := sQuad.advance 10000000000
     a.domUp (5 + 1) = true ∧ ∀ l, l < 96 → l / 8 = 1 → a.laneState l = 6 ∧ (a.lane l).absentAt = some 0 ∧ a.since 0 10000000000 = true) ∧
    (let a := sQuad.advance 100; (8 / 8 = 1 ∧ (a.lane 8).absentAt = some 0 ∧ a.since 0 10000000000 = false)) ∧
    (let a := sStopping.advance 10000000; a.pwr.stopAt = some 0 ∧ a.r Reg.opDEVICE_STATE = 4 ∧ a.pwr.stopOver = false ∧ a.since 0 10000000 = true) := by
  decide +kernel

theorem witness_HouseAndClock : (let a := (sDev 2).advance 0; let i := houseIn 1190
      a.pwr.cutoff = false ∧ a.pwr.roundNo ≠ some (a.now / 10000000) ∧ i.ts.length = 16 ∧ i.rails.length = 14 ∧ (∀ x ∈ i.ts, -32768 ≤ x ∧ x ≤ 32767) ∧ (∃ x ∈ i.ts, 1180 ≤ x)) ∧
    (({ State.reset with pwr := { cutoff := true } } : State).advance 0).pwr.cutoff = true ∧
    (let a := (sLane 3 4 {}).advance 0; a.laneUp 3 = true ∧ a.rb Reg.thmCLOCK_STATE 1 = false ∧ 100 * 154000000 < 99 * 156250000 ∧
      101 * 100000000 < 100 * 102000000 ∧ a.rb Reg.thmCLOCK_STATE 0 = false) := by decide +kernel

def mirrorWait (n : Nat) : State := { State.reset with tly := { waiting := (List.range n).map fun i => (0, { TEntry.empty with seq := i + 1 }) } }
def nJob (ops : List NvmOp) (fin : List NvmDone) : State := { State.reset with nvm := { cur := [(2, some ⟨1, 0, none, ops, fin⟩)] } }

theorem witness_NvmAndMirror :
    (let a := (nJob [.page 3 [1, 2], .cell 9 [4]] []).advance 0
     tget none a.nvm.cur 2 = some ⟨1, 0, none, [.page 3 [1, 2], .cell 9 [4]], []⟩ ∧ tget none a.nvm.cur 1 = none) ∧
    (∀ f ∈ [NvmDone.mirror 5, .epoch 6, .hwm 7], tget none ((nJob [.page 3 [1, 2]] [f]).advance 0).nvm.cur 2 = some ⟨1, 0, none, [.page 3 [1, 2]], [f]⟩) ∧
    (let a := (mirrorWait 8).advance 100; 7 ≤ a.tly.waiting.length ∧ a.tly.lastMirror = none) ∧
    (let a := (mirrorWait 1).advance 100000000; a.tly.waiting = (0, { TEntry.empty with seq := 1 }) :: [] ∧ a.since 0 100000000 = true) ∧
    (let a := (mirrorWait 1).advance 5; a.since 0 100000000 = false ∧ ¬ (7 ≤ a.tly.waiting.length)) ∧
    (let a := State.reset.advance 0; a.accCheck dbg Reg.cfgCONFIG_SAVE (keySize Reg.cfgCONFIG_SAVE) 1 true = 0 ∧
      a.accCheck dbg Reg.cfgCONFIG_CLEAR (keySize Reg.cfgCONFIG_CLEAR) 1 true = 0) := by decide +kernel

def sFlash (l : List FlashOp) : State := { State.reset with flash := { pollSince := some 0, jobs := [⟨.table 3, l⟩] } }
/-- SPI_SEL holds v, with a shift of n bits under way where one is given. -/
def sSpi (v : Nat) (sh : Option (Nat × Nat)) : State := { objs [(Reg.spiSPI_SEL, v)] with
  flash := { selSince := if v = 0 then none else some 0, shift := sh }
  od := { acts := if sh.isSome then [(Reg.spiSPI_GO, { tok := 5, busy := true, src := 0x40 })] else [] } }

theorem witness_FlashAndSpi :
    (State.reset.advance 0).flash.jobs = [] ∧
    (let x := ((sFlash [.erase 4096, .program 0 [1]]).advance 5).flash
     x.pollSince = some 0 ∧ x.jobs = ⟨.table 3, [.erase 4096, .program 0 [1]]⟩ :: [] ∧ (0 + 3000000000 : Nat) < 3000000001) ∧
    ((sFlash [.program 0 [1]]).advance 5).flash.jobs = ⟨.table 3, [.program 0 [1]]⟩ :: [] ∧
    (let a := (sSpi 0 none).advance 0; let k := Reg.spiSPI_SEL
     a.accCheck dbg k (keySize k) 2 true = 0 ∧ a.r k = 0 ∧ a.flash.selSince = none ∧ a.accCheck dbg k (keySize k) 3 true = 0 ∧
      a.accCheck dbg Reg.spiSPI_GO (keySize Reg.spiSPI_GO) 1 true = 0) ∧
    (let a := (sSpi 4 (some (8, 3))).advance 10000000; let k := Reg.spiSPI_SEL
     a.accCheck dbg k (keySize k) 0 true = 0 ∧ a.r k = 4 ∧ a.flash.shift.isSome = true ∧ a.actBusy Reg.spiSPI_GO = true ∧
      a.flash.selSince = some 0 ∧ a.since 0 10000000 = true ∧ a.flash.shift = some (8, 3) ∧ a.flash.pollSince = none ∧
      a.since a.flash.shiftAt ((8 + 2) * (5 * a.flash.div)) = true) ∧
    (let a := (sSpi 4 (some (8, 3))).advance 100; a.since 0 10000000 = false ∧ a.since a.flash.shiftAt ((8 + 2) * (5 * a.flash.div)) = false) ∧
    (let a := (sSpi 4 none).advance 0; a.accCheck dbg Reg.spiSPI_GO (keySize Reg.spiSPI_GO) 1 true = 0 ∧ a.flash.selSince.isSome = true) := by
  decide +kernel

def sHot (t : Option Nat) : State := { State.reset with pwr := { cutoff := true, recoverSince := t } }
def sLc (lc : Nat) (key : Option Bytes) (l : List (Nat × Nat)) : State := { objs l with fac := { lifeCycle := lc, ownerKey := key } }

theorem witness_ResetsAndLifeCycle :
    (let a := ({ State.reset with boot := { wdArmed := true } } : State).advance 250000000
     a.boot.wdArmed = true ∧ a.since a.boot.wdLast 250000000 = true) ∧
    (let a := ({ sDev 4 [(Reg.thmSTOP_CAUSE, 5)] with boot := { wdArmed := true } } : State).advance 250000000; a.stopHeld = true) ∧
    (State.reset.advance 0).boot.wdArmed = false ∧ (State.reset.advance 0).stopHeld = false ∧
    (State.reset.advance 0).accCheck dbg Reg.dbgDEBUG_RESET (keySize Reg.dbgDEBUG_RESET) 1 true = 0 ∧
    (State.reset.advance 0).pwr.cutoff = false ∧ (State.reset.advance 0).r Reg.opDEVICE_STATE ≠ 4 ∧
    ((sHot none).advance 0).pwr.cutoff = true ∧ ((sHot none).advance 0).pwr.recoverSince = none ∧
    (let a := (sHot (some 0)).advance 10000000000; a.pwr.recoverSince = some 0 ∧ a.since 0 10000000000 = true) ∧
    (let a := (sHot (some 0)).advance 5; a.since 0 10000000000 = false) ∧
    (let k := Reg.lcLC_REQ; let d : List (Nat × Nat) := [(Reg.opDEVICE_STATE, 1)]
     ((sLc 0 none d).advance 0).accCheck dbg k (keySize k) 1 true = 0 ∧ ((sLc 0 none d).advance 0).r Reg.opDEVICE_STATE = 1 ∧
      ((sLc 1 none d).advance 0).accCheck dbg k (keySize k) 2 true = 0 ∧ ((sLc 3 none d).advance 0).accCheck dbg k (keySize k) 2 true = 0) := by
  decide +kernel

def rails0 : List Nat := [750, 750, 800, 800, 900, 900, 1200, 1100, 1100, 1800, 3300, 12000]
def sBoot (step : Nat) (l : List (Nat × Nat) := []) : State := { objs ((Reg.rstSTART_STEP, step) :: l) with boot := { released := some 0 } }

set_option maxRecDepth 20000 in
theorem witness_StartUp :
    (let a := State.reset.advance 2000000; a.boot.released = none ∧ a.pwr.cutoff = false ∧ a.since a.boot.supplyAt 2000000 = true) ∧
    ((State.reset.advance 0).since (State.reset.advance 0).boot.supplyAt 2000000 = false) ∧
    (let a := (sBoot 0).advance 0; a.boot.released.isSome = true ∧ a.r Reg.rstSTART_STEP = 0) ∧
    (((sBoot 1).advance 0).r Reg.rstSTART_STEP = 1 ∧ ((sBoot 3).advance 0).r Reg.rstSTART_STEP = 3 ∧ ((sBoot 3).advance 0).boot.status = 1 ∧ ((sBoot 5).advance 0).r Reg.rstSTART_STEP = 5) ∧
    (let a := (sBoot 4).advance 0; let r : List TrainIn := List.replicate 16 ⟨32, eyeSweeps⟩
     a.r Reg.rstSTART_STEP = 4 ∧ r.length = 16 ∧ 8 ≤ ((List.range r.length).filter fun d => (r[d]?).any fun x =>
      decide (x.density ≠ 0 ∧ x.density = (r.head?.map (·.density)).getD 0 ∧ a.r Reg.memEYE_MIN ≤ narrowest (fullEyes x.sweeps))).length) ∧
    (let a := (sBoot 4).advance 0; let r : List TrainIn := List.replicate 16 ⟨0, []⟩
     ((List.range r.length).filter fun d => (r[d]?).any fun x => decide (x.density ≠ 0 ∧ x.density = (r.head?.map (·.density)).getD 0 ∧
      a.r Reg.memEYE_MIN ≤ narrowest (fullEyes x.sweeps))).length < 8) ∧ lowerRate 6400 = some 5600 ∧
    (let a := (sBoot 8).advance 10000000000
     a.r Reg.rstSTART_STEP = 8 ∧ a.boot.arrived = false ∧ a.boot.waitRaised = false ∧ a.r Reg.timeTIME_STATE ≠ 2 ∧
      a.since a.boot.standbyAt 10000000000 = true) ∧
    (let a := (sBoot 10 [(Reg.opDEVICE_STATE, 2)]).advance 10000000000
     a.r Reg.rstSTART_STEP = 10 ∧ a.boot.arrived = false ∧ a.pwr.target = none ∧
      a.since a.boot.readyAt (1000000 * a.r Reg.suSTART_WAIT) = true ∧ a.r Reg.opDEVICE_STATE = 2) := by decide +kernel

def sTap (lc : Nat) (x : Tap) : State := { sMem [(Reg.thmDOMAINS_UP, 0xF80F)] with fac := { lifeCycle := lc, ownerKey := some (List.replicate 32 5) }, tap := x }

theorem witness_TapInstructions :
    ((sTap 1 {}).advance 0).fac.lifeCycle ≠ 2 ∧ (State.reset.advance 0).domUp 19 = false ∧
    ((sTap 2 {}).advance 0).fac.lifeCycle = 2 ∧ ((sTap 2 {}).advance 0).tap.unlocked = false ∧
    ((sTap 2 { lockout := some 9 }).advance 0).tap.lockout = some 9 := by decide +kernel

theorem witness_DebugAccess :
    (let a := (sTap 2 {}).advance 0; a.fac.lifeCycle = 2 ∧ a.dbgLock ≠ 3 ∧ a.unlockWord.isSome = true) ∧
    (let a := (sTap 2 { lockout := some 9 }).advance 0; a.dbgLock = 3 ∧ a.tap.lockout = some 9) ∧
    (let a := (sTap 1 {}).advance 0
     a.accCheck dbg Reg.dbgDBG_RELOCK (keySize Reg.dbgDBG_RELOCK) 1 true = 0 ∧ a.dbgOpen = true ∧ a.tap.objStatus ≠ 0xFE ∧
      a.accCheck dbg Reg.dbgSTEP_PIPES (keySize Reg.dbgSTEP_PIPES) 1 true = 0 ∧
      a.accCheck dbg Reg.dbgSTEP_STATIONS (keySize Reg.dbgSTEP_STATIONS) 1 true = 0 ∧
      a.accCheck dbg Reg.dbgSTEP_TICK (keySize Reg.dbgSTEP_TICK) 1 true = 0 ∧
      (a.domUp 15 = true ∧ 4096 < a.memEnd 0 4096 ∧ (∃ d l, a.dramCopy 4096 = (some d, l)) ∧ a.memDown 0 4096 = false ∧ a.memEnd 3 (2 ^ 39) ≤ 2 ^ 39 ∧ a.slotOwner 1 = none)) ∧
    ((sTap 1 { objStatus := 0xFE }).advance 0).tap.objStatus = 0xFE ∧
    (let a := ({ sMem [] with fac := { lifeCycle := 1 } } : State).advance 0; a.dbgOpen = true ∧ 4096 < a.memEnd 0 4096 ∧ a.memDown 0 4096 = true) := by
  refine ⟨by decide +kernel, by decide +kernel, ⟨by decide +kernel, by decide +kernel, by decide +kernel, by decide +kernel, by decide +kernel,
    by decide +kernel, by decide +kernel, by decide +kernel, ⟨_, _, rfl⟩, by decide +kernel, by decide +kernel, by decide +kernel⟩,
    by decide +kernel, by decide +kernel⟩

theorem witness_ActBusy : (let a := (sSpi 4 (some (8, 3))).advance 0; let k := Reg.spiSPI_GO
      a.accCheck dbg k (keySize k) 1 true = 0x1A ∧ a.actBusy k = true) ∧
    (State.reset.advance 0).accCheck dbg Reg.spiSPI_GO (keySize Reg.spiSPI_GO) 1 true = 0 := by decide +kernel

def sHold : State := { State.reset with od := { holds := [(0x0302 * 65536 + 5, ⟨0, 3⟩)] } }

theorem witness_EventHoldOff :
    ((sHold.od.holds.map fun e => (e.1, some e.2)) = [(0x0302 * 65536 + 5, some ⟨0, 3⟩)]) ∧ sHold.up < 0 + sHold.r Reg.evEVENT_HOLDOFF * 1000000 ∧
    State.reset.od.holds = [] ∧ State.reset.r Reg.evEVENT_ENABLE = 1 := by decide +kernel

/-! ## Well-formedness: an ill-formed term for each check, which the check refuses -/

def okPkt : HeadPkt := pktOf 0x01 [1, 2, 3, 4]
def okRing : RingFrame := inFrame 1 9 7 [1, 2, 3, 4]

theorem smoke_wellFormed : (Instr.sof 0 3 okPkt).wf = true ∧ (Instr.ringFrameForward 0 okRing).wf = true ∧ (Instr.commit 0 3 dbg 1).wf = true ∧
    (Instr.memReadDone 0 (rd [(9, 3)])).wf = true ∧ (Instr.housekeepingRound 0 ⟨List.replicate 16 0, List.replicate 14 0, List.replicate 16 0⟩).wf = true := by
  decide +kernel

theorem smoke_headPkt : ∀ p ∈ [{ okPkt with seq := 256 }, { okPkt with ver := 16 }, { okPkt with len := 4096 }, { okPkt with words := [2 ^ 32] },
    { okPkt with crc := 2 ^ 32 }, { okPkt with unknown := some 0x01 }, { okPkt with unknown := some 256 }], (Instr.sof 0 3 p).wf = false := by
  decide +kernel

theorem smoke_ringFrame : ∀ f ∈ [{ okRing with ty := 256 }, { okRing with dst := 128 }, { okRing with src := 128 }, { okRing with ring := 2 },
    { okRing with hops := 256 }, { okRing with len := 4097 }, { okRing with seq := 65536 }, { okRing with epoch := 2 ^ 32 },
    { okRing with info := 65536 }, { okRing with hcrc := 65536 }, { okRing with crc := 2 ^ 32 }], (Instr.ringFrameForward 0 f).wf = false := by
  decide +kernel

theorem smoke_access : (Instr.commit 0 3 ⟨0x42, 0⟩ 1).wf = false ∧ (Instr.commit 0 3 ⟨0, 2 ^ 32⟩ 1).wf = false ∧
    (Instr.commit 0 3 dbg (2 ^ 64)).wf = false ∧ (Instr.slotMap 0 1 2 dbg (2 ^ 32) []).wf = false ∧ (Instr.arm 0 1 ⟨0x50, 0⟩).wf = false := by
  decide +kernel

theorem smoke_tick : (Instr.tickStart 0 ⟨[192], [], []⟩).wf = false ∧ (Instr.tickStart 0 ⟨[], [(24, 0)], []⟩).wf = false ∧
    (Instr.tickStart 0 ⟨[], [], [(192, 0)]⟩).wf = false := by decide +kernel

theorem smoke_memory : ∀ r ∈ [{ rd [] with local_ := 1 }, { rd [] with local_ := 2 ^ 33 }, { rd [] with tag := 2 ^ 32 },
    { rd [] with waiting := [⟨1, 5, 0, false⟩, ⟨1, 9, 1, false⟩] }, rd [(68, 1)], rd [(3, 0)], rd [(3, 1), (3, 2)], { rd [] with item := 10 },
    { rd [] with item := 4 }, { rd [] with item := 1, local_ := 32 * 1048576 }], (Instr.memReadDone 0 r).wf = false := by decide +kernel

theorem smoke_sweeps : (Instr.refreshDue 0 3 [⟨1, 5, 0, false⟩, ⟨1, 9, 1, false⟩] []).wf = false ∧ (Instr.refreshDue 0 3 [] [⟨0, true, 5, 2 ^ 128⟩]).wf = false ∧
    (Instr.fullTrainingDone 0 3 [⟨0, true, 5, 2 ^ 128⟩]).wf = false ∧ (Instr.dramTrainingDone 0 []).wf = false := by decide +kernel

theorem smoke_lanes : (Instr.cap 0 3 { capWord with crc := 256 }).wf = false ∧ (Instr.cap 0 3 { capWord with f2 := 256 }).wf = false ∧
    (Instr.auxReceivedWord 0 1 (2 ^ 32)).wf = false ∧ (Instr.delayExchange 0 [1, 2, 3]).wf = false := by decide +kernel

theorem smoke_partner : (Instr.verdict 0 (pm (2 ^ 32)) 0).wf = false ∧ (Instr.verdict 0 (pm 0) 256).wf = false ∧
    (Instr.heartbeat 0 (pm 0) { hbPkt 0 1 with len := 4096 }).wf = false ∧ (Instr.heartbeat 0 (pm 0) (hbPkt 0 1)).wf = true ∧
    (Instr.armedSet 0 (pm 0) { setIn 9 with tag := 65536 }).wf = false ∧ (Instr.objFwd 0 (pm 0) (2 ^ 24) []).wf = false ∧
    (Instr.offsets 0 (pm 0) 3 65536 ⟨0, []⟩).wf = false ∧ (Instr.demands 0 (pm 0) (2 ^ 64) []).wf = false := by decide +kernel

theorem smoke_platform : (Instr.housekeepingRound 0 ⟨[], List.replicate 14 0, List.replicate 16 0⟩).wf = false ∧
    (Instr.thermalRecovery 0 []).wf = false ∧ (Instr.supplyRecheck 0 []).wf = false ∧ (Instr.ownerKey 0 dbg (2 ^ 32) []).wf = false ∧
    (Instr.dbgUnlock 0 []).wf = false ∧ (Instr.dbgObjRead 0 65536 0).wf = false ∧ (Instr.dbgObjRead 0 0 256).wf = false ∧
    (Instr.dbgObjWrite 0 0 0 256 0).wf = false ∧ (Instr.dbgMemWrite 0 0 0 true (2 ^ 64)).wf = false := by decide +kernel

/-! ## Values of the spec -/

/-- The outer code's generator, (x + 1)(x + 2)(x + 4)(x + 8) over the field of R334, multiplied out by hand. -/
theorem test_rsGenerator : rsGenerator = [15, 54, 120, 64] := by decide +kernel

/-- The worked example of R341: local address 1,193,319. -/
theorem test_devAddr : devAddr 1193319 = ⟨2, 1, 19, 720⟩ ∧ checkPlace 1193319 = (63, 0) ∧ rowTag 1 310 = 0x00200136 := by decide +kernel

/-- One and two wrong symbols are corrected in ECC_MODE 0, three are not; ECC_MODE 2 corrects none (R334). -/
theorem test_decodeEcc : decodeEcc 0 [(9, 3)] = some (1, []) ∧ decodeEcc 0 [(9, 3), (66, 5)] = some (2, []) ∧
    decodeEcc 1 [(9, 3), (66, 5)] = none ∧ decodeEcc 2 [(9, 3)] = none := by decide +kernel

/-- IDCODE captures the word of R578. -/
theorem test_idcode : (match exec (.idcode 0) State.reset with | .next t => t.tap.dr | _ => 0) = 0x13219A97 := by decide +kernel

/-- The default ENC_SCALE and 384 counts in a millisecond give SPEED 6,000,000 (R188). -/
theorem test_speed : (match exec (.speed 1000000) sEnc with | .next t => t.r (Reg.encSPEED 2) | _ => 0) = 6000000 := by decide +kernel

end Sys2Proof.Tests
end

section
/-! PROOFS. Stops of banks: what the hard reaction touches, and the statements O8 and O9 (R17-R19, R259-R263, R476, R612). -/

namespace Sys2Proof.Machine

/-! ## What stands while a bank is stopped -/

@[simp] theorem State.w_bank (s : State) (k v j : Nat) : (s.w k v).bank j = s.bank j := rfl

/-- The gates of a bank and its queue: what a stop empties. -/
def Bank.drives (x : Bank) : Nat × Bool × Bool × List Req := (x.ls, x.hb, x.hh, x.queue)

/-- The registers that say whether a bank is stopped, and TICK_COUNT. -/
def stopKey (k : Nat) : Bool :=
  decide (k = Reg.opTICK_COUNT ∨ (0x500000 ≤ k ∧ k < 0x50C000 ∧ (k % 2048 = 4 ∨ k % 2048 = 5)))

/-- What the bookkeeping of events and channels leaves alone: the registers of `stopKey`, every bank's gates and queue, the die-to-die
link and the tick. -/
def State.steady (s : State) : (Nat → Nat) × (Nat → Nat × Bool × Bool × List Req) × D2d × Tick :=
  (fun k => if stopKey k then s.r k else 0, fun j => (s.bank j).drives, s.d2d, s.tick)

/-- Registers above those of the banks are none of them. -/
theorem stopKey_above {k : Nat} (h : 0x50C000 ≤ k) : stopKey k = false := by
  unfold stopKey Reg.opTICK_COUNT; exact decide_eq_false (by omega)

theorem stopKey_state {b : Nat} (h : b < 24) : stopKey (Reg.bkBANK_STATE b) = true := by
  unfold stopKey Reg.bkBANK_STATE; exact decide_eq_true (by omega)

theorem stopKey_cause {b : Nat} (h : b < 24) : stopKey (Reg.bkSTOP_CAUSE b) = true := by
  unfold stopKey Reg.bkSTOP_CAUSE; exact decide_eq_true (by omega)

theorem steady_r {s t : State} (h : t.steady = s.steady) {k : Nat} (hk : stopKey k = true) : t.r k = s.r k := by
  simpa [State.steady, hk] using congrFun (congrArg Prod.fst h) k

theorem steady_bank {s t : State} (h : t.steady = s.steady) (j : Nat) : (t.bank j).drives = (s.bank j).drives :=
  congrFun (congrArg (fun p => p.2.1) h) j

theorem steady_d2d {s t : State} (h : t.steady = s.steady) : t.d2d = s.d2d := congrArg (fun p => p.2.2.1) h

theorem steady_tick {s t : State} (h : t.steady = s.steady) : t.tick = s.tick := congrArg (fun p => p.2.2.2) h

/-- What stands is the same where these registers, the gates and queues, the link and the tick are. -/
theorem steady_of {s t : State} (hr : ∀ k, stopKey k = true → t.r k = s.r k) (hb : ∀ j, (t.bank j).drives = (s.bank j).drives)
    (hd : t.d2d = s.d2d) (ht : t.tick = s.tick) : t.steady = s.steady := by
  refine Prod.ext (funext fun k => ?_) (Prod.ext (funext hb) (Prod.ext hd ht))
  by_cases hk : stopKey k = true
  · simp [State.steady, hk, hr k hk]
  · simp [State.steady, hk]

theorem steady_w' (s : State) (k v : Nat) (hk : stopKey k = false) : (s.w k v).steady = s.steady := by
  refine steady_of (fun j hj => ?_) (fun _ => rfl) rfl rfl
  rw [State.w_r, if_neg]
  rintro rfl
  simp [hk] at hj

theorem steady_w (s : State) (k v : Nat) (hk : 0x50C000 ≤ k) : (s.w k v).steady = s.steady :=
  steady_w' s k v (stopKey_above hk)

theorem steady_wBank (s : State) (b : Nat) (x : Bank) (hx : x.drives = (s.bank b).drives) : (s.wBank b x).steady = s.steady := by
  refine steady_of (fun _ _ => rfl) (fun j => ?_) rfl rfl
  by_cases hj : j = b <;> simp [hj, hx]

/-- The same gates and queue written into states that agree. -/
theorem steady_wBank_congr {s t : State} (h : t.steady = s.steady) (b : Nat) {x y : Bank} (hxy : x.drives = y.drives) :
    (t.wBank b x).steady = (s.wBank b y).steady := by
  have hd := steady_d2d h
  have ht := steady_tick h
  refine steady_of (fun k hk => steady_r h hk) (fun j => ?_) hd ht
  by_cases hj : j = b <;> simp [hj, hxy, steady_bank h j]

/-- The same value written into states that agree. -/
theorem steady_w_congr {s t : State} (h : t.steady = s.steady) (k v : Nat) : (t.w k v).steady = (s.w k v).steady := by
  have hb := steady_bank h
  have hd := steady_d2d h
  have ht := steady_tick h
  refine steady_of (fun j hj => ?_) hb hd ht
  rw [State.w_r, State.w_r, steady_r h hj]

/-- The newer of two writes of a bank stands. -/
theorem steady_wBank_wBank (s : State) (b : Nat) (x y : Bank) : ((s.wBank b x).wBank b y).steady = (s.wBank b y).steady := by
  refine steady_of (fun _ _ => rfl) (fun j => ?_) rfl rfl
  by_cases hj : j = b <;> simp [hj]

theorem steady_wChan (s : State) (n : Nat) (x : Chan) : (s.wChan n x).steady = s.steady := rfl

theorem steady_used (s : State) : s.used.steady = s.steady := rfl

theorem steady_when (s : State) (c : Bool) (f : State → State) (h : ∀ t, (f t).steady = t.steady) : (s.when c f).steady = s.steady := by
  unfold State.when; split
  · exact h s
  · rfl

theorem steady_each {α : Type} (s : State) (l : List α) (f : α → State → State) (h : ∀ a t, (f a t).steady = t.steady) :
    (s.each l f).steady = s.steady := by
  unfold State.each
  induction l generalizing s with
  | nil => rfl
  | cons a l ih => simp only [List.foldl_cons]; rw [ih, h]

theorem stopKey_not_book {k : Nat} (hk : stopKey k = true) : bookKey k = false := by
  have h := of_decide_eq_true hk
  unfold Reg.opTICK_COUNT at h
  exact decide_eq_false (by omega)

/-- Bookkeeping touches none of it. -/
theorem steady_of_book {s t : State} (h : t.book = s.book) : t.steady = s.steady :=
  steady_of (fun k hk => book_r h k (stopKey_not_book hk)) (fun j => by rw [book_eq h]; rfl) (by rw [book_eq h]) (by rw [book_eq h])

/-- The result object of an action: its own place plus one, or one of two registers beside it. -/
theorem resultOf_some {key j : Nat} (h : resultOf key = some j) : j = key + 1 ∨ j = Reg.cfgCONFIG_RESULT ∨ j = Reg.dbgSTEP_RESULT := by
  unfold resultOf at h
  dsimp only at h
  split_ifs at h <;> simp_all

/-- The end of an action whose result object lies above the registers of the banks. -/
theorem steady_actDone (s : State) (key v : Nat) (ok : Bool) (h : 0x50C000 ≤ key) : (s.actDone key v ok).steady = s.steady := by
  have he := actDone_eq s key v ok
  refine steady_of (fun k hk => ?_) (fun j => by rw [he]; rfl) (by rw [he]) (by rw [he])
  refine actDone_r_ne s key v ok k (stopKey_not_book hk) fun hj => ?_
  have hk' := of_decide_eq_true hk
  have := resultOf_some hj
  unfold Reg.cfgCONFIG_RESULT Reg.dbgSTEP_RESULT at this
  unfold Reg.opTICK_COUNT at hk'
  omega

/-! ## The hard reaction (R260) -/

theorem steady_coil (s : State) (n r : Nat) (injector : Bool) : (s.coil n r injector).steady = s.steady := by
  unfold State.coil
  dsimp only
  split <;> simp (disch := omega) only [steady_w, State.wi, Reg.chsCOIL_RES, Reg.chsCOIL_T, Reg.chsVARIANT]

theorem steady_lastOn (s : State) (n : Nat) : (s.lastOn n).steady = s.steady := by
  simp (disch := omega) only [State.lastOn, steady_w, Reg.chsLAST_ON]

theorem steady_holdEst (s : State) (n : Nat) (r : Option Nat) : (s.holdEst n r).steady = s.steady := by
  unfold State.holdEst
  dsimp only
  split
  · cases r with
    | none => exact (steady_coil _ _ _ _).trans ((steady_used _).trans (steady_wBank _ _ _ (by rfl)))
    | some v => exact (steady_coil _ _ _ _).trans (steady_wBank _ _ _ (by rfl))
  · rfl

/-- The end of a bank's event leaves gates and queue as they are. -/
theorem steady_eventCut (s : State) (b : Nat) : (s.eventCut b).steady = s.steady := by
  unfold State.eventCut
  dsimp only
  split
  next n _ =>
    have hs : ((if (s.bank b).freeAt = none then (s.holdEst n none).when (decide ((s.bank b).decayAt = none)) fun t => t.lastOn n
        else s) : State).steady = s.steady := by
      split
      · exact (steady_when _ _ _ fun t => steady_lastOn t n).trans (steady_holdEst s n none)
      · rfl
    rw [steady_w _ _ _ (by unfold Reg.chsCH_STATE; omega), steady_wBank _ _ _ (by rfl), hs]
  next => rfl

/-- The hard reaction turns the gates of its bank off; else it touches nothing that stands. -/
theorem hardReact_steady (s : State) (b : Nat) : (s.hardReact b).steady = (s.allOff b).steady := by
  unfold State.hardReact
  rw [steady_each _ _ _ fun n t => steady_when _ _ _ fun u => ?_, steady_eventCut]
  simp (disch := omega) only [State.wAll, List.foldl_cons, List.foldl_nil, steady_w, Reg.chsCH_STATE, Reg.chsI_SET, Reg.chsDUTY]

theorem steady_queuePub (s : State) (b : Nat) : (s.queuePub b).steady = s.steady := by
  unfold State.queuePub
  dsimp only
  rw [steady_each _ _ _ fun n t => steady_when _ _ _ fun u => steady_w _ _ _ (by unfold Reg.chsCH_STATE; omega)]
  exact steady_w' _ _ _ (by unfold stopKey Reg.bstQUEUE_DEPTH Reg.opTICK_COUNT; exact decide_eq_false (by omega))

/-- A bank that leaves ARMED loses its queue; else it touches nothing that stands (R263). -/
theorem leaveArmed_steady (s : State) (b : Nat) : (s.leaveArmed b).steady = (s.wBank b { s.bank b with queue := [] }).steady := by
  unfold State.leaveArmed
  dsimp only
  rw [steady_queuePub, steady_each _ _ _ fun n t => (steady_wChan _ _ _).trans (steady_w _ _ _ (by unfold Reg.chsCARRY; omega))]
  have hs := steady_each s ((s.bank b).queue.filter fun q => q.test) (fun q t => t.actDone (Reg.chTEST_PULSE q.ch) 4 false)
    fun q t => steady_actDone _ _ _ _ (by unfold Reg.chTEST_PULSE; omega)
  refine steady_wBank_congr hs b ?_
  have hb := steady_bank hs b
  simp only [Bank.drives, Prod.mk.injEq, and_true] at hb ⊢
  obtain ⟨hls, hhb, hhh, -⟩ := hb
  exact ⟨hls, hhb, hhh⟩

/-! ## The stop of one bank -/

/-- Bank b is in t as it was in s: its stop registers, its gates and its queue. -/
def SameStop (s t : State) (b : Nat) : Prop :=
  t.r (Reg.bkBANK_STATE b) = s.r (Reg.bkBANK_STATE b) ∧ t.r (Reg.bkSTOP_CAUSE b) = s.r (Reg.bkSTOP_CAUSE b) ∧
    (t.bank b).drives = (s.bank b).drives

/-- Bank b has been stopped hard with cause k between s and t: the cause is set, a bank in use drives no gate, and one that was ARMED is
STOPPED with an empty queue. -/
def HardStopped (s t : State) (b k : Nat) : Prop :=
  t.rb (Reg.bkSTOP_CAUSE b) k = true ∧
    (t.r (Reg.bkBANK_STATE b) = 0 ∨ (t.bank b).ls = 0 ∧ (t.bank b).hb = false ∧ (t.bank b).hh = false) ∧
    (s.r (Reg.bkBANK_STATE b) = 4 → t.r (Reg.bkBANK_STATE b) = 2 ∧ (t.bank b).queue = [])

theorem sameStop_refl (s : State) (b : Nat) : SameStop s s b := ⟨rfl, rfl, rfl⟩

theorem sameStop_of_steady {s t : State} (h : t.steady = s.steady) {b : Nat} (hb : b < 24) : SameStop s t b :=
  ⟨steady_r h (stopKey_state hb), steady_r h (stopKey_cause hb), steady_bank h b⟩

theorem SameStop.trans {s t u : State} {b : Nat} (h : SameStop s t b) (hu : SameStop t u b) : SameStop s u b :=
  ⟨hu.1.trans h.1, hu.2.1.trans h.2.1, hu.2.2.trans h.2.2⟩

/-- A stopped bank stays stopped while nothing of it changes. -/
theorem HardStopped.trans {s t u : State} {b k : Nat} (h : HardStopped s t b k) (hu : SameStop t u b) : HardStopped s u b k := by
  obtain ⟨hstate, hcause, hdrives⟩ := hu
  simp only [Bank.drives, Prod.mk.injEq] at hdrives
  obtain ⟨hls, hhb, hhh, hq⟩ := hdrives
  unfold HardStopped State.rb at *
  rwa [hstate, hcause, hls, hhb, hhh, hq]

/-- A stop takes a bank as it stands. -/
theorem HardStopped.of_same {s t u : State} {b k : Nat} (hs : SameStop s t b) (h : HardStopped t u b k) : HardStopped s u b k := by
  unfold HardStopped at *
  rwa [← hs.1]

/-- Setting a bit sets it. -/
theorem bit_setBit (k v : Nat) : bit k (setBit k true v) = true := by
  simp [bit, setBit, Nat.testBit_or, Nat.testBit_shiftLeft]

/-- A bank with a cause other than HOST among its causes rests STOPPED (R259). -/
theorem restState_of_bit {k c : Nat} (hk : k ≤ 5) (h : bit k c = true) : restState c = 2 := by
  unfold restState
  rw [if_pos]
  intro h0
  have h1 : (bits 5 0 c).testBit k = true := by
    show ((c >>> 0) % 2 ^ 6).testBit k = true
    rw [Nat.testBit_mod_two_pow]
    simpa [bit, show k < 6 by omega] using h
  simp [h0] at h1

/-- A bank in BANK_STATE `old` with its gates off, its queue emptied where it was ARMED. -/
def Bank.halted (x : Bank) (old : Nat) : Bank := { x with ls := 0, hb := false, hh := false, queue := if old = 4 then [] else x.queue }

/-- What a hard stop makes of what stands: the cause is set; a bank in use rests, its gates off, its queue emptied where it was ARMED. -/
theorem bankStop_hard_steady (s : State) (b k : Nat) (hk : k ≠ 1 ∧ k ≠ 3 ∧ k ≠ 6) (hb : b < 24) :
    (s.bankStop b k true).steady = if s.r (Reg.bkBANK_STATE b) = 0 then (s.w (Reg.bkSTOP_CAUSE b) (setBit k true (s.r (Reg.bkSTOP_CAUSE b)))).steady
      else (((s.wBank b ((s.bank b).halted (s.r (Reg.bkBANK_STATE b)))).w (Reg.bkSTOP_CAUSE b) (setBit k true (s.r (Reg.bkSTOP_CAUSE b)))).w
        (Reg.bkBANK_STATE b) (restState (setBit k true (s.r (Reg.bkSTOP_CAUSE b))))).steady := by
  generalize hold : s.r (Reg.bkBANK_STATE b) = old
  generalize hcs : setBit k true (s.r (Reg.bkSTOP_CAUSE b)) = c
  have hmsg : (k = 1 || k = 3 || k = 6) = false := by simpa using ⟨⟨hk.1, hk.2.1⟩, hk.2.2⟩
  unfold State.bankStop
  simp only [hmsg, hold, hcs, State.when, Bool.false_eq_true, if_false, if_true, decide_eq_true_eq]
  generalize hs2 : (s.w (Reg.bkSTOP_CAUSE b) c).wBank b _ = s2
  have h2 : s2.steady = (s.w (Reg.bkSTOP_CAUSE b) c).steady := hs2 ▸ steady_wBank _ _ _ (by rfl)
  generalize hs4 : (if old = 4 then (s2.hardReact b).leaveArmed b else s2.hardReact b) = s4
  have h4 : s4.steady = ((s.w (Reg.bkSTOP_CAUSE b) c).wBank b ((s.bank b).halted old)).steady := by
    have hoff := hardReact_steady s2 b
    subst hs4
    split
    next h =>
      have hx : { (s2.hardReact b).bank b with queue := [] }.drives = ((s.bank b).halted old).drives := by
        have := steady_bank hoff b
        simp_all [Bank.halted, Bank.drives, State.allOff]
      rw [leaveArmed_steady, steady_wBank_congr hoff b hx]
      exact (steady_wBank_wBank _ _ _ _).trans (steady_wBank_congr h2 b rfl)
    next h =>
      have := steady_bank h2 b
      refine hoff.trans (steady_wBank_congr h2 b ?_)
      simp_all [Bank.halted, Bank.drives]
  have hc : s4.r (Reg.bkSTOP_CAUSE b) = c := (steady_r h4 (stopKey_cause hb)).trans (by simp)
  split
  · exact h2
  · rw [hc]
    have hfin : (s4.w (Reg.bkBANK_STATE b) (restState c)).steady = 
        (((s.w (Reg.bkSTOP_CAUSE b) c).wBank b ((s.bank b).halted old)).w (Reg.bkBANK_STATE b) (restState c)).steady := steady_w_congr h4 _ _
    split
    · exact (steady_w' _ _ _ (by unfold stopKey Reg.bstSTOPS Reg.opTICK_COUNT; exact decide_eq_false (by omega))).trans hfin
    · exact hfin

/-- A hard stop stops its bank and leaves every other one as it was. -/
theorem bankStop_hard (s : State) (b k : Nat) (hb : b < 24) (hk : k = 0 ∨ k = 2 ∨ k = 4) :
    (s.bankStop b k true).d2d = s.d2d ∧ HardStopped s (s.bankStop b k true) b k ∧
      ∀ j, j < 24 → j ≠ b → SameStop s (s.bankStop b k true) j := by
  have h := bankStop_hard_steady s b k (by omega) hb
  have hne : Reg.bkBANK_STATE b ≠ Reg.bkSTOP_CAUSE b := by unfold Reg.bkBANK_STATE Reg.bkSTOP_CAUSE; omega
  have hbit := bit_setBit k (s.r (Reg.bkSTOP_CAUSE b))
  have hrest := restState_of_bit (by omega) hbit
  have hother : ∀ j, j ≠ b → ∀ x v w, SameStop s (((s.wBank b x).w (Reg.bkSTOP_CAUSE b) v).w (Reg.bkBANK_STATE b) w) j ∧
      SameStop s (s.w (Reg.bkSTOP_CAUSE b) v) j := fun j hj x v w => by
    have h1 : Reg.bkBANK_STATE j ≠ Reg.bkBANK_STATE b ∧ Reg.bkSTOP_CAUSE j ≠ Reg.bkSTOP_CAUSE b ∧
      Reg.bkBANK_STATE j ≠ Reg.bkSTOP_CAUSE b ∧ Reg.bkSTOP_CAUSE j ≠ Reg.bkBANK_STATE b := by
      unfold Reg.bkBANK_STATE Reg.bkSTOP_CAUSE; omega
    simp [SameStop, h1, hj]
  split at h
  next h0 =>
    have hd := steady_d2d h
    refine ⟨hd, HardStopped.trans ⟨?_, .inl ?_, ?_⟩ (sameStop_of_steady h hb), fun j hj24 hj =>
      (hother j hj {} _ 0).2.trans (sameStop_of_steady h hj24)⟩
    · simp [State.rb, hbit]
    · simp [hne, h0]
    · simp [h0]
  next h0 =>
    have hd := steady_d2d h
    refine ⟨hd, HardStopped.trans ⟨?_, .inr ?_, ?_⟩ (sameStop_of_steady h hb), fun j hj24 hj =>
      (hother j hj _ _ _).1.trans (sameStop_of_steady h hj24)⟩
    · simp [State.rb, hbit, hne.symm]
    · simp [Bank.halted]
    · simp +contextual [hrest, Bank.halted]

/-- Every bank of a list without repetitions is stopped, and no other one. -/
theorem each_bankStop_hard (k : Nat) (hk : k = 0 ∨ k = 2 ∨ k = 4) (l : List Nat) (hl : l.Nodup) (h24 : ∀ b ∈ l, b < 24) (s : State) :
    let t := s.each l fun b t => t.bankStop b k true
    t.d2d = s.d2d ∧ (∀ b ∈ l, HardStopped s t b k) ∧ ∀ b, b < 24 → b ∉ l → SameStop s t b := by
  induction l generalizing s with
  | nil => exact ⟨rfl, by simp, fun b _ _ => sameStop_refl s b⟩
  | cons b l ih =>
    obtain ⟨hbl, hl⟩ := List.nodup_cons.1 hl
    obtain ⟨hd, hstop, hsame⟩ := bankStop_hard s b k (h24 b (by simp)) hk
    obtain ⟨ihd, ihstop, ihsame⟩ := ih hl (fun j hj => h24 j (by simp [hj])) (s.bankStop b k true)
    refine ⟨ihd.trans hd, fun j hj => ?_, fun j hj24 hj => ?_⟩
    · rcases List.mem_cons.1 hj with rfl | hj
      · exact hstop.trans (ihsame j (h24 j (by simp)) hbl)
      · have hjb : j ≠ b := fun e => hbl (e ▸ hj)
        exact .of_same (hsame j (h24 j (by simp [hj])) hjb) (ihstop j hj)
    · simp only [List.mem_cons, not_or] at hj
      exact (hsame j hj24 hj.1).trans (ihsame j hj24 hj.2)

/-- A hard stop of every bank. -/
theorem stopAll_hard (s : State) (k : Nat) (hk : k = 0 ∨ k = 2 ∨ k = 4) :
    (s.stopAll k true).d2d = s.d2d ∧ ∀ b, b < 24 → HardStopped s (s.stopAll k true) b k := by
  obtain ⟨hd, hstop, -⟩ := each_bankStop_hard k hk bankNos List.nodup_range (fun b hb => List.mem_range.1 hb) s
  exact ⟨hd, fun b hb => hstop b (List.mem_range.2 hb)⟩

/-- With no low side commanded none is on. -/
theorem lsOn_of_ls_zero (s : State) (b : Nat) (h : (s.bank b).ls = 0) : s.lsOn b = 0 := by
  have hoff : ∀ p < 8, s.lowOn (8 * b + p) = false := fun p hp => by
    have hb : (8 * b + p) / 8 = b := by omega
    simp [State.lowOn, hb, h, bit]
  have : ∀ l : List Nat, (∀ p ∈ l, p < 8) → l.foldl (fun m p => setBit p (s.lowOn (8 * b + p)) m) 0 = 0 := by
    intro l hl
    induction l with
    | nil => rfl
    | cons p l ih => simpa [hoff p (hl p (by simp)), setBit] using ih fun q hq => hl q (by simp [hq])
  exact this _ fun p hp => List.mem_range.1 hp

/-- A bank that is stopped hard drives no gate (R259, R260). -/
theorem HardStopped.stopped {a t : State} {b k : Nat} (h : HardStopped a t b k) : Stopped a t b k := by
  obtain ⟨hcause, hgates, hrest⟩ := h
  refine ⟨hcause, ?_, hrest⟩
  unfold GatesOff State.gates
  dsimp only
  split
  · exact .inl rfl
  · right
    split
    · rfl
    next h0 =>
      obtain ⟨hls, hhb, hhh⟩ := hgates.resolve_left h0
      rw [lsOn_of_ls_zero _ _ hls, hhb, hhh]

/-! ## The three hard stops (O8) -/

/-- D2D_LOSS on a link that is up, not yet lost and silent for 50 µs. -/
theorem d2dLost_stops (a : State) (hup : a.domUp 18 = true) (hl : a.d2d.lost = false) (hs : a.since a.d2d.lastRx 50000 = true) :
    a.d2dLost.d2d.lost = true ∧ a.d2dLost.d2d.lossAt = a.up ∧ ∀ b, b < 24 → HardStopped a a.d2dLost b 2 := by
  unfold State.d2dLost
  rw [if_pos (by simp [hup, hl, hs])]
  dsimp only
  generalize hs1 : ({ a with d2d := { a.d2d with lost := true, lossAt := a.up, hbSince := none } } : State) = s1
  obtain ⟨hd, hstop⟩ := stopAll_hard s1 2 (by simp)
  have hrest : ((s1.stopAll 2 true).event 0x0401 0 0).offerHandover.steady = (s1.stopAll 2 true).steady := by
    refine Eq.trans ?_ (steady_of_book (book_event (s1.stopAll 2 true) 0x0401 0 0))
    unfold State.offerHandover
    exact steady_when _ _ _ fun t => rfl
  rw [steady_d2d hrest, hd]
  refine ⟨by rw [← hs1], by rw [← hs1], fun b hb => ?_⟩
  have hsame : SameStop a s1 b := by rw [← hs1]; exact ⟨rfl, rfl, rfl⟩
  exact .of_same hsame ((hstop b hb).trans (sameStop_of_steady hrest hb))

/-- The device's own ESTOP frames leave what stands alone. -/
theorem steady_ownEstop (s : State) : s.ownEstop.steady = s.steady := by
  unfold State.ownEstop
  exact steady_each _ _ _ fun p t => steady_of_book (book_ringQueue _ _ _ _ _ _ _)

/-- STOP_N low for 40 ns. -/
theorem stopLow_stops (a : State) (width : Nat) (hw : 40 ≤ width) :
    (a.stopLow width).d2d.stopLow = true ∧ ∀ b, b < 24 → HardStopped a (a.stopLow width) b 0 := by
  unfold State.stopLow
  rw [if_pos (.inl hw)]
  simp only [show ¬ width < 40 by omega, if_false]
  generalize hs1 : ({ a with d2d := { a.d2d with stopLow := true } } : State) = s1
  obtain ⟨hd, hstop⟩ := stopAll_hard s1 0 (by simp)
  have hrest := steady_when (s1.stopAll 0 true) (decide (40 ≤ width ∧ (s1.stopAll 0 true).r Reg.nodeESTOP_ON_STOPN = 1)) State.ownEstop
    steady_ownEstop
  rw [steady_d2d hrest, hd]
  refine ⟨by rw [← hs1], fun b hb => ?_⟩
  have hsame : SameStop a s1 b := by rw [← hs1]; exact ⟨rfl, rfl, rfl⟩
  exact .of_same hsame ((hstop b hb).trans (sameStop_of_steady hrest hb))

/-- VGATE below 10.5 V. -/
theorem vgate_stops (a : State) (mv : Nat) (hmv : mv < 10500) :
    (a.vgate mv).d2d.vgateLow = true ∧ ∀ b, b < 24 → HardStopped a (a.vgate mv) b 4 := by
  unfold State.vgate
  rw [if_pos hmv]
  obtain ⟨hd, hstop⟩ := stopAll_hard { a with d2d := { a.d2d with vgateLow := true } } 4 (by simp)
  exact ⟨by rw [hd], fun b hb => .of_same ⟨rfl, rfl, rfl⟩ (hstop b hb)⟩

end Sys2Proof.Machine

open Sys2Proof Sys2Proof.Machine

/-- Settles O8: the stop of one bank leaves every other as it is, so the stop of all of them, one after the other, stops each. -/
theorem hardStops : Obligations.HardStops := by
  unfold Obligations.HardStops
  intro dt s a
  refine ⟨fun hup hl hs => ?_, fun width hw => ?_, fun mv hmv => ?_⟩
  · obtain ⟨hlost, hat, hstop⟩ := d2dLost_stops a hup hl hs
    exact ⟨_, rfl, hlost, hat, fun b hb => (hstop b hb).stopped⟩
  · obtain ⟨hlow, hstop⟩ := stopLow_stops a width hw
    exact ⟨_, rfl, hlow, fun b hb => (hstop b hb).stopped⟩
  · obtain ⟨hlow, hstop⟩ := vgate_stops a mv hmv
    exact ⟨_, rfl, hlow, fun b hb => (hstop b hb).stopped⟩

/-! ## The ends of the stops (O9) -/

namespace Sys2Proof.Machine

/-- Only bank b's own registers and state change when it arms of itself. -/
theorem autoRearm_r (s : State) (b k : Nat) (hk : k ≠ Reg.bkSTOP_CAUSE b ∧ k ≠ Reg.bkBANK_STATE b) : (s.autoRearm b).r k = s.r k := by
  unfold State.autoRearm State.armed
  dsimp only
  split
  · split <;> simp [hk]
  · rfl

theorem autoRearm_d2d (s : State) (b : Nat) : (s.autoRearm b).d2d = s.d2d := by
  unfold State.autoRearm State.armed
  dsimp only
  split
  · split <;> rfl
  · rfl

/-- A bank without AUTO_REARM does not arm of itself (R260). -/
theorem autoRearm_off (s : State) (b : Nat) (h : s.r (Reg.bkAUTO_REARM b) = 0) : s.autoRearm b = s := by
  unfold State.autoRearm
  rw [if_neg]
  omega

/-- The re-arming of a list of banks keeps cause and state of a bank without AUTO_REARM, and the link. -/
theorem each_autoRearm (l : List Nat) (s : State) : let t := s.each l fun b t => t.autoRearm b
    t.d2d = s.d2d ∧ ∀ b, s.r (Reg.bkAUTO_REARM b) = 0 →
      t.r (Reg.bkSTOP_CAUSE b) = s.r (Reg.bkSTOP_CAUSE b) ∧ t.r (Reg.bkBANK_STATE b) = s.r (Reg.bkBANK_STATE b) := by
  induction l generalizing s with
  | nil => exact ⟨rfl, fun _ _ => ⟨rfl, rfl⟩⟩
  | cons c l ih =>
    obtain ⟨ihd, ihr⟩ := ih (s.autoRearm c)
    refine ⟨ihd.trans (autoRearm_d2d s c), fun b hb => ?_⟩
    have hauto : (s.autoRearm c).r (Reg.bkAUTO_REARM b) = 0 := by
      rw [autoRearm_r, hb]
      unfold Reg.bkAUTO_REARM Reg.bkSTOP_CAUSE Reg.bkBANK_STATE; omega
    have hkeep : (s.autoRearm c).r (Reg.bkSTOP_CAUSE b) = s.r (Reg.bkSTOP_CAUSE b) ∧
        (s.autoRearm c).r (Reg.bkBANK_STATE b) = s.r (Reg.bkBANK_STATE b) := by
      by_cases hbc : c = b
      · rw [hbc, autoRearm_off s b hb]; exact ⟨rfl, rfl⟩
      · constructor <;> refine autoRearm_r _ _ _ ?_ <;> unfold Reg.bkSTOP_CAUSE Reg.bkBANK_STATE <;> omega
    exact ⟨(ihr b hauto).1.trans hkeep.1, (ihr b hauto).2.trans hkeep.2⟩

/-- The release of the gates of one bank (R476). -/
def State.releaseGates (s : State) (b : Nat) : State :=
  s.when (s.rb (Reg.bkSTOP_CAUSE b) 2) fun u => u.wBank b { u.bank b with hiZ := true }

theorem releaseGates_eq (s : State) (b : Nat) : s.releaseGates b = { s with banks := (s.releaseGates b).banks } := by
  unfold State.releaseGates State.when; split <;> rfl

theorem releaseGates_bank (s : State) (b j : Nat) :
    (s.releaseGates b).bank j = if j = b ∧ s.rb (Reg.bkSTOP_CAUSE b) 2 then { s.bank j with hiZ := true } else s.bank j := by
  unfold State.releaseGates State.when
  by_cases hj : j = b <;> split <;> simp_all

/-- The release over a list of banks without repetitions. -/
theorem each_releaseGates (l : List Nat) (hl : l.Nodup) (s : State) : let t := s.each l fun b t => t.releaseGates b
    t = { s with banks := t.banks } ∧ ∀ j, t.bank j = if j ∈ l ∧ s.rb (Reg.bkSTOP_CAUSE j) 2 then { s.bank j with hiZ := true } else s.bank j := by
  induction l generalizing s with
  | nil => exact ⟨rfl, by simp [State.each]⟩
  | cons b l ih =>
    obtain ⟨hbl, hl⟩ := List.nodup_cons.1 hl
    obtain ⟨iheq, ihbank⟩ := ih hl (s.releaseGates b)
    have hrb : ∀ j, (s.releaseGates b).rb (Reg.bkSTOP_CAUSE j) 2 = s.rb (Reg.bkSTOP_CAUSE j) 2 := fun j => by rw [releaseGates_eq]; rfl
    refine ⟨iheq.trans ?_, fun j => (ihbank j).trans ?_⟩
    · exact congrArg (fun u : State => { u with banks := ((s.releaseGates b).each l fun b t => t.releaseGates b).banks }) (releaseGates_eq s b)
    · rw [hrb, releaseGates_bank]
      by_cases hj : j = b
      · subst hj; simp [hbl]
      · simp [hj]

end Sys2Proof.Machine

/-- Settles O9. -/
theorem stopsEnd : Obligations.StopsEnd := by
  unfold Obligations.StopsEnd
  intro dt s a
  refine ⟨fun hup hs => ?_, fun t0 hl hhb h1 h2 => ?_, fun hlow => ?_, fun hm hs => ?_, fun b boost mv dur hmv hdur hon => ?_⟩
  · have h : a.d2dBeat = _ := if_pos ⟨hup, hs⟩
    exact ⟨_, rfl, by rw [h], by rw [h], by rw [h], by rw [h]⟩
  · have h : a.d2dBack = State.each { a with d2d := { a.d2d with lost := false } } bankNos fun b t => t.autoRearm b := by
      unfold State.d2dBack
      simp [hl, hhb, h1, h2]
    obtain ⟨hd, hr⟩ := each_autoRearm bankNos { a with d2d := { a.d2d with lost := false } }
    refine ⟨_, rfl, ?_⟩
    rw [h]
    exact ⟨by rw [hd], fun b _ hb => hr b hb⟩
  · exact ⟨_, rfl, if_pos hlow⟩
  · have h : a.d2dRelease = a.each bankNos fun b t => t.releaseGates b := if_pos ⟨hm, hs⟩
    obtain ⟨heq, hbank⟩ := each_releaseGates bankNos List.nodup_range a
    refine ⟨_, rfl, ?_⟩
    rw [h]
    refine ⟨heq, fun b hb => ?_⟩
    have hmem : b ∈ bankNos := List.mem_range.2 hb
    have hb' := hbank b
    split
    next hc =>
      rw [if_pos ⟨hmem, hc⟩] at hb'
      simp [State.gates, hb']
    next hc => rw [hb', if_neg fun h => hc h.2]
  · have h : a.floatLow b boost mv dur = _ := if_pos ⟨hmv, hdur, hon⟩
    refine ⟨_, rfl, ?_⟩
    rw [h]
    refine ⟨rfl, fun j hj => by simp [hj], by simp, ?_⟩
    cases boost <;> simp
end

section
/-! PROOFS. The actions of a head (O27): what acceptance leaves as it was, arming a set, and what publishing a placement leaves of the
object dictionary's own state (R25, R75, R113, R122, R144, R167, R451). -/

namespace Sys2Proof.Machine

/-! ## An accepted action -/

/-- An access whose checks pass runs the action on the state that its acceptance leaves. -/
theorem actBy_accepted (s : State) (o : Origin) (key v : Nat) (f : State → State) (h : s.accCheck o key (keySize key) v true = 0) :
    s.actBy o key v f = f (s.actStart o.src key v (keySize key)) := by
  simp [State.actBy, h]

/-- A command that runs an action of an ACT object gives, when its checks pass, what the action makes of the accepted request. -/
theorem gives_actBy {c : Instr} {s a : State} {o : Origin} {key v : Nat} {f : State → State} {P : State → Prop}
    (hexec : exec c s = .next (a.actBy o key v f)) (hacc : a.accCheck o key (keySize key) v true = 0)
    (hP : P (f (a.actStart o.src key v (keySize key)))) : Gives c s P :=
  ⟨_, hexec, by rwa [actBy_accepted a o key v f hacc]⟩

/-- The acceptance of an action on an object off the A-die is bookkeeping. -/
theorem actStart_book (s : State) (src key v len : Nat) (h : key < 0x500000) : (s.actStart src key v len).book = s.book := by
  rw [book_actStart, State.toADie, State.when, if_neg (by simp; omega)]

/-- The request of an accepted action is executing. -/
theorem actStart_busy (s : State) (src key v len : Nat) : ((s.actStart src key v len).act key).busy = true := by
  rw [State.act, (actStart_spec s src key v len).2.2, tget_tset, if_pos rfl]

/-- The end of an action leaves the requests of every other ACT object. -/
theorem actDone_act_ne (s : State) (key v : Nat) (ok : Bool) (j : Nat) (hj : j ≠ key) : (s.actDone key v ok).act j = s.act j := by
  unfold State.actDone
  dsimp only
  split
  · rw [State.act, (toks_eq (toks_tlyAdd _ _ _ _ _ _ _)).2.1, tget_tset, if_neg hj]
    cases resultOf key with
    | none => rfl
    | some k => dsimp only; split <;> rfl
  · rfl

theorem act_of_toks {s t : State} (h : t.toks = s.toks) (key : Nat) : t.act key = s.act key := by
  rw [State.act, (toks_eq h).2.1]; rfl

theorem rsp_of_toks {s t : State} (h : t.toks = s.toks) : t.od.rsp = s.od.rsp := (toks_eq h).1

/-- Bookkeeping leaves the byte strings and the pipelines. -/
theorem blob_of_book {s t : State} (h : t.book = s.book) (k : Nat) : t.blob k = s.blob k := by rw [State.blob, book_eq h]; rfl

theorem pipes_of_book {s t : State} (h : t.book = s.book) : t.pipes = s.pipes := by rw [book_eq h]

/-- What the actions of a head read of the state: acceptance leaves it (R25, R449). -/
theorem started_same (s : State) (src v len : Nat) {key : Nat} (hk : key < 0x500000) :
    (s.actStart src key v len).hrx = s.hrx ∧ (s.actStart src key v len).pipes = s.pipes ∧ (s.actStart src key v len).px = s.px ∧
      (s.actStart src key v len).folds = s.folds ∧ (s.actStart src key v len).shep = s.shep ∧
      (s.actStart src key v len).clk = s.clk ∧ ∀ k, bookKey k = false → (s.actStart src key v len).r k = s.r k := by
  have hb := actStart_book s src key v len hk
  refine ⟨?_, ?_, ?_, ?_, ?_, ?_, fun k hk => book_r hb k hk⟩ <;> rw [book_eq hb]

/-! ## Publishing a placement -/

theorem toks_wAll (s : State) (l : List (Nat × Nat)) (h : ∀ e ∈ l, e.1 ≠ Reg.actLAST_TOKEN) : (s.wAll l).toks = s.toks := by
  unfold State.wAll
  induction l generalizing s with
  | nil => rfl
  | cons e l ih =>
    rw [List.foldl_cons, ih _ fun x hx => h x (by simp [hx])]
    exact toks_w s _ _ (h e (by simp))

/-- LULL words change nothing but what a lane sends. -/
theorem sendLull_eq (s : State) (l : Nat) : s.sendLull l = { s with tw := (s.sendLull l).tw } := by
  have h : ∀ n : List Nat, ∀ t : State, t = { s with tw := t.tw } →
      n.foldl (fun t _ => t.sendWord l 0x30 0 0 0 0) t = { s with tw := (n.foldl (fun t _ => t.sendWord l 0x30 0 0 0 0) t).tw } := by
    intro n
    induction n with
    | nil => exact fun t ht => ht
    | cons a n ih => exact fun t ht => ih _ (congrArg (fun u : State => u.sendWord l 0x30 0 0 0 0) ht)
  exact h _ s rfl

theorem toks_sendLull (s : State) (l : Nat) : (s.sendLull l).toks = s.toks := by rw [sendLull_eq, toks_upd]

theorem toks_xLull (s : State) : s.xLull.toks = s.toks := by
  unfold State.xLull
  exact toks_each _ _ _ fun x t => (toks_when _ _ _ fun u => toks_sendLull u _).trans rfl

theorem toks_groupPublish (s : State) (pl : Placing) : (s.groupPublish pl).toks = s.toks := by
  unfold State.groupPublish
  refine toks_each _ _ _ fun g t => toks_wAll _ _ fun e he => ?_
  simp only [List.mem_cons, List.not_mem_nil, or_false] at he
  rcases he with rfl | rfl | rfl <;> simp only [Reg.grpLANES_UP, Reg.grpGROUP_CAP, Reg.grpGROUP_LOAD, Reg.actLAST_TOKEN] <;> omega

theorem toks_segmentMove (s : State) (h loc : Nat) : (s.segmentMove h loc).toks = s.toks := by
  have hk : Reg.pcSEG_LOCATION h ≠ Reg.actLAST_TOKEN := by unfold Reg.pcSEG_LOCATION Reg.actLAST_TOKEN; omega
  unfold State.segmentMove
  dsimp only
  split
  · split <;> rfl
  · rw [toks_w _ _ _ hk]; split <;> rfl

/-- Where a stream stands is not the state of an action. -/
theorem streamKey_ne (x : Nat) : Reg.strmSTREAM_STATE x ≠ Reg.actLAST_TOKEN ∧ Reg.strmPLACED_GROUP x ≠ Reg.actLAST_TOKEN ∧
    Reg.strmPLACED_FORMAT x ≠ Reg.actLAST_TOKEN ∧ Reg.strmLOAD x ≠ Reg.actLAST_TOKEN := by
  simp only [Reg.strmSTREAM_STATE, Reg.strmPLACED_GROUP, Reg.strmPLACED_FORMAT, Reg.strmLOAD, Reg.actLAST_TOKEN]; omega

/-- A placement is no action's start and no action's end. -/
theorem toks_publish (s : State) (cause : Nat) (pl : Placing) (fmt : Nat → Nat) : (s.publish cause pl fmt).toks = s.toks := by
  unfold State.publish
  extract_lets p hist shep s1 s2 s3 s5 b s6 s7 body s8 shep8 s9
  have h2 : s2.toks = s1.toks := toks_each _ _ _ fun h t => toks_segmentMove _ _ _
  have h3 : s3.toks = s2.toks := by
    refine toks_each _ _ _ fun x t => ?_
    obtain ⟨k1, k2, k3, k4⟩ := streamKey_ne x
    split
    · exact toks_wAll _ _ (by simp [k1, k2, k3, k4])
    · split
      · exact toks_wAll _ _ (by simp [k1, k2, k3, k4])
      · exact toks_wAll _ _ (by simp [k1, k2, k4])
  have h6 : s6.toks = s3.toks := (toks_wAll _ _ (by
    simp [Reg.shpPOOL_SLOTS, Reg.shpB_REQ, Reg.shpC_REQ, Reg.shpP_EST, Reg.shpDRAM_LOAD, Reg.actLAST_TOKEN])).trans
      (toks_groupPublish _ _)
  have h7 : s7.toks = s6.toks := toks_wAll _ _ (by simp [Reg.rgnUSED, Reg.actLAST_TOKEN])
  have h8 : s8.toks = s7.toks := (toks_w _ _ _ (by decide)).trans (toks_w _ _ _ (by decide))
  have h9 : s9.toks = s7.toks := by
    unfold s9
    split
    · rfl
    · exact (toks_upd ..).trans h8
  exact (toks_xLull _).trans (h9.trans (h7.trans (h6.trans (h3.trans h2))))

theorem toks_admitNow (s : State) : s.admitNow.toks = s.toks := (toks_publish _ _ _ _).trans (toks_w _ _ _ (by decide))

/-! ## Commands to a head -/

theorem toks_headSend (s : State) (h ty : Nat) (payload : Bytes) : (s.headSend h ty payload).toks = s.toks := rfl

theorem toks_headKick (s : State) (h : Nat) : (s.headKick h).toks = s.toks := by
  unfold State.headKick
  dsimp only
  split
  · rfl
  · split
    · rfl
    · exact toks_headSend _ _ _ _
  · rfl

theorem toks_lifeWrite (s : State) (h : Nat) : (s.lifeWrite h).toks = s.toks := by
  unfold State.lifeWrite State.headCmd
  split
  · split
    · rfl
    · exact toks_headKick _ _
  · rfl

theorem toks_sendSettings (s : State) (h : Nat) (p : PSet) : (s.sendSettings h p).toks = s.toks := by
  unfold State.sendSettings
  split
  · rfl
  · split
    · rfl
    · exact toks_headSend _ _ _ _

theorem toks_lifePublish (s : State) (h : Nat) : (s.lifePublish h).toks = s.toks := by
  have k1 : Reg.hlSHUTTER_CNT h ≠ Reg.actLAST_TOKEN := by unfold Reg.hlSHUTTER_CNT Reg.actLAST_TOKEN; omega
  have k2 : Reg.hlWINDOW_EQ h ≠ Reg.actLAST_TOKEN := by unfold Reg.hlWINDOW_EQ Reg.actLAST_TOKEN; omega
  have k3 : Reg.hlLIFE_USED h ≠ Reg.actLAST_TOKEN := by unfold Reg.hlLIFE_USED Reg.actLAST_TOKEN; omega
  have k4 : Reg.hlLIFE_STATE h ≠ Reg.actLAST_TOKEN := by unfold Reg.hlLIFE_STATE Reg.actLAST_TOKEN; omega
  unfold State.lifePublish
  extract_lets x s1 used s2 old new s3 s4
  have h2 : s2.toks = s.toks := (toks_w _ _ _ k3).trans (toks_wAll _ _ (by simp [k1, k2]))
  have h4 : s4.toks = s2.toks := (toks_when _ _ _ fun t => toks_event _ _ _ _).trans (toks_w _ _ _ k4)
  split
  · exact h2
  · exact (toks_when _ _ _ fun t => toks_event _ _ _ _).trans (h4.trans h2)

/-! ## Arming a set -/

/-- The request that is answered and the requests of every ACT object but the FOLD_NOW of head h are as they were. -/
def SameActs (h : Nat) (s t : State) : Prop := t.od.rsp = s.od.rsp ∧ ∀ key, key ≠ Reg.hlFOLD_NOW h → t.act key = s.act key

theorem SameActs.of_toks {h : Nat} {s t : State} (ht : t.toks = s.toks) : SameActs h s t :=
  ⟨rsp_of_toks ht, fun key _ => act_of_toks ht key⟩

theorem SameActs.trans {h : Nat} {s t u : State} (h1 : SameActs h s t) (h2 : SameActs h t u) : SameActs h s u :=
  ⟨h2.1.trans h1.1, fun key hk => (h2.2 key hk).trans (h1.2 key hk)⟩

theorem sameActs_foldEnd (s : State) (h code state : Nat) : SameActs h s (s.foldEnd h code state) := by
  have k1 : Reg.hlLAST_FOLD_RESULT h ≠ Reg.actLAST_TOKEN := by unfold Reg.hlLAST_FOLD_RESULT Reg.actLAST_TOKEN; omega
  have k2 : Reg.hlFOLD_STATE h ≠ Reg.actLAST_TOKEN := by unfold Reg.hlFOLD_STATE Reg.actLAST_TOKEN; omega
  unfold State.foldEnd
  split
  · exact .of_toks rfl
  · rename_i r _
    extract_lets v s1 fold pipe s2 s3
    have h1 : s1.toks = s.toks := (toks_w _ _ _ k2).trans (toks_w _ _ _ k1)
    have h2 : s2.toks = s.toks := Eq.trans (by rfl) h1
    have h3 : SameActs h s2 s3 := by
      unfold s3 State.when
      split
      · exact ⟨actDone_rsp _ _ _ _, fun key hk => actDone_act_ne _ _ _ _ _ hk⟩
      · exact .of_toks rfl
    exact ((SameActs.of_toks h2).trans h3).trans (.of_toks (toks_laneRecord _ _))

theorem toks_lifeRun (s : State) (h : Nat) : (s.lifeRun h).toks = s.toks := by
  have hs (t : State) : (t.lifeShow h).toks = t.toks := by
    unfold State.lifeShow
    split
    · rfl
    · exact toks_lifePublish t h
  exact (toks_lifeWrite _ _).trans ((hs _).trans rfl)

theorem sameActs_foldDiscard (s : State) (h : Nat) : SameActs h s (s.foldDiscard h) := by
  unfold State.foldDiscard
  split
  · exact (sameActs_foldEnd s h 6 0).trans (.of_toks (toks_lifeRun _ h))
  · exact .of_toks rfl

/-- The keys from the head pages up to the fold pages are none of the bookkeeping's. -/
theorem bookKey_of_mid {k : Nat} (h1 : 0x250100 ≤ k) (h2 : k < 0x600000) : bookKey k = false := decide_eq_false (by omega)

/-- The settings that go to the head leave the registers and the pipelines. -/
theorem sendSettings_regs_pipes (s : State) (h : Nat) (p : PSet) :
    (s.sendSettings h p).regs = s.regs ∧ (s.sendSettings h p).pipes = s.pipes := by
  unfold State.sendSettings
  split
  · exact ⟨rfl, rfl⟩
  · split <;> exact ⟨rfl, rfl⟩

/-- Arming a set (R113, R122): the set is the armed one, its tag is ARMED_TAG, and the actions are as they were. -/
theorem armSet_spec (s : State) (h : Nat) (hh : h < 32) (p : PSet) :
    (s.armSet h p).toks = s.toks ∧ ((s.armSet h p).pipe h).armed = some p ∧ (s.armSet h p).r (Reg.hsARMED_TAG h) = p.tag := by
  have k1 : Reg.hsARMED_TAG h ≠ Reg.actLAST_TOKEN := by unfold Reg.hsARMED_TAG Reg.actLAST_TOKEN; omega
  have k2 : Reg.pkTAG_TIMEOUT h ≠ Reg.actLAST_TOKEN := by unfold Reg.pkTAG_TIMEOUT Reg.actLAST_TOKEN; omega
  have kb : bookKey (Reg.hsARMED_TAG h) = false := by apply bookKey_of_mid <;> unfold Reg.hsARMED_TAG <;> omega
  unfold State.armSet
  extract_lets s1 pipe s2 hr s3 s4
  have h1 : s1.toks = s.toks := by
    unfold s1
    split
    · rename_i a _
      exact (toks_event _ _ _ _).trans ((toks_bump _ _ k2).trans (toks_when _ _ _ fun t => rfl))
    · rfl
  have h2 : s2.toks = s1.toks := (toks_w _ _ _ k1).trans rfl
  have h4 : s4.toks = s2.toks := toks_sendSettings _ _ _
  obtain ⟨hr4, hp4⟩ := sendSettings_regs_pipes s3 h p
  have r4 : s4.r (Reg.hsARMED_TAG h) = p.tag := by
    rw [State.r, hr4]; exact (State.w_r _ _ _ _).trans (if_pos rfl)
  have p4 : (s4.pipe h).armed = some p := by
    rw [State.pipe, hp4]; exact congrArg Pipe.armed ((State.wPipe_pipe _ _ _ _).trans (if_pos rfl))
  split
  · have hb := book_toPartner s4 (.armedSet s4.epoch (p.toMsg h))
    refine ⟨(toks_toPartner _ _).trans (h4.trans (h2.trans h1)), ?_, (book_r hb _ kb).trans r4⟩
    rw [State.pipe, pipes_of_book hb]
    exact p4
  · exact ⟨h4.trans (h2.trans h1), p4, r4⟩

/-- Arming a set by its command or by the unit itself, which discards a fold set that was armed. -/
theorem superArm_spec (s : State) (h : Nat) (hh : h < 32) (p : PSet) :
    SameActs h s (s.superArm h p) ∧ ((s.superArm h p).pipe h).armed = some p ∧ (s.superArm h p).r (Reg.hsARMED_TAG h) = p.tag := by
  have hd (c : Bool) : SameActs h s (s.when c fun t => t.foldDiscard h) := by
    unfold State.when
    split
    · exact sameActs_foldDiscard s h
    · exact .of_toks rfl
  exact ⟨(hd _).trans (.of_toks (armSet_spec _ h hh p).1), (armSet_spec _ h hh p).2⟩

/-! ## The results of a head's actions -/

/-- The result objects of a head's actions. -/
theorem headResultOf (h : Fin 32) : resultOf (Reg.hsCOMMIT h) = some (Reg.hsCOMMIT h + 1) ∧
    resultOf (Reg.pcTAU_COMMIT h) = some (Reg.pcTAU_COMMIT h + 1) ∧ resultOf (Reg.pcPERSIST_CLEAR h) = none ∧
    resultOf (Reg.hdREBIND h) = some (Reg.hdREBIND_RESULT h) := by
  revert h
  decide

/-- The results of COMMIT and TAU_COMMIT are numbers. -/
theorem commit_resultNumber (h : Fin 32) : ((rowAt (Reg.hsCOMMIT h + 1)).any fun (r : ObjRow) => decide (r.ty = Ty.str)) = false ∧
    ((rowAt (Reg.pcTAU_COMMIT h + 1)).any fun (r : ObjRow) => decide (r.ty = Ty.str)) = false := by
  revert h
  decide +kernel

/-- The keys of a head are none of the bookkeeping's. -/
theorem bookKey_headKey {off : Nat} (h : Fin 32) (ho : off < 0x800) : bookKey (0x300000 + off + 2048 * h) = false :=
  bookKey_of_mid (by omega) (by omega)

theorem commit_r_result (s : State) (h : Fin 32) (v : Nat) (ok : Bool) (hb : (s.act (Reg.hsCOMMIT h)).busy = true) :
    (s.actDone (Reg.hsCOMMIT h) v ok).r (Reg.hsCOMMIT h + 1) = v :=
  actDone_r_result _ _ _ _ _ (bookKey_of_mid (by unfold Reg.hsCOMMIT; omega) (by unfold Reg.hsCOMMIT; omega))
    (headResultOf h).1 (commit_resultNumber h).1 hb

theorem tauCommit_r_result (s : State) (h : Fin 32) (v : Nat) (ok : Bool) (hb : (s.act (Reg.pcTAU_COMMIT h)).busy = true) :
    (s.actDone (Reg.pcTAU_COMMIT h) v ok).r (Reg.pcTAU_COMMIT h + 1) = v :=
  actDone_r_result _ _ _ _ _ (bookKey_of_mid (by unfold Reg.pcTAU_COMMIT; omega) (by unfold Reg.pcTAU_COMMIT; omega))
    (headResultOf h).2.1 (commit_resultNumber h).2 hb

/-! ## The persistent list -/

/-- Writing a head's persistent list (R144): the list and its count, the other heads' lists as before, no pipeline, no action. -/
theorem wPersist_spec (s : State) (h : Fin 32) (l : List Patch) :
    (s.wPersist h l).toks = s.toks ∧ (s.wPersist h l).pipes = s.pipes ∧
      (∀ g, (s.wPersist h l).persist g = if g = h.val then l else s.persist g) ∧
      ∀ k, bookKey k = false → (s.wPersist h l).r k = if k = Reg.pcPERSIST_COUNT h then l.length else s.r k := by
  have k1 : Reg.pcPERSIST_COUNT h ≠ Reg.actLAST_TOKEN := by unfold Reg.pcPERSIST_COUNT Reg.actLAST_TOKEN; omega
  unfold State.wPersist
  extract_lets px s1
  have hb := book_nvmRecord (s1.w (Reg.pcPERSIST_COUNT h) l.length) (0x20 + h) 4
    (leBytes 2 l.length ++ leBytes 2 0 ++ (l.map Patch.bytes).flatten) .none
  refine ⟨(toks_nvmRecord _ _ _ _ _).trans ((toks_w _ _ _ k1).trans rfl), ?_, fun g => ?_, fun k hk => ?_⟩
  · rw [book_eq hb]; rfl
  · rw [State.persist, book_eq hb]
    exact tget_tset _ _ _ _ _
  · exact (book_r hb k hk).trans (State.w_r _ _ _ _)

/-! ## COMMIT -/

/-- Arming by COMMIT (R113, R122): the set is the armed one under its tag, which is the action's result; the patches are taken. -/
theorem commitArm_spec (s : State) (h : Fin 32) (p : PSet) (hb : (s.act (Reg.hsCOMMIT h)).busy = true) :
    (s.commitArm h p).od.rsp = s.od.rsp ∧ ((s.commitArm h p).pipe h).armed = some p ∧
      (s.commitArm h p).r (Reg.hsARMED_TAG h) = p.tag ∧ (s.commitArm h p).r (Reg.hsCOMMIT h + 1) = p.tag ∧
      (s.commitArm h p).r (Reg.pcPATCH_COUNT h) = 0 := by
  have k1 : Reg.pcPATCH_COUNT h ≠ Reg.actLAST_TOKEN := by unfold Reg.pcPATCH_COUNT Reg.actLAST_TOKEN; omega
  have k2 : Reg.hsARMED_TAG h ≠ Reg.pcPATCH_COUNT h ∧ Reg.hsARMED_TAG h ≠ Reg.pcPERSIST_COUNT h ∧
      Reg.pcPATCH_COUNT h ≠ Reg.pcPERSIST_COUNT h := by
    simp only [Reg.hsARMED_TAG, Reg.pcPATCH_COUNT, Reg.pcPERSIST_COUNT]; omega
  have ka : bookKey (Reg.hsARMED_TAG h) = false := bookKey_headKey (off := 0x10B) h (by omega)
  have kp : bookKey (Reg.pcPATCH_COUNT h) = false := bookKey_headKey (off := 0x504) h (by omega)
  obtain ⟨hacts, harmed, htag⟩ := superArm_spec s h h.isLt p
  unfold State.commitArm
  extract_lets s1 pipe s2 s3
  have t1 : s1.toks = (s.superArm h p).toks := toks_w _ _ _ k1
  have r2 : ∀ k, s2.r k = if k = Reg.pcPATCH_COUNT h then 0 else (s.superArm h p).r k := fun k => State.w_r _ _ _ _
  have p2 : (s2.pipe h).armed = some p := (congrArg Pipe.armed ((State.wPipe_pipe _ _ _ _).trans (if_pos rfl))).trans harmed
  have h3 : s3.toks = s2.toks ∧ s3.pipes = s2.pipes ∧ s3.r (Reg.hsARMED_TAG h) = s2.r (Reg.hsARMED_TAG h) ∧
      s3.r (Reg.pcPATCH_COUNT h) = s2.r (Reg.pcPATCH_COUNT h) := by
    unfold s3
    split
    · obtain ⟨ht, hp, -, hr⟩ := wPersist_spec s2 h (persistAdd (s2.persist h) p.patches)
      exact ⟨ht, hp, (hr _ ka).trans (if_neg k2.2.1), (hr _ kp).trans (if_neg k2.2.2)⟩
    · exact ⟨rfl, rfl, rfl, rfl⟩
  obtain ⟨t3, p3, a3, c3⟩ := h3
  have acts : SameActs h s s3 := (hacts.trans (.of_toks t1)).trans (.of_toks t3)
  have busy : (s3.act (Reg.hsCOMMIT h)).busy = true := by
    rw [acts.2 _ (by simp only [Reg.hsCOMMIT, Reg.hlFOLD_NOW]; omega)]; exact hb
  have kr (j : Nat) (hj : bookKey j = false) (hne : Reg.hsCOMMIT h + 1 ≠ j) :
      (s3.actDone (Reg.hsCOMMIT h) p.tag true).r j = s3.r j :=
    actDone_r_ne _ _ _ _ _ hj (by rw [(headResultOf h).1]; exact fun he => hne (Option.some.inj he))
  refine ⟨(actDone_rsp _ _ _ _).trans acts.1, ?_, ?_, commit_r_result _ h _ _ busy, ?_⟩
  · rw [State.pipe, actDone_eq]
    exact (congrArg (fun m => (tget {} m h).armed) p3).trans p2
  · rw [kr _ ka (by simp only [Reg.hsCOMMIT, Reg.hsARMED_TAG]; omega), a3, r2, if_neg k2.1, htag]
  · rw [kr _ kp (by simp only [Reg.hsCOMMIT, Reg.pcPATCH_COUNT]; omega), c3, r2, if_pos rfl]

theorem toks_withArmed (s : State) (h : Nat) (p : Option PSet) : (s.withArmed h p).toks = s.toks := rfl

/-- A COMMIT that passes its checks and the admission, with no partner to ask and nothing before it, arms the set at once. -/
theorem commitRun_arms (b : State) (h : Nat) (hcode : b.commitCode h (b.hostSet h) = 0)
    (hcheck : (b.withArmed h (some (b.hostSet h))).check.1 = 0) (hup : b.partnerUp = false) (hc : b.shep.cands = []) :
    ∃ c : State, c.toks = b.toks ∧ b.commitRun h = c.commitArm h (b.hostSet h) := by
  refine ⟨((b.withArmed h (some (b.hostSet h))).admitNow.withArmed h (b.pipe h).armed), ?_, ?_⟩
  · exact (toks_withArmed _ _ _).trans ((toks_admitNow _).trans (toks_withArmed _ _ _))
  · unfold State.commitRun State.admission
    simp [hcode, hcheck, hup, hc]

/-- A COMMIT that fails leaves the pipelines and answers its code above the tag that stays (R451). -/
theorem commitFail_spec (s : State) (h : Fin 32) (code : Nat) (hb : (s.act (Reg.hsCOMMIT h)).busy = true) :
    (s.commitFail (Reg.hsCOMMIT h) code).od.rsp = s.od.rsp ∧ (s.commitFail (Reg.hsCOMMIT h) code).pipes = s.pipes ∧
      (s.commitFail (Reg.hsCOMMIT h) code).r (Reg.hsCOMMIT h + 1) / 65536 = code := by
  unfold State.commitFail
  refine ⟨actDone_rsp _ _ _ _, by rw [actDone_eq]; rfl, ?_⟩
  rw [commit_r_result s.used h _ _ hb]
  omega

/-! ## TAU_COMMIT, PERSIST_CLEAR, REBIND and FOLD_NOW -/

/-- TAU_COMMIT on an attached head with no set that must be waited for arms the current set with the proposals (R113, R122). -/
theorem tauCommitRun_spec (s : State) (h : Fin 32) (c : PSet) (hc : (s.pipe h).cur = some c) (ha : s.attached h = true)
    (hw : s.mustWait h = false) (hb : (s.act (Reg.pcTAU_COMMIT h)).busy = true) :
    (s.tauCommitRun h).od.rsp = s.od.rsp ∧ (s.tauCommitRun h).r (Reg.pcTAU_PROPOSED h) = 0 ∧
      (s.tauCommitRun h).r (Reg.pcTAU_COMMIT h + 1) = nextTag (s.hr h).lastTag ∧
      ((s.tauCommitRun h).pipe h).armed = some { s.internalSet h .tau c with taus := s.proposals h } := by
  have k1 : Reg.pcTAU_PROPOSED h ≠ Reg.actLAST_TOKEN := by unfold Reg.pcTAU_PROPOSED Reg.actLAST_TOKEN; omega
  have kb : bookKey (Reg.pcTAU_PROPOSED h) = false := bookKey_headKey (off := 0x522) h (by omega)
  obtain ⟨hacts, harmed, -⟩ := superArm_spec s h h.isLt { s.internalSet h .tau c with taus := s.proposals h }
  unfold State.tauCommitRun
  simp only [hc, ha, hw, Bool.not_true, Bool.false_eq_true, if_false]
  generalize s.superArm h { s.internalSet h .tau c with taus := s.proposals h } = u at hacts harmed ⊢
  have hd : (u.dropProposals h).toks = u.toks := (toks_w _ _ _ k1).trans rfl
  have busy : ((u.dropProposals h).act (Reg.pcTAU_COMMIT h)).busy = true := by
    rw [act_of_toks hd, hacts.2 _ (by simp only [Reg.pcTAU_COMMIT, Reg.hlFOLD_NOW]; omega)]; exact hb
  refine ⟨(actDone_rsp _ _ _ _).trans ((rsp_of_toks hd).trans hacts.1), ?_, tauCommit_r_result _ h _ _ busy, ?_⟩
  · rw [actDone_r_ne _ _ _ _ _ kb
      (by rw [(headResultOf h).2.1]; simp only [ne_eq, Option.some.injEq, Reg.pcTAU_COMMIT, Reg.pcTAU_PROPOSED]; omega)]
    exact (State.w_r _ _ _ _).trans (if_pos rfl)
  · rw [actDone_eq]
    exact harmed

/-- PERSIST_CLEAR empties the head's persistent list and no other head's (R144). -/
theorem persistClear_spec (s : State) (h : Fin 32) (t : State)
    (ht : t = (s.wPersist h []).actDone (Reg.pcPERSIST_CLEAR h) 0 true) :
    t.od.rsp = s.od.rsp ∧ t.persist h = [] ∧ t.r (Reg.pcPERSIST_COUNT h) = 0 ∧ ∀ g, g ≠ h.val → t.persist g = s.persist g := by
  obtain ⟨hk, -, hp, hr⟩ := wPersist_spec s h []
  have kb : bookKey (Reg.pcPERSIST_COUNT h) = false := bookKey_headKey (off := 0x507) h (by omega)
  have persist (g : Nat) : t.persist g = if g = h.val then [] else s.persist g := by
    rw [← hp g, ht, State.persist, actDone_eq]; rfl
  refine ⟨?_, (persist h).trans (if_pos rfl), ?_, fun g hg => (persist g).trans (if_neg hg)⟩
  · rw [ht, actDone_rsp]; exact rsp_of_toks hk
  · rw [ht, actDone_r_ne _ _ _ _ _ kb (by rw [(headResultOf h).2.2.1]; exact (Option.some_ne_none _).symm), hr _ kb, if_pos rfl]; rfl

/-- The end of a REBIND answers its request and writes nothing but its result. -/
theorem rebindEnd_spec (s : State) (h : Fin 32) (serial : Bytes) :
    (s.rebindEnd h serial).od.rsp = s.od.rsp ∧
      (∀ k, k ≠ Reg.hdREBIND_RESULT h → (s.rebindEnd h serial).blob k = s.blob k) ∧
      ∀ k, bookKey k = false → k ≠ Reg.hdREBIND_RESULT h → (s.rebindEnd h serial).r k = s.r k := by
  unfold State.rebindEnd
  split
  · refine ⟨actDone_rsp _ _ _ _, fun k hk => ?_, fun k hb hk => ?_⟩
    · rw [State.blob, actDone_eq]
      exact (State.wBlob_blob _ _ _ _).trans (if_neg hk)
    · exact actDone_r_ne _ _ _ _ _ hb (by rw [(headResultOf h).2.2.2]; exact fun he => hk (Option.some.inj he).symm)
  · exact ⟨rfl, fun _ _ => rfl, fun _ _ _ => rfl⟩

theorem unsuspect_r (s : State) (h k : Nat) :
    (s.unsuspect h).r k = if k = Reg.hlFOLD_FAIL_SEQ h then 0 else if k = Reg.hlSHUTTER_SUSPECT h then 0 else s.r k := by
  rw [State.unsuspect, State.w_r, State.w_r]

/-- REBIND of a head whose lane is not up: the binding is gone, and so are the shutter's suspicion and the failures in a row (R75). -/
theorem rebindRun_unbinds (s : State) (h : Fin 32) (hl : s.laneUp h = false) :
    (s.rebindRun h).od.rsp = s.od.rsp ∧ (s.rebindRun h).blob (Reg.hdBOUND_SERIAL h) = [] ∧
      (s.rebindRun h).r (Reg.hlSHUTTER_SUSPECT h) = 0 ∧ (s.rebindRun h).r (Reg.hlFOLD_FAIL_SEQ h) = 0 := by
  have k1 : Reg.hlSHUTTER_SUSPECT h ≠ Reg.actLAST_TOKEN ∧ Reg.hlFOLD_FAIL_SEQ h ≠ Reg.actLAST_TOKEN ∧
      Reg.pcTAU_PROPOSED h ≠ Reg.actLAST_TOKEN := by
    simp only [Reg.hlSHUTTER_SUSPECT, Reg.hlFOLD_FAIL_SEQ, Reg.pcTAU_PROPOSED, Reg.actLAST_TOKEN]; omega
  have ks : bookKey (Reg.hlSHUTTER_SUSPECT h) = false := bookKey_headKey (off := 0x235) h (by omega)
  have kf : bookKey (Reg.hlFOLD_FAIL_SEQ h) = false := bookKey_headKey (off := 0x233) h (by omega)
  have kl : bookKey (Reg.laneLANE_STATE h) = false := decide_eq_false (by unfold Reg.laneLANE_STATE; omega)
  unfold State.rebindRun
  extract_lets s0 sn sUp hdUp hd s1
  have h0 : s0.book = (s.unsuspect h).book := book_laneRecord _ _
  have t0 : s0.toks = s.toks := (toks_laneRecord _ _).trans ((toks_w _ _ _ k1.2.1).trans (toks_w _ _ _ k1.1))
  have hup : s0.laneUp h = false := by
    rw [State.laneUp, book_r h0 _ kl, unsuspect_r, if_neg, if_neg]
    · exact hl
    all_goals simp only [Reg.laneLANE_STATE, Reg.hlSHUTTER_SUSPECT, Reg.hlFOLD_FAIL_SEQ]; omega
  rw [if_neg (by simp [hup])]
  have hb := book_laneRecord (s1.dropProposals h) h
  have t1 : ((s1.dropProposals h).laneRecord h).toks = s.toks :=
    (toks_laneRecord _ _).trans ((toks_w _ _ _ k1.2.2).trans (Eq.trans rfl t0))
  obtain ⟨hrsp, hblob, hreg⟩ := rebindEnd_spec ((s1.dropProposals h).laneRecord h) h []
  have regs (k : Nat) (hk : bookKey k = false) (hp : k ≠ Reg.pcTAU_PROPOSED h) (hn : k ≠ Reg.hdREBIND_RESULT h) :
      (((s1.dropProposals h).laneRecord h).rebindEnd h []).r k = (s.unsuspect h).r k := by
    rw [hreg k hk hn, book_r hb k hk, State.dropProposals, State.w_r, if_neg hp]
    exact book_r h0 k hk
  refine ⟨hrsp.trans (rsp_of_toks t1), ?_, ?_, ?_⟩
  · rw [hblob _ (by simp only [Reg.hdBOUND_SERIAL, Reg.hdREBIND_RESULT]; omega), blob_of_book hb]
    have hbound : s1.blob (Reg.hdBOUND_SERIAL h) = [] := (State.wBlob_blob _ _ _ _).trans (if_pos rfl)
    exact hbound
  · refine (regs _ ks ?_ ?_).trans ((unsuspect_r _ _ _).trans ((if_neg ?_).trans (if_pos rfl)))
    all_goals simp only [Reg.hlSHUTTER_SUSPECT, Reg.hlFOLD_FAIL_SEQ, Reg.pcTAU_PROPOSED, Reg.hdREBIND_RESULT]; omega
  · refine (regs _ kf ?_ ?_).trans ((unsuspect_r _ _ _).trans (if_pos rfl))
    all_goals simp only [Reg.hlFOLD_FAIL_SEQ, Reg.pcTAU_PROPOSED, Reg.hdREBIND_RESULT]; omega

/-- FOLD_NOW with a valid operand on a streaming head without a run only makes the run wait (R167). -/
theorem foldNowRun_waits (s : State) (h v : Nat) (hv : v = 1 ∨ v = 2) (ha : s.attach h = atSTREAMING) (hr : (s.fold h).run = none) :
    s.foldNowRun h v = s.wFold h { s.fold h with explicit_ := v, explicitWaits := true } := by
  unfold State.foldNowRun
  dsimp only
  rw [if_neg (by omega), if_neg (not_not.2 ha), if_neg (by simp [hr])]

end Sys2Proof.Machine

open Sys2Proof Sys2Proof.Machine

/-- Settles O27: the five actions of a head, each run on the state that its acceptance leaves. -/
theorem headActions : Obligations.HeadActions := by
  intro dt v h o s
  dsimp only
  generalize ha : s.advance dt = a
  have started (k : Nat) := (actStart_spec a o.src k v (keySize k)).1
  have busy (k : Nat) := actStart_busy a o.src k v (keySize k)
  refine ⟨fun hacc => ⟨fun hcode hcheck hup hcands => ?_, fun hcode => ?_⟩, fun hacc c hc hatt hwait => ?_, fun hacc => ?_,
    fun hacc hl => ?_, fun hacc hv hatt hrun => ?_⟩
  · refine gives_actBy (by rw [← ha]; rfl) hacc ?_
    obtain ⟨hhr, -, -, -, hshep, -, -⟩ := started_same a o.src v (keySize (Reg.hsCOMMIT h)) (key := Reg.hsCOMMIT h)
      (by unfold Reg.hsCOMMIT; omega)
    have hb := busy (Reg.hsCOMMIT h)
    have hs := started (Reg.hsCOMMIT h)
    generalize a.actStart o.src (Reg.hsCOMMIT h) v (keySize (Reg.hsCOMMIT h)) = b at *
    have htag : (b.hostSet h).tag = nextTag (a.hr h).lastTag := by
      rw [State.hostSet, State.hr, hhr]; rfl
    obtain ⟨c, hct, hrun⟩ := commitRun_arms b h hcode hcheck hup (by rw [hshep]; exact hcands)
    obtain ⟨hrsp, harmed, hat, hres, hpatch⟩ := commitArm_spec c h (b.hostSet h) (by rw [act_of_toks hct]; exact hb)
    rw [hrun, ← htag]
    exact ⟨hrsp.trans ((rsp_of_toks hct).trans hs), harmed, rfl, hat, hres, hpatch⟩
  · refine gives_actBy (by rw [← ha]; rfl) hacc ?_
    obtain ⟨-, hpipes, -⟩ := started_same a o.src v (keySize (Reg.hsCOMMIT h)) (key := Reg.hsCOMMIT h)
      (by unfold Reg.hsCOMMIT; omega)
    rw [State.commitRun, if_pos hcode, ← hpipes, ← started (Reg.hsCOMMIT h)]
    exact commitFail_spec _ h _ (busy _)
  · refine gives_actBy (by rw [← ha]; rfl) hacc ?_
    obtain ⟨hhr, hpipes, hpx, -, -, hclk, hregs⟩ := started_same a o.src v (keySize (Reg.pcTAU_COMMIT h)) (key := Reg.pcTAU_COMMIT h)
      (by unfold Reg.pcTAU_COMMIT; omega)
    have hb := busy (Reg.pcTAU_COMMIT h)
    have hs := started (Reg.pcTAU_COMMIT h)
    generalize a.actStart o.src (Reg.pcTAU_COMMIT h) v (keySize (Reg.pcTAU_COMMIT h)) = b at *
    have hattach : b.attach h = a.attach h := hregs _ (bookKey_headKey (off := 6) h (by omega))
    have hatt' : b.attached h = true := by rw [State.attached, hattach]; exact hatt
    have hwait' : b.mustWait h = false := by
      rw [State.mustWait, State.armedStale, State.pipe, hpipes, State.now, hclk]; exact hwait
    have htag : nextTag (b.hr h).lastTag = nextTag (a.hr h).lastTag := by rw [State.hr, hhr]; rfl
    obtain ⟨hrsp, hprop, hres, harmed⟩ := tauCommitRun_spec b h c (by rw [State.pipe, hpipes]; exact hc) hatt' hwait' hb
    refine ⟨hrsp.trans hs, hprop, hres.trans htag, _, harmed, htag, ?_, rfl⟩
    rw [State.proposals, hpx]; rfl
  · refine gives_actBy (by rw [← ha]; rfl) hacc ?_
    obtain ⟨-, -, hpx, -⟩ := started_same a o.src v (keySize (Reg.pcPERSIST_CLEAR h)) (key := Reg.pcPERSIST_CLEAR h)
      (by unfold Reg.pcPERSIST_CLEAR; omega)
    obtain ⟨hrsp, hnil, hcount, hother⟩ := persistClear_spec _ h _ rfl
    exact ⟨hrsp.trans (started _), hnil, hcount, fun g hg => (hother g hg).trans (by rw [State.persist, hpx]; rfl)⟩
  · obtain ⟨-, -, -, -, -, -, hregs⟩ := started_same a o.src v (keySize (Reg.hdREBIND h)) (key := Reg.hdREBIND h)
      (by unfold Reg.hdREBIND; omega)
    have kl : bookKey (Reg.laneLANE_STATE h) = false := decide_eq_false (by unfold Reg.laneLANE_STATE; omega)
    have hexec : exec (.rebind dt h o v) s = .next (a.actBy o (Reg.hdREBIND h) v fun t => (t.rebindRun h).done) := by
      rw [← ha]; rfl
    obtain ⟨hrsp, hgone⟩ := rebindRun_unbinds (a.actStart o.src (Reg.hdREBIND h) v (keySize (Reg.hdREBIND h))) h
      (by rw [State.laneUp, hregs _ kl]; exact hl)
    exact ⟨_, by rw [hexec, actBy_accepted a o _ v _ hacc], hrsp.trans (started _), hgone⟩
  · refine gives_actBy (by rw [← ha]; rfl) hacc ?_
    obtain ⟨-, -, -, hfolds, -, -, hregs⟩ := started_same a o.src v (keySize (Reg.hlFOLD_NOW h)) (key := Reg.hlFOLD_NOW h)
      (by unfold Reg.hlFOLD_NOW; omega)
    have hs := started (Reg.hlFOLD_NOW h)
    generalize a.actStart o.src (Reg.hlFOLD_NOW h) v (keySize (Reg.hlFOLD_NOW h)) = b at *
    have hrun' : (b.fold h).run = none := by rw [State.fold, hfolds]; exact hrun
    have hattach : b.attach h = a.attach h := hregs _ (bookKey_headKey (off := 6) h (by omega))
    rw [foldNowRun_waits b h v hv (hattach.trans hatt) hrun', State.wFold_fold, if_pos rfl]
    exact ⟨hs, rfl, rfl, hrun'⟩
end

section
/-! PROOFS. A tick runs once (O19): no step of a tick but its number and its start writes TICK_COUNT or the record of the last tick
(R24, R461). -/

namespace Sys2Proof.Machine

/-! ## The mark of a tick -/

/-- What a tick leaves of itself: the record of the last tick and TICK_COUNT. -/
def State.ticked (s : State) : Tick × Nat := (s.tick, s.r Reg.opTICK_COUNT)

theorem ticked_w (s : State) (k v : Nat) (h : 0x200005 < k) : (s.w k v).ticked = s.ticked := by
  unfold State.ticked
  refine Prod.ext rfl ((State.w_r s k v _).trans (if_neg ?_))
  unfold Reg.opTICK_COUNT
  omega

theorem ticked_bump (s : State) (k : Nat) (h : 0x200005 < k) : (s.bump k).ticked = s.ticked := ticked_w s k _ h

theorem ticked_of_parts {s t : State} (hr : t.regs = s.regs) (ht : t.tick = s.tick) : t.ticked = s.ticked := by
  unfold State.ticked State.r
  rw [hr, ht]

theorem ticked_pair (s : State) (p : Pair) : ({ s with pair := p } : State).ticked = s.ticked := rfl

theorem ticked_of_steady {s t : State} (h : t.steady = s.steady) : t.ticked = s.ticked :=
  Prod.ext (steady_tick h) (steady_r h (by decide))

theorem ticked_of_book {s t : State} (h : t.book = s.book) : t.ticked = s.ticked := ticked_of_steady (steady_of_book h)

theorem ticked_when (s : State) (c : Bool) (f : State → State) (h : ∀ t, (f t).ticked = t.ticked) : (s.when c f).ticked = s.ticked := by
  unfold State.when
  split
  · exact h s
  · rfl

theorem ticked_each {α : Type} (s : State) (l : List α) (f : α → State → State) (h : ∀ a t, (f a t).ticked = t.ticked) :
    (s.each l f).ticked = s.ticked := by
  unfold State.each
  induction l generalizing s with
  | nil => rfl
  | cons a l ih => exact (ih _).trans (h a s)

theorem ticked_wAll (s : State) (l : List (Nat × Nat)) (h : ∀ e ∈ l, 0x200005 < e.1) : (s.wAll l).ticked = s.ticked := by
  unfold State.wAll
  induction l generalizing s with
  | nil => rfl
  | cons e l ih =>
    rw [List.foldl_cons, ih _ fun x hx => h x (by simp [hx])]
    exact ticked_w s _ _ (h e (by simp))

/-- The end of an action on an object above TICK_COUNT. -/
theorem ticked_actDone (s : State) (key v : Nat) (ok : Bool) (h : 0x200005 ≤ key) : (s.actDone key v ok).ticked = s.ticked := by
  refine Prod.ext (by rw [actDone_eq]; rfl) (actDone_r_ne _ _ _ _ _ (by decide) fun hr => ?_)
  rcases resultOf_some hr with hk | hk | hk
  · unfold Reg.opTICK_COUNT at hk; omega
  · exact absurd hk (by decide)
  · exact absurd hk (by decide)

/-! ## Banks and channels -/

theorem ticked_wBank (s : State) (b : Nat) (x : Bank) : (s.wBank b x).ticked = s.ticked := rfl

theorem ticked_wChan (s : State) (n : Nat) (x : Chan) : (s.wChan n x).ticked = s.ticked := rfl

theorem ticked_toPartner (s : State) (m : PMsg) : (s.toPartner m).ticked = s.ticked := ticked_of_book (book_toPartner s m)

theorem ticked_diagMsg (s : State) : s.diagMsg.ticked = s.ticked := by
  unfold State.diagMsg
  split
  · exact ticked_toPartner _ _
  · rfl

theorem ticked_d2dTraffic (s : State) : s.d2dTraffic.ticked = s.ticked := by
  unfold State.d2dTraffic
  split <;> rfl

theorem ticked_coil (s : State) (n r : Nat) (injector : Bool) : (s.coil n r injector).ticked = s.ticked :=
  ticked_of_steady (steady_coil s n r injector)

theorem ticked_queuePub (s : State) (b : Nat) : (s.queuePub b).ticked = s.ticked := ticked_of_steady (steady_queuePub s b)

theorem ticked_leaveArmed (s : State) (b : Nat) : (s.leaveArmed b).ticked = s.ticked :=
  (ticked_of_steady (leaveArmed_steady s b)).trans (ticked_wBank _ _ _)

theorem ticked_drive (s : State) (n : Nat) (ls hb hh : Bool) : (s.drive n ls hb hh).ticked = s.ticked := by
  unfold State.drive
  dsimp only
  split <;> rfl

theorem ticked_decayEnded (s : State) (n : Nat) (clean : Bool) (r : Option Nat) : (s.decayEnded n clean r).ticked = s.ticked := by
  unfold State.decayEnded
  extract_lets b s1 x cd s2
  have h1 : s1.ticked = s.ticked := (ticked_drive _ _ _ _ _).trans (ticked_of_steady (steady_holdEst s n r))
  exact (ticked_queuePub _ _).trans ((ticked_w _ _ _ (by unfold Reg.chsCH_STATE; omega)).trans h1)

theorem ticked_startDecay (s : State) (n : Nat) (i : Option Nat) : (s.startDecay n i).ticked = s.ticked := by
  unfold State.startDecay
  extract_lets b x d s1 s2 s3
  have h3 : s3.ticked = s.ticked := (ticked_drive _ _ _ _ _).trans ((ticked_w _ _ _ (by unfold Reg.chsCH_STATE; omega)).trans
    ((ticked_of_steady (steady_lastOn s1 n)).trans (ticked_wBank s b _)))
  split
  · split
    · exact (ticked_decayEnded _ _ _ _).trans h3
    · exact h3
  · exact h3

theorem ticked_softReact (s : State) (b : Nat) : (s.softReact b).ticked = s.ticked := by
  unfold State.softReact
  dsimp only
  split
  · split
    · exact (ticked_startDecay _ _ _).trans (ticked_wBank _ _ _)
    · rfl
  · refine (ticked_each _ _ _ fun n t => ticked_wAll _ _ ?_).trans (ticked_wBank _ _ _)
    simp only [List.mem_cons, List.not_mem_nil, or_false, forall_eq_or_imp, forall_eq, Reg.chsCH_STATE, Reg.chsI_SET, Reg.chsDUTY]
    omega

/-- The soft stop of a bank (R17, R260). -/
theorem ticked_bankStop (s : State) (b k : Nat) : (s.bankStop b k false).ticked = s.ticked := by
  unfold State.bankStop
  extract_lets old s0 s1 bank s2 s3 s4 new s5
  have h2 : s2.ticked = s.ticked := (ticked_w s0 _ _ (by unfold Reg.bkSTOP_CAUSE; omega)).trans
    (ticked_when _ _ _ fun t => ticked_d2dTraffic t)
  have h4 : s4.ticked = s2.ticked := (ticked_when _ _ _ fun t => ticked_leaveArmed t b).trans (ticked_softReact s2 b)
  have h5 : s5.ticked = s4.ticked := ticked_w _ _ _ (by unfold Reg.bkBANK_STATE; omega)
  split
  · exact h2
  · exact (ticked_when _ _ _ fun t => ticked_bump t _ (by unfold Reg.bstSTOPS; omega)).trans (h5.trans (h4.trans h2))

theorem ticked_bankFault (s : State) (b code : Nat) : (s.bankFault b code).ticked = s.ticked := by
  unfold State.bankFault
  dsimp only
  split
  · rfl
  · exact (ticked_diagMsg _).trans ((ticked_of_book (book_event _ _ _ _)).trans ((ticked_bankStop _ _ _).trans
      ((ticked_bump _ _ (by unfold Reg.bdgBANK_FAULTS; omega)).trans (ticked_w _ _ _ (by unfold Reg.bdgBANK_FAULT; omega)))))

theorem ticked_dropReq (s : State) (q : Req) : (s.dropReq q).ticked = s.ticked := by
  unfold State.dropReq
  exact (ticked_when _ _ _ fun t => ticked_actDone _ _ _ _ (by unfold Reg.chTEST_PULSE; omega)).trans
    ((ticked_bump _ _ (by unfold Reg.bstBANK_OVERLAP; omega)).trans (ticked_bump _ _ (by unfold Reg.chsBANK_OVERLAP; omega)))

theorem ticked_request (s : State) (q : Req) : (s.request q).ticked = s.ticked := by
  unfold State.request
  extract_lets b x mode running e lim s1 s2 q1 old s3
  split
  · have h1 : s1.ticked = s.ticked := (ticked_bump _ _ (by unfold Reg.chsMERGES; omega)).trans
      ((ticked_d2dTraffic _).trans (ticked_wBank _ _ _))
    have h2 : s2.ticked = s1.ticked := ticked_when _ _ _ fun t => ticked_bump t _ (by unfold Reg.chsMAX_ON_CUT; omega)
    exact (ticked_when _ _ _ fun t => ticked_actDone _ _ _ _ (by unfold Reg.chTEST_PULSE; omega)).trans (h2.trans h1)
  · exact (ticked_queuePub _ _).trans ((ticked_wBank _ _ _).trans (ticked_each _ _ _ fun p t => ticked_dropReq t p))

/-- The events that a tick schedules on an injector (R265). -/
theorem ticked_schedule (s : State) (n c t0own : Nat) : (s.schedule n c t0own).ticked = s.ticked := by
  have carry (t : State) (v : Nat) : (t.w (Reg.chsCARRY c) v).ticked = t.ticked := ticked_w _ _ _ (by unfold Reg.chsCARRY; omega)
  unfold State.schedule
  dsimp only
  split
  · rfl
  · split
    · rfl
    · split
      · split
        · exact carry _ _
        · exact (ticked_request _ _).trans (carry _ _)
      · split
        · split
          · exact carry _ _
          · exact (ticked_request _ _).trans (carry _ _)
        · exact carry _ _

theorem ticked_lowSideOff (s : State) (n : Nat) : (s.lowSideOff n).ticked = s.ticked := by
  unfold State.lowSideOff
  split
  · exact (ticked_w _ _ _ (by unfold Reg.chsDUTY; omega)).trans (ticked_wBank _ _ _)
  · rfl

theorem ticked_noCurrent (s : State) (n : Nat) : (s.noCurrent n).ticked = s.ticked := by
  unfold State.noCurrent
  split
  · rfl
  · dsimp only
    split
    · exact (ticked_diagMsg _).trans ((ticked_w _ _ _ (by unfold Reg.chdCH_FAULT; omega)).trans
        ((ticked_lowSideOff _ _).trans ((ticked_wChan _ _ _).trans (ticked_wChan _ _ _))))
    · rfl

theorem ticked_propTick (s : State) (c t0own : Nat) : (s.propTick c t0own).ticked = s.ticked := by
  unfold State.propTick
  extract_lets b x s0 s1 dem v off test y insert
  have h1 : s1.ticked = s0.ticked := by
    unfold s1
    split
    · rfl
    · split
      · exact ticked_noCurrent _ _
      · rfl
  exact (ticked_wChan _ _ _).trans (h1.trans (ticked_d2dTraffic s))

theorem ticked_calTry (s : State) (b : Nat) : (s.calTry b).ticked = s.ticked := by
  unfold State.calTry
  extract_lets x free
  split
  · split <;> rfl
  · rfl

theorem ticked_startTest (s : State) (b : Nat) : (s.startTest b).ticked = s.ticked := by
  unfold State.startTest
  dsimp only
  split
  · split <;> rfl
  · rfl

/-! ## What a tick does before the zones -/

theorem ticked_engines (s : State) : s.engines.ticked = s.ticked := by
  unfold State.engines
  exact ticked_each _ _ _ fun e t => ticked_when _ _ _ fun u => ticked_w u _ _ (by unfold Reg.zsENGINE; omega)

/-- Clearing a channel's diagnosis (R305). -/
theorem ticked_diagClears (s : State) : s.diagClears.ticked = s.ticked := by
  have fault (t : State) (n v : Nat) : (t.w (Reg.chdCH_FAULT n) v).ticked = t.ticked := ticked_w _ _ _ (by unfold Reg.chdCH_FAULT; omega)
  unfold State.diagClears
  extract_lets s1 s2
  have h1 : s1.ticked = s.ticked := ticked_each _ _ _ fun n t => by
    dsimp only
    split
    · exact (ticked_actDone _ _ _ _ (by unfold Reg.chdDIAG_CLEAR; omega)).trans ((fault _ _ _).trans (ticked_wChan _ _ _))
    · rfl
  have h2 : s2.ticked = s1.ticked := ticked_each _ _ _ fun b t => by
    dsimp only
    split
    · refine (ticked_actDone _ _ _ _ (by unfold Reg.bdgBANK_DIAG_CLEAR; omega)).trans ((ticked_each _ _ _ fun n u => ?_).trans
        ((ticked_w _ _ _ (by unfold Reg.bdgBANK_FAULT; omega)).trans (ticked_wBank _ _ _)))
      exact (ticked_when _ _ _ fun w => fault _ _ _).trans (ticked_wChan _ _ _)
    · rfl
  split
  · exact h2.trans h1
  · exact (ticked_diagMsg _).trans (h2.trans h1)

theorem ticked_armed (s : State) (b : Nat) : (s.armed b).ticked = s.ticked := by
  unfold State.armed
  extract_lets bank s1
  have h1 : s1.ticked = s.ticked := (ticked_w _ _ _ (by unfold Reg.bkSTOP_CAUSE; omega)).trans (ticked_wBank _ _ _)
  split
  · exact (ticked_w _ _ _ (by unfold Reg.bkBANK_STATE; omega)).trans h1
  · exact h1

theorem ticked_autoRearm (s : State) (b : Nat) : (s.autoRearm b).ticked = s.ticked := by
  unfold State.autoRearm
  split
  · exact ticked_armed s b
  · rfl

theorem ticked_toFollow (s : State) : s.toFollow.ticked = s.ticked := by
  unfold State.toFollow
  exact ticked_each _ _ _ fun b t => ticked_when _ _ _ fun u => (ticked_w _ _ _ (by unfold Reg.bkBANK_STATE; omega)).trans
    ((ticked_wBank _ _ _).trans ((ticked_leaveArmed _ _).trans (ticked_softReact _ _)))

theorem ticked_sendLull (s : State) (l : Nat) : (s.sendLull l).ticked = s.ticked := by
  rw [sendLull_eq]
  exact ticked_of_parts rfl rfl

theorem ticked_xLull (s : State) : s.xLull.ticked = s.ticked := by
  unfold State.xLull
  exact ticked_each _ _ _ fun x t => (ticked_when _ _ _ fun u => ticked_sendLull u _).trans rfl

theorem ticked_dropAuthority (s : State) : s.dropAuthority.ticked = s.ticked := by
  unfold State.dropAuthority
  extract_lets s1 pair p
  have h1 : s1.ticked = s.ticked := ticked_toFollow s
  exact (ticked_xLull _).trans ((ticked_w _ _ _ (by decide)).trans ((ticked_w _ _ _ (by decide)).trans
    ((ticked_pair _ _).trans h1)))

theorem ticked_handoverYield (s : State) : s.handoverYield.ticked = s.ticked := by
  unfold State.handoverYield
  split
  · exact (ticked_pair _ _).trans (ticked_dropAuthority s)
  · rfl

/-- The banks at a tick: a lapsed lease, a handover, arming (R259, R484). -/
theorem ticked_tickBanks (s : State) : s.tickBanks.ticked = s.ticked := by
  unfold State.tickBanks
  extract_lets pair s1 pair' s2 s3
  have h1 : s1.ticked = s.ticked := by
    unfold s1
    split
    · exact ticked_dropAuthority s
    · split
      · exact ticked_of_parts rfl rfl
      · rfl
  have h2 : s2.ticked = s1.ticked := by
    unfold s2
    split
    · exact (ticked_handoverYield _).trans ((ticked_toFollow _).trans (ticked_of_parts rfl rfl))
    · rfl
  have h3 : s3.ticked = s2.ticked := ticked_each _ _ _ fun b t => by
    dsimp only
    split
    · exact (ticked_w _ _ _ (by unfold Reg.bkBANK_STATE; omega)).trans (ticked_wBank _ _ _)
    · rfl
  exact (ticked_each _ _ _ fun b t => ticked_autoRearm t b).trans (h3.trans (h2.trans h1))

theorem ticked_zrecs (s : State) (l : List (Nat × ZoneRec)) : ({ s with zrecs := l } : State).ticked = s.ticked := rfl

theorem ticked_zoneClose (s : State) : s.zoneClose.ticked = s.ticked := by
  unfold State.zoneClose
  extract_lets s1
  have h1 : s1.ticked = s.ticked := ticked_each _ _ _ fun z t => ticked_of_parts rfl rfl
  exact (ticked_zrecs _ _).trans h1

/-! ## The zones -/

theorem ticked_wZone (s : State) (z : Nat) (x : Zone) : (s.wZone z x).ticked = s.ticked := rfl

theorem ticked_boot (s : State) (b : Boot) : ({ s with boot := b } : State).ticked = s.ticked := rfl

theorem ticked_haltTick (s : State) : s.haltTick.1.ticked = s.ticked := by
  have hw (v : Nat) : (s.w Reg.dbgZONES_HALTED v).ticked = s.ticked := ticked_w _ _ _ (by decide)
  unfold State.haltTick
  extract_lets want s1
  split
  · exact (ticked_boot _ _).trans (hw _)
  · split
    · exact (ticked_boot _ _).trans (hw _)
    · exact hw _

theorem ticked_zoneOff (s : State) (z : Nat) : (s.zoneOff z).ticked = s.ticked := by
  unfold State.zoneOff
  dsimp only
  refine (ticked_wAll _ _ ?_).trans (ticked_wZone _ _ _)
  simp only [List.mem_cons, List.not_mem_nil, or_false, forall_eq_or_imp, forall_eq, Reg.zsZONE_STATE, Reg.zsSAFE_CAUSE, Reg.zsDEMAND,
    Reg.zsINTEGRAL, Reg.zsZONE_FLAGS]
  omega

theorem ticked_zoneEntered (s : State) (z old new : Nat) : (s.zoneEntered z old new).ticked = s.ticked := by
  unfold State.zoneEntered
  split
  · rfl
  · split
    · exact ticked_bump _ _ (by unfold Reg.zkDEGRADED_ENTRIES; omega)
    · split
      · exact ticked_bump _ _ (by unfold Reg.zkSAFE_ENTRIES; omega)
      · split
        · exact ticked_bump _ _ (by unfold Reg.zkWEB_STOP_ENTRIES; omega)
        · rfl

theorem ticked_zoneHalted (s : State) (z at_ : Nat) (live : Bool) : (s.zoneHalted z at_ live).ticked = s.ticked := by
  unfold State.zoneHalted
  extract_lets x u s1 s2 st
  have h2 : s2.ticked = s.ticked := (ticked_w _ _ _ (by unfold Reg.zsSAFE_CAUSE; omega)).trans (ticked_wZone _ _ _)
  split
  · exact h2
  · exact (ticked_w _ _ _ (by unfold Reg.zsDEMAND; omega)).trans ((ticked_w _ _ _ (by unfold Reg.zsZONE_STATE; omega)).trans
      ((ticked_zoneEntered _ _ _ _).trans h2))

theorem ticked_zoneTake (s : State) (z : Nat) : (s.zoneTake z).ticked = s.ticked := by
  unfold State.zoneTake
  exact (ticked_w _ _ _ (by unfold Reg.zsNEWEST_SEQ; omega)).trans
    (ticked_when _ _ _ fun t => ticked_w t _ _ (by unfold Reg.zsPV; omega))

theorem ticked_staleStep (s : State) (z st : Nat) (fresh : Bool) : (s.staleStep z st fresh).ticked = s.ticked := by
  have hw (v : Nat) : (s.w (Reg.zsSTALE_CNT z) v).ticked = s.ticked := ticked_w _ _ _ (by unfold Reg.zsSTALE_CNT; omega)
  unfold State.staleStep
  dsimp only
  split
  · split
    · exact hw _
    · exact (ticked_bump _ _ (by unfold Reg.zkSTALE_TICKS; omega)).trans (hw _)
  · split
    · exact hw _
    · rfl

theorem ticked_zoneLate (s : State) (z at_ : Nat) : (s.zoneLate z at_).ticked = s.ticked := by
  unfold State.zoneLate
  exact (ticked_bump _ _ (by unfold Reg.zkENGINE_OVERRUN; omega)).trans
    ((ticked_wZone _ _ _).trans ((ticked_staleStep _ _ _ _).trans (ticked_zoneTake s z)))

theorem ticked_zoneStart (s : State) (z : Nat) (pos : Int) : (s.zoneStart z pos).ticked = s.ticked := by
  have hc (t : State) : (t.zoneConfig z).ticked = t.ticked := by
    unfold State.zoneConfig
    have hw (v : Int) : (t.wi 32 (Reg.zsDELAY_DIST z) v).ticked = t.ticked := ticked_w _ _ _ (by unfold Reg.zsDELAY_DIST; omega)
    dsimp only
    split
    · exact (ticked_wZone _ _ _).trans (hw _)
    · exact hw _
  unfold State.zoneStart
  exact (hc _).trans ((ticked_wZone _ _ _).trans rfl)

theorem ticked_fst_ite {β : Type} (c : Prop) [Decidable c] {s : State} {x y : State × β} (hx : x.1.ticked = s.ticked)
    (hy : y.1.ticked = s.ticked) : (if c then x else y).1.ticked = s.ticked := by
  split
  · exact hx
  · exact hy

theorem ticked_feedForward (s : State) (z st : Nat) (pe : Rat) (at_ : Nat) : (s.feedForward z st pe at_).1.ticked = s.ticked := by
  have he (t : State) (n : Nat) : (t.add32 (Reg.scCOV_EVICTED st) n).ticked = t.ticked :=
    ticked_w _ _ _ (by unfold Reg.scCOV_EVICTED; omega)
  unfold State.feedForward
  refine ticked_fst_ite _ rfl (ticked_fst_ite _ ?_ ?_)
  · exact (ticked_bump _ _ (by unfold Reg.zkFF_MISSING; omega)).trans ((ticked_wZone _ _ _).trans (ticked_when _ _ _ fun t => he t _))
  · exact (ticked_wZone _ _ _).trans (ticked_when _ _ _ fun t => he t _)

/-- The control law of a zone (R231, R237, R241). -/
theorem ticked_zoneTick (s : State) (z t0 at_ : Nat) (prev : Nat → Nat) (halt tracking : Bool) :
    (s.zoneTick z t0 at_ prev halt tracking).ticked = s.ticked := by
  unfold State.zoneTick
  extract_lets st0 e pe pos old s1 x m fresh s2 causes
  have h1 : s1.ticked = s.ticked := by
    unfold s1
    split
    · rfl
    · exact ticked_zoneStart _ _ _
  have h2 : s2.ticked = s1.ticked := ticked_zoneTake s1 z
  split
  rename_i low stopped _
  extract_lets stA s3 n st back passing deg s4 sgn entry safe
  have h4 : s4.ticked = s2.ticked := (ticked_zoneEntered _ _ _ _).trans (ticked_staleStep _ _ _ _)
  split
  rename_i yd clip _
  extract_lets pvp err
  split
  rename_i s5 uff ffl hff
  have h5 : s5.ticked = s4.ticked := by
    have hf := ticked_feedForward s4 z st0 pe at_
    rwa [hff] at hf
  extract_lets inc kp i0 i1 i2 o u ym y s6 hiHit loHit flags s7
  have h7 : s7.ticked = s5.ticked := by
    refine (ticked_wAll _ _ ?_).trans (ticked_wZone s5 z _)
    simp only [List.mem_cons, List.not_mem_nil, or_false, forall_eq_or_imp, forall_eq, Reg.zsZONE_STATE, Reg.zsSAFE_CAUSE, Reg.zsERROR,
      Reg.zsU_FF, Reg.zsINTEGRAL, Reg.zsDEMAND, Reg.zsZONE_FLAGS]
    omega
  calc _ = s7.ticked := (ticked_when _ _ _ fun t => ticked_bump t _ (by unfold Reg.zkDELAY_CLIP; omega)).trans
          (ticked_when _ _ _ fun t => ticked_bump t _ (by unfold Reg.zkWINDUP_TICKS; omega))
    _ = s.ticked := h7.trans (h5.trans (h4.trans (h2.trans h1)))

theorem ticked_zonesTick (s : State) (t0 at_ : Nat) (late : List Nat) : (s.zonesTick t0 at_ late).ticked = s.ticked := by
  unfold State.zonesTick
  split
  · rfl
  · split
    rename_i s1 run hhalt
    have h1 : s1.ticked = s.ticked := by
      have hf := ticked_haltTick s
      rwa [hhalt] at hf
    extract_lets s2 zs bell prev halt s3
    have h2 : s2.ticked = s1.ticked := ticked_each _ _ _ fun z t => ticked_zoneOff t z
    have h3 : s3.ticked = s2.ticked := ticked_each _ _ _ fun z t => by
      split
      · exact ticked_zoneHalted _ _ _ _
      · split
        · exact ticked_zoneLate _ _ _
        · exact ticked_zoneTick _ _ _ _ _ _ _
    have h4 := ticked_each s3 zoneNos _ fun z t =>
      ticked_when t (t.zone z).bell.isSome _ fun u => ticked_wZone u z { u.zone z with bell := none }
    exact h4.trans (h3.trans (h2.trans h1))

/-! ## The zone records to the host, and the breakpoints -/

theorem ticked_xp (s : State) (x : Export) : ({ s with xp := x } : State).ticked = s.ticked := rfl

theorem ticked_xKick (s : State) : s.xKick.ticked = s.ticked := by
  have start (t : State) (g i : Nat) : (t.xStart g i).ticked = t.ticked := by
    unfold State.xStart
    dsimp only
    split
    · rfl
    · split <;> rfl
  have pass (t : State) : t.xPass.ticked = t.ticked := by
    unfold State.xPass
    exact ticked_each _ _ _ fun g u => ticked_each _ _ _ fun i v => start v g i
  have passes (n : Nat) (t : State) : (t.xPasses n).ticked = t.ticked := by
    induction n generalizing t with
    | zero => rfl
    | succ n ih =>
      unfold State.xPasses
      split
      · rfl
      · exact (ih _).trans (pass t)
  exact passes 48 s

theorem ticked_xPut (s : State) (g : Nat) (l : List XPkt) : (s.xPut g l).ticked = s.ticked := by
  unfold State.xPut
  exact (ticked_xKick _).trans ((ticked_w _ _ _ (by unfold Reg.grcBUF_PEAK; omega)).trans (ticked_xp _ _))

theorem ticked_stripe (s : State) (x : Nat) : (s.stripe x).ticked = s.ticked := by
  unfold State.stripe
  dsimp only
  split
  · rfl
  · exact (ticked_xPut _ _ _).trans (ticked_xp _ _)

theorem ticked_xOffer (s : State) (x ty info : Nat) (words : List Nat) : (s.xOffer x ty info words).ticked = s.ticked := by
  have send (t : State) (g : Nat) : (t.xSend g x ty info words).ticked = t.ticked := by
    unfold State.xSend
    dsimp only
    split
    · rfl
    · exact (ticked_xPut _ _ _).trans (ticked_xp _ _)
  unfold State.xOffer
  dsimp only
  split
  · exact (send _ _).trans (ticked_stripe s x)
  · exact (ticked_bump _ _ (by unfold Reg.grcDROPPED; omega)).trans (ticked_stripe s x)

theorem ticked_tickOut (s : State) (n : Nat) (computed : Bool) : (s.tickOut n computed).ticked = s.ticked := by
  unfold State.tickOut
  extract_lets zs body s1
  have h1 : s1.ticked = s.ticked := by
    unfold s1
    split
    · rfl
    · exact ticked_each _ _ _ fun x t => ticked_xOffer _ _ _ _ _
  split
  · exact (ticked_toPartner _ _).trans h1
  · exact h1

theorem ticked_bpZones (s : State) (olds : Nat → Nat) : (s.bpZones olds).ticked = s.ticked := by
  unfold State.bpZones
  exact ticked_each _ _ _ fun k t => ticked_when _ _ _ fun u => ticked_of_book (book_bpHit u _)

/-! ## The tick -/

/-- A tick that is processed keeps its number and its start (R24). -/
theorem ticked_tickAt (s : State) (i : TickIn) (n t0 t0own : Nat) :
    (s.tickAt i n t0 t0own).ticked = ({ next := n + 1, at_ := t0own, t0 := t0 }, n) := by
  unfold State.tickAt
  extract_lets s0 s1 olds s2 s3 s4 s5
  have h0 : (s0.w Reg.opTICK_COUNT n).ticked = ({ next := n + 1, at_ := t0own, t0 := t0 }, n) :=
    Prod.ext rfl ((State.w_r _ _ _ _).trans (if_pos rfl))
  have h1 : s1.ticked = (s0.w Reg.opTICK_COUNT n).ticked :=
    (ticked_zoneClose _).trans ((ticked_tickBanks _).trans ((ticked_diagClears _).trans (ticked_engines _)))
  have h2 : s2.ticked = s1.ticked := ticked_zonesTick _ _ _ _
  have h3 : s3.ticked = s2.ticked := ticked_each _ _ _ fun e t => ticked_when _ _ _ fun u => ticked_coil _ _ _ _
  have h4 : s4.ticked = s3.ticked := ticked_each _ _ _ fun e t => ticked_when _ _ _ fun u => ticked_bankFault _ _ _
  have h5 : s5.ticked = s4.ticked := ticked_each _ _ _ fun b t => by
    extract_lets u v
    have hu : u.ticked = t.ticked := by
      unfold u
      split
      · split
        · exact ticked_each _ _ _ fun c w => ticked_schedule _ _ _ _
        · exact ticked_each _ _ _ fun c w => ticked_propTick _ _ _
      · rfl
    exact (ticked_startTest _ _).trans ((ticked_when _ _ _ fun w => ticked_calTry _ _).trans hu)
  exact (ticked_bpZones _ _).trans ((ticked_tickOut _ _ _).trans (h5.trans (h4.trans (h3.trans (h2.trans (h1.trans h0))))))

end Sys2Proof.Machine

open Sys2Proof Sys2Proof.Machine

/-- Settles O19: a tick that is due keeps its number and its start, which no later step of the tick touches; one that has run does
nothing. -/
theorem tickRunsOnce : Obligations.TickRunsOnce := by
  intro dt i s
  dsimp only
  refine ⟨fun hdue => ⟨(s.advance dt).tickRun i, rfl, ?_⟩, fun hrun => ?_⟩
  · rw [State.tickRun, if_neg (Nat.not_lt.2 hdue)]
    exact Prod.mk.inj (ticked_tickAt _ _ _ _ _)
  · have hexec : exec (.tickStart dt i) s = .next ((s.advance dt).tickRun i) := rfl
    rw [hexec, State.tickRun, if_pos hrun]
end

section
/-! PROOFS. The link of a head (O23-O25): the packets it takes and sends, its one outstanding command, its timers and its life record
(R36-R38, R44, R49-R55, R58-R60, R64, R65, R68, R70, R72). -/

namespace Sys2Proof.Machine

/-! ## All but the registers and the bookkeeping -/

/-- The state without its registers and without what bookkeeping writes. -/
def State.body (s : State) : State := s.book.2

theorem body_of_book {s t : State} (h : t.book = s.book) : t.body = s.body := congrArg Prod.snd h

theorem body_w (s : State) (k v : Nat) : (s.w k v).body = s.body := rfl

theorem body_wAll (s : State) (l : List (Nat × Nat)) : (s.wAll l).body = s.body := by rw [State.wAll_eq]; rfl

theorem body_when (s : State) (c : Bool) (f : State → State) (h : ∀ t, (f t).body = t.body) : (s.when c f).body = s.body := by
  unfold State.when
  split
  · exact h s
  · rfl

theorem body_event (s : State) (code inst data : Nat) : (s.event code inst data).body = s.body := body_of_book (book_event _ _ _ _)

theorem heads_of_body {s t : State} (h : t.body = s.body) : t.heads = s.heads := by
  have hh := congrArg State.heads h
  exact hh

theorem hd_of_heads {s t : State} (h : t.heads = s.heads) (g : Nat) : t.hd g = s.hd g := by rw [State.hd, h]; rfl

theorem hr_of_body {s t : State} (h : t.body = s.body) (g : Nat) : t.hr g = s.hr g := by
  have hh := congrArg (fun u => u.hr g) h
  exact hh

/-- Publishing the life numbers writes registers and raises events (R61). -/
theorem body_lifePublish (s : State) (h : Nat) : (s.lifePublish h).body = s.body := by
  unfold State.lifePublish
  extract_lets x s1 used s2 old new s3 s4
  have h2 : s2.body = s.body := (body_w _ _ _).trans (body_wAll _ _)
  have h4 : s4.body = s2.body := (body_when _ _ _ fun t => body_event _ _ _ _).trans (body_w _ _ _)
  split
  · exact h2
  · exact (body_when _ _ _ fun t => body_event _ _ _ _).trans (h4.trans h2)

theorem body_lifeShow (s : State) (h : Nat) : (s.lifeShow h).body = s.body := by
  unfold State.lifeShow
  split
  · rfl
  · exact body_lifePublish s h

/-- Increments are added to what head h owes and to nothing else of any link engine (R60, R622). -/
theorem lifeAdd_hd (s : State) (h : Nat) (f : Life → Life) : (s.lifeAdd h f).hd h =
    { s.hd h with owed := f (s.hd h).owed, owedSerial := s.blob (Reg.hdSERIAL h) } :=
  (hd_of_heads (heads_of_body (body_lifeShow _ h)) h).trans ((State.wHd_hd _ _ _ _).trans (if_pos rfl))

theorem lifeAdd_hr (s : State) (h : Nat) (f : Life → Life) (g : Nat) : (s.lifeAdd h f).hr g = s.hr g :=
  hr_of_body (body_lifeShow _ h) g

/-! ## Packets out (R36-R38) -/

/-- The packet that carries a payload under a SEQ. -/
def outPkt (seq ty : Nat) (payload : Bytes) : HeadPkt :=
  let w := toWords payload
  ⟨seq, 1, w.length, w, crc32 (pktBytes ⟨seq, 1, w.length, w, 0, none⟩ ty), none⟩

theorem outPkt_ok (seq ty : Nat) (payload : Bytes) : pktOk (outPkt seq ty payload) ty = true := decide_eq_true ⟨rfl, rfl, rfl, rfl⟩

theorem headSend_hout (s : State) (h ty : Nat) (payload : Bytes) :
    (s.headSend h ty payload).hout = s.hout ++ [⟨h, outPkt (s.hd h).txSeq ty payload, ty⟩] := rfl

/-- One good packet of a type has left for head h, and no other packet. -/
def SentOne (t : State) (h ty : Nat) : Prop := ∃ p, t.hout = [⟨h, p, ty⟩] ∧ pktOk p ty = true

theorem headSend_sentOne (s : State) (h ty : Nat) (payload : Bytes) (hs : s.hout = []) : SentOne (s.headSend h ty payload) h ty :=
  ⟨_, by rw [headSend_hout, hs]; rfl, outPkt_ok _ _ _⟩

theorem SentOne.wHd {t : State} {h ty : Nat} (ht : SentOne t h ty) (g : Nat) (x : Head) : SentOne (t.wHd g x) h ty := ht

theorem headSend_hd_same (s : State) (h ty : Nat) (payload : Bytes) :
    (s.headSend h ty payload).hd h = { s.hd h with txSeq := ((s.hd h).txSeq + 1) % 256 } := (State.wHd_hd _ _ _ _).trans (if_pos rfl)

/-! ## What commands change of a link engine (R49-R53) -/

/-- A link engine without what the sending of commands uses. -/
def Head.rest (x : Head) : Head := { x with cmd := none, queue := [], reqId := 0, txSeq := 0 }

/-- From s to t only commands to head h were asked for and sent. -/
def LinkOnly (h : Nat) (s t : State) : Prop :=
  t = { s with heads := t.heads, hout := t.hout } ∧ (∀ g, g ≠ h → t.hd g = s.hd g) ∧ (t.hd h).rest = (s.hd h).rest

theorem LinkOnly.refl (h : Nat) (s : State) : LinkOnly h s s := ⟨rfl, fun _ _ => rfl, rfl⟩

theorem LinkOnly.trans {h : Nat} {s t u : State} (h1 : LinkOnly h s t) (h2 : LinkOnly h t u) : LinkOnly h s u := by
  obtain ⟨e1, o1, r1⟩ := h1
  obtain ⟨e2, o2, r2⟩ := h2
  refine ⟨?_, fun g hg => (o2 g hg).trans (o1 g hg), r2.trans r1⟩
  rw [e2, e1]

theorem LinkOnly.r {h : Nat} {s t : State} (hl : LinkOnly h s t) (k : Nat) : t.r k = s.r k := by
  rw [hl.1]; rfl

theorem LinkOnly.hr {h : Nat} {s t : State} (hl : LinkOnly h s t) (g : Nat) : t.hr g = s.hr g := by
  rw [hl.1]; rfl

/-- What commands do not use of the engine stands. -/
theorem LinkOnly.field {h : Nat} {s t : State} (hl : LinkOnly h s t) {α : Type} (f : Head → α) (hf : ∀ x, f x.rest = f x) :
    f (t.hd h) = f (s.hd h) := by
  rw [← hf, hl.2.2, hf]

theorem LinkOnly.od {h : Nat} {s t : State} (hl : LinkOnly h s t) : t.od = s.od := by
  rw [hl.1]

theorem LinkOnly.free {h : Nat} {s t : State} (hl : LinkOnly h s t) : t.free = s.free := by
  rw [hl.1]

theorem linkOnly_wHd (s : State) (h : Nat) (x : Head) (hx : x.rest = (s.hd h).rest) : LinkOnly h s (s.wHd h x) := by
  refine ⟨rfl, fun g hg => (State.wHd_hd _ _ _ _).trans (if_neg hg), ?_⟩
  rw [State.wHd_hd, if_pos rfl, hx]

theorem linkOnly_headSend (s : State) (h ty : Nat) (payload : Bytes) : LinkOnly h s (s.headSend h ty payload) := by
  refine ⟨rfl, fun g hg => (State.wHd_hd _ _ _ _).trans (if_neg hg), ?_⟩
  rw [headSend_hd_same]; rfl

/-- A waiting command as it first goes out: under the next request id, its timeout running from now (R51, R53). -/
def State.launch (s : State) (h : Nat) (c : HeadCmd) : HeadCmd :=
  { c with req := ((s.hd h).reqId + 1) % 256, sentAt := s.up, sent16 := s.clk.ring16, tries := 1 }

/-- The commands waiting for head h that may be sent (R495). -/
def State.sendable (s : State) (h : Nat) : List HeadCmd := (s.hd h).queue.filter fun c => !s.notSent c.code

/-- What asking for the next command can do: nothing, drop the queue when nothing in it may be sent, or send its first command. -/
theorem headKick_cases (s : State) (h : Nat) : s.headKick h = s ∨
    (s.sendable h = [] ∧ s.headKick h = s.wHd h { s.hd h with queue := [] }) ∨
    ∃ c q, s.sendable h = c :: q ∧ s.headKick h =
      (s.wHd h { s.hd h with cmd := some (s.launch h c), queue := q, reqId := ((s.hd h).reqId + 1) % 256 }).cmdPacket h (s.launch h c) := by
  unfold State.headKick State.sendable
  dsimp only
  split
  · next hq => exact .inr (.inl ⟨hq, rfl⟩)
  · next c q _ hq =>
    split
    · exact .inl rfl
    · exact .inr (.inr ⟨c, q, hq, rfl⟩)
  · exact .inl rfl

theorem linkOnly_headKick (s : State) (h : Nat) : LinkOnly h s (s.headKick h) := by
  rcases headKick_cases s h with hk | ⟨-, hk⟩ | ⟨c, q, -, hk⟩ <;> rw [hk]
  · exact .refl h s
  · exact linkOnly_wHd s h _ (by rfl)
  · exact (linkOnly_wHd s h _ (by rfl)).trans (linkOnly_headSend _ _ _ _)

theorem linkOnly_headCmd (s : State) (h code : Nat) (args : Bytes) : LinkOnly h s (s.headCmd h code args) := by
  unfold State.headCmd
  split
  · exact .refl h s
  · exact (linkOnly_wHd s h _ (by rfl)).trans (linkOnly_headKick _ h)

/-- The engine asks for nothing when no command waits. -/
theorem headKick_hd_idle (s : State) (h : Nat) (hq : (s.hd h).queue = []) : (s.headKick h).hd h = s.hd h := by
  have hnone : s.sendable h = [] := by rw [State.sendable, hq]; rfl
  rcases headKick_cases s h with hk | ⟨-, hk⟩ | ⟨c, q, hcq, -⟩
  · rw [hk]
  · rw [hk, State.wHd_hd, if_pos rfl, ← hq]
  · rw [hnone] at hcq; cases hcq

/-- Where no command is outstanding the first that may be sent goes out, unless it has to wait for a new epoch (R53, R486). -/
theorem headKick_sends (s : State) (h : Nat) (c : HeadCmd) (q : List HeadCmd) (hc : (s.hd h).cmd = none) (hq : s.sendable h = c :: q)
    (he : s.epochWaits c.code = false) : s.headKick h =
      (s.wHd h { s.hd h with cmd := some (s.launch h c), queue := q, reqId := ((s.hd h).reqId + 1) % 256 }).cmdPacket h (s.launch h c) := by
  unfold State.sendable at hq
  unfold State.headKick
  simp only [hc, hq, he]
  rfl

/-- A command that does not change the head leaves at once when none is outstanding and none waits (R53). -/
theorem headCmd_sends (s : State) (h code : Nat) (args : Bytes) (hcode : changesHead code = false) (hc : (s.hd h).cmd = none)
    (hq : (s.hd h).queue = []) (hs : s.hout = []) : SentOne (s.headCmd h code args) h 0x82 ∧
      ((s.headCmd h code args).hd h).cmd = some (s.launch h { code, args }) := by
  have hn : s.notSent code = false := by rw [State.notSent, hcode]; rfl
  have hcmd : s.headCmd h code args = State.headKick (s.wHd h { s.hd h with queue := [{ code, args }] }) h := by
    rw [State.headCmd, if_neg (by simp [hn])]
    dsimp only
    rw [hq]; rfl
  generalize ht : s.wHd h { s.hd h with queue := [{ code, args }] } = t at hcmd
  have hd : t.hd h = { s.hd h with queue := [{ code, args }] } := by rw [← ht, State.wHd_hd, if_pos rfl]
  have hl : t.launch h { code, args } = s.launch h { code, args } := by rw [State.launch, hd, ← ht]; rfl
  have hsend : t.sendable h = [{ code, args }] := by
    have htn : t.notSent code = false := by rw [← ht]; exact hn
    rw [State.sendable, hd]
    simp [htn]
  rw [hcmd, headKick_sends t h _ _ (by rw [hd]; exact hc) hsend (by rw [State.epochWaits, hcode]; rfl)]
  refine ⟨headSend_sentOne _ _ _ _ (by rw [← ht]; exact hs), ?_⟩
  rw [State.cmdPacket, headSend_hd_same, State.wHd_hd, if_pos rfl, hl]

/-- A device that is no follower drops no waiting command: it waits on or is the one outstanding. -/
theorem headKick_keeps (s : State) (h : Nat) (hf : s.follower = false) (c : HeadCmd) (hc : c ∈ (s.hd h).queue) :
    ∃ d ∈ ((s.headKick h).hd h).cmd.toList ++ ((s.headKick h).hd h).queue, d.code = c.code ∧ d.args = c.args := by
  have hall : s.sendable h = (s.hd h).queue := List.filter_eq_self.2 fun d _ => by simp [State.notSent, hf]
  rcases headKick_cases s h with hk | ⟨hnil, -⟩ | ⟨d, q, hdq, hk⟩
  · rw [hk]
    exact ⟨c, List.mem_append_right _ hc, rfl, rfl⟩
  · rw [← hall, hnil] at hc
    cases hc
  · rw [← hall, hdq] at hc
    rw [hk, State.cmdPacket, headSend_hd_same, State.wHd_hd, if_pos rfl]
    rcases List.mem_cons.1 hc with rfl | hq
    · exact ⟨s.launch h c, List.mem_append_left _ (List.mem_singleton.2 rfl), rfl, rfl⟩
    · exact ⟨c, List.mem_append_right _ hq, rfl, rfl⟩

theorem headCmd_asks (s : State) (h code : Nat) (args : Bytes) (hf : s.follower = false) :
    ∃ c ∈ ((s.headCmd h code args).hd h).cmd.toList ++ ((s.headCmd h code args).hd h).queue, c.code = code ∧ c.args = args := by
  rw [State.headCmd, if_neg (by simp [State.notSent, hf])]
  dsimp only
  refine headKick_keeps (s.wHd h _) h ?_ { code, args } ?_
  · exact hf
  · rw [State.wHd_hd, if_pos rfl]
    exact List.mem_append_right _ (List.mem_singleton.2 rfl)

/-! ## The life record (O25) -/

/-- The weight of a minute in which a SOF gave a temperature (R59). -/
theorem minuteWeight_pos (sum : Int) (n k : Nat) (hn : 0 < n) : minuteWeight sum n k =
    if sum < 6000 * (n : Int) then 1 else if sum < 8000 * (n : Int) then 2 else if sum < 10000 * (n : Int) then 4 else 8 :=
  if_neg (by omega)

/-- A life-record write in a session asks for LIFE_WRITE with the record (R60). -/
theorem lifeWrite_asks (s : State) (h : Nat) (hs : (s.hd h).session = true) (hf : s.follower = false) :
    ∃ c ∈ ((s.lifeWrite h).hd h).cmd.toList ++ ((s.lifeWrite h).hd h).queue, c.code = 0x05 ∧ c.args = s.lifeBytes h := by
  rw [State.lifeWrite, if_pos hs]
  exact headCmd_asks s h 0x05 _ hf

theorem linkOnly_lifeWrite (s : State) (h : Nat) : LinkOnly h s (s.lifeWrite h) := by
  unfold State.lifeWrite
  split
  · exact linkOnly_headCmd _ _ _ _
  · exact .refl h s

/-- A streaming minute ends (R59). -/
theorem streamMinute_spec (s : State) (h : Nat) (ha : s.attach h = atSTREAMING) (ht : s.since (s.hr h).minuteAt 60000000000 = true)
    (hn : 0 < (s.hr h).winN) :
    (s.streamMinute h).hr h = { s.hr h with minuteAt := s.up, winSum := 0, winN := 0, minutes := (s.hr h).minutes + 1 } ∧
      ((s.streamMinute h).hd h).owed = { (s.hd h).owed with
        window := (s.hd h).owed.window + minuteWeight (s.hr h).winSum (s.hr h).winN s.freeNat, stream := (s.hd h).owed.stream + 1 } := by
  rw [State.streamMinute, if_pos ⟨ha, ht⟩, if_neg (by omega)]
  dsimp only
  refine ⟨?_, ?_⟩
  · rw [(linkOnly_headCmd _ _ _ _).hr, lifeAdd_hr, State.wHr_hr, if_pos rfl]
  · rw [(linkOnly_headCmd _ _ _ _).field Head.owed fun _ => rfl, lifeAdd_hd]
    rfl

/-- A due life record is written and its ten minutes taken off (R60). -/
theorem lifeDue_eq (s : State) (h : Nat) (ha : s.attach h = atSTREAMING) (hm : 10 ≤ (s.hr h).minutes) :
    s.lifeDue h = (s.wHr h { s.hr h with minutes := (s.hr h).minutes - 10 }).lifeWrite h := if_pos ⟨ha, hm⟩

/-- A write-back with data left sends the next 8 KiB when 8 ms have passed (R72). -/
theorem writeBackTick_spec (s : State) (h : Nat) (w : WriteBack) (hw : (s.hd h).wb = some w) (h1 : w.stage = 1)
    (ht : s.since w.lastAt 8000000 = true) (hl : w.sent < w.offs.length) (hf : s.follower = false) (hs : s.pair.storing = none)
    (ho : s.hout = []) :
    ((s.writeBackTick h).hd h).wb = some { w with sent := w.sent + 8192, lastAt := s.up } ∧ SentOne (s.writeBackTick h) h 0x83 := by
  have hnext : s.writeBackTick h = s.writeBackNext h := by
    simp [State.writeBackTick, hw, hf, h1, ht, State.epochWaits, hs]
  rw [hnext, State.writeBackNext, hw]
  dsimp only
  rw [if_neg (by omega)]
  refine ⟨?_, (headSend_sentOne _ _ _ _ ho).wHd _ _⟩
  rw [State.wHd_hd, if_pos rfl, ← h1]; rfl

end Sys2Proof.Machine

open Sys2Proof Sys2Proof.Machine

/-- Settles O25: the minute, the record that falls due and the write-back packet, each by what its command does to the link engine. -/
theorem headLife : Obligations.HeadLife := by
  intro dt h s
  dsimp only
  have hout : (s.advance dt).hout = [] := rfl
  have exMinute : exec (.streamMinute dt h) s = .next ((s.advance dt).streamMinute h) := rfl
  have exDue : exec (.lifeWriteDue dt h) s = .next ((s.advance dt).lifeDue h) := rfl
  have exPacket : exec (.writebackPacket dt h) s = .next ((s.advance dt).writeBackTick h) := rfl
  generalize s.advance dt = a at *
  refine ⟨fun hatt ht hn => ⟨_, exMinute, ?_⟩, fun hatt hm => ⟨_, exDue, ?_⟩, fun w hw h1 ht hl hf hs => ⟨_, exPacket, ?_⟩⟩
  · obtain ⟨hhr, howed⟩ := streamMinute_spec a h hatt ht hn
    rw [hhr, howed, minuteWeight_pos _ _ _ hn]
    exact ⟨rfl, rfl, rfl, rfl, rfl⟩
  · rw [lifeDue_eq a h hatt hm]
    refine ⟨?_, fun hs hf => ?_⟩
    · rw [(linkOnly_lifeWrite _ h).hr, State.wHr_hr, if_pos rfl]
    · exact lifeWrite_asks _ h hs hf
  · exact writeBackTick_spec a h w hw h1 ht hl hf hs hout
end

section
/-! PROOFS. The timers of the head link (O24): commands sent again, the authentication and the attach begun again (R44, R51, R53, R64,
R65, R68, R83). -/

namespace Sys2Proof.Machine

/-! ## What leaves the link engines alone -/

theorem heads_when (s : State) (c : Bool) (f : State → State) (h : ∀ t, (f t).heads = t.heads) : (s.when c f).heads = s.heads := by
  unfold State.when
  split
  · exact h s
  · rfl

theorem heads_each {α : Type} (s : State) (l : List α) (f : α → State → State) (h : ∀ a t, (f a t).heads = t.heads) :
    (s.each l f).heads = s.heads := by
  unfold State.each
  induction l generalizing s with
  | nil => rfl
  | cons a l ih => rw [List.foldl_cons, ih, h]

theorem heads_actDone (s : State) (key v : Nat) (ok : Bool) : (s.actDone key v ok).heads = s.heads := by rw [actDone_eq]

theorem heads_laneRecord (s : State) (h : Nat) : (s.laneRecord h).heads = s.heads := heads_of_body (body_of_book (book_laneRecord s h))

theorem heads_tagTimeout (s : State) (h tag : Nat) : (s.tagTimeout h tag).heads = s.heads := heads_of_body (body_event _ _ _ _)

theorem heads_disarm (s : State) (h : Nat) : (s.disarm h).heads = s.heads := by
  unfold State.disarm
  split
  · exact heads_tagTimeout _ _ _
  · rfl

theorem heads_statClose (s : State) (h cause : Nat) : (s.statClose h cause).heads = s.heads := by
  unfold State.statClose State.statPublish
  split
  · rfl
  · dsimp only
    split
    · rfl
    · exact heads_each _ _ _ fun r t => heads_of_body (body_wAll t r)

theorem heads_foldEnd (s : State) (h code state : Nat) : (s.foldEnd h code state).heads = s.heads := by
  unfold State.foldEnd
  split
  · rfl
  · extract_lets v s1 fold pipe s2 s3
    have h3 : s3.heads = s2.heads := heads_when _ _ _ fun t => heads_actDone _ _ _ _
    exact (heads_laneRecord _ _).trans h3

/-! ## The session while a head leaves STREAMING -/

theorem lifeRun_session (s : State) (h : Nat) : ((s.lifeRun h).hd h).session = (s.hd h).session := by
  rw [State.lifeRun, (linkOnly_lifeWrite _ h).field Head.session fun _ => rfl, lifeAdd_hd]

/-- The abort of a run does not end the session (R177). -/
theorem foldAbort_session (s : State) (h : Nat) : ((s.foldAbort h).hd h).session = (s.hd h).session := by
  unfold State.foldAbort
  split
  · rfl
  · rename_i r _
    extract_lets st s1 fold s3 hr s4
    have h1 : s1.heads = s.heads := by
      unfold s1
      split
      · rfl
      · split
        · exact heads_disarm _ _
        · rfl
    have h4 : (s4.foldEnd h 5 0).heads = s.heads := (heads_foldEnd _ _ _ _).trans h1
    unfold State.when
    split
    · rw [lifeRun_session, hd_of_heads h4]
    · rw [hd_of_heads h4]

theorem leaveStreaming_session (s : State) (h dest : Nat) : ((s.leaveStreaming h dest).hd h).session = (s.hd h).session := by
  unfold State.leaveStreaming
  split
  · extract_lets s1 f s2 pipe hr s3
    have h2 : s2.heads = s1.heads := (heads_when _ _ _ fun t => heads_actDone _ _ _ _).trans (State.wFold_heads _ _ _)
    have h3 : s3.heads = s1.heads := (State.wHr_heads _ _ _).trans ((State.wPipe_heads _ _ _).trans h2)
    have h1 : (s1.hd h).session = (s.hd h).session := by
      rw [foldAbort_session, hd_of_heads (heads_statClose s h 2)]
    clear_value s3
    exact (congrArg Head.session (hd_of_heads h3 h)).trans h1
  · rfl

theorem leaveStreaming_attach (s : State) (h dest : Nat) : (s.leaveStreaming h dest).attach h = dest := by
  unfold State.leaveStreaming
  split <;> exact (State.w_r _ _ _ _).trans (if_pos rfl)

/-! ## Attach and authentication begun again -/

/-- An attach begins at step 1 outside any session (R65). -/
theorem startAttach_spec (s : State) (h : Nat) : let u := s.startAttach h
    (u.hd h).step = 1 ∧ (u.hd h).session = false ∧ (u.hd h).retryAt = none ∧ u.attach h = atATTACHING ∧
      u.r (Reg.hdREFUSE_CAUSE h) = 0 := by
  unfold State.startAttach
  extract_lets s0 hd0 s1 x y s2
  have hx : x.session = false := by
    rw [show x = s1.hd h from rfl, leaveStreaming_session, State.wHd_hd, if_pos rfl]
  have h2 : s2.hd h = y := (hd_of_heads (heads_of_body (body_wAll _ _)) h).trans ((State.wHd_hd _ _ _ _).trans (if_pos rfl))
  have ha : s2.attach h = atATTACHING := by
    refine (State.wAll_r_ne _ _ _ ?_).trans (leaveStreaming_attach _ _ _)
    simp only [List.mem_cons, List.not_mem_nil, or_false, forall_eq_or_imp, forall_eq, Reg.hdREFUSE_CAUSE, Reg.hdTIME_RESID,
      Reg.hdATTACH_STATE]
    omega
  have hr : s2.r (Reg.hdREFUSE_CAUSE h) = 0 := by
    refine (State.w_r _ _ _ _).trans ((if_neg ?_).trans ((State.w_r _ _ _ _).trans (if_pos rfl)))
    simp only [Reg.hdREFUSE_CAUSE, Reg.hdTIME_RESID]
    omega
  have hl : LinkOnly h s2 ((s2.stream h 1).headCmd h 0x01 []) := (linkOnly_headCmd _ _ _ _).trans (linkOnly_headCmd _ _ _ _)
  refine ⟨?_, ?_, ?_, (hl.r _).trans ha, (hl.r _).trans hr⟩
  · rw [hl.field Head.step fun _ => rfl, h2]
  · rw [hl.field Head.session fun _ => rfl, h2]
    exact hx
  · rw [hl.field Head.retryAt fun _ => rfl, h2]

/-- An authentication begins with a fresh nonce (R64). -/
theorem authStart_spec (s : State) (h : Nat) : let t := s.authStart h
    (t.hd h).step = 3 ∧ (t.hd h).authRetryAt = none ∧ (t.hd h).nD = padTo 16 (Config.freeBytes s.free 16) ∧ t.free = s.free + 1 := by
  unfold State.authStart
  extract_lets n x s1
  have hl : LinkOnly h s1 (s1.headCmd h 0x02 n) := linkOnly_headCmd _ _ _ _
  have h1 : s1.hd h = { s.hd h with step := 3, nD := n, authRetryAt := none } := (State.wHd_hd _ _ _ _).trans (if_pos rfl)
  refine ⟨?_, ?_, ?_, hl.free⟩
  · rw [hl.field Head.step fun _ => rfl, h1]
  · rw [hl.field Head.authRetryAt fun _ => rfl, h1]
  · rw [hl.field Head.nD fun _ => rfl, h1]

/-! ## Probes and commands sent again -/

/-- A due probe of an attached head leaves when no command is outstanding (R44). -/
theorem timeProbe_spec (s : State) (h : Nat) (ha : s.attached h = true) (ht : s.since (s.hd h).lastProbe 100000000 = true)
    (hc : (s.hd h).cmd = none) (hq : (s.hd h).queue = []) (ho : s.hout = []) :
    SentOne (s.timeProbe h) h 0x82 ∧ ((s.timeProbe h).hd h).lastProbe = s.up ∧
      ((s.timeProbe h).hd h).cmd = some (s.launch h { code := 0x0A, args := [] }) := by
  rw [State.timeProbe, if_pos ⟨ha, ht⟩]
  generalize hu : s.wHd h { s.hd h with lastProbe := s.up } = u
  have hd : u.hd h = { s.hd h with lastProbe := s.up } := by rw [← hu, State.wHd_hd, if_pos rfl]
  have hl : u.launch h { code := 0x0A, args := [] } = s.launch h { code := 0x0A, args := [] } := by
    rw [State.launch, hd, ← hu]; rfl
  obtain ⟨hsent, hcmd⟩ := headCmd_sends u h 0x0A [] rfl (by rw [hd]; exact hc) (by rw [hd]; exact hq) (by rw [← hu]; exact ho)
  refine ⟨hsent, ?_, hcmd.trans (by rw [hl])⟩
  rw [(linkOnly_headCmd _ _ _ _).field Head.lastProbe fun _ => rfl, hd]

/-- The packet of the outstanding command leaves alone, and the engine keeps all but its SEQ. -/
theorem cmdPacket_spec (s : State) (h : Nat) (x : Head) (c : HeadCmd) (ho : s.hout = []) :
    SentOne ((s.wHd h x).cmdPacket h c) h 0x82 ∧ (((s.wHd h x).cmdPacket h c).hd h).cmd = x.cmd ∧
      (((s.wHd h x).cmdPacket h c).hd h).reqId = x.reqId := by
  refine ⟨headSend_sentOne _ _ _ _ ho, ?_⟩
  rw [State.cmdPacket, headSend_hd_same, State.wHd_hd, if_pos rfl]
  exact ⟨rfl, rfl⟩

/-- The first timeout of a command that may be sent again (R53): it waits while a new epoch is being stored (R486), else it goes out
once more under its request id. -/
theorem cmdTimedOut_again (s : State) (h : Nat) (c : HeadCmd) (hc : (s.hd h).cmd = some c) (hw : c.waiting = none)
    (ht : c.sentAt + cmdTimeoutNs c.code ≤ s.up) (h2 : c.tries < 2) (hv : c.void = false) (hn : s.notSent c.code = false) :
    s.cmdTimedOut h = if s.epochWaits c.code then s else
      let c1 := { c with tries := 2, sentAt := s.up, sent16 := s.clk.ring16 }
      (s.wHd h { s.hd h with cmd := some c1 }).cmdPacket h c1 := by
  have hlate : ¬(c.waiting.isSome = true ∨ s.up < c.sentAt + cmdTimeoutNs c.code) := by
    rw [hw]
    simpa using ht
  rw [State.cmdTimedOut, hc]
  dsimp only
  rw [if_neg hlate, if_neg (by simp [hv]), if_neg (by simp [hn])]
  simp only [h2, true_and, if_true]

/-- The retry of a command answered BUSY, 10 ms after the answer (R53): the same, under the next request id. -/
theorem busyAgain_again (s : State) (h : Nat) (c : HeadCmd) (t0 : Nat) (hc : (s.hd h).cmd = some c) (hw : c.waiting = some t0)
    (ht : t0 + 10000000 ≤ s.up) (hn : s.notSent c.code = false) :
    s.busyAgain h = if s.epochWaits c.code then s else
      let c1 := { s.launch h c with waiting := none }
      (s.wHd h { s.hd h with cmd := some c1, reqId := ((s.hd h).reqId + 1) % 256 }).cmdPacket h c1 := by
  rw [State.busyAgain, hc]
  dsimp only
  rw [hw]
  dsimp only
  cases hE : s.epochWaits c.code
  · rw [if_neg (by simp; omega), if_neg (by simp [hn])]
    rfl
  · rw [if_pos (by simp)]
    rfl

/-- The end of CLOSING changes FOLD_STATE alone (R169). -/
theorem onlyRegs_foldClosed (s : State) (h : Nat) : OnlyRegs s (s.foldClosed h) [Reg.hlFOLD_STATE h] := by
  unfold State.foldClosed State.when
  split
  · split
    · exact ⟨rfl, fun k hk => (State.w_r _ _ _ _).trans (if_neg fun he => hk (List.mem_singleton.2 he))⟩
    · exact ⟨rfl, fun _ _ => rfl⟩
  · exact ⟨rfl, fun _ _ => rfl⟩

theorem foldClosed_heads (s : State) (h : Nat) : (s.foldClosed h).heads = s.heads := by rw [(onlyRegs_foldClosed s h).1]

theorem foldClosed_hout (s : State) (h : Nat) : (s.foldClosed h).hout = s.hout := by rw [(onlyRegs_foldClosed s h).1]

/-- The STATUS that HEAD_SILENT asked for does not fail at its first timeout (R83). -/
theorem not_silentFails (s : State) (h : Nat) (c : HeadCmd) (hc : (s.hd h).cmd = some c) (h2 : c.tries < 2) :
    s.silentFails h = false := by
  have hne : c.tries ≠ 2 := by omega
  simp [State.silentFails, hc, hne]

end Sys2Proof.Machine

open Sys2Proof Sys2Proof.Machine

/-- Settles O24: each timer by what the link engine does when it has run out. -/
theorem headTimers : Obligations.HeadTimers := by
  intro dt h s
  dsimp only
  have hout : (s.advance dt).hout = [] := rfl
  have exProbe : exec (.timeProbe dt h) s = .next ((s.advance dt).timeProbe h) := rfl
  have exBusy : exec (.busyRetry dt h) s = .next ((s.advance dt).busyAgain h) := rfl
  have exAuth : exec (.authRetry dt h) s = .next ((s.advance dt).authAgain h) := rfl
  have exAttach : exec (.attachRetry dt h) s = .next ((s.advance dt).attachAgain h).done := rfl
  have exTimeout : exec (.cmdTimeout dt h) s = .next (if (s.advance dt).silentFails h
      then (((s.advance dt).cmdTimedOut h).foldClosed h).laneLoss h 0 false else ((s.advance dt).cmdTimedOut h).foldClosed h).done := rfl
  generalize s.advance dt = a at *
  refine ⟨fun ha ht hc hq => ⟨_, exProbe, ?_⟩, fun c hc hw ht h2 hv hn => ?_, fun c t0 hc hw ht hn => ?_,
    fun t0 hr ht hl => ⟨_, exAuth, ?_⟩, fun t0 hr ht hl => ⟨_, exAttach, ?_⟩⟩
  · obtain ⟨hsent, hprobe, hcmd⟩ := timeProbe_spec a h ha ht hc hq hout
    exact ⟨hsent, hprobe, _, hcmd, rfl, rfl, rfl⟩
  · rw [not_silentFails a h c hc h2, cmdTimedOut_again a h c hc hw ht h2 hv hn, if_neg Bool.false_ne_true] at exTimeout
    refine ⟨fun hE => ?_, fun hE => ?_⟩
    · rw [if_pos hE] at exTimeout
      exact ⟨_, exTimeout, onlyRegs_foldClosed a h⟩
    · rw [if_neg (by simp [hE])] at exTimeout
      refine ⟨_, exTimeout, ?_⟩
      dsimp only
      rw [foldClosed_hout, hd_of_heads (foldClosed_heads _ _)]
      obtain ⟨hsent, hcmd, -⟩ := cmdPacket_spec a h _ _ hout
      exact ⟨hsent, hcmd⟩
  · rw [busyAgain_again a h c t0 hc hw ht hn] at exBusy
    refine ⟨fun hE => ⟨_, exBusy, if_pos hE⟩, fun hE => ?_⟩
    rw [if_neg (by simp [hE])] at exBusy
    refine ⟨_, exBusy, ?_⟩
    obtain ⟨hsent, hcmd, hreq⟩ := cmdPacket_spec a h _ _ hout
    exact ⟨hsent, hreq, hcmd⟩
  · have hagain : a.authAgain h = a.authStart h := by simp [State.authAgain, hr, ht, hl]
    rw [hagain]
    exact authStart_spec a h
  · have hagain : a.attachAgain h = a.startAttach h := by simp [State.attachAgain, hr, ht, hl]
    rw [hagain]
    exact startAttach_spec a h
end

section
/-! PROOFS. The packets of the head link (O23): what taking one in leaves, the end of attach step 9, the upload of a table and the event
of a head (R38, R49, R55, R65, R70, R456). -/

namespace Sys2Proof.Machine

/-! ## Packets in (R38) -/

/-- The state in which a good packet is acted on: its SEQ is noted and a gap before it counted. -/
def State.received (s : State) (h : Nat) (p : HeadPkt) (gap : Bool) : State :=
  (s.wHd h { s.hd h with rxSeq := some p.seq }).when gap fun t => t.bump (Reg.hcSEQ_GAP h)

theorem headIn_down (s : State) (h ty : Nat) (p : HeadPkt) (f : State → State) (hl : s.laneUp h = false) : s.headIn h ty p f = s := by
  simp [State.headIn, hl]

theorem headIn_bad (s : State) (h ty : Nat) (p : HeadPkt) (f : State → State) (hl : s.laneUp h = true) (hp : pktOk p ty = false) :
    s.headIn h ty p f = s.bump (Reg.hcLINK_DISCARD h) := by
  simp [State.headIn, hl, hp]

theorem headIn_good (s : State) (h ty : Nat) (p : HeadPkt) (f : State → State) (hl : s.laneUp h = true) (hp : pktOk p ty = true) :
    ∃ gap, s.headIn h ty p f = f (s.received h p gap) := by
  rw [State.headIn, if_neg (by simp [hl]), if_neg (by simp [hp])]
  exact ⟨_, rfl⟩

/-- Beside the head's SEQ only a register changes. -/
theorem received_eq (s : State) (h : Nat) (p : HeadPkt) (gap : Bool) : s.received h p gap =
    { s.wHd h { s.hd h with rxSeq := some p.seq } with regs := (s.received h p gap).regs } := by
  unfold State.received State.when
  split <;> rfl

theorem received_heads (s : State) (h : Nat) (p : HeadPkt) (gap : Bool) :
    (s.received h p gap).heads = (s.wHd h { s.hd h with rxSeq := some p.seq }).heads := heads_when _ _ _ fun _ => rfl

theorem received_hd_same (s : State) (h : Nat) (p : HeadPkt) (gap : Bool) :
    (s.received h p gap).hd h = { s.hd h with rxSeq := some p.seq } := by
  rw [hd_of_heads (received_heads s h p gap), State.wHd_hd, if_pos rfl]

theorem received_hd_ne (s : State) (h : Nat) (p : HeadPkt) (gap : Bool) (g : Nat) (hg : g ≠ h) :
    (s.received h p gap).hd g = s.hd g := by
  rw [hd_of_heads (received_heads s h p gap), State.wHd_hd, if_neg hg]

/-! ## The end of attach step 9 (R65) -/

/-- STREAM answered OK in step 9 leaves the attach waiting for its first SOF. -/
theorem cmdDone_streamed (s : State) (h : Nat) (c : HeadCmd) (d : Bytes) (hcode : c.code = 0x0B) (ha : fld 0 1 c.args = 2)
    (h9 : (s.hd h).step = 9) : s.cmdDone h c 0 d = s.wHd h { s.hd h with step := 10 } := by
  simp [State.cmdDone, hcode, ha, h9]

/-- The reply OK to the STREAM of step 9, with no other command waiting (R49, R65). -/
theorem reply_streamed (s : State) (h : Nat) (p : HeadPkt) (c : HeadCmd) (hc : (s.hd h).cmd = some c) (hcode : c.code = 0x0B)
    (ha : fld 0 1 c.args = 2) (hw : c.waiting = none) (hv : c.void = false) (h9 : (s.hd h).step = 9) (hq : (s.hd h).queue = [])
    (d0 : fld 0 1 (pktData p) = 0x0B) (d1 : fld 1 1 (pktData p) = c.req) (d2 : fld 2 1 (pktData p) = 0) :
    ((s.reply h p).hd h).step = 10 ∧ ((s.reply h p).hd h).cmd = none ∧ ∀ g, g ≠ h → (s.reply h p).hd g = s.hd g := by
  generalize hu : s.wHd h { s.hd h with cmd := none } = u
  have hud : u.hd h = { s.hd h with cmd := none } := by rw [← hu, State.wHd_hd, if_pos rfl]
  generalize ht : u.wHd h { u.hd h with step := 10 } = t
  have htd : t.hd h = { s.hd h with cmd := none, step := 10 } := by rw [← ht, State.wHd_hd, if_pos rfl, hud]
  have hreply : s.reply h p = t.headKick h := by
    rw [← ht, ← cmdDone_streamed u h c ((pktData p).drop 4) hcode ha (by rw [hud]; exact h9), ← hu]
    simp [State.reply, hc, hcode, hw, hv, d0, d1, d2]
  rw [hreply]
  refine ⟨?_, ?_, fun g hg => ?_⟩
  · rw [headKick_hd_idle t h (by rw [htd]; exact hq), htd]
  · rw [headKick_hd_idle t h (by rw [htd]; exact hq), htd]
  · rw [(linkOnly_headKick t h).2.1 g hg, ← ht, State.wHd_hd, if_neg hg, ← hu, State.wHd_hd, if_neg hg]

/-! ## Tables and events -/

/-- Table data at the expected offset (R51, R70). -/
theorem tableIn_expected (s : State) (h : Nat) (p : HeadPkt) (c : HeadCmd) (hc : (s.hd h).cmd = some c) (hcode : c.code = 0x06)
    (hid : p.words.headD 0 % 256 = fld 0 1 c.args) (hoff : (p.words.drop 1).headD 0 = fld 1 4 c.args + (s.hd h).up.length) :
    s.tableIn h p = s.wHd h { s.hd h with
      up := ((s.hd h).up ++ wordBytes (p.words.drop 2)).take (fld 5 4 c.args), cmd := some { c with sentAt := s.up } } := by
  rw [State.tableIn, hc]
  exact if_pos ⟨hcode, hid, hoff⟩

/-- An event that is not held off becomes the newest entry of EVENT_LOG, under the next EVENT_SEQ (R456, R457). -/
theorem event_logged (s : State) (code inst data : Nat)
    (hfree : tget none (s.od.holds.map fun e => (e.1, some e.2)) (code * 65536 + inst) = none) :
    ∃ e, (s.event code inst data).od.log = e :: s.od.log.take 255 ∧ e.code = code ∧ e.inst = inst ∧ e.data = data ∧ e.time = s.now ∧
      (s.event code inst data).r Reg.evEVENT_SEQ = e.seq := by
  rw [State.event, hfree]
  dsimp only
  rw [if_neg Bool.false_ne_true]
  have hseq (v : Nat) : (s.w Reg.evEVENT_SEQ v).r Reg.evEVENT_SEQ = v := (State.w_r _ _ _ _).trans (if_pos rfl)
  split <;> exact ⟨_, rfl, rfl, rfl, rfl, rfl, hseq _⟩

/-- What a head's event brings about beside EVENT_LOG is a STATUS asked for (R55, R486). -/
theorem headEv_od (s : State) (h : Nat) (p : HeadPkt) : (s.headEv h p).od = (s.event 0x0104 h (p.words.headD 0 % 65536)).od ∧
    ∀ k, (s.headEv h p).r k = (s.event 0x0104 h (p.words.headD 0 % 65536)).r k := by
  unfold State.headEv
  dsimp only
  split
  · exact ⟨(linkOnly_headCmd _ h _ _).od, fun k => (linkOnly_headCmd _ h _ _).r k⟩
  · exact ⟨rfl, fun _ => rfl⟩

end Sys2Proof.Machine

open Sys2Proof Sys2Proof.Machine

/-- Settles O23: a packet that is not taken, and the reply, the table data and the event that are, on the state that received them. -/
theorem headPackets : Obligations.HeadPackets := by
  intro dt h p drop s
  dsimp only
  have exReply : exec (.reply dt h p) s =
      .next ((s.advance dt).headIn h 0x41 p fun t => ((t.reply h p).foldClosed h).done) := rfl
  have exTable : exec (.tableData dt h p) s = .next ((s.advance dt).headIn h 0x42 p fun t => t.tableIn h p) := rfl
  have exEvent : exec (.headEvent dt h p) s = .next ((s.advance dt).headIn h 0x43 p fun t => t.headEv h p) := rfl
  refine ⟨fun hl c hc => ?_, ?_⟩
  · simp only [List.mem_cons, List.not_mem_nil, or_false] at hc
    rcases hc with rfl | rfl | rfl | rfl | rfl | rfl <;>
      exact congrArg Host.Outcome.next (headIn_down (s.advance dt) h _ _ _ hl)
  generalize s.advance dt = a at *
  refine ⟨fun hl hp => ?_, fun hl hp c hc hcode ha hw hv h9 hq d0 d1 d2 => ?_, fun hl hp c hc hcode hid hoff => ?_,
    fun hl hp hfree => ?_⟩
  · rw [exReply, headIn_bad a h _ p _ hl hp]
  · obtain ⟨gap, hin⟩ := headIn_good a h 0x41 p (fun t => ((t.reply h p).foldClosed h).done) hl hp
    have hd := received_hd_same a h p gap
    obtain ⟨hstep, hcmd, hother⟩ := reply_streamed (a.received h p gap) h p c (by rw [hd]; exact hc) hcode ha hw hv
      (by rw [hd]; exact h9) (by rw [hd]; exact hq) d0 d1 d2
    refine ⟨_, exReply.trans (congrArg Host.Outcome.next hin), ?_⟩
    simp only [hd_of_heads (foldClosed_heads _ _)]
    exact ⟨hstep, hcmd, fun g hg => (hother g hg).trans (received_hd_ne a h p gap g hg)⟩
  · obtain ⟨gap, hin⟩ := headIn_good a h 0x42 p (fun t => t.tableIn h p) hl hp
    have hd := received_hd_same a h p gap
    have htable := tableIn_expected (a.received h p gap) h p c (by rw [hd]; exact hc) hcode hid (by rw [hd]; exact hoff)
    have hup : (a.received h p gap).up = a.up := by rw [received_eq]; rfl
    refine ⟨_, exTable.trans (congrArg Host.Outcome.next (hin.trans htable)), ?_⟩
    simp only [State.wHd_hd, if_true, hd, hup]
    exact ⟨trivial, trivial, fun g hg => (if_neg hg).trans (received_hd_ne a h p gap g hg)⟩
  · obtain ⟨gap, hin⟩ := headIn_good a h 0x43 p (fun t => t.headEv h p) hl hp
    have hod : (a.received h p gap).od = a.od := by rw [received_eq]; rfl
    have hnow : (a.received h p gap).now = a.now := by rw [received_eq]; rfl
    obtain ⟨e, hlog, hcode, hinst, hdata, htime, hseq⟩ := event_logged (a.received h p gap) 0x0104 h (p.words.headD 0 % 65536)
      (by rw [hod]; exact hfree)
    obtain ⟨hodEv, hrEv⟩ := headEv_od (a.received h p gap) h p
    exact ⟨_, exEvent.trans (congrArg Host.Outcome.next hin), e, (congrArg Od.log hodEv).trans (hlog.trans (by rw [hod])), hcode, hinst,
      hdata, htime.trans hnow, (hrEv _).trans hseq⟩
end

section
/-! PROOFS. Block writes (O33): what a block write answers, a map in its slot, a table in the slot that no set binds, and the owner key
(R151, R191, R446, R577, R620). -/

namespace Sys2Proof.Machine

/-! ## A block write (R446, R620) -/

/-- One entry, the partner's copy and the breakpoints: bookkeeping (R435, R465, R498). -/
theorem book_wroteBlock (s : State) (src key : Nat) (d : Bytes) : (s.wroteBlock src key d).book = s.book := by
  unfold State.wroteBlock
  rw [book_bpWrite, book_forward, book_tlyAdd]

section
variable {s : State} {o : Origin} {key off : Nat} {d : Bytes} {f : State → Nat × State}

theorem blockBy_refused (hc : s.blockCheck o key off d.length ≠ 0) :
    s.blockBy o key off d f = s.answer (s.blockCheck o key off d.length) 0 := if_pos hc

theorem blockBy_failed (hc : s.blockCheck o key off d.length = 0) {e : Nat} {t : State} (hf : f s = (e, t)) (he : e ≠ 0) :
    s.blockBy o key off d f = t.answer e 0 := by
  simp [State.blockBy, hc, hf, he]

theorem blockBy_done (hc : s.blockCheck o key off d.length = 0) {t : State} (hf : f s = (0, t)) :
    s.blockBy o key off d f = (t.wroteBlock o.src key d).answer 0 0 := by
  simp [State.blockBy, hc, hf]

/-- A block write that is carried out is answered OK, and beside the bookkeeping leaves what the chapter of the object made of it. -/
theorem blockBy_done_spec (hc : s.blockCheck o key off d.length = 0) {t : State} (hf : f s = (0, t)) :
    (s.blockBy o key off d f).od.rsp = ⟨0, 0, []⟩ ∧ (s.blockBy o key off d f).book = t.book := by
  rw [blockBy_done hc hf]
  exact ⟨rfl, (book_answer _ _ _).trans (book_wroteBlock _ _ _ _)⟩

end

/-- Bytes that reach from the first to past the last replace all of them. -/
theorem patchBytes_all (b d : Bytes) (h : b.length ≤ d.length) : patchBytes b 0 d = d := by
  simp [patchBytes, List.drop_eq_nil_of_le h]

/-! ## Maps (R191, R214, R217) -/

/-- Publishing the span of a station writes its two registers. -/
theorem onlyRegs_stSpan (s : State) (st : Nat) : OnlyRegs s (s.stSpan st) [Reg.sstA_MIN st, Reg.sstA_MAX st] := by
  have hw : ∀ v w, OnlyRegs s ((s.w (Reg.sstA_MIN st) v).w (Reg.sstA_MAX st) w) [Reg.sstA_MIN st, Reg.sstA_MAX st] := fun v w =>
    ⟨rfl, fun k hk => by simp_all⟩
  unfold State.stSpan
  dsimp only
  split <;> exact hw _ _

theorem mapPut_spec (s : State) (st slot : Fin 8) (d : Bytes) (hd : mapOk d = true) : ∃ t, s.mapPut (8 * st + slot) d = (0, t) ∧
    t.blob (Reg.slotMAP (8 * st + slot)) = d ∧ t.r (Reg.slotMAP_CRC (8 * st + slot)) = fld 8 4 d := by
  refine ⟨_, if_pos hd, ?_, ?_⟩
  · rw [State.blob, (onlyRegs_stSpan _ _).1]
    exact (State.wBlob_blob _ _ _ _).trans (if_pos rfl)
  · rw [(onlyRegs_stSpan _ _).2]
    · exact (State.w_r _ _ _ _).trans (if_pos rfl)
    · simp only [List.mem_cons, List.not_mem_nil, or_false, Reg.slotMAP_CRC, Reg.sstA_MIN, Reg.sstA_MAX]
      omega

theorem mapPut_refused (s : State) (k : Nat) (d : Bytes) (hd : mapOk d = false) : s.mapPut k d = (0x15, s) :=
  if_neg (by simp [hd])

theorem bookKey_slotMAP_CRC (st slot : Fin 8) : bookKey (Reg.slotMAP_CRC (8 * st + slot)) = false :=
  decide_eq_false (by unfold Reg.slotMAP_CRC; omega)

/-! ## Tables (R151, R161) -/

theorem flashKick_rad (s : State) : s.flashKick.rad = s.rad := by
  unfold State.flashKick
  (repeat' split) <;> rfl

theorem flashKick_r (s : State) (k : Nat) : s.flashKick.r k = s.r k := by
  unfold State.flashKick
  (repeat' split) <;> rfl

/-- Storing a table in flash leaves the slots and the published objects. -/
theorem newestTable_storeTable (s : State) (t : Nat) (b : Bytes) (j : Nat) : (s.storeTable t b).newestTable j = s.newestTable j := by
  unfold State.newestTable State.slot State.storeTable State.flashJob
  rw [flashKick_rad, flashKick_r]
  rfl

theorem slot_newestPub (s : State) (t c j k : Nat) : (s.newestPub t c).slot j k = s.slot j k := by
  unfold State.slot State.newestPub
  rw [State.wAll_eq]

theorem newestPub_newest (s : State) (t c : Nat) : (s.newestPub t c).r (tabKey t 2) = c := by
  simp [State.newestPub, State.wAll, tabKey]

theorem slot_wSlot_same (s : State) (t c : Nat) (b : Bytes) : (s.wSlot t c b).slot t c = b := by
  simp [State.slot, State.wSlot]

theorem newestTable_newestPub (s : State) (t c : Nat) : (s.newestPub t c).newestTable t = s.slot t c := by
  rw [State.newestTable, newestPub_newest, slot_newestPub]

/-- A table that has become complete in a slot is the newest; its ORIGIN is kept past the slots, at none of their places. -/
theorem newestTable_tableDone (s : State) (t c : Nat) (b : Bytes) (origin : Nat) : (s.tableDone t c b origin).newestTable t = b := by
  unfold State.tableDone State.slotPut
  rw [newestTable_storeTable, newestTable_newestPub]
  simp [State.slot, State.wSlot]

theorem slot_slotSpoil (s : State) (t c : Nat) (b : Bytes) : (s.slotSpoil t c b).slot t c = b := by
  unfold State.slotSpoil
  dsimp only
  split
  · rw [slot_newestPub, slot_wSlot_same]
  · exact slot_wSlot_same s t c b

/-- A write of a whole table is decided at once, whatever the slot held. -/
theorem tableWrite_whole (s : State) (t c : Nat) (d : Bytes) (hs : s.writeSlot t = some c) (hd : d.length = tabBytes t) :
    s.tableWrite t 0 d = if validTable t d then (0, s.tableDone t c d 2) else (0x15, s.slotSpoil t c []) := by
  simp [State.tableWrite, hs, ← hd, patchBytes_all, padTo]

theorem tableWrite_bound (s : State) (t off : Nat) (d : Bytes) (hs : s.writeSlot t = none) : s.tableWrite t off d = (0x1E, s) := by
  simp [State.tableWrite, hs]

theorem bookKey_tabKey (t : Fin 40) (k : Nat) (hk : k < 256) : bookKey (tabKey t k) = false := by
  unfold bookKey tabKey tabIndex
  refine decide_eq_false ?_
  split_ifs <;> omega

theorem newestTable_of_book {s t : State} (h : t.book = s.book) (i : Fin 40) : t.newestTable i = s.newestTable i := by
  unfold State.newestTable State.slot
  rw [book_r h _ (bookKey_tabKey i 2 (by decide)), book_eq h]

/-! ## The owner key (R577) -/

theorem tableOf_ownerKey : tableOf Reg.lcOWNER_KEY = none := by decide

theorem blockPut_ownerKey (s : State) (off : Nat) (d : Bytes) : s.blockPut Reg.lcOWNER_KEY off d =
    (0, { s with fac := { s.fac with ownerKey := some (patchBytes (s.fac.ownerKey.getD (List.replicate 32 0)) off d) } }) := by
  simp [State.blockPut, tableOf_ownerKey]

theorem fac_of_book {s t : State} (h : t.book = s.book) : t.fac = s.fac := by rw [book_eq h]

end Sys2Proof.Machine

open Sys2Proof Sys2Proof.Machine

/-- Settles O33: each of the three objects by what its chapter makes of the bytes, which the bookkeeping after the write leaves. -/
theorem blockWrites : Obligations.BlockWrites := by
  intro dt off d o s
  dsimp only
  have exMap : ∀ st slot : Fin 8, exec (.slotMap dt st slot o off d) s =
      .next ((s.advance dt).blockBy o (Reg.slotMAP (8 * st + slot)) off d fun t => t.mapPut (8 * st + slot) d).done := fun _ _ => rfl
  have exTable : ∀ t : Fin 40, exec (.tableBlockWrite dt t o off d) s =
      .next ((s.advance dt).blockBy o (tabKey t 1) off d fun u => u.tableWrite t off d) := fun _ => rfl
  have exKey : exec (.ownerKey dt o off d) s =
      .next ((s.advance dt).blockBy o Reg.lcOWNER_KEY off d fun t => t.blockPut Reg.lcOWNER_KEY off d) := rfl
  generalize s.advance dt = a at exMap exTable exKey ⊢
  refine ⟨fun st slot => ⟨fun hc => ?_, fun hc hd => ?_, fun hc hd => ?_⟩,
    fun t => ⟨fun hc => ?_, fun hc n hn h0 hlen => ⟨fun hv => ?_, fun hv => ?_⟩, fun hc hn => ?_⟩, fun hc => ?_⟩
  · exact ⟨_, exMap st slot, blockBy_refused hc⟩
  · obtain ⟨t, hput, hblob, hcrc⟩ := mapPut_spec a st slot d hd
    obtain ⟨hrsp, hbook⟩ := blockBy_done_spec (f := fun t => t.mapPut (8 * st + slot) d) hc hput
    exact ⟨_, exMap st slot, (blob_of_book hbook _).trans hblob, hrsp, (book_r hbook _ (bookKey_slotMAP_CRC st slot)).trans hcrc⟩
  · exact ⟨_, exMap st slot, blockBy_failed hc (mapPut_refused a _ d hd) (by decide)⟩
  · exact ⟨_, exTable t, blockBy_refused hc⟩
  · subst h0
    have hput := (tableWrite_whole a t n d hn hlen).trans (if_pos hv)
    obtain ⟨hrsp, hbook⟩ := blockBy_done_spec (f := fun u => u.tableWrite t 0 d) hc hput
    exact ⟨_, exTable t, hrsp, (newestTable_of_book hbook t).trans (newestTable_tableDone a t n d 2)⟩
  · subst h0
    have hput := (tableWrite_whole a t n d hn hlen).trans (if_neg (by simp [hv]))
    refine ⟨_, (exTable t).trans (congrArg Host.Outcome.next (blockBy_failed hc hput (by decide))), rfl, ?_⟩
    exact slot_slotSpoil a t n []
  · have hput := tableWrite_bound a t off d hn
    exact ⟨_, (exTable t).trans (congrArg Host.Outcome.next (blockBy_failed hc hput (by decide))), rfl⟩
  · have hput := blockPut_ownerKey a off d
    obtain ⟨hrsp, hbook⟩ := blockBy_done_spec (f := fun t => t.blockPut Reg.lcOWNER_KEY off d) hc hput
    have hkey := congrArg Fac.ownerKey (fac_of_book hbook)
    refine ⟨_, exKey, hrsp, hkey, fun h0 hd hlen => ?_⟩
    subst h0
    exact hkey.trans (congrArg some (patchBytes_all _ d (by omega)))
end

section
/-! PROOFS. Fold runs (O28): the registers of a run and what leaves them alone, what each of the five commands does, and the state on
which the trigger's clause fails (R164, R165, R169, R174-R176, R179). -/

namespace Sys2Proof.Machine

/-! ## What leaves the runs alone -/

/-- The registers of Fold runs, but for SHUTTER_SUSPECT. -/
def foldKey (k : Nat) : Bool := decide (k / 65536 = 0x30 ∧ 0x230 ≤ k % 2048 ∧ k % 2048 < 0x240 ∧ k % 2048 ≠ 0x235)

/-- From s to t no run changes, and no register of one. -/
def SameRuns (s t : State) : Prop := t.folds = s.folds ∧ ∀ k, foldKey k = true → t.r k = s.r k

/-- The registers of head h's runs that O28 names. -/
def foldRegs (h : Nat) : List Nat := [Reg.hlFOLD_STATE h, Reg.hlFOLD_CAUSE h, Reg.hlFOLD_RUNS h, Reg.hlFOLD_FAILS h, Reg.hlFOLD_FAIL_SEQ h,
  Reg.hlFOLD_KEPT h, Reg.hlLAST_SIGMA h, Reg.hlLAST_FOLD_RESULT h]

theorem foldKey_of_mem {h k : Nat} (hh : h < 32) (hk : k ∈ foldRegs h) : foldKey k = true := by
  refine decide_eq_true ?_
  simp only [foldRegs, List.mem_cons, List.not_mem_nil, or_false, Reg.hlFOLD_STATE, Reg.hlFOLD_CAUSE, Reg.hlFOLD_RUNS, Reg.hlFOLD_FAILS,
    Reg.hlFOLD_FAIL_SEQ, Reg.hlFOLD_KEPT, Reg.hlLAST_SIGMA, Reg.hlLAST_FOLD_RESULT] at hk
  omega

@[simp] theorem State.w_fold (s : State) (k v j : Nat) : (s.w k v).fold j = s.fold j := rfl

theorem SameRuns.refl (s : State) : SameRuns s s := ⟨rfl, fun _ _ => rfl⟩

theorem SameRuns.trans {s t u : State} (h1 : SameRuns s t) (h2 : SameRuns t u) : SameRuns s u :=
  ⟨h2.1.trans h1.1, fun k hk => (h2.2 k hk).trans (h1.2 k hk)⟩

theorem SameRuns.fold {s t : State} (hs : SameRuns s t) (h : Nat) : t.fold h = s.fold h := by rw [State.fold, hs.1]; rfl

theorem SameRuns.reg {s t : State} (hs : SameRuns s t) {h k : Nat} (hh : h < 32) (hk : k ∈ foldRegs h) : t.r k = s.r k :=
  hs.2 k (foldKey_of_mem hh hk)

theorem bookKey_of_foldKey {k : Nat} (hk : foldKey k = true) : bookKey k = false := by
  have hk' := of_decide_eq_true hk
  exact decide_eq_false (by omega)

theorem folds_of_body {s t : State} (h : t.body = s.body) : t.folds = s.folds := by
  have hf := congrArg State.folds h
  exact hf

theorem sameRuns_of_book {s t : State} (h : t.book = s.book) : SameRuns s t :=
  ⟨folds_of_body (body_of_book h), fun k hk => book_r h k (bookKey_of_foldKey hk)⟩

theorem sameRuns_w (s : State) (k v : Nat) (hk : foldKey k = false) : SameRuns s (s.w k v) := by
  refine ⟨rfl, fun j hj => (State.w_r _ _ _ _).trans (if_neg fun he => ?_)⟩
  rw [he, hk] at hj
  cases hj

theorem sameRuns_wAll (s : State) (l : List (Nat × Nat)) (hl : ∀ e ∈ l, foldKey e.1 = false) : SameRuns s (s.wAll l) := by
  refine ⟨by rw [State.wAll_eq], fun k hk => State.wAll_r_ne _ _ _ fun e he hek => ?_⟩
  rw [← hek, hl e he] at hk
  cases hk

theorem sameRuns_when (s : State) (c : Bool) (f : State → State) (h : ∀ t, SameRuns t (f t)) : SameRuns s (s.when c f) := by
  unfold State.when
  split
  · exact h s
  · exact .refl s

theorem sameRuns_each {α : Type} (s : State) (l : List α) (f : α → State → State) (h : ∀ a ∈ l, ∀ t, SameRuns t (f a t)) :
    SameRuns s (s.each l f) := by
  unfold State.each
  induction l generalizing s with
  | nil => exact .refl s
  | cons a l ih => exact (h a List.mem_cons_self s).trans (ih _ fun b hb => h b (List.mem_cons_of_mem a hb))

theorem LinkOnly.sameRuns {h : Nat} {s t : State} (hl : LinkOnly h s t) : SameRuns s t := by
  refine ⟨?_, fun k _ => hl.r k⟩
  rw [hl.1]

theorem sameRuns_wHd (s : State) (h : Nat) (x : Head) : SameRuns s (s.wHd h x) := ⟨rfl, fun _ _ => rfl⟩

theorem sameRuns_event (s : State) (code inst data : Nat) : SameRuns s (s.event code inst data) := sameRuns_of_book (book_event _ _ _ _)

theorem sameRuns_shutter (s : State) (h a : Nat) : SameRuns s (s.shutter h a) := (linkOnly_headCmd _ _ _ _).sameRuns

/-- The life numbers are no registers of a run (R61). -/
theorem sameRuns_lifePublish (s : State) (h : Nat) : SameRuns s (s.lifePublish h) := by
  have hcnt : foldKey (Reg.hlSHUTTER_CNT h) = false := decide_eq_false (by unfold Reg.hlSHUTTER_CNT; omega)
  have hwin : foldKey (Reg.hlWINDOW_EQ h) = false := decide_eq_false (by unfold Reg.hlWINDOW_EQ; omega)
  have hused : foldKey (Reg.hlLIFE_USED h) = false := decide_eq_false (by unfold Reg.hlLIFE_USED; omega)
  have hstate : foldKey (Reg.hlLIFE_STATE h) = false := decide_eq_false (by unfold Reg.hlLIFE_STATE; omega)
  unfold State.lifePublish
  extract_lets x s1 used s2 old new s3 s4
  have h2 : SameRuns s s2 := (sameRuns_wAll s _ (by simp [hcnt, hwin])).trans (sameRuns_w _ _ _ hused)
  have h4 : SameRuns s2 s4 := (sameRuns_w _ _ _ hstate).trans (sameRuns_when _ _ _ fun t => sameRuns_event _ _ _ _)
  split
  · exact h2
  · exact (h2.trans h4).trans (sameRuns_when _ _ _ fun t => sameRuns_event _ _ _ _)

theorem sameRuns_lifeShow (s : State) (h : Nat) : SameRuns s (s.lifeShow h) := by
  unfold State.lifeShow
  split
  · exact .refl s
  · exact sameRuns_lifePublish s h

theorem sameRuns_lifeAdd (s : State) (h : Nat) (f : Life → Life) : SameRuns s (s.lifeAdd h f) :=
  (sameRuns_wHd s h _).trans (sameRuns_lifeShow _ h)

theorem sameRuns_suspect (s : State) (h : Nat) : SameRuns s (s.suspect h) := by
  have hkey : foldKey (Reg.hlSHUTTER_SUSPECT h) = false := decide_eq_false (by unfold Reg.hlSHUTTER_SUSPECT; omega)
  unfold State.suspect
  split
  · exact (sameRuns_w _ _ _ hkey).trans ((sameRuns_event _ _ _ _).trans (sameRuns_of_book (book_laneRecord _ _)))
  · exact .refl s

theorem sameRuns_tauDiscard (s : State) (h : Nat) : SameRuns s (s.tauDiscard h) := by
  have hkey : foldKey (Reg.pcTAU_PROPOSED h) = false := decide_eq_false (by unfold Reg.pcTAU_PROPOSED; omega)
  exact sameRuns_w _ _ _ hkey

/-! ## A run that fails (R174, R175) -/

/-- From a to u head h's run has failed with a code: it is counted, its result published, and it waits in OPENING. -/
def FoldFailed (a u : State) (h code : Nat) : Prop :=
  u.r (Reg.hlFOLD_STATE h) = 6 ∧ u.r (Reg.hlLAST_FOLD_RESULT h) = 0xFFFF + 65536 * code ∧
    u.r (Reg.hlFOLD_FAILS h) = min 0xFFFFFFFF (a.r (Reg.hlFOLD_FAILS h) + 1) ∧
    u.r (Reg.hlFOLD_FAIL_SEQ h) = min 255 (a.r (Reg.hlFOLD_FAIL_SEQ h) + 1) ∧
    ∃ r, (u.fold h).run = some r ∧ r.result = code ∧ r.passed = false

theorem FoldFailed.trans {a t u : State} {h code : Nat} (hh : h < 32) (ht : FoldFailed a t h code) (hs : SameRuns t u) :
    FoldFailed a u h code := by
  unfold FoldFailed
  rw [hs.reg hh (k := Reg.hlFOLD_STATE h) (by simp [foldRegs]), hs.reg hh (k := Reg.hlLAST_FOLD_RESULT h) (by simp [foldRegs]),
    hs.reg hh (k := Reg.hlFOLD_FAILS h) (by simp [foldRegs]), hs.reg hh (k := Reg.hlFOLD_FAIL_SEQ h) (by simp [foldRegs]), hs.fold]
  exact ht

/-- What a failing check writes before its event: the result, OPENING, and the two counts (R175). -/
def State.failCounted (s : State) (h code : Nat) : State :=
  ((((((s.w (Reg.hlLAST_FOLD_RESULT h) (0xFFFF + 65536 * code)).w (Reg.hlFOLD_STATE h) 6).dropStage h).tauDiscard h).bump
    (Reg.hlFOLD_FAILS h)).addTo 255 (Reg.hlFOLD_FAIL_SEQ h) 1)

/-- The run with a failing check's code. -/
def Fold.failedWith (r : Fold) (code : Nat) : Fold := { r with result := code, passed := false, tag := 0xFFFF }

theorem failCounted_fold (s : State) (h code g : Nat) : (s.failCounted h code).fold g = s.fold g := by
  rw [State.failCounted, State.addTo, State.w_fold, State.bump, State.add32, State.addTo, State.w_fold, (sameRuns_tauDiscard _ h).fold]
  rfl

theorem failCounted_r (s : State) (h code : Nat) (hh : h < 32) (k : Nat) (hk : k ∈ foldRegs h) : (s.failCounted h code).r k =
    if k = Reg.hlFOLD_FAIL_SEQ h then min 255 (s.r k + 1) else if k = Reg.hlFOLD_FAILS h then min 0xFFFFFFFF (s.r k + 1) else
      if k = Reg.hlFOLD_STATE h then 6 else if k = Reg.hlLAST_FOLD_RESULT h then 0xFFFF + 65536 * code else s.r k := by
  unfold State.failCounted
  generalize ht : (((s.w (Reg.hlLAST_FOLD_RESULT h) (0xFFFF + 65536 * code)).w (Reg.hlFOLD_STATE h) 6).dropStage h) = t
  have hr (j : Nat) : t.r j =
      if j = Reg.hlFOLD_STATE h then 6 else if j = Reg.hlLAST_FOLD_RESULT h then 0xFFFF + 65536 * code else s.r j := by
    rw [← ht]
    exact (State.w_r _ _ _ _).trans (by rw [State.w_r])
  have hdrop (j : Nat) (hj : j ∈ foldRegs h) : (t.tauDiscard h).r j = t.r j := (sameRuns_tauDiscard t h).reg hh hj
  rw [State.addTo, State.w_r, State.bump_r, State.bump_r, hdrop k hk, hdrop (Reg.hlFOLD_FAILS h) (by simp [foldRegs]),
    hdrop (Reg.hlFOLD_FAIL_SEQ h) (by simp [foldRegs]), hr (Reg.hlFOLD_FAILS h), hr (Reg.hlFOLD_FAIL_SEQ h), hr k]
  split
  · next hseq => simp [hseq, Reg.hlFOLD_FAIL_SEQ, Reg.hlFOLD_FAILS, Reg.hlFOLD_STATE, Reg.hlLAST_FOLD_RESULT]
  · split
    · next hfails => simp [hfails, Reg.hlFOLD_FAILS, Reg.hlFOLD_STATE, Reg.hlLAST_FOLD_RESULT]
    · rfl

/-- The event, the suspicion, the life record and the command to open the shutter leave what has been counted (R60, R175, R176). -/
theorem sameRuns_foldFail (s : State) (h code : Nat) (r : Fold) (hr : (s.fold h).run = some r) :
    SameRuns ((s.wFold h { s.fold h with run := some (r.failedWith code) }).failCounted h code) (s.foldFail h code) := by
  unfold State.foldFail
  rw [hr]
  exact (((sameRuns_event _ _ _ _).trans (sameRuns_suspect _ _)).trans (sameRuns_lifeAdd _ _ _)).trans
    ((linkOnly_lifeWrite _ h).sameRuns.trans (sameRuns_shutter _ _ _))

theorem foldFail_failed (s : State) (h code : Nat) (hh : h < 32) (r : Fold) (hr : (s.fold h).run = some r) :
    FoldFailed s (s.foldFail h code) h code := by
  refine FoldFailed.trans hh ?_ (sameRuns_foldFail s h code r hr)
  unfold FoldFailed
  simp only [failCounted_fold, State.wFold_fold, if_true]
  refine ⟨?_, ?_, ?_, ?_, _, rfl, rfl, rfl⟩ <;> rw [failCounted_r _ _ _ hh _ (by simp [foldRegs])]
  · simp [Reg.hlFOLD_STATE, Reg.hlFOLD_FAIL_SEQ, Reg.hlFOLD_FAILS]
  · simp [Reg.hlLAST_FOLD_RESULT, Reg.hlFOLD_STATE, Reg.hlFOLD_FAIL_SEQ, Reg.hlFOLD_FAILS]
  · simp [Reg.hlFOLD_FAIL_SEQ, Reg.hlFOLD_FAILS]
  · simp

/-- The CLOSING limit (R169, R174). -/
theorem closingLimit_failed (s : State) (h : Nat) (hh : h < 32) (r : Fold) (t0 : Nat) (hr : (s.fold h).run = some r)
    (h0 : r.replied = some t0) (hf : r.first = none) (hst : s.r (Reg.hlFOLD_STATE h) = 1)
    (ht : s.since t0 (8 * (s.pipe h).curInterval) = true) : FoldFailed s (s.closingLimit h) h 1 := by
  have hfail : s.closingLimit h = s.foldFail h 1 := by simp [State.closingLimit, hr, h0, hf, hst, ht]
  rw [hfail]
  exact foldFail_failed s h 1 hh r hr

/-! ## CHECKING ends (R169, R174) -/

section
variable {s : State} {h : Nat} {r : Fold} {c : PSet}

theorem checkDone_failed (hh : h < 32) (hr : (s.fold h).run = some r) (hc : (s.pipe h).cur = some c)
    (hst : s.r (Reg.hlFOLD_STATE h) = 5) (hk : (s.foldCheck h r c).code ≠ 0) :
    FoldFailed s (s.checkDone h) h (s.foldCheck h r c).code := by
  rw [State.checkDone, if_pos hst, State.foldChecked, hr, hc]
  dsimp only
  rw [if_pos hk]
  generalize s.foldCheck h r c = k at hk ⊢
  obtain ⟨h1, h2, h3, h4, h5⟩ := foldFail_failed ((s.w (Reg.hlLAST_SIGMA h) k.sigma).w (Reg.hlFOLD_KEPT h) k.kept) h k.code hh r hr
  refine ⟨h1, h2, h3.trans ?_, h4.trans ?_, h5⟩
  · simp [Reg.hlFOLD_FAILS, Reg.hlLAST_SIGMA, Reg.hlFOLD_KEPT]
  · simp [Reg.hlFOLD_FAIL_SEQ, Reg.hlLAST_SIGMA, Reg.hlFOLD_KEPT]

theorem checkDone_passed (hh : h < 32) (hr : (s.fold h).run = some r) (hc : (s.pipe h).cur = some c)
    (hst : s.r (Reg.hlFOLD_STATE h) = 5) (hk : (s.foldCheck h r c).code = 0) : let u := s.checkDone h
    u.r (Reg.hlFOLD_STATE h) = 6 ∧ u.r (Reg.hlLAST_SIGMA h) = (s.foldCheck h r c).sigma ∧
      u.r (Reg.hlFOLD_KEPT h) = (s.foldCheck h r c).kept ∧
      ∃ q, (u.fold h).run = some q ∧ q.passed = true ∧ q.newSub = (s.foldCheck h r c).sub := by
  dsimp only
  rw [State.checkDone, if_pos hst, State.foldChecked, hr, hc]
  dsimp only
  rw [if_neg (by simp [hk])]
  generalize s.foldCheck h r c = k
  have hs (t : State) : SameRuns t (t.shutter h 0) := sameRuns_shutter t h 0
  rw [(hs _).reg hh (k := Reg.hlFOLD_STATE h) (by simp [foldRegs]), (hs _).reg hh (k := Reg.hlLAST_SIGMA h) (by simp [foldRegs]),
    (hs _).reg hh (k := Reg.hlFOLD_KEPT h) (by simp [foldRegs]), (hs _).fold]
  refine ⟨?_, ?_, ?_, { r with newSub := k.sub, winRef := k.win, passed := true }, ?_, rfl, rfl⟩
  · rw [State.w_r, if_pos rfl]
  · rw [State.w_r, if_neg (by simp [Reg.hlLAST_SIGMA, Reg.hlFOLD_STATE])]
    refine (State.w_r (s.w (Reg.hlLAST_SIGMA h) k.sigma) _ _ _).trans ?_
    rw [if_neg (by simp [Reg.hlLAST_SIGMA, Reg.hlFOLD_KEPT]), State.w_r, if_pos rfl]
  · rw [State.w_r, if_neg (by simp [Reg.hlFOLD_KEPT, Reg.hlFOLD_STATE])]
    exact (State.w_r (s.w (Reg.hlLAST_SIGMA h) k.sigma) _ _ _).trans (if_pos rfl)
  · rw [State.w_fold, State.wFold_fold, if_pos rfl]

end

/-! ## DRIFT_CONF and the shutter (R164, R179) -/

theorem driftUpdate_due (s : State) (h : Nat) (ha : s.attach h = atSTREAMING) (ht : s.since (s.fold h).confAt 100000000 = true) :
    s.driftUpdate h = (s.wFold h { s.fold h with confAt := s.up }).w (Reg.hlDRIFT_CONF h) (s.driftConf h (s.hr h).winT) :=
  if_pos ⟨ha, ht⟩

theorem reopenAgain_due (s : State) (h : Nat) (hr : (s.hr h).reopen = true) (ha : s.attached h = true)
    (ht : s.since (s.hr h).reopenAt 1000000000 = true) :
    s.reopenAgain h = (s.wHr h { s.hr h with reopenAt := s.up }).shutter h 0 := if_pos ⟨hr, ha, ht⟩

/-! ## A run starts (R125, R165, R169) -/

/-- The results of a window name objects of the statistics, and no register of a run (R125). -/
theorem foldKey_results (w : StatWin) (h cause : Nat) : ∀ e ∈ w.results h cause, foldKey e.1 = false := by
  simp only [StatWin.results, List.forall_mem_cons, List.not_mem_nil, false_imp_iff, implies_true, and_true, foldKey,
    decide_eq_false_iff_not, Reg.pstSTAT_TAG, Reg.pstSTAT_CAUSE, Reg.pstFIRST_FRAME, Reg.pstFRAMES_USED, Reg.pstT_START, Reg.pstT_END,
    Reg.pstMEAN_T, Reg.pstMIN_T, Reg.pstMAX_T, Reg.pstSTD_T, Reg.pstSAMPLES, Reg.pstREPLACED, Reg.pstSATURATED, Reg.pstUNREPLACEABLE]
  omega

/-- Closing the statistics window publishes its results after those that wait (R125, R126). -/
theorem sameRuns_statClose (s : State) (h cause : Nat) (hw : ∀ l ∈ (s.pipe h).statWait, ∀ e ∈ l, foldKey e.1 = false) :
    SameRuns s (s.statClose h cause) := by
  have hseq : foldKey (Reg.pstSTAT_SEQ h) = false := decide_eq_false (by unfold Reg.pstSTAT_SEQ; omega)
  unfold State.statClose State.statPublish
  split
  · exact .refl s
  · next w _ =>
    dsimp only
    split
    · exact ⟨rfl, fun _ _ => rfl⟩
    · refine SameRuns.trans (t := State.wPipe (s.wPipe h _) h _) ⟨rfl, fun _ _ => rfl⟩
        (sameRuns_each _ _ _ fun l hl t => (sameRuns_wAll t l ?_).trans (sameRuns_w _ _ _ hseq))
      rw [State.wPipe_pipe, if_pos rfl] at hl
      rcases List.mem_append.1 hl with hl | hl
      · exact hw l hl
      · rw [List.mem_singleton.1 hl]
        exact foldKey_results w h cause

/-- A run starts in CLOSING with its cause, and is counted. -/
theorem foldStart_spec (s : State) (h cause : Nat) (hh : h < 32)
    (hw : ∀ l ∈ (s.pipe h).statWait, ∀ e ∈ l, foldKey e.1 = false) : let t := s.foldStart h cause
    t.r (Reg.hlFOLD_STATE h) = 1 ∧ t.r (Reg.hlFOLD_CAUSE h) = cause ∧
      t.r (Reg.hlFOLD_RUNS h) = min 0xFFFFFFFF (s.r (Reg.hlFOLD_RUNS h) + 1) ∧ (t.fold h).attachDue = false ∧
      ∃ r, (t.fold h).run = some r ∧ r.cause = cause := by
  unfold State.foldStart
  extract_lets f par f1 s1 s2
  have hsame : SameRuns s2 ((((s2.foldClear h).statClose h 2).darken h).shutter h 1) :=
    (((SameRuns.trans (t := s2.foldClear h) ⟨rfl, fun _ _ => rfl⟩ (sameRuns_statClose _ h 2 hw)).trans
      ⟨rfl, fun _ _ => rfl⟩).trans (sameRuns_shutter _ _ _))
  have hfold : s2.fold h = s1.fold h := rfl
  rw [hsame.reg hh (k := Reg.hlFOLD_STATE h) (by simp [foldRegs]), hsame.reg hh (k := Reg.hlFOLD_CAUSE h) (by simp [foldRegs]),
    hsame.reg hh (k := Reg.hlFOLD_RUNS h) (by simp [foldRegs]), hsame.fold, hfold, State.wFold_fold, if_pos rfl]
  refine ⟨?_, ?_, ?_, rfl, _, rfl, rfl⟩ <;> rw [State.bump_r]
  · simp [State.wAll, Reg.hlFOLD_STATE, Reg.hlFOLD_RUNS, Reg.hlFOLD_CAUSE, Reg.pcTAU_MEASURED]
  · simp [State.wAll, Reg.hlFOLD_STATE, Reg.hlFOLD_RUNS, Reg.hlFOLD_CAUSE, Reg.pcTAU_MEASURED]
  · simp [State.wAll, Reg.hlFOLD_STATE, Reg.hlFOLD_RUNS, Reg.hlFOLD_CAUSE, Reg.pcTAU_MEASURED, s1]

/-- The triggers start a due attach run before any other (R165). -/
theorem foldEval_due (s : State) (h : Nat) (ht : s.since (s.fold h).evalAt 100000000 = true) (hr : (s.fold h).run = none)
    (ha : s.attach h = atSTREAMING) (hf : s.follower = false) (hp : s.rb Reg.dbgHALTED_PIPES h = false)
    (harm : (s.pipe h).armed = none) (hd : (s.fold h).attachDue = true) :
    s.foldEval h = (s.wFold h { s.fold h with evalAt := s.up }).foldStart h 0 := by
  rw [State.foldEval, if_pos ht, State.foldTrigger]
  generalize hu : s.wFold h { s.fold h with evalAt := s.up } = u
  have hfold : u.fold h = { s.fold h with evalAt := s.up } := by rw [← hu, State.wFold_fold, if_pos rfl]
  have hsame : u.attach h = s.attach h ∧ u.follower = s.follower ∧ u.rb Reg.dbgHALTED_PIPES h = s.rb Reg.dbgHALTED_PIPES h ∧
      u.pipe h = s.pipe h := by rw [← hu]; exact ⟨rfl, rfl, rfl, rfl⟩
  obtain ⟨hatt, hfol, hhalt, hpipe⟩ := hsame
  rw [if_neg (by simp [hfold, hr, hatt, ha, hfol, hf, hhalt, hp, hpipe, harm]), if_pos (by rw [hfold]; exact hd)]

/-! ## The clauses of O28 at one state -/

/-- What O28 says of the commands to one head at one state. -/
def FoldRunsAt (dt : Nat) (h : Fin 32) (s : State) : Prop := let a := s.advance dt; let f := a.fold h
  (a.attach h = atSTREAMING → a.since f.confAt 100000000 = true →
    Gives (.driftConfUpdate dt h) s fun t => t.r (Reg.hlDRIFT_CONF h) = a.driftConf h (a.hr h).winT ∧ (t.fold h).confAt = a.up ∧
      t = { a with regs := t.regs, folds := t.folds } ∧ SameRegsBut a t [Reg.hlDRIFT_CONF h]) ∧
  (a.since f.evalAt 100000000 = true → f.run = none → a.attach h = atSTREAMING → a.follower = false →
    a.rb Reg.dbgHALTED_PIPES h = false → (a.pipe h).armed = none → f.attachDue = true →
    Gives (.foldTrigger dt h) s fun t => t.r (Reg.hlFOLD_STATE h) = 1 ∧ t.r (Reg.hlFOLD_CAUSE h) = 0 ∧
      t.r (Reg.hlFOLD_RUNS h) = min 0xFFFFFFFF (a.r (Reg.hlFOLD_RUNS h) + 1) ∧ (t.fold h).attachDue = false ∧
      ∃ r, (t.fold h).run = some r ∧ r.cause = 0) ∧
  (∀ r t0, f.run = some r → r.replied = some t0 → r.first = none → a.r (Reg.hlFOLD_STATE h) = 1 →
    a.since t0 (8 * (a.pipe h).curInterval) = true → GivesDone (.foldClosingLimit dt h) s fun u => FoldFailed a u h 1) ∧
  (∀ r c, f.run = some r → (a.pipe h).cur = some c → a.r (Reg.hlFOLD_STATE h) = 5 → let k := a.foldCheck h r c
    (k.code ≠ 0 → GivesDone (.foldCheckDone dt h) s fun u => FoldFailed a u h k.code) ∧
    (k.code = 0 → GivesDone (.foldCheckDone dt h) s fun u => u.r (Reg.hlFOLD_STATE h) = 6 ∧ u.r (Reg.hlLAST_SIGMA h) = k.sigma ∧
      u.r (Reg.hlFOLD_KEPT h) = k.kept ∧ ∃ q, (u.fold h).run = some q ∧ q.passed = true ∧ q.newSub = k.sub)) ∧
  ((a.hr h).reopen = true → a.attached h = true → a.since (a.hr h).reopenAt 1000000000 = true →
    GivesDone (.shutterOpenRetry dt h) s fun u => (u.hr h).reopenAt = a.up ∧
      (a.follower = false → ∃ c ∈ (u.hd h).cmd.toList ++ (u.hd h).queue, c.code = 0x09 ∧ c.args = leBytes 1 0))

theorem foldRuns_iff : Obligations.FoldRuns ↔ ∀ dt h s, FoldRunsAt dt h s := Iff.rfl

/-- All of O28 holds where no statistics result that waits to be published names a register of the runs; none that the model forms does
(`foldKey_results`). -/
theorem foldRunsAt_of_statWait (dt : Nat) (h : Fin 32) (s : State)
    (hw : ∀ l ∈ (s.pipe h).statWait, ∀ e ∈ l, foldKey e.1 = false) : FoldRunsAt dt h s := by
  unfold FoldRunsAt
  dsimp only
  have exDrift : exec (.driftConfUpdate dt h) s = .next ((s.advance dt).driftUpdate h) := rfl
  have exTrigger : exec (.foldTrigger dt h) s = .next ((s.advance dt).foldEval h) := rfl
  have exClosing : exec (.foldClosingLimit dt h) s = .next ((s.advance dt).closingLimit h).done := rfl
  have exCheck : exec (.foldCheckDone dt h) s = .next ((s.advance dt).checkDone h).done := rfl
  have exReopen : exec (.shutterOpenRetry dt h) s = .next ((s.advance dt).reopenAgain h).done := rfl
  have hw' : ∀ l ∈ ((s.advance dt).pipe h).statWait, ∀ e ∈ l, foldKey e.1 = false := hw
  generalize s.advance dt = a at *
  refine ⟨fun ha ht => ⟨_, exDrift, ?_⟩, fun ht hr ha hf hp harm hd => ⟨_, exTrigger, ?_⟩,
    fun r t0 hr h0 hf hst ht => ⟨_, exClosing, closingLimit_failed a h h.isLt r t0 hr h0 hf hst ht⟩,
    fun r c hr hc hst => ⟨fun hk => ⟨_, exCheck, checkDone_failed h.isLt hr hc hst hk⟩,
      fun hk => ⟨_, exCheck, checkDone_passed h.isLt hr hc hst hk⟩⟩, fun hr ha ht => ⟨_, exReopen, ?_⟩⟩
  · rw [driftUpdate_due a h ha ht]
    refine ⟨(State.w_r _ _ _ _).trans (if_pos rfl), ?_, rfl, fun k hk => (State.w_r _ _ _ _).trans (if_neg fun he => hk ?_)⟩
    · rw [State.w_fold, State.wFold_fold, if_pos rfl]
    · exact List.mem_singleton.2 he
  · rw [foldEval_due a h ht hr ha hf hp harm hd]
    exact foldStart_spec _ h 0 h.isLt hw'
  · rw [reopenAgain_due a h hr ha ht]
    refine ⟨?_, fun hf => headCmd_asks _ h 0x09 _ hf⟩
    rw [State.shutter, (linkOnly_headCmd _ _ _ _).hr, State.wHr_hr, if_pos rfl]

/-! ## The state on which O28 fails -/

/-- Head 0 streams with an attach run due and a statistics window open, and a result that names FOLD_STATE waits to be published. The
type of `Pipe.statWait` admits such a result, though the model forms none (`foldKey_results`). -/
def strayResult : State :=
  { State.reset.w (Reg.hdATTACH_STATE 0) atSTREAMING with
    folds := [(0, { attachDue := true })]
    pipes := [(0, { stat := some ⟨0, 0, 0, 0, 0, 0, 0, 0, 0, 0, 0, 0, 0⟩, statWait := [[(Reg.hlFOLD_STATE 0, 9)]] })] }

/-- The window closes after FOLD_STATE has become 1, and publishes the waiting result with its own (R126, R169). -/
theorem strayResult_foldState : ((strayResult.advance 100000000).foldEval 0).r (Reg.hlFOLD_STATE 0) = 9 := by decide +kernel

end Sys2Proof.Machine

open Sys2Proof Sys2Proof.Machine

/-- Refutes O28 at `strayResult`: the clause on the triggers has no premise on the statistics results that wait to be published, and one
that names FOLD_STATE overwrites the 1 of the run that starts. With that premise all of O28 holds (`foldRunsAt_of_statWait`). -/
theorem not_foldRuns : ¬ Obligations.FoldRuns := by
  intro hruns
  obtain ⟨-, hTrigger, -⟩ := foldRuns_iff.1 hruns 100000000 0 strayResult
  obtain ⟨t, hexec, hstate, -⟩ := hTrigger (by decide) rfl (by decide) rfl (by decide) rfl rfl
  have hnext : (strayResult.advance 100000000).foldEval 0 = t := Host.Outcome.next.inj hexec
  rw [← hnext] at hstate
  exact absurd (strayResult_foldState.symm.trans hstate) (by decide)
end

section
/-! PROOFS. Encoders (O29, O30): what a count, an edge and the samplers make of one encoder (R186-R188). -/

namespace Sys2Proof.Machine

/-! ## The count over a millisecond (R188) -/

/-- A count is added to the net count in its direction. -/
theorem netCount_foldl (l : List (Nat × Bool)) (k : Int) :
    l.foldl (fun n c => if c.2 then n + 1 else n - 1) k = k + l.foldl (fun n c => if c.2 then n + 1 else n - 1) 0 := by
  induction l generalizing k with
  | nil => simp
  | cons c l ih =>
    obtain ⟨t, fwd⟩ := c
    rw [List.foldl_cons, List.foldl_cons]
    cases fwd
    · show l.foldl _ (k - 1) = k + l.foldl _ (0 - 1)
      rw [ih, ih (0 - 1)]
      omega
    · show l.foldl _ (k + 1) = k + l.foldl _ (0 + 1)
      rw [ih, ih (0 + 1)]
      omega

/-- The newest count, beside those of the last millisecond, moves the net count by one. -/
theorem netAt_count (x y : Enc) (up : Nat) (fwd : Bool)
    (hy : y.counts = (up, fwd) :: x.counts.filter fun c => decide (up < c.1 + 1000000)) :
    y.netAt up = x.netAt up + if fwd then 1 else -1 := by
  rw [Enc.netAt, hy, List.filter_cons_of_pos (by simp), List.filter_filter, List.foldl_cons, netCount_foldl]
  simp only [Bool.and_self, Enc.netAt]
  cases fwd <;> simp [add_comm]

/-! ## An edge (R186) -/

theorem w_enc (s : State) (k v j : Nat) : (s.w k v).enc j = s.enc j := rfl

theorem bump_enc (s : State) (k j : Nat) : (s.bump k).enc j = s.enc j := rfl

theorem encCount_encs (s : State) (e : Nat) (fwd : Bool) : s.encCount e fwd = { s with encs := (s.encCount e fwd).encs } := by
  unfold State.encCount
  dsimp only
  split
  · rfl
  · split <;> rfl

theorem encCount_enc_ne (s : State) (e j : Nat) (fwd : Bool) (hj : j ≠ e) : (s.encCount e fwd).enc j = s.enc j := by
  unfold State.encCount
  dsimp only
  split
  · simp [hj]
  · split <;> simp [hj]

/-- A count leaves the phases, the histories and the offset. -/
theorem encCount_keeps (s : State) (e : Nat) (fwd : Bool) : let y := (s.encCount e fwd).enc e; let x := s.enc e
    y.a = x.a ∧ y.b = x.b ∧ y.fine = x.fine ∧ y.coarse = x.coarse ∧ y.delta = x.delta := by
  unfold State.encCount
  dsimp only
  split
  · simp
  · split <;> simp

theorem encCount_forward (s : State) (e : Nat) : let y := (s.encCount e true).enc e; let x := s.enc e
    y.pos = x.pos + s.r (Reg.encENC_SCALE e) ∧ y.netAt s.up = x.netAt s.up + 1 ∧ y.fwd = true ∧
      y.te = some (s.now - s.r (Reg.encENC_FILTER e)) := by
  unfold State.encCount
  simp only [if_true, State.wEnc_enc, true_and, and_true]
  exact netAt_count _ _ _ true rfl

theorem encCount_backward (s : State) (e : Nat) (h : s.r (Reg.encENC_SCALE e) ≤ (s.enc e).pos) :
    let y := (s.encCount e false).enc e; let x := s.enc e
    y.pos + s.r (Reg.encENC_SCALE e) = x.pos ∧ y.netAt s.up = x.netAt s.up - 1 ∧ y.fwd = false ∧
      y.te = some (s.now - s.r (Reg.encENC_FILTER e)) := by
  unfold State.encCount
  simp only [Bool.false_eq_true, if_false, if_neg (Nat.not_lt.2 h), State.wEnc_enc, if_true, and_true]
  exact ⟨Nat.sub_add_cancel h, netAt_count _ _ _ false rfl⟩

/-- A backward count that would take the position below 0 is dropped. -/
theorem encCount_dropped (s : State) (e : Nat) (h : (s.enc e).pos < s.r (Reg.encENC_SCALE e)) : s.encCount e false = s := by
  simp [State.encCount, h]

/-- The encoder has taken the new phase levels. -/
def State.phased (s : State) (e : Nat) (p q : Bool) : State := s.wEnc e { s.enc e with a := p, b := q }

theorem phased_enc (s : State) (e : Nat) (p q : Bool) : (s.phased e p q).enc e = { s.enc e with a := p, b := q } :=
  (State.wEnc_enc _ _ _ _).trans (if_pos rfl)

section
variable {s : State} {e : Nat} {p q : Bool}

theorem encEdge_same (h : phaseStep (s.enc e).a (s.enc e).b p q = 0) : s.encEdge e p q = s.phased e p q := by
  simp [State.encEdge, h, State.phased]

theorem encEdge_both (h : phaseStep (s.enc e).a (s.enc e).b p q = 2) : s.encEdge e p q =
    ((s.phased e p q).wEnc e { (s.phased e p q).enc e with errAt := some s.up }).bump (Reg.encENC_ERR e) := by
  simp [State.encEdge, h, State.phased]

/-- A step of one phase is a count, forward along the sequence unless ENC_INVERT exchanges the two. -/
theorem encEdge_one (h : phaseStep (s.enc e).a (s.enc e).b p q = 1 ∨ phaseStep (s.enc e).a (s.enc e).b p q = 3) : s.encEdge e p q =
    (s.phased e p q).encCount e
      (decide (phaseStep (s.enc e).a (s.enc e).b p q = 1 ↔ s.r (Reg.encENC_INVERT e) ≠ 1)) := by
  rcases h with h | h <;> by_cases hi : s.r (Reg.encENC_INVERT e) = 1 <;> simp [State.encEdge, h, hi, State.phased]

end

theorem phaseStep_cases (a b p q : Bool) : phaseStep a b p q = 0 ∨ phaseStep a b p q = 2 ∨ phaseStep a b p q = 1 ∨ phaseStep a b p q = 3 := by
  revert a b p q
  decide

/-- An edge changes its encoder and, where both phases step, ENC_ERR; of the encoder it leaves the histories and the offset. -/
theorem encEdge_frame (s : State) (e : Nat) (p q : Bool) : let t := s.encEdge e p q; let y := t.enc e; let x := s.enc e
    t = { s with encs := t.encs, regs := t.regs } ∧ SameRegsBut s t [Reg.encENC_ERR e] ∧ (∀ j, j ≠ e → t.enc j = s.enc j) ∧
      y.a = p ∧ y.b = q ∧ y.fine = x.fine ∧ y.coarse = x.coarse ∧ y.delta = x.delta := by
  rcases phaseStep_cases (s.enc e).a (s.enc e).b p q with h | h | h
  · rw [encEdge_same h]
    refine ⟨rfl, fun _ _ => rfl, fun j hj => ?_, ?_⟩
    · simp [State.phased, hj]
    · simp [phased_enc]
  · rw [encEdge_both h]
    refine ⟨rfl, fun k hk => ?_, fun j hj => ?_, ?_⟩
    · rw [State.bump_r, if_neg (by simpa using hk)]
      rfl
    · simp [bump_enc, State.phased, hj]
    · simp [bump_enc, phased_enc]
  · obtain ⟨fwd, hf⟩ : ∃ fwd, s.encEdge e p q = (s.phased e p q).encCount e fwd := ⟨_, encEdge_one h⟩
    rw [hf]
    have hc := encCount_encs (s.phased e p q) e fwd
    refine ⟨by rw [hc]; rfl, fun k hk => ?_, fun j hj => ?_, ?_⟩
    · rw [State.r, hc]; rfl
    · rw [encCount_enc_ne _ _ _ _ hj]
      simp [State.phased, hj]
    · have := encCount_keeps (s.phased e p q) e fwd
      rwa [phased_enc] at this

/-! ## The samplers (R187, R188) -/

section
variable {β : Type} (view : State → Nat → β) (f : Nat → State → State) (g : Nat → β → β)

/-- A loop over units leaves what it does not reach. -/
theorem each_view_ne (hother : ∀ e j t, j ≠ e → view (f e t) j = view t j) (l : List Nat) (s : State) (e : Nat) (he : e ∉ l) :
    view (s.each l f) e = view s e := by
  unfold State.each
  induction l generalizing s with
  | nil => rfl
  | cons a l ih =>
    obtain ⟨hea, hel⟩ := List.ne_and_not_mem_of_not_mem_cons he
    rw [List.foldl_cons, ih _ hel, hother _ _ _ hea]

/-- A loop whose step for one unit reads and writes that unit alone makes of each what its own step makes of it. -/
theorem each_view (hother : ∀ e j t, j ≠ e → view (f e t) j = view t j) (hown : ∀ e t, view (f e t) e = g e (view t e)) (l : List Nat)
    (hl : l.Nodup) (s : State) (e : Nat) (he : e ∈ l) : view (s.each l f) e = g e (view s e) := by
  induction l generalizing s with
  | nil => cases he
  | cons a l ih =>
    obtain ⟨hal, hl⟩ := List.nodup_cons.1 hl
    show view ((f a s).each l f) e = _
    by_cases hea : e = a
    · subst hea
      rw [each_view_ne view f hother l _ e hal, hown]
    · rw [ih hl _ ((List.mem_cons.1 he).resolve_left hea), hother _ _ _ hea]

end

/-- A sampler of encoders: at each it writes that encoder or nothing. -/
def Sampler (f : Nat → State → State) : Prop := ∀ e t, f e t = t ∨ ∃ x, f e t = t.wEnc e x

theorem Sampler.encs {f : Nat → State → State} (hf : Sampler f) (l : List Nat) (s : State) :
    s.each l f = { s with encs := (s.each l f).encs } := by
  unfold State.each
  induction l generalizing s with
  | nil => rfl
  | cons a l ih =>
    have ha : f a s = { s with encs := (f a s).encs } := by
      rcases hf a s with h | ⟨x, h⟩ <;> rw [h]
      rfl
    rw [List.foldl_cons, ih, ha]

/-- An encoder, the ring time and the own time: what a sampler reads. -/
def State.encView (s : State) (e : Nat) : Enc × Nat × Nat := (s.enc e, s.now, s.up)

theorem Sampler.encView_ne {f : Nat → State → State} (hf : Sampler f) (e j : Nat) (t : State) (hj : j ≠ e) :
    (f e t).encView j = t.encView j := by
  rcases hf e t with h | ⟨x, h⟩ <;> rw [h]
  rw [State.encView, State.wEnc_enc, if_neg hj]
  rfl

/-- The latch of one encoder. -/
def Enc.latch (x : Enc) (now up : Nat) : Enc := { x with fine := (⟨now, x.pos, x.te, x.fwd⟩ :: x.fine).take 1024, latchAt := up }

/-- ENC_LATCH at one encoder. -/
def State.latchOne (e : Nat) (t : State) : State :=
  if t.since (t.enc e).latchAt 1000 then t.wEnc e ((t.enc e).latch t.now t.up) else t

theorem encLatch_eq (s : State) : s.encLatch = s.each (List.range 4) State.latchOne := rfl

theorem sampler_latchOne : Sampler State.latchOne := fun e t => by
  unfold State.latchOne
  split
  · exact .inr ⟨_, rfl⟩
  · exact .inl rfl

/-- Each encoder is latched by itself (R187). -/
theorem encLatch_enc (s : State) (e : Nat) (he : e < 4) : s.encLatch.enc e =
    if s.since (s.enc e).latchAt 1000 then (s.enc e).latch s.now s.up else s.enc e := by
  refine congrArg Prod.fst (each_view State.encView State.latchOne
    (fun _ v => (if decide (v.1.latchAt + 1000 ≤ v.2.2) then v.1.latch v.2.1 v.2.2 else v.1, v.2)) sampler_latchOne.encView_ne
    (fun e t => ?_) _ List.nodup_range s e (List.mem_range.2 he))
  unfold State.latchOne
  split <;> rename_i h <;> simp only [State.since, decide_eq_true_eq] at h <;> simp [State.encView, h]
  exact ⟨rfl, rfl⟩

/-- The copy of the newest latch of one encoder, where it has one. -/
def Enc.copyNewest (x : Enc) (up : Nat) : Enc := match x.fine with
  | l :: _ => { x with coarse := (l :: x.coarse).take 1024, coarseAt := up }
  | [] => x

/-- ENC_COARSE_COPY at one encoder. -/
def State.coarseOne (e : Nat) (t : State) : State :=
  if t.since (t.enc e).coarseAt 100000 then
    match (t.enc e).fine with
    | l :: _ => t.wEnc e { t.enc e with coarse := (l :: (t.enc e).coarse).take 1024, coarseAt := t.up }
    | [] => t
  else t

theorem encCoarse_eq (s : State) : s.encCoarse = s.each (List.range 4) State.coarseOne := rfl

theorem sampler_coarseOne : Sampler State.coarseOne := fun e t => by
  unfold State.coarseOne
  split
  · split
    · exact .inr ⟨_, rfl⟩
    · exact .inl rfl
  · exact .inl rfl

/-- Each encoder's newest latch is copied by itself (R187). -/
theorem encCoarse_enc (s : State) (e : Nat) (he : e < 4) : s.encCoarse.enc e =
    if s.since (s.enc e).coarseAt 100000 then (s.enc e).copyNewest s.up else s.enc e := by
  refine congrArg Prod.fst (each_view State.encView State.coarseOne
    (fun _ v => (if decide (v.1.coarseAt + 100000 ≤ v.2.2) then v.1.copyNewest v.2.2 else v.1, v.2)) sampler_coarseOne.encView_ne
    (fun e t => ?_) _ List.nodup_range s e (List.mem_range.2 he))
  unfold State.coarseOne Enc.copyNewest
  split <;> rename_i h <;> simp only [State.since, decide_eq_true_eq] at h
  · split <;> rename_i hf <;> simp [State.encView, h, hf]
    exact ⟨rfl, rfl⟩
  · simp [State.encView, h]

/-! ## SPEED (R188) -/

/-- A signed register that has taken a value of its range reads as that value. -/
theorem sgn_sat2 (q : Int) (hlo : -2147483648 ≤ q) (hhi : q ≤ 2147483647) : sgn 32 (sat2 32 q) = q := by
  have hclamp : clampI (-(2 ^ (32 - 1) : Nat)) ((2 ^ (32 - 1) : Nat) - 1) q = q := by
    unfold clampI
    rw [if_neg (by norm_num; omega), if_neg (by norm_num; omega)]
  rw [sat2, hclamp, enc2, sgn]
  split <;> omega

/-- An integer is its own nearest. -/
theorem roundHA_int (q : Int) : roundHA (q : Rat) = q := by
  have hfloor (z : Int) : ((z : Rat) + 1 / 2).floor = z := by
    have hge : z ≤ ((z : Rat) + 1 / 2).floor := Rat.le_floor_iff.2 (by linarith)
    have hlt : ¬ z + 1 ≤ ((z : Rat) + 1 / 2).floor := fun h => by
      have := Rat.le_floor_iff.1 h
      push_cast at this
      linarith
    omega
  unfold roundHA
  split
  · rw [← Rat.intCast_neg, hfloor, neg_neg]
  · exact hfloor q

/-- The net count times ENC_SCALE over 1,000, where it is a whole number. -/
theorem speed_exact (n : Int) (sc : Nat) (q : Int) (h : n * sc = 1000 * q) : roundHA ((n : Rat) * mkRat sc 1000) = q := by
  have hq : (n : Rat) * mkRat sc 1000 = q := by
    rw [Rat.mkRat_eq_div]
    have : (n : Rat) * sc = 1000 * q := by exact_mod_cast h
    push_cast
    linarith
  rw [hq, roundHA_int]

/-- An encoder, its registers that SPEED reads and writes, and the own time. -/
def State.speedView (s : State) (e : Nat) : (Enc × Nat) × Nat × Nat × Nat :=
  ((s.enc e, s.up), s.r (Reg.encENC_SCALE e), s.r (Reg.encSPEED e), s.r (Reg.encREVERSE e))

/-- What SPEED makes of them. -/
def speedOf (v : (Enc × Nat) × Nat × Nat × Nat) : (Enc × Nat) × Nat × Nat × Nat :=
  if decide (v.1.1.speedAt + 1000000 ≤ v.1.2) then
    (({ v.1.1 with speedAt := v.1.2 }, v.1.2), v.2.1, sat2 32 (roundHA ((v.1.1.netAt v.1.2 : Rat) * mkRat v.2.1 1000)),
      if v.1.1.netAt v.1.2 < 0 then min 0xFFFFFFFF (v.2.2.2 + 1) else v.2.2.2)
  else v

/-- SPEED at one encoder. -/
def State.speedOne (e : Nat) (t : State) : State :=
  if t.since (t.enc e).speedAt 1000000 then
    ((t.wEnc e { t.enc e with speedAt := t.up }).wi 32 (Reg.encSPEED e)
      (roundHA (((t.enc e).netAt t.up : Rat) * (mkRat (t.r (Reg.encENC_SCALE e)) 1000)))).when
      (decide ((t.enc e).netAt t.up < 0)) fun u => u.bump (Reg.encREVERSE e)
  else t

theorem encSpeed_eq (s : State) : s.encSpeed = s.each (List.range 4) State.speedOne := rfl

theorem speedOne_view_ne (e j : Nat) (t : State) (hj : j ≠ e) : (State.speedOne e t).speedView j = t.speedView j := by
  have hkeys : Reg.encENC_SCALE j ≠ Reg.encSPEED e ∧ Reg.encENC_SCALE j ≠ Reg.encREVERSE e ∧ Reg.encSPEED j ≠ Reg.encSPEED e ∧
      Reg.encSPEED j ≠ Reg.encREVERSE e ∧ Reg.encREVERSE j ≠ Reg.encSPEED e ∧ Reg.encREVERSE j ≠ Reg.encREVERSE e := by
    simp only [Reg.encENC_SCALE, Reg.encSPEED, Reg.encREVERSE]
    omega
  unfold State.speedOne State.when
  split
  · split <;> simp [State.speedView, State.bump_r, hkeys, hj, State.wi, bump_enc, w_enc] <;> rfl
  · rfl

theorem speedOne_view (e : Nat) (t : State) : (State.speedOne e t).speedView e = speedOf (t.speedView e) := by
  have hkeys : Reg.encENC_SCALE e ≠ Reg.encSPEED e ∧ Reg.encENC_SCALE e ≠ Reg.encREVERSE e ∧ Reg.encSPEED e ≠ Reg.encREVERSE e ∧
      Reg.encREVERSE e ≠ Reg.encSPEED e := by
    simp only [Reg.encENC_SCALE, Reg.encSPEED, Reg.encREVERSE]
    omega
  unfold State.speedOne State.when speedOf
  split
  · next h =>
    simp only [State.since, decide_eq_true_eq] at h
    split <;> rename_i hn <;> simp only [decide_eq_true_eq] at hn <;>
      simp [State.speedView, State.bump_r, hkeys, State.wi, bump_enc, w_enc, h, hn] <;> rfl
  · next h =>
    simp only [State.since, decide_eq_true_eq] at h
    simp [State.speedView, h]

/-- SPEED takes each encoder by itself (R188). -/
theorem encSpeed_view (s : State) (e : Nat) (he : e < 4) : s.encSpeed.speedView e = speedOf (s.speedView e) :=
  each_view State.speedView State.speedOne (fun _ => speedOf) speedOne_view_ne speedOne_view _ List.nodup_range s e (List.mem_range.2 he)

/-- SPEED of one encoder, 1 ms after its last. -/
theorem encSpeed_due (s : State) (e : Nat) (he : e < 4) (h : s.since (s.enc e).speedAt 1000000 = true) : let n := (s.enc e).netAt s.up
    s.encSpeed.enc e = { s.enc e with speedAt := s.up } ∧
      s.encSpeed.r (Reg.encSPEED e) = sat2 32 (roundHA ((n : Rat) * mkRat (s.r (Reg.encENC_SCALE e)) 1000)) ∧
      s.encSpeed.r (Reg.encREVERSE e) = if n < 0 then min 0xFFFFFFFF (s.r (Reg.encREVERSE e) + 1) else s.r (Reg.encREVERSE e) := by
  have hv := (encSpeed_view s e he).trans (if_pos h)
  simp only [State.speedView, Prod.mk.injEq] at hv
  obtain ⟨⟨henc, -⟩, -, hspeed, hrev⟩ := hv
  exact ⟨henc, hspeed, hrev⟩

/-- A SPEED that comes earlier. -/
theorem encSpeed_early (s : State) (e : Nat) (he : e < 4) (h : s.since (s.enc e).speedAt 1000000 = false) :
    s.encSpeed.enc e = s.enc e ∧ s.encSpeed.r (Reg.encSPEED e) = s.r (Reg.encSPEED e) ∧
      s.encSpeed.r (Reg.encREVERSE e) = s.r (Reg.encREVERSE e) := by
  have hv := (encSpeed_view s e he).trans (if_neg (show ¬ s.since (s.enc e).speedAt 1000000 = true by simp [h]))
  simp only [State.speedView, Prod.mk.injEq] at hv
  obtain ⟨⟨henc, -⟩, -, hspeed, hrev⟩ := hv
  exact ⟨henc, hspeed, hrev⟩

end Sys2Proof.Machine

open Sys2Proof Sys2Proof.Machine

/-- Settles O29: an edge by what its count does to its encoder, the two samplers by what they do to each encoder by itself. -/
theorem encoders : Obligations.Encoders := by
  intro dt e s
  dsimp only
  have exEdge (p q) : exec (.encEdge dt e p q) s = .next ((s.advance dt).encEdge e p q) := rfl
  have exLatch : exec (.encLatch dt) s = .next (s.advance dt).encLatch := rfl
  have exCoarse : exec (.encCoarseCopy dt) s = .next (s.advance dt).encCoarse := rfl
  generalize s.advance dt = a at exEdge exLatch exCoarse ⊢
  refine ⟨fun p q => ⟨_, exEdge p q, ?_⟩, ⟨_, exLatch, sampler_latchOne.encs _ a, encLatch_enc a e e.isLt⟩,
    ⟨_, exCoarse, sampler_coarseOne.encs _ a, fun l r hf => ?_⟩⟩
  · obtain ⟨hstate, hregs, hother, ha, hb, hfine, hcoarse, hdelta⟩ := encEdge_frame a e p q
    refine ⟨hstate, hregs, hother, ha, hb, hfine, hcoarse, hdelta, fun hd => ?_, fun hd => ?_, fun hd => ?_⟩
    · rw [encEdge_same hd, phased_enc]
      exact ⟨rfl, rfl, rfl⟩
    · rw [encEdge_both hd, State.bump_r, if_pos rfl]
      simp [bump_enc, State.phased]
    · have hone := encEdge_one hd
      refine ⟨by rw [hone, encCount_encs]; rfl, fun hf => ?_, fun hf => ?_⟩
      · rw [hone, decide_eq_true hf]
        have hcount := encCount_forward (a.phased e p q) e
        rwa [phased_enc] at hcount
      · rw [hone, decide_eq_false hf]
        split
        · next hlow =>
          rw [encCount_dropped _ _ (by rw [phased_enc]; exact hlow), phased_enc]
          exact ⟨rfl, rfl⟩
        · next hlow =>
          have hcount := encCount_backward (a.phased e p q) e (by rw [phased_enc]; exact Nat.not_lt.1 hlow)
          rwa [phased_enc] at hcount
  · rw [encCoarse_enc a e e.isLt, Enc.copyNewest, hf]

/-- Settles O30: SPEED takes each encoder by itself, and a quotient that is whole is its own rounding. -/
theorem encoderSpeed : Obligations.EncoderSpeed := by
  intro dt e s
  dsimp only
  have exSpeed : exec (.speed dt) s = .next (s.advance dt).encSpeed := rfl
  generalize s.advance dt = a at exSpeed ⊢
  have hdefault : State.reset.r (Reg.encENC_SCALE e) = 15625000 := by
    revert e
    decide
  refine ⟨hdefault, fun hdue => ⟨_, exSpeed, ?_⟩, fun hearly => ⟨_, exSpeed, encSpeed_early a e e.isLt hearly⟩⟩
  obtain ⟨henc, hspeed, hrev⟩ := encSpeed_due a e e.isLt hdue
  refine ⟨henc, fun q hq hlo hhi => ?_, fun hn hsc => ?_, hrev⟩
  · rw [State.ri, hspeed, speed_exact _ _ q hq, sgn_sat2 q hlo hhi]
  · rw [hspeed, speed_exact _ _ 6000000 (by rw [hn, hsc]; norm_num)]
    decide

end

section
/-! PROOFS. Writes of one object (O32): which registers a written value reaches, and what the checks, the admission and the partner make
of the write (R317, R325, R455, R461, R620). -/

namespace Sys2Proof.Machine

/-! ## The registers of a set of keys -/

/-- The registers that a predicate picks, others as 0. -/
def State.on (s : State) (p : Nat → Bool) : Nat → Nat := fun k => if p k then s.r k else 0

section
variable {p : Nat → Bool}

theorem on_r {s t : State} (h : t.on p = s.on p) (k : Nat) (hk : p k = true) : t.r k = s.r k := by
  have hfun := congrFun h k
  simpa [State.on, hk] using hfun

theorem on_of_r {s t : State} (h : ∀ k, p k = true → t.r k = s.r k) : t.on p = s.on p := by
  funext k
  unfold State.on
  split
  · next hk => exact h k hk
  · rfl

theorem on_of_book {s t : State} (hp : ∀ k, p k = true → bookKey k = false) (h : t.book = s.book) : t.on p = s.on p :=
  on_of_r fun k hk => book_r h k (hp k hk)

theorem on_w (s : State) (k v : Nat) (h : p k = false) : (s.w k v).on p = s.on p :=
  on_of_r fun j hj => (State.w_r _ _ _ _).trans (if_neg fun he => by rw [he, h] at hj; cases hj)

theorem on_wAll (s : State) (l : List (Nat × Nat)) (h : ∀ e ∈ l, p e.1 = false) : (s.wAll l).on p = s.on p :=
  on_of_r fun j hj => State.wAll_r_ne _ _ _ fun e he hej => by rw [← hej, h e he] at hj; cases hj

theorem on_when (s : State) (c : Bool) (f : State → State) (h : (f s).on p = s.on p) : (s.when c f).on p = s.on p := by
  unfold State.when
  split
  · exact h
  · rfl

theorem on_each {α : Type} (s : State) (l : List α) (f : α → State → State) (h : ∀ a ∈ l, ∀ t, (f a t).on p = t.on p) :
    (s.each l f).on p = s.on p := by
  unfold State.each
  induction l generalizing s with
  | nil => rfl
  | cons a l ih => exact (ih _ fun b hb => h b (List.mem_cons_of_mem a hb)).trans (h a List.mem_cons_self s)

end

/-! ## What a write leaves alone -/

/-- The objects written by one command each, and those of debug: RUN, HEAD, COV_ENABLE, ZONE_RUN, the intents, the streams' own six,
POWER_LIMIT, MAP_ENABLE and all from 0x600000 on. -/
def plainKey (k : Nat) : Bool := decide (k = 0x200006 ∨ (0x111000 ≤ k ∧ k < 0x111800) ∨ (0x211000 ≤ k ∧ k < 0x213800) ∨
  (0x214000 ≤ k ∧ k < 0x218000 ∧ k % 256 ≤ 6) ∨ (0x340000 ≤ k ∧ k < 0x500000 ∧ k % 256 = 1) ∨ 0x600000 ≤ k)

theorem plainKey_false {k : Nat} (h : k ≠ 0x200006 ∧ ¬ (0x111000 ≤ k ∧ k < 0x111800) ∧ ¬ (0x211000 ≤ k ∧ k < 0x213800) ∧
    ¬ (0x214000 ≤ k ∧ k < 0x218000 ∧ k % 256 ≤ 6) ∧ ¬ (0x340000 ≤ k ∧ k < 0x500000 ∧ k % 256 = 1) ∧ k < 0x600000) :
    plainKey k = false :=
  decide_eq_false (by omega)

theorem plain_event (s : State) (code inst data : Nat) : (s.event code inst data).on plainKey = s.on plainKey := by
  have hseq : plainKey Reg.evEVENT_SEQ = false := by decide
  unfold State.event
  extract_lets k hd held merged seq
  by_cases hh : held = true
  · rw [if_pos hh]
    rfl
  · rw [if_neg hh]
    split <;> exact on_w _ _ _ hseq

theorem plain_nvmRecord (s : State) (id cls : Nat) (data : Bytes) (fin : NvmDone) :
    (s.nvmRecord id cls data fin).on plainKey = s.on plainKey := by
  have hbusy : plainKey Reg.nvmBANK_BUSY = false := by decide
  have hqueued : plainKey Reg.nvmWRITES_QUEUED = false := by decide
  exact (on_w _ _ _ hqueued).trans (on_w _ _ _ hbusy)

theorem plain_hwmStore (s : State) (v : Nat) : (s.hwmStore v).on plainKey = s.on plainKey := plain_nvmRecord s _ _ _ _

theorem plain_tlyNumber (s : State) (e : TEntry) : (s.tlyNumber e).on plainKey = s.on plainKey := by
  have hnext : plainKey Reg.tlyNEXT_SEQ = false := by decide
  have hold : plainKey Reg.tlyOLDEST_SEQ = false := by decide
  unfold State.tlyNumber
  dsimp only
  split
  · rw [plain_hwmStore, on_when _ _ _ (on_w _ _ _ hold), on_w _ _ _ hnext]
    rfl
  · rw [on_when _ _ _ (on_w _ _ _ hold), on_w _ _ _ hnext]
    rfl

theorem plain_tlyAdd (s : State) (src kind key result token value : Nat) :
    (s.tlyAdd src kind key result token value).on plainKey = s.on plainKey := by
  have hover : plainKey Reg.tlyOVERRUN = false := by decide
  unfold State.tlyAdd State.tlyPut
  dsimp only
  split
  · exact plain_tlyNumber _ _
  · split
    · split
      · exact plain_hwmStore _ _
      · rfl
    · exact on_w _ _ _ hover

theorem regs_toPartner (s : State) (m : PMsg) : (s.toPartner m).regs = s.regs := by
  unfold State.toPartner State.partnerSend
  split
  · split <;> rfl
  · rfl

theorem regs_forward (s : State) (src key token : Nat) (data : Bytes) : (s.forward src key token data).regs = s.regs := by
  unfold State.forward
  split
  · exact regs_toPartner _ _
  · rfl

theorem on_of_regs {p : Nat → Bool} {s t : State} (h : t.regs = s.regs) : t.on p = s.on p :=
  on_of_r fun k _ => by rw [State.r, h]; rfl

theorem regs_toADie (s : State) (key : Nat) : (s.toADie key).regs = s.regs := by
  unfold State.toADie State.when State.d2dTraffic
  split
  · split <;> rfl
  · rfl

theorem plain_wrote (s : State) (src kind key len v : Nat) : (s.wrote src kind key len v).on plainKey = s.on plainKey := by
  unfold State.wrote
  rw [on_when _ _ _ (plain_nvmRecord _ _ _ _ _), on_of_regs (regs_forward _ _ _ _ _), plain_tlyAdd, on_of_regs (regs_toADie _ _)]

/-! ## What a placement leaves alone -/

theorem regs_sendLull (s : State) (l : Nat) : (s.sendLull l).regs = s.regs := by
  unfold State.sendLull
  generalize List.range 8 = n
  induction n generalizing s with
  | nil => rfl
  | cons a n ih => exact ih _

theorem on_xLull {p : Nat → Bool} (s : State) : s.xLull.on p = s.on p :=
  on_each _ _ _ fun x _ t => on_when (t.wLane (32 + x) _) _ _ (on_of_regs (regs_sendLull _ _))

theorem plain_segmentMove (s : State) (h loc : Nat) (hh : h < 32) : (s.segmentMove h loc).on plainKey = s.on plainKey := by
  have hk : plainKey (Reg.pcSEG_LOCATION h) = false := plainKey_false (by unfold Reg.pcSEG_LOCATION; omega)
  unfold State.segmentMove
  dsimp only
  split
  · split <;> rfl
  · rw [on_w _ _ _ hk]
    split <;> rfl

theorem plain_groupPublish (s : State) (pl : Placing) : (s.groupPublish pl).on plainKey = s.on plainKey := by
  refine on_each _ _ _ fun g hg t => on_wAll _ _ ?_
  have hg := List.mem_range.1 hg
  simp only [List.forall_mem_cons, List.not_mem_nil, false_imp_iff, implies_true, and_true]
  refine ⟨?_, ?_, ?_⟩ <;> refine plainKey_false ?_ <;> simp only [Reg.grpLANES_UP, Reg.grpGROUP_CAP, Reg.grpGROUP_LOAD] <;> omega

/-- STREAM_STATE, PLACED_GROUP, PLACED_FORMAT and LOAD of a stream. -/
theorem plainKey_placed {x : Nat} (hx : x < 64) :
    plainKey (Reg.strmSTREAM_STATE x) = false ∧ plainKey (Reg.strmPLACED_GROUP x) = false ∧
    plainKey (Reg.strmPLACED_FORMAT x) = false ∧ plainKey (Reg.strmLOAD x) = false := by
  refine ⟨?_, ?_, ?_, ?_⟩ <;> refine plainKey_false ?_ <;>
    simp only [Reg.strmSTREAM_STATE, Reg.strmPLACED_GROUP, Reg.strmPLACED_FORMAT, Reg.strmLOAD] <;> omega

theorem plain_publish (s : State) (cause : Nat) (pl : Placing) (fmt : Nat → Nat) :
    (s.publish cause pl fmt).on plainKey = s.on plainKey := by
  have hseq : plainKey Reg.shpMAP_SEQ = false := by decide
  have hcause : plainKey Reg.shpLAST_CAUSE = false := by decide
  have hloads (a b c d e : Nat) (t : State) : (t.wAll [(Reg.shpPOOL_SLOTS, a), (Reg.shpB_REQ, b), (Reg.shpC_REQ, c), (Reg.shpP_EST, d),
      (Reg.shpDRAM_LOAD, e)]).on plainKey = t.on plainKey := on_wAll _ _ (by simp +decide)
  have hused (a b c : Nat) (t : State) : (t.wAll [(Reg.rgnUSED 0, a), (Reg.rgnUSED 1, b), (Reg.rgnUSED 2, c)]).on plainKey =
      t.on plainKey := on_wAll _ _ (by simp +decide)
  unfold State.publish
  extract_lets q hist shep s1 s2 s3 s5 b s6 s7 body s8 shep8 s9
  have h1 : s1.on plainKey = s.on plainKey := rfl
  have h2 : s2.on plainKey = s1.on plainKey := on_each _ _ _ fun h hh t => plain_segmentMove _ _ _ (List.mem_range.1 hh)
  have h3 : s3.on plainKey = s2.on plainKey := by
    refine on_each _ _ _ fun x hx t => ?_
    obtain ⟨hstate, hgroup, hformat, hload⟩ := plainKey_placed (List.mem_range.1 hx)
    split
    · exact on_wAll _ _ (by simp [hstate, hgroup, hformat, hload])
    · split <;> exact on_wAll _ _ (by simp [hstate, hgroup, hformat, hload])
  have h7 : s7.on plainKey = s.on plainKey :=
    (hused _ _ _ _).trans <| (hloads _ _ _ _ _ _).trans <| (plain_groupPublish _ _).trans <| h3.trans (h2.trans h1)
  have h8 : s8.on plainKey = s7.on plainKey := (on_w _ Reg.shpLAST_CAUSE cause hcause).trans (on_w s7 _ _ hseq)
  refine (on_xLull _).trans ?_
  unfold s9
  split
  · exact h7
  · clear_value shep8 s8
    exact Eq.trans (on_of_regs (s := s8) rfl) (h8.trans h7)

theorem plain_admitNow (s : State) : s.admitNow.on plainKey = s.on plainKey := by
  have hcheck : plainKey Reg.shpCHECK_RESULT = false := by decide
  exact (plain_publish _ _ _ _).trans (on_w _ _ _ hcheck)

/-! ## What a written value does -/

theorem plain_bankLoad (s : State) (b : Nat) (hb : b < 24) : (s.bankLoad b).on plainKey = s.on plainKey := by
  have hk : plainKey (Reg.bstLOAD_PCT b) = false := plainKey_false (by unfold Reg.bstLOAD_PCT; omega)
  exact (on_when _ _ _ (plain_event _ _ _ _)).trans (on_w _ _ _ hk)

theorem plain_zoneLoad (s : State) (c : Nat) : (s.zoneLoad c).on plainKey = s.on plainKey := by
  unfold State.zoneLoad
  split
  · exact plain_bankLoad _ _ (by omega)
  · rfl

theorem plain_stationEnters (s : State) (st : Nat) : (s.stationEnters st).on plainKey = s.on plainKey := by
  refine on_each _ _ _ fun z hz t => ?_
  have hz := List.mem_range.1 (List.mem_filter.1 hz).1
  have hk : plainKey (Reg.zsDELAY_DIST z) = false := plainKey_false (by unfold Reg.zsDELAY_DIST; omega)
  unfold State.zoneConfig
  dsimp only
  split <;> exact on_w _ _ _ hk

theorem plain_runSet (s : State) (st old v : Nat) : (s.runSet st old v).on plainKey = s.on plainKey := by
  have hshed : plainKey Reg.shpSHED_STATIONS = false := by decide
  unfold State.runSet
  split
  · split
    · exact plain_stationEnters _ _
    · rfl
  · split
    · exact on_w _ _ _ hshed
    · rfl

theorem plain_stSpan (s : State) (st : Nat) (hst : st < 8) : (s.stSpan st).on plainKey = s.on plainKey := by
  have hmin : plainKey (Reg.sstA_MIN st) = false := plainKey_false (by unfold Reg.sstA_MIN; omega)
  have hmax : plainKey (Reg.sstA_MAX st) = false := plainKey_false (by unfold Reg.sstA_MAX; omega)
  unfold State.stSpan
  dsimp only
  split <;> exact (on_w _ _ _ hmax).trans (on_w _ _ _ hmin)

theorem plain_headSet (s : State) (k old v : Nat) (hk : k < 64) : (s.headSet k old v).on plainKey = s.on plainKey := by
  have hcrc : plainKey (Reg.slotMAP_CRC k) = false := plainKey_false (by unfold Reg.slotMAP_CRC; omega)
  unfold State.headSet
  split
  · rfl
  · exact (plain_stSpan _ _ (by omega)).trans (on_w _ _ _ hcrc)

theorem plain_covStart (s : State) : s.covStart.on plainKey = s.on plainKey := by
  refine on_each _ _ _ fun e he t => on_w _ _ _ (plainKey_false ?_)
  have he := List.mem_range.1 he
  unfold Reg.encSYNC_OFFSET
  omega

theorem key_of_instOf {base stride count sub key i : Nat} (hs : 0 < stride) (h : instOf base stride count sub key = some i) :
    i < count ∧ key = 256 * (base + stride * i) + sub := by
  unfold instOf at h
  dsimp only at h
  split at h
  · next hc =>
    obtain ⟨hsub, hlo, hhi, hmod⟩ := hc
    obtain rfl := Option.some.inj h
    have hdiv := Nat.div_add_mod (key / 256 - base) stride
    refine ⟨(Nat.div_lt_iff_lt_mul hs).2 ?_, ?_⟩
    · rw [Nat.mul_comm]; omega
    · rw [hmod] at hdiv; omega
  · cases h

theorem plain_hookFor (s : State) (l : List (Hook State)) (key : Nat)
    (h : ∀ k ∈ l, ∀ i, instOf k.base k.stride k.count k.sub key = some i → (k.run i).on plainKey = s.on plainKey) :
    ((hookFor l key).getD s).on plainKey = s.on plainKey := by
  unfold hookFor
  cases hf : l.findSome? fun k => (instOf k.base k.stride k.count k.sub key).map k.run with
  | none => rfl
  | some t =>
    obtain ⟨k, hk, hrun⟩ := List.exists_of_findSome?_eq_some hf
    obtain ⟨i, hi, rfl⟩ := Option.map_eq_some_iff.1 hrun
    exact h k hk i hi

/-- What takes effect with the value leaves the other objects of single commands as they are. -/
theorem plain_applied (s : State) (key old v : Nat) (hp : plainKey key = true) : (s.applied key old v).on plainKey = s.on plainKey := by
  have other {base stride count sub i : Nat} {t : State} (hs : 0 < stride)
      (hn : ∀ i, i < count → plainKey (256 * (base + stride * i) + sub) = false)
      (h : instOf base stride count sub key = some i) : t.on plainKey = s.on plainKey := by
    obtain ⟨hi, rfl⟩ := key_of_instOf hs h
    rw [hn i hi] at hp
    cases hp
  have head {base j i : Nat} (hj : j < 8) (h : instOf base 16 8 1 key = some i) :
      (s.headSet (8 * i + j) old v).on plainKey = s.on plainKey :=
    plain_headSet _ _ _ _ (by have := (key_of_instOf (by decide) h).1; omega)
  refine plain_hookFor _ _ _ ?_
  unfold State.effectHooks
  simp only [List.forall_mem_cons, List.not_mem_nil, false_imp_iff, implies_true, and_true]
  refine ⟨fun i _ => plain_runSet _ _ _ _, fun i _ => ?_, fun i _ => ?_, fun i _ => ?_,
    fun i h => head (j := 0) (by decide) h, fun i h => head (by decide) h, fun i h => head (by decide) h, fun i h => head (by decide) h,
    fun i h => head (by decide) h, fun i h => head (by decide) h, fun i h => head (by decide) h, fun i h => head (by decide) h, ?_⟩
  · rw [plain_zoneLoad]
    unfold State.zoneRunSet
    split <;> rfl
  · rw [plain_zoneLoad, plain_zoneLoad]
  · split
    · exact plain_covStart _
    · rfl
  · refine ⟨?_, ?_, ?_, ?_, ?_, ?_, ?_, ?_, ?_, ?_, ?_, ?_, ?_, ?_, ?_, ?_, ?_, ?_⟩ <;>
      exact fun i h => other (by decide) (fun i hi => plainKey_false (by omega)) h

/-! ## A write from its checks to its breakpoints -/

/-- The value stored, with BAND_LINES where a station is to run. -/
theorem plain_stored (s : State) (key v : Nat) : (s.stored [(key, v)]).on plainKey = (s.w key v).on plainKey := by
  refine on_each (s.w key v) _ _ fun e _ t => ?_
  split
  · next st hst =>
    have hst := (key_of_instOf (by decide) hst).1
    exact on_when _ _ _ (on_w _ _ _ (plainKey_false (by unfold Reg.sstBAND_LINES; omega)))
  · rfl

/-- The entry, the effect and the placement of one write come before its breakpoints, and leave the objects of single commands. -/
theorem finish_own (s old : State) (src key v : Nat) (hp : plainKey key = true) : ∃ t : State, t.on plainKey = s.on plainKey ∧
    s.finish old src 1 [(key, v)] .own = (t.bpWrite key).answer 0 0 := by
  have heff := (plain_applied _ key (old.r key) v hp).trans (plain_wrote s src 1 key (keySize key) v)
  refine ⟨((s.wrote src 1 key (keySize key) v).applied key (old.r key) v).when (old.frees key v)
    fun t => t.publish 0 t.placing t.runFormat,
    (on_when _ _ _ (plain_publish _ _ _ _)).trans heff, ?_⟩
  simp only [State.finish, State.each, lastVals, List.foldl_cons, List.foldl_nil, List.any_cons, List.any_nil, Bool.or_false,
    Bool.false_eq_true, if_false, State.respond]

theorem commitVals_own (s : State) (src key v : Nat) : s.commitVals src 1 [(key, v)] .own =
    if s.admits key v then
      if src = 0x41 then (s.stored [(key, v)]).admitNow.finish s src 1 [(key, v)] .own
      else s.admission (s.stored [(key, v)]) (.write src 1 [(key, v)] .own) (fun u => u.answer 0x1D 0) fun c =>
        c.finish s src 1 [(key, v)] .own
    else (s.stored [(key, v)]).finish s src 1 [(key, v)] .own := by
  simp only [State.commitVals, List.any_cons, List.any_nil, Bool.or_false]
  rfl

/-- The status of a write's checks. -/
def State.writeStatus (s : State) (o : Origin) (key v : Nat) : Nat := s.accCheck o key (keySize key) v (s.relOk (s.w key v) key)

theorem writeObj_refused {s : State} {o : Origin} {key v : Nat} (h : s.writeStatus o key v ≠ 0) :
    s.writeObj o 1 key (keySize key) v .own = s.answer (s.writeStatus o key v) 0 := if_pos h

theorem writeObj_checked {s : State} {o : Origin} {key v : Nat} (h : s.writeStatus o key v = 0) :
    s.writeObj o 1 key (keySize key) v .own = s.commitVals o.src 1 [(key, v)] .own := if_neg (not_not.2 h)

/-- A write that goes is finished on a state that holds the value. -/
theorem writeObj_goes {s : State} {o : Origin} {key v : Nat} (h : s.writeGoes o key v = true) :
    s.writeStatus o key v = 0 ∧ ∃ c : State, c.on plainKey = (s.w key v).on plainKey ∧
      s.writeObj o 1 key (keySize key) v .own = c.finish s o.src 1 [(key, v)] .own := by
  simp only [State.writeGoes, Bool.and_eq_true, Bool.or_eq_true, decide_eq_true_eq, Bool.not_eq_true'] at h
  obtain ⟨hok, hwhy⟩ := h
  have hstored := plain_stored s key v
  have hadmit : (s.stored [(key, v)]).admitNow.on plainKey = (s.w key v).on plainKey := (plain_admitNow _).trans hstored
  refine ⟨hok, ?_⟩
  rw [writeObj_checked hok, commitVals_own]
  by_cases ha : s.admits key v = true
  · rw [if_pos ha]
    by_cases hsrc : o.src = 0x41
    · exact ⟨_, hadmit, if_pos hsrc⟩
    · rw [if_neg hsrc]
      rcases hwhy with (hna | h41) | ⟨⟨hnone, hcheck⟩, hpart⟩
      · rw [ha] at hna; cases hna
      · exact absurd h41 hsrc
      · refine ⟨_, hadmit, ?_⟩
        simp [State.admission, hnone, hcheck, hpart]
  · exact ⟨_, hstored, if_neg ha⟩

section
variable {s : State} {o : Origin} {key v : Nat}

theorem writeObj_admission (hok : s.writeStatus o key v = 0) (ha : s.admits key v = true) (hsrc : o.src ≠ 0x41) :
    s.writeObj o 1 key (keySize key) v .own = s.admission (s.stored [(key, v)]) (.write o.src 1 [(key, v)] .own)
      (fun u => u.answer 0x1D 0) fun c => c.finish s o.src 1 [(key, v)] .own := by
  rw [writeObj_checked hok, commitVals_own, if_pos ha, if_neg hsrc]

theorem admission_waits (s cand : State) (op : PendOp) (refuse go : State → State) (h : s.shep.cands ≠ []) :
    s.admission cand op refuse go = { s with shep := { s.shep with cands := s.shep.cands ++ [(s.up, op)] } } := if_pos h

theorem admission_fails (s cand : State) (op : PendOp) (refuse go : State → State) (hn : s.shep.cands = []) (h : cand.check.1 ≠ 0) :
    s.admission cand op refuse go = refuse (s.w Reg.shpCHECK_RESULT (cand.check.1 + 256 * cand.check.2)) :=
  (if_neg (not_not.2 hn)).trans (if_pos h)

theorem admission_asks (s cand : State) (op : PendOp) (refuse go : State → State) (hn : s.shep.cands = []) (h : cand.check.1 = 0)
    (hp : s.partnerUp = true) : s.admission cand op refuse go = s.askPartner cand op :=
  (if_neg (not_not.2 hn)).trans ((if_neg (not_not.2 h)).trans (if_pos hp))

end

/-- A change put to the partner: it waits, the candidate has left, and no register changes. -/
theorem askPartner_spec (s cand : State) (op : PendOp) (hn : s.shep.cands = []) (hx : s.ptx = []) (hp : s.partnerUp = true) :
    let u := s.askPartner cand op
    u.regs = s.regs ∧ u.shep.asked = true ∧ u.shep.cands = [(s.up, op)] ∧
      SentPartner s u (.candidate s.epoch cand.candidateVals) := by
  have hp' : State.partnerUp { s with shep := { s.shep with cands := (s.up, op) :: s.shep.cands, asked := true } } = true := hp
  have hl' : State.partnerLane? { s with shep := { s.shep with cands := (s.up, op) :: s.shep.cands, asked := true } } =
    s.partnerLane? := rfl
  unfold State.askPartner State.toPartner
  rw [if_pos hp']
  unfold State.partnerSend SentPartner
  rw [hl', hn]
  cases s.partnerLane? with
  | none => exact ⟨rfl, rfl, rfl, fun l hl => by cases hl⟩
  | some i =>
    refine ⟨rfl, rfl, rfl, fun l hl => ?_⟩
    obtain rfl := Option.some.inj hl
    exact ⟨by rw [hx]; rfl, rfl⟩

/-! ## Breakpoints on a write -/

theorem bpWrite_r_of_not_book (s : State) (key k : Nat) (h : bookKey k = false) : (s.bpWrite key).r k = s.r k :=
  book_r (book_bpWrite _ _) k h

/-- LIVE_ACT alone. -/
def liveKey (k : Nat) : Bool := decide (k = Reg.dbgLIVE_ACT)

/-- A hit writes the halts and its own count, time and kind; not LIVE_ACT. -/
theorem live_bpHit (s : State) (b : Bp) : (s.bpHit b).on liveKey = s.on liveKey := by
  have hevent (t : State) (code inst data : Nat) : (t.event code inst data).on liveKey = t.on liveKey :=
    on_of_r fun k hk => on_r (plain_event t code inst data) k (by rw [of_decide_eq_true hk]; decide)
  have hpipes : liveKey Reg.dbgHALT_PIPES = false := by decide
  have hstations : liveKey Reg.dbgHALT_STATIONS = false := by decide
  have hzones : liveKey Reg.dbgHALT_ZONES = false := by decide
  have hhits : liveKey (Reg.bpBP_HITS b.k) = false := decide_eq_false (by unfold Reg.bpBP_HITS Reg.dbgLIVE_ACT; omega)
  have hlast : liveKey (Reg.bpBP_LAST b.k) = false := decide_eq_false (by unfold Reg.bpBP_LAST Reg.dbgLIVE_ACT; omega)
  have hkind : liveKey (Reg.bpBP_KIND b.k) = false := decide_eq_false (by unfold Reg.bpBP_KIND Reg.dbgLIVE_ACT; omega)
  unfold State.bpHit
  rw [on_when _ _ _ (on_w _ _ _ hkind), hevent, on_w _ _ _ hlast, State.bump, State.add32, State.addTo, on_w _ _ _ hhits,
    on_when _ _ _ (on_w _ _ _ hzones), on_w _ _ _ hstations, on_w _ _ _ hpipes]

theorem bpWrite_r_liveAct (s : State) (key : Nat) : (s.bpWrite key).r Reg.dbgLIVE_ACT = s.r Reg.dbgLIVE_ACT :=
  on_r (p := liveKey) (on_each s _ _ fun _ _ t => on_when t _ _ (live_bpHit _ _)) _ (by decide)

/-- Where no breakpoint is of kind 4, a write hits none. -/
theorem bpWrite_of_noWriteBreak (s : State) (key : Nat) (h : s.noWriteBreak) : s.bpWrite key = s := by
  have hnone (l : List Nat) (hl : ∀ n ∈ l, n < 8) : (s.each l fun k t =>
      t.when (decide (t.r (Reg.bpBP_KIND k) = 4 ∧ t.r (Reg.bpBP_UNIT k) = key / 256 ∧
        (t.r (Reg.bpBP_SUB k) = 0xFF ∨ t.r (Reg.bpBP_SUB k) = key % 256))) fun u => u.bpHit (u.bpAt k)) = s := by
    unfold State.each
    induction l with
    | nil => rfl
    | cons n l ih =>
      have hmiss : ¬ decide (s.r (Reg.bpBP_KIND n) = 4 ∧ s.r (Reg.bpBP_UNIT n) = key / 256 ∧
          (s.r (Reg.bpBP_SUB n) = 0xFF ∨ s.r (Reg.bpBP_SUB n) = key % 256)) = true := by simp [h n (hl n List.mem_cons_self)]
      rw [List.foldl_cons]
      simp only [State.when, if_neg hmiss]
      exact ih fun m hm => hl m (List.mem_cons_of_mem n hm)
  exact hnone _ fun n hn => List.mem_range.1 hn

/-! ## Which objects the commands write -/

theorem findGroup_stream (x : Fin 64) : findGroup (0x2140 + x) objGroups = some (⟨0x2140, 1, 64, rows_strm⟩, x.val) := by
  revert x
  decide

theorem rowAt_stream (x y : Nat) (hx : x < 64) (hy : y < 256) : rowAt (256 * (0x2140 + x) + y) = rows_strm.find? fun r => r.sub = y := by
  unfold rowAt
  rw [show (256 * (0x2140 + x) + y) / 256 = 0x2140 + x by omega, findGroup_stream ⟨x, hx⟩]
  simp only
  congr 1
  funext r
  rw [show (256 * (0x2140 + x) + y) % 256 = y by omega]

/-- A write that passes its checks is of an object with a row that may be written. -/
theorem row_of_accCheck {s : State} {o : Origin} {key len v : Nat} {rel : Bool} (h : s.accCheck o key len v rel = 0) :
    key % 256 ≠ 0 ∧ ∃ row, rowAt key = some row ∧ row.acc ≠ .ro := by
  unfold State.accCheck at h
  split at h
  · cases h
  · split at h
    · (repeat' split at h) <;> cases h
    · next hsub =>
      refine ⟨hsub, ?_⟩
      cases hr : rowAt key with
      | none => rw [hr] at h; cases h
      | some row =>
        rw [hr] at h
        refine ⟨row, rfl, fun hro => ?_⟩
        simp only [hro, if_true] at h
        (repeat' split at h) <;> cases h

/-- Of a stream's objects, the six that are not published. -/
theorem plainKey_stream {s : State} {o : Origin} {v x sub : Nat} (hx : x < 64)
    (h : s.writeStatus o (256 * (0x2140 + x) + sub % 256) v = 0) : plainKey (256 * (0x2140 + x) + sub % 256) = true := by
  obtain ⟨-, row, hrow, hacc⟩ := row_of_accCheck h
  have hlow : ∀ r ∈ rows_strm, r.acc ≠ .ro → r.sub ≤ 6 := by decide
  rw [rowAt_stream x _ hx (Nat.mod_lt _ (by decide))] at hrow
  have hrow6 := hlow row (List.mem_of_find?_eq_some hrow) hacc
  have hsub : row.sub = sub % 256 := by simpa using List.find?_some hrow
  exact decide_eq_true (by omega)

theorem plainKey_debug {k : Nat} (h : 0x600000 ≤ k) : plainKey k = true := decide_eq_true (by omega)

theorem plainKey_true {k : Nat} (h : k = 0x200006 ∨ (0x111000 ≤ k ∧ k < 0x111800) ∨ (0x211000 ≤ k ∧ k < 0x213800) ∨
    (0x340000 ≤ k ∧ k < 0x500000 ∧ k % 256 = 1)) : plainKey k = true ∧ k < 0x600000 := ⟨decide_eq_true (by omega), by omega⟩

theorem bookKey_of_plain {k : Nat} (hp : plainKey k = true) (hk : k < 0x600000) : bookKey k = false := by
  have hp' := of_decide_eq_true hp
  exact decide_eq_false (by omega)

/-- A write of a halt sets no breakpoint. -/
theorem noWriteBreak_of_plain {a t : State} {key v : Nat} (hk : 0x600000 ≤ key ∧ key < 0x601000)
    (ht : t.on plainKey = (a.w key v).on plainKey)
    (h : a.noWriteBreak) : t.noWriteBreak := by
  intro n hn
  rw [on_r ht _ (plainKey_debug (by unfold Reg.bpBP_KIND; omega)), State.w_r, if_neg (by unfold Reg.bpBP_KIND; omega)]
  exact h n hn

/-! ## One command that writes one object -/

/-- What O32 says of a command c that writes the object key. -/
def PlainWriteAt (dt v : Nat) (o : Origin) (s : State) (c : Instr) (key : Nat) : Prop := let a := s.advance dt
  (a.writeGoes o key v = true → GivesDone c s fun u => u.r key = v ∧ u.od.rsp = ⟨0, 0, []⟩) ∧
  (let st := a.accCheck o key (keySize key) v (a.relOk (a.w key v) key);
    (st ≠ 0 → GivesDone c s fun u => u = { a with od := { a.od with rsp := ⟨st, 0, []⟩ } }) ∧
    (st = 0 → a.admits key v = true → o.src ≠ 0x41 → a.shep.cands = [] → let k := (a.stored [(key, v)]).check;
      (k.1 ≠ 0 → GivesDone c s fun u => u.r key = a.r key ∧ u.od.rsp = ⟨0x1D, 0, []⟩ ∧
        u.r Reg.shpCHECK_RESULT = k.1 + 256 * k.2) ∧
      (k.1 = 0 → a.partnerUp = true → GivesDone c s fun u => u.r key = a.r key ∧ u.shep.asked = true ∧
        u.shep.cands = [(a.up, .write o.src 1 [(key, v)] .own)] ∧
        SentPartner a u (.candidate a.epoch (a.stored [(key, v)]).candidateVals))) ∧
    (st = 0 → a.admits key v = true → o.src ≠ 0x41 → a.shep.cands ≠ [] → GivesDone c s fun u =>
      u = { a with shep := { a.shep with cands := a.shep.cands ++ [(a.up, .write o.src 1 [(key, v)] .own)] } }))

section
variable {dt v key : Nat} {o : Origin} {s : State} {c : Instr} (hexec : exec c s = .next ((s.advance dt).writeCmd o key v))
  (hp : (s.advance dt).writeStatus o key v = 0 → plainKey key = true)
include hexec

theorem givesDone_of_writeObj {P : State → Prop} (h : P ((s.advance dt).writeObj o 1 key (keySize key) v .own)) : GivesDone c s P :=
  ⟨(s.advance dt).writeObj o 1 key (keySize key) v .own, hexec, h⟩

include hp

/-- A write that goes leaves the object at the value, where no breakpoint on it writes the object itself. -/
theorem write_goes (h : (s.advance dt).writeGoes o key v = true)
    (hb : ∀ t : State, t.on plainKey = ((s.advance dt).w key v).on plainKey → (t.bpWrite key).r key = t.r key) :
    GivesDone c s fun u => u.r key = v ∧ u.od.rsp = ⟨0, 0, []⟩ := by
  obtain ⟨hok, cand, hcand, hfin⟩ := writeObj_goes h
  obtain ⟨t, ht, hans⟩ := finish_own cand (s.advance dt) o.src key v (hp hok)
  have hreg := ht.trans hcand
  refine givesDone_of_writeObj hexec ?_
  rw [hfin, hans]
  exact ⟨(State.answer_r _ _ _ _).trans <| (hb t hreg).trans <| (on_r hreg key (hp hok)).trans <|
    (State.w_r _ _ _ _).trans (if_pos rfl), rfl⟩

theorem plainWriteAt_of_exec (hb : ∀ t : State, (t.bpWrite key).r key = t.r key) : PlainWriteAt dt v o s c key := by
  unfold PlainWriteAt
  dsimp only
  refine ⟨fun hg => write_goes hexec hp hg fun t _ => hb t, fun hst => givesDone_of_writeObj hexec ?_,
    fun hok ha hsrc hn => ⟨fun hk => ?_, fun hk hup => ?_⟩, fun hok ha hsrc hn => givesDone_of_writeObj hexec ?_⟩
  · rw [writeObj_refused hst]
    rfl
  · have hkey : key ≠ Reg.shpCHECK_RESULT := fun he => absurd (hp hok) (by rw [he]; decide)
    refine givesDone_of_writeObj hexec ?_
    rw [writeObj_admission hok ha hsrc, admission_fails _ _ _ _ _ hn hk]
    exact ⟨(State.answer_r _ _ _ _).trans <| (State.w_r _ _ _ _).trans (if_neg hkey), rfl,
      (State.answer_r _ _ _ _).trans <| (State.w_r _ _ _ _).trans (if_pos rfl)⟩
  · obtain ⟨hregs, hasked, hcands, hsent⟩ := askPartner_spec (s.advance dt) ((s.advance dt).stored [(key, v)])
      (.write o.src 1 [(key, v)] .own) hn rfl hup
    refine givesDone_of_writeObj hexec ?_
    rw [writeObj_admission hok ha hsrc, admission_asks _ _ _ _ _ hn hk hup]
    exact ⟨by rw [State.r, hregs]; rfl, hasked, hcands, hsent⟩
  · rw [writeObj_admission hok ha hsrc, admission_waits _ _ _ _ _ hn]

end

end Sys2Proof.Machine

open Sys2Proof Sys2Proof.Machine

/-- Settles O32: each command by its object, which no effect, placement or breakpoint of the write reaches. -/
theorem plainWrites : Obligations.PlainWrites := by
  intro dt v sub o st slot m z i x b s
  refine ⟨?_, fun hbreak => ?_⟩
  · have plain {c : Instr} {key : Nat} (hexec : exec c s = .next ((s.advance dt).writeCmd o key v))
        (hp : plainKey key = true ∧ key < 0x600000) : PlainWriteAt dt v o s c key :=
      plainWriteAt_of_exec hexec (fun _ => hp.1) fun t => bpWrite_r_of_not_book t key key (bookKey_of_plain hp.1 hp.2)
    show ∀ e : Instr × Nat, e ∈ _ → PlainWriteAt dt v o s e.1 e.2
    simp only [List.forall_mem_cons, List.not_mem_nil, false_imp_iff, implies_true, and_true]
    refine ⟨plain rfl ?_, plain rfl ?_, plain rfl ?_, plain rfl ?_, plain rfl ?_, ?_, plain rfl ?_, plain rfl ?_,
      plainWriteAt_of_exec rfl (fun _ => by decide) fun t => bpWrite_r_liveAct t _⟩
    case refine_1 => unfold Reg.stRUN; exact plainKey_true (by omega)
    case refine_2 => unfold Reg.slotHEAD; exact plainKey_true (by omega)
    case refine_3 => decide
    case refine_4 => unfold Reg.zbZONE_RUN; exact plainKey_true (by omega)
    case refine_5 => split <;> exact plainKey_true (by omega)
    case refine_6 =>
      exact plainWriteAt_of_exec rfl (plainKey_stream x.isLt) fun t => bpWrite_r_of_not_book t _ _ (decide_eq_false (by omega))
    case refine_7 => decide
    case refine_8 => unfold Reg.mapMAP_ENABLE; exact plainKey_true (by omega)
  · have halt {c : Instr} {key : Nat} (hexec : exec c s = .next ((s.advance dt).writeCmd o key v))
        (hk : 0x600000 ≤ key ∧ key < 0x601000) (hg : (s.advance dt).writeGoes o key v = true) : GivesDone c s fun u => u.r key = v ∧ u.od.rsp = ⟨0, 0, []⟩ :=
      write_goes hexec (fun _ => plainKey_debug hk.1) hg fun t ht => by
        rw [bpWrite_of_noWriteBreak t key (noWriteBreak_of_plain hk ht hbreak)]
    simp only [List.forall_mem_cons, List.not_mem_nil, false_imp_iff, implies_true, and_true]
    exact ⟨halt rfl (by decide), halt rfl (by decide), halt rfl (by decide)⟩

end

section
/-! PROOFS. Restores (O31): what follows a command leaves LAST_CAUSE as the command has left it, and the state on which the restore of a
head does not leave it at 3 (R126, R323). -/

namespace Sys2Proof.Machine

/-! ## Export, heads and runs leave LAST_CAUSE -/

/-- LAST_CAUSE alone. -/
def causeKey (k : Nat) : Bool := decide (k = Reg.shpLAST_CAUSE)

theorem causeKey_false {k : Nat} (h : k ≠ 0x210005) : causeKey k = false := decide_eq_false h

theorem cause_of_book {s t : State} (h : t.book = s.book) : t.on causeKey = s.on causeKey :=
  on_of_book (fun k hk => by rw [of_decide_eq_true hk]; decide) h

theorem cause_w (s : State) (k v : Nat) (h : k ≠ 0x210005) : (s.w k v).on causeKey = s.on causeKey := on_w _ _ _ (causeKey_false h)

theorem cause_bump (s : State) (k : Nat) (h : k ≠ 0x210005) : (s.bump k).on causeKey = s.on causeKey := cause_w _ _ _ h

theorem cause_event (s : State) (code inst data : Nat) : (s.event code inst data).on causeKey = s.on causeKey :=
  cause_of_book (book_event _ _ _ _)

theorem LinkOnly.cause {h : Nat} {s t : State} (hl : LinkOnly h s t) : t.on causeKey = s.on causeKey := on_of_r fun k _ => hl.r k

theorem cause_actDone (s : State) (key v : Nat) (ok : Bool) (h : key ≠ 0x210004) : (s.actDone key v ok).on causeKey = s.on causeKey := by
  refine on_of_r fun k hk => ?_
  rw [of_decide_eq_true hk]
  refine actDone_r_ne _ _ _ _ _ (by decide) fun hr => ?_
  rcases resultOf_some hr with hk | hk | hk
  · unfold Reg.shpLAST_CAUSE at hk; omega
  · exact absurd hk (by decide)
  · exact absurd hk (by decide)

theorem cause_xKick (s : State) : s.xKick.on causeKey = s.on causeKey := by
  have start (t : State) (g i : Nat) : (t.xStart g i).on causeKey = t.on causeKey := by
    unfold State.xStart
    dsimp only
    split
    · rfl
    · split <;> rfl
  have passes (n : Nat) (t : State) : (t.xPasses n).on causeKey = t.on causeKey := by
    induction n generalizing t with
    | zero => rfl
    | succ n ih =>
      unfold State.xPasses
      split
      · rfl
      · exact (ih _).trans (on_each _ _ _ fun g _ u => on_each _ _ _ fun i _ v => start v g i)
  exact passes 48 s

theorem cause_xPut (s : State) (g : Nat) (l : List XPkt) : (s.xPut g l).on causeKey = s.on causeKey :=
  (cause_xKick _).trans (cause_w (s.wXQueue g (s.xQueue g ++ l)) _ _ (by unfold Reg.grcBUF_PEAK; omega))

theorem cause_xOffer (s : State) (x ty info : Nat) (words : List Nat) : (s.xOffer x ty info words).on causeKey = s.on causeKey := by
  have send (t : State) (g : Nat) : (t.xSend g x ty info words).on causeKey = t.on causeKey := by
    unfold State.xSend
    split
    · rfl
    · exact cause_xPut _ _ _
  have stripe : (s.stripe x).on causeKey = s.on causeKey := by
    unfold State.stripe
    dsimp only
    split
    · rfl
    · exact cause_xPut _ _ _
  unfold State.xOffer
  dsimp only
  split
  · exact (send _ _).trans stripe
  · exact (cause_bump _ _ (by unfold Reg.grcDROPPED; omega)).trans stripe

theorem cause_tagTimeout (s : State) (h tag : Nat) : (s.tagTimeout h tag).on causeKey = s.on causeKey :=
  (cause_event _ _ _ _).trans (cause_bump _ _ (by unfold Reg.pkTAG_TIMEOUT; omega))

theorem cause_disarm (s : State) (h : Nat) : (s.disarm h).on causeKey = s.on causeKey := by
  unfold State.disarm
  split
  · exact (cause_tagTimeout _ _ _).trans (cause_w _ _ _ (by unfold Reg.hsARMED_TAG; omega))
  · rfl

theorem cause_foldEnd (s : State) (h code state : Nat) : (s.foldEnd h code state).on causeKey = s.on causeKey := by
  unfold State.foldEnd
  split
  · rfl
  · extract_lets v s1 f p s2 s3
    have h1 : s1.on causeKey = s.on causeKey :=
      (cause_w _ _ _ (by unfold Reg.hlFOLD_STATE; omega)).trans (cause_w _ _ _ (by unfold Reg.hlLAST_FOLD_RESULT; omega))
    have h3 : s3.on causeKey = s2.on causeKey := on_when _ _ _ (cause_actDone _ _ _ _ (by unfold Reg.hlFOLD_NOW; omega))
    exact (cause_of_book (book_laneRecord _ _)).trans (h3.trans h1)

theorem cause_lifeAdd (s : State) (h : Nat) (f : Life → Life) : (s.lifeAdd h f).on causeKey = s.on causeKey := by
  have publish (t : State) : (t.lifePublish h).on causeKey = t.on causeKey := by
    unfold State.lifePublish
    extract_lets x s1 used s2 old new s3 s4
    have hcnt : causeKey (Reg.hlSHUTTER_CNT h) = false := causeKey_false (by unfold Reg.hlSHUTTER_CNT; omega)
    have hwin : causeKey (Reg.hlWINDOW_EQ h) = false := causeKey_false (by unfold Reg.hlWINDOW_EQ; omega)
    have h1 : s1.on causeKey = t.on causeKey := on_wAll _ _ (by simp [hcnt, hwin])
    have h2 : s2.on causeKey = t.on causeKey := (cause_w _ _ _ (by unfold Reg.hlLIFE_USED; omega)).trans h1
    have h3 : s3.on causeKey = s2.on causeKey := cause_w _ _ _ (by unfold Reg.hlLIFE_STATE; omega)
    have h4 : s4.on causeKey = s3.on causeKey := on_when _ _ _ (cause_event _ _ _ _)
    split
    · exact h2
    · exact (on_when _ _ _ (cause_event _ _ _ _)).trans (h4.trans (h3.trans h2))
  unfold State.lifeAdd State.lifeShow
  dsimp only
  split
  · rfl
  · exact publish _

theorem cause_lifeRun (s : State) (h : Nat) : (s.lifeRun h).on causeKey = s.on causeKey :=
  (linkOnly_lifeWrite _ h).cause.trans (cause_lifeAdd _ _ _)

theorem cause_foldAbort (s : State) (h : Nat) : (s.foldAbort h).on causeKey = s.on causeKey := by
  unfold State.foldAbort
  split
  · rfl
  · extract_lets st s1 s3 s4
    have h1 : s1.on causeKey = s.on causeKey := by
      unfold s1
      split
      · rfl
      · split
        · exact cause_disarm _ _
        · rfl
    exact (on_when _ _ _ (cause_lifeRun _ _)).trans ((cause_foldEnd _ _ _ _).trans h1)

/-! ## Halts, stations and zones leave LAST_CAUSE -/

theorem cause_haltSettle (s : State) : s.haltSettle.on causeKey = s.on causeKey := by
  have hpipes : Reg.dbgHALTED_PIPES ≠ 0x210005 := by decide
  have hstations : Reg.dbgHALTED_STATIONS ≠ 0x210005 := by decide
  unfold State.haltSettle
  refine (on_each _ _ _ fun st _ t => ?_).trans (on_each _ _ _ fun h _ t => ?_)
  · extract_lets want is_ m
    split
    · split
      · exact cause_w _ _ _ hstations
      · rfl
    · split
      · exact cause_w _ _ _ hstations
      · split <;> rfl
  · extract_lets want is_
    split
    · exact (cause_w _ _ _ hpipes).trans (cause_foldAbort _ _)
    · split
      · exact cause_w _ _ _ hpipes
      · rfl

theorem cause_emitLine (s : State) (st n : Nat) : (s.emitLine st n).on causeKey = s.on causeKey := by
  unfold State.emitLine
  extract_lets x b seq ws fl hdr s1 s2 s3
  have h2 : s2.on causeKey = s.on causeKey :=
    (on_when _ _ _ (cause_bump _ _ (by unfold Reg.scLINES_INCOMPLETE; omega))).trans <|
      (cause_w _ _ _ (by unfold Reg.sstNEXT_LINE; omega)).trans (cause_w s1 _ _ (by unfold Reg.sstWL_SEQ; omega))
  have h3 : s3.on causeKey = s2.on causeKey := on_each _ _ _ fun y _ t => cause_xOffer _ _ _ _ _
  have h4 : (s3.zoneAdd st seq fl ws).on causeKey = s3.on causeKey := by
    unfold State.zoneAdd
    exact on_each _ _ _ fun z _ t => rfl
  exact h4.trans (h3.trans h2)

theorem cause_stStop (s : State) (st : Nat) : (s.stStop st).on causeKey = s.on causeKey := rfl

theorem cause_emitLines (s : State) (st n k : Nat) : (s.emitLines st n k).on causeKey = s.on causeKey := by
  induction k generalizing s n with
  | zero => rfl
  | succ k ih =>
    unfold State.emitLines
    extract_lets t
    have ht : t.on causeKey = s.on causeKey := cause_emitLine s st n
    split
    · exact (cause_stStop t st).trans ht
    · exact (ih t _).trans ht

theorem cause_formBand (s : State) (st n0 : Nat) : (s.formBand st n0).on causeKey = s.on causeKey := by
  unfold State.formBand
  exact (cause_w _ _ _ (by unfold Reg.scBAND_OVERFLOW; omega)).trans <|
    (cause_w _ _ _ (by unfold Reg.scLATE_SAMPLE; omega)).trans (cause_w _ _ _ (by unfold Reg.sstNEXT_LINE; omega))

theorem cause_stSettle (s : State) (st : Nat) : (s.stSettle st).on causeKey = s.on causeKey := by
  unfold State.stSettle
  split
  · rfl
  · extract_lets s0
    have h0 : s0.on causeKey = s.on causeKey := on_each _ _ _ fun j _ t => on_when _ _ _ rfl
    split
    · exact h0
    · split
      · exact h0
      · extract_lets q s1
        have h1 : s1.on causeKey = s0.on causeKey := by
          unfold s1
          split
          · rfl
          · exact cause_formBand _ _ _
        exact (cause_emitLines _ _ _ _).trans (h1.trans h0)

theorem cause_settle (s : State) : s.settle.on causeKey = s.on causeKey :=
  (on_each _ _ _ fun st _ t => cause_stSettle t st).trans (cause_haltSettle s)

theorem cause_zonesEnd (s : State) : s.zonesEnd.on causeKey = s.on causeKey := by
  refine on_each _ _ _ fun z _ t => on_wAll (t.wZone z _) _ fun e he => ?_
  simp only [List.mem_cons, List.not_mem_nil, or_false] at he
  rcases he with rfl | rfl | rfl | rfl | rfl <;> refine causeKey_false ?_ <;>
    simp only [Reg.zsZONE_STATE, Reg.zsSAFE_CAUSE, Reg.zsDEMAND, Reg.zsINTEGRAL, Reg.zsZONE_FLAGS] <;> omega

theorem cause_stationEnters (s : State) (st : Nat) : (s.stationEnters st).on causeKey = s.on causeKey := by
  refine on_each _ _ _ fun z _ t => ?_
  unfold State.zoneConfig
  dsimp only
  split <;> exact cause_w _ _ _ (by unfold Reg.zsDELAY_DIST; omega)

/-! ## Device state and start-up leave LAST_CAUSE -/

theorem cause_retrainAsk (s : State) (d : Nat) : (s.retrainAsk d).on causeKey = s.on causeKey := by
  have next (t : State) : t.retrainNext.on causeKey = t.on causeKey := by
    unfold State.retrainNext
    split
    · rfl
    · split
      · dsimp only
        split
        · rfl
        · exact cause_w _ _ _ (by unfold Reg.subSUB_STATE; omega)
      · rfl
  unfold State.retrainAsk
  split
  · rfl
  · exact (next _).trans (cause_w _ _ _ (by unfold Reg.subSUB_STATE; omega))

theorem cause_memWake (s : State) : s.memWake.on causeKey = s.on causeKey := by
  have start (t : State) : t.memStart.on causeKey = t.on causeKey := by
    unfold State.memStart
    refine Eq.trans (on_each _ _ _ fun d _ u => ?_) ?_
    · exact on_of_regs rfl
    exact (on_of_regs (s := t.w Reg.memMEM_STATE 3) rfl).trans (cause_w t _ _ (by decide))
  unfold State.memWake
  split
  · exact (on_each _ _ _ fun d _ t => cause_retrainAsk t d).trans (start s)
  · rfl

theorem cause_sendSettings (s : State) (h : Nat) (p : PSet) : (s.sendSettings h p).on causeKey = s.on causeKey := by
  unfold State.sendSettings
  split
  · rfl
  · split
    · rfl
    · exact (linkOnly_headSend _ _ _ _).cause

theorem cause_armSet (s : State) (h : Nat) (p : PSet) : (s.armSet h p).on causeKey = s.on causeKey := by
  unfold State.armSet
  extract_lets s1 x s2 y s3 s4
  have h1 : s1.on causeKey = s.on causeKey := by
    unfold s1
    split
    · exact (cause_tagTimeout _ _ _).trans (on_when _ _ _ rfl)
    · rfl
  have h2 : s2.on causeKey = s1.on causeKey := cause_w _ _ _ (by unfold Reg.hsARMED_TAG; omega)
  have h4 : s4.on causeKey = s.on causeKey := (cause_sendSettings _ _ _).trans (h2.trans h1)
  split
  · exact (on_of_regs (regs_toPartner _ _)).trans h4
  · exact h4

theorem cause_takeAttachSet (s : State) (h : Nat) : (s.takeAttachSet h).on causeKey = s.on causeKey := by
  refine on_wAll _ _ fun e he => ?_
  simp only [List.mem_cons, List.not_mem_nil, or_false] at he
  rcases he with rfl | rfl | rfl <;> refine causeKey_false ?_ <;>
    simp only [Reg.hsCURRENT_TAG, Reg.hsARMED_TAG, Reg.pkBOUND_SLOTS] <;> omega

theorem cause_attachNine (s : State) (h : Nat) : (s.attachNine h).on causeKey = s.on causeKey := by
  unfold State.attachNine
  extract_lets x s1 s2
  have h1 : s1.on causeKey = s.on causeKey := (linkOnly_headCmd _ _ _ _).cause
  have h2 : s2.on causeKey = s1.on causeKey := by
    unfold s2
    split
    · split
      · split
        · rfl
        · exact cause_armSet _ _ _
      · rfl
    · split
      · exact on_when _ _ _ (cause_takeAttachSet _ _)
      · exact (cause_sendSettings _ _ _).trans (cause_takeAttachSet _ _)
  split
  · exact h2.trans h1
  · exact (linkOnly_headCmd _ _ _ _).cause.trans (h2.trans h1)

theorem cause_nineGo (s : State) : s.nineGo.on causeKey = s.on causeKey := by
  unfold State.nineGo
  split
  · exact on_each _ _ _ fun h _ t => on_when _ _ _ (cause_attachNine _ _)
  · rfl

theorem cause_arrive (s : State) : s.arrive.on causeKey = s.on causeKey := cause_actDone _ _ _ _ (by decide)

theorem cause_enterRun (s : State) : s.enterRun.on causeKey = s.on causeKey :=
  (on_each _ _ _ fun st _ t => cause_stationEnters (t.stStart st) st).trans <|
    (cause_zonesEnd _).trans (cause_w _ _ _ (by decide))

theorem cause_stateSettle (s : State) : s.stateSettle.on causeKey = s.on causeKey := by
  have h0 : s.memWake.nineGo.on causeKey = s.on causeKey := (cause_nineGo _).trans (cause_memWake _)
  unfold State.stateSettle
  extract_lets t
  split
  · exact h0
  · extract_lets t1 d
    have h1 : t1.on causeKey = t.on causeKey := by
      unfold t1
      split
      · exact cause_w _ _ _ (by decide)
      · rfl
    split
    · exact (cause_arrive _).trans (h1.trans h0)
    · split
      · exact (cause_arrive _).trans ((cause_enterRun _).trans (h1.trans h0))
      · split
        · exact (cause_arrive _).trans (h1.trans h0)
        · exact h1.trans h0

theorem cause_wake (s : State) (t : Nat) : (s.wake t).on causeKey = s.on causeKey := by
  unfold State.wake
  rw [cause_stateSettle]
  exact on_of_regs rfl

theorem cause_startRun (s : State) : s.startRun.on causeKey = s.on causeKey := by
  unfold State.startRun
  rw [cause_stateSettle]
  exact on_of_regs rfl

theorem cause_started (s : State) : s.started.on causeKey = s.on causeKey := by
  unfold State.started
  extract_lets ms b s1 s2
  have h2 : s2.on causeKey = s.on causeKey := (cause_event _ _ _ _).trans (cause_w _ Reg.rstSTART_TIME ms (by decide))
  split
  · exact (cause_event _ _ _ _).trans h2
  · exact h2

theorem cause_startReady (s : State) : s.startReady.on causeKey = s.on causeKey := by
  unfold State.startReady
  extract_lets b s1
  have h1 : s1.on causeKey = s.on causeKey := cause_w _ Reg.rstSTART_STEP 10 (by decide)
  split
  · exact (cause_started _).trans h1
  · exact h1

theorem cause_bootSettle (s : State) : s.bootSettle.on causeKey = s.on causeKey := by
  have hstep : Reg.rstSTART_STEP ≠ 0x210005 := by decide
  unfold State.bootSettle
  extract_lets t w a b c
  have h0 : t.on causeKey = s.on causeKey := cause_stateSettle s
  split
  · exact h0
  · have ha : a.on causeKey = t.on causeKey := by
      unfold a
      split
      · split
        · exact (cause_wake _ _).trans (cause_w t _ _ hstep)
        · exact cause_w t _ _ hstep
      · rfl
    have hb : b.on causeKey = a.on causeKey := by
      unfold b
      split
      · exact cause_startReady _
      · rfl
    have hc : c.on causeKey = b.on causeKey := by
      unfold c
      split
      · exact cause_startRun _
      · rfl
    have h1 := hc.trans (hb.trans (ha.trans h0))
    split
    · exact (cause_started _).trans ((cause_w c _ _ hstep).trans h1)
    · exact h1

theorem cause_watchStep (s : State) : s.watchStep.on causeKey = s.on causeKey := by
  have begin_ (i : Nat) : (s.watchBegin i).on causeKey = s.on causeKey := by
    unfold State.watchBegin
    dsimp only
    split
    · rfl
    · split
      · rfl
      · exact on_of_regs (regs_toPartner _ _)
  unfold State.watchStep
  split
  · split <;> rfl
  · split
    · rfl
    · split
      · split
        · rfl
        · exact begin_ _
      · exact begin_ _

/-- What follows a command leaves LAST_CAUSE. -/
theorem cause_done (s : State) : s.done.r Reg.shpLAST_CAUSE = s.r Reg.shpLAST_CAUSE :=
  on_r (p := causeKey) ((cause_watchStep _).trans ((cause_bootSettle _).trans (cause_settle s))) _ (by decide)

/-! ## The state on which O31 fails -/

/-- The results of a window name objects of the statistics, and not LAST_CAUSE (R125). -/
theorem causeKey_results (w : StatWin) (h cause : Nat) : ∀ e ∈ w.results h cause, causeKey e.1 = false := by
  simp only [StatWin.results, List.forall_mem_cons, List.not_mem_nil, false_imp_iff, implies_true, and_true, Reg.pstSTAT_TAG,
    Reg.pstSTAT_CAUSE, Reg.pstFIRST_FRAME, Reg.pstFRAMES_USED, Reg.pstT_START, Reg.pstT_END, Reg.pstMEAN_T, Reg.pstMIN_T, Reg.pstMAX_T,
    Reg.pstSTD_T, Reg.pstSAMPLES, Reg.pstREPLACED, Reg.pstSATURATED, Reg.pstUNREPLACEABLE]
  and_intros <;> exact causeKey_false (by omega)

/-- Head 3 is shed, streams and waits to be restored; a statistics window of it is open, and a result that names LAST_CAUSE waits to be
published. The type of `Pipe.statWait` admits such a result, though the model forms none (`causeKey_results`). -/
def strayCause : State :=
  { State.reset.wAll [(Reg.memMEM_STATE, 3), (Reg.memRATE_ACTIVE, 6400), (Reg.memDENSITY, 32), (Reg.memCAPACITY, 64),
      (Reg.memIN_SERVICE, 0xFFFF), (Reg.rgnSIZE 0, 2 ^ 34), (Reg.rgnSIZE 1, 2 ^ 34), (Reg.rgnSIZE 2, 2 ^ 34), (Reg.shpSHED_HEADS, 8),
      (Reg.hdATTACH_STATE 3, atSTREAMING), (Reg.laneLANE_STATE 3, 4)] with
    shep := { watch := some (259, 0) }
    pipes := [(3, { stat := some ⟨0, 0, 0, 0, 0, 0, 0, 0, 0, 0, 0, 0, 0⟩, statWait := [[(Reg.shpLAST_CAUSE, 9)]] })] }

theorem strayCause_due : (strayCause.advance 300000000000).watchStep.restoreDue = some 259 := by decide +kernel

theorem strayCause_alone : (strayCause.advance 300000000000).watchStep.shep.cands = [] ∧
    (strayCause.advance 300000000000).watchStep.partnerUp = false := by decide +kernel

/-- The head's full attach ends its streaming, and the window's close publishes the waiting result with its own (R126, R323). -/
theorem strayCause_restored : ((strayCause.advance 300000000000).watchStep.restoreItem 259).r Reg.shpLAST_CAUSE = 9 := by decide +kernel

theorem strayCause_exec : exec (.restore 300000000000) strayCause =
    .next ((strayCause.advance 300000000000).watchStep.restoreItem 259).done := by
  show Host.Outcome.next (strayCause.advance 300000000000).restoreStep = _
  simp [State.restoreStep, strayCause_due, strayCause_alone]

end Sys2Proof.Machine

open Sys2Proof Sys2Proof.Machine

/-- Refutes O31 at `strayCause`: the clause on a restore has no premise on the statistics results that wait to be published, and one that
names LAST_CAUSE overwrites its 3 when the restored head's attach closes the window. -/
theorem not_coverageAndRestores : ¬ Obligations.CoverageAndRestores := by
  intro hall
  obtain ⟨-, -, hRestore, -⟩ := hall 300000000000 strayCause
  obtain ⟨u, hexec, -, -, hcause, -⟩ := hRestore 259 strayCause_due rfl (by decide)
  have hdone : ((strayCause.advance 300000000000).watchStep.restoreItem 259).done = u.done :=
    Host.Outcome.next.inj (strayCause_exec.symm.trans hexec)
  have hsame := congrArg (fun t : State => t.r Reg.shpLAST_CAUSE) hdone
  simp only [cause_done, strayCause_restored, hcause] at hsame
  exact absurd hsame (by decide)

end

section
/-! PROOFS. Zone demands (O20, O21): the demands of the bellwether, and the limits of the control law (R231, R244, R480, R482). -/

namespace Sys2Proof.Machine

/-! ## The bellwether's demands (R244, R482) -/

/-- A partner message of the device's own epoch is taken as it stands (R482, R484). -/
theorem partnerIn_ownEpoch (s : State) (i : Fin 4) (f : State → State) (hmode : s.pair.mode = true) (hlane : s.laneUp (88 + i) = true) :
    s.partnerIn ⟨i, s.epoch, true⟩ f = f s := by
  have hknown : s.epoch ≤ s.known := by
    unfold State.known
    split
    · exact le_max_right _ _
    · exact le_rfl
  have hsee : s.seeEpoch s.epoch false = s := if_pos hknown
  simp [State.partnerIn, hmode, hlane, hsee]

/-- A zone with the demand that has come for it, if one has. -/
def Zone.given (tick : Nat) (x : Zone) : Option (Nat × Nat) → Zone
  | some e => { x with bell := some (tick, e.1) }
  | none => x

/-- The e.2-th entry of the message is zone e.2's. -/
def State.takeDemand (tick : Nat) (e : (Nat × Nat) × Nat) (s : State) : State :=
  s.when (decide (e.2 < 192)) fun u => u.wZone e.2 ((u.zone e.2).given tick (some e.1))

theorem takeDemands_eq (s : State) (tick : Nat) (zs : List (Nat × Nat)) (h : s.auth = false) :
    s.takeDemands tick zs = s.each zs.zipIdx (State.takeDemand tick) := by
  unfold State.takeDemands
  rw [h]
  rfl

theorem takeDemand_frame (tick : Nat) (e : (Nat × Nat) × Nat) (s : State) :
    s.takeDemand tick e = { s with zones := (s.takeDemand tick e).zones } := by
  unfold State.takeDemand State.when
  split <;> rfl

theorem takeDemand_zone (tick : Nat) (e : (Nat × Nat) × Nat) (s : State) (z : Nat) (hz : z < 192) :
    (s.takeDemand tick e).zone z = if z = e.2 then (s.zone z).given tick (some e.1) else s.zone z := by
  unfold State.takeDemand State.when
  split
  · rw [State.wZone_zone]
    split
    · next hze => rw [hze]
    · rfl
  · next he => rw [if_neg fun hze : z = e.2 => he (decide_eq_true (hze ▸ hz))]

theorem each_takeDemand_frame (tick : Nat) (l : List ((Nat × Nat) × Nat)) (s : State) :
    s.each l (State.takeDemand tick) = { s with zones := (s.each l (State.takeDemand tick)).zones } := by
  induction l generalizing s with
  | nil => rfl
  | cons e l ih =>
    refine (ih (s.takeDemand tick e)).trans ?_
    exact congrArg (fun u : State => { u with zones := ((s.takeDemand tick e).each l (State.takeDemand tick)).zones })
      (takeDemand_frame tick e s)

/-- Demands that begin at zone k leave the zones below k alone. -/
theorem each_takeDemand_zone (tick : Nat) (zs : List (Nat × Nat)) (k : Nat) (s : State) (z : Nat) (hz : z < 192) :
    (s.each (zs.zipIdx k) (State.takeDemand tick)).zone z = (s.zone z).given tick (if k ≤ z then zs[z - k]? else none) := by
  induction zs generalizing k s with
  | nil => simp [State.each, Zone.given]
  | cons e zs ih =>
    refine (ih (k + 1) (s.takeDemand tick (e, k))).trans ?_
    rw [takeDemand_zone tick _ s z hz]
    rcases Nat.lt_trichotomy z k with hlt | rfl | hgt
    · rw [if_neg hlt.ne, if_neg (show ¬k + 1 ≤ z by omega), if_neg hlt.not_ge]
    · rw [if_pos rfl, if_neg (Nat.not_succ_le_self z), if_pos le_rfl, Nat.sub_self]
      rfl
    · rw [if_neg hgt.ne', if_pos (Nat.succ_le_of_lt hgt), if_pos hgt.le, show z - k = z - (k + 1) + 1 by omega, List.getElem?_cons_succ]

/-! ## The control law (R231) -/

theorem limitTo_of_between {lo hi : Int} (h : lo ≤ hi) (v : Int) : lo ≤ limitTo lo hi v ∧ limitTo lo hi v ≤ hi :=
  ⟨le_min h (le_max_left _ _), min_le_left _ _⟩

theorem limitTo_of_hi_lt {lo hi v : Int} (h : hi < v) : limitTo lo hi v = hi := min_eq_left (le_max_of_le_right h.le)

theorem limitTo_of_lt_lo {lo hi v : Int} (h : lo ≤ hi) (hv : v < lo) : limitTo lo hi v = lo := by
  rw [limitTo, max_eq_left hv.le, min_eq_right h]

section
variable (p i iCand uff inc e : Rat) (sc outMin outMax rate uPrev : Nat)

/-- The demand's limits hold where they hold of u_prev. -/
theorem piLaw_u_mem (hmin : outMin ≤ uPrev) (hmax : uPrev ≤ outMax) : let o := piLaw p i iCand uff inc e sc outMin outMax rate uPrev
    o.lo ≤ uPrev ∧ uPrev ≤ o.hi ∧ o.lo ≤ o.u ∧ o.u ≤ o.hi := by
  have hlo : max (outMin : Int) ((uPrev : Int) - rate) ≤ uPrev := by omega
  have hhi : (uPrev : Int) ≤ min (outMax : Int) ((uPrev : Int) + rate) := by omega
  exact ⟨hlo, hhi, limitTo_of_between (hlo.trans hhi) _⟩

/-- Conditional integration: with WINDUP the integrator stands, and else it takes its candidate, clamped. -/
theorem piLaw_i : let o := piLaw p i iCand uff inc e sc outMin outMax rate uPrev
    o.i = if o.windup then i else max (-10000) (min 10000 iCand) := rfl

/-- WINDUP says that the demand stands at the limit on the error's side. -/
theorem piLaw_windup (hmin : outMin ≤ uPrev) (hmax : uPrev ≤ outMax) :
    let o := piLaw p i iCand uff inc e sc outMin outMax rate uPrev
    o.windup = true → (o.u = o.hi ∧ 0 < e) ∨ (o.u = o.lo ∧ e < 0) := by
  intro o hw
  obtain ⟨hlo, hhi, -⟩ := piLaw_u_mem p i iCand uff inc e sc outMin outMax rate uPrev hmin hmax
  simp only [o, piLaw, Bool.or_eq_true, Bool.and_eq_true, decide_eq_true_eq] at hw
  rcases hw with ⟨hraw, he⟩ | ⟨hraw, he⟩
  · exact .inl ⟨limitTo_of_hi_lt hraw, he⟩
  · exact .inr ⟨limitTo_of_lt_lo (hlo.trans hhi) hraw, he⟩

end

end Sys2Proof.Machine

open Sys2Proof Sys2Proof.Machine

/-- Settles O20: a message of the own epoch is taken as it stands, and its entries are the zones' demands by induction over the list. -/
theorem demandsTaken : Obligations.DemandsTaken := by
  intro dt tick i zs s a hmode hlane
  have hexec : exec (.demands dt ⟨i, a.epoch, true⟩ tick zs) s = .next (a.takeDemands tick zs) :=
    congrArg Host.Outcome.next (partnerIn_ownEpoch a i (fun t => t.takeDemands tick zs) hmode hlane)
  refine ⟨fun hauth => ⟨_, hexec, ?_⟩, fun hauth => ?_⟩
  · rw [takeDemands_eq a tick zs hauth]
    refine ⟨each_takeDemand_frame _ _ _, fun z hz => ?_⟩
    have hzone := each_takeDemand_zone tick zs 0 a z hz
    rw [if_pos (Nat.zero_le z), Nat.sub_zero] at hzone
    rw [hzone]
    cases zs[z]? <;> rfl
  · rw [hexec, State.takeDemands, if_pos hauth]

/-- Settles O21: the limits of R231 lie about u_prev, and the integrator is the old one or a clamped one. -/
theorem zoneDemandLimits : Obligations.ZoneDemandLimits := by
  intro p i iCand uff inc e sc outMin outMax rate uPrev hmin hmax hi0 hi1 o
  obtain ⟨-, -, hlo, hhi⟩ := piLaw_u_mem p i iCand uff inc e sc outMin outMax rate uPrev hmin hmax
  have hi : o.i = if o.windup then i else max (-10000) (min 10000 iCand) := piLaw_i p i iCand uff inc e sc outMin outMax rate uPrev
  have hi_mem : -10000 ≤ o.i ∧ o.i ≤ 10000 := by
    rw [hi]
    split
    · exact ⟨hi0, hi1⟩
    · exact ⟨le_max_left _ _, max_le (by norm_num) (min_le_left _ _)⟩
  exact ⟨(le_max_left _ _).trans hlo, hhi.trans (min_le_left _ _), (le_max_right _ _).trans hlo, hhi.trans (min_le_right _ _),
    hi_mem.1, hi_mem.2, fun hw => ⟨by rw [hi, if_pos hw], piLaw_windup p i iCand uff inc e sc outMin outMax rate uPrev hmin hmax hw⟩⟩

end

section
/-! PROOFS. A zone with a safe cause (O22): what a zone's tick leaves alone before its results, and the results in SAFE (R237, R241,
R242). -/

namespace Sys2Proof.Machine

/-! ## What a zone's tick reads -/

/-- The registers of its own that a zone's tick writes beside its results: the record taken and the counters. -/
def tickMarks (z : Nat) : List Nat :=
  [Reg.zsPV z, Reg.zsNEWEST_SEQ z, Reg.zsSTALE_CNT z, Reg.zkSTALE_TICKS z, Reg.zkDEGRADED_ENTRIES z, Reg.zkSAFE_ENTRIES z,
    Reg.zkWEB_STOP_ENTRIES z, Reg.zkFF_MISSING z, Reg.zkWINDUP_TICKS z, Reg.zkDELAY_CLIP z]

/-- The registers of zones and actuation but those. -/
def zoneKey (z k : Nat) : Bool := decide (0x400000 ≤ k ∧ k ∉ tickMarks z)

theorem zoneKey_mark {z k : Nat} (h : k ∈ tickMarks z) : zoneKey z k = false := decide_eq_false fun hk => hk.2 h

/-- The zones' marks stand 1,536 keys apart, as their objects do. -/
theorem tickMarks_eq (z : Nat) : tickMarks z = (tickMarks 0).map (· + 1536 * z) := by
  simp [tickMarks, Reg.zsPV, Reg.zsNEWEST_SEQ, Reg.zsSTALE_CNT, Reg.zkSTALE_TICKS, Reg.zkDEGRADED_ENTRIES, Reg.zkSAFE_ENTRIES,
    Reg.zkWEB_STOP_ENTRIES, Reg.zkFF_MISSING, Reg.zkWINDUP_TICKS, Reg.zkDELAY_CLIP]

/-- The zone's j-th key is read where it is no mark. -/
theorem zoneKey_own {z k : Nat} (j : Nat) (hk : k = 0x400000 + j + 1536 * z) (hj : 0x400000 + j ∉ tickMarks 0) : zoneKey z k = true := by
  refine decide_eq_true ⟨by omega, fun hmark => ?_⟩
  rw [tickMarks_eq, List.mem_map] at hmark
  obtain ⟨m, hm, hmk⟩ := hmark
  rw [show m = 0x400000 + j by omega] at hm
  exact hj hm

/-- The objects of the zone that a tick in SAFE reads or writes as results are no marks. -/
theorem zoneKey_read (z : Nat) : ∀ k ∈ [Reg.zoCHANNEL z, Reg.zoSAFE_DEMAND z, Reg.zsZONE_STATE z, Reg.zsSAFE_CAUSE z, Reg.zsINTEGRAL z,
    Reg.zsDEMAND z], zoneKey z k = true := by
  simp only [List.forall_mem_cons, List.not_mem_nil, false_imp_iff, implies_true, and_true]
  exact ⟨zoneKey_own 0x301 (by unfold Reg.zoCHANNEL; omega) (by decide),
    zoneKey_own 0x305 (by unfold Reg.zoSAFE_DEMAND; omega) (by decide),
    zoneKey_own 0x401 (by unfold Reg.zsZONE_STATE; omega) (by decide),
    zoneKey_own 0x402 (by unfold Reg.zsSAFE_CAUSE; omega) (by decide),
    zoneKey_own 0x406 (by unfold Reg.zsINTEGRAL; omega) (by decide),
    zoneKey_own 0x407 (by unfold Reg.zsDEMAND; omega) (by decide)⟩

/-- Banks and channels lie above every zone. -/
theorem zoneKey_bank {z k : Nat} (hz : z < 192) (hk : 0x500000 ≤ k) : zoneKey z k = true := by
  refine decide_eq_true ⟨by omega, fun hmark => ?_⟩
  rw [tickMarks_eq, List.mem_map] at hmark
  obtain ⟨m, hm, hmk⟩ := hmark
  have hlow : ∀ m ∈ tickMarks 0, m < 0x401000 := by decide
  have := hlow m hm
  omega

section
variable (s : State) (z : Nat)

theorem zoneKeys_mark (k v : Nat) (h : k ∈ tickMarks z) : (s.w k v).on (zoneKey z) = s.on (zoneKey z) := on_w _ _ _ (zoneKey_mark h)

theorem zoneKeys_bump (k : Nat) (h : k ∈ tickMarks z) : (s.bump k).on (zoneKey z) = s.on (zoneKey z) := zoneKeys_mark _ _ _ _ h

theorem zoneKeys_zoneTake : (s.zoneTake z).on (zoneKey z) = s.on (zoneKey z) := by
  unfold State.zoneTake
  exact (zoneKeys_mark _ _ _ _ (by simp [tickMarks])).trans (on_when _ _ _ (zoneKeys_mark _ _ _ _ (by simp [tickMarks])))

theorem zoneKeys_staleStep (st : Nat) (fresh : Bool) : (s.staleStep z st fresh).on (zoneKey z) = s.on (zoneKey z) := by
  have hw (v : Nat) : (s.w (Reg.zsSTALE_CNT z) v).on (zoneKey z) = s.on (zoneKey z) := zoneKeys_mark _ _ _ _ (by simp [tickMarks])
  unfold State.staleStep
  dsimp only
  split
  · split
    · exact hw _
    · exact (zoneKeys_bump _ _ _ (by simp [tickMarks])).trans (hw _)
  · split
    · exact hw _
    · rfl

theorem zoneKeys_zoneEntered (old new : Nat) : (s.zoneEntered z old new).on (zoneKey z) = s.on (zoneKey z) := by
  unfold State.zoneEntered
  split
  · rfl
  · split
    · exact zoneKeys_bump _ _ _ (by simp [tickMarks])
    · split
      · exact zoneKeys_bump _ _ _ (by simp [tickMarks])
      · split
        · exact zoneKeys_bump _ _ _ (by simp [tickMarks])
        · rfl

/-- Lines of coverage lost are counted at the zone's source station, if it names one (R233). -/
theorem zoneKeys_evicted (st n : Nat) :
    (s.when (decide (st < 8)) fun t => t.add32 (Reg.scCOV_EVICTED st) n).on (zoneKey z) = s.on (zoneKey z) := by
  unfold State.when
  split
  · next hst =>
    have := of_decide_eq_true hst
    refine on_w _ _ _ (decide_eq_false fun hk => ?_)
    unfold Reg.scCOV_EVICTED at hk
    omega
  · rfl

theorem zoneKeys_feedForward (st : Nat) (pe : Rat) (at_ : Nat) :
    (s.feedForward z st pe at_).1.on (zoneKey z) = s.on (zoneKey z) := by
  unfold State.feedForward
  split
  · rfl
  · extract_lets x e ua travel ub
    split
    extract_lets f s1
    have h1 : s1.on (zoneKey z) = s.on (zoneKey z) := zoneKeys_evicted s z st _
    split
    · exact (zoneKeys_bump _ _ _ (by simp [tickMarks])).trans h1
    · exact h1

/-- The causes of R241 are read from registers that the tick's record leaves alone. -/
theorem safeCauses_zoneTake (halt : Bool) (hz : z < 192) : (s.zoneTake z).safeCauses z halt = s.safeCauses z halt := by
  have hr (k : Nat) (hk : zoneKey z k = true) : (s.zoneTake z).r k = s.r k := on_r (zoneKeys_zoneTake s z) k hk
  obtain ⟨hpair, hpwr⟩ : (s.zoneTake z).pair = s.pair ∧ (s.zoneTake z).pwr = s.pwr := by
    unfold State.zoneTake State.when
    dsimp only
    split <;> exact ⟨rfl, rfl⟩
  have hch : (s.zoneTake z).r (Reg.zoCHANNEL z) = s.r (Reg.zoCHANNEL z) :=
    hr _ (zoneKey_read z _ (by simp))
  have hcause : (s.zoneTake z).r (Reg.zsSAFE_CAUSE z) = s.r (Reg.zsSAFE_CAUSE z) :=
    hr _ (zoneKey_read z _ (by simp))
  have hbank (b : Nat) : (s.zoneTake z).r (Reg.bkBANK_STATE b) = s.r (Reg.bkBANK_STATE b) :=
    hr _ (zoneKey_bank hz (by unfold Reg.bkBANK_STATE; omega))
  have hfault (n : Nat) : (s.zoneTake z).r (Reg.chdCH_FAULT n) = s.r (Reg.chdCH_FAULT n) :=
    hr _ (zoneKey_bank hz (by unfold Reg.chdCH_FAULT; omega))
  unfold State.safeCauses State.bankRuns State.rb
  simp only [hpair, hpwr, hch, hcause, hbank, hfault]

end

/-! ## The results of a tick in SAFE -/

/-- A zone whose configuration passed is in SAFE for any safe cause (R237). -/
theorem zoneStateOf_safe {causes : Nat} (h : causes ≠ 0) (stopped manual deg : Bool) :
    zoneStateOf false causes stopped manual deg = 5 := by
  rw [zoneStateOf, if_neg Bool.false_ne_true, if_pos h]

/-- SAFE delivers SAFE_DEMAND and leaves the integrator (R237). -/
theorem zoneDemand_safe (s : State) (z u0 : Nat) (fresh entry : Bool) (i e uff inc : Rat) :
    s.zoneDemand z 5 u0 fresh entry i e uff inc = ⟨s.r (Reg.zoSAFE_DEMAND z), i, false, none⟩ := by
  unfold State.zoneDemand
  exact if_pos (Or.inr rfl)

/-- The integrator's register, 1/256 of 0.01 %, is written as it was read. -/
theorem sat2_roundTo_integral (v : Nat) (h : v < 2 ^ 32) : sat2 32 (roundTo 256 (mkRat (sgn 32 v) 256)) = v := by
  have hround : roundTo 256 (mkRat (sgn 32 v) 256) = sgn 32 v := by
    rw [roundTo, Rat.mkRat_eq_div, Nat.cast_ofNat, div_mul_cancel₀ _ (by norm_num), roundHA_int]
  rw [hround, sat2, sgn, enc2, clampI]
  split_ifs <;> omega

/-- The results that end a zone's tick. -/
def zoneResults (z st causes er uff i u flags : Nat) : List (Nat × Nat) :=
  [(Reg.zsZONE_STATE z, st), (Reg.zsSAFE_CAUSE z, causes), (Reg.zsERROR z, er), (Reg.zsU_FF z, uff), (Reg.zsINTEGRAL z, i),
    (Reg.zsDEMAND z, u), (Reg.zsZONE_FLAGS z, flags)]

theorem zoneResults_r (s : State) (z st causes er uff i u flags : Nat) : let t := s.wAll (zoneResults z st causes er uff i u flags)
    t.r (Reg.zsZONE_STATE z) = st ∧ t.r (Reg.zsSAFE_CAUSE z) = causes ∧ t.r (Reg.zsDEMAND z) = u ∧ t.r (Reg.zsINTEGRAL z) = i := by
  simp [State.wAll, zoneResults, Reg.zsZONE_STATE, Reg.zsSAFE_CAUSE, Reg.zsERROR, Reg.zsU_FF, Reg.zsINTEGRAL, Reg.zsDEMAND,
    Reg.zsZONE_FLAGS]

/-- The counters of a tick's end are marks. -/
theorem zoneTick_end (s : State) (z : Nat) (windup clip : Bool) :
    let t := (s.when windup fun t => t.bump (Reg.zkWINDUP_TICKS z)).when clip fun t => t.bump (Reg.zkDELAY_CLIP z)
    t.zones = s.zones ∧ t.on (zoneKey z) = s.on (zoneKey z) := by
  refine ⟨?_, (on_when _ _ _ (zoneKeys_bump _ _ _ (by simp [tickMarks]))).trans
    (on_when _ _ _ (zoneKeys_bump _ _ _ (by simp [tickMarks])))⟩
  cases windup <;> cases clip <;> rfl

theorem delivered_of_zones {s t : State} (h : t.zones = s.zones) (z : Nat) : t.delivered z = s.delivered z := by
  unfold State.delivered State.zone
  rw [h]

/-- What the tick of a zone with a safe cause writes last, up to its marks, and what it delivers: i is the integrator of the tick. -/
theorem zoneTick_safe (s : State) (z t0 at_ : Nat) (prev : Nat → Nat) (halt tracking : Bool) (hz : z < 192)
    (hinit : (s.zone z).init = true) (hcfg : (s.zone z).cfgErr = false) (hsafe : s.safeCauses z halt ≠ 0) :
    ∃ (m : State) (er uff flags : Nat) (i : Rat),
      (tracking = false → i = mkRat (s.ri 32 (Reg.zsINTEGRAL z)) 256) ∧
      m.delivered z = s.r (Reg.zoSAFE_DEMAND z) ∧ (s.zoneTick z t0 at_ prev halt tracking).zones = m.zones ∧
      (s.zoneTick z t0 at_ prev halt tracking).on (zoneKey z) =
        (m.wAll (zoneResults z 5 (s.safeCauses z halt) er uff (sat2 32 (roundTo 256 i)) (s.r (Reg.zoSAFE_DEMAND z)) flags)).on
          (zoneKey z) := by
  unfold State.zoneTick
  extract_lets st0 e pe pos old s1 x m fresh s2 causes
  have h1 : s1 = s := if_pos hinit
  have h2 : s2.on (zoneKey z) = s.on (zoneKey z) := h1 ▸ zoneKeys_zoneTake s1 z
  have hcauses : causes = s.safeCauses z halt := h1 ▸ safeCauses_zoneTake s1 z halt hz
  have hx : x.cfgErr = false := by rw [show x = s.zone z from congrArg (State.zone · z) h1, hcfg]
  split
  rename_i low stopped _
  extract_lets stA s3 n st back passing deg s4 sgn entry safe
  have hstA : stA = 5 := by
    unfold stA
    rw [hx]
    exact zoneStateOf_safe (hcauses ▸ hsafe) _ _ _
  have hst : st = 5 := by simp [st, hstA]
  have hpassing : passing = false := by simp [passing, hst]
  have h4 : s4.on (zoneKey z) = s.on (zoneKey z) := (zoneKeys_zoneEntered _ _ _ _).trans ((zoneKeys_staleStep _ _ _ _).trans h2)
  split
  rename_i yd clip _
  extract_lets pvp err
  split
  rename_i s5 uff ffl hff
  have h5 : s5.on (zoneKey z) = s.on (zoneKey z) := by
    have hf := zoneKeys_feedForward s4 z st0 pe at_
    rw [hff] at hf
    exact hf.trans h4
  extract_lets inc kp i0 i1 i2 o u ym y s6 hiHit loHit flags s7
  have ho : o = ⟨s5.r (Reg.zoSAFE_DEMAND z), i2, false, none⟩ := by
    unfold o
    rw [hpassing, hst]
    exact (if_neg Bool.false_ne_true).trans (zoneDemand_safe _ _ _ _ _ _ _ _ _)
  have hsd : s5.r (Reg.zoSAFE_DEMAND z) = s.r (Reg.zoSAFE_DEMAND z) :=
    on_r h5 _ (zoneKey_read z _ (by simp))
  have hint : s5.r (Reg.zsINTEGRAL z) = s.r (Reg.zsINTEGRAL z) :=
    on_r h5 _ (zoneKey_read z _ (by simp))
  have hu : u = s.r (Reg.zoSAFE_DEMAND z) := by simp [u, ho, hsd]
  have h7 : s7 = s6.wAll (zoneResults z 5 (s.safeCauses z halt) (sat2 16 (roundHA err)) (sat2 16 (roundHA uff)) (sat2 32 (roundTo 256 i2))
      (s.r (Reg.zoSAFE_DEMAND z)) flags) := by
    unfold s7 zoneResults
    rw [hst, hcauses, hu, show o.i = i2 by rw [ho]]
  obtain ⟨hzones, hregs⟩ := zoneTick_end s7 z o.windup clip
  refine ⟨s6, _, _, flags, i2, fun htrack => ?_, ?_, hzones.trans ?_, hregs.trans (by rw [h7])⟩
  · simp [i2, i1, i0, htrack, hst, State.ri, hint]
  · simp [s6, State.delivered, hu]
  · rw [h7, State.wAll_eq]

end Sys2Proof.Machine

open Sys2Proof Sys2Proof.Machine

/-- Settles O22: the tick's preparation leaves SAFE_DEMAND, the integrator and the causes, and a tick in SAFE writes them as its results. -/
theorem safeZone : Obligations.SafeZone := by
  intro s z t0 at_ prev halt tracking hz hinit hcfg hsafe t
  obtain ⟨m, er, uff, flags, i, hi, hdel, hzones, hregs⟩ := zoneTick_safe s z t0 at_ prev halt tracking hz hinit hcfg hsafe
  obtain ⟨hstate, hcause, hdemand, hintegral⟩ := zoneResults_r m z 5 (s.safeCauses z halt) er uff (sat2 32 (roundTo 256 i))
    (s.r (Reg.zoSAFE_DEMAND z)) flags
  have hresult {k : Nat} (hk : zoneKey z k = true) := on_r hregs k hk
  exact ⟨(hresult (zoneKey_read z _ (by simp))).trans hstate, (hresult (zoneKey_read z _ (by simp))).trans hcause,
    (hresult (zoneKey_read z _ (by simp))).trans hdemand, (delivered_of_zones hzones z).trans hdel, fun htrack hfits =>
      (hresult (zoneKey_read z _ (by simp))).trans (hintegral.trans (by rw [hi htrack]; exact sat2_roundTo_integral _ hfits))⟩

end

section
/-! PROOFS. The injector profile: what setting the gates of a bank does and leaves alone, and the phases of an event before its decay,
the statement O12 (R266, R267). -/

namespace Sys2Proof.Machine

/-! ## The gates of a bank -/

/-- A bit that was set or cleared reads as written. -/
@[simp] theorem bit_setBit_eq (k v : Nat) (b : Bool) : bit k (setBit k b v) = b := by
  cases b with
  | true => exact bit_setBit k v
  | false =>
    unfold setBit bit
    rw [if_neg Bool.false_ne_true]
    split
    next h =>
      have hdiv : (v - 1 <<< k) / 2 ^ k = v / 2 ^ k - 1 := by
        simpa [Nat.one_shiftLeft] using Nat.sub_mul_div v (2 ^ k) 1
      rw [Nat.testBit_eq_decide_div_mod_eq, decide_eq_true_eq] at h
      rw [Nat.testBit_eq_decide_div_mod_eq, hdiv, decide_eq_false_iff_not]
      omega
    next h => simpa using h

/-- The bank with low side p and the two high sides set, its edges noted: what `State.drive` makes of it. -/
def Bank.driven (x : Bank) (p up : Nat) (ls hb hh : Bool) : Bank :=
  let hs := hb != x.hb || hh != x.hh
  { x with
    ls := setBit p ls x.ls, hb := hb, hh := hh
    hbOn := if hb && !x.hb then some up else x.hbOn
    hsAt := if hs then up else x.hsAt
    hhAt := if hh != x.hh then up else x.hhAt
    edgeAt := if hs || ls != bit p x.ls then up else x.edgeAt }

/-- Setting gates changes banks and channels only. -/
theorem drive_eq (s : State) (n : Nat) (ls hb hh : Bool) :
    s.drive n ls hb hh = { s with banks := (s.drive n ls hb hh).banks, chans := (s.drive n ls hb hh).chans } := by
  unfold State.drive
  dsimp only
  split <;> rfl

@[simp] theorem drive_r (s : State) (n : Nat) (ls hb hh : Bool) (k : Nat) : (s.drive n ls hb hh).r k = s.r k := by
  rw [drive_eq]; rfl

@[simp] theorem drive_clk (s : State) (n : Nat) (ls hb hh : Bool) : (s.drive n ls hb hh).clk = s.clk := by rw [drive_eq]

@[simp] theorem drive_bank (s : State) (n : Nat) (ls hb hh : Bool) (j : Nat) :
    (s.drive n ls hb hh).bank j = if j = n / 8 then (s.bank (n / 8)).driven (n % 8) s.up ls hb hh else s.bank j := by
  unfold State.drive
  dsimp only
  split <;> exact State.wBank_bank _ _ _ _

theorem drive_chan_ne (s : State) (n : Nat) (ls hb hh : Bool) (m : Nat) (h : m ≠ n) : (s.drive n ls hb hh).chan m = s.chan m := by
  unfold State.drive
  dsimp only
  split
  · rw [State.wChan_chan, if_neg h]; rfl
  · rfl

/-- Low side n and the two high sides of its bank are set like this. -/
def State.hasGates (t : State) (n : Nat) (ls hb hh : Bool) : Prop :=
  bit (n % 8) (t.bank (n / 8)).ls = ls ∧ (t.bank (n / 8)).hb = hb ∧ (t.bank (n / 8)).hh = hh

theorem drive_hasGates (s : State) (n : Nat) (ls hb hh : Bool) : (s.drive n ls hb hh).hasGates n ls hb hh := by
  simp [State.hasGates, Bank.driven]

/-! ## What stays outside one bank -/

theorem OnlyBank.refl (a : State) (b : Nat) (ks : List Nat) : OnlyBank a a b ks := ⟨rfl, fun _ _ => rfl, fun _ _ => rfl, fun _ _ => rfl⟩

section
variable {a t : State} {b : Nat} {ks : List Nat}

theorem OnlyBank.trans {u : State} {ks' : List Nat} (h : OnlyBank a t b ks) (hu : OnlyBank t u b ks') (hks : ks' ⊆ ks) :
    OnlyBank a u b ks := by
  obtain ⟨heq, hbank, hchan, hregs⟩ := h
  obtain ⟨heq', hbank', hchan', hregs'⟩ := hu
  refine ⟨?_, fun j hj => (hbank' j hj).trans (hbank j hj), fun m hm => (hchan' m hm).trans (hchan m hm),
    fun k hk => (hregs' k fun hk' => hk (hks hk')).trans (hregs k hk)⟩
  rw [heq', heq]

theorem OnlyBank.r (h : OnlyBank a t b ks) {k : Nat} (hk : k ∉ ks) : t.r k = a.r k := by
  obtain ⟨-, -, -, hregs⟩ := h
  exact hregs k hk

theorem OnlyBank.w (h : OnlyBank a t b ks) (k v : Nat) (hk : k ∈ ks) : OnlyBank a (t.w k v) b ks := by
  obtain ⟨heq, hbank, hchan, hregs⟩ := h
  refine ⟨?_, hbank, hchan, fun j hj => ?_⟩
  · rw [heq]; rfl
  · rw [State.w_r, if_neg (fun e : j = k => hj (e ▸ hk)), hregs j hj]

theorem OnlyBank.bump (h : OnlyBank a t b ks) (k : Nat) (hk : k ∈ ks) : OnlyBank a (t.bump k) b ks := h.w k _ hk

theorem OnlyBank.wBank (h : OnlyBank a t b ks) (x : Bank) : OnlyBank a (t.wBank b x) b ks := by
  obtain ⟨heq, hbank, hchan, hregs⟩ := h
  refine ⟨?_, fun j hj => ?_, hchan, hregs⟩
  · rw [heq]; rfl
  · rw [State.wBank_bank, if_neg hj, hbank j hj]

theorem OnlyBank.drive (h : OnlyBank a t b ks) {n : Nat} (hn : n / 8 = b) (ls hb hh : Bool) : OnlyBank a (t.drive n ls hb hh) b ks := by
  obtain ⟨heq, hbank, hchan, hregs⟩ := h
  refine ⟨?_, fun j hj => ?_, fun m hm => ?_, fun k hk => ?_⟩
  · rw [drive_eq, heq]
  · rw [drive_bank, if_neg (hn ▸ hj), hbank j hj]
  · rw [drive_chan_ne _ _ _ _ _ _ (fun e => hm ((congrArg (· / 8) e).trans hn)), hchan m hm]
  · rw [drive_r, hregs k hk]

end

/-! ## Entering a phase -/

/-- Channel n has entered phase st with these gates, and beside its bank and channel only CH_STATE differs from a. -/
def Entered (a t : State) (n st : Nat) (ls hb hh : Bool) : Prop :=
  t.r (Reg.chsCH_STATE n) = st ∧ t.hasGates n ls hb hh ∧ OnlyBank a t (n / 8) [Reg.chsCH_STATE n]

/-- A phase that is noted in CH_STATE before its gates are set. -/
theorem entered_drive (s : State) (n st : Nat) (ls hb hh : Bool) :
    Entered s ((s.w (Reg.chsCH_STATE n) st).drive n ls hb hh) n st ls hb hh :=
  ⟨by simp, drive_hasGates _ _ _ _ _, ((OnlyBank.refl _ _ _).w _ _ List.mem_cons_self).drive rfl _ _ _⟩

section
variable {s : State} {n i : Nat}

theorem hold_enters :
    Entered s (s.hold n i) n 6 true false (s.chopOn (s.bank (n / 8)) i ((s.bank (n / 8)).p 7) ((s.bank (n / 8)).p 8)) := by
  obtain ⟨hst, hgates, honly⟩ :=
    entered_drive s n 6 true false (s.chopOn (s.bank (n / 8)) i ((s.bank (n / 8)).p 7) ((s.bank (n / 8)).p 8))
  exact ⟨hst, by simpa [State.hasGates, State.hold] using hgates, honly.wBank _⟩

theorem phDrop_enters (hi : (s.bank (n / 8)).p 7 < i) : Entered s (s.phDrop n i) n 5 (decide ((s.bank (n / 8)).p 6 = 0)) false false := by
  unfold State.phDrop
  rw [if_neg (by omega)]
  exact entered_drive s n 5 _ _ _

theorem peak_enters (hover : s.peakOver n = false) :
    Entered s (s.peak n i) n 4 true false (s.chopOn (s.bank (n / 8)) i ((s.bank (n / 8)).p 3) ((s.bank (n / 8)).p 4)) := by
  have hup : ¬ (s.bank (n / 8)).boostEnd + tenth ((s.bank (n / 8)).p 5) ≤ s.up := of_decide_eq_false hover
  unfold State.peak
  rw [if_neg hup]
  exact entered_drive s n 4 _ _ _

theorem fall_enters (hi : (s.bank (n / 8)).p 3 < i + (s.bank (n / 8)).p 4) (hpeak : (s.bank (n / 8)).p 5 ≠ 0) :
    Entered s (s.fall n i) n 3 true false false := by
  unfold State.fall
  rw [if_neg (by omega), if_neg hpeak]
  exact ⟨by simp, drive_hasGates _ _ _ _ _, (((OnlyBank.refl s _ _).wBank _).drive rfl _ _ _).w _ _ List.mem_cons_self⟩

end

/-! ## The ends of the phases -/

section
variable {a : State} {n i : Nat}

theorem boostOver_current (hph : a.inPhase n 2 = true) (hi : (a.bank (n / 8)).p 1 ≤ i)
    (hedge : a.since (a.bank (n / 8)).edgeAt 500 = true ∨ a.up = (a.bank (n / 8)).edge) : a.boostOver n i = a.fall n i := by
  simp [State.boostOver, hph, hi, hedge]

theorem boostOver_timeout (hph : a.inPhase n 2 = true) (hi : i < (a.bank (n / 8)).p 1)
    (hmax : a.since (a.bank (n / 8)).edge (tenth ((a.bank (n / 8)).p 2)) = true) :
    a.boostOver n i = (a.bump (Reg.chsBOOST_TIMEOUT n)).fall n i := by
  simp [State.boostOver, hph, Nat.not_le.2 hi, hmax]

theorem fallOver_peak (hph : a.inPhase n 3 = true) (hover : a.peakOver n = false) (hi : i + (a.bank (n / 8)).p 4 ≤ (a.bank (n / 8)).p 3)
    (hedge : a.since (a.bank (n / 8)).edgeAt 500 = true) : a.fallOver n i = a.peak n i := by
  simp [State.fallOver, hph, hover, hi, hedge]

theorem phDropOver_hold (hph : a.inPhase n 5 = true) (hi : i ≤ (a.bank (n / 8)).p 7)
    (hedge : a.since (a.bank (n / 8)).edgeAt 500 = true) : a.phDropOver n i = a.hold n i := by
  simp [State.phDropOver, hph, hi, hedge]

section
variable (hph : (a.inPhase n 4 || a.inPhase n 6) = true) (hedge : a.since (a.bank (n / 8)).edgeAt 500 = true)
  (hoff : a.since (a.bank (n / 8)).hhAt 1000 = true)
include hph hedge hoff

theorem chop_off (hh : (a.bank (n / 8)).hh = true)
    (hi : (if a.inPhase n 4 then (a.bank (n / 8)).p 3 else (a.bank (n / 8)).p 7) ≤ i) : a.chop n i = a.drive n true false false :=
  (if_neg (by simp [hph, hedge, hoff])).trans (if_pos ⟨hh, hi⟩)

theorem chop_on (hh : (a.bank (n / 8)).hh = false)
    (hi : i + (if a.inPhase n 4 then (a.bank (n / 8)).p 4 else (a.bank (n / 8)).p 8) ≤
      if a.inPhase n 4 then (a.bank (n / 8)).p 3 else (a.bank (n / 8)).p 7) :
    (a.chop n i).hasGates n true false true ∧ OnlyBank a (a.chop n i) (n / 8) [] := by
  have hgates := drive_hasGates a n true false true
  have honly := (OnlyBank.refl a (n / 8) []).drive rfl true false true
  have hchop : a.chop n i = if a.inPhase n 4 then a.drive n true false true else _ :=
    (if_neg (by simp [hph, hedge, hoff])).trans ((if_neg (by simp [hh])).trans (if_pos ⟨by simp [hh], hi⟩))
  rw [hchop]
  split
  · exact ⟨hgates, honly⟩
  · exact ⟨by simpa [State.hasGates] using hgates, honly.wBank _⟩

end

end

end Sys2Proof.Machine

open Sys2Proof Sys2Proof.Machine

/-- Settles O12: each command ends its phase, and entering the next one sets its gates and writes CH_STATE alone. -/
theorem injectorPhases : Obligations.InjectorPhases := by
  intro dt i n s a b x p may gates
  refine ⟨fun hph hi hedge hpk hT => ?_, fun hph hi hmax hpk hT => ?_, fun hph hover hi hedge => ?_, fun hph hover hi => ?_,
    fun hph hi hedge => ?_, fun hph hedge hoff => ⟨fun hh hi => ?_, fun hh hi => ⟨_, rfl, chop_on hph hedge hoff hh hi⟩⟩⟩
  all_goals refine ⟨_, rfl, ?_⟩
  · rw [boostOver_current hph hi hedge]
    exact fall_enters hpk hT
  · rw [boostOver_timeout hph hi hmax]
    obtain ⟨hst, hgates, honly⟩ := fall_enters (s := a.bump (Reg.chsBOOST_TIMEOUT n)) hpk hT
    have hkey : Reg.chsBOOST_TIMEOUT n ∉ [Reg.chsCH_STATE n] := by unfold Reg.chsBOOST_TIMEOUT Reg.chsCH_STATE; simp
    refine ⟨hst, hgates, ?_, ((OnlyBank.refl a b _).bump _ (by simp)).trans honly (by simp)⟩
    rw [honly.r hkey, State.bump_r, if_pos rfl]
  · rw [fallOver_peak hph hover hi hedge]
    have henter := peak_enters (s := a) (n := n) (i := i) hover
    rwa [State.chopOn, decide_eq_true hi, Bool.true_and] at henter
  · rw [show a.peakEnds n i = a.phDrop n i from if_pos (by simp [hph, hover])]
    exact phDrop_enters hi
  · rw [phDropOver_hold hph hi hedge]
    exact hold_enters
  · rw [chop_off hph hedge hoff hh hi]
    exact ⟨drive_hasGates _ _ _ _ _, (OnlyBank.refl _ _ _).drive rfl _ _ _⟩

end

section
/-! PROOFS. The end decay of an event: how it begins, turns fast and ends, the statement O13 (R265, R269, R272). -/

namespace Sys2Proof.Machine

/-! ## Updates of registers alone -/

/-- What every step of a repetition keeps, the repetition keeps. -/
theorem each_inv {α : Type} {P : State → Prop} {f : α → State → State} (h : ∀ a t, P t → P (f a t)) (l : List α) (s : State) (hs : P s) :
    P (s.each l f) := by
  unfold State.each
  induction l generalizing s with
  | nil => exact hs
  | cons a l ih => exact ih _ (h a s hs)

/-- States that agree without their registers differ in these only. -/
theorem eq_with_regs {s t : State} (h : ({ t with regs := [] } : State) = { s with regs := [] }) : t = { s with regs := t.regs } :=
  congrArg (fun u : State => { u with regs := t.regs }) h

theorem queuePub_eq (s : State) (b : Nat) : s.queuePub b = { s with regs := (s.queuePub b).regs } := by
  refine eq_with_regs (each_inv (P := fun t => ({ t with regs := [] } : State) = { s with regs := [] }) (fun n t ht => ?_)
    (chansOf b) _ rfl)
  dsimp only [State.when]
  split <;> exact ht

@[simp] theorem State.bump_bank (s : State) (k j : Nat) : (s.bump k).bank j = s.bank j := rfl

theorem bank_of_banks {s t : State} (h : t.banks = s.banks) (j : Nat) : t.bank j = s.bank j := by rw [State.bank, h, State.bank]

@[simp] theorem queuePub_bank (s : State) (b j : Nat) : (s.queuePub b).bank j = s.bank j := bank_of_banks (by rw [queuePub_eq]) j

theorem coil_eq (s : State) (n r : Nat) (injector : Bool) : s.coil n r injector = { s with regs := (s.coil n r injector).regs } := by
  unfold State.coil
  dsimp only
  split <;> rfl

@[simp] theorem coil_bank (s : State) (n r : Nat) (injector : Bool) (j : Nat) : (s.coil n r injector).bank j = s.bank j :=
  bank_of_banks (by rw [coil_eq]) j

@[simp] theorem State.used_bank (s : State) (j : Nat) : s.used.bank j = s.bank j := rfl

@[simp] theorem coil_pair (s : State) (n r : Nat) (injector : Bool) : (s.coil n r injector).pair = s.pair := by rw [coil_eq]

/-! ## The end of the decay -/

/-- The coil estimate leaves the parameters of the event and the pair (R270). -/
theorem holdEst_keeps (s : State) (n : Nat) (r : Option Nat) :
    ((s.holdEst n r).bank (n / 8)).par = (s.bank (n / 8)).par ∧ (s.holdEst n r).pair = s.pair := by
  unfold State.holdEst
  dsimp only
  split
  · cases r with
    | none => simp
    | some v => simp
  · exact ⟨rfl, rfl⟩

/-- The event of channel n has ended: its gates are off, no limit stands, and its bank is free after the gap; a decay that did not
end clean opens no measurement (R269, R272, R303). -/
theorem decayEnded_spec (s : State) (n : Nat) (clean : Bool) (r : Option Nat) :
    let t := s.decayEnded n clean r
    t.hasGates n false false false ∧ (t.bank (n / 8)).limitAt = none ∧
      (t.bank (n / 8)).freeAt = some (s.up + tenth (s.bank (n / 8)).par.gap) ∧ (clean = false → (t.bank (n / 8)).cd = none) ∧
      t.pair = s.pair := by
  obtain ⟨hpar, hpair⟩ := holdEst_keeps s n r
  generalize ht : s.decayEnded n clean r = t
  unfold State.decayEnded at ht
  extract_lets b s1 x cd s2 at ht
  subst ht
  have hgap : x.par = (s.bank b).par := by simp [x, s1, Bank.driven, hpar, b]
  have hpair1 : s1.pair = s.pair := by rw [← hpair]; simp only [s1]; rw [drive_eq]
  have hgates : s1.hasGates n false false false := drive_hasGates _ _ _ _ _
  refine ⟨by simpa [State.hasGates, s2, x, b] using hgates, by simp [s2, b], by simp [s2, hgap, b], fun h => by simp [s2, cd, h, b], ?_⟩
  have hpub : ((s2.w (Reg.chsCH_STATE n) 0).queuePub b).pair = s2.pair := by rw [queuePub_eq]; rfl
  exact hpub.trans hpair1

/-- Without a handover under way nothing is yielded (R497). -/
theorem handoverYield_idle (s : State) (h : s.pair.handover ≠ 2) : s.handoverYield = s := if_neg fun hc => h hc.1

/-! ## The start of the decay -/

/-- The end decay begins with a current above I_END: the phase, its gates, LAST_ON and the time (R269, R288). -/
theorem startDecay_spec (s : State) (n i : Nat) (hi : (s.bank (n / 8)).par.iEnd < i) :
    let t := s.startDecay n (some i)
    t.r (Reg.chsCH_STATE n) = 7 ∧ (t.bank (n / 8)).decayAt = some s.up ∧
      t.r (Reg.chsLAST_ON n) = min 0xFFFFFFFF ((s.up - (s.bank (n / 8)).first) / 100) ∧
      t.hasGates n (decide ((s.bank (n / 8)).p 9 ≠ 1)) false false ∧ OnlyBank s t (n / 8) [Reg.chsCH_STATE n, Reg.chsLAST_ON n] := by
  generalize ht : s.startDecay n (some i) = t
  unfold State.startDecay at ht
  extract_lets b x d s1 s2 s3 at ht
  obtain rfl : s3 = t := (if_neg (Nat.not_le.2 hi)).symm.trans ht
  have hne : Reg.chsLAST_ON n ≠ Reg.chsCH_STATE n := by unfold Reg.chsLAST_ON Reg.chsCH_STATE; omega
  have honly : OnlyBank s s2 b [Reg.chsCH_STATE n, Reg.chsLAST_ON n] :=
    (((OnlyBank.refl s b _).wBank _).w _ _ (by simp)).w _ _ (by simp)
  refine ⟨by simp [s3, s2], ?_, ?_, drive_hasGates _ _ _ _ _, honly.drive rfl _ _ _⟩
  · simp [s3, s2, s1, State.lastOn, Bank.driven, b]
  · simp [s3, s2, s1, State.lastOn, hne, b, x, State.up]

/-! ## A decay that turns fast, and its limit -/

theorem slowOver_turns {a : State} {n t0 : Nat} (hdec : (a.bank (n / 8)).decayAt = some t0) (hph : a.inPhase n 7 = true)
    (hfast : (a.bank (n / 8)).fast = false) (hmix : (a.bank (n / 8)).p 9 = 2)
    (hslow : a.since t0 (tenth ((a.bank (n / 8)).p 10)) = true) :
    a.slowOver n = State.drive (a.wBank (n / 8) { a.bank (n / 8) with fast := true }) n false false false := by
  unfold State.slowOver
  simp [hdec, hph, hfast, hmix, hslow]

theorem decayTooLong_turns {a : State} {n t0 : Nat} (hdec : (a.bank (n / 8)).decayAt = some t0) (hlim : (a.bank (n / 8)).limitAt = none)
    (hph : a.inPhase n 7 = true) (hlong : a.since t0 (tenth ((a.bank (n / 8)).p 11)) = true) :
    a.decayTooLong n = (State.drive (a.wBank (n / 8) { a.bank (n / 8) with fast := true, limitAt := some (a.up + 200000) }) n false false
      false).bump (Reg.bstDECAY_LONG (n / 8)) := by
  unfold State.decayTooLong
  simp [hdec, hlim, hph, hlong]

theorem decayLimited_ends {a : State} {n t0 : Nat} (hlim : (a.bank (n / 8)).limitAt = some t0) (hph : a.inPhase n 7 = true)
    (hup : t0 ≤ a.up) : a.decayLimited n = (a.decayEnded n false none).handoverYield := by
  unfold State.decayLimited
  simp [hlim, hph, hup]

end Sys2Proof.Machine

open Sys2Proof Sys2Proof.Machine

/-- Settles O13: the decay begins, turns fast and ends each by one setting of the gates of its bank. -/
theorem endDecay : Obligations.EndDecay := by
  intro dt i n s a b x p off
  refine ⟨fun hocc hdec hend hi => ?_, fun t0 hdec hph hfast hmix hslow => ?_, fun rEst hph hi hhand => ?_,
    fun t0 hdec hlim hph hlong => ?_, fun t0 hlim hup hph hhand => ?_⟩
  all_goals refine ⟨_, rfl, ?_⟩
  · rw [show a.durationOver n i = a.startDecay n (some i) from if_pos ⟨hocc, hdec, hend⟩]
    obtain ⟨hst, hat, hon, ⟨hls, hhb, hhh⟩, honly⟩ := startDecay_spec a n i hi
    exact ⟨hst, hat, hon, hls, hhb, hhh, honly⟩
  · rw [slowOver_turns hdec hph hfast hmix hslow]
    obtain ⟨hls, hhb, hhh⟩ := drive_hasGates (a.wBank b { x with fast := true }) n false false false
    exact ⟨by simp [Bank.driven, b], ⟨hls, hhb, hhh⟩, ((OnlyBank.refl a b []).wBank _).drive rfl _ _ _⟩
  · rw [show a.decayOver n i rEst = (a.decayEnded n true (some rEst)).handoverYield from if_pos ⟨hph, hi⟩]
    obtain ⟨hgates, hlim, hfree, -, hpair⟩ := decayEnded_spec a n true (some rEst)
    rw [handoverYield_idle _ (by rwa [hpair])]
    exact ⟨hgates, hlim, hfree⟩
  · rw [decayTooLong_turns hdec hlim hph hlong]
    have hgates := drive_hasGates (a.wBank b { x with fast := true, limitAt := some (a.up + 200000) }) n false false false
    exact ⟨by simp [Bank.driven, b], by simp [Bank.driven, b], hgates, by simp [State.bump_r, b],
      (((OnlyBank.refl a b [Reg.bstDECAY_LONG b]).wBank _).drive rfl _ _ _).bump _ List.mem_cons_self⟩
  · obtain ⟨hgates, -, hfree, hcd, hpair⟩ := decayEnded_spec a n false none
    rw [decayLimited_ends hlim hph hup, handoverYield_idle _ (by rwa [hpair])]
    exact ⟨hgates, hcd rfl, hfree⟩

end

section
/-! PROOFS. The proportional loop and the rail sample, the statement O14 (R268, R278-R281, R295). -/

namespace Sys2Proof.Machine

/-! ## Banks and channels under the updates of a PWM period -/

@[simp] theorem State.w_chan (s : State) (k v m : Nat) : (s.w k v).chan m = s.chan m := rfl
@[simp] theorem State.bump_chan (s : State) (k m : Nat) : (s.bump k).chan m = s.chan m := rfl
@[simp] theorem State.wChan_bank (s : State) (n : Nat) (x : Chan) (j : Nat) : (s.wChan n x).bank j = s.bank j := rfl
@[simp] theorem State.wAll_bank (s : State) (l : List (Nat × Nat)) (j : Nat) : (s.wAll l).bank j = s.bank j :=
  bank_of_banks (by rw [State.wAll_eq]) j
@[simp] theorem State.wAll_clk (s : State) (l : List (Nat × Nat)) : (s.wAll l).clk = s.clk := by rw [State.wAll_eq]
@[simp] theorem State.wAll_chan (s : State) (l : List (Nat × Nat)) (m : Nat) : (s.wAll l).chan m = s.chan m := by
  have h : (s.wAll l).chans = s.chans := by rw [State.wAll_eq]
  rw [State.chan, h, State.chan]

@[simp] theorem pwmDrive_r (s : State) (n k duty j : Nat) : (s.pwmDrive n k duty).r j = s.r j := rfl

/-- The bank at the start of a period: the hold high side is on, and the low side for an on-time that is issued (R279). -/
theorem pwmDrive_bank (s : State) (n k duty : Nat) :
    ((s.pwmDrive n k duty).bank (n / 8)).hh = true ∧
      bit (n % 8) ((s.pwmDrive n k duty).bank (n / 8)).ls = dutyOn duty (s.r (Reg.prpPWM_FREQ (n / 8))) := by
  unfold State.pwmDrive
  simp

/-- The channel at the start of period k: the accumulator stands, and the low side goes off at the end of an on-time that is shorter than
the period (R279). -/
theorem pwmDrive_chan (s : State) (n k duty : Nat) :
    ((s.pwmDrive n k duty).chan n).acc = (s.chan n).acc ∧ ((s.pwmDrive n k duty).chan n).pwmN = k + 1 ∧
      ((s.pwmDrive n k duty).chan n).offAt =
        if dutyOn duty (s.r (Reg.prpPWM_FREQ (n / 8))) && !dutyFull duty (s.r (Reg.prpPWM_FREQ (n / 8))) then some (s.pwmOff n k duty)
        else none := by
  unfold State.pwmDrive
  simp

/-- A duty of 0 issues no on-time. -/
theorem dutyOn_zero {freq : Nat} (h : freq ≠ 0) : dutyOn 0 freq = false := decide_eq_false (by omega)

theorem pwmOff_congr {s t : State} {n : Nat} (hbank : t.bank (n / 8) = s.bank (n / 8)) (hclk : t.clk = s.clk)
    (hfreq : t.r (Reg.prpPWM_FREQ (n / 8)) = s.r (Reg.prpPWM_FREQ (n / 8))) (k duty : Nat) : t.pwmOff n k duty = s.pwmOff n k duty := by
  unfold State.pwmOff State.pwmBase State.up
  dsimp only
  rw [hbank, hclk, hfreq]

/-! ## A period that is due -/

/-- What a period writes of the current before the loop (R278). -/
def State.pwmSeen (s : State) (n iAvg iSet : Nat) : State := s.wAll [(Reg.chsI_AVG n, min 65535 iAvg), (Reg.chsI_SET n, iSet)]

/-- Of the registers, a period's current reaches I_AVG and I_SET alone. -/
theorem pwmSeen_r (s : State) (n iAvg iSet j : Nat) (hj : j ≠ Reg.chsI_AVG n ∧ j ≠ Reg.chsI_SET n) : (s.pwmSeen n iAvg iSet).r j = s.r j :=
  State.wAll_r_ne _ _ _ (by simp [hj.1.symm, hj.2.symm])

/-- The keys of a bank are none of a channel's. -/
theorem pwmSeen_r_bank (s : State) (n iAvg iSet j : Nat) (hj : j < 0x540000) : (s.pwmSeen n iAvg iSet).r j = s.r j :=
  pwmSeen_r s n iAvg iSet j (by unfold Reg.chsI_AVG Reg.chsI_SET; omega)

theorem pwmSeen_chFaulty (s : State) (n iAvg iSet : Nat) : (s.pwmSeen n iAvg iSet).chFaulty n = s.chFaulty n := by
  unfold State.chFaulty
  rw [pwmSeen_r _ _ _ _ _ (by unfold Reg.chdCH_FAULT Reg.chsI_AVG Reg.chsI_SET; omega)]

theorem pwmSeen_iRef (s : State) {n : Nat} (hn : n < 192) (iAvg iSet i : Nat) : (s.pwmSeen n iAvg iSet).iRef n i = s.iRef n i := by
  have hup : (s.pwmSeen n iAvg iSet).up = s.up := congrArg Clk.up (State.wAll_clk _ _)
  unfold State.iRef
  dsimp only
  rw [pwmSeen_r _ _ _ _ (Reg.chI_FULL n) (by unfold Reg.chI_FULL Reg.chsI_AVG Reg.chsI_SET; omega),
    pwmSeen_r_bank _ _ _ _ (Reg.prpDITHER_FREQ (n / 8)) (by unfold Reg.prpDITHER_FREQ; omega),
    pwmSeen_r_bank _ _ _ _ (Reg.prpDITHER_AMP (n / 8)) (by unfold Reg.prpDITHER_AMP; omega), hup]

/-- What a period makes of the state: the current seen, the channel's loop, its low side for a duty, DUTY and CH_STATE. -/
def State.pwmPeriod (s : State) (n k iAvg iSet : Nat) (y : Chan) (duty st : Nat) : State :=
  (((s.pwmSeen n iAvg iSet).wChan n y).pwmDrive n k duty).wAll [(Reg.chsDUTY n, duty), (Reg.chsCH_STATE n, st)]

section
variable (s : State) {n : Nat} (hn : n < 192) (k iAvg iSet : Nat) (y : Chan) (duty st : Nat)

theorem pwmPeriod_regs : let t := s.pwmPeriod n k iAvg iSet y duty st
    t.r (Reg.chsDUTY n) = duty ∧ t.r (Reg.chsI_SET n) = iSet ∧ t.r (Reg.chsI_AVG n) = min 65535 iAvg ∧ t.r (Reg.chsCH_STATE n) = st := by
  simp [State.pwmPeriod, State.pwmSeen, State.wAll, Reg.chsDUTY, Reg.chsI_SET, Reg.chsI_AVG, Reg.chsCH_STATE]

include hn

theorem pwmPeriod_gates : let t := s.pwmPeriod n k iAvg iSet y duty st
    (t.bank (n / 8)).hh = true ∧ bit (n % 8) (t.bank (n / 8)).ls = dutyOn duty (s.r (Reg.prpPWM_FREQ (n / 8))) := by
  have hfreq := pwmSeen_r_bank s n iAvg iSet (Reg.prpPWM_FREQ (n / 8)) (by unfold Reg.prpPWM_FREQ; omega)
  have hdrive := pwmDrive_bank ((s.pwmSeen n iAvg iSet).wChan n y) n k duty
  rw [State.wChan_r, hfreq] at hdrive
  simpa [State.pwmPeriod] using hdrive

theorem pwmPeriod_chan : let t := s.pwmPeriod n k iAvg iSet y duty st
    (t.chan n).acc = y.acc ∧ (t.chan n).pwmN = k + 1 ∧ (t.chan n).offAt =
      if dutyOn duty (s.r (Reg.prpPWM_FREQ (n / 8))) && !dutyFull duty (s.r (Reg.prpPWM_FREQ (n / 8))) then some (s.pwmOff n k duty)
      else none := by
  have hfreq := pwmSeen_r_bank s n iAvg iSet (Reg.prpPWM_FREQ (n / 8)) (by unfold Reg.prpPWM_FREQ; omega)
  have hoff : ((s.pwmSeen n iAvg iSet).wChan n y).pwmOff n k duty = s.pwmOff n k duty :=
    pwmOff_congr (by simp [State.pwmSeen]) (by simp [State.pwmSeen]) (by simpa using hfreq) k duty
  have hdrive := pwmDrive_chan ((s.pwmSeen n iAvg iSet).wChan n y) n k duty
  rw [State.wChan_r, hfreq, hoff] at hdrive
  simpa [State.pwmPeriod] using hdrive

end

/-- Counting under a condition leaves banks, channels and every other register. -/
theorem when_bump_keeps (s : State) (c : Bool) (k : Nat) : let t := s.when c fun u => u.bump k
    (∀ j, t.bank j = s.bank j) ∧ (∀ m, t.chan m = s.chan m) ∧ (∀ j, j ≠ k → t.r j = s.r j) ∧
      t.r k = if c then min 0xFFFFFFFF (s.r k + 1) else s.r k := by
  cases c with
  | false => exact ⟨fun _ => rfl, fun _ => rfl, fun _ _ => rfl, rfl⟩
  | true => exact ⟨fun _ => rfl, fun _ => rfl, fun j hj => (State.bump_r _ _ _).trans (if_neg hj), (State.bump_r _ _ _).trans (if_pos rfl)⟩

section
variable {s : State} {n k iAvg : Nat} (hst : s.r (Reg.bkBANK_STATE (n / 8)) = 4) (hty : s.r (Reg.bkBANK_TYPE (n / 8)) = 2)
  (hidx : s.pwmIndex n = some k) (hk : (s.chan n).pwmN ≤ k)
include hst hty hidx hk

theorem pwm_idle (hset : (s.iDue (s.chan n)).1 = 0) : ∃ y : Chan, y.acc = 0 ∧
    s.pwm n iAvg = s.pwmPeriod n k iAvg 0 y 0 0 := by
  have hdue : s.pwmDue n = true := by simp [State.pwmDue, hidx, hk]
  unfold State.pwm
  dsimp only
  rw [if_neg (by simp [hst, hty, hdue]), hset, hidx, if_pos (.inl rfl)]
  exact ⟨_, rfl, rfl⟩

theorem pwm_loop {iSet : Nat} {l : Int × Nat × Bool × Bool} (hset : (s.iDue (s.chan n)).1 = iSet)
    (hl : pwmLoop (s.r (Reg.prpCUR_KP (n / 8))) (s.r (Reg.prpCUR_KI (n / 8))) (s.chan n).acc (s.iRef n iSet) iAvg = l)
    (hne : iSet ≠ 0) (hfault : s.r (Reg.chdCH_FAULT n) = 0) (hfro : (s.chan n).frozen = none) (hn : n < 192) :
    ∃ (y : Chan) (sat : Bool), y.acc = l.1 ∧
      s.pwm n iAvg = (s.pwmPeriod n k iAvg iSet y l.2.1 8).when sat fun t => t.bump (Reg.chsDUTY_SAT n) := by
  have hdue : s.pwmDue n = true := by simp [State.pwmDue, hidx, hk]
  have hnofault : (s.pwmSeen n iAvg iSet).chFaulty n = false := by rw [pwmSeen_chFaulty]; simp [State.chFaulty, hfault]
  have hl' : pwmLoop ((s.pwmSeen n iAvg iSet).r (Reg.prpCUR_KP (n / 8))) ((s.pwmSeen n iAvg iSet).r (Reg.prpCUR_KI (n / 8)))
      (s.chan n).acc ((s.pwmSeen n iAvg iSet).iRef n iSet) iAvg = l := by
    rw [pwmSeen_r_bank _ _ _ _ _ (by unfold Reg.prpCUR_KP; omega), pwmSeen_r_bank _ _ _ _ _ (by unfold Reg.prpCUR_KI; omega),
      pwmSeen_iRef s hn, hl]
  unfold State.pwm
  dsimp only
  rw [if_neg (by simp [hst, hty, hdue]), hset, hidx, hfro,
    if_neg (not_or.2 ⟨hne, by rw [← State.pwmSeen, hnofault]; exact Bool.false_ne_true⟩), ← hl']
  exact ⟨_, _, rfl, rfl⟩

end

/-! ## The rail sample -/

/-- The sample of a boost turn-on 2 µs ago (R268). -/
theorem boostSample_taken {s : State} {c shs t0 : Nat} (hty : s.r (Reg.bkBANK_TYPE c) = 1) (hon : (s.bank c).hbOn = some t0)
    (hs : s.since t0 2000 = true) (hmin : (s.par c).vboostMin ≠ 0) :
    s.boostSample c shs = ((s.wBank c { s.bank c with hbOn := none }).w (Reg.bstBOOST_V c) (min 65535 ((shs + 50) / 100))).when
      (decide (shs < 100 * (s.par c).vboostMin)) fun u => u.bump (Reg.bstLOW_BOOST c) := by
  unfold State.boostSample
  rw [hon]
  dsimp only
  rw [if_pos ⟨hty, hs⟩, State.when, if_pos (decide_eq_true hmin)]

theorem boostSample_regs {s : State} {c shs t0 : Nat} (hty : s.r (Reg.bkBANK_TYPE c) = 1) (hon : (s.bank c).hbOn = some t0)
    (hs : s.since t0 2000 = true) (hmin : (s.par c).vboostMin ≠ 0) :
    let t := s.boostSample c shs
    t.r (Reg.bstBOOST_V c) = min 65535 ((shs + 50) / 100) ∧ t.bank c = { s.bank c with hbOn := none } ∧
      t.r (Reg.bstLOW_BOOST c) = if shs < 100 * (s.par c).vboostMin then min 0xFFFFFFFF (s.r (Reg.bstLOW_BOOST c) + 1)
        else s.r (Reg.bstLOW_BOOST c) := by
  have hne : Reg.bstBOOST_V c ≠ Reg.bstLOW_BOOST c := by unfold Reg.bstBOOST_V Reg.bstLOW_BOOST; omega
  rw [boostSample_taken hty hon hs hmin]
  obtain ⟨hbank, -, hother, hcount⟩ := when_bump_keeps ((s.wBank c { s.bank c with hbOn := none }).w (Reg.bstBOOST_V c)
    (min 65535 ((shs + 50) / 100))) (decide (shs < 100 * (s.par c).vboostMin)) (Reg.bstLOW_BOOST c)
  refine ⟨(hother _ hne).trans (by simp), (hbank c).trans (by simp), hcount.trans (by simp [hne.symm])⟩

/-- A boost high side that has gone off is not judged (R295). -/
theorem railCheck_off {s : State} {c shs : Nat} (hhb : (s.bank c).hb = false) : s.railCheck c true shs = s.boostSample c shs :=
  if_pos (.inr (.inl hhb))

/-- A rail that has risen passes the check (R295). -/
theorem railCheck_risen {s : State} {c shs : Nat} (hty : s.r (Reg.bkBANK_TYPE c) = 1) (hhb : (s.bank c).hb = true)
    (hs : s.since (s.bank c).hsAt 2000 = true) (hrise : (s.par c).railRise * s.r Reg.railVBOOST ≤ 100 * shs) :
    s.railCheck c true shs = (s.boostSample c shs).wBank c { (s.boostSample c shs).bank c with railOk := true } :=
  (if_neg (by simp [hty, hhb, hs])).trans (if_neg (Nat.not_lt.2 hrise))

end Sys2Proof.Machine

open Sys2Proof Sys2Proof.Machine

/-- Settles O14. -/
theorem proportionalLoop : Obligations.ProportionalLoop := by
  intro dt iAvg n s a b c iSet freq
  refine ⟨fun k hst hty hfreq hidx hk => ⟨fun hset => ?_, fun hset hfault hfro => ?_⟩, fun c shs t0 hty hon hs hmin hrail => ?_⟩
  · refine ⟨_, rfl, ?_⟩
    obtain ⟨y, hacc, hpwm⟩ := pwm_idle (iAvg := iAvg) hst hty hidx hk hset
    obtain ⟨hduty, hiset, -, -⟩ := pwmPeriod_regs a (n := n) k iAvg 0 y 0 0
    obtain ⟨hhh, hls⟩ := pwmPeriod_gates a n.isLt k iAvg 0 y 0 0
    obtain ⟨hacc', -, -⟩ := pwmPeriod_chan a n.isLt k iAvg 0 y 0 0
    rw [hpwm]
    exact ⟨hduty, hiset, hacc'.trans hacc, hls.trans (dutyOn_zero hfreq), hhh⟩
  · intro l
    obtain ⟨y, sat, hacc, hpwm⟩ := pwm_loop (iAvg := iAvg) (iSet := iSet) (l := l) hst hty hidx hk rfl rfl hset hfault hfro n.isLt
    obtain ⟨hduty, hiset, havg, hch⟩ := pwmPeriod_regs a (n := n) k iAvg iSet y l.2.1 8
    obtain ⟨hhh, hls⟩ := pwmPeriod_gates a n.isLt k iAvg iSet y l.2.1 8
    obtain ⟨hacc', hnext, hoff⟩ := pwmPeriod_chan a n.isLt k iAvg iSet y l.2.1 8
    obtain ⟨hbank, hchan, hother, -⟩ := when_bump_keeps (a.pwmPeriod n k iAvg iSet y l.2.1 8) sat (Reg.chsDUTY_SAT n)
    refine ⟨_, congrArg Host.Outcome.next hpwm, ?_⟩
    simp only [hbank, hchan]
    refine ⟨(hother _ ?_).trans hduty, (hother _ ?_).trans hiset, (hother _ ?_).trans havg, (hother _ ?_).trans hch, hacc'.trans hacc,
      hhh, hls, hnext, hoff⟩ <;> simp [Reg.chsDUTY, Reg.chsI_SET, Reg.chsI_AVG, Reg.chsCH_STATE, Reg.chsDUTY_SAT]
  · obtain ⟨hv, hbank, hlow⟩ := boostSample_regs (shs := shs) hty hon hs hmin
    refine ⟨_, rfl, ?_⟩
    cases hhb : (a.bank c).hb with
    | false =>
      rw [railCheck_off hhb, hbank]
      exact ⟨hv, rfl, fun h => absurd h Bool.false_ne_true, hlow⟩
    | true =>
      obtain ⟨hat, hrise⟩ := hrail.resolve_left (by simp [hhb])
      rw [railCheck_risen hty hhb hat hrise, State.wBank_bank, if_pos rfl, hbank]
      exact ⟨hv, rfl, fun _ => rfl, hlow⟩

end

section
/-! PROOFS. Requests of injector events: how a TEST_PULSE queues one, how one is dropped and started, and how a bank becomes free, the
statement O11 (R266, R272-R274, R287). -/

namespace Sys2Proof.Machine

/-! ## What requests read of the state -/

/-- The acceptance of an action leaves banks, times and the registers outside the bookkeeping. -/
theorem actStart_leaves (s : State) (src key v len : Nat) : let t := s.actStart src key v len
    t.banks = s.banks ∧ t.clk = s.clk ∧ t.tick = s.tick ∧ ∀ k, bookKey k = false → t.r k = s.r k := by
  have hbook := book_actStart s src key v len
  have hparts := toADie_eq s key
  refine ⟨?_, ?_, ?_, fun k hk => (book_r hbook k hk).trans (by rw [State.r, regs_toADie]; rfl)⟩ <;> rw [book_eq hbook, hparts]

/-- The zone of a channel is one of the zones' own registers. -/
theorem zoneOf_congr {s t : State} (h : ∀ k, bookKey k = false → t.r k = s.r k) (n : Nat) : t.zoneOf n = s.zoneOf n := by
  refine List.find?_congr fun z hz => ?_
  have hz := List.mem_range.1 hz
  rw [h (Reg.zoCHANNEL z) (bookKey_of_mid (by unfold Reg.zoCHANNEL; omega) (by unfold Reg.zoCHANNEL; omega)),
    h (Reg.zbZONE_RUN z) (bookKey_of_mid (by unfold Reg.zbZONE_RUN; omega) (by unfold Reg.zbZONE_RUN; omega))]

theorem nextTickAt_congr {s t : State} (hclk : t.clk = s.clk) (htick : t.tick = s.tick)
    (hr : t.r Reg.opTICK_PERIOD = s.r Reg.opTICK_PERIOD) : t.nextTickAt = s.nextTickAt := by
  rw [State.nextTickAt, State.up, State.now, hclk, htick, hr]
  rfl

/-! ## The queue's registers -/

/-- Publishing the queue of a bank writes QUEUE_DEPTH and the CH_STATE of channels that are idle or queued. -/
theorem queuePub_r (s : State) (b k : Nat) (hdepth : k ≠ Reg.bstQUEUE_DEPTH b) (hbusy : ∀ m, k = Reg.chsCH_STATE m → 1 < s.r k) :
    (s.queuePub b).r k = s.r k := by
  refine each_inv (P := fun t => t.r k = s.r k) (fun m t ht => ?_) (chansOf b) _ ((State.w_r _ _ _ _).trans (if_neg hdepth))
  dsimp only [State.when]
  split
  next hidle =>
    have hne : k ≠ Reg.chsCH_STATE m := fun e => by
      have hgt := hbusy m e
      rw [← e, ht, decide_eq_true_eq] at hidle
      omega
    rw [State.w_r, if_neg hne, ht]
  next => exact ht

@[simp] theorem queuePub_clk (s : State) (b : Nat) : (s.queuePub b).clk = s.clk := by rw [queuePub_eq]

@[simp] theorem queuePub_od (s : State) (b : Nat) : (s.queuePub b).od = s.od := by rw [queuePub_eq]

@[simp] theorem d2dTraffic_bank (s : State) (j : Nat) : s.d2dTraffic.bank j = s.bank j := by unfold State.d2dTraffic; split <;> rfl

@[simp] theorem d2dTraffic_r (s : State) (k : Nat) : s.d2dTraffic.r k = s.r k := by unfold State.d2dTraffic; split <;> rfl

@[simp] theorem d2dTraffic_clk (s : State) : s.d2dTraffic.clk = s.clk := by unfold State.d2dTraffic; split <;> rfl

/-! ## Requests made and dropped -/

theorem dropReq_rsp (s : State) (q : Req) : (s.dropReq q).od.rsp = s.od.rsp := by
  unfold State.dropReq State.when
  dsimp only
  split
  · exact actDone_rsp _ _ _ _
  · rfl

/-- A request for a bank that no event occupies is queued, whatever is dropped for it (R274, R275). -/
theorem request_queues (s : State) (q : Req) (hre : q.re = false) (hocc : (s.bank (q.ch / 8)).occ = none) :
    (s.request q).od.rsp = s.od.rsp ∧ q ∈ ((s.request q).bank (q.ch / 8)).queue := by
  generalize ht : s.request q = t
  unfold State.request at ht
  extract_lets b x mode running e lim s1 s2 q1 old s3 at ht
  have hrun : running = false := by simp [running, x, b, hocc]
  have hq1 : q1 = q := by
    simp only [q1, hrun, Bool.false_and]
    rw [← hre]
  have hrsp : s3.od.rsp = s.od.rsp :=
    each_inv (P := fun t => t.od.rsp = s.od.rsp) (fun p t ht => (dropReq_rsp t p).trans ht) old s rfl
  rw [if_neg (by simp [hrun]), hq1] at ht
  subst ht
  exact ⟨(congrArg Od.rsp (queuePub_od _ _)).trans hrsp, by simp [b]⟩

/-- The result object of a TEST_PULSE is its TEST_RESULT, a number. -/
theorem testPulse_result (n : Fin 192) : resultOf (Reg.chTEST_PULSE n) = some (Reg.chTEST_RESULT n) ∧
    ((rowAt (Reg.chTEST_RESULT n)).any fun (r : ObjRow) => decide (r.ty = Ty.str)) = false ∧ keySize (Reg.chTEST_PULSE n) = 4 := by
  revert n
  decide +kernel

section
variable {s : State} {n v : Nat}

theorem testRun_requests (hst : s.r (Reg.bkBANK_STATE (n / 8)) = 4) (hty : s.r (Reg.bkBANK_TYPE (n / 8)) = 1) (hz : s.zoneOf n = none)
    (hlo : 100 ≤ v) (hhi : v ≤ s.r (Reg.chMAX_ON n)) (hfault : s.r (Reg.chdCH_FAULT n) = 0) :
    s.testRun n v = s.request { ch := n, dur := v, ts := s.nextTickAt + 30000, prio := 7, made := s.up
                                deadline := s.nextTickAt + 30000 + tenth (s.r (Reg.chEV_DEADLINE n)), test := true } := by
  unfold State.testRun State.chFaulty
  simp [hst, hty, hz, hfault, Nat.not_lt.2 hlo, Nat.not_lt.2 hhi]

theorem testRun_notArmed (hst : s.r (Reg.bkBANK_STATE (n / 8)) ≠ 4) : s.testRun n v = s.actDone (Reg.chTEST_PULSE n) 1 false :=
  if_pos (.inl hst)

end

/-- What a TEST_PULSE reads of the state that its acceptance leaves (R287, R448). -/
theorem testPulse_started (s : State) (n : Fin 192) (src v : Nat) : let t := s.actStart src (Reg.chTEST_PULSE n) v 4
    (∀ j, t.bank j = s.bank j) ∧ t.zoneOf n = s.zoneOf n ∧ t.nextTickAt = s.nextTickAt ∧ t.up = s.up ∧
      ∀ k, 0x500000 ≤ k → k < 0x600000 → t.r k = s.r k := by
  obtain ⟨hbanks, hclk, htick, hr⟩ := actStart_leaves s src (Reg.chTEST_PULSE n) v 4
  exact ⟨bank_of_banks hbanks, zoneOf_congr hr n, nextTickAt_congr hclk htick (hr _ (by decide)), congrArg Clk.up hclk,
    fun k hlo hhi => hr k (bookKey_of_mid (by omega) hhi)⟩

section
variable (a : State) (n : Fin 192) (src v : Nat)

/-- A TEST_PULSE whose checks pass answers its token and queues its request (R287). -/
theorem testPulse_queues (hst : a.r (Reg.bkBANK_STATE (n / 8)) = 4) (hty : a.r (Reg.bkBANK_TYPE (n / 8)) = 1) (hz : a.zoneOf n = none)
    (hlo : 100 ≤ v) (hhi : v ≤ a.r (Reg.chMAX_ON n)) (hfault : a.r (Reg.chdCH_FAULT n) = 0) (hocc : (a.bank (n / 8)).occ = none) :
    let t := (a.actStart src (Reg.chTEST_PULSE n) v 4).testRun n v
    t.od.rsp = ⟨0, a.nextToken, []⟩ ∧
      ⟨n, v, a.nextTickAt + 30000, 7, a.up, a.nextTickAt + 30000 + tenth (a.r (Reg.chEV_DEADLINE n)), false, true⟩ ∈
        (t.bank (n / 8)).queue := by
  obtain ⟨hbank, hzone, hnext, hup, hr⟩ := testPulse_started a n src v
  have hrsp := (actStart_spec a src (Reg.chTEST_PULSE n) v 4).1
  generalize a.actStart src (Reg.chTEST_PULSE n) v 4 = t at *
  rw [← hr _ (by unfold Reg.bkBANK_STATE; omega) (by unfold Reg.bkBANK_STATE; omega)] at hst
  rw [← hr _ (by unfold Reg.bkBANK_TYPE; omega) (by unfold Reg.bkBANK_TYPE; omega)] at hty
  rw [← hr _ (by unfold Reg.chMAX_ON; omega) (by unfold Reg.chMAX_ON; omega)] at hhi
  rw [← hr _ (by unfold Reg.chdCH_FAULT; omega) (by unfold Reg.chdCH_FAULT; omega)] at hfault
  rw [testRun_requests hst hty (hzone.trans hz) hlo hhi hfault, hnext, hup,
    hr _ (by unfold Reg.chEV_DEADLINE; omega) (by unfold Reg.chEV_DEADLINE; omega)]
  obtain ⟨hkeep, hmem⟩ := request_queues t ⟨n, v, a.nextTickAt + 30000, 7, a.up,
    a.nextTickAt + 30000 + tenth (a.r (Reg.chEV_DEADLINE n)), false, true⟩ rfl ((congrArg Bank.occ (hbank _)).trans hocc)
  exact ⟨hkeep.trans hrsp, hmem⟩

/-- A TEST_PULSE of a bank that is not ARMED is refused, and its bank stands (R287). -/
theorem testPulse_notArmed (hst : a.r (Reg.bkBANK_STATE (n / 8)) ≠ 4) : let t := (a.actStart src (Reg.chTEST_PULSE n) v 4).testRun n v
    t.r (Reg.chTEST_RESULT n) = 1 ∧ t.bank (n / 8) = a.bank (n / 8) := by
  obtain ⟨hresult, hnumber, -⟩ := testPulse_result n
  obtain ⟨hbank, -, -, -, hr⟩ := testPulse_started a n src v
  have hbusy := actStart_busy a src (Reg.chTEST_PULSE n) v 4
  generalize a.actStart src (Reg.chTEST_PULSE n) v 4 = t at *
  rw [← hr _ (by unfold Reg.bkBANK_STATE; omega) (by unfold Reg.bkBANK_STATE; omega)] at hst
  rw [testRun_notArmed hst]
  exact ⟨actDone_r_result _ _ _ _ _ (bookKey_of_mid (by unfold Reg.chTEST_RESULT; omega) (by unfold Reg.chTEST_RESULT; omega))
    hresult hnumber hbusy, (bank_of_banks (by rw [actDone_eq]) _).trans (hbank _)⟩

end

/-- A request that is not a test pulse and has passed its deadline is dropped and counted for channel and bank (R274). -/
theorem deadline_drops (s : State) (n : Nat) (q : Req)
    (hq : (s.bank (n / 8)).queue.find? (fun q => decide (q.ch = n ∧ q.deadline ≤ s.up) && !q.re) = some q) (htest : q.test = false) :
    let t := s.deadline n
    (∀ p ∈ (t.bank (n / 8)).queue, p.ch ≠ n) ∧
      t.r (Reg.chsBANK_OVERLAP n) = min 0xFFFFFFFF (s.r (Reg.chsBANK_OVERLAP n) + 1) ∧
      t.r (Reg.bstBANK_OVERLAP (n / 8)) = min 0xFFFFFFFF (s.r (Reg.bstBANK_OVERLAP (n / 8)) + 1) := by
  have hch : q.ch = n := by
    have := List.find?_some hq
    simp only [Bool.and_eq_true, decide_eq_true_eq] at this
    exact this.1.1
  have hdrop : s.deadline n = (((s.wBank (n / 8) { s.bank (n / 8) with queue := (s.bank (n / 8)).queue.filter fun p => p.ch ≠ n }).bump
      (Reg.chsBANK_OVERLAP n)).bump (Reg.bstBANK_OVERLAP (n / 8))).queuePub (n / 8) := by
    unfold State.deadline
    dsimp only
    rw [hq]
    simp [State.dropReq, State.when, htest, hch]
  rw [hdrop]
  refine ⟨by simp, ?_, ?_⟩
  · rw [queuePub_r _ _ _ (by unfold Reg.chsBANK_OVERLAP Reg.bstQUEUE_DEPTH; omega)
      (fun m h => by unfold Reg.chsBANK_OVERLAP Reg.chsCH_STATE at h; omega), State.bump_r, if_neg, State.bump_r, if_pos rfl]
    · rfl
    · unfold Reg.chsBANK_OVERLAP Reg.bstBANK_OVERLAP
      omega
  · rw [queuePub_r _ _ _ (by unfold Reg.bstBANK_OVERLAP Reg.bstQUEUE_DEPTH; omega)
      (fun m h => by unfold Reg.bstBANK_OVERLAP Reg.chsCH_STATE at h; omega), State.bump_r, if_pos rfl, State.bump_r, if_neg]
    · rfl
    · unfold Reg.chsBANK_OVERLAP Reg.bstBANK_OVERLAP
      omega

/-! ## The start of an event -/

theorem firstEligible_single {s : State} {b : Nat} {q : Req} (hq : (s.bank b).queue = [q]) (hts : q.ts ≤ s.up) :
    s.firstEligible b = some q := by
  simp [State.firstEligible, hq, hts, sortBy, insertBy]

/-- The first gate edge of an event: BOOST with its gates, the event's times and LAST_START (R266, R273). -/
theorem boost_spec (s : State) (n dur : Nat) : let t := s.boost n dur false
    ((t.bank (n / 8)).occ = some n ∧ (t.bank (n / 8)).queue = (s.bank (n / 8)).queue ∧ (t.bank (n / 8)).first = s.up ∧
      (t.bank (n / 8)).endAt = s.up + tenth dur) ∧
    t.hasGates n true true false ∧ t.r (Reg.chsCH_STATE n) = 2 ∧ t.r (Reg.chsLAST_START n) = s.now := by
  generalize ht : s.boost n dur false = t
  unfold State.boost at ht
  extract_lets b x y s1 s2 at ht
  rw [if_neg Bool.false_ne_true] at ht
  have hgates : s2.hasGates n true true false := by simpa [State.hasGates, s2] using drive_hasGates s1 n true true false
  have hne : Reg.chsCH_STATE n ≠ Reg.chsLAST_START n ∧ Reg.chsCH_STATE n ≠ Reg.chsEVENTS n ∧ Reg.chsLAST_START n ≠ Reg.chsEVENTS n ∧
      Reg.chsCH_STATE n ≠ Reg.bstEVENTS b ∧ Reg.chsLAST_START n ≠ Reg.bstEVENTS b := by
    unfold Reg.chsCH_STATE Reg.chsLAST_START Reg.chsEVENTS Reg.bstEVENTS
    omega
  subst ht
  refine ⟨by simp [s2, s1, y, Bank.driven, b, x], hgates, ?_, ?_⟩
  · simp [State.bump_r, hne, s2, s1]
  · have hnow : s2.now = s.now := by simp [State.now, s2, s1]
    rw [← hnow]
    simp [State.bump_r, hne]

/-- The start of a request's event where no closing measurement is open: the request leaves the queue and BOOST begins (R273). -/
theorem startEvent_spec (s : State) (q : Req) (pts : List Int) (hcd : (s.bank (q.ch / 8)).cd = none)
    (hq : (s.bank (q.ch / 8)).queue = [q]) (htest : q.test = false) : let t := s.startEvent q pts
    ((t.bank (q.ch / 8)).occ = some q.ch ∧ (t.bank (q.ch / 8)).queue = [] ∧ (t.bank (q.ch / 8)).first = s.up ∧
      (t.bank (q.ch / 8)).endAt = s.up + tenth q.dur) ∧
    t.hasGates q.ch true true false ∧ t.r (Reg.chsCH_STATE q.ch) = 2 ∧ t.r (Reg.chsLAST_START q.ch) = s.now := by
  generalize ht : s.startEvent q pts = t
  unfold State.startEvent at ht
  extract_lets b s1 x s2 s3 w s4 at ht
  have h1 : s1 = s := by simp only [s1, State.cdEnd, b, hcd]
  have h3 : s3 = s2 := by simp only [s3, State.when, htest, Bool.false_eq_true, if_false]
  have hup : s4.up = s.up := by simp [s4, h3, s2, h1, State.up]
  have hnow : s4.now = s.now := by simp [s4, h3, s2, h1, State.now]
  have hqueue : (s4.bank b).queue = [] := by simp [s4, h3, s2, x, h1, b, hq]
  obtain ⟨⟨hocc, hq', hfirst, hend⟩, hgates, hst, hlast⟩ := boost_spec s4 q.ch q.dur
  subst ht
  refine ⟨?_, ?_, ?_, ?_⟩
  · simp only [queuePub_bank]
    exact ⟨hocc, hq'.trans hqueue, hfirst.trans hup, by rw [hend, hup]⟩
  · simpa [State.hasGates] using hgates
  · rw [queuePub_r _ _ _ (by unfold Reg.chsCH_STATE Reg.bstQUEUE_DEPTH; omega) (fun _ _ => by rw [hst]; decide), hst]
  · rw [queuePub_r _ _ _ (by unfold Reg.chsLAST_START Reg.bstQUEUE_DEPTH; omega)
      (fun m h => by unfold Reg.chsLAST_START Reg.chsCH_STATE at h; omega), hlast, hnow]

section
variable {s : State} {n : Nat} {q : Req} (pts : List Int) (hn : n < 192) (hq : (s.bank (n / 8)).queue = [q]) (hch : q.ch = n)
  (hts : q.ts ≤ s.up) (hre : q.re = false) (hocc : (s.bank (n / 8)).occ = none) (hst : s.r (Reg.bkBANK_STATE (n / 8)) = 4)
  (hty : s.r (Reg.bkBANK_TYPE (n / 8)) = 1)
include hn hq hch hts hre hocc hst hty

/-- The only request of a free ARMED injector bank, eligible and not a restart, is started (R273). -/
theorem eligible_starts :
    s.eligible n pts =
      ((s.wBank (n / 8) { s.bank (n / 8) with queue := [q], test := none, cal := none }).queuePub (n / 8)).startEvent q pts := by
  have hsame : ({ q with re := false } : Req) = q := by rw [← hre]
  have hfind : [q].find? (fun q => decide (q.ch = n ∧ q.ts ≤ s.up)) = some q := by simp [hch, hts]
  unfold State.eligible
  dsimp only
  rw [hq, hfind]
  dsimp only
  rw [if_neg (by simp [hre]), List.map_singleton, if_pos hch, hsame]
  unfold State.startNext
  rw [if_pos, firstEligible_single (q := q) (by simp) (by simpa [State.up] using hts)]
  refine ⟨?_, ?_, by simpa using hocc⟩
  · rw [queuePub_r _ _ _ (by unfold Reg.bkBANK_STATE Reg.bstQUEUE_DEPTH; omega)
      (fun m h => by unfold Reg.bkBANK_STATE Reg.chsCH_STATE at h; omega), State.wBank_r, hst]
  · rw [queuePub_r _ _ _ (by unfold Reg.bkBANK_TYPE Reg.bstQUEUE_DEPTH; omega)
      (fun m h => by unfold Reg.bkBANK_TYPE Reg.chsCH_STATE at h; omega), State.wBank_r, hty]

theorem eligible_spec (hcd : (s.bank (n / 8)).cd = none) (htest : q.test = false) : let t := s.eligible n pts
    ((t.bank (n / 8)).occ = some n ∧ (t.bank (n / 8)).queue = [] ∧ (t.bank (n / 8)).first = s.up ∧
      (t.bank (n / 8)).endAt = s.up + tenth q.dur) ∧
    t.hasGates n true true false ∧ t.r (Reg.chsCH_STATE n) = 2 ∧ t.r (Reg.chsLAST_START n) = s.now := by
  rw [eligible_starts pts hn hq hch hts hre hocc hst hty]
  subst hch
  have hstart := startEvent_spec
    ((s.wBank (q.ch / 8) { s.bank (q.ch / 8) with queue := [q], test := none, cal := none }).queuePub (q.ch / 8)) q pts
    (by simpa using hcd) (by simp) htest
  simpa [State.up, State.now] using hstart

end

/-! ## A bank that becomes free -/

/-- A bank without requests starts none. -/
theorem startNext_empty (s : State) (b : Nat) (pts : List Int) (hq : (s.bank b).queue = []) : s.startNext b pts = s := by
  have hnone : s.firstEligible b = none := by simp [State.firstEligible, hq, sortBy]
  unfold State.startNext
  rw [hnone]
  split <;> rfl

/-- A calibration or a test that starts does not occupy its bank. -/
theorem calTry_keeps (s : State) (b : Nat) : ((s.calTry b).bank b).occ = (s.bank b).occ ∧
    ((s.calTry b).bank b).freeAt = (s.bank b).freeAt ∧ ∀ k, (s.calTry b).r k = s.r k := by
  unfold State.calTry
  extract_lets x free
  split
  · split <;> exact ⟨by simp [x], by simp [x], fun _ => rfl⟩
  · exact ⟨rfl, rfl, fun _ => rfl⟩

theorem startTest_keeps (s : State) (b : Nat) : ((s.startTest b).bank b).occ = (s.bank b).occ ∧
    ((s.startTest b).bank b).freeAt = (s.bank b).freeAt ∧ ∀ k, (s.startTest b).r k = s.r k := by
  unfold State.startTest
  dsimp only
  split
  · split
    · exact ⟨by simp, by simp, fun _ => rfl⟩
    · exact ⟨rfl, rfl, fun _ => rfl⟩
  · exact ⟨rfl, rfl, fun _ => rfl⟩

/-- A bank whose gap has ended and that has no request is free: nothing occupies it, and no register changes (R272). -/
theorem bankFreed_idle (s : State) (b t0 : Nat) (pts : List Int) (hfree : (s.bank b).freeAt = some t0) (hup : t0 ≤ s.up)
    (hq : (s.bank b).queue = []) : let t := s.bankFreed b pts
    (t.bank b).occ = none ∧ (t.bank b).freeAt = none ∧ ∀ k, t.r k = s.r k := by
  have hgo : s.bankFreed b pts = ((s.wBank b ((s.bank b).freed s.up)).calTry b).startTest b := by
    have hnext := startNext_empty (s.wBank b ((s.bank b).freed s.up)) b pts (by simpa [Bank.freed] using hq)
    unfold State.bankFreed
    dsimp only
    rw [hfree]
    dsimp only
    rw [if_pos hup, hnext, if_pos (by simp [Bank.freed])]
  obtain ⟨hcocc, hcfree, hcr⟩ := calTry_keeps (s.wBank b ((s.bank b).freed s.up)) b
  obtain ⟨htocc, htfree, htr⟩ := startTest_keeps ((s.wBank b ((s.bank b).freed s.up)).calTry b) b
  rw [hgo]
  exact ⟨(htocc.trans hcocc).trans (by simp [Bank.freed]), (htfree.trans hcfree).trans (by simp [Bank.freed]),
    fun k => (htr k).trans (hcr k)⟩

end Sys2Proof.Machine

open Sys2Proof Sys2Proof.Machine

/-- Settles O11: a test pulse runs on the state that its acceptance leaves; the other three commands act on the bank's queue alone. -/
theorem requestsRun : Obligations.RequestsRun := by
  intro dt n s a b x
  have hsize := (testPulse_result n).2.2
  refine ⟨fun o v hacc => ⟨fun hst hty hz hlo hhi hfault hocc => ?_, fun hst => ?_⟩, fun q hq htest => ?_,
    fun q pts hq hch hts hre htest hocc hcd hst hty => ?_, fun c t0 pts hfree hup hq => ?_⟩
  · rw [← hsize] at hacc
    refine gives_actBy (a := a) rfl hacc ?_
    rw [hsize]
    obtain ⟨hrsp, hmem⟩ := testPulse_queues a n o.src v hst hty hz hlo hhi hfault hocc
    exact ⟨hrsp, _, hmem, rfl, rfl, rfl, rfl, rfl, rfl⟩
  · rw [← hsize] at hacc
    refine gives_actBy (a := a) rfl hacc ?_
    rw [hsize]
    exact testPulse_notArmed a n o.src v hst
  · exact ⟨_, rfl, deadline_drops a n q hq htest⟩
  · obtain ⟨⟨hocc', hqueue, hfirst, hend⟩, ⟨hls, hhb, hhh⟩, hstate, hlast⟩ :=
      eligible_spec pts n.isLt hq hch hts hre hocc hst hty hcd htest
    exact ⟨_, rfl, hocc', hqueue, hstate, hls, hhb, hhh, hfirst, hend, hlast⟩
  · obtain ⟨hocc, hfree', hr⟩ := bankFreed_idle a c t0 pts hfree hup hq
    exact ⟨_, rfl, hocc, hfree', hr _⟩

end

section
/-! PROOFS. Faults of a channel and the tests of the on state: what a fault latches and what it leaves, the statement O15 (R294, R296,
R297, R299). -/

namespace Sys2Proof.Machine

/-! ## Reading the state through bookkeeping -/

theorem bank_of_book {s t : State} (h : t.book = s.book) (j : Nat) : t.bank j = s.bank j := bank_of_banks (by rw [book_eq h]) j

theorem chan_of_chans {s t : State} (h : t.chans = s.chans) (m : Nat) : t.chan m = s.chan m := by rw [State.chan, h, State.chan]

theorem chan_of_book {s t : State} (h : t.book = s.book) (m : Nat) : t.chan m = s.chan m := chan_of_chans (by rw [book_eq h]) m

@[simp] theorem State.wBank_chan (s : State) (b : Nat) (x : Bank) (m : Nat) : (s.wBank b x).chan m = s.chan m := rfl

theorem clk_of_book {s t : State} (h : t.book = s.book) : t.clk = s.clk := by rw [book_eq h]

theorem book_diagMsg (s : State) : s.diagMsg.book = s.book := by
  unfold State.diagMsg
  split
  · exact book_toPartner _ _
  · rfl

/-! ## A channel fault -/

/-- What a latched fault writes before its event: the code, its count, no carry (R299). -/
def State.faulted (s : State) (n code : Nat) : State := ((s.w (Reg.chdCH_FAULT n) code).bump (Reg.chdFAULTS n)).w (Reg.chsCARRY n) 0

theorem chLatch_book (s : State) (n code : Nat) : (s.chLatch n code).book = ((s.faulted n code).lowSideOff n).book :=
  (book_diagMsg _).trans (book_event _ _ _ _)

/-- A fault other than SHORT_GND latches on its channel, or changes nothing: on a follower, or where one is latched already (R299,
R300). -/
theorem chFault_cases (s : State) (n code : Nat) (hc : code ≠ 2) : s.chFault n code = s ∨ s.chFault n code = s.chLatch n code := by
  unfold State.chFault
  dsimp only
  rw [if_neg hc]
  split
  · exact .inl rfl
  · split
    · exact .inl rfl
    · exact .inr rfl

theorem chFault_latches {s : State} {n code : Nat} (hc : code ≠ 2) (hf : s.follower = false) (h0 : s.r (Reg.chdCH_FAULT n) = 0) :
    s.chFault n code = s.chLatch n code := by
  unfold State.chFault
  simp [hc, hf, h0]

theorem lowSideOff_chan (s : State) (n m : Nat) : (s.lowSideOff n).chan m = s.chan m := by unfold State.lowSideOff; split <;> rfl

theorem lowSideOff_r (s : State) (n k : Nat) (hk : k ≠ Reg.chsDUTY n) : (s.lowSideOff n).r k = s.r k := by
  unfold State.lowSideOff
  dsimp only
  split
  · rw [State.w_r, if_neg hk]
    rfl
  · rfl

theorem faulted_r_fault (s : State) (n code : Nat) : (s.faulted n code).r (Reg.chdCH_FAULT n) = code := by
  simp [State.faulted, State.bump_r, Reg.chdCH_FAULT, Reg.chdFAULTS, Reg.chsCARRY]

/-- The registers that a fault of channel n writes. -/
def faultKeys (n : Nat) : List Nat := [Reg.chdCH_FAULT n, Reg.chdFAULTS n, Reg.chsCARRY n, Reg.chsDUTY n]

theorem chLatch_r (s : State) (n code k : Nat) (hb : bookKey k = false) (hk : k ∉ faultKeys n) : (s.chLatch n code).r k = s.r k := by
  simp only [faultKeys, List.mem_cons, List.not_mem_nil, or_false, not_or] at hk
  obtain ⟨hfault, hfaults, hcarry, hduty⟩ := hk
  rw [book_r (chLatch_book s n code) k hb, lowSideOff_r _ _ _ hduty]
  simp [State.faulted, State.bump_r, hfault, hfaults, hcarry]

theorem chLatch_r_fault (s : State) (n : Fin 192) (code : Nat) : (s.chLatch n code).r (Reg.chdCH_FAULT n) = code := by
  rw [book_r (chLatch_book s n code) _ (bookKey_of_mid (by unfold Reg.chdCH_FAULT; omega) (by unfold Reg.chdCH_FAULT; omega)),
    lowSideOff_r _ _ _ (by unfold Reg.chdCH_FAULT Reg.chsDUTY; omega), faulted_r_fault]

theorem chLatch_chan (s : State) (n code m : Nat) : (s.chLatch n code).chan m = s.chan m :=
  (chan_of_book (chLatch_book s n code) m).trans (lowSideOff_chan _ _ _)

/-- A fault of a channel of a bank that is not proportional leaves every bank (R298, R299). -/
theorem chLatch_bank (s : State) (n : Fin 192) (code j : Nat) (hty : s.r (Reg.bkBANK_TYPE (n / 8)) ≠ 2) :
    (s.chLatch n code).bank j = s.bank j := by
  have hsame : (s.faulted n code).r (Reg.bkBANK_TYPE (n / 8)) = s.r (Reg.bkBANK_TYPE (n / 8)) := by
    have hne : Reg.bkBANK_TYPE (n / 8) ≠ Reg.chdCH_FAULT n ∧ Reg.bkBANK_TYPE (n / 8) ≠ Reg.chdFAULTS n ∧
        Reg.bkBANK_TYPE (n / 8) ≠ Reg.chsCARRY n := by
      unfold Reg.bkBANK_TYPE Reg.chdCH_FAULT Reg.chdFAULTS Reg.chsCARRY
      omega
    simp [State.faulted, State.bump_r, hne]
  have hoff : (s.faulted n code).lowSideOff n = s.faulted n code := if_neg (by rwa [hsame])
  rw [bank_of_book (chLatch_book s n code), hoff]
  rfl

/-! ## Overcurrent (R294) -/

theorem drive_follower (s : State) (n : Nat) (ls hb hh : Bool) : (s.drive n ls hb hh).follower = s.follower := by rw [drive_eq]; rfl

/-- The state in which an overcurrent of the running event latches its fault: gates off, the occurrence counted, the fast decay under
its limit (R294). -/
theorem tripped_latches {a : State} {n : Fin 192} {i vds : Nat} (hon : a.lowOn n = true) (hoc : (a.bank (n / 8)).par.iOc ≤ i)
    (hocc : (a.bank (n / 8)).occ = some n.val) : ∃ t : State, a.tripped n i vds = t.chFault n 3 ∧ t.hasGates n false false false ∧
      (t.bank (n / 8)).limitAt = some (a.up + 200000) ∧ t.follower = a.follower ∧ t.r (Reg.chsCH_STATE n) = 7 ∧
      t.r (Reg.chdOVERCURRENT n) = min 0xFFFFFFFF (a.r (Reg.chdOVERCURRENT n) + 1) ∧
      ∀ k, k ∉ [Reg.chdOVERCURRENT n, Reg.chsLAST_ON n, Reg.chsCH_STATE n] → t.r k = a.r k := by
  have hpar : (a.par (n / 8)).iOc ≤ i := by simpa [State.par, hocc] using hoc
  generalize ht : a.tripped n i vds = t
  unfold State.tripped at ht
  extract_lets b x p desat s1 y s3 s4 s2 at ht
  have h2 : s2 = s4.w (Reg.chsCH_STATE n) 7 := if_pos hocc
  rw [if_neg (by simp [hon, p, b, hpar]), h2] at ht
  have hbank : ∀ j, (s4.w (Reg.chsCH_STATE n) 7).bank j = s3.bank j := fun j => by simp only [s4, State.w_bank]; split <;> rfl
  have hgates : s1.hasGates n false false false := drive_hasGates a n false false false
  refine ⟨_, ht.symm, ?_, ?_, ?_, by simp, ?_, fun k hk => ?_⟩
  · simpa [State.hasGates, hbank, s3, y, b] using hgates
  · have hup : s1.up = a.up := congrArg Clk.up (drive_clk a n false false false)
    simp [hbank, s3, b, hup]
  · have hf : s1.follower = a.follower := drive_follower a n false false false
    simp only [s4]
    split <;> exact hf
  · have hne : Reg.chdOVERCURRENT n ≠ Reg.chsCH_STATE n ∧ Reg.chdOVERCURRENT n ≠ Reg.chsLAST_ON n := by
      unfold Reg.chdOVERCURRENT Reg.chsCH_STATE Reg.chsLAST_ON
      omega
    simp only [s4]
    split <;> simp [hne, s3, s1, State.bump_r]
  · simp only [List.mem_cons, List.not_mem_nil, or_false, not_or] at hk
    simp only [s4]
    split <;> simp [hk, s3, s1, State.bump_r]

/-! ## The check for NO_CURRENT (R296) -/

/-- An observation below the confirmation is counted, and nothing else changes (R297). -/
theorem noCurrent_counts {s : State} {n : Nat} (hf : s.follower = false) (hn : (s.chan n).curN + 1 < s.confirm (n / 8)) :
    s.noCurrent n = s.wChan n { s.chan n with curN := (s.chan n).curN + 1 } := by
  unfold State.noCurrent
  simp [hf, Nat.not_le.2 hn]

theorem drive_curN (s : State) (n : Nat) (ls hb hh : Bool) : ((s.drive n ls hb hh).chan n).curN = (s.chan n).curN := by
  unfold State.drive
  dsimp only
  split
  · rw [State.wChan_chan, if_pos rfl]
    rfl
  · rfl

/-- The start of a decay leaves the channel's count of observations. -/
theorem startDecay_curN (s : State) (n i : Nat) (hi : (s.bank (n / 8)).par.iEnd < i) :
    ((s.startDecay n (some i)).chan n).curN = (s.chan n).curN := by
  unfold State.startDecay
  dsimp only
  rw [if_neg (Nat.not_le.2 hi), drive_curN]
  rfl

section
variable {a : State} {n i : Nat} (hocc : (a.bank (n / 8)).occ = some n) (hdec : (a.bank (n / 8)).decayAt = none)
  (hopen : (a.bank (n / 8)).openDone = false) (hdue : a.since (a.bank (n / 8)).first (tenth (a.bank (n / 8)).par.tOpenChk) = true)
include hocc hdec hopen hdue

/-- A current below I_OPEN: the decay begins on a state with one observation more (R296, R297). -/
theorem openChecked_absent (hrail : (a.bank (n / 8)).railOk = true) (hi : i < (a.bank (n / 8)).par.iOpen) (hf : a.follower = false)
    (hn : (a.chan n).curN + 1 < a.confirm (n / 8)) : ∃ u : State, a.openChecked n i = u.startDecay n (some i) ∧
      (u.chan n).curN = (a.chan n).curN + 1 ∧ (u.bank (n / 8)).par = (a.bank (n / 8)).par ∧ u.up = a.up := by
  refine ⟨_, (if_pos ⟨hocc, hdec, by simp [hopen], hdue⟩).trans (if_pos ⟨hrail, hi⟩), ?_⟩
  rw [noCurrent_counts (by exact hf) (by exact hn)]
  exact ⟨by simp, by simp, rfl⟩

theorem openChecked_present (hi : (a.bank (n / 8)).par.iOpen ≤ i) : a.openChecked n i =
    (a.wBank (n / 8) { a.bank (n / 8) with openDone := true }).wChan n { a.chan n with curN := 0 } :=
  (if_pos ⟨hocc, hdec, by simp [hopen], hdue⟩).trans (if_neg fun h => Nat.not_lt.2 hi h.2)

end

end Sys2Proof.Machine

open Sys2Proof Sys2Proof.Machine

/-- Settles O15: an overcurrent latches on a state whose gates are off already; the open check counts before its decay begins. -/
theorem onStateFaults : Obligations.OnStateFaults := by
  intro dt i vds n s a b x
  refine ⟨fun hon hoc hty hocc hf h0 => ⟨_, rfl, ?_⟩, fun hocc hdec hopen hdue =>
    ⟨fun hrail hi hend hf hn => ⟨_, rfl, ?_⟩, fun hi => ⟨_, rfl, ?_⟩⟩⟩
  · obtain ⟨t, htrip, ⟨hls, hhb, hhh⟩, hlim, hft, hst, hcount, hr⟩ := tripped_latches (vds := vds) hon hoc hocc
    have hty' : t.r (Reg.bkBANK_TYPE b) = 1 := by
      rw [hr _ (by simp only [List.mem_cons, List.not_mem_nil, or_false, not_or, Reg.bkBANK_TYPE, Reg.chdOVERCURRENT,
        Reg.chsLAST_ON, Reg.chsCH_STATE]; omega), hty]
    have h0' : t.r (Reg.chdCH_FAULT n) = 0 := by
      rw [hr _ (by simp [Reg.chdCH_FAULT, Reg.chdOVERCURRENT, Reg.chsLAST_ON, Reg.chsCH_STATE]), h0]
    rw [htrip, chFault_latches (by decide) (hft.trans hf) h0', chLatch_bank t n 3 b (by rw [hty']; decide)]
    refine ⟨hls, hhb, hhh, ?_, chLatch_r_fault t n 3, ?_, hlim⟩
    · rw [chLatch_r t n 3 _ (bookKey_of_mid (by unfold Reg.chdOVERCURRENT; omega) (by unfold Reg.chdOVERCURRENT; omega))
        (by simp [faultKeys, Reg.chdOVERCURRENT, Reg.chdCH_FAULT, Reg.chdFAULTS, Reg.chsCARRY, Reg.chsDUTY]), hcount]
    · rw [chLatch_r t n 3 _ (bookKey_of_mid (by unfold Reg.chsCH_STATE; omega) (by unfold Reg.chsCH_STATE; omega))
        (by simp [faultKeys, Reg.chsCH_STATE, Reg.chdCH_FAULT, Reg.chdFAULTS, Reg.chsCARRY, Reg.chsDUTY]), hst]
  · obtain ⟨u, hgo, hcur, hpar, hup⟩ := openChecked_absent hocc hdec hopen hdue hrail hi hf hn
    have hend' : (u.bank (n / 8)).par.iEnd < i := by rwa [hpar]
    obtain ⟨hst, hat, -⟩ := startDecay_spec u n i hend'
    rw [hgo]
    exact ⟨(startDecay_curN u n i hend').trans hcur, hst, hat.trans (by rw [hup])⟩
  · rw [openChecked_present hocc hdec hopen hdue hi]
    exact ⟨by simp, rfl, by simp [b, x], fun j hj => by simp [b, hj], fun m hm => by simp [hm]⟩

end

section
/-! PROOFS. The tests of the off state: what a judgement leaves of the round, of LAST_OFF and of the rail-on tests, the statement O16
(R289, R292, R293, R297). -/

namespace Sys2Proof.Machine

/-! ## What the reactions to a fault leave of the tests -/

/-- LAST_OFF and LAST_OFF_TIME of the channels. -/
def offKey (k : Nat) : Bool := decide (0x540000 ≤ k ∧ k < 0x600000 ∧ ((k - 0x540000) % 768 = 0x203 ∨ (k - 0x540000) % 768 = 0x204))

/-- The readings published and every bank's round stand, and a rail-on test that does not run does not start. -/
structure TestsKept (s t : State) : Prop where
  regs : t.on offKey = s.on offKey
  round : ∀ j, (t.bank j).round = (s.bank j).round
  railOn : ∀ m, (s.chan m).railOn = none → (t.chan m).railOn = none

namespace TestsKept

theorem refl (s : State) : TestsKept s s := ⟨rfl, fun _ => rfl, fun _ h => h⟩

theorem trans {s t u : State} (h : TestsKept s t) (hu : TestsKept t u) : TestsKept s u :=
  ⟨hu.regs.trans h.regs, fun j => (hu.round j).trans (h.round j), fun m hm => hu.railOn m (h.railOn m hm)⟩

theorem of_book {s t : State} (h : t.book = s.book) : TestsKept s t :=
  ⟨on_of_book (fun k hk => bookKey_of_mid (by have := of_decide_eq_true hk; omega) (by have := of_decide_eq_true hk; omega)) h,
    fun j => by rw [bank_of_book h], fun m hm => by rwa [chan_of_book h]⟩

theorem w (s : State) (k v : Nat) (h : offKey k = false) : TestsKept s (s.w k v) := ⟨on_w _ _ _ h, fun _ => rfl, fun _ hm => hm⟩

theorem bump (s : State) (k : Nat) (h : offKey k = false) : TestsKept s (s.bump k) := w s k _ h

theorem wAll (s : State) (l : List (Nat × Nat)) (h : ∀ e ∈ l, offKey e.1 = false) : TestsKept s (s.wAll l) :=
  ⟨on_wAll _ _ h, fun j => by rw [State.wAll_bank], fun m hm => by rwa [State.wAll_chan]⟩

theorem wBank (s : State) (b : Nat) (x : Bank) (h : x.round = (s.bank b).round) : TestsKept s (s.wBank b x) :=
  ⟨rfl, fun j => by by_cases hj : j = b <;> simp [hj, h], fun _ hm => hm⟩

theorem wChan (s : State) (n : Nat) (x : Chan) (h : (s.chan n).railOn = none → x.railOn = none) : TestsKept s (s.wChan n x) := by
  refine ⟨rfl, fun _ => rfl, fun m hm => ?_⟩
  rw [State.wChan_chan]
  split
  next hmn => exact h (hmn ▸ hm)
  next => exact hm

theorem when {s : State} (c : Bool) {f : State → State} (h : ∀ t, TestsKept t (f t)) : TestsKept s (s.when c f) := by
  unfold State.when
  split
  · exact h s
  · exact refl s

theorem each {α : Type} (s : State) (l : List α) (f : α → State → State) (h : ∀ a t, TestsKept t (f a t)) : TestsKept s (s.each l f) :=
  each_inv (P := TestsKept s) (fun a t ht => ht.trans (h a t)) l s (refl s)

end TestsKept

/-- The keys of a bank lie below the channels'. -/
theorem offKey_bank {k : Nat} (h : k < 0x540000) : offKey k = false := decide_eq_false (by omega)

/-- The end of a test pulse publishes its result, which is no reading of an off-state test. -/
theorem testsKept_pulseDone (s : State) (n v : Nat) (ok : Bool) : TestsKept s (s.actDone (Reg.chTEST_PULSE n) v ok) := by
  have he := actDone_eq s (Reg.chTEST_PULSE n) v ok
  refine ⟨on_of_r fun k hk => ?_, fun j => by rw [he]; rfl, fun m hm => by rw [he]; exact hm⟩
  have hk := of_decide_eq_true hk
  refine actDone_r_ne _ _ _ _ _ (bookKey_of_mid (by omega) (by omega)) fun hj => ?_
  have hj := resultOf_some hj
  unfold Reg.chTEST_PULSE Reg.cfgCONFIG_RESULT Reg.dbgSTEP_RESULT at hj
  omega

theorem testsKept_d2dTraffic (s : State) : TestsKept s s.d2dTraffic := by
  unfold State.d2dTraffic
  split
  · exact ⟨rfl, fun _ => rfl, fun _ hm => hm⟩
  · exact .refl s

theorem testsKept_drive (s : State) (n : Nat) (ls hb hh : Bool) : TestsKept s (s.drive n ls hb hh) := by
  unfold State.drive
  extract_lets b x hs y s1
  have h1 : TestsKept s s1 := .wBank _ _ _ (by rfl)
  split
  · exact h1.trans (.wChan _ _ _ fun h => h)
  · exact h1

/-- Channel keys that are no reading of an off-state test. -/
theorem offKey_chan {j : Nat} (n : Nat) (hj : j < 768 ∧ j ≠ 0x203 ∧ j ≠ 0x204) : offKey (0x540000 + j + 768 * n) = false :=
  decide_eq_false (by omega)

/-- The end decay begins with the current unknown (R260, R269). -/
theorem testsKept_startDecay (s : State) (n : Nat) : TestsKept s (s.startDecay n none) := by
  unfold State.startDecay
  exact (((TestsKept.wBank _ _ _ (by rfl)).trans (.w _ _ _ (offKey_chan (j := 0x106) n (by decide)))).trans
    (.w _ _ _ (offKey_chan (j := 0x101) n (by decide)))).trans (testsKept_drive _ _ _ _ _)

theorem testsKept_queuePub (s : State) (b : Nat) (hb : b < 24) : TestsKept s (s.queuePub b) := by
  unfold State.queuePub
  exact (TestsKept.w _ _ _ (offKey_bank (by unfold Reg.bstQUEUE_DEPTH; omega))).trans
    (.each _ _ _ fun n t => .when _ fun u => .w _ _ _ (offKey_chan (j := 0x101) n (by decide)))

/-- A bank that leaves ARMED ends its rail-on tests and begins none (R263, R292). -/
theorem testsKept_leaveArmed (s : State) (b : Nat) (hb : b < 24) : TestsKept s (s.leaveArmed b) := by
  unfold State.leaveArmed
  extract_lets s1 bank s2 s3
  have h1 : TestsKept s s1 := .each _ _ _ fun q t => testsKept_pulseDone _ _ _ _
  have h3 : TestsKept s2 s3 := .each _ _ _ fun n t =>
    (TestsKept.w _ _ _ (offKey_chan (j := 0x107) n (by decide))).trans (.wChan _ _ _ fun _ => rfl)
  exact ((h1.trans (.wBank _ _ _ (by rfl))).trans h3).trans (testsKept_queuePub _ _ hb)

theorem testsKept_softReact (s : State) (b : Nat) : TestsKept s (s.softReact b) := by
  unfold State.softReact
  dsimp only
  split
  · split
    · exact (TestsKept.wBank _ _ _ (by rfl)).trans (testsKept_startDecay _ _)
    · exact .refl s
  · refine (TestsKept.wBank _ _ _ (by rfl)).trans (.each _ _ _ fun n t => .wAll _ _ ?_)
    simp only [List.forall_mem_cons, List.not_mem_nil, false_imp_iff, implies_true, and_true]
    exact ⟨offKey_chan (j := 0x101) n (by decide), offKey_chan (j := 0x108) n (by decide), offKey_chan (j := 0x10A) n (by decide)⟩

/-- The soft stop of a bank (R260, R263). -/
theorem testsKept_bankStop (s : State) (b k : Nat) (hb : b < 24) : TestsKept s (s.bankStop b k false) := by
  unfold State.bankStop
  extract_lets old s0 s1 bank s2 s3 s4 new s5
  have h2 : TestsKept s s2 := ((TestsKept.when _ testsKept_d2dTraffic).trans
    (.w _ _ _ (offKey_bank (by unfold Reg.bkSTOP_CAUSE; omega)))).trans (.wBank _ _ _ (by rfl))
  have h4 : TestsKept s2 s4 := (testsKept_softReact s2 b).trans (.when _ fun t => testsKept_leaveArmed t b hb)
  have h5 : TestsKept s4 s5 := .w _ _ _ (offKey_bank (by unfold Reg.bkBANK_STATE; omega))
  split
  · exact h2
  · exact ((h2.trans h4).trans h5).trans (.when _ fun t => .bump _ _ (offKey_bank (by unfold Reg.bstSTOPS; omega)))

theorem testsKept_bankFault (s : State) (b code : Nat) (hb : b < 24) : TestsKept s (s.bankFault b code) := by
  unfold State.bankFault
  dsimp only
  split
  · exact .refl s
  · exact (((TestsKept.w _ _ _ (offKey_bank (by unfold Reg.bdgBANK_FAULT; omega))).trans
      (.bump _ _ (offKey_bank (by unfold Reg.bdgBANK_FAULTS; omega)))).trans (testsKept_bankStop _ _ _ hb)).trans
        (.of_book ((book_diagMsg _).trans (book_event _ _ _ _)))

theorem testsKept_chLatch (s : State) (n code : Nat) : TestsKept s (s.chLatch n code) := by
  have hfaulted : TestsKept s (s.faulted n code) := ((TestsKept.w _ _ _ (offKey_chan (j := 0x201) n (by decide))).trans
    (.bump _ _ (offKey_chan (j := 0x211) n (by decide)))).trans (.w _ _ _ (offKey_chan (j := 0x107) n (by decide)))
  have hoff : TestsKept (s.faulted n code) ((s.faulted n code).lowSideOff n) := by
    unfold State.lowSideOff
    dsimp only
    split
    · exact (TestsKept.wBank _ _ _ (by rfl)).trans (.w _ _ _ (offKey_chan (j := 0x10A) n (by decide)))
    · exact .refl _
  exact (hfaulted.trans hoff).trans (.of_book ((book_diagMsg _).trans (book_event _ _ _ _)))

section
variable (s : State) (n : Nat) (hn : n < 192)
include hn

theorem testsKept_chFault (code : Nat) : TestsKept s (s.chFault n code) := by
  unfold State.chFault
  extract_lets old s1
  have h1 : TestsKept s s1 := by
    unfold s1
    split
    · exact .refl s
    · exact testsKept_chLatch s n code
  split
  · exact .refl s
  · split
    · exact h1.trans (testsKept_bankFault _ _ _ (by omega))
    · exact h1

theorem testsKept_resolve (vd : Nat) (railOff : Bool) : TestsKept s (s.resolve n vd railOff) := by
  unfold State.resolve
  extract_lets s1
  have h1 : TestsKept s s1 := .w _ _ _ (offKey_chan (j := 0x201) n (by decide))
  split
  · exact h1.trans (testsKept_chFault _ _ hn _)
  · split
    · exact h1.trans (testsKept_bankFault _ _ _ (by omega))
    · exact h1.trans (testsKept_chFault _ _ hn _)

end

theorem testsKept_chObs (s : State) (n obs : Nat) {latch : State → State} (h : ∀ t, TestsKept t (latch t)) :
    TestsKept s (s.chObs n obs latch) := by
  unfold State.chObs
  extract_lets x k s1
  have h1 : TestsKept s s1 := .wChan _ _ _ fun h => h
  split
  · exact h1.trans (h s1)
  · exact h1

theorem testsKept_bankObs (s : State) (b obs : Nat) {latch : State → State} (h : ∀ t, TestsKept t (latch t)) :
    TestsKept s (s.bankObs b obs latch) := by
  unfold State.bankObs
  extract_lets x k s1
  have h1 : TestsKept s s1 := .wBank _ _ _ (by rfl)
  split
  · exact h1.trans (h s1)
  · exact h1

theorem testsKept_startTest (s : State) (b : Nat) : TestsKept s (s.startTest b) := by
  unfold State.startTest
  dsimp only
  split
  · split
    · exact .wBank _ _ _ (by rfl)
    · exact .refl s
  · exact .refl s

/-! ## The judgements (R297) -/

/-- A judgement's first effect: LAST_OFF and its time. -/
def State.published (s : State) (n code : Nat) : State := (s.w (Reg.chdLAST_OFF n) code).w (Reg.chdLAST_OFF_TIME n) s.now

/-- LAST_OFF of a rail-off test with the drain at vd and the rail at vr (R297). -/
def offCode (vd vr : Nat) : Nat := if 7000 < vd then 4 else if vd < 1000 then 3 else if 300 < dist vd vr then 2 else 1

/-- LAST_OFF of a rail-on test (R297). -/
def onCode (vd vr : Nat) : Nat := if vd < 1000 then 3 else if vd + 300 < vr then 2 else 1

section
variable (s : State) (n : Nat) (hn : n < 192) (vd vr : Nat)
include hn

theorem judgeOff_kept : TestsKept (s.published n (offCode vd vr)) (s.judgeOff n vd vr) := by
  unfold State.judgeOff
  extract_lets b code s1 s2
  have h2 : TestsKept s1 s2 := .when _ fun t => testsKept_resolve t n hn vd true
  have hb : b < 24 := by omega
  split
  · exact (h2.trans (testsKept_chObs _ _ _ .refl)).trans (testsKept_bankObs _ _ _ fun t => testsKept_bankFault t b 2 hb)
  · split
    · exact (h2.trans (testsKept_chObs _ _ _ .refl)).trans (testsKept_bankObs _ _ _ fun t => testsKept_bankFault t b 1 hb)
    · split
      · exact (h2.trans (testsKept_bankObs _ _ _ .refl)).trans (testsKept_chObs _ _ _ fun t => testsKept_chFault t n hn 1)
      · exact (h2.trans (testsKept_bankObs _ _ _ .refl)).trans (testsKept_chObs _ _ _ .refl)

theorem judgeOn_kept : TestsKept (s.published n (onCode vd vr)) (s.judgeOn n vd vr) := by
  unfold State.judgeOn
  extract_lets b code s1 s2 s3
  have hb : b < 24 := by omega
  have h2 : TestsKept s1 s2 := .when _ fun t => testsKept_bankFault t b 3 hb
  have h3 : TestsKept s1 s3 := h2.trans (.when _ fun t => testsKept_resolve t n hn vd false)
  split
  · exact h3.trans (testsKept_chObs _ _ _ fun t => testsKept_chFault t n hn 2)
  · split
    · exact h3.trans (testsKept_chObs _ _ _ fun t => testsKept_chFault t n hn 1)
    · exact h3.trans (testsKept_chObs _ _ _ .refl)

end

/-- What is published stands through what keeps the tests. -/
theorem TestsKept.published {s t : State} {n : Fin 192} {code : Nat} (h : TestsKept (s.published n code) t) :
    t.r (Reg.chdLAST_OFF_TIME n) = s.now ∧ t.r (Reg.chdLAST_OFF n) = code := by
  have hoff : offKey (Reg.chdLAST_OFF n) = true := decide_eq_true (by unfold Reg.chdLAST_OFF; omega)
  have htime : offKey (Reg.chdLAST_OFF_TIME n) = true := decide_eq_true (by unfold Reg.chdLAST_OFF_TIME; omega)
  rw [on_r h.regs _ htime, on_r h.regs _ hoff]
  simp [State.published, Reg.chdLAST_OFF, Reg.chdLAST_OFF_TIME]

/-! ## Rounds and samples (R289, R292, R293) -/

theorem startTest_eq (s : State) (b : Nat) : s.startTest b = { s with banks := (s.startTest b).banks } := by
  unfold State.startTest
  dsimp only
  split
  · split <;> rfl
  · rfl

theorem startTest_roundAt (s : State) (b : Nat) : ((s.startTest b).bank b).roundAt = (s.bank b).roundAt := by
  unfold State.startTest
  dsimp only
  split
  · split
    · simp
    · rfl
  · rfl

/-- The bank with a new round: what the old one did not reach, then its other channels (R293). -/
def Bank.nextRound (x : Bank) (b up : Nat) : Bank :=
  { x with round := x.round ++ (chansOf b).filter (fun n => !(x.round.contains n)), roundAt := up }

theorem mem_nextRound (x : Bank) (b up : Nat) {m : Nat} (hm : m ∈ chansOf b) : m ∈ (x.nextRound b up).round := by
  by_cases h : m ∈ x.round <;> simp [Bank.nextRound, h, hm]

theorem newRound_due {s : State} {b : Nat} (h : s.since (s.bank b).roundAt (1000000 * s.r (Reg.bdgOFF_PERIOD b)) = true) :
    s.newRound b = State.startTest (s.wBank b ((s.bank b).nextRound b s.up)) b := if_pos h

section
variable {s : State} {b n t0 : Nat} (htest : (s.bank b).test = some (n, t0)) (vd vr : Nat)
include htest

theorem offSample_judges (hok : s.testOk b = true) (hdue : s.since t0 100000 = true) : s.offSample b vd vr =
    (State.judgeOff (s.wBank b { s.bank b with test := none, round := (s.bank b).round.filter fun m => m ≠ n }) n vd vr).startTest b := by
  unfold State.offSample
  simp [htest, hok, hdue]

theorem offSample_drops (hok : s.testOk b = false) : s.offSample b vd vr = s.dropTest b := by
  unfold State.offSample
  simp [htest, hok]

end

theorem onSample_judges {s : State} {n t0 : Nat} (hon : (s.chan n).railOn = some t0) (hok : s.onOk n = true)
    (hdue : s.since t0 10000 = true) (vd vr : Nat) :
    s.onSample n vd vr = (s.wChan n { s.chan n with railOn := none }).judgeOn n vd vr := by
  unfold State.onSample State.when
  simp [hon, hok, hdue]

end Sys2Proof.Machine

open Sys2Proof Sys2Proof.Machine

/-- Settles O16: a judgement publishes its reading first, and what its faults bring about keeps the reading and the round. -/
theorem offStateTests : Obligations.OffStateTests := by
  intro dt vd vr b n s a
  refine ⟨fun hdue => ⟨_, rfl, ?_⟩, fun t0 htest hnb => ⟨fun hok hdue => ⟨_, rfl, ?_⟩, fun hok => ⟨_, rfl, ?_⟩⟩,
    fun t0 hon hok hdue => ⟨_, rfl, ?_⟩⟩
  · rw [newRound_due hdue]
    refine ⟨(startTest_roundAt _ _).trans (by simp [Bank.nextRound]), fun m hm => ?_, ?_⟩
    · rw [(testsKept_startTest _ _).round, State.wBank_bank, if_pos rfl]
      exact mem_nextRound _ _ _ hm
    · rw [startTest_eq]
      rfl
  · rw [offSample_judges htest vd vr hok hdue]
    have hkept := (judgeOff_kept (a.wBank b { a.bank b with test := none, round := (a.bank b).round.filter fun m => m ≠ n })
      n n.isLt vd vr).trans (testsKept_startTest _ b)
    exact ⟨by rw [hkept.round]; simp [State.published], hkept.published⟩
  · rw [offSample_drops htest vd vr hok]
    exact ⟨rfl, by simp [State.dropTest], fun j hj => by simp [State.dropTest, hj]⟩
  · rw [onSample_judges hon hok hdue]
    have hkept := judgeOn_kept (a.wChan n { a.chan n with railOn := none }) n n.isLt vd vr
    exact ⟨hkept.railOn n (by simp [State.published]), hkept.published⟩

end

section
/-! PROOFS. Diagnostic clears and closing detection, the statement O17 (R301, R304, R305, R451). -/

namespace Sys2Proof.Machine

/-! ## A clear that waits for the tick start (R301) -/

theorem actStart_chan (s : State) (src key v len m : Nat) : (s.actStart src key v len).chan m = s.chan m := by
  refine (chan_of_book (book_actStart s src key v len) m).trans ?_
  rw [toADie_eq]
  rfl

section
variable {a : State} {o : Origin} {v : Nat}

theorem diagClear_waits (n : Fin 192) (src len : Nat) :
    let t := a.actStart src (Reg.chdDIAG_CLEAR n) v len
    let u := t.wChan n { t.chan n with clear := true }
    u.od.rsp = ⟨0, a.nextToken, []⟩ ∧ (u.chan n).clear = true ∧ (∀ m, m ≠ n.val → u.chan m = a.chan m) ∧
      u.r (Reg.chdCH_FAULT n) = a.r (Reg.chdCH_FAULT n) := by
  obtain ⟨-, -, -, hr⟩ := actStart_leaves a src (Reg.chdDIAG_CLEAR n) v len
  have hrsp := (actStart_spec a src (Reg.chdDIAG_CLEAR n) v len).1
  have hchan := actStart_chan a src (Reg.chdDIAG_CLEAR n) v len
  generalize a.actStart src (Reg.chdDIAG_CLEAR n) v len = t at *
  exact ⟨hrsp, by simp, fun m hm => by simp [hm, hchan],
    hr _ (bookKey_of_mid (by unfold Reg.chdCH_FAULT; omega) (by unfold Reg.chdCH_FAULT; omega))⟩

theorem bankDiagClear_waits (b : Fin 24) (src len : Nat) :
    let t := a.actStart src (Reg.bdgBANK_DIAG_CLEAR b) v len
    let u := t.wBank b { t.bank b with clear := true }
    u.od.rsp = ⟨0, a.nextToken, []⟩ ∧ (u.bank b).clear = true ∧ (∀ j, j ≠ b.val → u.bank j = a.bank j) ∧
      u.r (Reg.bdgBANK_FAULT b) = a.r (Reg.bdgBANK_FAULT b) := by
  obtain ⟨hbanks, -, -, hr⟩ := actStart_leaves a src (Reg.bdgBANK_DIAG_CLEAR b) v len
  have hrsp := (actStart_spec a src (Reg.bdgBANK_DIAG_CLEAR b) v len).1
  generalize a.actStart src (Reg.bdgBANK_DIAG_CLEAR b) v len = t at *
  exact ⟨hrsp, by simp, fun j hj => by simp [hj, bank_of_banks hbanks],
    hr _ (bookKey_of_mid (by unfold Reg.bdgBANK_FAULT; omega) (by unfold Reg.bdgBANK_FAULT; omega))⟩

end

/-! ## The window of closing detection (R304, R305) -/

/-- The kink that a whole window of samples shows under the event's own parameters (R304). -/
def CdWin.kinkOf (c : CdWin) (pts : List Int) : Option (Nat × Int) :=
  kink ((blockSums pts).take (c.par.cdLen / 4)) c.par.cdSpan (decide (c.par.cdPol = 1))

/-- CLOSE_DELAY of a kink at point k of a window that opened at t0 (R305). -/
def CdWin.delay (c : CdWin) (t0 k : Nat) : Nat :=
  (clampI 0 65534 (roundHA (mkRat ((t0 + 200 + 400 * k : Nat) - (c.durEnd : Int)) 100))).toNat

section
variable {a : State} {n t0 : Nat} {c : CdWin} (hcd : (a.bank (n / 8)).cd = some c) (hch : c.ch = n)
include hcd hch

theorem cdOpen_due (hopen : c.openAt = none) (hdue : c.decayEnd + tenth c.par.cdStart ≤ a.up) : a.cdOpen n =
    a.wBank (n / 8) { a.bank (n / 8) with cd := some { c with openAt := some (c.decayEnd + tenth c.par.cdStart) } } := by
  unfold State.cdOpen
  simp [hcd, hch, hopen, hdue]

variable (hopen : c.openAt = some t0) (hdue : a.since t0 (tenth c.par.cdLen) = true) (pts : List Int)
include hopen hdue

/-- A whole window with a kink that reaches CD_THRESH (R305). -/
theorem cdClose_detects {k : Nat} {w : Int} (hkink : c.kinkOf pts = some (k, w)) (hw : (8 * c.par.cdThresh : Int) ≤ w) :
    let s := (a.wBank (n / 8) { a.bank (n / 8) with cd := none }).w (Reg.chdCLOSE_DELAY n) (c.delay t0 k)
    a.cdClose n pts = (s.wChan n { s.chan n with cdMiss := 0, cdLost := false }).bump (Reg.chdCD_DETECT n) := by
  unfold CdWin.kinkOf at hkink
  unfold State.cdClose State.cdEnd CdWin.delay
  simp [hcd, hch, hopen, hdue, hkink, hw]

/-- A whole window without one (R305). -/
theorem cdClose_misses (hkink : ∀ k w, c.kinkOf pts = some (k, w) → w < 8 * c.par.cdThresh) :
    a.cdClose n pts = (a.wBank (n / 8) { a.bank (n / 8) with cd := none }).cdMissed n := by
  unfold CdWin.kinkOf at hkink
  unfold State.cdClose State.cdEnd
  simp only [hcd, hopen, hch, hdue]
  cases hk : kink ((blockSums pts).take (c.par.cdLen / 4)) c.par.cdSpan (decide (c.par.cdPol = 1)) with
  | none => simp [hk]
  | some e => simp [hk, Int.not_le.2 (hkink e.1 e.2 hk)]

end

/-- A miss gives 0xFFFF and is counted; no bank changes (R305). -/
theorem cdMissed_spec (s : State) (n : Fin 192) : (∀ j, (s.cdMissed n).bank j = s.bank j) ∧
    (s.cdMissed n).r (Reg.chdCLOSE_DELAY n) = 0xFFFF ∧
    (s.cdMissed n).r (Reg.chdCD_MISS n) = min 0xFFFFFFFF (s.r (Reg.chdCD_MISS n) + 1) := by
  generalize ht : s.cdMissed n = t
  unfold State.cdMissed at ht
  extract_lets x s1 lost at ht
  have hbook : t.book = (s1.wChan n { x with cdMiss := x.cdMiss + 1, cdLost := x.cdLost || lost }).book := by
    rw [← ht]
    exact book_when _ _ _ fun u => book_event _ _ _ _
  have hne : Reg.chdCLOSE_DELAY n ≠ Reg.chdCD_MISS n := by unfold Reg.chdCLOSE_DELAY Reg.chdCD_MISS; omega
  refine ⟨fun j => (bank_of_book hbook j).trans rfl, ?_, ?_⟩
  · rw [book_r hbook _ (bookKey_of_mid (by unfold Reg.chdCLOSE_DELAY; omega) (by unfold Reg.chdCLOSE_DELAY; omega))]
    simp [s1, State.bump_r, hne]
  · rw [book_r hbook _ (bookKey_of_mid (by unfold Reg.chdCD_MISS; omega) (by unfold Reg.chdCD_MISS; omega))]
    simp [s1, State.bump_r, hne.symm]

end Sys2Proof.Machine

open Sys2Proof Sys2Proof.Machine

/-- Settles O17: a clear marks its unit on the state that its acceptance leaves; a window is closed by its kink alone. -/
theorem clearsAndClosing : Obligations.ClearsAndClosing := by
  intro dt v o b n pts c s a d
  refine ⟨fun hacc => gives_actBy (a := a) rfl hacc (diagClear_waits n o.src _),
    fun hacc => gives_actBy (a := a) rfl hacc (bankDiagClear_waits b o.src _),
    fun hcd hch => ⟨fun hopen hdue => ⟨_, rfl, ?_⟩,
      fun t0 hopen hdue => ⟨fun k w hkink hw => ⟨_, rfl, ?_⟩, fun hkink => ⟨_, rfl, ?_⟩⟩⟩⟩
  · rw [cdOpen_due hcd hch hopen hdue]
    exact ⟨rfl, by simp [d]⟩
  · rw [cdClose_detects hcd hch hopen hdue pts hkink hw]
    have hne : Reg.chdCLOSE_DELAY n ≠ Reg.chdCD_DETECT n := by unfold Reg.chdCLOSE_DELAY Reg.chdCD_DETECT; omega
    exact ⟨by simp [d], by simp [State.bump_r, hne, CdWin.delay], by simp [State.bump_r, hne.symm]⟩
  · rw [cdClose_misses hcd hch hopen hdue pts hkink]
    obtain ⟨hbank, hdelay, hcount⟩ := cdMissed_spec (a.wBank d { a.bank d with cd := none }) n
    exact ⟨by rw [hbank]; simp, hdelay, hcount⟩

end

section
/-! PROOFS. Sense calibration: a channel whose values are known, one that waits too long, and CAL_NOW, the statement O18 (R307-R309,
R451, R529, R530). -/

namespace Sys2Proof.Machine

/-! ## The end of a run and the start of a calibration -/

/-- The registers that the end of a run writes (R530). -/
def calEndKeys : List Nat := [Reg.calCAL_RUNS, Reg.calCAL_LAST, Reg.calCAL_STATE, Reg.calCAL_RESULT]

theorem calFinish_r (s : State) (k : Nat) (hb : bookKey k = false) (hk : k ∉ calEndKeys) : s.calFinish.r k = s.r k := by
  simp only [calEndKeys, List.mem_cons, List.not_mem_nil, or_false, not_or] at hk
  obtain ⟨hruns, hlast, hstate, hresult⟩ := hk
  unfold State.calFinish
  split
  · have hres : resultOf Reg.calCAL_NOW = some Reg.calCAL_RESULT := by decide
    rw [actDone_r_ne _ _ _ _ _ hb (by rw [hres]; exact fun h => hresult (Option.some.inj h).symm)]
    simp [State.wAll, State.bump_r, hruns, hlast, hstate]
  · rfl

/-- The end of a run leaves banks, channels, the channels left and the last answer (R530). -/
theorem calFinish_keeps (s : State) : s.calFinish.banks = s.banks ∧ s.calFinish.chans = s.chans ∧ s.calFinish.pwr = s.pwr ∧
    s.calFinish.od.rsp = s.od.rsp := by
  have hend : ∀ u : State, let t := u.actDone Reg.calCAL_NOW 0 true
      t.banks = u.banks ∧ t.chans = u.chans ∧ t.pwr = u.pwr ∧ t.od.rsp = u.od.rsp := fun u => by
    have he := actDone_eq u Reg.calCAL_NOW 0 true
    exact ⟨by rw [he], by rw [he], by rw [he], actDone_rsp _ _ _ _⟩
  unfold State.calFinish
  split
  · exact hend _
  · exact ⟨rfl, rfl, rfl, rfl⟩

/-- The bank with a calibration under way, or none. -/
theorem calTry_eq (s : State) (b : Nat) : s.calTry b = s ∨ ∃ c, s.calTry b = s.wBank b { s.bank b with cal := c } := by
  unfold State.calTry
  extract_lets x free
  split
  · split
    · exact .inr ⟨_, rfl⟩
    · exact .inr ⟨_, rfl⟩
  · exact .inl rfl

theorem calTry_banks (s : State) (b : Nat) : s.calTry b = { s with banks := (s.calTry b).banks } := by
  rcases calTry_eq s b with h | ⟨c, h⟩
  · rw [h]
  · rw [h]
    rfl

/-- Ending the run where no channel is left, and trying the bank's next calibration, leave the channels, the run's rest, the values for
SHS_b and the channels' registers (R307, R530). -/
theorem calSettled_keeps (s : State) (b : Nat) : let t := s.calFinish.calTry b
    (∀ m, t.chan m = s.chan m) ∧ t.pwr = s.pwr ∧ (t.bank b).shsOffset = (s.bank b).shsOffset ∧ (t.bank b).shsGain = (s.bank b).shsGain ∧
      ∀ k, 0x250100 ≤ k → k < 0x600000 → t.r k = s.r k := by
  obtain ⟨hbanks, hchans, hpwr, -⟩ := calFinish_keeps s
  have hr : ∀ k, 0x250100 ≤ k → k < 0x600000 → s.calFinish.r k = s.r k := fun k hlo hhi =>
    calFinish_r _ _ (bookKey_of_mid hlo hhi) (by
      simp only [calEndKeys, List.mem_cons, List.not_mem_nil, or_false, Reg.calCAL_RUNS, Reg.calCAL_LAST, Reg.calCAL_STATE,
        Reg.calCAL_RESULT]
      omega)
  have hbank := bank_of_banks hbanks b
  have htry := calTry_eq s.calFinish b
  generalize s.calFinish = u at *
  rcases htry with h | ⟨c, h⟩
  · rw [h]
    exact ⟨chan_of_chans hchans, hpwr, congrArg Bank.shsOffset hbank, congrArg Bank.shsGain hbank, hr⟩
  · rw [h]
    exact ⟨chan_of_chans hchans, hpwr, by simp [hbank], by simp [hbank], hr⟩

/-! ## A channel's values (R307, R308) -/

/-- What a calibration makes of the channel's values: they are applied together, or rejected with SENSE_FAULT (R308). -/
def State.calJudged (s : State) (n : Nat) (v : CalVals) : State := if calValsOk v n then s.calApply n v else s.chFault n 4

/-- Channel n's calibration is over at a ring time: published, thawed, and gone from its bank and from the run (R307, R309, R530). -/
def State.calClosed (s : State) (n now : Nat) : State :=
  let s1 := (s.wAll [(Reg.chdCAL_TIME n, now), (Reg.chdCAL_OVERDUE n, 0)]).wChan n { s.chan n with frozen := none }
  let s2 := s1.wBank (n / 8) { s1.bank (n / 8) with cal := none }
  { s2 with pwr := { s2.pwr with calLeft := s2.pwr.calLeft.filter fun m => m ≠ n } }

theorem calDone_runs {s : State} {n : Nat} (v : CalVals) (h : s.calRuns n = true) :
    s.calDone n v = ((s.calJudged n v).calClosed n s.now).calFinish.calTry (n / 8) := if_pos h

section
variable (s : State) (n now : Nat)

theorem calClosed_left : n ∉ (s.calClosed n now).pwr.calLeft := fun h => by
  have := (List.mem_filter.1 h).2
  simp at this

theorem calClosed_chan (m : Nat) : (s.calClosed n now).chan m = if m = n then { s.chan n with frozen := none } else s.chan m := by
  refine (State.wChan_chan _ _ _ _).trans ?_
  rw [State.wAll_chan]

theorem calClosed_bank : (s.calClosed n now).bank (n / 8) = { s.bank (n / 8) with cal := none } := by
  refine (State.wBank_bank _ _ _ _).trans ((if_pos rfl).trans ?_)
  rw [State.wChan_bank, State.wAll_bank]

theorem calClosed_r (k : Nat) : (s.calClosed n now).r k =
    if k = Reg.chdCAL_OVERDUE n then 0 else if k = Reg.chdCAL_TIME n then now else s.r k :=
  (State.w_r _ _ _ _).trans (congrArg _ (State.w_r s (Reg.chdCAL_TIME n) now k))

end

/-- What a calibration of channel n may change before it is published: the values in force and CH_FAULT (R308). -/
def calValueKeys (n : Nat) : List Nat :=
  [Reg.chdCS_OFFSET n, Reg.chdCS_GAIN n, Reg.chdDS_OFFSET n, Reg.chdDS_GAIN n, Reg.chdCH_FAULT n]

theorem calValueKeys_mem {n k : Nat} (h : k ∈ calValueKeys n) :
    0x540000 ≤ k ∧ k < 0x54020F + 768 * n ∧ k ∉ [Reg.chdFAULTS n, Reg.chsCARRY n, Reg.chsDUTY n] := by
  simp only [calValueKeys, List.mem_cons, List.not_mem_nil, or_false, not_or, Reg.chdCS_OFFSET, Reg.chdCS_GAIN, Reg.chdDS_OFFSET,
    Reg.chdDS_GAIN, Reg.chdCH_FAULT, Reg.chdFAULTS, Reg.chsCARRY, Reg.chsDUTY] at h ⊢
  omega

/-- What a calibration leaves behind: its judgement, published, the channel thawed and out of the run (R307-R309, R530). -/
theorem calDone_spec {s : State} {n : Fin 192} (v : CalVals) (h : s.calRuns n = true) : let t := s.calDone n v; let u := s.calJudged n v
    n.val ∉ t.pwr.calLeft ∧ (∀ m, t.chan m = if m = n.val then { u.chan n with frozen := none } else u.chan m) ∧
      ((t.bank (n / 8)).shsOffset = (u.bank (n / 8)).shsOffset ∧ (t.bank (n / 8)).shsGain = (u.bank (n / 8)).shsGain) ∧
      t.r (Reg.chdCAL_TIME n) = s.now ∧ t.r (Reg.chdCAL_OVERDUE n) = 0 ∧ ∀ k ∈ calValueKeys n, t.r k = u.r k := by
  rw [calDone_runs v h]
  obtain ⟨hchan, hpwr, hoff, hgain, hr⟩ := calSettled_keeps ((s.calJudged n v).calClosed n s.now) (n / 8)
  refine ⟨?_, fun m => ?_, ⟨?_, ?_⟩, ?_, ?_, fun k hk => ?_⟩
  · rw [hpwr]
    exact calClosed_left _ _ _
  · rw [hchan, calClosed_chan]
  · rw [hoff, calClosed_bank]
  · rw [hgain, calClosed_bank]
  · rw [hr _ (by unfold Reg.chdCAL_TIME; omega) (by unfold Reg.chdCAL_TIME; omega), calClosed_r, if_neg, if_pos rfl]
    unfold Reg.chdCAL_TIME Reg.chdCAL_OVERDUE
    omega
  · rw [hr _ (by unfold Reg.chdCAL_OVERDUE; omega) (by unfold Reg.chdCAL_OVERDUE; omega), calClosed_r, if_pos rfl]
  · obtain ⟨hlo, hhi, -⟩ := calValueKeys_mem hk
    rw [hr k (by omega) (by omega), calClosed_r, if_neg (by unfold Reg.chdCAL_OVERDUE; omega), if_neg (by unfold Reg.chdCAL_TIME; omega)]

/-- The values that are in range, applied together: the channel's objects and trims, and SHS_b with position 0 (R307, R308). -/
theorem calApply_spec (s : State) (n : Nat) (v : CalVals) : let t := s.calApply n v
    (t.r (Reg.chdCS_OFFSET n) = sat2 16 v.csOff ∧ t.r (Reg.chdCS_GAIN n) = v.csGain ∧ t.r (Reg.chdDS_OFFSET n) = sat2 16 v.dsOff ∧
      t.r (Reg.chdDS_GAIN n) = v.dsGain) ∧
    (∀ m, t.chan m = if m = n then { s.chan n with trims := v.trims } else s.chan m) ∧
    (n % 8 = 0 → (t.bank (n / 8)).shsOffset = v.shsOff ∧ (t.bank (n / 8)).shsGain = v.shsGain) := by
  generalize ht : s.calApply n v = t
  unfold State.calApply at ht
  extract_lets s1 chan s2 at ht
  have hregs : s2.r (Reg.chdCS_OFFSET n) = sat2 16 v.csOff ∧ s2.r (Reg.chdCS_GAIN n) = v.csGain ∧
      s2.r (Reg.chdDS_OFFSET n) = sat2 16 v.dsOff ∧ s2.r (Reg.chdDS_GAIN n) = v.dsGain := by
    simp [s2, s1, State.wAll, Reg.chdCS_OFFSET, Reg.chdCS_GAIN, Reg.chdDS_OFFSET, Reg.chdDS_GAIN]
  have hchan : ∀ m, s2.chan m = if m = n then { s.chan n with trims := v.trims } else s.chan m := fun m => by simp [s2, chan, s1]
  unfold State.when at ht
  subst ht
  split
  next => exact ⟨hregs, hchan, fun _ => by simp⟩
  next hpos => exact ⟨hregs, hchan, fun h => absurd (decide_eq_true h) hpos⟩

/-- Values out of range are rejected with SENSE_FAULT: the gains stand, and the fault latches where none is (R299, R308). -/
theorem calRejected_spec (s : State) (n : Fin 192) : let t := s.chFault n 4
    t.r (Reg.chdCS_GAIN n) = s.r (Reg.chdCS_GAIN n) ∧ t.r (Reg.chdDS_GAIN n) = s.r (Reg.chdDS_GAIN n) ∧
      (s.follower = false → s.r (Reg.chdCH_FAULT n) = 0 → t.r (Reg.chdCH_FAULT n) = 4) := by
  have hkeep : ∀ k ∈ calValueKeys n, k ≠ Reg.chdCH_FAULT n → (s.chFault n 4).r k = s.r k := fun k hk hne => by
    obtain ⟨hlo, hhi, hfree⟩ := calValueKeys_mem hk
    rcases chFault_cases s n 4 (by decide) with h | h <;> rw [h]
    exact chLatch_r s n 4 k (bookKey_of_mid (by omega) (by omega)) (by simpa [faultKeys, hne] using hfree)
  exact ⟨hkeep _ (by simp [calValueKeys]) (by simp [Reg.chdCS_GAIN, Reg.chdCH_FAULT]),
    hkeep _ (by simp [calValueKeys]) (by simp [Reg.chdDS_GAIN, Reg.chdCH_FAULT]),
    fun hf h0 => by rw [chFault_latches (by decide) hf h0, chLatch_r_fault]⟩

/-! ## CAL_NOW (R451, R529, R530) -/

/-- Trimming the sensors leaves the clock, the last answer and every register outside the bookkeeping (R529). -/
theorem trims_keeps (s : State) : s.trims.clk = s.clk ∧ s.trims.od.rsp = s.od.rsp ∧ ∀ k, bookKey k = false → s.trims.r k = s.r k := by
  refine each_inv (P := fun t => t.clk = s.clk ∧ t.od.rsp = s.od.rsp ∧ ∀ k, bookKey k = false → t.r k = s.r k) (fun k t ht => ?_) _ s
    ⟨rfl, rfl, fun _ _ => rfl⟩
  obtain ⟨hclk, hrsp, hr⟩ := ht
  dsimp only
  split
  · exact ⟨(clk_of_book (book_event _ _ _ _)).trans hclk, (rsp_of_toks (toks_event _ _ _ _)).trans hrsp,
      fun j hj => (book_r (book_event _ _ _ _) j hj).trans (hr j hj)⟩
  · exact ⟨hclk, hrsp, hr⟩

/-- The channel's calibration is pending from now on (R309). -/
def State.calPends (n : Nat) (s : State) : State := s.wChan n { s.chan n with calSince := s.up }

theorem calPends_keeps (l : List Nat) (s : State) : let t := s.each l State.calPends
    t.od = s.od ∧ t.regs = s.regs ∧ t.pwr = s.pwr :=
  each_inv (P := fun t => t.od = s.od ∧ t.regs = s.regs ∧ t.pwr = s.pwr) (f := State.calPends) (fun _ _ ht => ht) l s ⟨rfl, rfl, rfl⟩

/-- Every channel of the list is pending since now: no later step of the list sets it back. -/
theorem calPends_since (l : List Nat) (s : State) (m : Nat) (hm : m ∈ l) : ((s.each l State.calPends).chan m).calSince = s.up := by
  induction l generalizing s with
  | nil => exact absurd hm List.not_mem_nil
  | cons n l ih =>
    rcases List.mem_cons.1 hm with rfl | hm
    · have hstays := each_inv (P := fun t => (t.chan m).calSince = s.up ∧ t.up = s.up) (f := State.calPends) (fun j t ht => by
        obtain ⟨hsince, hup⟩ := ht
        refine ⟨?_, hup⟩
        rw [State.calPends, State.wChan_chan]
        split
        · exact hup
        · exact hsince) l (State.calPends m s) ⟨by simp [State.calPends], rfl⟩
      exact hstays.1
    · exact ih (State.calPends n s) hm

/-- The bank's test is dropped and its next calibration tried (R291, R307). -/
def State.calFirst (b : Nat) (s : State) : State := (s.dropTest b).calTry b

theorem calFirst_keeps (l : List Nat) (s : State) : let t := s.each l State.calFirst
    t.od = s.od ∧ t.regs = s.regs ∧ t.pwr = s.pwr ∧ t.chans = s.chans :=
  each_inv (P := fun t => t.od = s.od ∧ t.regs = s.regs ∧ t.pwr = s.pwr ∧ t.chans = s.chans) (f := State.calFirst)
    (fun b t ht => by rw [State.calFirst, calTry_banks]; exact ht) l s ⟨rfl, rfl, rfl, rfl⟩

/-- Every channel of a configured bank is pending, and its bank calibrates the next of them before it tests (R291, R307, R309). -/
def State.calAsked (s : State) : State :=
  let s1 := { s with pwr := { s.pwr with calLeft := s.calChans } }
  let s2 := s1.each s.calChans State.calPends
  s2.each (bankNos.filter s2.calPending) State.calFirst

theorem calAsked_spec (s : State) : s.calAsked.od = s.od ∧ (∀ k, s.calAsked.r k = s.r k) ∧ s.calAsked.pwr.calLeft = s.calChans ∧
    ∀ m ∈ s.calChans, (s.calAsked.chan m).calSince = s.up := by
  generalize ht : s.calAsked = t
  unfold State.calAsked at ht
  extract_lets pwr s1 s2 at ht
  obtain ⟨hod, hregs, hpwr⟩ : s2.od = s.od ∧ s2.regs = s.regs ∧ s2.pwr = s1.pwr := calPends_keeps s.calChans s1
  have hsince : ∀ m ∈ s.calChans, (s2.chan m).calSince = s.up := calPends_since s.calChans s1
  have hfirst := calFirst_keeps (bankNos.filter s2.calPending) s2
  rw [ht] at hfirst
  obtain ⟨hod', hregs', hpwr', hchans⟩ := hfirst
  refine ⟨hod'.trans hod, fun k => ?_, congrArg Pwr.calLeft (hpwr'.trans hpwr), fun m hm => ?_⟩
  · rw [State.r, hregs', hregs, State.r]
  · rw [chan_of_chans hchans]
    exact hsince m hm

theorem calFinish_busy {s : State} (h : s.pwr.calLeft ≠ []) : s.calFinish = s := if_neg fun hc => h hc.2

theorem calChans_congr {s t : State} (h : ∀ k, 0x500000 ≤ k → k < 0x600000 → t.r k = s.r k) : t.calChans = s.calChans := by
  refine List.filter_congr fun n hn => ?_
  have hn := List.mem_range.1 hn
  rw [h _ (by unfold Reg.bkBANK_TYPE; omega) (by unfold Reg.bkBANK_TYPE; omega)]

/-- What a run that starts writes first: its state, cause and reference temperature (R529, R530). -/
def State.calOpened (s : State) (cause : Nat) : State :=
  s.wAll [(Reg.calCAL_STATE, 1), (Reg.calCAL_CAUSE, cause), (Reg.calCAL_REF_T, s.r Reg.tsA_DIE_MEAN)]

theorem calOpened_r (s : State) (cause k : Nat) : (s.calOpened cause).r k = if k = Reg.calCAL_REF_T then s.r Reg.tsA_DIE_MEAN
    else if k = Reg.calCAL_CAUSE then cause else if k = Reg.calCAL_STATE then 1 else s.r k := by
  simp [State.calOpened, State.wAll]

theorem calStart_opens {s : State} (cause : Nat) (h : s.r Reg.calCAL_STATE ≠ 1) :
    s.calStart cause = (s.calOpened cause).trims.calAsked.calFinish := if_neg h

/-- A run that starts: its cause and reference, and the channels that it leaves pending (R309, R529, R530). -/
theorem calStart_spec (s : State) (cause : Nat) (h : s.r Reg.calCAL_STATE ≠ 1) : let t := s.calStart cause
    t.od.rsp = s.od.rsp ∧ t.r Reg.calCAL_CAUSE = cause ∧ t.r Reg.calCAL_REF_T = s.r Reg.tsA_DIE_MEAN ∧
      (s.calChans ≠ [] → t.r Reg.calCAL_STATE = 1 ∧ t.pwr.calLeft = s.calChans ∧ ∀ m ∈ s.calChans, (t.chan m).calSince = s.up) := by
  obtain ⟨hclk, hrsp, hr⟩ := trims_keeps (s.calOpened cause)
  have hchans : (s.calOpened cause).trims.calChans = s.calChans := calChans_congr fun k hlo hhi => by
    rw [hr k (bookKey_of_mid (by omega) hhi), calOpened_r, if_neg, if_neg, if_neg]
    all_goals simp only [Reg.calCAL_REF_T, Reg.calCAL_CAUSE, Reg.calCAL_STATE]; omega
  have hup : (s.calOpened cause).trims.up = s.up := congrArg Clk.up (hclk.trans (State.wAll_clk _ _))
  obtain ⟨hod, hregs, hleft, hsince⟩ := calAsked_spec (s.calOpened cause).trims
  have hru : ∀ k, bookKey k = false → (s.calOpened cause).trims.calAsked.r k = (s.calOpened cause).r k := fun k hk =>
    (hregs k).trans (hr k hk)
  have hrspu := (congrArg Od.rsp hod).trans (hrsp.trans (by rw [State.calOpened, State.wAll_eq]))
  rw [hchans, hup] at hsince
  rw [hchans] at hleft
  rw [calStart_opens cause h]
  generalize (s.calOpened cause).trims.calAsked = u at *
  obtain ⟨-, -, -, hend⟩ := calFinish_keeps u
  refine ⟨hend.trans hrspu, ?_, ?_, fun hne => ?_⟩
  · rw [calFinish_r u _ (by decide) (by decide), hru _ (by decide), calOpened_r]
    simp [Reg.calCAL_CAUSE, Reg.calCAL_REF_T]
  · rw [calFinish_r u _ (by decide) (by decide), hru _ (by decide), calOpened_r, if_pos rfl]
  · rw [calFinish_busy (by rwa [hleft])]
    refine ⟨?_, hleft, hsince⟩
    rw [hru _ (by decide), calOpened_r]
    simp [Reg.calCAL_CAUSE, Reg.calCAL_REF_T, Reg.calCAL_STATE]

/-- A CAL_NOW on the state that its acceptance leaves: refused with result 1 while a run goes on, else the start of one (R451, R529). -/
theorem calNow_started (a : State) (src v len : Nat) : let t := (a.actStart src Reg.calCAL_NOW v len).calNow
    t.od.rsp = ⟨0, a.nextToken, []⟩ ∧ (a.r Reg.calCAL_STATE = 1 → t.r (Reg.calCAL_NOW + 1) = 1 ∧ t.pwr = a.pwr) ∧
      (a.r Reg.calCAL_STATE ≠ 1 → t.r Reg.calCAL_CAUSE = 2 ∧ t.r Reg.calCAL_REF_T = a.r Reg.tsA_DIE_MEAN ∧
        (a.calChans ≠ [] → t.r Reg.calCAL_STATE = 1 ∧ t.pwr.calLeft = a.calChans ∧
          ∀ m ∈ a.calChans, (t.chan m).calSince = a.up)) := by
  obtain ⟨-, hclk, -, hr⟩ := actStart_leaves a src Reg.calCAL_NOW v len
  have hrsp := (actStart_spec a src Reg.calCAL_NOW v len).1
  have hbusy := actStart_busy a src Reg.calCAL_NOW v len
  have hpwr : (a.actStart src Reg.calCAL_NOW v len).pwr = a.pwr := by rw [book_eq (actStart_book a src Reg.calCAL_NOW v len (by decide))]
  generalize a.actStart src Reg.calCAL_NOW v len = u at *
  have hstate := hr Reg.calCAL_STATE (by decide)
  by_cases hrun : a.r Reg.calCAL_STATE = 1
  · rw [show u.calNow = u.actDone Reg.calCAL_NOW 1 false from if_pos (hstate.trans hrun)]
    exact ⟨(actDone_rsp _ _ _ _).trans hrsp, fun _ => ⟨actDone_r_result _ _ _ _ _ (by decide) (by decide) (by decide) hbusy, by
      rw [actDone_eq]; exact hpwr⟩, fun h => absurd hrun h⟩
  · have hidle : u.r Reg.calCAL_STATE ≠ 1 := by rwa [hstate]
    rw [show u.calNow = u.calStart 2 from if_neg hidle]
    obtain ⟨hrsp', hcause, href, hleft⟩ := calStart_spec u 2 hidle
    have hchans : u.calChans = a.calChans := calChans_congr fun k hlo hhi => hr k (bookKey_of_mid (by omega) hhi)
    rw [hchans, show u.up = a.up from congrArg Clk.up hclk] at hleft
    exact ⟨hrsp'.trans hrsp, fun h => absurd h hrun, fun _ => ⟨hcause, href.trans (hr _ (by decide)), hleft⟩⟩

theorem calLate_overdue {s : State} {n : Nat} (hleft : n ∈ s.pwr.calLeft) (hlate : s.since (s.chan n).calSince 100000000 = true) :
    s.calLate n = s.w (Reg.chdCAL_OVERDUE n) 1 := if_pos ⟨by simpa using hleft, hlate⟩

end Sys2Proof.Machine

open Sys2Proof Sys2Proof.Machine

/-- Settles O18: a calibration ends by its judgement, on which it publishes; CAL_NOW runs on the state that its acceptance leaves. -/
theorem calibration : Obligations.Calibration := by
  intro dt v w n o s a
  refine ⟨fun hrun => ⟨_, rfl, ?_⟩, fun hleft hlate => ⟨_, rfl, ?_⟩, fun hacc => gives_actBy (a := a) rfl hacc (calNow_started a o.src v _)⟩
  · obtain ⟨hleft, hchan, ⟨hoff, hgain⟩, htime, hoverdue, hr⟩ := calDone_spec w hrun
    refine ⟨hleft, by rw [hchan, if_pos rfl], htime, hoverdue, fun hok => ?_, fun hbad => ?_⟩
    · rw [show a.calJudged n w = a.calApply n w from if_pos hok] at hchan hoff hgain hr
      obtain ⟨⟨hcsOff, hcsGain, hdsOff, hdsGain⟩, happly, hshs⟩ := calApply_spec a n w
      refine ⟨(hr _ (by simp [calValueKeys])).trans hcsOff, (hr _ (by simp [calValueKeys])).trans hcsGain,
        (hr _ (by simp [calValueKeys])).trans hdsOff, (hr _ (by simp [calValueKeys])).trans hdsGain, ?_, fun hpos => ?_, fun m hm => ?_⟩
      · rw [hchan, if_pos rfl, happly, if_pos rfl]
      · obtain ⟨hoff', hgain'⟩ := hshs (congrArg Fin.val hpos)
        exact ⟨hoff.trans hoff', hgain.trans hgain'⟩
      · rw [hchan, if_neg hm, happly, if_neg hm]
    · rw [show a.calJudged n w = a.chFault n 4 from if_neg (by simp [hbad])] at hr
      obtain ⟨hcs, hds, hlatch⟩ := calRejected_spec a n
      exact ⟨(hr _ (by simp [calValueKeys])).trans hcs, (hr _ (by simp [calValueKeys])).trans hds,
        fun hf h0 => (hr _ (by simp [calValueKeys])).trans (hlatch hf h0)⟩
  · rw [calLate_overdue hleft hlate]
    exact ⟨by simp, rfl, fun k hk => (State.w_r _ _ _ _).trans (if_neg (by simpa using hk))⟩

end

section
/-! PROOFS. Candidates and verdicts (O49): what a placement leaves alone, what becomes of a change that a verdict decides, and which change
comes next (R27, R172, R317, R324, R325). -/

namespace Sys2Proof.Machine

/-! ## What a placement leaves of the changes that wait -/

/-- A range of registers that holds all that a placement writes: Shepherd's own but CHECK_RESULT and SHED_HEADS, and above them all that
have not the subindex of ATTACH_STATE. -/
def placementKey (k : Nat) : Bool :=
  decide ((0x210000 ≤ k ∧ k < 0x214000 ∧ k ≠ 0x210004 ∧ k ≠ 0x21000B) ∨ (0x214000 ≤ k ∧ k % 256 ≠ 6))

/-- From s to t no head and no waiting change differs, and of the registers only a placement's. -/
def OnlyPlaced (s t : State) : Prop :=
  t.heads = s.heads ∧ t.shep.cands = s.shep.cands ∧ ∀ k, placementKey k = false → t.r k = s.r k

/-- A placement's registers may be written on the way. -/
theorem OnlyPlaced.wAll {s t : State} (h : OnlyPlaced s t) (l : List (Nat × Nat)) (hl : ∀ e ∈ l, placementKey e.1 = true) :
    OnlyPlaced s (t.wAll l) := by
  obtain ⟨hheads, hcands, hr⟩ := h
  refine ⟨?_, ?_, fun k hk => (State.wAll_r_ne t l k fun e he hek => ?_).trans (hr k hk)⟩
  · rw [State.wAll_eq]
    exact hheads
  · rw [State.wAll_eq]
    exact hcands
  · rw [← hek, hl e he] at hk
    cases hk

/-- So may anything that is no register, no head and no waiting change. -/
theorem OnlyPlaced.of_regs {s t u : State} (h : OnlyPlaced s t) (hheads : u.heads = t.heads) (hcands : u.shep.cands = t.shep.cands)
    (hregs : u.regs = t.regs) : OnlyPlaced s u := by
  obtain ⟨hheads0, hcands0, hr⟩ := h
  refine ⟨hheads.trans hheads0, hcands.trans hcands0, fun k hk => ?_⟩
  rw [State.r, hregs]
  exact hr k hk

theorem OnlyPlaced.segmentMove {s t : State} (h : OnlyPlaced s t) (i loc : Nat) : OnlyPlaced s (t.segmentMove i loc) := by
  have hk : placementKey (Reg.pcSEG_LOCATION i) = true := decide_eq_true (by unfold Reg.pcSEG_LOCATION; omega)
  unfold State.segmentMove
  dsimp only
  split
  · split
    · exact h.of_regs rfl rfl rfl
    · exact h
  · refine OnlyPlaced.wAll (t := if (t.pipe i).copying = 0 then t else t.wPipe i { t.pipe i with copying := 0 }) ?_
      [(Reg.pcSEG_LOCATION i, loc)] (by simpa using hk)
    split
    · exact h
    · exact h.of_regs rfl rfl rfl

theorem OnlyPlaced.xLull {s t : State} (h : OnlyPlaced s t) : OnlyPlaced s t.xLull := by
  refine each_inv (P := OnlyPlaced s) (fun x u hu => ?_) _ t h
  extract_lets asleep
  unfold State.when
  split
  · show OnlyPlaced s (State.sendLull _ _)
    rw [sendLull_eq]
    exact hu.of_regs rfl rfl rfl
  · exact hu.of_regs rfl rfl rfl

theorem placementKey_stream (x : Nat) : placementKey (Reg.strmSTREAM_STATE x) = true ∧ placementKey (Reg.strmPLACED_GROUP x) = true ∧
    placementKey (Reg.strmPLACED_FORMAT x) = true ∧ placementKey (Reg.strmLOAD x) = true := by
  refine ⟨?_, ?_, ?_, ?_⟩ <;> refine decide_eq_true ?_ <;>
    simp only [Reg.strmSTREAM_STATE, Reg.strmPLACED_GROUP, Reg.strmPLACED_FORMAT, Reg.strmLOAD] <;> omega

theorem placementKey_group (g : Nat) : placementKey (Reg.grpLANES_UP g) = true ∧ placementKey (Reg.grpGROUP_CAP g) = true ∧
    placementKey (Reg.grpGROUP_LOAD g) = true := by
  refine ⟨?_, ?_, ?_⟩ <;> refine decide_eq_true ?_ <;> simp only [Reg.grpLANES_UP, Reg.grpGROUP_CAP, Reg.grpGROUP_LOAD] <;> omega

/-- Publishing a placement writes its own registers and leaves the heads and the changes that wait (R326, R327, R329, R330). -/
theorem onlyPlaced_publish (s : State) (cause : Nat) (pl : Placing) (fmt : Nat → Nat) : OnlyPlaced s (s.publish cause pl fmt) := by
  unfold State.publish
  extract_lets p hist shep s1 s2 s3 s5 b s6 s7 body s8 shep8 s9
  have h1 : OnlyPlaced s s1 := ⟨rfl, rfl, fun _ _ => rfl⟩
  have h2 : OnlyPlaced s s2 := each_inv (P := OnlyPlaced s) (fun h t ht => ht.segmentMove h _) _ s1 h1
  have h3 : OnlyPlaced s s3 := by
    refine each_inv (P := OnlyPlaced s) (fun x t ht => ?_) _ s2 h2
    obtain ⟨hstate, hgroup, hformat, hload⟩ := placementKey_stream x
    split
    · exact ht.wAll _ (by simp [hstate, hgroup, hformat, hload])
    · split <;> exact ht.wAll _ (by simp [hstate, hgroup, hformat, hload])
  have h5 : OnlyPlaced s s5 := by
    refine each_inv (P := OnlyPlaced s) (fun g t ht => ?_) _ s3 h3
    obtain ⟨hlanes, hcap, hload⟩ := placementKey_group g
    exact ht.wAll _ (by simp [hlanes, hcap, hload])
  have h6 : OnlyPlaced s s6 := h5.wAll _ (by simp +decide)
  have h7 : OnlyPlaced s s7 := h6.wAll _ (by simp +decide)
  have h8 : OnlyPlaced s s8 := h7.wAll [(Reg.shpMAP_SEQ, _), (Reg.shpLAST_CAUSE, cause)] (by simp +decide)
  have h9 : OnlyPlaced s s9 := by
    have hcands : shep8.cands = s8.shep.cands := rfl
    unfold s9
    clear_value shep8 s8
    split
    · exact h7
    · exact h8.of_regs rfl hcands rfl
  exact h9.xLull

theorem admitNow_cands (s : State) : s.admitNow.shep.cands = s.shep.cands := (onlyPlaced_publish _ _ _ _).2.1

/-! ## Partner messages -/

/-- A message that the device hears is taken as it stands (R482, R484). -/
theorem partnerIn_hears {s : State} {m : PartnerMsg} (h : s.hears m) (f : State → State) : s.partnerIn m f = f s := by
  obtain ⟨i, e, valid⟩ := m
  obtain ⟨rfl, hmode, hlane, rfl⟩ := h
  exact partnerIn_ownEpoch s i f hmode hlane

/-- A message to a partner that is connected changes nothing but what leaves, and the number of the next one. -/
theorem toPartner_spec (s : State) (m : PMsg) (hup : s.partnerUp = true) (hptx : s.ptx = []) : let u := s.toPartner m
    u = { s with ptx := u.ptx, pair := { s.pair with txSeq := u.pair.txSeq } } ∧ SentPartner s u m := by
  have h : s.toPartner m = s.partnerSend m := if_pos hup
  rw [h]
  unfold State.partnerSend SentPartner
  cases s.partnerLane? with
  | none => exact ⟨rfl, fun l hl => by cases hl⟩
  | some i =>
    refine ⟨rfl, fun l hl => ?_⟩
    obtain rfl := Option.some.inj hl
    exact ⟨by rw [hptx]; rfl, rfl⟩

/-- CHECK_RESULT is no part of the connection to the partner. -/
theorem partner_checkResult (s : State) (v : Nat) : (s.w Reg.shpCHECK_RESULT v).partnerUp = s.partnerUp ∧
    (s.w Reg.shpCHECK_RESULT v).epoch = s.epoch ∧ (s.w Reg.shpCHECK_RESULT v).partnerLane? = s.partnerLane? := by
  have hlane (i : Nat) : Reg.laneLANE_STATE (88 + i) ≠ Reg.shpCHECK_RESULT := by unfold Reg.laneLANE_STATE Reg.shpCHECK_RESULT; omega
  refine ⟨?_, ?_, ?_⟩
  · rw [State.partnerUp, State.w_r, if_neg (by decide), State.w_pair, State.partnerUp]
  · exact (State.w_r _ _ _ _).trans (if_neg (by decide))
  · simp only [State.partnerLane?, State.w_r, if_neg (hlane _)]

/-- A change put to the partner while others wait: it stands first, and its candidate has left (R325). -/
theorem askPartner_sends (s cand : State) (op : PendOp) (hup : s.partnerUp = true) (hptx : s.ptx = []) : let u := s.askPartner cand op
    u = { s with
      shep := { s.shep with cands := (s.up, op) :: s.shep.cands, asked := true }
      ptx := u.ptx, pair := { s.pair with txSeq := u.pair.txSeq } } ∧
    SentPartner s u (.candidate s.epoch cand.candidateVals) :=
  toPartner_spec { s with shep := { s.shep with cands := (s.up, op) :: s.shep.cands, asked := true } } _ hup hptx

/-! ## What a verdict makes of a change -/

/-- The state in which a verdict finds the change it decides: the rest waits, and none is before the partner. -/
def State.decides (s : State) (rest : List (Nat × PendOp)) : State := { s with shep := { s.shep with cands := rest, asked := false } }

section
variable (s : State) (op : PendOp) {ok : Bool}

/-- A change whose ground has gone is neither made nor refused by a check. -/
theorem verdictOn_gone (hs : s.opStands op = false) : s.verdictOn op ok = s.opGone op := by
  simp [State.verdictOn, hs]

/-- A change that the partner or a check of now refuses: check 6, or the check that fails (R317, R325). -/
theorem verdictOn_refused (hs : s.opStands op = true) (h : ok = false ∨ (s.opCand op).check.1 ≠ 0) :
    s.verdictOn op ok =
      (s.w Reg.shpCHECK_RESULT (if ok then (s.opCand op).check.1 + 256 * (s.opCand op).check.2 else 6)).opRefused op := by
  cases ok with
  | false => simp [State.verdictOn, hs]
  | true =>
    have hcode : (s.opCand op).check.1 ≠ 0 := h.resolve_left (by decide)
    simp [State.verdictOn, hs, hcode]

/-- A change that the partner allows and the checks of now admit is made. -/
theorem verdictOn_admitted (hs : s.opStands op = true) (hc : (s.opCand op).check.1 = 0) : s.verdictOn op true = s.opGo op := by
  simp [State.verdictOn, hs, hc]

end

/-- Of a single change nothing waits after its verdict. -/
theorem verdictIn_last {s : State} {t0 : Nat} {op : PendOp} (h : s.shep.cands = [(t0, op)]) (ok : Bool) :
    s.verdictIn ok = ((s.decides []).verdictOn op ok).done := by
  unfold State.verdictIn
  rw [h]
  show State.done (if ((s.decides []).verdictOn op ok).shep.asked = true then _ else _) = _
  split <;> rfl

/-- When a verdict leaves none before the partner, the next change that its checks admit is put to it (R324). -/
theorem verdictIn_next {s t : State} {t0 t1 : Nat} {op next : PendOp} {rest : List (Nat × PendOp)} {ok : Bool}
    (h : s.shep.cands = (t0, op) :: (t1, next) :: rest)
    (ht : (s.decides ((t1, next) :: rest)).verdictOn op ok = t.decides ((t1, next) :: rest))
    (hstands : (t.decides rest).opStands next = true) (hcheck : ((t.decides rest).opCand next).check.1 = 0)
    (hup : (t.decides rest).partnerUp = true) :
    s.verdictIn ok = ((t.decides rest).askPartner ((t.decides rest).opCand next) next).done := by
  have hdecided : s.verdictIn ok = ((t.decides ((t1, next) :: rest)).candNext (rest.length + 1)).done := by
    unfold State.verdictIn
    rw [h]
    show State.done (if ((s.decides ((t1, next) :: rest)).verdictOn op ok).shep.asked = true then _ else
      ((s.decides ((t1, next) :: rest)).verdictOn op ok).candNext _) = _
    rw [ht]
    rfl
  rw [hdecided]
  exact congrArg State.done (if_pos ⟨hstands, hcheck, hup⟩)

/-! ## A write that waited -/

theorem verdictOn_write_refused (s : State) (src kind : Nat) (vs : List (Nat × Nat)) (ok : Bool)
    (h : ok = false ∨ (s.stored vs).check.1 ≠ 0) : s.verdictOn (.write src kind vs .own) ok =
      (s.w Reg.shpCHECK_RESULT (if ok then (s.stored vs).check.1 + 256 * (s.stored vs).check.2 else 6)).answer 0x1D 0 :=
  verdictOn_refused s (.write src kind vs .own) rfl h

/-- A refused write is answered 0x1D, the check that failed stands in CHECK_RESULT, and nothing else changes (R317, R325). -/
theorem refusedWrite_spec (s : State) (src kind : Nat) (vs : List (Nat × Nat)) (code : Nat)
    (h : code ≠ 0 ∨ (s.stored vs).check.1 ≠ 0) : let u := s.verdictOn (.write src kind vs .own) (decide (code = 0))
    u = { s with regs := u.regs, od := { s.od with rsp := ⟨0x1D, 0, []⟩ } } ∧
      u.r Reg.shpCHECK_RESULT = (if code ≠ 0 then 6 else (s.stored vs).check.1 + 256 * (s.stored vs).check.2) ∧
      SameRegsBut s u [Reg.shpCHECK_RESULT] := by
  rw [verdictOn_write_refused s src kind vs _ (h.imp_left decide_eq_false)]
  refine ⟨rfl, ?_, fun k hk => ?_⟩
  · rw [State.answer_r, State.w_r, if_pos rfl]
    by_cases hcode : code = 0 <;> simp [hcode]
  · rw [State.answer_r, State.w_r, if_neg (by simpa using hk)]

/-- Behind a write that the partner refuses, the next write that its checks admit is put to the partner (R324, R325). -/
theorem verdictIn_refusedWrite_next {s c : State} {t0 src kind t1 src1 kind1 : Nat} {vs vs1 : List (Nat × Nat)}
    {rest : List (Nat × PendOp)}
    (h : s.shep.cands = (t0, .write src kind vs .own) :: (t1, .write src1 kind1 vs1 .own) :: rest)
    (hc : c = ((s.w Reg.shpCHECK_RESULT 6).answer 0x1D 0).decides rest) (hcheck : (c.stored vs1).check.1 = 0)
    (hup : s.partnerUp = true) : s.verdictIn false = (c.askPartner (c.stored vs1) (.write src1 kind1 vs1 .own)).done := by
  have hrefused : (s.decides ((t1, .write src1 kind1 vs1 .own) :: rest)).verdictOn (.write src kind vs .own) false =
      ((s.w Reg.shpCHECK_RESULT 6).answer 0x1D 0).decides ((t1, .write src1 kind1 vs1 .own) :: rest) :=
    verdictOn_write_refused _ src kind vs false (.inl rfl)
  subst hc
  exact verdictIn_next h hrefused rfl hcheck ((partner_checkResult s 6).1.trans hup)

/-- POWER_LIMIT sizes no station and has no effect of its own, and no write of it ends anything. -/
theorem powerLimit_plain (s : State) (old v : Nat) : s.stored [(Reg.opPOWER_LIMIT, v)] = s.w Reg.opPOWER_LIMIT v ∧
    s.applied Reg.opPOWER_LIMIT old v = s ∧ s.frees Reg.opPOWER_LIMIT v = false := by
  refine ⟨?_, ?_, ?_⟩
  · have hnone : instOf 0x3400 16 8 1 Reg.opPOWER_LIMIT = none := by decide
    simp only [State.stored, State.wAll, State.each, List.foldl_cons, List.foldl_nil, hnone]
  · simp [State.applied, State.effectHooks, hookFor, instOf, Reg.opPOWER_LIMIT]
  · simp [State.frees, instOf, Reg.opPOWER_LIMIT, Reg.covCOV_ENABLE]

/-- What finishes a write of POWER_LIMIT is bookkeeping and the answer. -/
theorem finish_powerLimit (s old : State) (src kind v : Nat) : let u := s.finish old src kind [(Reg.opPOWER_LIMIT, v)] .own
    u.book = s.book ∧ u.od.rsp = ⟨0, 0, []⟩ := by
  obtain ⟨-, -, hfrees⟩ := powerLimit_plain old 0 v
  have hfin : s.finish old src kind [(Reg.opPOWER_LIMIT, v)] .own =
      ((s.wrote src kind Reg.opPOWER_LIMIT (keySize Reg.opPOWER_LIMIT) v).bpWrite Reg.opPOWER_LIMIT).answer 0 0 := by
    simp only [State.finish, State.each, lastVals, List.foldl_cons, List.foldl_nil, List.any_cons, List.any_nil, Bool.or_false,
      Bool.false_eq_true, if_false, State.respond, hfrees, (powerLimit_plain _ _ v).2.1, State.when]
  dsimp only
  rw [hfin]
  refine ⟨?_, rfl⟩
  rw [book_answer, book_bpWrite, book_wrote, State.toADie, State.when, if_neg (by decide)]

/-- Bookkeeping leaves the placement and the changes that wait. -/
theorem shep_of_book {s t : State} (h : t.book = s.book) : t.shep = s.shep := by rw [book_eq h]

/-- POWER_LIMIT admitted after a wait: the value stands, the write is answered, and what waits behind it is as it was (R317, R325). -/
theorem admittedPowerLimit_spec (s : State) (src kind v : Nat) (hcheck : (s.stored [(Reg.opPOWER_LIMIT, v)]).check.1 = 0) :
    let u := s.verdictOn (.write src kind [(Reg.opPOWER_LIMIT, v)] .own) true
    u.r Reg.opPOWER_LIMIT = v ∧ u.od.rsp = ⟨0, 0, []⟩ ∧ u.shep.cands = s.shep.cands := by
  obtain ⟨hstored, -, -⟩ := powerLimit_plain s 0 v
  obtain ⟨hbook, hrsp⟩ := finish_powerLimit (s.stored [(Reg.opPOWER_LIMIT, v)]).admitNow s src kind v
  have hcands : (s.stored [(Reg.opPOWER_LIMIT, v)]).admitNow.shep.cands = s.shep.cands := by
    rw [admitNow_cands, hstored, State.w_shep]
  have hvalue : (s.stored [(Reg.opPOWER_LIMIT, v)]).admitNow.r Reg.opPOWER_LIMIT = v := by
    rw [on_r (plain_admitNow _) _ (by decide), hstored, State.w_r, if_pos rfl]
  rw [verdictOn_admitted s (.write src kind [(Reg.opPOWER_LIMIT, v)] .own) rfl hcheck]
  exact ⟨(book_r hbook _ (by decide)).trans hvalue, hrsp, (congrArg Shep.cands (shep_of_book hbook)).trans hcands⟩

/-! ## A commit that waited -/

/-- An action that has ended is not executing. -/
theorem actDone_idle (s : State) (key v : Nat) (ok : Bool) : (s.actDone key v ok).actBusy key = false := by
  unfold State.actDone
  dsimp only
  split
  · rw [State.actBusy, act_of_toks (toks_tlyAdd _ _ _ _ _ _ _), State.act, tget_tset, if_pos rfl]
  · next h => exact Bool.eq_false_iff.2 h

/-- A commit that fails leaves the pipelines and CHECK_RESULT; one that was executing ends with its code (R451). -/
theorem commitFail_ends (s : State) (h : Fin 32) (code : Nat) : let u := s.commitFail (Reg.hsCOMMIT h) code
    u.pipes = s.pipes ∧ u.r Reg.shpCHECK_RESULT = s.r Reg.shpCHECK_RESULT ∧ u.actBusy (Reg.hsCOMMIT h) = false ∧
      (s.actBusy (Reg.hsCOMMIT h) = true → u.r (Reg.hsCOMMIT h + 1) / 65536 = code) := by
  refine ⟨?_, ?_, actDone_idle _ _ _ _, fun hb => (commitFail_spec s h code hb).2.2⟩
  · rw [State.commitFail, actDone_eq]
    rfl
  · refine actDone_r_ne _ _ _ _ _ (by decide) ?_
    rw [(headResultOf h).1]
    simp only [ne_eq, Option.some.injEq, Reg.hsCOMMIT, Reg.shpCHECK_RESULT]
    omega

/-- A commit that the partner refuses: check 6 and code 4 (R317, R325). -/
theorem refusedCommit_spec (s : State) (h : Fin 32) (hatt : s.attached h = true) : let u := s.verdictOn (.commit h) false
    u.r Reg.shpCHECK_RESULT = 6 ∧ u.pipes = s.pipes ∧ (s.actBusy (Reg.hsCOMMIT h) = true →
      u.r (Reg.hsCOMMIT h + 1) / 65536 = 4 ∧ u.actBusy (Reg.hsCOMMIT h) = false) := by
  rw [verdictOn_refused s (.commit h) hatt (.inl rfl)]
  obtain ⟨hpipes, hcheck, hidle, hresult⟩ := commitFail_ends (s.w Reg.shpCHECK_RESULT 6) h 4
  exact ⟨hcheck.trans ((State.w_r _ _ _ _).trans (if_pos rfl)), hpipes, fun hb => ⟨hresult hb, hidle⟩⟩

/-- Arming by COMMIT whether or not its request is still executing: the set is the armed one under its tag (R25, R113). -/
theorem commitArm_armed (s : State) (h : Fin 32) (p : PSet) : ((s.commitArm h p).pipe h).armed = some p ∧
    (s.commitArm h p).r (Reg.hsARMED_TAG h) = p.tag ∧ (s.commitArm h p).actBusy (Reg.hsCOMMIT h) = false := by
  have ka : bookKey (Reg.hsARMED_TAG h) = false := bookKey_headKey (off := 0x10B) h (by omega)
  obtain ⟨hpatch, hpersist, hresult⟩ : Reg.hsARMED_TAG h ≠ Reg.pcPATCH_COUNT h ∧ Reg.hsARMED_TAG h ≠ Reg.pcPERSIST_COUNT h ∧
      Reg.hsCOMMIT h + 1 ≠ Reg.hsARMED_TAG h := by
    simp only [Reg.hsARMED_TAG, Reg.pcPATCH_COUNT, Reg.pcPERSIST_COUNT, Reg.hsCOMMIT]; omega
  obtain ⟨-, harmed, htag⟩ := superArm_spec s h h.isLt p
  unfold State.commitArm
  extract_lets s1 pipe s2 s3
  have h2 : (s2.pipe h).armed = some p ∧ s2.r (Reg.hsARMED_TAG h) = p.tag :=
    ⟨(congrArg Pipe.armed ((State.wPipe_pipe _ _ _ _).trans (if_pos rfl))).trans harmed,
      (State.w_r _ _ _ _).trans ((if_neg hpatch).trans htag)⟩
  have h3 : s3.pipes = s2.pipes ∧ s3.r (Reg.hsARMED_TAG h) = s2.r (Reg.hsARMED_TAG h) := by
    unfold s3
    split
    · obtain ⟨-, hpipes, -, hr⟩ := wPersist_spec s2 h (persistAdd (s2.persist h) p.patches)
      exact ⟨hpipes, (hr _ ka).trans (if_neg hpersist)⟩
    · exact ⟨rfl, rfl⟩
  refine ⟨?_, ?_, actDone_idle _ _ _ _⟩
  · rw [State.pipe, actDone_eq]
    exact (congrArg (fun l => (tget {} l h).armed) h3.1).trans h2.1
  · rw [actDone_r_ne _ _ _ _ _ ka (by rw [(headResultOf h).1]; exact fun he => hresult (Option.some.inj he))]
    exact h3.2.trans h2.2

section
variable (s : State) (h : Fin 32) (hatt : s.attached h = true)
  (hcheck : (s.withArmed h (some (s.hostSet h))).check.1 = 0)
include hatt hcheck

/-- A commit that Shepherd still admits and its own checks of now refuse fails with their code (R27, R172). -/
theorem failedCommit_spec (hcode : s.commitCode h (s.hostSet h) ≠ 0) : let u := s.verdictOn (.commit h) true
    u.pipes = s.pipes ∧ (s.actBusy (Reg.hsCOMMIT h) = true → u.r (Reg.hsCOMMIT h + 1) / 65536 = s.commitCode h (s.hostSet h)) := by
  have hfail : s.opGo (.commit h) = s.commitFail (Reg.hsCOMMIT h) (s.commitCode h (s.hostSet h)) := if_pos hcode
  rw [verdictOn_admitted s (.commit h) hatt hcheck, hfail]
  obtain ⟨hpipes, -, -, hresult⟩ := commitFail_ends s h (s.commitCode h (s.hostSet h))
  exact ⟨hpipes, hresult⟩

/-- A commit that is admitted and still passes its own checks arms the set of now (R113, R317). -/
theorem admittedCommit_spec (hcode : s.commitCode h (s.hostSet h) = 0) : let u := s.verdictOn (.commit h) true
    let tag := nextTag (s.hr h).lastTag
    (u.pipe h).armed = some (s.hostSet h) ∧ u.r (Reg.hsARMED_TAG h) = tag ∧
      (s.actBusy (Reg.hsCOMMIT h) = true → u.r (Reg.hsCOMMIT h + 1) = tag ∧ u.actBusy (Reg.hsCOMMIT h) = false) := by
  have hgo : s.opGo (.commit h) =
      (((s.withArmed h (some (s.hostSet h))).admitNow).withArmed h (s.pipe h).armed).commitArm h (s.hostSet h) :=
    if_neg (not_not.2 hcode)
  have htoks : (((s.withArmed h (some (s.hostSet h))).admitNow).withArmed h (s.pipe h).armed).toks = s.toks :=
    (toks_withArmed _ _ _).trans ((toks_admitNow _).trans (toks_withArmed _ _ _))
  rw [verdictOn_admitted s (.commit h) hatt hcheck, hgo]
  generalize ((s.withArmed h (some (s.hostSet h))).admitNow).withArmed h (s.pipe h).armed = c at htoks
  obtain ⟨harmed, htag, hidle⟩ := commitArm_armed c h (s.hostSet h)
  refine ⟨harmed, htag, fun hb => ⟨?_, hidle⟩⟩
  obtain ⟨-, -, -, hresult, -⟩ := commitArm_spec c h (s.hostSet h) (by rw [act_of_toks htoks]; exact hb)
  exact hresult

end

/-! ## An attach that waited -/

theorem attachCand_checkResult (s : State) (h : Nat) : (s.attachCand h).r Reg.shpCHECK_RESULT = s.r Reg.shpCHECK_RESULT := by
  have hrecords : Reg.shpCHECK_RESULT ≠ Reg.pcSEG_RECORDS h := by unfold Reg.shpCHECK_RESULT Reg.pcSEG_RECORDS; omega
  unfold State.attachCand
  rw [State.w_r, if_neg hrecords, State.wb_r, if_neg (by decide)]
  rfl

/-- A head that Shepherd refuses is shed and stays in STANDBY with its attach over; CHECK_RESULT stands (R317, R321, R326). -/
theorem attachShed_spec (s : State) (h : Nat) : ((s.attachShed h).hd h).step = 0 ∧
    (s.attachShed h).r (Reg.hdATTACH_STATE h) = atSTANDBY ∧ (s.attachShed h).rb Reg.shpSHED_HEADS h = true ∧
      (s.attachShed h).r Reg.shpCHECK_RESULT = s.r Reg.shpCHECK_RESULT := by
  have kstate : placementKey (Reg.hdATTACH_STATE h) = false := decide_eq_false (by unfold Reg.hdATTACH_STATE; omega)
  have kshed : Reg.shpSHED_HEADS ≠ Reg.hdATTACH_STATE h := by unfold Reg.shpSHED_HEADS Reg.hdATTACH_STATE; omega
  have kcheck : Reg.shpCHECK_RESULT ≠ Reg.hdATTACH_STATE h := by unfold Reg.shpCHECK_RESULT Reg.hdATTACH_STATE; omega
  unfold State.attachShed
  extract_lets s1 s2 hd s3
  obtain ⟨hheads, -, hr⟩ := onlyPlaced_publish s3 0 s3.placing s3.runFormat
  have hbook : s2.book = s1.book := book_when s1 _ _ fun t => book_event t _ _ _
  have hr3 (k : Nat) : s3.r k = if k = Reg.hdATTACH_STATE h then atSTANDBY else s2.r k := State.w_r _ _ _ _
  have hr1 (k : Nat) : s1.r k = if k = Reg.shpSHED_HEADS then setBit h true ((s.attachCand h).r Reg.shpSHED_HEADS)
      else (s.attachCand h).r k := State.wb_r _ _ _ _ _
  have hstep : (s3.hd h).step = 0 :=
    congrArg Head.step ((State.wHd_hd s2 h { s2.hd h with step := 0, lastFull := none } h).trans (if_pos rfl))
  refine ⟨?_, ?_, ?_, ?_⟩
  · rw [hd_of_heads hheads]
    exact hstep
  · rw [hr _ kstate, hr3, if_pos rfl]
  · rw [State.rb, hr _ (by decide), hr3, if_neg kshed, book_r hbook _ (by decide), hr1, if_pos rfl, bit_setBit]
  · rw [hr _ (by decide), hr3, if_neg kcheck, book_r hbook _ (by decide), hr1, if_neg (by decide), attachCand_checkResult]

/-- An attach in step 7 that the partner refuses: check 6, and the head is shed (R317, R325). -/
theorem refusedAttach_spec (s : State) (h : Nat) (hstep : (s.hd h).step = 7) : let u := s.verdictOn (.attach h) false
    (u.hd h).step = 0 ∧ u.r (Reg.hdATTACH_STATE h) = atSTANDBY ∧ u.rb Reg.shpSHED_HEADS h = true ∧ u.r Reg.shpCHECK_RESULT = 6 := by
  rw [verdictOn_refused s (.attach h) (decide_eq_true hstep) (.inl rfl)]
  obtain ⟨hover, hstate, hshed, hcheck⟩ := attachShed_spec (s.w Reg.shpCHECK_RESULT 6) h
  exact ⟨hover, hstate, hshed, hcheck.trans ((State.w_r _ _ _ _).trans (if_pos rfl))⟩

/-! ## The command -/

section
variable {dt code : Nat} {m : PartnerMsg} {s : State}

theorem exec_verdict (h : (s.advance dt).hears m) :
    exec (.verdict dt m code) s = .next ((s.advance dt).verdictIn (decide (code = 0))) :=
  congrArg Host.Outcome.next (partnerIn_hears h _)

/-- A VERDICT on a change behind which none waits gives what the change's verdict makes of the state. -/
theorem givesDone_verdict_last {t0 : Nat} {op : PendOp} {P : State → Prop} (h : (s.advance dt).hears m)
    (hc : (s.advance dt).shep.cands = [(t0, op)]) (hP : P (((s.advance dt).decides []).verdictOn op (decide (code = 0)))) :
    GivesDone (.verdict dt m code) s P :=
  ⟨_, by rw [exec_verdict h, verdictIn_last hc], hP⟩

theorem verdictLate_due {s : State} {t0 : Nat} {op : PendOp} {rest : List (Nat × PendOp)} (hc : s.shep.cands = (t0, op) :: rest) :
    s.verdictLate = if s.since t0 10000000 then s.verdictIn (!s.partnerUp) else s := by
  unfold State.verdictLate
  rw [hc]

end

end Sys2Proof.Machine

open Sys2Proof Sys2Proof.Machine

/-- Settles O49: a verdict by what it makes of the one change it decides; the next one waits behind it and is put to the partner. -/
theorem candidates : Obligations.Candidates := by
  intro dt code m vals s a hears
  refine ⟨fun hup => ?_, fun hnone => ?_, fun t0 op rest hcands => ⟨fun hlate hcode => ?_, fun hearly => ?_, ?_⟩, ?_⟩
  · exact ⟨_, congrArg Host.Outcome.next (partnerIn_hears hears _), toPartner_spec a _ hup rfl⟩
  · have hin (ok : Bool) : a.verdictIn ok = a := by unfold State.verdictIn; rw [hnone]
    have hlate : a.verdictLate = a := by unfold State.verdictLate; rw [hnone]
    exact ⟨⟨_, exec_verdict hears, hin _⟩, ⟨_, rfl, hlate⟩⟩
  · have hok : (!a.partnerUp) = decide (code = 0) := by
      cases hup : a.partnerUp <;> simp [hcode, hup]
    rw [exec_verdict hears, ← hok]
    exact congrArg Host.Outcome.next ((verdictLate_due hcands).trans (if_pos hlate))
  · exact ⟨_, rfl, (verdictLate_due hcands).trans (if_neg (by rw [hearly]; decide))⟩
  · rintro src kind vs t1 src1 kind1 vs1 rest1 rfl rfl hcode c hcheck hup
    obtain ⟨hupa, hepoch, hlane⟩ := partner_checkResult a 6
    have hnext := verdictIn_refusedWrite_next (c := c) hcands rfl hcheck hup
    have hasked := askPartner_sends c (c.stored vs1) (.write src1 kind1 vs1 .own) (hupa.trans hup) rfl
    generalize c.askPartner (c.stored vs1) (.write src1 kind1 vs1 .own) = u at hnext hasked
    obtain ⟨hu, hsent⟩ := hasked
    refine ⟨u, by rw [exec_verdict hears, decide_eq_false hcode, hnext], hu, fun l hl => ?_⟩
    rw [← hepoch]
    exact hsent l (hlane.trans hl)
  · intro t0 op hcands b
    have hb : b = a.decides [] := rfl
    clear_value b
    subst hb
    refine ⟨?_, ?_, ?_⟩
    · rintro src kind vs rfl q
      refine ⟨fun hno => givesDone_verdict_last hears hcands ?_, fun hcode hq v hvs => givesDone_verdict_last hears hcands ?_⟩
      · exact refusedWrite_spec (a.decides []) src kind vs code hno
      · subst hvs
        rw [decide_eq_true hcode]
        exact admittedPowerLimit_spec (a.decides []) src kind v hq
    · rintro h hh rfl hatt q
      refine ⟨fun hcode => givesDone_verdict_last hears hcands ?_, fun hcode hq hfail => givesDone_verdict_last hears hcands ?_,
        fun hcode hq hpass => givesDone_verdict_last hears hcands ?_⟩
      · rw [decide_eq_false hcode]
        exact refusedCommit_spec (a.decides []) ⟨h, hh⟩ hatt
      · rw [decide_eq_true hcode]
        exact failedCommit_spec (a.decides []) ⟨h, hh⟩ hatt hq hfail
      · rw [decide_eq_true hcode]
        exact admittedCommit_spec (a.decides []) ⟨h, hh⟩ hatt hq hpass
    · rintro h hh rfl
      refine ⟨fun hstep => givesDone_verdict_last hears hcands ?_, fun hstep hcode => givesDone_verdict_last hears hcands ?_⟩
      · exact verdictOn_gone (a.decides []) (.attach h) (decide_eq_false hstep)
      · rw [decide_eq_false hcode]
        exact refusedAttach_spec (a.decides []) h hstep

end

section
/-! PROOFS. What start-up and the follow-up of every command leave alone (O34, O56): the start-up step, the journal's first number, the
device state and FAIL_CAUSE, the clock, the boot state, the power state and whether the journal waits for its first entry. -/

namespace Sys2Proof.Machine

/-! ## The view -/

/-- A step that leaves a view of the state does so where it is made under a condition. -/
theorem view_when {α : Type} (view : State → α) (s : State) (c : Bool) (f : State → State) (h : view (f s) = view s) :
    view (s.when c f) = view s := by
  unfold State.when
  split
  · exact h
  · rfl

/-- Steps that leave a view of the state each do so in turn. -/
theorem view_each {α β : Type} (view : State → α) (s : State) (l : List β) (f : β → State → State)
    (h : ∀ b ∈ l, ∀ t, view (f b t) = view t) : view (s.each l f) = view s := by
  unfold State.each
  induction l generalizing s with
  | nil => rfl
  | cons b l ih => exact (ih _ fun c hc => h c (List.mem_cons_of_mem b hc)).trans (h b List.mem_cons_self s)

/-- START_STEP, LIFE_START_SEQ, DEVICE_STATE and FAIL_CAUSE. -/
def startKey (k : Nat) : Bool := decide (k = Reg.rstSTART_STEP ∨ k = Reg.tlyLIFE_START_SEQ ∨ k = Reg.opDEVICE_STATE ∨ k = Reg.memFAIL_CAUSE)

theorem startKey_false {k : Nat} (h : k ≠ 0x100104 ∧ k ≠ 0x121007 ∧ k ≠ 0x200001 ∧ k ≠ 0x220010) : startKey k = false :=
  decide_eq_false (by
  unfold Reg.rstSTART_STEP Reg.tlyLIFE_START_SEQ Reg.opDEVICE_STATE Reg.memFAIL_CAUSE; omega)

/-- What the steps below leave alone: the registers of `startKey` and the parts of the state that start-up goes by. -/
def State.base (s : State) : (Nat → Nat) × Clk × Boot × Bool × Bool × Option Nat × Bool :=
  (s.on startKey, s.clk, s.boot, s.pwr.cutoff, s.pwr.stopOver, s.pwr.target, s.tly.awaits)

/-- The parts of the state, apart from registers. -/
theorem base_of {s t : State} (hr : t.on startKey = s.on startKey)
    (h : (t.clk, t.boot, t.pwr.cutoff, t.pwr.stopOver, t.pwr.target, t.tly.awaits) =
      (s.clk, s.boot, s.pwr.cutoff, s.pwr.stopOver, s.pwr.target, s.tly.awaits)) : t.base = s.base :=
  Prod.ext hr h

theorem base_on {s t : State} (h : t.base = s.base) : t.on startKey = s.on startKey := congrArg Prod.fst h

theorem base_r {s t : State} (h : t.base = s.base) {k : Nat} (hk : startKey k = true) : t.r k = s.r k := on_r (base_on h) k hk

theorem base_parts {s t : State} (h : t.base = s.base) : t.clk = s.clk ∧ t.boot = s.boot ∧ t.pwr.cutoff = s.pwr.cutoff ∧
    t.pwr.stopOver = s.pwr.stopOver ∧ t.pwr.target = s.pwr.target ∧ t.tly.awaits = s.tly.awaits := by
  have hparts := congrArg Prod.snd h
  simp only [State.base, Prod.mk.injEq] at hparts
  exact hparts

theorem base_w (s : State) (k v : Nat) (h : k ≠ 0x100104 ∧ k ≠ 0x121007 ∧ k ≠ 0x200001 ∧ k ≠ 0x220010) : (s.w k v).base = s.base :=
  base_of (on_w _ _ _ (startKey_false h)) rfl

theorem base_bump (s : State) (k : Nat) (h : k ≠ 0x100104 ∧ k ≠ 0x121007 ∧ k ≠ 0x200001 ∧ k ≠ 0x220010) : (s.bump k).base = s.base :=
  base_w _ _ _ h

theorem base_wAll (s : State) (l : List (Nat × Nat)) (h : ∀ e ∈ l, startKey e.1 = false) : (s.wAll l).base = s.base :=
  base_of (on_wAll _ _ h) (by rw [State.wAll_eq])

/-- The journal's own state, the head links and the lanes' training. -/
theorem base_tly (s : State) (x : Tally) (h : x.awaits = s.tly.awaits) : State.base { s with tly := x } = s.base :=
  base_of (on_of_regs rfl) (by rw [h])

theorem base_wHd (s : State) (h : Nat) (x : Head) : (s.wHd h x).base = s.base := base_of (on_of_regs rfl) rfl

theorem base_wLane (s : State) (l : Nat) (x : Lane) : (s.wLane l x).base = s.base := base_of (on_of_regs rfl) rfl

theorem base_attempt (s : State) (l : Nat) : (s.attempt l).base = s.base := (base_wLane (s.takeMax l) l _).trans (base_wLane s l _)

theorem LinkOnly.base {h : Nat} {s t : State} (hl : LinkOnly h s t) : t.base = s.base :=
  base_of (on_of_r fun k _ => hl.r k) (by rw [hl.1])

/-! ## Events, the journal and actions -/

theorem base_event (s : State) (code inst data : Nat) : (s.event code inst data).base = s.base := by
  have hseq : Reg.evEVENT_SEQ ≠ 0x100104 ∧ Reg.evEVENT_SEQ ≠ 0x121007 ∧ Reg.evEVENT_SEQ ≠ 0x200001 ∧ Reg.evEVENT_SEQ ≠ 0x220010 := by decide
  unfold State.event
  extract_lets k hd held merged seq
  by_cases hh : held = true
  · rw [if_pos hh]
    rfl
  · rw [if_neg hh]
    split <;> exact base_w _ _ _ hseq

theorem base_nvmRecord (s : State) (id cls : Nat) (data : Bytes) (fin : NvmDone) : (s.nvmRecord id cls data fin).base = s.base :=
  (base_w _ Reg.nvmWRITES_QUEUED _ (by decide)).trans (base_w _ Reg.nvmBANK_BUSY _ (by decide))

theorem base_hwmStore (s : State) (v : Nat) : (s.hwmStore v).base = s.base :=
  (base_tly _ _ rfl).trans (base_nvmRecord s _ _ _ _)

theorem base_tlyNumber (s : State) (e : TEntry) : (s.tlyNumber e).base = s.base := by
  have hold (t : State) (c : Bool) (v : Nat) : (t.when c fun u => u.w Reg.tlyOLDEST_SEQ v).base = t.base :=
    view_when _ _ _ _ (base_w _ _ _ (by decide))
  have hnext (t : State) (v : Nat) : (t.w Reg.tlyNEXT_SEQ v).base = t.base := base_w _ _ _ (by decide)
  unfold State.tlyNumber
  dsimp only
  split
  · rw [base_hwmStore, hold, hnext]
    rfl
  · rw [hold, hnext]
    rfl

theorem base_tlyPut (s : State) (e : TEntry) : (s.tlyPut e).base = s.base := by
  unfold State.tlyPut
  split
  · exact base_tlyNumber _ _
  · split
    · dsimp only
      split
      · exact base_hwmStore _ _
      · rfl
    · exact (base_tly _ _ rfl).trans (base_bump _ _ (by decide))

theorem base_tlyAdd (s : State) (src kind key result token value : Nat) : (s.tlyAdd src kind key result token value).base = s.base :=
  base_tlyPut _ _

/-- An action whose result is none of the registers. -/
theorem base_actDone (s : State) (key v : Nat) (ok : Bool) (h : key ≠ 0x100103 ∧ key ≠ 0x121006 ∧ key ≠ 0x200000 ∧ key ≠ 0x22000F) :
    (s.actDone key v ok).base = s.base := by
  unfold State.actDone
  dsimp only
  by_cases hbusy : (s.act key).busy = true
  · rw [if_pos hbusy, base_tlyAdd]
    split
    · next k hk =>
      split
      · rfl
      · refine base_w _ _ _ ?_
        rcases resultOf_some hk with rfl | rfl | rfl
        · omega
        · decide
        · decide
    · rfl
  · rw [if_neg hbusy]

end Sys2Proof.Machine
end

section
/-! PROOFS. Export, heads, halts, stations, zones and the wake of the memory leave the base (O34, O56). -/

namespace Sys2Proof.Machine

/-! ## Export, heads and runs -/

theorem base_xKick (s : State) : s.xKick.base = s.base := by
  have start (t : State) (g i : Nat) : (t.xStart g i).base = t.base := by
    unfold State.xStart
    dsimp only
    split
    · rfl
    · split <;> rfl
  have passes (n : Nat) (t : State) : (t.xPasses n).base = t.base := by
    induction n generalizing t with
    | zero => rfl
    | succ n ih =>
      unfold State.xPasses
      split
      · rfl
      · exact (ih _).trans (view_each _ _ _ _ fun g _ u => view_each _ _ _ _ fun i _ v => start v g i)
  exact passes 48 s

theorem base_xPut (s : State) (g : Nat) (l : List XPkt) : (s.xPut g l).base = s.base :=
  (base_xKick _).trans (base_w (s.wXQueue g (s.xQueue g ++ l)) _ _ (by unfold Reg.grcBUF_PEAK; omega))

theorem base_xOffer (s : State) (x ty info : Nat) (words : List Nat) : (s.xOffer x ty info words).base = s.base := by
  have send (t : State) (g : Nat) : (t.xSend g x ty info words).base = t.base := by
    unfold State.xSend
    split
    · rfl
    · exact base_xPut _ _ _
  have stripe : (s.stripe x).base = s.base := by
    unfold State.stripe
    dsimp only
    split
    · rfl
    · exact base_xPut _ _ _
  unfold State.xOffer
  dsimp only
  split
  · exact (send _ _).trans stripe
  · exact (base_bump _ _ (by unfold Reg.grcDROPPED; omega)).trans stripe

theorem base_tagTimeout (s : State) (h tag : Nat) : (s.tagTimeout h tag).base = s.base :=
  (base_event _ _ _ _).trans (base_bump _ _ (by unfold Reg.pkTAG_TIMEOUT; omega))

theorem base_disarm (s : State) (h : Nat) : (s.disarm h).base = s.base := by
  unfold State.disarm
  split
  · exact (base_tagTimeout _ _ _).trans (base_w _ _ _ (by unfold Reg.hsARMED_TAG; omega))
  · rfl

theorem base_foldEnd (s : State) (h code state : Nat) : (s.foldEnd h code state).base = s.base := by
  unfold State.foldEnd
  split
  · rfl
  · extract_lets v s1 f p s2 s3
    have h1 : s1.base = s.base :=
      (base_w _ _ _ (by unfold Reg.hlFOLD_STATE; omega)).trans (base_w _ _ _ (by unfold Reg.hlLAST_FOLD_RESULT; omega))
    have h3 : s3.base = s2.base := view_when _ _ _ _ (base_actDone _ _ _ _ (by unfold Reg.hlFOLD_NOW; omega))
    exact (base_nvmRecord _ _ _ _ _).trans (h3.trans h1)

theorem base_lifeAdd (s : State) (h : Nat) (f : Life → Life) : (s.lifeAdd h f).base = s.base := by
  have publish (t : State) : (t.lifePublish h).base = t.base := by
    unfold State.lifePublish
    extract_lets x s1 used s2 old new s3 s4
    have hcnt : startKey (Reg.hlSHUTTER_CNT h) = false := startKey_false (by unfold Reg.hlSHUTTER_CNT; omega)
    have hwin : startKey (Reg.hlWINDOW_EQ h) = false := startKey_false (by unfold Reg.hlWINDOW_EQ; omega)
    have h1 : s1.base = t.base := base_wAll _ _ (by simp [hcnt, hwin])
    have h2 : s2.base = t.base := (base_w _ _ _ (by unfold Reg.hlLIFE_USED; omega)).trans h1
    have h3 : s3.base = s2.base := base_w _ _ _ (by unfold Reg.hlLIFE_STATE; omega)
    have h4 : s4.base = s3.base := view_when _ _ _ _ (base_event _ _ _ _)
    split
    · exact h2
    · exact (view_when _ _ _ _ (base_event _ _ _ _)).trans (h4.trans (h3.trans h2))
  unfold State.lifeAdd State.lifeShow
  dsimp only
  split
  · rfl
  · exact publish _

theorem base_lifeRun (s : State) (h : Nat) : (s.lifeRun h).base = s.base :=
  (linkOnly_lifeWrite _ h).base.trans (base_lifeAdd _ _ _)

theorem base_foldAbort (s : State) (h : Nat) : (s.foldAbort h).base = s.base := by
  unfold State.foldAbort
  split
  · rfl
  · extract_lets st s1 s3 s4
    have h1 : s1.base = s.base := by
      unfold s1
      split
      · rfl
      · split
        · exact base_disarm _ _
        · rfl
    exact (view_when _ _ _ _ (base_lifeRun _ _)).trans ((base_foldEnd _ _ _ _).trans h1)

/-! ## Halts, stations and zones -/

theorem start_haltSettle (s : State) : s.haltSettle.on startKey = s.on startKey := by
  have hpipes : startKey Reg.dbgHALTED_PIPES = false := by decide
  have hstations : startKey Reg.dbgHALTED_STATIONS = false := by decide
  unfold State.haltSettle
  refine (on_each _ _ _ fun st _ t => ?_).trans (on_each _ _ _ fun h _ t => ?_)
  · extract_lets want is_ m
    split
    · split
      · exact on_w _ _ _ hstations
      · rfl
    · split
      · exact on_w _ _ _ hstations
      · split <;> rfl
  · extract_lets want is_
    split
    · exact (on_w _ _ _ hpipes).trans (base_on (base_foldAbort _ _))
    · split
      · exact on_w _ _ _ hpipes
      · rfl

theorem base_emitLine (s : State) (st n : Nat) : (s.emitLine st n).base = s.base := by
  unfold State.emitLine
  extract_lets x b seq ws fl hdr s1 s2 s3
  have h2 : s2.base = s.base :=
    (view_when _ _ _ _ (base_bump _ _ (by unfold Reg.scLINES_INCOMPLETE; omega))).trans <|
      (base_w _ _ _ (by unfold Reg.sstNEXT_LINE; omega)).trans (base_w s1 _ _ (by unfold Reg.sstWL_SEQ; omega))
  have h3 : s3.base = s2.base := view_each _ _ _ _ fun y _ t => base_xOffer _ _ _ _ _
  have h4 : (s3.zoneAdd st seq fl ws).base = s3.base := by
    unfold State.zoneAdd
    exact view_each _ _ _ _ fun z _ t => rfl
  exact h4.trans (h3.trans h2)

theorem base_stStop (s : State) (st : Nat) : (s.stStop st).base = s.base := rfl

theorem base_emitLines (s : State) (st n k : Nat) : (s.emitLines st n k).base = s.base := by
  induction k generalizing s n with
  | zero => rfl
  | succ k ih =>
    unfold State.emitLines
    extract_lets t
    have ht : t.base = s.base := base_emitLine s st n
    split
    · exact (base_stStop t st).trans ht
    · exact (ih t _).trans ht

theorem base_formBand (s : State) (st n0 : Nat) : (s.formBand st n0).base = s.base := by
  unfold State.formBand
  exact (base_w _ _ _ (by unfold Reg.scBAND_OVERFLOW; omega)).trans <|
    (base_w _ _ _ (by unfold Reg.scLATE_SAMPLE; omega)).trans (base_w _ _ _ (by unfold Reg.sstNEXT_LINE; omega))

theorem base_stSettle (s : State) (st : Nat) : (s.stSettle st).base = s.base := by
  unfold State.stSettle
  split
  · rfl
  · extract_lets s0
    have h0 : s0.base = s.base := view_each _ _ _ _ fun j _ t => view_when _ _ _ _ rfl
    split
    · exact h0
    · split
      · exact h0
      · extract_lets q s1
        have h1 : s1.base = s0.base := by
          unfold s1
          split
          · rfl
          · exact base_formBand _ _ _
        exact (base_emitLines _ _ _ _).trans (h1.trans h0)

theorem start_settle (s : State) : s.settle.on startKey = s.on startKey :=
  (on_each _ _ _ fun st _ t => base_on (base_stSettle t st)).trans (start_haltSettle s)

theorem base_zoneOff (s : State) (z : Nat) : (s.zoneOff z).base = s.base := by
  refine base_wAll (s.wZone z _) _ fun e he => startKey_false ?_
  simp only [List.mem_cons, List.not_mem_nil, or_false] at he
  rcases he with rfl | rfl | rfl | rfl | rfl <;>
    simp only [Reg.zsZONE_STATE, Reg.zsSAFE_CAUSE, Reg.zsDEMAND, Reg.zsINTEGRAL, Reg.zsZONE_FLAGS] <;> omega

theorem base_zonesEnd (s : State) : s.zonesEnd.base = s.base := view_each _ _ _ _ fun z _ t => base_zoneOff t z

theorem base_stationEnters (s : State) (st : Nat) : (s.stationEnters st).base = s.base := by
  refine view_each _ _ _ _ fun z _ t => ?_
  unfold State.zoneConfig
  dsimp only
  split <;> exact base_w _ _ _ (by unfold Reg.zsDELAY_DIST; omega)

/-! ## The wake of the memory and of the heads -/

theorem base_retrainAsk (s : State) (d : Nat) : (s.retrainAsk d).base = s.base := by
  have next (t : State) : t.retrainNext.base = t.base := by
    unfold State.retrainNext
    split
    · rfl
    · split
      · dsimp only
        split
        · rfl
        · exact base_w _ _ _ (by unfold Reg.subSUB_STATE; omega)
      · rfl
  unfold State.retrainAsk
  split
  · rfl
  · exact (next _).trans (base_w _ _ _ (by unfold Reg.subSUB_STATE; omega))

theorem base_memStart (s : State) : s.memStart.base = s.base := by
  unfold State.memStart
  refine Eq.trans (view_each _ _ _ _ fun d _ u => ?_) ?_
  · rfl
  · exact base_w s Reg.memMEM_STATE 3 (by decide)

theorem base_memWake (s : State) : s.memWake.base = s.base := by
  unfold State.memWake
  split
  · exact (view_each _ _ _ _ fun d _ t => base_retrainAsk t d).trans (base_memStart s)
  · rfl

theorem base_toPartner (s : State) (m : PMsg) : (s.toPartner m).base = s.base := by
  unfold State.toPartner State.partnerSend
  split
  · split <;> rfl
  · rfl

theorem base_sendSettings (s : State) (h : Nat) (p : PSet) : (s.sendSettings h p).base = s.base := by
  unfold State.sendSettings
  split
  · rfl
  · split
    · rfl
    · exact (linkOnly_headSend _ _ _ _).base

theorem base_armSet (s : State) (h : Nat) (p : PSet) : (s.armSet h p).base = s.base := by
  unfold State.armSet
  extract_lets s1 x s2 y s3 s4
  have h1 : s1.base = s.base := by
    unfold s1
    split
    · exact (base_tagTimeout _ _ _).trans (view_when _ _ _ _ rfl)
    · rfl
  have h2 : s2.base = s1.base := base_w _ _ _ (by unfold Reg.hsARMED_TAG; omega)
  have h4 : s4.base = s.base := (base_sendSettings _ _ _).trans (h2.trans h1)
  split
  · exact (base_toPartner _ _).trans h4
  · exact h4

theorem base_takeAttachSet (s : State) (h : Nat) : (s.takeAttachSet h).base = s.base := by
  refine base_wAll (State.wHr (s.wPipe h _) h _) _ fun e he => startKey_false ?_
  simp only [List.mem_cons, List.not_mem_nil, or_false] at he
  rcases he with rfl | rfl | rfl <;> simp only [Reg.hsCURRENT_TAG, Reg.hsARMED_TAG, Reg.pkBOUND_SLOTS] <;> omega

theorem base_attachNine (s : State) (h : Nat) : (s.attachNine h).base = s.base := by
  unfold State.attachNine
  extract_lets x s1 s2
  have h1 : s1.base = s.base := (linkOnly_headCmd _ _ _ _).base
  have h2 : s2.base = s1.base := by
    unfold s2
    split
    · split
      · split
        · rfl
        · exact base_armSet _ _ _
      · rfl
    · split
      · exact view_when _ _ _ _ (base_takeAttachSet _ _)
      · exact (base_sendSettings _ _ _).trans (base_takeAttachSet _ _)
  split
  · exact (base_wHd _ _ _).trans (h2.trans h1)
  · exact (linkOnly_headCmd _ _ _ _).base.trans (h2.trans h1)

theorem base_nineGo (s : State) : s.nineGo.base = s.base := by
  unfold State.nineGo
  split
  · exact view_each _ _ _ _ fun h _ t => view_when _ _ _ _ (base_attachNine _ _)
  · rfl

end Sys2Proof.Machine
end

section
/-! PROOFS. Memory commands (O34): the follow-up of a command leaves FAIL_CAUSE as the command has left it, and the state on which a failed
training does not leave it at 1 (R126, R355). -/

namespace Sys2Proof.Machine

/-! ## The follow-up of a command leaves FAIL_CAUSE -/

/-- FAIL_CAUSE alone: device state and start-up write the other registers of `startKey`. -/
def State.failCause (s : State) : Nat := s.r Reg.memFAIL_CAUSE

theorem fail_of_base {s t : State} (h : t.base = s.base) : t.failCause = s.failCause := base_r h (by decide)

theorem fail_w (s : State) (k v : Nat) (h : k ≠ 0x220010) : (s.w k v).failCause = s.failCause :=
  (State.w_r _ _ _ _).trans (if_neg fun he => h he.symm)

theorem fail_arrive (s : State) : s.arrive.failCause = s.failCause :=
  fail_of_base (s := { s with pwr := { s.pwr with target := none } }) (base_actDone _ _ _ _ (by decide))

theorem base_enterRun (s : State) : s.enterRun.base = (s.w Reg.opDEVICE_STATE stRUN).base :=
  (view_each _ _ _ _ fun st _ t => base_stationEnters (t.stStart st) st).trans (base_zonesEnd _)

theorem fail_enterRun (s : State) : s.enterRun.failCause = s.failCause := (fail_of_base (base_enterRun s)).trans (fail_w _ _ _ (by decide))

theorem fail_stateSettle (s : State) : s.stateSettle.failCause = s.failCause := by
  have hwake : s.memWake.nineGo.failCause = s.failCause := fail_of_base ((base_nineGo _).trans (base_memWake _))
  unfold State.stateSettle
  extract_lets t
  split
  · exact hwake
  · extract_lets t1 d
    have hready : t1.failCause = s.failCause := by
      unfold t1
      split
      · exact (fail_w _ _ _ (by decide)).trans hwake
      · exact hwake
    split
    · exact (fail_arrive _).trans hready
    · split
      · exact (fail_arrive _).trans ((fail_enterRun _).trans hready)
      · split
        · exact (fail_arrive _).trans hready
        · exact hready

theorem fail_wake (s : State) (t : Nat) : (s.wake t).failCause = s.failCause := fail_stateSettle _

theorem fail_startRun (s : State) : s.startRun.failCause = s.failCause := fail_stateSettle _

theorem fail_started (s : State) : s.started.failCause = s.failCause := by
  have htime (t : State) (v : Nat) : (t.w Reg.rstSTART_TIME v).failCause = t.failCause := fail_w _ _ _ (by decide)
  unfold State.started
  extract_lets ms b s1 s2
  have h2 : s2.failCause = s.failCause := (fail_of_base (base_event _ _ _ _)).trans (htime _ _)
  split
  · exact (fail_of_base (base_event _ _ _ _)).trans h2
  · exact h2

theorem fail_startReady (s : State) : s.startReady.failCause = s.failCause := by
  unfold State.startReady
  extract_lets b s1
  have hstep : s1.failCause = s.failCause := fail_w _ Reg.rstSTART_STEP 10 (by decide)
  split
  · exact (fail_started _).trans hstep
  · exact hstep

theorem fail_bootSettle (s : State) : s.bootSettle.failCause = s.failCause := by
  have hstep (t : State) (v : Nat) : (t.w Reg.rstSTART_STEP v).failCause = t.failCause := fail_w _ _ _ (by decide)
  unfold State.bootSettle
  extract_lets t w a b c
  have h0 : t.failCause = s.failCause := fail_stateSettle s
  split
  · exact h0
  · have ha : a.failCause = t.failCause := by
      unfold a
      split
      · split
        · exact (fail_wake _ _).trans (hstep _ _)
        · exact hstep _ _
      · rfl
    have hb : b.failCause = a.failCause := by
      unfold b
      split
      · exact fail_startReady _
      · rfl
    have hc : c.failCause = b.failCause := by
      unfold c
      split
      · exact fail_startRun _
      · rfl
    have h1 := hc.trans (hb.trans (ha.trans h0))
    split
    · exact (fail_started _).trans ((hstep _ _).trans h1)
    · exact h1

theorem fail_watchStep (s : State) : s.watchStep.failCause = s.failCause := by
  have begin_ (i : Nat) : (s.watchBegin i).failCause = s.failCause := by
    unfold State.watchBegin
    dsimp only
    split
    · rfl
    · split
      · rfl
      · exact fail_of_base (base_toPartner _ _)
  unfold State.watchStep
  split
  · split <;> rfl
  · split
    · rfl
    · split
      · split
        · rfl
        · exact begin_ _
      · exact begin_ _

/-- What follows a command leaves FAIL_CAUSE. -/
theorem fail_done (s : State) : s.done.failCause = s.failCause :=
  (fail_watchStep _).trans ((fail_bootSettle _).trans (on_r (start_settle s) _ (by decide)))

/-! ## The state on which O34 fails -/

/-- The results of a window name objects of the statistics, and not FAIL_CAUSE (R125). -/
theorem failCause_not_in_results (w : StatWin) (h cause : Nat) : ∀ e ∈ w.results h cause, e.1 ≠ Reg.memFAIL_CAUSE := by
  simp only [StatWin.results, List.forall_mem_cons, List.not_mem_nil, false_imp_iff, implies_true, and_true, Reg.pstSTAT_TAG,
    Reg.pstSTAT_CAUSE, Reg.pstFIRST_FRAME, Reg.pstFRAMES_USED, Reg.pstT_START, Reg.pstT_END, Reg.pstMEAN_T, Reg.pstMIN_T, Reg.pstMAX_T,
    Reg.pstSTD_T, Reg.pstSAMPLES, Reg.pstREPLACED, Reg.pstSATURATED, Reg.pstUNREPLACEABLE, Reg.memFAIL_CAUSE]
  and_intros <;> omega

/-- Subchannel 5 is in its full training; head 0 streams, and its segment is in DRAM; a statistics window of it is open, and a result that
names FAIL_CAUSE waits to be published. The type of `Pipe.statWait` admits such a result, though the model forms none
(`failCause_not_in_results`). -/
def strayFailure : State :=
  { State.reset.wAll [(Reg.memMEM_STATE, 3), (Reg.memRATE_ACTIVE, 6400), (Reg.memDENSITY, 32), (Reg.memCAPACITY, 64),
      (Reg.memIN_SERVICE, 0xFFFF), (Reg.rgnSIZE 0, 2 ^ 34), (Reg.rgnSIZE 1, 2 ^ 34), (Reg.rgnSIZE 2, 2 ^ 34),
      (Reg.hdATTACH_STATE 0, atSTREAMING), (Reg.pcSEG_LOCATION 0, 2), (Reg.laneLANE_STATE 0, 4)] with
    shep := { admitted := 1 }
    mem := { subs := [(5, { retrain := 3 })] }
    pipes := [(0, { stat := some ⟨0, 0, 0, 0, 0, 0, 0, 0, 0, 0, 0, 0, 0⟩, statWait := [[(Reg.memFAIL_CAUSE, 9)]] })] }

theorem strayFailure_alone : ∀ k, k < 16 → k ≠ (5 : Fin 16).val → ((strayFailure.advance 0).subCh k).retrain = 0 := by decide +kernel

/-- The rebuild of the DRAM ends the head's streaming, and the window's close publishes the waiting result with its own (R126, R355). -/
theorem strayFailure_failCause : ((strayFailure.advance 0).trainingEnd 5 []).failCause = 9 := by decide +kernel

theorem strayFailure_exec : exec (.fullTrainingDone 0 5 []) strayFailure = .next ((strayFailure.advance 0).trainingEnd 5 []).done := rfl

end Sys2Proof.Machine

open Sys2Proof Sys2Proof.Machine

/-- Refutes O34 at `strayFailure`: the clause on a full training that fails has no premise on the statistics results that wait to be
published, and one that names FAIL_CAUSE overwrites its 1 when the rebuild of the DRAM closes a streaming head's window. -/
theorem not_memoryCommands : ¬ Obligations.MemoryCommands := by
  intro hall
  obtain ⟨-, -, -, -, hTraining⟩ := hall 0 0 5 ⟨0, 0, 0, false⟩ ⟨0, 0, 0, false⟩ [] ⟨0, 0⟩ strayFailure
  obtain ⟨-, hFails⟩ := hTraining (by decide +kernel) (by decide +kernel) strayFailure_alone
  obtain ⟨u, hexec, -, -, hcause⟩ := hFails (by decide +kernel) (by decide +kernel) (by decide +kernel)
  have hdone : ((strayFailure.advance 0).trainingEnd 5 []).done = u.done :=
    Host.Outcome.next.inj (strayFailure_exec.symm.trans hexec)
  have hsame := congrArg State.failCause hdone
  rw [fail_done, fail_done, strayFailure_failCause, State.failCause, hcause] at hsame
  exact absurd hsame (by decide)

end

section
/-! PROOFS. The loaded configuration and its placement leave the base (O56): the journal's entries, the tables, the effects of the loaded
values, Shepherd's shedding and its publication. -/

namespace Sys2Proof.Machine

/-! ## The journal and the flash -/

theorem base_tlyRelease (s : State) (n : Nat) : (s.tlyRelease n).base = s.base := by
  induction n generalizing s with
  | zero => rfl
  | succ n ih =>
    unfold State.tlyRelease
    split
    · rfl
    · split
      · exact (ih _).trans (base_tlyNumber _ _)
      · rfl

theorem base_tlyGoOn (s : State) : s.tlyGoOn.base = s.base := by
  unfold State.tlyGoOn
  extract_lets t owed u
  have ht : t.base = s.base := base_tlyRelease _ _
  have hu : u.base = t.base := by
    unfold u
    split
    · rfl
    · exact base_tlyPut _ _
  split
  · exact (base_hwmStore _ _).trans (hu.trans ht)
  · exact hu.trans ht

theorem base_flashKick (s : State) : s.flashKick.base = s.base := by
  unfold State.flashKick
  split
  · rfl
  · split <;> rfl

theorem base_flashJob (s : State) (j : FlashJob) : (s.flashJob j).base = s.base := base_flashKick _

theorem base_imageRepair (s : State) (c : Nat) : (s.imageRepair c).base = s.base := by
  unfold State.imageRepair
  split
  · exact base_flashJob _ _
  · rfl

theorem base_spiRelease (s : State) (code : Nat) : (s.spiRelease code).base = s.base := by
  have abort : (s.shiftAbort code).base = s.base := by
    unfold State.shiftAbort
    split
    · exact (base_actDone _ _ _ _ (by decide)).trans (base_w _ _ _ (by decide))
    · rfl
  exact (base_flashKick _).trans abort

/-! ## Tables and other blocks -/

theorem base_storeTable (s : State) (t : Nat) (b : Bytes) : (s.storeTable t b).base = s.base := base_flashJob _ _

theorem base_newestPub (s : State) (t c : Nat) : (s.newestPub t c).base = s.base := by
  have key (k : Nat) : startKey (tabKey t k) = false := startKey_false (by unfold tabKey tabIndex; split_ifs <;> omega)
  exact base_wAll _ _ (by simp [key])

theorem base_slotSpoil (s : State) (t c : Nat) (b : Bytes) : (s.slotSpoil t c b).base = s.base := by
  unfold State.slotSpoil
  dsimp only
  split
  · exact base_newestPub _ _ _
  · rfl

theorem base_slotPut (s : State) (t c : Nat) (b : Bytes) (origin : Nat) : (s.slotPut t c b origin).base = s.base := base_newestPub _ _ _

theorem base_tableWrite (s : State) (t off : Nat) (d : Bytes) : (s.tableWrite t off d).2.base = s.base := by
  unfold State.tableWrite
  split
  · rfl
  · dsimp only
    split
    · exact base_slotSpoil _ _ _ _
    · split
      · exact (base_storeTable _ _ _).trans (base_slotPut _ _ _ _ _)
      · exact base_slotSpoil _ _ _ _

theorem base_stSpan (s : State) (st : Nat) : (s.stSpan st).base = s.base := by
  have bounds (lo hi : Nat) : ((s.w (Reg.sstA_MIN st) lo).w (Reg.sstA_MAX st) hi).base = s.base :=
    (base_w _ _ _ (by unfold Reg.sstA_MAX; omega)).trans (base_w _ _ _ (by unfold Reg.sstA_MIN; omega))
  unfold State.stSpan
  dsimp only
  split <;> exact bounds _ _

theorem base_mapSet (s : State) (k crc : Nat) (d : Bytes) :
    (((s.wBlob (Reg.slotMAP k) d).w (Reg.slotMAP_CRC k) crc).stSpan (k / 8)).base = s.base :=
  (base_stSpan _ _).trans (base_w _ _ _ (by unfold Reg.slotMAP_CRC; omega))

theorem base_blockPut (s : State) (key off : Nat) (d : Bytes) : (s.blockPut key off d).2.base = s.base := by
  unfold State.blockPut
  split
  · exact base_tableWrite _ _ _ _
  · split
    · rfl
    · split
      · unfold State.mapPut
        split
        · exact base_mapSet _ _ _ _
        · rfl
      · rfl

/-! ## Effects of values -/

theorem base_bankLoad (s : State) (b : Nat) : (s.bankLoad b).base = s.base :=
  (view_when _ _ _ _ (base_event _ _ _ _)).trans (base_w _ _ _ (by unfold Reg.bstLOAD_PCT; omega))

theorem base_zoneLoad (s : State) (c : Nat) : (s.zoneLoad c).base = s.base := by
  unfold State.zoneLoad
  split
  · exact base_bankLoad _ _
  · rfl

theorem base_zoneRunSet (s : State) (z v : Nat) : (s.zoneRunSet z v).base = s.base := by
  unfold State.zoneRunSet
  split <;> rfl

theorem base_runSet (s : State) (st old v : Nat) : (s.runSet st old v).base = s.base := by
  unfold State.runSet
  split
  · split
    · exact base_stationEnters _ _
    · rfl
  · split
    · exact base_w (s.stStop st) _ _ (by decide)
    · rfl

theorem base_covStart (s : State) : s.covStart.base = s.base :=
  view_each _ _ _ _ fun e _ t => base_w (t.wEnc e _) _ _ (by unfold Reg.encSYNC_OFFSET; omega)

theorem base_headSet (s : State) (k old v : Nat) : (s.headSet k old v).base = s.base := by
  unfold State.headSet
  split
  · rfl
  · exact base_mapSet _ _ _ _

theorem base_periodSet (s : State) (v : Nat) : (s.periodSet v).base = s.base := view_each _ _ _ _ fun _ _ _ => base_bankLoad _ _

theorem base_diagOff (s : State) (b : Nat) : (s.diagOff b).base = s.base := view_each _ _ _ _ fun _ _ _ => rfl

theorem base_calFinish (s : State) : s.calFinish.base = s.base := by
  have hkeys : startKey Reg.calCAL_LAST = false ∧ startKey Reg.calCAL_STATE = false := by decide
  unfold State.calFinish
  split
  · exact (base_actDone _ _ _ _ (by decide)).trans <| (base_wAll _ _ (by simp [hkeys])).trans (base_bump _ _ (by decide))
  · rfl

theorem base_bankTypeSet (s : State) (b v : Nat) : (s.bankTypeSet b v).base = s.base := by
  unfold State.bankTypeSet
  split
  · rfl
  · exact base_calFinish _

/-- The auxiliary lanes do nothing else when their state changes (R369). -/
theorem base_auxLaneTo (s : State) (a st : Nat) : (s.laneTo (92 + a) st).base = s.base := by
  have hclass : laneClass (92 + a) = 4 := by unfold laneClass; split_ifs <;> omega
  have hgone (t : State) : t.laneGone (92 + a) = t := by
    rw [State.laneGone, hclass]
    rfl
  unfold State.laneTo
  simp only [hclass, hgone, Nat.reduceEqDiff, if_false, ite_self]
  exact base_w _ _ _ (by unfold Reg.laneLANE_STATE; omega)

theorem base_auxLaneOff (s : State) (a : Nat) : (s.laneOff (92 + a)).base = s.base := by
  have hrate : startKey (Reg.laneRATE_ACTIVE (92 + a)) = false := startKey_false (by unfold Reg.laneRATE_ACTIVE; omega)
  have hlull : startKey (Reg.laneLULL (92 + a)) = false := startKey_false (by unfold Reg.laneLULL; omega)
  refine (view_when _ _ _ _ (base_w _ _ _ ?_)).trans <| (base_auxLaneTo _ _ _).trans (base_wAll (s.wLane _ _) _ ?_)
  · unfold Reg.hdATTACH_STATE; omega
  · simp [hrate, hlull]

theorem base_auxStart (s : State) (a : Nat) : (s.auxStart (92 + a)).base = s.base := by
  have rate (t : State) (v : Nat) : (t.w (Reg.laneRATE_ACTIVE (92 + a)) v).base = t.base :=
    base_w _ _ _ (by unfold Reg.laneRATE_ACTIVE; omega)
  unfold State.auxStart
  split
  · exact base_auxLaneOff _ _
  · dsimp only
    rw [base_auxLaneTo, rate, base_wLane, base_attempt]

theorem base_auxSet (s : State) (a v : Nat) : (s.auxSet a v).base = s.base := by
  have off : ((s.laneOff (92 + a)).w (Reg.auxSLIP_POS a) 0).base = s.base :=
    (base_w _ _ _ (by unfold Reg.auxSLIP_POS; omega)).trans (base_auxLaneOff _ _)
  unfold State.auxSet
  dsimp only
  split
  · exact (base_auxStart _ _).trans off
  · exact off

theorem base_auxRate (s : State) (a old v : Nat) : (s.auxRate a old v).base = s.base := by
  unfold State.auxRate
  split
  · exact (base_auxStart _ _).trans (base_auxLaneOff _ _)
  · rfl

theorem base_sendLull (s : State) (l : Nat) : (s.sendLull l).base = s.base := by
  unfold State.sendLull
  generalize List.range 8 = ws
  induction ws generalizing s with
  | nil => rfl
  | cons w ws ih => exact ih _

theorem base_lullSet (s : State) (a v : Nat) : (s.lullSet a v).base = s.base := by
  have hkey : Reg.laneLULL (92 + a) ≠ 0x100104 ∧ Reg.laneLULL (92 + a) ≠ 0x121007 ∧ Reg.laneLULL (92 + a) ≠ 0x200001 ∧
      Reg.laneLULL (92 + a) ≠ 0x220010 := by unfold Reg.laneLULL; omega
  have lull (t : State) : (t.lullApply (92 + a)).base = t.base := by
    unfold State.lullApply
    dsimp only
    split
    · exact (base_w _ _ _ hkey).trans (base_sendLull _ _)
    · exact base_w _ _ _ hkey
  unfold State.lullSet
  dsimp only
  split
  · exact lull _
  · rfl

theorem base_hookFor (s : State) (l : List (Hook State)) (key : Nat) (h : ∀ k ∈ l, ∀ i, (k.run i).base = s.base) :
    ((hookFor l key).getD s).base = s.base := by
  unfold hookFor
  cases hf : l.findSome? fun k => (instOf k.base k.stride k.count k.sub key).map k.run with
  | none => rfl
  | some t =>
    obtain ⟨k, hk, hrun⟩ := List.exists_of_findSome?_eq_some hf
    obtain ⟨i, -, rfl⟩ := Option.map_eq_some_iff.1 hrun
    exact h k hk i

theorem base_applied (s : State) (key old v : Nat) : (s.applied key old v).base = s.base := by
  have select (t : State) (h : s.spiSelect old v = .inr t) : t.base = s.base := by
    unfold State.spiSelect at h
    split_ifs at h <;> obtain rfl := Sum.inr.inj h
    · rfl
    · exact base_spiRelease _ _
    · rfl
  refine base_hookFor _ _ _ ?_
  unfold State.effectHooks
  simp only [List.forall_mem_cons, List.not_mem_nil, false_imp_iff, implies_true, and_true]
  refine ⟨fun st => base_runSet _ _ _ _, fun z => (base_zoneLoad _ _).trans (base_zoneRunSet _ _ _),
    fun _ => (base_zoneLoad _ _).trans (base_zoneLoad _ _), fun _ => ?_, fun _ => base_headSet _ _ _ _, fun _ => base_headSet _ _ _ _,
    fun _ => base_headSet _ _ _ _, fun _ => base_headSet _ _ _ _, fun _ => base_headSet _ _ _ _, fun _ => base_headSet _ _ _ _,
    fun _ => base_headSet _ _ _ _, fun _ => base_headSet _ _ _ _, fun _ => base_periodSet _ _, fun _ => base_bankLoad _ _,
    fun _ => base_bankLoad _ _, fun _ => ?_, fun _ => base_bankTypeSet _ _ _, fun _ => rfl, fun _ => rfl, fun _ => rfl, fun _ => rfl,
    fun _ => rfl, fun _ => rfl, fun _ => base_auxSet _ _ _, fun _ => base_auxRate _ _ _ _, fun a => base_w _ _ _ ?_,
    fun a => base_w _ _ _ ?_, fun a => base_w _ _ _ ?_, fun _ => base_lullSet _ _ _, fun _ => ?_⟩
  · split
    · exact base_covStart _
    · rfl
  · split
    · exact base_diagOff _ _
    · rfl
  · unfold Reg.auxSLIP_POS; omega
  · unfold Reg.auxMATCH_COUNT; omega
  · unfold Reg.auxMATCH_COUNT; omega
  · split
    · next t ht => exact select t ht
    · rfl

/-! ## The configuration image (R542, R558) -/

/-- The registers of `startKey` are not to be written, so that no image sets them. -/
theorem startKey_readOnly (key : Nat) (row : ObjRow) (h : rowAt key = some row) (hk : startKey key = true) : row.acc = .ro := by
  rcases of_decide_eq_true hk with rfl | rfl | rfl | rfl <;> (obtain rfl := Option.some.inj h; rfl)

theorem base_loadEntry (s t : State) (key : Nat) (d : Bytes) (h : s.loadEntry key d = some t) : t.base = s.base := by
  unfold State.loadEntry at h
  cases hrow : rowAt key with
  | none => rw [hrow] at h; cases h
  | some row =>
    rw [hrow] at h
    dsimp only at h
    have hkey (hacc : ¬ (row.acc ≠ .rw ∧ row.acc ≠ .rws)) : startKey key = false := by
      refine Bool.eq_false_iff.2 fun hk => hacc ?_
      rw [startKey_readOnly key row hrow hk]
      decide
    split_ifs at h with hacc _ _ hempty _ hsize hput hchk
    · exact congrArg State.base (Option.some.inj h).symm
    · rw [← Option.some.inj h]; exact base_blockPut _ _ _ _
    · rw [← Option.some.inj h]
      exact (base_applied _ _ _ _).trans (base_of (on_w _ _ _ (hkey hacc)) rfl)

theorem base_loadEntries (s : State) (b : Bytes) (n : Nat) : (s.loadEntries b n).base = s.base := by
  induction n generalizing s b with
  | zero => rfl
  | succ n ih =>
    unfold State.loadEntries
    split
    · rfl
    · refine (ih _ _).trans ?_
      split
      · next t ht => exact base_loadEntry _ _ _ _ ht
      · exact base_bump _ _ (by decide)

theorem base_loadConfig (s : State) : s.loadConfig.base = s.base := by
  have hcfg : startKey Reg.cfgCONFIG_SEQ = false ∧ startKey Reg.cfgCONFIG_SOURCE = false ∧ startKey Reg.cfgCONFIG_SKIPPED = false := by
    decide
  unfold State.loadConfig
  extract_lets one t
  have hone (c q : Nat) (body : Bytes) : (one c q body).base = s.base :=
    (base_loadEntries _ _ _).trans (base_wAll s _ (by simp [hcfg]))
  have ht : t.base = s.base := by
    unfold t
    split
    · split
      · exact hone _ _ _
      · exact (base_imageRepair _ _).trans (hone _ _ _)
    · exact (base_imageRepair _ _).trans (hone _ _ _)
    · exact (base_imageRepair _ _).trans (hone _ _ _)
    · rfl
  exact (view_each _ _ _ _ fun st _ u => view_when _ _ _ _ (base_w _ _ _ (by unfold Reg.sstBAND_LINES; omega))).trans ht

end Sys2Proof.Machine
end

section
/-! PROOFS. The placement of the loaded configuration, the ring and the end of start-up leave the base (O56). -/

namespace Sys2Proof.Machine

/-! ## Shedding (R320, R558) -/

theorem base_shedMark (s : State) (k i kind : Nat) (h : k ≠ 0x100104 ∧ k ≠ 0x121007 ∧ k ≠ 0x200001 ∧ k ≠ 0x220010) :
    ((s.wb k i true).event 0x0203 kind i).base = s.base := (base_event _ _ _ _).trans (base_w _ _ _ h)

/-- A head that does not stream has no statistics window to close. -/
theorem base_headShed (s : State) (h : Nat) (ha : s.attach h ≠ atSTREAMING) : (s.headShed h).base = s.base := by
  unfold State.headShed
  extract_lets shep s0 a s1 x y s2 s3
  have h1 : s1.base = s.base := by
    refine view_when State.base s0 _ _ ?_
    rw [State.leaveStreaming, if_neg (show s0.attach h ≠ atSTREAMING from ha)]
    exact base_w _ _ _ (by unfold Reg.hdATTACH_STATE; omega)
  exact (view_when _ _ _ _ (linkOnly_headCmd _ _ _ _).base).trans h1

theorem base_shedOne (s t : State) (h : s.shedOne = some t) : t.base = s.base := by
  have heads : Reg.shpSHED_HEADS ≠ 0x100104 ∧ Reg.shpSHED_HEADS ≠ 0x121007 ∧ Reg.shpSHED_HEADS ≠ 0x200001 ∧
      Reg.shpSHED_HEADS ≠ 0x220010 := by decide
  unfold State.shedOne at h
  dsimp only at h
  split at h
  · next st _ _ =>
    obtain rfl := Option.some.inj h
    split <;> exact base_shedMark s _ _ _ (by decide)
  · split at h
    · obtain rfl := Option.some.inj h
      exact base_shedMark s _ _ _ (by decide)
    · split at h
      · obtain rfl := Option.some.inj h
        split
        · exact base_shedMark s _ _ _ heads
        · next ha => exact (base_headShed _ _ ha).trans (base_shedMark s _ _ _ heads)
      · cases h

theorem base_shed (s : State) (n : Nat) : (s.shed n).base = s.base := by
  induction n generalizing s with
  | zero => rfl
  | succ n ih =>
    unfold State.shed
    dsimp only
    split
    · rfl
    · split
      · next t ht => exact (ih t).trans (base_shedOne s t ht)
      · rfl

theorem base_shedPower (s : State) (n : Nat) : (s.shedPower n).base = s.base := by
  induction n generalizing s with
  | zero => rfl
  | succ n ih =>
    unfold State.shedPower
    split
    · rfl
    · split
      · next t ht => exact (ih t).trans (base_shedOne s t ht)
      · rfl

/-! ## Publication (R322, R558) -/

theorem base_segmentMove (s : State) (h loc : Nat) : (s.segmentMove h loc).base = s.base := by
  have moved (t : State) : (t.w (Reg.pcSEG_LOCATION h) loc).base = t.base := base_w _ _ _ (by unfold Reg.pcSEG_LOCATION; omega)
  unfold State.segmentMove
  dsimp only
  split
  · split <;> rfl
  · rw [moved]
    split <;> rfl

theorem startKey_group {g : Nat} (h : g < 12) :
    startKey (Reg.grpLANES_UP g) = false ∧ startKey (Reg.grpGROUP_CAP g) = false ∧ startKey (Reg.grpGROUP_LOAD g) = false := by
  refine ⟨?_, ?_, ?_⟩ <;> refine startKey_false ?_ <;> simp only [Reg.grpLANES_UP, Reg.grpGROUP_CAP, Reg.grpGROUP_LOAD] <;> omega

theorem startKey_stream {x : Nat} (h : x < 64) : startKey (Reg.strmSTREAM_STATE x) = false ∧
    startKey (Reg.strmPLACED_GROUP x) = false ∧ startKey (Reg.strmPLACED_FORMAT x) = false ∧ startKey (Reg.strmLOAD x) = false := by
  refine ⟨?_, ?_, ?_, ?_⟩ <;> refine startKey_false ?_ <;>
    simp only [Reg.strmSTREAM_STATE, Reg.strmPLACED_GROUP, Reg.strmPLACED_FORMAT, Reg.strmLOAD] <;> omega

theorem base_groupPublish (s : State) (pl : Placing) : (s.groupPublish pl).base = s.base := by
  refine view_each _ _ _ _ fun g hg t => base_wAll _ _ ?_
  obtain ⟨hlanes, hcap, hload⟩ := startKey_group (List.mem_range.1 hg)
  simp [hlanes, hcap, hload]

theorem base_xLull (s : State) : s.xLull.base = s.base :=
  view_each _ _ _ _ fun x _ t => view_when State.base (t.wLane (32 + x) _) _ _ (base_sendLull _ _)

/-- A new map is numbered. -/
theorem base_mapNew (s : State) (c : Prop) [Decidable c] (seq cause : Nat) (x : Shep) :
    (if c then s else { (s.w Reg.shpMAP_SEQ seq).w Reg.shpLAST_CAUSE cause with shep := x } : State).base = s.base := by
  split
  · rfl
  · exact Eq.trans (base_of (on_of_regs rfl) rfl) <|
      (base_w _ Reg.shpLAST_CAUSE cause (by decide)).trans (base_w s Reg.shpMAP_SEQ seq (by decide))

theorem base_publish (s : State) (cause : Nat) (pl : Placing) (fmt : Nat → Nat) : (s.publish cause pl fmt).base = s.base := by
  have hloads (a b c d e : Nat) (t : State) : (t.wAll [(Reg.shpPOOL_SLOTS, a), (Reg.shpB_REQ, b), (Reg.shpC_REQ, c), (Reg.shpP_EST, d),
      (Reg.shpDRAM_LOAD, e)]).base = t.base := base_wAll _ _ (by simp +decide)
  have hused (a b c : Nat) (t : State) : (t.wAll [(Reg.rgnUSED 0, a), (Reg.rgnUSED 1, b), (Reg.rgnUSED 2, c)]).base = t.base :=
    base_wAll _ _ (by simp +decide)
  unfold State.publish
  extract_lets q hist shep s1 s2 s3 s5 b s6 s7 body s8 shep8 s9
  have h1 : s1.base = s.base := base_of (on_of_regs rfl) rfl
  clear_value s1
  have h2 : s2.base = s1.base := view_each _ _ _ _ fun h _ t => base_segmentMove _ _ _
  clear_value s2
  have h3 : s3.base = s2.base := by
    refine view_each _ _ _ _ fun x hx t => ?_
    obtain ⟨hstate, hgroup, hformat, hload⟩ := startKey_stream (List.mem_range.1 hx)
    split
    · exact base_wAll _ _ (by simp [hstate, hgroup, hformat, hload])
    · split <;> exact base_wAll _ _ (by simp [hstate, hgroup, hformat, hload])
  have h7 : s7.base = s.base := (hused _ _ _ _).trans <| (hloads _ _ _ _ _ _).trans <| (base_groupPublish _ _).trans <| h3.trans (h2.trans h1)
  have h9 : s9.base = s7.base := base_mapNew s7 _ _ _ _
  exact (base_xLull _).trans (h9.trans h7)

theorem base_placeLoaded (s : State) : s.placeLoaded.base = s.base := by
  unfold State.placeLoaded
  extract_lets t u
  have ht : t.base = s.base := view_each _ _ _ _ fun st _ v => view_when _ _ _ _ (base_shedMark v _ _ _ (by decide))
  refine (base_publish _ _ _ _).trans <| (base_shedPower _ _).trans ?_
  split
  · exact ht
  · exact (base_shed _ _).trans ht

/-! ## The ring's lanes (R369, R558) -/

/-- The base and the state of one lane. -/
def State.aside (l : Nat) (s : State) : ((Nat → Nat) × Clk × Boot × Bool × Bool × Option Nat × Bool) × Nat := (s.base, s.laneState l)

theorem aside_base {l : Nat} {s t : State} (h : t.aside l = s.aside l) : t.base = s.base := (Prod.mk.inj h).1

theorem aside_lane {l : Nat} {s t : State} (h : t.aside l = s.aside l) : t.laneState l = s.laneState l := (Prod.mk.inj h).2

theorem laneState_w (s : State) (k v l : Nat) (h : k / 65536 ≠ 0x23) (hl : l < 96) : (s.w k v).laneState l = s.laneState l :=
  (State.w_r _ _ _ _).trans (if_neg fun he => h (by rw [← he]; unfold Reg.laneLANE_STATE; omega))

theorem laneState_of_regs {s t : State} (l : Nat) (h : t.regs = s.regs) : t.laneState l = s.laneState l := by
  unfold State.laneState State.r
  rw [h]

theorem aside_of_regs {s t : State} (l : Nat) (hr : t.regs = s.regs) (hb : t.base = s.base) : t.aside l = s.aside l :=
  Prod.ext hb (laneState_of_regs l hr)

theorem laneState_wAll (s : State) (l : List (Nat × Nat)) (k : Nat) (h : ∀ e ∈ l, e.1 ≠ Reg.laneLANE_STATE k) :
    (s.wAll l).laneState k = s.laneState k := State.wAll_r_ne _ _ _ h

/-- The objects of the ports and of the node. -/
theorem aside_w (s : State) (k v l : Nat) (h : k / 65536 = 0x11) (hl : l < 96) : (s.w k v).aside l = s.aside l :=
  Prod.ext (base_w _ _ _ (by omega)) (laneState_w _ _ _ _ (by omega) hl)

theorem aside_portDown (s : State) (p l : Nat) (hp : p < 2) (hl : l < 96) : (s.portDown p).aside l = s.aside l :=
  (aside_w _ _ _ _ (by unfold Reg.portNEIGHBOUR; omega) hl).trans
    (view_when (State.aside l) _ _ _ (aside_w _ _ _ _ (by decide) hl))

theorem aside_ringPub (s : State) (l : Nat) (hl : l < 96) : s.ringPub.aside l = s.aside l := by
  unfold State.ringPub
  extract_lets s1 gone ring s2 s3
  have h1 : s1.aside l = s.aside l := by
    refine view_each (State.aside l) _ _ _ fun p hp t => ?_
    have hp := List.mem_range.1 hp
    extract_lets v t1 ring t2
    have ht1 : t1.aside l = t.aside l := by
      unfold t1
      split
      · exact aside_portDown _ _ _ hp hl
      · rfl
    have ht2 : t2.aside l = t1.aside l := by
      unfold t2 ring
      clear_value t1
      split
      · exact aside_of_regs _ rfl rfl
      · rfl
    exact (aside_w _ _ _ _ (by unfold Reg.portSTILE; omega) hl).trans <|
      (aside_w _ _ _ _ (by unfold Reg.portPORT_STATE; omega) hl).trans (ht2.trans ht1)
  have h2 : s2.aside l = s1.aside l := by
    unfold s2 ring
    clear_value s1
    split
    · exact aside_of_regs _ rfl rfl
    · rfl
  have h3 : s3.aside l = s2.aside l := by
    unfold s3
    clear_value s2
    exact (view_each (State.aside l) _ _ _ fun j _ t => aside_of_regs (s := t) (t := t.wLane j _) _ rfl rfl).trans
      (aside_of_regs _ rfl (base_of (on_of_regs (t := s2.dropNeighbour) rfl) rfl))
  exact (aside_w _ _ _ _ (by decide) hl).trans (h3.trans (h2.trans h1))

theorem laneTo_ring (s : State) (l st : Nat) (hl : 80 ≤ l ∧ l < 88) : s.laneTo l st = (s.w (Reg.laneLANE_STATE l) st).ringPub := by
  have hclass : laneClass l = 2 := by unfold laneClass; split_ifs <;> omega
  have hgone (t : State) : t.laneGone l = t.ringPub := by
    rw [State.laneGone, hclass]
    rfl
  unfold State.laneTo
  simp only [hclass, hgone, if_true, ite_self]

theorem attempt_regs (s : State) (l : Nat) : (s.attempt l).regs = s.regs := rfl

/-- A ring lane enters Stage A, and the other lanes stay where they are. -/
theorem stageA_ring (s : State) (l : Nat) (hl : 80 ≤ l ∧ l < 88) : (s.stageA l).base = s.base ∧
    ∀ k, k < 96 → (s.stageA l).laneState k = if k = l then 1 else s.laneState k := by
  have hrate : startKey (Reg.laneRATE_ACTIVE l) = false := startKey_false (by unfold Reg.laneRATE_ACTIVE; omega)
  have hlull : startKey (Reg.laneLULL l) = false := startKey_false (by unfold Reg.laneLULL; omega)
  unfold State.stageA
  extract_lets s1 sp
  rw [laneTo_ring _ _ _ hl]
  obtain ⟨u, hu⟩ : ∃ u, u = s1.wLane l { s1.lane l with spread := sp } := ⟨_, rfl⟩
  have hregs : u.regs = s.regs := by
    rw [hu]
    exact attempt_regs s l
  have hubase : u.base = s.base := by rw [hu, base_wLane, base_attempt]
  rw [← hu]
  clear hu
  generalize ht : u.wAll [(Reg.laneRATE_ACTIVE l, 1), (Reg.laneLULL l, 0)] = t
  have hbase : t.base = s.base := by
    rw [← ht]
    exact (base_wAll u _ (by simp [hrate, hlull])).trans hubase
  have hstate (k : Nat) : t.laneState k = s.laneState k := by
    rw [← ht, laneState_wAll, laneState_of_regs k hregs]
    simp only [List.forall_mem_cons, List.not_mem_nil, false_imp_iff, implies_true, and_true, Reg.laneRATE_ACTIVE, Reg.laneLULL,
      Reg.laneLANE_STATE]
    omega
  have hpub (k : Nat) (hk : k < 96) := aside_ringPub (t.w (Reg.laneLANE_STATE l) 1) k hk
  refine ⟨?_, fun k hk => ?_⟩
  · exact (aside_base (hpub l (by omega))).trans ((base_w _ _ _ (by unfold Reg.laneLANE_STATE; omega)).trans hbase)
  · have hpubk : (t.w (Reg.laneLANE_STATE l) 1).ringPub.laneState k = (t.w (Reg.laneLANE_STATE l) 1).laneState k :=
      aside_lane (hpub k hk)
    rw [hpubk, ← hstate k, State.laneState, State.w_r]
    refine if_congr ⟨fun he => ?_, fun he => by rw [he]⟩ rfl rfl
    unfold Reg.laneLANE_STATE at he
    omega

/-- Lanes of the ring brought up in turn are all in Stage A. -/
theorem stageA_each (s : State) (ls : List Nat) (h : ∀ l ∈ ls, 80 ≤ l ∧ l < 88) :
    (s.each ls fun l t => (t.wLane l {}).stageA l).base = s.base ∧
    ∀ k, k < 96 → (s.each ls fun l t => (t.wLane l {}).stageA l).laneState k = if k ∈ ls then 1 else s.laneState k := by
  unfold State.each
  induction ls generalizing s with
  | nil => exact ⟨rfl, fun k _ => rfl⟩
  | cons l ls ih =>
    obtain ⟨hbase, hstate⟩ := stageA_ring (s.wLane l {}) l (h l List.mem_cons_self)
    obtain ⟨ihBase, ihState⟩ := ih ((s.wLane l {}).stageA l) fun k hk => h k (List.mem_cons_of_mem l hk)
    simp only [List.foldl_cons]
    refine ⟨ihBase.trans (hbase.trans (base_wLane _ _ _)), fun k hk => ?_⟩
    rw [ihState k hk, hstate k hk]
    by_cases hkl : k = l
    · simp [hkl]
    · simp [hkl, laneState_of_regs (s := s) (t := s.wLane l {}) k rfl]

/-- The eight lanes of the ring's two ports. -/
theorem mem_ringLanes (l : Nat) : l ∈ portLanes 0 ++ portLanes 1 ↔ 80 ≤ l ∧ l < 88 := by
  simp only [portLanes, List.mem_append, List.mem_map, List.mem_range]
  constructor
  · rintro (⟨i, hi, rfl⟩ | ⟨i, hi, rfl⟩) <;> omega
  · rintro ⟨hlo, hhi⟩
    by_cases h : l < 84
    · exact .inl ⟨l - 80, by omega, by omega⟩
    · exact .inr ⟨l - 84, by omega, by omega⟩

theorem ringBringUp_base (s : State) : s.ringBringUp.base = s.base := by
  unfold State.ringBringUp
  split
  · rfl
  · have hpub (t : State) : t.ringPub.base = t.base := aside_base (aside_ringPub t 0 (by decide))
    rw [hpub, (stageA_each _ _ fun l => (mem_ringLanes l).1).1]

theorem ringBringUp_lanes (s : State) (h : s.ringMay = true) (l : Nat) (hl : 80 ≤ l ∧ l < 88) : s.ringBringUp.laneState l = 1 := by
  have hpub (t : State) : t.ringPub.laneState l = t.laneState l := aside_lane (aside_ringPub t l (by omega))
  unfold State.ringBringUp
  rw [h, if_neg (by decide), hpub, (stageA_each _ _ fun l => (mem_ringLanes l).1).2 l (by omega), if_pos ((mem_ringLanes l).2 hl)]

/-! ## The end of start-up (R558, R572) -/

theorem started_spec (s : State) : s.started.boot = { s.boot with arrived := true } ∧ s.started.tly.awaits = s.tly.awaits ∧
    s.started.on startKey = s.on startKey ∧ ∀ l, l < 96 → s.started.laneState l = s.laneState l := by
  have hkeep (t : State) (code inst data : Nat) : (t.event code inst data).base = t.base ∧
      ∀ l, l < 96 → (t.event code inst data).laneState l = t.laneState l :=
    ⟨base_event _ _ _ _,
      fun l hl => book_r (book_event _ _ _ _) _ (by unfold bookKey Reg.laneLANE_STATE; exact decide_eq_false (by omega))⟩
  unfold State.started
  extract_lets ms b s1 s2
  obtain ⟨hb2, hl2⟩ := hkeep s1 0x0801 s1.ret.cause ms
  obtain ⟨-, hboot2, -, -, -, hawaits2⟩ := base_parts hb2
  have hboot1 : s1.boot = { s.boot with arrived := true } := rfl
  have hawaits1 : s1.tly.awaits = s.tly.awaits := rfl
  have hon2 : s2.on startKey = s.on startKey := (base_on hb2).trans (on_w _ _ _ (by decide))
  have hlane2 (l : Nat) (hl : l < 96) : s2.laneState l = s.laneState l :=
    (hl2 l hl).trans (laneState_w _ Reg.rstSTART_TIME ms l (by decide) hl)
  split
  · obtain ⟨hb3, hl3⟩ := hkeep { s2 with ret := { s2.ret with cutoffOwed := false } } 0x0504 0 s2.ret.cutoffs
    obtain ⟨-, hboot3, -, -, -, hawaits3⟩ := base_parts hb3
    exact ⟨hboot3.trans (hboot2.trans hboot1), hawaits3.trans (hawaits2.trans hawaits1), (base_on hb3).trans hon2,
      fun l hl => (hl3 l hl).trans (hlane2 l hl)⟩
  · exact ⟨hboot2.trans hboot1, hawaits2.trans hawaits1, hon2, hlane2⟩

end Sys2Proof.Machine
end

section
/-! PROOFS. Start-up (O56): the end of the wipe, steps 6 to 8 (R558, R571). -/

namespace Sys2Proof.Machine

/-! ## START in the journal -/

theorem memStart_r (s : State) (k : Nat) (h : k ≠ Reg.memMEM_STATE) : s.memStart.r k = s.r k := by
  have hw : (s.w Reg.memMEM_STATE 3).r k = s.r k := (State.w_r _ _ _ _).trans (if_neg h)
  unfold State.memStart
  refine Eq.trans (view_each (fun t : State => t.r k) _ _ _ fun _ _ _ => rfl) hw

theorem startEntry_spec (s : State) : s.startEntry.r Reg.tlyLIFE_START_SEQ = s.r Reg.tlyNEXT_SEQ ∧ s.startEntry.tly.awaits = false ∧
    s.startEntry.clk = s.clk ∧ s.startEntry.boot = s.boot ∧ s.startEntry.pwr.cutoff = s.pwr.cutoff ∧
    s.startEntry.pwr.stopOver = s.pwr.stopOver := by
  obtain ⟨held, hentry⟩ : ∃ held, s.startEntry = State.tlyGoOn { s.w Reg.tlyLIFE_START_SEQ (s.r Reg.tlyNEXT_SEQ) with
    tly := { s.tly with held := held, awaits := false } } := ⟨_, rfl⟩
  have hgo := (congrArg State.base hentry).trans (base_tlyGoOn _)
  obtain ⟨hclk, hboot, hcut, hover, -, hawaits⟩ := base_parts hgo
  exact ⟨(base_r hgo (by decide)).trans ((State.w_r s _ _ _).trans (if_pos rfl)), hawaits, hclk, hboot, hcut, hover⟩

/-! ## Steps 6 to 8 -/

/-- The wipe's own end: the DRAM in use. -/
def State.wipeEnd (s : State) : State := s.when (decide (s.r Reg.memMEM_STATE = 2)) fun t =>
  t.memStart.w Reg.rstWIPE_TIME ((t.up - t.boot.wipeAt) / 1000000)

/-- The loaded configuration has been placed. -/
def State.configured (s : State) : State := s.wipeEnd.startEntry.loadConfig.placeLoaded

/-- STANDBY is entered, at step 8. -/
def State.toStandby (s : State) : State :=
  State.wAll { s with boot := { s.boot with standbyAt := s.up } } [(Reg.opDEVICE_STATE, stSTANDBY), (Reg.rstSTART_STEP, 8)]

theorem wipeEnd_base (s : State) : s.wipeEnd.base = s.base :=
  view_when _ _ _ _ ((base_w _ _ _ (by decide)).trans (base_memStart s))

theorem wipeEnd_nextSeq (s : State) : s.wipeEnd.r Reg.tlyNEXT_SEQ = s.r Reg.tlyNEXT_SEQ :=
  view_when (fun t : State => t.r Reg.tlyNEXT_SEQ) _ _ _ <|
    (State.w_r _ _ _ _).trans ((if_neg (by decide)).trans (memStart_r _ _ (by decide)))

theorem configured_spec (s : State) : s.configured.r Reg.tlyLIFE_START_SEQ = s.r Reg.tlyNEXT_SEQ ∧ s.configured.tly.awaits = false ∧
    s.configured.clk = s.clk ∧ s.configured.boot = s.boot ∧ s.configured.pwr.cutoff = s.pwr.cutoff ∧
    s.configured.pwr.stopOver = s.pwr.stopOver := by
  have hb : s.configured.base = s.wipeEnd.startEntry.base := (base_placeLoaded _).trans (base_loadConfig _)
  obtain ⟨hclk0, hboot0, hcut0, hover0, -, -⟩ := base_parts (wipeEnd_base s)
  obtain ⟨hlife1, hawaits1, hclk1, hboot1, hcut1, hover1⟩ := startEntry_spec s.wipeEnd
  obtain ⟨hclk2, hboot2, hcut2, hover2, -, hawaits2⟩ := base_parts hb
  exact ⟨(base_r hb (by decide)).trans (hlife1.trans (wipeEnd_nextSeq s)), hawaits2.trans hawaits1, hclk2.trans (hclk1.trans hclk0),
    hboot2.trans (hboot1.trans hboot0), hcut2.trans (hcut1.trans hcut0), hover2.trans (hover1.trans hover0)⟩

theorem toStandby_spec (s : State) : s.toStandby.r Reg.opDEVICE_STATE = 1 ∧ s.toStandby.r Reg.rstSTART_STEP = 8 ∧
    s.toStandby.r Reg.tlyLIFE_START_SEQ = s.r Reg.tlyLIFE_START_SEQ ∧
    s.toStandby.boot = { s.boot with standbyAt := s.up } ∧ s.toStandby.tly = s.tly ∧ s.toStandby.pwr = s.pwr := by
  unfold State.toStandby
  refine ⟨?_, ?_, State.wAll_r_ne _ _ _ (by decide), ?_, ?_, ?_⟩
  · exact (State.w_r _ _ _ _).trans <| (if_neg (by decide)).trans <| (State.w_r _ _ _ _).trans (if_pos rfl)
  · exact (State.w_r _ _ _ _).trans (if_pos rfl)
  all_goals rw [State.wAll_eq]

/-- What the wipe's end leaves of a state on the way to STANDBY. -/
def Booted (s u : State) : Prop :=
  u.r Reg.opDEVICE_STATE = 1 ∧ u.r Reg.rstSTART_STEP = 8 ∧ u.boot.standbyAt = s.up ∧ u.r Reg.tlyLIFE_START_SEQ = s.r Reg.tlyNEXT_SEQ ∧
    u.tly.awaits = false ∧ (s.boot.released.isSome = true → s.pwr.cutoff = false → s.pwr.stopOver = false →
      ∀ l, 80 ≤ l → l < 88 → u.laneState l = 1)

theorem ringBringUp_booted (s : State) : Booted s s.configured.toStandby.ringBringUp := by
  obtain ⟨hlife, hawaits, hclk, hboot, hcut, hover⟩ := configured_spec s
  generalize s.configured = b at *
  obtain ⟨hstate, hstep, hlife', hcboot, hctly, hcpwr⟩ := toStandby_spec b
  generalize b.toStandby = c at *
  have hring := ringBringUp_base c
  obtain ⟨-, hboot', -, -, -, hawaits'⟩ := base_parts hring
  refine ⟨(base_r hring (by decide)).trans hstate, (base_r hring (by decide)).trans hstep, ?_,
    (base_r hring (by decide)).trans (hlife'.trans hlife), ?_, fun hrel hc ho l hlo hhi => ringBringUp_lanes _ ?_ l ⟨hlo, hhi⟩⟩
  · rw [hboot', hcboot, State.up, hclk]
    rfl
  · rw [hawaits', hctly, hawaits]
  · have hreleased : c.boot.released = s.boot.released := by rw [hcboot, hboot]
    have hccut : c.pwr.cutoff = false := by rw [hcpwr, hcut, hc]
    have hcover : c.pwr.stopOver = false := by rw [hcpwr, hover, ho]
    simp [State.ringMay, hreleased, hrel, hccut, hcover, hstep]

theorem started_booted {s u : State} (h : Booted s u) : Booted s u.started := by
  obtain ⟨hstate, hstep, hat, hlife, hawaits, hlanes⟩ := h
  obtain ⟨hboot, hawaits', hon, hlane⟩ := started_spec u
  exact ⟨(on_r hon _ (by decide)).trans hstate, (on_r hon _ (by decide)).trans hstep, by rw [hboot, ← hat],
    (on_r hon _ (by decide)).trans hlife,
    hawaits'.trans hawaits, fun hrel hc ho l hlo hhi => (hlane l (by omega)).trans (hlanes hrel hc ho l hlo hhi)⟩

theorem memRests_booted {s u : State} (h : Booted s u) (c : Bool) : Booted s (u.when c fun t => t.w Reg.memMEM_STATE 4) := by
  obtain ⟨hstate, hstep, hat, hlife, hawaits, hlanes⟩ := h
  unfold State.when
  split
  · have hr (k : Nat) (hk : k ≠ Reg.memMEM_STATE) : (u.w Reg.memMEM_STATE 4).r k = u.r k := (State.w_r _ _ _ _).trans (if_neg hk)
    exact ⟨(hr _ (by decide)).trans hstate, (hr _ (by decide)).trans hstep, hat, (hr _ (by decide)).trans hlife, hawaits,
      fun hrel hc ho l hlo hhi => (laneState_w _ _ _ _ (by decide) (by omega)).trans (hlanes hrel hc ho l hlo hhi)⟩
  · exact ⟨hstate, hstep, hat, hlife, hawaits, hlanes⟩

theorem wiped_spec (s : State) (h : s.r Reg.rstSTART_STEP = 5) :
    Booted s s.wiped ∧ (s.wiped.r Reg.suBOOT_TARGET = 1 → s.wiped.boot.arrived = true) := by
  have hwiped : s.wiped = if s.configured.toStandby.ringBringUp.r Reg.suBOOT_TARGET = 1 then
      (s.configured.toStandby.ringBringUp.when (decide (s.configured.toStandby.ringBringUp.r Reg.memMEM_STATE = 3))
        fun t => t.w Reg.memMEM_STATE 4).started
      else s.configured.toStandby.ringBringUp := if_neg (not_not.2 h)
  have hring := ringBringUp_booted s
  rw [hwiped]
  split
  · refine ⟨started_booted (memRests_booted hring _), fun _ => ?_⟩
    rw [(started_spec _).1]
  · next hne => exact ⟨hring, fun heq => absurd heq hne⟩

theorem wiped_other (s : State) (h : s.r Reg.rstSTART_STEP ≠ 5) : s.wiped = s := if_pos h

end Sys2Proof.Machine
end

section
/-! PROOFS. Start-up (O56): the waits of steps 8 and 10 (R572). -/

namespace Sys2Proof.Machine

theorem timeWait_boot (s : State) (h : s.r Reg.rstSTART_STEP = 8 ∧ s.boot.arrived = false ∧ s.boot.waitRaised = false ∧
    s.r Reg.timeTIME_STATE ≠ 2 ∧ s.since s.boot.standbyAt 10000000000 = true) :
    s.timeWait.boot = { s.boot with waitRaised := true } := by
  unfold State.timeWait
  rw [if_pos (by simpa using h)]
  exact (base_parts (base_event _ _ _ _)).2.1

theorem timeWait_other (s : State) (h : ¬ (s.r Reg.rstSTART_STEP = 8 ∧ s.boot.arrived = false ∧ s.boot.waitRaised = false ∧
    s.r Reg.timeTIME_STATE ≠ 2 ∧ s.since s.boot.standbyAt 10000000000 = true)) : s.timeWait = s :=
  if_neg (by simpa using h)

theorem base_arrive (s : State) : s.arrive.base = State.base { s with pwr := { s.pwr with target := none } } :=
  base_actDone _ _ _ _ (by decide)

/-- From READY a device on its way to RUN is in RUN once PD16 and PD17 are up, and still on its way before. -/
theorem stateSettle_toRun (s : State) (ht : s.pwr.target = some 3) (hd : s.r Reg.opDEVICE_STATE = 2) :
    s.stateSettle.r Reg.opDEVICE_STATE = 3 ∨ s.stateSettle.pwr.target = some 3 := by
  have hbase : s.memWake.nineGo.base = s.base := (base_nineGo _).trans (base_memWake _)
  have htarget : s.memWake.nineGo.pwr.target = some 3 := by
    obtain ⟨-, -, -, -, h, -⟩ := base_parts hbase
    exact h.trans ht
  have hstate : s.memWake.nineGo.r Reg.opDEVICE_STATE = 2 := (base_r hbase (by decide)).trans hd
  have hrun (t : State) : t.enterRun.arrive.r Reg.opDEVICE_STATE = 3 :=
    (base_r (base_arrive _) (by decide)).trans ((base_r (base_enterRun t) (by decide)).trans ((State.w_r _ _ _ _).trans (if_pos rfl)))
  unfold State.stateSettle
  generalize s.memWake.nineGo = t at *
  simp only [htarget, hstate, stSTANDBY, stREADY, stRUN, Nat.reduceEqDiff, false_and, true_and, if_false]
  split
  · exact .inl (hrun t)
  · exact .inr htarget

theorem waitOver_spec (s : State) (h : s.r Reg.rstSTART_STEP = 10 ∧ s.boot.arrived = false ∧ s.pwr.target = none ∧
    s.since s.boot.readyAt (1000000 * s.r Reg.suSTART_WAIT) = true) (hd : s.r Reg.opDEVICE_STATE = 2) :
    s.waitOver.r Reg.opDEVICE_STATE = 3 ∨ s.waitOver.pwr.target = some 3 := by
  unfold State.waitOver
  rw [if_pos (by simpa using h)]
  exact stateSettle_toRun _ rfl ((base_r (base_event s _ _ _) (by decide)).trans hd)

theorem waitOver_other (s : State) (h : ¬ (s.r Reg.rstSTART_STEP = 10 ∧ s.boot.arrived = false ∧ s.pwr.target = none ∧
    s.since s.boot.readyAt (1000000 * s.r Reg.suSTART_WAIT) = true)) : s.waitOver = s :=
  if_neg (by simpa using h)

end Sys2Proof.Machine
end

section
/-! PROOFS. Start-up (O56): the release of the reset, NVM recovery and the firmware (R548, R565, R566, R570, R573, R598). -/

namespace Sys2Proof.Machine

/-! ## Step 1 (R565, R570, R598) -/

/-- A rail of 0-10 lies outside its fault window. -/
def BadRails (rails : List Nat) : Prop := ∃ k, ∃ h : k < rails.length, k < 11 ∧
  (100 * rails[k] < 92 * railNominal.getD k 0 ∨ 108 * railNominal.getD k 0 < 100 * rails[k])

theorem railFault_any (rails : List Nat) : ((rails.take 11).zipIdx.any fun e => railFault e.2 e.1) = true ↔ BadRails rails := by
  simp only [List.any_eq_true, Prod.exists, List.mem_zipIdx_iff_getElem?, List.getElem?_take, railFault, outsidePct, decide_eq_true_eq]
  constructor
  · rintro ⟨v, k, hget, hout⟩
    split at hget
    · next hk =>
      obtain ⟨hlen, rfl⟩ := List.getElem?_eq_some_iff.1 hget
      exact ⟨k, hlen, hk, hout⟩
    · cases hget
  · rintro ⟨k, hlen, hk, hout⟩
    exact ⟨rails[k], k, by rw [if_pos hk, List.getElem?_eq_getElem hlen], hout⟩

/-- Step 1 has ended, and a pending wipe has emptied the user area. -/
def StepOneDone (s t : State) : Prop := t.r Reg.rstSTART_STEP = 1 ∧ t.fac.wipePending = false ∧
  (s.fac.wipePending = true → ∀ j, 8192 ≤ j → tget nvmErased t.nvm.cells j = nvmErased)

theorem stepOne_bad (s : State) (rails : List Nat) (h : BadRails rails) : s.stepOne rails = s := if_pos ((railFault_any rails).2 h)

theorem userWipe_regs (s : State) : s.userWipe.regs = s.regs := by
  unfold State.userWipe
  dsimp only
  split <;> rfl

theorem userWipe_boot (s : State) : s.userWipe.boot = s.boot := by
  unfold State.userWipe
  dsimp only
  split <;> rfl

theorem userWipe_cells (s : State) : s.userWipe.nvm.cells = tkeep (fun k => decide (k < 8192)) s.nvm.cells := by
  unfold State.userWipe
  dsimp only
  split <;> rfl

theorem stepOne_good (s : State) (rails : List Nat) (h : ¬ BadRails rails) : StepOneDone s (s.stepOne rails) := by
  have hstep (t : State) : (t.w Reg.rstSTART_STEP 1).r Reg.rstSTART_STEP = 1 := (State.w_r _ _ _ _).trans (if_pos rfl)
  unfold State.stepOne
  rw [if_neg (mt (railFault_any rails).1 h)]
  dsimp only
  split
  · refine ⟨?_, rfl, fun _ j hj => ?_⟩
    · rw [State.r]
      show tget _ (State.userWipe _).regs _ = 1
      rw [userWipe_regs]
      exact hstep _
    · show tget nvmErased (State.userWipe _).nvm.cells j = nvmErased
      rw [userWipe_cells, tget_tkeep, if_neg (by simpa using hj)]
  · next hw =>
    exact ⟨hstep _, Bool.eq_false_iff.2 hw, fun hp => absurd hp hw⟩

/-- What step 1 leaves of a released reset. -/
theorem stepOne_r (s : State) (rails : List Nat) (k : Nat) (hk : k ≠ Reg.rstSTART_STEP) : (s.stepOne rails).r k = s.r k := by
  have hstep (t : State) : (t.w Reg.rstSTART_STEP 1).r k = t.r k := (State.w_r _ _ _ _).trans (if_neg hk)
  unfold State.stepOne
  split
  · rfl
  · dsimp only
    split
    · rw [State.r]
      show tget _ (State.userWipe _).regs _ = _
      rw [userWipe_regs]
      exact hstep _
    · exact hstep _

theorem stepOne_boot (s : State) (rails : List Nat) :
    (s.stepOne rails).boot.released = s.boot.released ∧ (s.stepOne rails).boot.status = s.boot.status := by
  unfold State.stepOne
  split
  · exact ⟨rfl, rfl⟩
  · dsimp only
    split
    · show (State.userWipe _).boot.released = _ ∧ (State.userWipe _).boot.status = _
      rw [userWipe_boot]
      exact ⟨rfl, rfl⟩
    · exact ⟨rfl, rfl⟩

/-- The reset is released with PAIR_ID sampled and PD00-PD03 up. -/
def State.releasing (s : State) (pairId : Nat) : State :=
  State.wAll { s with boot := { s.boot with released := some s.up, status := 1 }, d2d := { s.d2d with clamps := 0 } }
    [(Reg.prPAIR_ID, pairId), (Reg.thmDOMAINS_UP, 15), (Reg.nvmNVM_STATE, 0), (Reg.rstSTART_STEP, 0)]

theorem release_now (s : State) (pairId : Nat) (rails : List Nat) (hr : s.boot.released = none) (hc : s.pwr.cutoff = false)
    (hs : s.since s.boot.supplyAt 2000000 = true) : s.release pairId rails = (s.releasing pairId).stepOne rails :=
  if_neg (by simp [hr, hc, hs])

theorem release_not (s : State) (pairId : Nat) (rails : List Nat)
    (h : s.boot.released.isSome = true ∨ s.pwr.cutoff = true ∨ s.since s.boot.supplyAt 2000000 = false) : s.release pairId rails = s :=
  if_pos (by simpa using h)

theorem releasing_r (s : State) (pairId : Nat) : (s.releasing pairId).r Reg.prPAIR_ID = pairId ∧
    (s.releasing pairId).r Reg.thmDOMAINS_UP = 15 ∧ (s.releasing pairId).r Reg.nvmNVM_STATE = 0 ∧
    (s.releasing pairId).r Reg.rstSTART_STEP = 0 := by
  unfold State.releasing State.wAll
  simp only [List.foldl_cons, List.foldl_nil, State.w_r, Reg.prPAIR_ID, Reg.thmDOMAINS_UP, Reg.nvmNVM_STATE, Reg.rstSTART_STEP,
    Nat.reduceEqDiff, if_true, if_false, and_self]

theorem releasing_parts (s : State) (pairId : Nat) : (s.releasing pairId).boot = { s.boot with released := some s.up, status := 1 } ∧
    (s.releasing pairId).fac = s.fac := by
  unfold State.releasing
  rw [State.wAll_eq]
  exact ⟨rfl, rfl⟩

end Sys2Proof.Machine
end

section
/-! PROOFS. Start-up (O56): NVM recovery and the boot code's reads (R548, R570, R573). -/

namespace Sys2Proof.Machine

/-! ## What recovery takes from the records -/

theorem takeSettings_nvm (s : State) : s.takeSettings.nvm = s.nvm := by
  unfold State.takeSettings
  split
  · rw [State.wAll_eq]
  · rfl

theorem takeStop_nvm (s : State) : s.takeStop.nvm = s.nvm := by
  unfold State.takeStop
  split
  · rw [State.wAll_eq]
  · rfl

theorem takeLane_nvm (s : State) (h : Nat) : (s.takeLane h).nvm = s.nvm := by
  unfold State.takeLane
  split
  · rw [State.wAll_eq]
    rfl
  · rfl

theorem takePatches_nvm (s : State) (h : Nat) : (s.takePatches h).nvm = s.nvm := by
  unfold State.takePatches
  split <;> rfl

/-- The records of the settings, the stop and the heads have been taken. -/
def State.recordsTaken (s : State) : State :=
  State.each (State.takeStop (State.takeSettings { s with nvm := s.nvm.recover.nvm, boot := { s.boot with owed := s.nvm.recover.events } }))
    (List.range 32) fun h t => (t.takeLane h).takePatches h

theorem recordsTaken_nvm (s : State) : s.recordsTaken.nvm = s.nvm.recover.nvm := by
  unfold State.recordsTaken
  rw [view_each State.nvm _ _ _ fun h _ t => (takePatches_nvm _ h).trans (takeLane_nvm t h), takeStop_nvm, takeSettings_nvm]

theorem takePair_spec (s : State) : s.takePair.epoch = (s.nvm.data 0x02).elim 0 (fld 0 4) ∧ s.takePair.nvm = s.nvm ∧
    s.takePair.pair.mode = decide (s.takePair.r Reg.prPAIR_MODE = 1) ∧ s.takePair.pair.authority = !s.takePair.pair.mode := by
  have hmode : s.takePair.r Reg.prPAIR_MODE = s.r Reg.prPAIR_MODE := by
    refine State.wAll_r_ne { s with pair := _ } _ _ ?_
    simp only [List.forall_mem_cons, List.not_mem_nil, false_imp_iff, implies_true, and_true]
    exact ⟨(by decide : Reg.prPAIR_EPOCH ≠ Reg.prPAIR_MODE), (by decide : Reg.prROLE ≠ Reg.prPAIR_MODE)⟩
  have hepoch : s.takePair.epoch = (s.nvm.data 0x02).elim 0 (fld 0 4) :=
    (State.w_r _ _ _ _).trans <| (if_neg (show Reg.prPAIR_EPOCH ≠ Reg.prROLE by decide)).trans <| (State.w_r _ _ _ _).trans (if_pos rfl)
  rw [hmode]
  refine ⟨hepoch, ?_, ?_, ?_⟩ <;> (unfold State.takePair; rw [State.wAll_eq])

theorem hwmStore_r (s : State) (v k : Nat) (h : k ≠ Reg.nvmWRITES_QUEUED ∧ k ≠ Reg.nvmBANK_BUSY) : (s.hwmStore v).r k = s.r k :=
  (State.w_r _ _ _ _).trans <| (if_neg h.1).trans <| (State.w_r _ _ _ _).trans (if_neg h.2)

/-- The journal goes on from the stored mark. -/
theorem takeTally_shape (s : State) : ∃ last tly, s.takeTally = State.hwmStore
    { s.wAll [(Reg.tlyHWM, (s.nvm.data 0x01).elim 0 (fld 0 4)), (Reg.tlyNEXT_SEQ, (s.nvm.data 0x01).elim 0 (fld 0 4)),
      (Reg.tlyOLDEST_SEQ, (s.nvm.data 0x01).elim 0 (fld 0 4)), (Reg.tlyPREV_LAST_SEQ, last), (Reg.tlyMIRROR_SEQ, last)] with tly := tly }
    ((s.nvm.data 0x01).elim 0 (fld 0 4) + 3072) := by
  unfold State.takeTally
  exact ⟨_, _, rfl⟩

theorem takeTally_spec (s : State) : s.takeTally.r Reg.tlyNEXT_SEQ = (s.nvm.data 0x01).elim 0 (fld 0 4) ∧ s.takeTally.pair = s.pair ∧
    ∀ k, k / 65536 ≠ 0x12 → k ≠ Reg.nvmWRITES_QUEUED → k ≠ Reg.nvmBANK_BUSY → s.takeTally.r k = s.r k := by
  obtain ⟨last, tly, hshape⟩ := takeTally_shape s
  generalize (s.nvm.data 0x01).elim 0 (fld 0 4) = hwm at *
  have hwAll (t : State) (k : Nat) : ({ t with tly := tly } : State).r k = t.r k := rfl
  rw [hshape]
  refine ⟨?_, ?_, fun k hk hq hb => ?_⟩
  · rw [hwmStore_r _ _ _ (by decide), hwAll]
    simp only [State.wAll, List.foldl_cons, List.foldl_nil, State.w_r, Reg.tlyNEXT_SEQ, Reg.tlyOLDEST_SEQ, Reg.tlyPREV_LAST_SEQ,
      Reg.tlyMIRROR_SEQ, Nat.reduceEqDiff, if_true, if_false]
  · rw [State.wAll_eq]
    rfl
  · rw [hwmStore_r _ _ _ ⟨hq, hb⟩, hwAll, State.wAll_r_ne]
    simp only [List.forall_mem_cons, List.not_mem_nil, false_imp_iff, implies_true, and_true, Reg.tlyHWM, Reg.tlyNEXT_SEQ,
      Reg.tlyOLDEST_SEQ, Reg.tlyPREV_LAST_SEQ, Reg.tlyMIRROR_SEQ]
    omega

/-! ## NVM recovery as a whole -/

theorem recover_shape (s : State) : ∃ fixes lost settled time flash, s.recover = State.takeTally
    { s.recordsTaken.takePair.wAll [(Reg.nvmTWIN_FIXES, fixes), (Reg.nvmRECORDS_LOST, lost), (Reg.nvmRECOVERED_OPS, settled),
      (Reg.nvmNVM_STATE, 1), (Reg.nvmRECOVERY_TIME, time)] with flash := flash } := by
  unfold State.recover
  exact ⟨_, _, _, _, _, rfl⟩

/-- What NVM recovery makes of the records: the epoch, the journal's next number, the pair's mode and authority. -/
def Recovered (n : Nvm) (t : State) : Prop :=
  t.r Reg.nvmNVM_STATE = 1 ∧ t.epoch = (n.data 0x02).elim 0 (fld 0 4) ∧ t.r Reg.tlyNEXT_SEQ = (n.data 0x01).elim 0 (fld 0 4) ∧
    t.pair.mode = decide (t.r Reg.prPAIR_MODE = 1) ∧ t.pair.authority = !t.pair.mode

theorem recover_spec (s : State) : Recovered s.nvm.recover.nvm s.recover := by
  obtain ⟨fixes, lost, settled, time, flash, hshape⟩ := recover_shape s
  obtain ⟨hepoch, hnvm, hmode, hauth⟩ := takePair_spec s.recordsTaken
  rw [recordsTaken_nvm] at hepoch hnvm
  generalize s.recordsTaken.takePair = p at *
  generalize hv : [(Reg.nvmTWIN_FIXES, fixes), (Reg.nvmRECORDS_LOST, lost), (Reg.nvmRECOVERED_OPS, settled), (Reg.nvmNVM_STATE, 1),
    (Reg.nvmRECOVERY_TIME, time)] = vals at hshape
  have hother (k : Nat) (hk : k / 65536 ≠ 0x25) : (p.wAll vals).r k = p.r k := by
    refine State.wAll_r_ne _ _ _ ?_
    rw [← hv]
    simp only [List.forall_mem_cons, List.not_mem_nil, false_imp_iff, implies_true, and_true, Reg.nvmTWIN_FIXES, Reg.nvmRECORDS_LOST,
      Reg.nvmRECOVERED_OPS, Reg.nvmNVM_STATE, Reg.nvmRECOVERY_TIME]
    omega
  have hstate : (p.wAll vals).r Reg.nvmNVM_STATE = 1 := by
    rw [← hv]
    simp only [State.wAll, List.foldl_cons, List.foldl_nil, State.w_r, Reg.nvmNVM_STATE, Reg.nvmRECOVERY_TIME, Nat.reduceEqDiff,
      if_true, if_false]
  have hpnvm : (p.wAll vals).nvm = p.nvm := by rw [State.wAll_eq]
  have hppair : (p.wAll vals).pair = p.pair := by rw [State.wAll_eq]
  generalize p.wAll vals = q at *
  obtain ⟨hnext, hpair, hr⟩ := takeTally_spec { q with flash := flash }
  rw [← hshape] at hnext hpair hr
  have hepoch' : s.recover.epoch = p.epoch := (hr _ (by decide) (by decide) (by decide)).trans (hother _ (by decide))
  have hpairMode : s.recover.r Reg.prPAIR_MODE = p.r Reg.prPAIR_MODE :=
    (hr _ (by decide) (by decide) (by decide)).trans (hother _ (by decide))
  have hpair' : s.recover.pair = p.pair := hpair.trans hppair
  have hqnvm : ({ q with flash := flash } : State).nvm = s.nvm.recover.nvm := hpnvm.trans hnvm
  rw [hqnvm] at hnext
  refine ⟨(hr _ (by decide) (by decide) (by decide)).trans hstate, hepoch'.trans hepoch, hnext, ?_, ?_⟩
  · rw [hpair', hpairMode, hmode]
  · rw [hpair', hauth]

/-! ## RDID and the image header (R573) -/

/-- START_STEP, FLASH_ID and FLASH_SIZE, which the boot code writes. -/
def bootCodeKey (k : Nat) : Bool := decide (k = Reg.rstSTART_STEP ∨ k = Reg.flFLASH_ID ∨ k = Reg.flFLASH_SIZE)

/-- The boot code leaves what recovery has found. -/
theorem Recovered.of_boot {n : Nvm} {s t : State} (h : Recovered n s) (hr : ∀ k, bootCodeKey k = false → t.r k = s.r k)
    (hp : t.pair = s.pair) : Recovered n t := by
  obtain ⟨hstate, hepoch, hnext, hmode, hauth⟩ := h
  exact ⟨(hr _ (by decide)).trans hstate, (hr _ (by decide)).trans hepoch, (hr _ (by decide)).trans hnext,
    by rw [hp, hmode, hr Reg.prPAIR_MODE (by decide)], by rw [hp, hauth]⟩

theorem status_r (s : State) (st k : Nat) : ({ s with boot := { s.boot with status := st } } : State).r k = s.r k := rfl

theorem Recovered.status {n : Nvm} {u : State} (h : Recovered n u) (st : Nat) :
    Recovered n { u with boot := { u.boot with status := st } } := Recovered.of_boot (s := u) h (fun k _ => status_r u st k) rfl

/-- Step 2 with RDID. -/
def State.rdidRead (s : State) (n : Nat) : State := s.recover.wAll [(Reg.rstSTART_STEP, 2), (Reg.flFLASH_ID, n)]

theorem bootCode_wAll (s : State) (l : List (Nat × Nat)) (hl : ∀ e ∈ l, bootCodeKey e.1 = true) (k : Nat) (hk : bootCodeKey k = false) :
    (s.wAll l).r k = s.r k := State.wAll_r_ne _ _ _ fun e he heq => by rw [← heq, hl e he] at hk; cases hk

theorem rdidRead_spec (s : State) (n : Nat) : Recovered s.nvm.recover.nvm (s.rdidRead n) ∧ (s.rdidRead n).r Reg.flFLASH_ID = n ∧
    (s.rdidRead n).r Reg.rstSTART_STEP = 2 := by
  unfold State.rdidRead
  refine ⟨(recover_spec s).of_boot (bootCode_wAll _ _ ?_) (by rw [State.wAll_eq]), (State.w_r _ _ _ _).trans (if_pos rfl), ?_⟩
  · simp only [List.forall_mem_cons, List.not_mem_nil, false_imp_iff, implies_true, and_true]
    exact ⟨(by decide : bootCodeKey Reg.rstSTART_STEP = true), (by decide : bootCodeKey Reg.flFLASH_ID = true)⟩
  · exact (State.w_r _ _ _ _).trans <| (if_neg (show Reg.rstSTART_STEP ≠ Reg.flFLASH_ID by decide)).trans <|
      (State.w_r _ _ _ _).trans (if_pos rfl)

/-- The boot code ends with a status, or at step 3 with the flash's size. -/
theorem bootRead_cases (s : State) (rdid : Nat) (ok : Bool) (h : s.r Reg.rstSTART_STEP = 1) :
    let n := rdid % 2 ^ 24
    let u := s.rdidRead n
    s.bootRead rdid ok = if n = 0 ∨ n = 0xFFFFFF then { u with boot := { u.boot with status := 4 } }
      else if ok = false then { u with boot := { u.boot with status := 2 } }
      else u.used.wAll [(Reg.rstSTART_STEP, 3), (Reg.flFLASH_SIZE, if Config.freeBool u.free then 64 else 32)] := by
  unfold State.bootRead
  rw [if_neg (not_not.2 h)]
  cases ok <;> rfl

theorem bootRead_other (s : State) (rdid : Nat) (ok : Bool) (h : s.r Reg.rstSTART_STEP ≠ 1) : s.bootRead rdid ok = s := if_pos h

theorem sized_spec (n : Nvm) (u : State) (size : Nat) (hu : Recovered n u) :
    let t := u.used.wAll [(Reg.rstSTART_STEP, 3), (Reg.flFLASH_SIZE, size)]
    Recovered n t ∧ t.r Reg.flFLASH_ID = u.r Reg.flFLASH_ID ∧ t.r Reg.rstSTART_STEP = 3 ∧ t.r Reg.flFLASH_SIZE = size := by
  refine ⟨hu.of_boot (bootCode_wAll u.used _ ?_) (by rw [State.wAll_eq]; rfl), State.wAll_r_ne u.used _ _ ?_, ?_,
    (State.w_r _ _ _ _).trans (if_pos rfl)⟩
  · simp only [List.forall_mem_cons, List.not_mem_nil, false_imp_iff, implies_true, and_true]
    exact ⟨(by decide : bootCodeKey Reg.rstSTART_STEP = true), (by decide : bootCodeKey Reg.flFLASH_SIZE = true)⟩
  · simp only [List.forall_mem_cons, List.not_mem_nil, false_imp_iff, implies_true, and_true]
    exact ⟨(by decide : Reg.rstSTART_STEP ≠ Reg.flFLASH_ID), (by decide : Reg.flFLASH_SIZE ≠ Reg.flFLASH_ID)⟩
  · exact (State.w_r _ _ _ _).trans <| (if_neg (show Reg.rstSTART_STEP ≠ Reg.flFLASH_SIZE by decide)).trans <|
      (State.w_r _ _ _ _).trans (if_pos rfl)

/-- What the boot code's reads end in (R573). -/
def BootReadDone (rdid : Nat) (ok : Bool) (n : Nvm) (t : State) : Prop :=
  Recovered n t ∧ t.r Reg.flFLASH_ID = rdid % 2 ^ 24 ∧
    (rdid % 2 ^ 24 = 0 ∨ rdid % 2 ^ 24 = 0xFFFFFF → t.r Reg.rstSTART_STEP = 2 ∧ t.boot.status = 4) ∧
    (rdid % 2 ^ 24 ≠ 0 → rdid % 2 ^ 24 ≠ 0xFFFFFF → (ok = false → t.r Reg.rstSTART_STEP = 2 ∧ t.boot.status = 2) ∧
      (ok = true → t.r Reg.rstSTART_STEP = 3 ∧ (t.r Reg.flFLASH_SIZE = 32 ∨ t.r Reg.flFLASH_SIZE = 64)))

theorem bootRead_spec (s : State) (rdid : Nat) (ok : Bool) (h : s.r Reg.rstSTART_STEP = 1) :
    BootReadDone rdid ok s.nvm.recover.nvm (s.bootRead rdid ok) := by
  obtain ⟨hrec, hid, hstep⟩ := rdidRead_spec s (rdid % 2 ^ 24)
  have hcases := bootRead_cases s rdid ok h
  dsimp only at hcases
  unfold BootReadDone
  generalize s.rdidRead (rdid % 2 ^ 24) = u at *
  generalize s.nvm.recover.nvm = n at *
  generalize rdid % 2 ^ 24 = i at *
  by_cases hbad : i = 0 ∨ i = 0xFFFFFF
  · rw [hcases, if_pos hbad]
    exact ⟨hrec.status 4, (status_r _ _ _).trans hid, fun _ => ⟨(status_r _ _ _).trans hstep, rfl⟩, fun h0 h1 => absurd hbad (by omega)⟩
  · rw [if_neg hbad] at hcases
    cases ok with
    | false =>
      rw [hcases, if_pos rfl]
      exact ⟨hrec.status 2, (status_r _ _ _).trans hid, fun hb => absurd hb hbad, fun _ _ =>
        ⟨fun _ => ⟨(status_r _ _ _).trans hstep, rfl⟩, fun ht => absurd ht (by decide)⟩⟩
    | true =>
      rw [if_neg (by decide)] at hcases
      obtain ⟨hrec', hid', hstep', hsize⟩ := sized_spec n u (if Config.freeBool u.free then 64 else 32) hrec
      rw [← hcases] at hrec' hid' hstep' hsize
      refine ⟨hrec', hid'.trans hid, fun hb => absurd hb hbad, fun _ _ => ⟨fun hf => absurd hf (by decide), fun _ => ⟨hstep', ?_⟩⟩⟩
      rw [hsize]
      split
      · exact .inr rfl
      · exact .inl rfl

/-! ## The firmware (R566, R573) -/

theorem firmware_other (s : State) (ok : Bool) (h : s.r Reg.rstSTART_STEP ≠ 3 ∨ s.boot.status ≠ 1) : s.firmware ok = s := if_pos h

theorem firmware_bad (s : State) (h3 : s.r Reg.rstSTART_STEP = 3) (h1 : s.boot.status = 1) :
    s.firmware false = { s with boot := { s.boot with status := 3 } } := by
  unfold State.firmware
  rw [if_neg (by simp [h3, h1])]
  rfl

/-- What training begins with. -/
def Trains (s : State) (rate up : Nat) : Prop := s.r Reg.rstSTART_STEP = 4 ∧ s.r Reg.memMEM_STATE = 1 ∧ s.mem.trainRate = rate ∧
  s.boot.wdArmed = true ∧ s.boot.wdLast = up ∧ s.boot.status = 0

/-- The watchdog is armed, and training begins. -/
def State.trainingFrom (s : State) : State :=
  State.wAll { s with
      boot := { s.boot with status := 0, wdArmed := true, wdLast := s.up, owed := [] }, mem := { s.mem with trainRate := s.r Reg.memRATE } }
    [(Reg.rstSTART_STEP, 4), (Reg.memMEM_STATE, 1)]

theorem trainingFrom_trains (s : State) : Trains s.trainingFrom (s.r Reg.memRATE) s.up := by
  unfold State.trainingFrom
  refine ⟨?_, (State.w_r _ _ _ _).trans (if_pos rfl), ?_, ?_, ?_, ?_⟩
  · exact (State.w_r _ _ _ _).trans <| (if_neg (by decide)).trans <| (State.w_r _ _ _ _).trans (if_pos rfl)
  all_goals rw [State.wAll_eq]

/-- START_STEP, MEM_STATE, the rate being trained and the boot state. -/
def State.training (s : State) : Nat × Nat × Nat × Boot := (s.r Reg.rstSTART_STEP, s.r Reg.memMEM_STATE, s.mem.trainRate, s.boot)

theorem training_of_book {s t : State} (h : t.book = s.book) : t.training = s.training := by
  have hstep : t.r Reg.rstSTART_STEP = s.r Reg.rstSTART_STEP := book_r h _ (by decide)
  have hmem : t.r Reg.memMEM_STATE = s.r Reg.memMEM_STATE := book_r h _ (by decide)
  unfold State.training
  rw [hstep, hmem, book_eq h]

theorem training_slotPut (s : State) (t c : Nat) (b : Bytes) (origin : Nat) : (s.slotPut t c b origin).training = s.training := by
  have key (k j : Nat) (hj : j < 0x320000) (hk : k < 256) : tabKey t k ≠ j := by
    unfold tabKey tabIndex
    split_ifs <;> omega
  have hr (u : State) (j v w x : Nat) (hj : j < 0x320000) : (u.wAll [(tabKey t 2, v), (tabKey t 4, w), (tabKey t 5, x)]).r j = u.r j := by
    refine State.wAll_r_ne _ _ _ ?_
    simp only [List.forall_mem_cons, List.not_mem_nil, false_imp_iff, implies_true, and_true]
    exact ⟨key _ _ hj (by decide), key _ _ hj (by decide), key _ _ hj (by decide)⟩
  unfold State.slotPut State.newestPub State.training
  dsimp only
  rw [hr _ _ _ _ _ (by decide), hr _ _ _ _ _ (by decide), State.wAll_eq]
  rfl

theorem training_flash (s : State) (x : Flash) : State.training { s with flash := x } = s.training := rfl

theorem training_loadTables (s : State) : s.loadTables.training = s.training := by
  refine view_each State.training _ _ _ fun t _ u => ?_
  extract_lets put
  have hput (b : Bytes) (o : Nat) : (put b o).training = u.training := training_slotPut _ _ _ _ _
  split
  · split
    · exact (training_flash _ _).trans (hput _ _)
    · rfl
  · split
    · rfl
    · exact hput _ _

theorem firmware_good (s : State) (h3 : s.r Reg.rstSTART_STEP = 3) (h1 : s.boot.status = 1) :
    Trains (s.firmware true) (s.r Reg.memRATE) s.up := by
  have hfirmware : s.firmware true = (s.trainingFrom.each s.boot.owed fun e u => u.event e.1 e.2.1 e.2.2).loadTables :=
    if_neg (by simp [h3, h1])
  have htraining : (s.firmware true).training = s.trainingFrom.training := by
    rw [hfirmware, training_loadTables]
    exact view_each State.training _ _ _ fun e _ t => training_of_book (book_event _ _ _ _)
  simp only [State.training, Prod.mk.injEq] at htraining
  obtain ⟨hstep, hmem, hrate, hboot⟩ := htraining
  obtain ⟨hstep', hmem', hrate', hwd⟩ := trainingFrom_trains s
  exact ⟨hstep.trans hstep', hmem.trans hmem', hrate.trans hrate', by rw [hboot]; exact hwd⟩

end Sys2Proof.Machine
end

section
/-! PROOFS. Start-up (O56): the training of the memory, step 5 (R331, R349, R350). -/

namespace Sys2Proof.Machine

/-! ## Which subchannels are good -/

theorem filter_zipIdx {α : Type} (l : List α) (p : α → Bool) :
    (l.zipIdx.filter fun e => p e.1).map (·.2) = (List.range l.length).filter fun d => (l[d]?).any p := by
  induction l using List.reverseRecOn with
  | nil => rfl
  | append_singleton l x ih =>
    have hlast : (l ++ [x])[l.length]? = some x := by simp
    have hinit : ((List.range l.length).filter fun d => ((l ++ [x])[d]?).any p) = (List.range l.length).filter fun d => (l[d]?).any p :=
      List.filter_congr fun d hd => by rw [List.getElem?_append_left (List.mem_range.1 hd)]
    rw [List.zipIdx_append, List.filter_append, List.map_append, ih, List.length_append, List.length_singleton, List.range_succ,
      List.filter_append, hinit]
    congr 1
    cases hp : p x <;> simp [hp]

/-- The density of DS0, which all in service have (R331). -/
def firstDensity (r : List TrainIn) : Nat := (r.head?.map (·.density)).getD 0

/-- Does a subchannel come into service? -/
def State.goodIn (s : State) (r : List TrainIn) (x : TrainIn) : Bool :=
  decide (x.density ≠ 0 ∧ x.density = firstDensity r ∧ s.r Reg.memEYE_MIN ≤ narrowest (fullEyes x.sweeps))

/-- The subchannels that come into service. -/
def State.goods (s : State) (r : List TrainIn) : List Nat := (List.range r.length).filter fun d => (r[d]?).any (s.goodIn r)

theorem mem_goods (s : State) (r : List TrainIn) (d : Nat) : d ∈ s.goods r ↔ ∃ h : d < r.length, s.goodIn r r[d] = true := by
  unfold State.goods
  rw [List.mem_filter, List.mem_range]
  constructor
  · rintro ⟨hd, hg⟩
    exact ⟨hd, by simpa [List.getElem?_eq_getElem hd] using hg⟩
  · rintro ⟨hd, hg⟩
    exact ⟨hd, by simpa [List.getElem?_eq_getElem hd] using hg⟩

/-- The subchannels of another density, and those of the first one that fail. -/
def otherDensity (r : List TrainIn) : List (Nat × Nat) :=
  ((r.zipIdx.filter fun e => e.1.density ≠ 0).filter fun e => e.1.density ≠ firstDensity r).map fun e => (e.2, 2)

def State.failing (s : State) (r : List TrainIn) : List (Nat × Nat) :=
  (((r.zipIdx.filter fun e => e.1.density ≠ 0).filter fun e => e.1.density = firstDensity r).filter fun e => !s.trainOk e.1).map
    fun e => (e.2, 1)

theorem goodIn_of_mem_goods {s : State} {r : List TrainIn} {d : Nat} {x : TrainIn} (hget : r[d]? = some x) (h : d ∈ s.goods r) :
    s.goodIn r x = true := by
  obtain ⟨hd, hgood⟩ := (mem_goods s r d).1 h
  obtain ⟨-, rfl⟩ := List.getElem?_eq_some_iff.1 hget
  exact hgood

theorem otherDensity_not_good (s : State) (r : List TrainIn) : ∀ e ∈ otherDensity r, e.1 ∉ s.goods r := by
  intro e he hg
  simp only [otherDensity, List.mem_map, List.mem_filter, List.mem_zipIdx_iff_getElem?, decide_eq_true_eq] at he
  obtain ⟨⟨x, d⟩, ⟨⟨hget, -⟩, hne⟩, rfl⟩ := he
  exact hne (of_decide_eq_true (goodIn_of_mem_goods hget hg)).2.1

theorem failing_not_good (s : State) (r : List TrainIn) : ∀ e ∈ s.failing r, e.1 ∉ s.goods r := by
  intro e he hg
  simp only [State.failing, List.mem_map, List.mem_filter, List.mem_zipIdx_iff_getElem?, Bool.not_eq_true'] at he
  obtain ⟨⟨x, d⟩, ⟨⟨⟨hget, -⟩, -⟩, hfail⟩, rfl⟩ := he
  obtain ⟨-, -, hok⟩ := of_decide_eq_true (goodIn_of_mem_goods hget hg)
  exact of_decide_eq_false hfail hok

/-! ## A set of subchannels as a mask -/

theorem bit_setBit_true (j k v : Nat) : bit j (setBit k true v) = (bit j v || decide (j = k)) := by
  unfold bit setBit
  rw [if_pos rfl, Nat.testBit_or, Nat.one_shiftLeft, Nat.testBit_two_pow]
  congr 1
  exact decide_eq_decide.2 eq_comm

theorem bit_maskOf (l : List Nat) (j : Nat) : bit j (maskOf l) = decide (j ∈ l) := by
  have hfold (m : Nat) : bit j (l.foldl (fun m d => setBit d true m) m) = (bit j m || decide (j ∈ l)) := by
    induction l generalizing m with
    | nil => simp
    | cons d l ih => simp [ih, bit_setBit_true, Bool.or_assoc]
  rw [maskOf, hfold, bit, Nat.zero_testBit, Bool.false_or]

theorem setBit_clear {d v : Nat} (h : bit d v = false) : setBit d false v = v := by
  unfold setBit
  rw [if_neg (by decide), if_neg (by rw [← bit, h]; decide)]

/-! ## A subchannel out of service -/

theorem subCh_wSubCh (s : State) (d k : Nat) (x : SubCh) : (s.wSubCh d x).subCh k = if k = d then x else s.subCh k := by
  unfold State.subCh State.wSubCh
  rw [tget_tset]

/-- IN_SERVICE, RATE_ACTIVE and the settings of every subchannel. -/
structure SameService (s t : State) : Prop where
  service : t.r Reg.memIN_SERVICE = s.r Reg.memIN_SERVICE
  rate : t.r Reg.memRATE_ACTIVE = s.r Reg.memRATE_ACTIVE
  eyes : ∀ k, (t.subCh k).eyes = (s.subCh k).eyes

theorem SameService.trans {s t u : State} (h1 : SameService s t) (h2 : SameService t u) : SameService s u :=
  ⟨h2.service.trans h1.service, h2.rate.trans h1.rate, fun k => (h2.eyes k).trans (h1.eyes k)⟩

theorem sameService_wAll (s : State) (l : List (Nat × Nat)) (h : ∀ e ∈ l, e.1 ≠ 0x220006 ∧ e.1 ≠ 0x220003) : SameService s (s.wAll l) :=
  ⟨State.wAll_r_ne _ _ _ fun e he => (h e he).1, State.wAll_r_ne _ _ _ fun e he => (h e he).2,
    fun k => by rw [State.subCh, State.wAll_eq]; rfl⟩

theorem sameService_w (s : State) (k v : Nat) (h : k ≠ 0x220006 ∧ k ≠ 0x220003) : SameService s (s.w k v) :=
  sameService_wAll s [(k, v)] fun e he => by rw [List.mem_singleton.1 he]; exact h

theorem sameService_bump (s : State) (k : Nat) (h : k ≠ 0x220006 ∧ k ≠ 0x220003) : SameService s (s.bump k) := sameService_w _ _ _ h

theorem sameService_book {s t : State} (h : t.book = s.book) : SameService s t :=
  ⟨book_r h _ (by decide), book_r h _ (by decide), fun k => by rw [State.subCh, book_eq h]; rfl⟩

theorem sameService_wSubCh (s : State) (d : Nat) (x : SubCh) (h : x.eyes = (s.subCh d).eyes) : SameService s (s.wSubCh d x) := by
  refine ⟨rfl, rfl, fun k => ?_⟩
  rw [subCh_wSubCh]
  split
  · next hk => rw [h, hk]
  · rfl

/-- A subchannel that was not in service fails. -/
theorem sameService_subOut (s : State) (d cause : Nat) (h : s.rb Reg.memIN_SERVICE d = false) : SameService s (s.subOut d cause) := by
  have hlog (t : State) : SameService t (t.memLog d 5 0 0 0 0) := by
    unfold State.memLog
    dsimp only
    refine SameService.trans ?_ (sameService_bump _ Reg.memLOG_SEQ (by decide))
    exact ⟨rfl, rfl, fun _ => rfl⟩
  have hclear (t : State) (ht : t.rb Reg.memIN_SERVICE d = false) : SameService t (t.wb Reg.memIN_SERVICE d false) :=
    ⟨(State.wb_r _ _ _ _ _).trans ((if_pos rfl).trans (setBit_clear ht)), (State.wb_r _ _ _ _ _).trans (if_neg (by decide)), fun _ => rfl⟩
  unfold State.subOut
  extract_lets x s1 s2 s3
  have h1 : SameService s s1 := sameService_wSubCh _ _ _ rfl
  have h1s : s1.rb Reg.memIN_SERVICE d = false := h
  have h2 : SameService s1 s2 := (hclear s1 h1s).trans <| (sameService_w _ Reg.memFAILED _ (by decide)).trans <| sameService_wAll _ _ <| by
    simp only [List.forall_mem_cons, List.not_mem_nil, false_imp_iff, implies_true, and_true, Reg.subSUB_STATE, Reg.memFAIL_CAUSE]
    omega
  have h3 : SameService s2 s3 := (hlog s2).trans (sameService_book (book_event _ _ _ _))
  refine h1.trans (h2.trans (h3.trans ?_))
  unfold State.when
  split
  · exact sameService_w _ _ _ (by decide)
  · exact ⟨rfl, rfl, fun _ => rfl⟩

theorem sameService_subsOut (s : State) (bad : List (Nat × Nat)) (h : ∀ e ∈ bad, s.rb Reg.memIN_SERVICE e.1 = false) :
    SameService s (s.each bad fun e x => x.subOut e.1 e.2) := by
  unfold State.each
  induction bad generalizing s with
  | nil => exact ⟨rfl, rfl, fun _ => rfl⟩
  | cons e bad ih =>
    have hout := sameService_subOut s e.1 e.2 (h e List.mem_cons_self)
    refine hout.trans (ih _ fun f hf => ?_)
    rw [State.rb, hout.service]
    exact h f (List.mem_cons_of_mem e hf)

theorem sameService_regionSizes (s : State) : SameService s s.regionSizes := by
  have size (t : State) (i v : Nat) : SameService t (t.w (Reg.rgnSIZE i) v) := sameService_w _ _ _ (by unfold Reg.rgnSIZE; omega)
  unfold State.regionSizes State.each
  generalize List.range 4 = rs
  induction rs generalizing s with
  | nil => exact ⟨rfl, rfl, fun _ => rfl⟩
  | cons i rs ih => exact (size s i _).trans (ih _)

/-! ## The end of training (R349, R350) -/

/-- The settings of the good subchannels are put in force. -/
def State.goodsSet (s : State) (r : List TrainIn) (good : List Nat) : State := s.each good fun d x =>
  (x.wSubCh d { x.subCh d with eyes := fullEyes (r.getD d ⟨0, []⟩).sweeps }).wAll [(Reg.subSUB_STATE d, 1), (Reg.subLAST_TRAIN d, x.now)]

/-- One subchannel's settings. -/
theorem goodSet_spec (s : State) (d up : Nat) (x : SubCh) :
    let t := (s.wSubCh d x).wAll [(Reg.subSUB_STATE d, 1), (Reg.subLAST_TRAIN d, up)]
    t.r Reg.memIN_SERVICE = s.r Reg.memIN_SERVICE ∧ t.r Reg.memRATE_ACTIVE = s.r Reg.memRATE_ACTIVE ∧
      ∀ k, (t.subCh k).eyes = if k = d then x.eyes else (s.subCh k).eyes := by
  have hkeys : ∀ e ∈ [(Reg.subSUB_STATE d, 1), (Reg.subLAST_TRAIN d, up)], e.1 ≠ 0x220006 ∧ e.1 ≠ 0x220003 := by
    simp only [List.forall_mem_cons, List.not_mem_nil, false_imp_iff, implies_true, and_true, Reg.subSUB_STATE, Reg.subLAST_TRAIN]
    omega
  have hsame := sameService_wAll (s.wSubCh d x) _ hkeys
  refine ⟨hsame.service, hsame.rate, fun k => (hsame.eyes k).trans ?_⟩
  rw [subCh_wSubCh]
  split <;> rfl

theorem goodsSet_spec (s : State) (r : List TrainIn) (good : List Nat) :
    (s.goodsSet r good).r Reg.memIN_SERVICE = s.r Reg.memIN_SERVICE ∧ (s.goodsSet r good).r Reg.memRATE_ACTIVE = s.r Reg.memRATE_ACTIVE ∧
    ∀ k, ((s.goodsSet r good).subCh k).eyes = if k ∈ good then fullEyes (r.getD k ⟨0, []⟩).sweeps else (s.subCh k).eyes := by
  unfold State.goodsSet State.each
  induction good generalizing s with
  | nil => exact ⟨rfl, rfl, fun _ => rfl⟩
  | cons d good ih =>
    obtain ⟨hs, hr, he⟩ := goodSet_spec s d s.now { s.subCh d with eyes := fullEyes (r.getD d ⟨0, []⟩).sweeps }
    obtain ⟨ihs, ihr, ihe⟩ := ih ((s.wSubCh d { s.subCh d with eyes := fullEyes (r.getD d ⟨0, []⟩).sweeps }).wAll
      [(Reg.subSUB_STATE d, 1), (Reg.subLAST_TRAIN d, s.now)])
    refine ⟨ihs.trans hs, ihr.trans hr, fun k => (ihe k).trans ?_⟩
    rw [he k]
    by_cases hk : k = d
    · simp [hk]
    · simp [hk]

/-- DENSITY, CAPACITY, IN_SERVICE and the grains as training has found them. -/
theorem trainingDone_shape (s : State) (r : List TrainIn) (good : List Nat) (bad : List (Nat × Nat)) : ∃ density cap mem,
    s.trainingDone r good bad = State.regionSizes (State.each
      (State.goodsSet (State.wAll { s with mem := mem } ([(Reg.memDENSITY, density), (Reg.memCAPACITY, cap), (Reg.memIN_SERVICE, maskOf good)] ++
        (List.range 4).map fun i => (Reg.rgnGRAIN_ACTIVE i, s.r (Reg.rgnGRAIN i)))) r good) bad fun e x => x.subOut e.1 e.2) := by
  unfold State.trainingDone State.goodsSet
  exact ⟨_, _, _, rfl⟩

theorem found_r (s : State) (density cap mask : Nat) (grain : Nat → Nat) :
    let t := s.wAll ([(Reg.memDENSITY, density), (Reg.memCAPACITY, cap), (Reg.memIN_SERVICE, mask)] ++
      (List.range 4).map fun i => (Reg.rgnGRAIN_ACTIVE i, grain i))
    t.r Reg.memIN_SERVICE = mask ∧ t.r Reg.memRATE_ACTIVE = s.r Reg.memRATE_ACTIVE := by
  have happ (l1 l2 : List (Nat × Nat)) : s.wAll (l1 ++ l2) = (s.wAll l1).wAll l2 := List.foldl_append
  have hgrain (t : State) (k : Nat) (hk : k < 0x221000) :
      (t.wAll ((List.range 4).map fun i => (Reg.rgnGRAIN_ACTIVE i, grain i))).r k = t.r k := by
    refine State.wAll_r_ne _ _ _ fun e he => ?_
    obtain ⟨i, -, rfl⟩ := List.mem_map.1 he
    unfold Reg.rgnGRAIN_ACTIVE
    omega
  dsimp only
  rw [happ, hgrain _ _ (by decide), hgrain _ _ (by decide)]
  refine ⟨(State.w_r _ _ _ _).trans (if_pos rfl), State.wAll_r_ne _ _ _ ?_⟩
  simp only [List.forall_mem_cons, List.not_mem_nil, false_imp_iff, implies_true, and_true]
  exact ⟨(by decide : Reg.memDENSITY ≠ Reg.memRATE_ACTIVE), (by decide : Reg.memCAPACITY ≠ Reg.memRATE_ACTIVE),
    (by decide : Reg.memIN_SERVICE ≠ Reg.memRATE_ACTIVE)⟩

theorem trainingDone_spec (s : State) (r : List TrainIn) (good : List Nat) (bad : List (Nat × Nat)) (h : ∀ e ∈ bad, e.1 ∉ good) :
    (s.trainingDone r good bad).r Reg.memIN_SERVICE = maskOf good ∧ (s.trainingDone r good bad).r Reg.memRATE_ACTIVE = s.r Reg.memRATE_ACTIVE ∧
    ∀ d ∈ good, ((s.trainingDone r good bad).subCh d).eyes = fullEyes (r.getD d ⟨0, []⟩).sweeps := by
  obtain ⟨density, cap, mem, hshape⟩ := trainingDone_shape s r good bad
  obtain ⟨hfound, hrate⟩ := found_r { s with mem := mem } density cap (maskOf good) fun i => s.r (Reg.rgnGRAIN i)
  generalize State.wAll { s with mem := mem } _ = t at hshape hfound hrate
  obtain ⟨hset, hsetRate, heyes⟩ := goodsSet_spec t r good
  generalize t.goodsSet r good = u at *
  have hbad : ∀ e ∈ bad, u.rb Reg.memIN_SERVICE e.1 = false := fun e he => by
    rw [State.rb, hset, hfound, bit_maskOf]
    exact decide_eq_false (h e he)
  have hsame := (sameService_subsOut u bad hbad).trans (sameService_regionSizes _)
  rw [← hshape] at hsame
  refine ⟨hsame.service.trans (hset.trans hfound), hsame.rate.trans (hsetRate.trans hrate), fun d hd => ?_⟩
  rw [hsame.eyes d, heyes d, if_pos hd]

theorem goods_eq (s : State) (r : List TrainIn) :
    ((((r.zipIdx.filter fun e => e.1.density ≠ 0).filter fun e => e.1.density = firstDensity r).filter fun e => s.trainOk e.1).map (·.2)) =
      s.goods r := by
  unfold State.goods
  rw [← filter_zipIdx, List.filter_filter, List.filter_filter]
  congr 1
  refine List.filter_congr fun e _ => ?_
  simp only [State.goodIn, State.trainOk, Bool.decide_and]
  ac_rfl

/-- The wipe begins, at a rate. -/
def State.wipeFrom (s : State) (rate : Nat) : State :=
  State.wAll { s with boot := { s.boot with wipeAt := s.up } }
    [(Reg.memMEM_STATE, 2), (Reg.memRATE_ACTIVE, rate), (Reg.rstSTART_STEP, 5)]

/-- Training has ended at the rate being trained. -/
def State.trainedAt (s : State) (r : List TrainIn) : State :=
  (s.trainingDone r (s.goods r) (otherDensity r ++ s.failing r)).wipeFrom s.mem.trainRate

/-- Training has ended without DRAM. -/
def State.untrained (s : State) (r : List TrainIn) : State :=
  (s.trainingDone r [] (otherDensity r)).wAll [(Reg.memMEM_STATE, 0), (Reg.memFAIL_CAUSE, 1), (Reg.rstSTART_STEP, 5)]

theorem trained_eq (s : State) (r : List TrainIn) (h : s.r Reg.rstSTART_STEP = 4) : s.trained r =
    if 8 ≤ (s.goods r).length then s.trainedAt r
    else match lowerRate s.mem.trainRate with
      | some k => { s with mem := { s.mem with trainRate := k } }
      | none => s.untrained r := by
  unfold State.trained
  rw [if_neg (not_not.2 h)]
  extract_lets l d0 mine other good fail
  have hd0 : d0 = firstDensity r := by
    unfold d0
    cases r <;> rfl
  have hgood : good = s.goods r := by
    rw [← goods_eq, ← hd0]
  have hother : other = otherDensity r := by
    rw [otherDensity, ← hd0]
  have hfail : fail = s.failing r := by
    rw [State.failing, ← hd0]
  clear_value good other fail
  subst hgood hother hfail
  rfl

theorem trained_other (s : State) (r : List TrainIn) (h : s.r Reg.rstSTART_STEP ≠ 4) : s.trained r = s := if_pos h

theorem lowerRate_lt {rate k : Nat} (h : lowerRate rate = some k) : k < rate :=
  of_decide_eq_true (List.mem_filter.1 (List.mem_of_head? h)).2

theorem lowerRate_none {rate : Nat} (h : rate ≤ 4800) : lowerRate rate = none := by
  unfold lowerRate
  rw [List.head?_eq_none_iff, List.filter_eq_nil_iff]
  simp only [List.forall_mem_cons, List.not_mem_nil, false_imp_iff, implies_true, and_true, decide_eq_true_eq]
  omega

/-- Step 5 with a value of one other register. -/
theorem stepFive_r (s : State) (st k v : Nat) (h : k ≠ Reg.rstSTART_STEP ∧ k ≠ Reg.memMEM_STATE) :
    let t := s.wAll [(Reg.memMEM_STATE, st), (k, v), (Reg.rstSTART_STEP, 5)]
    t.r Reg.rstSTART_STEP = 5 ∧ t.r Reg.memMEM_STATE = st ∧ t.r k = v ∧
      ∀ j, j ≠ Reg.memMEM_STATE ∧ j ≠ k ∧ j ≠ Reg.rstSTART_STEP → t.r j = s.r j := by
  have hread (j : Nat) : (s.wAll [(Reg.memMEM_STATE, st), (k, v), (Reg.rstSTART_STEP, 5)]).r j =
      if j = Reg.rstSTART_STEP then 5 else if j = k then v else if j = Reg.memMEM_STATE then st else s.r j := by
    simp only [State.wAll, List.foldl_cons, List.foldl_nil, State.w_r]
  have hne : Reg.memMEM_STATE ≠ Reg.rstSTART_STEP := by decide
  refine ⟨?_, ?_, ?_, fun j hj => ?_⟩
  · rw [hread, if_pos rfl]
  · rw [hread, if_neg hne, if_neg h.2.symm, if_pos rfl]
  · rw [hread, if_neg h.1, if_pos rfl]
  · rw [hread, if_neg hj.2.2, if_neg hj.2.1, if_neg hj.1]

theorem wipeFrom_spec (s : State) (rate : Nat) : (s.wipeFrom rate).r Reg.rstSTART_STEP = 5 ∧ (s.wipeFrom rate).r Reg.memMEM_STATE = 2 ∧
    (s.wipeFrom rate).r Reg.memRATE_ACTIVE = rate ∧ (s.wipeFrom rate).r Reg.memIN_SERVICE = s.r Reg.memIN_SERVICE ∧
    ∀ d, (s.wipeFrom rate).subCh d = s.subCh d := by
  obtain ⟨u, hu⟩ : ∃ u : State, u = { s with boot := { s.boot with wipeAt := s.up } } := ⟨_, rfl⟩
  have hservice : u.r Reg.memIN_SERVICE = s.r Reg.memIN_SERVICE := by
    unfold State.r
    rw [hu]
  have hsub (d : Nat) : u.subCh d = s.subCh d := by rw [hu]; rfl
  unfold State.wipeFrom
  rw [← hu]
  obtain ⟨hstep, hstate, hrate, hother⟩ := stepFive_r u 2 Reg.memRATE_ACTIVE rate (by decide)
  refine ⟨hstep, hstate, hrate, (hother _ (by decide)).trans hservice, fun d => ?_⟩
  rw [State.subCh, State.wAll_eq]
  exact hsub d

theorem trainedAt_spec (s : State) (r : List TrainIn) : (s.trainedAt r).r Reg.rstSTART_STEP = 5 ∧ (s.trainedAt r).r Reg.memMEM_STATE = 2 ∧
    (s.trainedAt r).r Reg.memRATE_ACTIVE = s.mem.trainRate ∧
    (∀ d, (s.trainedAt r).rb Reg.memIN_SERVICE d = true ↔ d ∈ s.goods r) ∧
    ∀ d ∈ s.goods r, ((s.trainedAt r).subCh d).eyes = fullEyes ((r[d]?).map (·.sweeps) |>.getD []) := by
  have hbad : ∀ e ∈ otherDensity r ++ s.failing r, e.1 ∉ s.goods r := fun e he =>
    (List.mem_append.1 he).elim (otherDensity_not_good s r e) (failing_not_good s r e)
  obtain ⟨hservice, -, heyes⟩ := trainingDone_spec s r (s.goods r) _ hbad
  unfold State.trainedAt
  generalize s.trainingDone r (s.goods r) (otherDensity r ++ s.failing r) = t at *
  obtain ⟨hstep, hstate, hrate, hservice', hsub⟩ := wipeFrom_spec t s.mem.trainRate
  refine ⟨hstep, hstate, hrate, fun d => ?_, fun d hd => ?_⟩
  · rw [State.rb, hservice', hservice, bit_maskOf, decide_eq_true_eq]
  · obtain ⟨hlen, -⟩ := (mem_goods s r d).1 hd
    rw [hsub, heyes d hd]
    simp [hlen]

theorem untrained_spec (s : State) (r : List TrainIn) : (s.untrained r).r Reg.rstSTART_STEP = 5 ∧ (s.untrained r).r Reg.memMEM_STATE = 0 ∧
    (s.untrained r).r Reg.memFAIL_CAUSE = 1 ∧ (s.untrained r).r Reg.memIN_SERVICE = 0 ∧
    (s.untrained r).r Reg.memRATE_ACTIVE = s.r Reg.memRATE_ACTIVE := by
  obtain ⟨hservice, hrate, -⟩ := trainingDone_spec s r [] (otherDensity r) fun e _ => List.not_mem_nil
  unfold State.untrained
  generalize s.trainingDone r [] (otherDensity r) = t at *
  obtain ⟨hstep, hstate, hcause, hother⟩ := stepFive_r t 0 Reg.memFAIL_CAUSE 1 (by decide)
  exact ⟨hstep, hstate, hcause, (hother _ (by decide)).trans hservice, (hother _ (by decide)).trans hrate⟩

end Sys2Proof.Machine
end

section
/-! PROOFS. Start-up (O56): its clauses, one by one. -/

namespace Sys2Proof.Machine

theorem release_spec (s : State) (id : Fin 2) (rails : List Nat) (hr : s.boot.released = none) (hc : s.pwr.cutoff = false)
    (hs : s.since s.boot.supplyAt 2000000 = true) :
    let t := s.release id rails
    t.boot.released = some s.up ∧ t.boot.status = 1 ∧ t.r Reg.prPAIR_ID = id.val ∧ t.r Reg.thmDOMAINS_UP = 15 ∧ t.r Reg.nvmNVM_STATE = 0 ∧
      (BadRails rails → t.r Reg.rstSTART_STEP = 0) ∧ (¬ BadRails rails → StepOneDone s t) := by
  dsimp only
  rw [release_now s id rails hr hc hs]
  obtain ⟨hid, hdom, hnvm, hstep⟩ := releasing_r s id
  obtain ⟨hboot, hfac⟩ := releasing_parts s id
  generalize s.releasing id = u at *
  obtain ⟨hrel, hstatus⟩ := stepOne_boot u rails
  refine ⟨by rw [hrel, hboot], by rw [hstatus, hboot], (stepOne_r _ _ _ (by decide)).trans hid, (stepOne_r _ _ _ (by decide)).trans hdom,
    (stepOne_r _ _ _ (by decide)).trans hnvm, fun hbad => by rw [stepOne_bad _ _ hbad, hstep], fun hgood => ?_⟩
  have hdone := stepOne_good u rails hgood
  unfold StepOneDone at hdone
  rw [hfac] at hdone
  exact hdone

theorem recheck_now (s : State) (rails : List Nat) (hr : s.boot.released.isSome = true) (h0 : s.r Reg.rstSTART_STEP = 0) :
    s.recheck rails = s.stepOne rails := if_pos ⟨hr, h0⟩

theorem recheck_not (s : State) (rails : List Nat) (h : s.boot.released = none ∨ s.r Reg.rstSTART_STEP ≠ 0) : s.recheck rails = s := by
  refine if_neg fun hc => ?_
  rcases h with hr | h0
  · rw [hr] at hc
    exact absurd hc.1 (by decide)
  · exact h0 hc.2

theorem trained_enough (s : State) (r : List TrainIn) (h : s.r Reg.rstSTART_STEP = 4) (hg : 8 ≤ (s.goods r).length) :
    s.trained r = s.trainedAt r := by rw [trained_eq s r h, if_pos hg]

theorem trained_lower (s : State) (r : List TrainIn) (h : s.r Reg.rstSTART_STEP = 4) (hg : (s.goods r).length < 8) {k : Nat}
    (hk : lowerRate s.mem.trainRate = some k) : s.trained r = { s with mem := { s.mem with trainRate := k } } := by
  rw [trained_eq s r h, if_neg (by omega), hk]

theorem trained_none (s : State) (r : List TrainIn) (h : s.r Reg.rstSTART_STEP = 4) (hg : (s.goods r).length < 8)
    (hk : s.mem.trainRate ≤ 4800) : s.trained r = s.untrained r := by
  rw [trained_eq s r h, if_neg (by omega), lowerRate_none hk]

end Sys2Proof.Machine

open Sys2Proof Sys2Proof.Machine

/-- Settles O56, command by command; each goes by the step it finds and leaves the state as it is at any other. -/
theorem startUp : Obligations.StartUp := by
  intro dt rdid ok id rails r s
  have exRelease : exec (.resetRelease dt id rails) s = .next ((s.advance dt).release id rails) := rfl
  have exRecheck : exec (.supplyRecheck dt rails) s = .next ((s.advance dt).recheck rails) := rfl
  have exNvm : exec (.nvmRecoveryDone dt rdid ok) s = .next ((s.advance dt).bootRead rdid ok) := rfl
  have exFirmware : exec (.firmwareStart dt ok) s = .next ((s.advance dt).firmware ok) := rfl
  have exTraining : exec (.dramTrainingDone dt r) s = .next ((s.advance dt).trained r) := rfl
  have exWipe : exec (.dramWipeDone dt) s = .next (s.advance dt).wiped.bootSettle := rfl
  have exTime : exec (.startTimeWait dt) s = .next (s.advance dt).timeWait := rfl
  have exWait : exec (.startWaitExpired dt) s = .next (s.advance dt).waitOver.bootSettle := rfl
  dsimp only
  generalize s.advance dt = a at *
  refine ⟨fun hr hc hs => ⟨_, exRelease, release_spec a id rails hr hc hs⟩, fun h => ⟨_, exRelease, release_not a id rails h⟩,
    fun hr h0 => ⟨_, exRecheck, ?_⟩, fun h => ⟨_, exRecheck, recheck_not a rails h⟩, ?_, ?_, ?_, ?_, ?_, ?_⟩
  case refine_1 =>
    rw [recheck_now a rails hr h0]
    exact ⟨⟨fun hbad => by rw [stepOne_bad a rails hbad, h0], stepOne_good a rails⟩, stepOne_bad a rails⟩
  case refine_2 =>
    refine ⟨fun h => ⟨_, exNvm, bootRead_other a rdid ok h⟩, fun h => ⟨_, exNvm, ?_⟩⟩
    obtain ⟨⟨hstate, hepoch, hnext, hmode, hauth⟩, hid, hbad, hgood⟩ := bootRead_spec a rdid ok h
    exact ⟨hid, hstate, hepoch, hnext, hmode, hauth, hbad, hgood⟩
  case refine_3 =>
    refine ⟨fun h => ⟨_, exFirmware, firmware_other a ok h⟩, fun h3 h1 hf => ⟨_, exFirmware, ?_⟩, fun h3 h1 ht => ⟨_, exFirmware, ?_⟩⟩
    · rw [hf, firmware_bad a h3 h1]
    · rw [ht]
      exact firmware_good a h3 h1
  case refine_4 =>
    refine ⟨fun h => ⟨_, exTraining, trained_other a r h⟩, fun h4 _ => ⟨fun hg => ⟨_, exTraining, ?_⟩, fun hg =>
      ⟨fun k hk => ⟨_, exTraining, trained_lower a r h4 hg hk, lowerRate_lt hk⟩, fun hk => ⟨_, exTraining, ?_⟩⟩⟩⟩
    · obtain ⟨hstep, hstate, hrate, hservice, heyes⟩ := trainedAt_spec a r
      rw [trained_enough a r h4 hg]
      refine ⟨hstep, hstate, hrate, fun d _ => ⟨hservice d, fun hd => ⟨?_, heyes d hd⟩⟩⟩
      obtain ⟨hlen, hgood⟩ := (mem_goods a r d).1 hd
      obtain ⟨hne, hfirst, -⟩ := of_decide_eq_true hgood
      exact ⟨hlen, hne, hfirst⟩
    · rw [trained_none a r h4 hg hk]
      exact untrained_spec a r
  case refine_5 =>
    refine ⟨fun h => ⟨_, exWipe, wiped_other a h⟩, fun h => ⟨_, exWipe, ?_⟩⟩
    obtain ⟨⟨hstate, hstep, hat, hlife, hawaits, hlanes⟩, harrived⟩ := wiped_spec a h
    exact ⟨hstate, hstep, hat, hlife, hawaits, hlanes, harrived⟩
  case refine_6 => exact ⟨fun h => ⟨_, exTime, timeWait_boot a h⟩, fun h => ⟨_, exTime, timeWait_other a h⟩⟩
  case refine_7 => exact ⟨fun h => ⟨_, exWait, waitOver_other a h⟩, fun h hd => ⟨_, exWait, waitOver_spec a h hd⟩⟩

end

section
/-! PROOFS. Aux lanes (O38): a write and an action whose checks pass, and what each of the aux lanes' commands makes of the state (R384,
R385, R393, R394). -/

namespace Sys2Proof.Machine

/-! ## An accepted write -/

/-- Bookkeeping leaves the lanes and the aux ports. -/
theorem lanes_of_book {s t : State} (h : t.book = s.book) : t.lanes = s.lanes := by rw [book_eq h]

theorem auxs_of_book {s t : State} (h : t.book = s.book) : t.auxs = s.auxs := by rw [book_eq h]

theorem lane_of_lanes {s t : State} (h : t.lanes = s.lanes) (l : Nat) : t.lane l = s.lane l := by rw [State.lane, h]; rfl

/-- A command that writes an object off the A-die: where its checks pass, the value's effect is made on a state that holds the value, and
beside the bookkeeping the effect stands; the answer is OK (R435, R620). -/
theorem gives_writeBy {c : Instr} {s a : State} {o : Origin} {key v : Nat} {g : State → State} {P : State → Prop}
    (hexec : exec c s = .next (a.writeBy o key v true fun t => .inr (g t))) (hacc : a.accCheck o key (keySize key) v true = 0)
    (hkey : key < 0x500000)
    (hP : ∀ t u : State, t.book = (a.w key v).book → u.book = (g t).book → u.od.rsp = ⟨0, 0, []⟩ → P u) : Gives c s P := by
  have hbook : ((a.w key v).wrote o.src 1 key (keySize key) v).book = (a.w key v).book := by
    rw [book_wrote, State.toADie, State.when, if_neg (by simp; omega)]
  refine ⟨_, hexec, ?_⟩
  simp only [State.writeBy, hacc, ne_eq, not_true_eq_false, if_false]
  exact hP _ _ hbook ((book_answer _ _ _).trans (book_bpWrite _ _)) rfl

/-- A command that runs an action without a result object, off the A-die: where its checks pass, its token is answered, the action is made
on a state that acceptance has left as it was, and beside the bookkeeping what the action makes of it stands (R448, R451). -/
theorem gives_plainAction {c : Instr} {s a : State} {o : Origin} {key v : Nat} {g : State → State} {P : State → Prop}
    (hexec : exec c s = .next (a.actBy o key v fun t => (g t).actDone key 0 true))
    (hacc : a.accCheck o key (keySize key) v true = 0) (hkey : key < 0x500000) (hresult : resultOf key = none)
    (hod : ∀ t, (g t).od = t.od)
    (hP : ∀ t u : State, t.book = a.book → u.book = (g t).book → u.od.rsp = ⟨0, a.nextToken, []⟩ → P u) : Gives c s P := by
  refine gives_actBy hexec hacc (hP (a.actStart o.src key v (keySize key)) _ (actStart_book a o.src key v _ hkey) ?_ ?_)
  · unfold State.actDone
    dsimp only
    split
    · rw [book_tlyAdd, hresult]
      rfl
    · rfl
  · rw [actDone_rsp, hod]
    exact (actStart_spec a o.src key v _).1

/-! ## The lane of an aux port (R393) -/

theorem laneClass_aux (i : Fin 4) : laneClass (92 + i) = 4 := by unfold laneClass; split_ifs <;> omega

/-- Nobody but the host uses an aux lane: its state is all that changes. -/
theorem laneTo_aux (s : State) (i : Fin 4) (st : Nat) : s.laneTo (92 + i) st = s.w (Reg.laneLANE_STATE (92 + i)) st := by
  unfold State.laneTo State.laneGone
  rw [laneClass_aux]
  dsimp only
  split
  · rfl
  · rfl

/-- Bookkeeping leaves the objects of the lanes and of the aux ports. -/
theorem lane_r_of_book {s t : State} (h : t.book = s.book) {k : Nat} (hk : 0x230000 ≤ k ∧ k < 0x238000) : t.r k = s.r k :=
  book_r h k (decide_eq_false (by omega))

/-- No action of the lanes and of the aux ports has a result object (R450). -/
theorem resultOf_lane {k : Nat} (hk : 0x230000 ≤ k ∧ k < 0x238000) : resultOf k = none := by
  have hindex : 0x2300 ≤ k / 256 ∧ k / 256 < 0x2380 := by omega
  unfold resultOf
  dsimp only
  generalize k / 256 = idx at *
  rw [if_neg (by omega), if_neg (by omega), if_neg (by omega), if_neg (by omega), if_neg (by omega)]

/-- An aux lane that loses its power: three of its objects are at rest, and no other object changes. -/
theorem laneOff_aux (s : State) (i : Fin 4) (k : Nat) : (s.laneOff (92 + i)).r k =
    if k = Reg.laneLANE_STATE (92 + i) ∨ k = Reg.laneLULL (92 + i) ∨ k = Reg.laneRATE_ACTIVE (92 + i) then 0 else s.r k := by
  have hno : ¬ (92 + i.val < 32) := by omega
  unfold State.laneOff
  rw [laneTo_aux]
  simp only [State.when, decide_eq_true_eq, if_neg hno, State.wAll, List.foldl_cons, List.foldl_nil, State.w_r, State.wLane_r]
  split_ifs <;> simp_all

/-- An aux lane with a mode enters Stage A at AUX_RATE (R393). -/
theorem auxStart_aux (s : State) (i : Fin 4) (h : s.r (Reg.auxAUX_MODE i) ≠ 0) (k : Nat) : (s.auxStart (92 + i)).r k =
    if k = Reg.laneLANE_STATE (92 + i) then 1 else if k = Reg.laneRATE_ACTIVE (92 + i) then s.r (Reg.auxAUX_RATE i) else s.r k := by
  unfold State.auxStart
  rw [Nat.add_sub_cancel_left, if_neg h, laneTo_aux, State.w_r, State.w_r]
  rfl

/-- A write of AUX_MODE: the lane is off, and one with a mode starts afresh while its domain is up (R393). -/
theorem auxSet_spec (s : State) (i : Fin 4) (v : Nat) (hv : s.r (Reg.auxAUX_MODE i) = v) : let t := s.auxSet i v
    t.r (Reg.auxSLIP_POS i) = 0 ∧ t.r (Reg.auxAUX_MODE i) = v ∧ (v = 0 → t.laneState (92 + i) = 0) ∧
      (v ≠ 0 → s.domUp 4 = true → t.laneState (92 + i) = 1 ∧ t.r (Reg.laneRATE_ACTIVE (92 + i)) = s.r (Reg.auxAUX_RATE i)) := by
  obtain ⟨t, ht⟩ : ∃ t, t = (s.laneOff (92 + i)).w (Reg.auxSLIP_POS i) 0 := ⟨_, rfl⟩
  have htr (k : Nat) : t.r k = if k = Reg.auxSLIP_POS i then 0 else if k = Reg.laneLANE_STATE (92 + i) ∨ k = Reg.laneLULL (92 + i) ∨
      k = Reg.laneRATE_ACTIVE (92 + i) then 0 else s.r k := by rw [ht, State.w_r, laneOff_aux]
  have hslip : t.r (Reg.auxSLIP_POS i) = 0 := by rw [htr, if_pos rfl]
  have hstate : t.laneState (92 + i) = 0 := by simp [State.laneState, htr]
  have hother (k : Nat) (hk : k = Reg.auxAUX_MODE i ∨ k = Reg.auxAUX_RATE i ∨ k = Reg.thmDOMAINS_UP) : t.r k = s.r k := by
    simp only [Reg.auxAUX_MODE, Reg.auxAUX_RATE, Reg.thmDOMAINS_UP] at hk
    rw [htr, if_neg (by unfold Reg.auxSLIP_POS; omega),
      if_neg (by simp only [Reg.laneLANE_STATE, Reg.laneLULL, Reg.laneRATE_ACTIVE]; omega)]
  have hmode : t.r (Reg.auxAUX_MODE i) = v := (hother _ (.inl rfl)).trans hv
  have hdom : t.domUp 4 = s.domUp 4 := by rw [State.domUp, State.rb, hother _ (.inr (.inr rfl))]; rfl
  have hset : s.auxSet i v = if v ≠ 0 ∧ t.domUp 4 then t.auxStart (92 + i) else t := by rw [ht]; rfl
  dsimp only
  rw [hset, hdom]
  split
  · next hgo =>
    have hstart := auxStart_aux t i (by rw [hmode]; exact hgo.1)
    refine ⟨?_, ?_, fun h0 => absurd h0 hgo.1, fun _ _ => ⟨?_, ?_⟩⟩
    · rw [hstart, if_neg (by unfold Reg.auxSLIP_POS Reg.laneLANE_STATE; omega),
        if_neg (by unfold Reg.auxSLIP_POS Reg.laneRATE_ACTIVE; omega), hslip]
    · rw [hstart, if_neg (by unfold Reg.auxAUX_MODE Reg.laneLANE_STATE; omega),
        if_neg (by unfold Reg.auxAUX_MODE Reg.laneRATE_ACTIVE; omega), hmode]
    · rw [State.laneState, hstart, if_pos rfl]
    · rw [hstart, if_neg (by unfold Reg.laneRATE_ACTIVE Reg.laneLANE_STATE; omega), if_pos rfl, hother _ (.inr (.inl rfl))]
  · next hno => exact ⟨hslip, hmode, fun _ => hstate, fun h0 hup => absurd ⟨h0, hup⟩ hno⟩

theorem lullApply_r (s : State) (l k : Nat) : (s.lullApply l).r k = if k = Reg.laneLULL l then (s.lane l).lullWant else s.r k := by
  have hsend : (s.sendLull l).r k = s.r k := by rw [State.r, regs_sendLull, State.r]
  unfold State.lullApply
  dsimp only
  split
  · rw [State.w_r, hsend]
  · exact State.w_r _ _ _ _

theorem lullApply_lanes (s : State) (l : Nat) : (s.lullApply l).lanes = s.lanes := by
  unfold State.lullApply
  dsimp only
  split
  · rw [State.w_lanes, sendLull_eq]
  · rfl

/-- A requested Lull takes effect at once on an aux lane that is UP, and is noted in any case (R384). -/
theorem lullSet_spec (s : State) (i : Fin 4) (v : Nat) : let t := s.lullSet i v
    (t.lane (92 + i)).lullWant = v ∧ SameRegsBut s t [Reg.laneLULL (92 + i)] ∧
      (s.laneUp (92 + i) = true → t.r (Reg.laneLULL (92 + i)) = v) := by
  have hwant (u : State) (hu : u.lanes = (s.wLane (92 + i) { s.lane (92 + i) with lullWant := v }).lanes) :
      (u.lane (92 + i)).lullWant = v := by
    rw [lane_of_lanes hu, State.wLane_lane, if_pos rfl]
  have hup : (s.wLane (92 + i) { s.lane (92 + i) with lullWant := v }).laneUp (92 + i) = s.laneUp (92 + i) := rfl
  dsimp only
  unfold State.lullSet
  dsimp only
  rw [hup]
  split
  · next h =>
    refine ⟨hwant _ (lullApply_lanes _ _), fun k hk => ?_, fun _ => ?_⟩
    · rw [lullApply_r, if_neg (by simpa using hk)]
      rfl
    · rw [lullApply_r, if_pos rfl, State.wLane_lane, if_pos rfl]
  · next h => exact ⟨hwant _ rfl, fun k _ => rfl, fun hu => absurd hu h⟩

/-! ## A received word (R394) -/

/-- The counter of a condition, where the condition may fail. -/
theorem bumpIf_spec (s : State) (c : Prop) [Decidable c] (k : Nat) : let t := if c then s.bump k else s
    t.r k = (if c then min 0xFFFFFFFF (s.r k + 1) else s.r k) ∧ t.auxs = s.auxs ∧ SameRegsBut s t [k] := by
  dsimp only
  split
  · exact ⟨(State.bump_r _ _ _).trans (if_pos rfl), rfl, fun j hj => (State.bump_r _ _ _).trans (if_neg (by simpa using hj))⟩
  · exact ⟨rfl, rfl, fun _ _ => rfl⟩

/-- A word of a raw lane that is awake: where it matches, it counts; where the buffer is armed, it goes in. -/
theorem auxWord_raw (s : State) (i w : Nat) (hup : s.laneUp (92 + i) = true) (hmode : s.r (Reg.auxAUX_MODE i) = 2)
    (hlull : s.rb (Reg.laneLULL (92 + i)) 1 = false) : let n := s.r (Reg.auxAUX_WIDTH i); let t := s.auxWord i w
    t.r (Reg.auxMATCH_COUNT i) = (if ((w % 2 ^ n) ^^^ s.r (Reg.auxMATCH_WORD i)) &&& s.r (Reg.auxMATCH_MASK i) = 0 then
        min 0xFFFFFFFF (s.r (Reg.auxMATCH_COUNT i) + 1) else s.r (Reg.auxMATCH_COUNT i)) ∧
      ((tget {} s.auxs i : Aux).armed = true → (tget {} t.auxs i : Aux).captured =
        ((tget {} s.auxs i : Aux).captured ++ leBytes ((n + 7) / 8) (w % 2 ^ n)).take 8192) ∧
      ((tget {} s.auxs i : Aux).armed = false → t.auxs = s.auxs) ∧ SameRegsBut s t [Reg.auxMATCH_COUNT i] := by
  have hawake : ¬ (!s.laneUp (92 + i) ∨ s.r (Reg.auxAUX_MODE i) = 0 ∨ s.rb (Reg.laneLULL (92 + i)) 1) := by simp [hup, hmode, hlull]
  unfold State.auxWord
  dsimp only
  rw [if_neg hawake]
  simp only [hmode, if_true, decide_true, Bool.true_and, decide_eq_true_eq]
  obtain ⟨hcount, hauxs, hother⟩ := bumpIf_spec s ((w % 2 ^ s.r (Reg.auxAUX_WIDTH i) ^^^ s.r (Reg.auxMATCH_WORD i)) &&&
    s.r (Reg.auxMATCH_MASK i) = 0) (Reg.auxMATCH_COUNT i)
  generalize (if (w % 2 ^ s.r (Reg.auxAUX_WIDTH i) ^^^ s.r (Reg.auxMATCH_WORD i)) &&& s.r (Reg.auxMATCH_MASK i) = 0 then
    s.bump (Reg.auxMATCH_COUNT i) else s) = t at *
  rw [hauxs]
  split
  · next harm => exact ⟨hcount, fun _ => by simp, fun hno => by simp [harm] at hno, hother⟩
  · next harm => exact ⟨hcount, fun h => absurd h harm, fun _ => hauxs, hother⟩

end Sys2Proof.Machine

open Sys2Proof Sys2Proof.Machine

/-- Settles O38: each write and each action on the state that its acceptance leaves, and the received word by itself. -/
theorem auxLanes : Obligations.AuxLanes := by
  intro dt v i m o s
  dsimp only
  have exMode : exec (.auxMode dt i o v) s =
      .next ((s.advance dt).writeBy o (Reg.auxAUX_MODE i) v true fun t => .inr (t.auxSet i v)) := rfl
  have exMatch : exec (.matchWrite dt i o m v) s = .next ((s.advance dt).writeBy o
      (if m then Reg.auxMATCH_MASK i else Reg.auxMATCH_WORD i) v true fun t => .inr (t.w (Reg.auxMATCH_COUNT i) 0)) := rfl
  have exLull : exec (.lullReq dt i o v) s =
      .next ((s.advance dt).writeBy o (Reg.auxLULL_REQ i) v true fun t => .inr (t.lullSet i v)) := rfl
  have exSlip : exec (.bitSlip dt i o v) s = .next ((s.advance dt).actBy o (Reg.auxBIT_SLIP i) v fun t => t.bitSlip i) := rfl
  have exCapture : exec (.captureArm dt i o v) s = .next ((s.advance dt).actBy o (Reg.auxCAPTURE_ARM i) v fun t => t.captureArm i) := rfl
  have exWord : exec (.auxReceivedWord dt i v) s = .next ((s.advance dt).auxWord i v) := rfl
  generalize s.advance dt = a at *
  refine ⟨fun hacc => ?_, fun hacc => ?_, fun hacc => ?_, fun hacc hmode => ?_, fun hacc => ?_,
    fun hup hmode hlull => ⟨_, exWord, auxWord_raw a i v hup hmode hlull⟩⟩
  case refine_1 =>
    refine gives_writeBy exMode hacc (by unfold Reg.auxAUX_MODE; omega) fun t u ht hu hrsp => ?_
    have hmode : t.r (Reg.auxAUX_MODE i) = v := by
      rw [lane_r_of_book ht (by unfold Reg.auxAUX_MODE; omega), State.w_r, if_pos rfl]
    have hrate : t.r (Reg.auxAUX_RATE i) = a.r (Reg.auxAUX_RATE i) := by
      rw [lane_r_of_book ht (by unfold Reg.auxAUX_RATE; omega), State.w_r, if_neg (by unfold Reg.auxAUX_RATE Reg.auxAUX_MODE; omega)]
    have hdom : t.domUp 4 = a.domUp 4 := by
      rw [State.domUp, State.rb, book_r ht _ (by decide), State.w_r, if_neg (by unfold Reg.thmDOMAINS_UP Reg.auxAUX_MODE; omega)]
      rfl
    obtain ⟨hslip, hkept, hoff, hon⟩ := auxSet_spec t i v hmode
    have hstate : u.laneState (92 + i) = (t.auxSet i v).laneState (92 + i) := lane_r_of_book hu (by unfold Reg.laneLANE_STATE; omega)
    have hactive : u.r (Reg.laneRATE_ACTIVE (92 + i)) = (t.auxSet i v).r (Reg.laneRATE_ACTIVE (92 + i)) :=
      lane_r_of_book hu (by unfold Reg.laneRATE_ACTIVE; omega)
    refine ⟨⟨(lane_r_of_book hu (by unfold Reg.auxAUX_MODE; omega)).trans hkept, hrsp⟩,
      (lane_r_of_book hu (by unfold Reg.auxSLIP_POS; omega)).trans hslip, fun h0 => hstate.trans (hoff h0), fun h0 hup => ?_⟩
    obtain ⟨hst, hra⟩ := hon h0 (hdom.trans hup)
    exact ⟨hstate.trans hst, hactive.trans (hra.trans hrate)⟩
  case refine_2 =>
    have hkey : 0x230000 ≤ (if m then Reg.auxMATCH_MASK i else Reg.auxMATCH_WORD i) ∧
        (if m then Reg.auxMATCH_MASK i else Reg.auxMATCH_WORD i) < 0x238000 ∧
        (if m then Reg.auxMATCH_MASK i else Reg.auxMATCH_WORD i) ≠ Reg.auxMATCH_COUNT i := by
      unfold Reg.auxMATCH_MASK Reg.auxMATCH_WORD Reg.auxMATCH_COUNT
      split <;> omega
    generalize (if m then Reg.auxMATCH_MASK i else Reg.auxMATCH_WORD i) = key at *
    obtain ⟨hlo, hhi, hne⟩ := hkey
    refine gives_writeBy exMatch hacc (by omega) fun t u ht hu hrsp => ⟨⟨?_, hrsp⟩, ?_, ?_⟩
    · rw [lane_r_of_book hu ⟨hlo, hhi⟩, State.w_r, if_neg hne, lane_r_of_book ht ⟨hlo, hhi⟩, State.w_r, if_pos rfl]
    · rw [lane_r_of_book hu (by unfold Reg.auxMATCH_COUNT; omega), State.w_r, if_pos rfl]
    · rw [lanes_of_book hu, State.w_lanes, lanes_of_book ht, State.w_lanes]
  case refine_3 =>
    refine gives_writeBy exLull hacc (by unfold Reg.auxLULL_REQ; omega) fun t u ht hu hrsp => ?_
    obtain ⟨hwant, hother, hnow⟩ := lullSet_spec t i v
    have hreq : 0x230000 ≤ Reg.auxLULL_REQ i ∧ Reg.auxLULL_REQ i < 0x238000 := by unfold Reg.auxLULL_REQ; omega
    have hne : Reg.auxLULL_REQ i ∉ [Reg.laneLULL (92 + i)] := by simp [Reg.auxLULL_REQ, Reg.laneLULL]; omega
    have hup : t.laneUp (92 + i) = a.laneUp (92 + i) := by
      rw [State.laneUp, lane_r_of_book ht (by unfold Reg.laneLANE_STATE; omega), State.w_r,
        if_neg (by unfold Reg.laneLANE_STATE Reg.auxLULL_REQ; omega), State.laneUp]
    refine ⟨⟨?_, hrsp⟩, (congrArg Lane.lullWant (lane_of_lanes (lanes_of_book hu) _)).trans hwant,
      fun h => (lane_r_of_book hu (by unfold Reg.laneLULL; omega)).trans (hnow (hup.trans h))⟩
    rw [lane_r_of_book hu hreq, hother _ hne, lane_r_of_book ht hreq, State.w_r, if_pos rfl]
  case refine_4 =>
    refine gives_plainAction (g := fun t => if t.r (Reg.auxAUX_MODE i) = 2 then
        t.w (Reg.auxSLIP_POS i) ((t.r (Reg.auxSLIP_POS i) + 1) % t.r (Reg.auxAUX_WIDTH i)) else t) exSlip hacc
      (by unfold Reg.auxBIT_SLIP; omega) (resultOf_lane (by unfold Reg.auxBIT_SLIP; omega)) (fun t => by split <;> rfl)
      fun t u ht hu hrsp => ?_
    have hmodet : t.r (Reg.auxAUX_MODE i) = 2 := (lane_r_of_book ht (by unfold Reg.auxAUX_MODE; omega)).trans hmode
    rw [if_pos hmodet] at hu
    refine ⟨hrsp, ?_, (lanes_of_book hu).trans ((State.w_lanes _ _ _).trans (lanes_of_book ht))⟩
    rw [lane_r_of_book hu (by unfold Reg.auxSLIP_POS; omega), State.w_r, if_pos rfl,
      lane_r_of_book ht (by unfold Reg.auxSLIP_POS; omega), lane_r_of_book ht (by unfold Reg.auxAUX_WIDTH; omega)]
  case refine_5 =>
    refine gives_plainAction (g := fun t => { t with auxs := tset {} t.auxs i { armed := true } }) exCapture hacc
      (by unfold Reg.auxCAPTURE_ARM; omega) (resultOf_lane (by unfold Reg.auxCAPTURE_ARM; omega)) (fun _ => rfl)
      fun t u ht hu hrsp => ?_
    have hauxs : u.auxs = tset {} a.auxs i { armed := true } := by rw [auxs_of_book hu, ← auxs_of_book ht]
    exact ⟨hrsp, by rw [hauxs, tget_tset, if_pos rfl], fun j hj => by rw [hauxs, tget_tset, if_neg hj]⟩

end

section
/-! PROOFS. What follows a command (halts, stations, device state, start-up, what could be restored) leaves the objects of the ring, the
pair and the maps, Shepherd's own, and those of the lanes and the aux ports (O35-O37). -/

namespace Sys2Proof.Machine

/-! ## The objects that no follow-up writes -/

/-- The objects that what follows a command's own effect never writes: those of the ring, the pair and the maps, Shepherd's own, and
those of the lanes and the aux ports. -/
def quietKey (k : Nat) : Bool :=
  decide ((0x110000 ≤ k ∧ k < 0x120000) ∨ (0x210000 ≤ k ∧ k < 0x220000) ∨ (0x230000 ≤ k ∧ k < 0x238000))

/-- An object of another kind. -/
abbrev Loud (k : Nat) : Prop := k < 0x110000 ∨ (0x120000 ≤ k ∧ k < 0x210000) ∨ (0x220000 ≤ k ∧ k < 0x230000) ∨ 0x238000 ≤ k

theorem quietKey_false {k : Nat} (h : Loud k) : quietKey k = false := decide_eq_false (by unfold Loud at h; omega)

theorem quiet_of_book {s t : State} (h : t.book = s.book) : t.on quietKey = s.on quietKey :=
  on_of_book (fun k hk => decide_eq_false (by have := of_decide_eq_true hk; omega)) h

theorem quiet_w (s : State) (k v : Nat) (h : Loud k) : (s.w k v).on quietKey = s.on quietKey :=
  on_w _ _ _ (quietKey_false h)

theorem quiet_bump (s : State) (k : Nat) (h : Loud k) : (s.bump k).on quietKey = s.on quietKey := quiet_w _ _ _ h

theorem quiet_event (s : State) (code inst data : Nat) : (s.event code inst data).on quietKey = s.on quietKey :=
  quiet_of_book (book_event _ _ _ _)

theorem LinkOnly.quiet {h : Nat} {s t : State} (hl : LinkOnly h s t) : t.on quietKey = s.on quietKey := on_of_r fun k _ => hl.r k

theorem quiet_actDone (s : State) (key v : Nat) (ok : Bool) (h : Loud (key + 1)) :
    (s.actDone key v ok).on quietKey = s.on quietKey := by
  refine on_of_r fun k hk => ?_
  have hquiet := of_decide_eq_true hk
  refine actDone_r_ne _ _ _ _ _ (decide_eq_false (by omega)) fun hr => ?_
  rcases resultOf_some hr with rfl | rfl | rfl
  · omega
  · exact absurd hk (by decide)
  · exact absurd hk (by decide)

/-! ## Export, heads and runs -/

/-- Packets that start on free lanes change no object (R390). -/
theorem regs_xKick (s : State) : s.xKick.regs = s.regs := by
  have start (t : State) (g i : Nat) : (t.xStart g i).regs = t.regs := by
    unfold State.xStart
    dsimp only
    split
    · rfl
    · split <;> rfl
  have passes (n : Nat) (t : State) : (t.xPasses n).regs = t.regs := by
    induction n generalizing t with
    | zero => rfl
    | succ n ih =>
      unfold State.xPasses
      split
      · rfl
      · exact (ih _).trans (view_each State.regs _ _ _ fun g _ u => view_each State.regs _ _ _ fun i _ v => start v g i)
  exact passes 48 s

theorem quiet_xPut (s : State) (g : Nat) (l : List XPkt) : (s.xPut g l).on quietKey = s.on quietKey :=
  (on_of_regs (regs_xKick _)).trans (quiet_w (s.wXQueue g (s.xQueue g ++ l)) _ _ (by unfold Reg.grcBUF_PEAK; omega))

theorem quiet_xOffer (s : State) (x ty info : Nat) (words : List Nat) : (s.xOffer x ty info words).on quietKey = s.on quietKey := by
  have send (t : State) (g : Nat) : (t.xSend g x ty info words).on quietKey = t.on quietKey := by
    unfold State.xSend
    split
    · rfl
    · exact quiet_xPut _ _ _
  have stripe : (s.stripe x).on quietKey = s.on quietKey := by
    unfold State.stripe
    dsimp only
    split
    · rfl
    · exact quiet_xPut _ _ _
  unfold State.xOffer
  dsimp only
  split
  · exact (send _ _).trans stripe
  · exact (quiet_bump _ _ (by unfold Reg.grcDROPPED; omega)).trans stripe

theorem quiet_tagTimeout (s : State) (h tag : Nat) : (s.tagTimeout h tag).on quietKey = s.on quietKey :=
  (quiet_event _ _ _ _).trans (quiet_bump _ _ (by unfold Reg.pkTAG_TIMEOUT; omega))

theorem quiet_disarm (s : State) (h : Nat) : (s.disarm h).on quietKey = s.on quietKey := by
  unfold State.disarm
  split
  · exact (quiet_tagTimeout _ _ _).trans (quiet_w _ _ _ (by unfold Reg.hsARMED_TAG; omega))
  · rfl

theorem quiet_foldEnd (s : State) (h code state : Nat) : (s.foldEnd h code state).on quietKey = s.on quietKey := by
  unfold State.foldEnd
  split
  · rfl
  · extract_lets v s1 f p s2 s3
    have h1 : s1.on quietKey = s.on quietKey :=
      (quiet_w _ _ _ (by unfold Reg.hlFOLD_STATE; omega)).trans (quiet_w _ _ _ (by unfold Reg.hlLAST_FOLD_RESULT; omega))
    have h3 : s3.on quietKey = s2.on quietKey := on_when _ _ _ (quiet_actDone _ _ _ _ (by unfold Reg.hlFOLD_NOW; omega))
    exact (quiet_of_book (book_laneRecord _ _)).trans (h3.trans h1)

theorem quiet_lifeAdd (s : State) (h : Nat) (f : Life → Life) : (s.lifeAdd h f).on quietKey = s.on quietKey := by
  have publish (t : State) : (t.lifePublish h).on quietKey = t.on quietKey := by
    unfold State.lifePublish
    extract_lets x s1 used s2 old new s3 s4
    have hcnt : quietKey (Reg.hlSHUTTER_CNT h) = false := quietKey_false (by unfold Reg.hlSHUTTER_CNT; omega)
    have hwin : quietKey (Reg.hlWINDOW_EQ h) = false := quietKey_false (by unfold Reg.hlWINDOW_EQ; omega)
    have h1 : s1.on quietKey = t.on quietKey := on_wAll _ _ (by simp [hcnt, hwin])
    have h2 : s2.on quietKey = t.on quietKey := (quiet_w _ _ _ (by unfold Reg.hlLIFE_USED; omega)).trans h1
    have h3 : s3.on quietKey = s2.on quietKey := quiet_w _ _ _ (by unfold Reg.hlLIFE_STATE; omega)
    have h4 : s4.on quietKey = s3.on quietKey := on_when _ _ _ (quiet_event _ _ _ _)
    split
    · exact h2
    · exact (on_when _ _ _ (quiet_event _ _ _ _)).trans (h4.trans (h3.trans h2))
  unfold State.lifeAdd State.lifeShow
  dsimp only
  split
  · rfl
  · exact publish _

theorem quiet_lifeRun (s : State) (h : Nat) : (s.lifeRun h).on quietKey = s.on quietKey :=
  (linkOnly_lifeWrite _ h).quiet.trans (quiet_lifeAdd _ _ _)

theorem quiet_foldAbort (s : State) (h : Nat) : (s.foldAbort h).on quietKey = s.on quietKey := by
  unfold State.foldAbort
  split
  · rfl
  · extract_lets st s1 s3 s4
    have h1 : s1.on quietKey = s.on quietKey := by
      unfold s1
      split
      · rfl
      · split
        · exact quiet_disarm _ _
        · rfl
    exact (on_when _ _ _ (quiet_lifeRun _ _)).trans ((quiet_foldEnd _ _ _ _).trans h1)

/-! ## Halts, stations and zones -/

theorem quiet_haltSettle (s : State) : s.haltSettle.on quietKey = s.on quietKey := by
  have hpipes : Loud Reg.dbgHALTED_PIPES := by decide
  have hstations : Loud Reg.dbgHALTED_STATIONS := by decide
  unfold State.haltSettle
  refine (on_each _ _ _ fun st _ t => ?_).trans (on_each _ _ _ fun h _ t => ?_)
  · extract_lets want is_ m
    split
    · split
      · exact quiet_w _ _ _ hstations
      · rfl
    · split
      · exact quiet_w _ _ _ hstations
      · split <;> rfl
  · extract_lets want is_
    split
    · exact (quiet_w _ _ _ hpipes).trans (quiet_foldAbort _ _)
    · split
      · exact quiet_w _ _ _ hpipes
      · rfl

theorem quiet_emitLine (s : State) (st n : Nat) : (s.emitLine st n).on quietKey = s.on quietKey := by
  unfold State.emitLine
  extract_lets x b seq ws fl hdr s1 s2 s3
  have h2 : s2.on quietKey = s.on quietKey :=
    (on_when _ _ _ (quiet_bump _ _ (by unfold Reg.scLINES_INCOMPLETE; omega))).trans <|
      (quiet_w _ _ _ (by unfold Reg.sstNEXT_LINE; omega)).trans (quiet_w s1 _ _ (by unfold Reg.sstWL_SEQ; omega))
  have h3 : s3.on quietKey = s2.on quietKey := on_each _ _ _ fun y _ t => quiet_xOffer _ _ _ _ _
  have h4 : (s3.zoneAdd st seq fl ws).on quietKey = s3.on quietKey := by
    unfold State.zoneAdd
    exact on_each _ _ _ fun z _ t => rfl
  exact h4.trans (h3.trans h2)

theorem quiet_stStop (s : State) (st : Nat) : (s.stStop st).on quietKey = s.on quietKey := rfl

theorem quiet_emitLines (s : State) (st n k : Nat) : (s.emitLines st n k).on quietKey = s.on quietKey := by
  induction k generalizing s n with
  | zero => rfl
  | succ k ih =>
    unfold State.emitLines
    extract_lets t
    have ht : t.on quietKey = s.on quietKey := quiet_emitLine s st n
    split
    · exact (quiet_stStop t st).trans ht
    · exact (ih t _).trans ht

theorem quiet_formBand (s : State) (st n0 : Nat) : (s.formBand st n0).on quietKey = s.on quietKey := by
  unfold State.formBand
  exact (quiet_w _ _ _ (by unfold Reg.scBAND_OVERFLOW; omega)).trans <|
    (quiet_w _ _ _ (by unfold Reg.scLATE_SAMPLE; omega)).trans (quiet_w _ _ _ (by unfold Reg.sstNEXT_LINE; omega))

theorem quiet_stSettle (s : State) (st : Nat) : (s.stSettle st).on quietKey = s.on quietKey := by
  unfold State.stSettle
  split
  · rfl
  · extract_lets s0
    have h0 : s0.on quietKey = s.on quietKey := on_each _ _ _ fun j _ t => on_when _ _ _ rfl
    split
    · exact h0
    · split
      · exact h0
      · extract_lets q s1
        have h1 : s1.on quietKey = s0.on quietKey := by
          unfold s1
          split
          · rfl
          · exact quiet_formBand _ _ _
        exact (quiet_emitLines _ _ _ _).trans (h1.trans h0)

theorem quiet_settle (s : State) : s.settle.on quietKey = s.on quietKey :=
  (on_each _ _ _ fun st _ t => quiet_stSettle t st).trans (quiet_haltSettle s)

theorem quiet_zonesEnd (s : State) : s.zonesEnd.on quietKey = s.on quietKey := by
  refine on_each _ _ _ fun z _ t => on_wAll (t.wZone z _) _ fun e he => ?_
  simp only [List.mem_cons, List.not_mem_nil, or_false] at he
  rcases he with rfl | rfl | rfl | rfl | rfl <;> refine quietKey_false ?_ <;>
    simp only [Reg.zsZONE_STATE, Reg.zsSAFE_CAUSE, Reg.zsDEMAND, Reg.zsINTEGRAL, Reg.zsZONE_FLAGS] <;> omega

theorem quiet_stationEnters (s : State) (st : Nat) : (s.stationEnters st).on quietKey = s.on quietKey := by
  refine on_each _ _ _ fun z _ t => ?_
  unfold State.zoneConfig
  dsimp only
  split <;> exact quiet_w _ _ _ (by unfold Reg.zsDELAY_DIST; omega)

/-! ## Device state and start-up -/

theorem quiet_retrainAsk (s : State) (d : Nat) (hd : d < 16) : (s.retrainAsk d).on quietKey = s.on quietKey := by
  have next (t : State) : t.retrainNext.on quietKey = t.on quietKey := by
    unfold State.retrainNext
    split
    · rfl
    · split
      · next j hj =>
        have hj16 := List.mem_range.1 (List.mem_of_find?_eq_some hj)
        dsimp only
        split
        · rfl
        · exact quiet_w _ _ _ (by unfold Reg.subSUB_STATE; omega)
      · rfl
  unfold State.retrainAsk
  split
  · rfl
  · exact (next _).trans (quiet_w _ _ _ (by unfold Reg.subSUB_STATE; omega))

theorem quiet_memWake (s : State) : s.memWake.on quietKey = s.on quietKey := by
  have start (t : State) : t.memStart.on quietKey = t.on quietKey := by
    unfold State.memStart
    refine Eq.trans (on_each _ _ _ fun d _ u => ?_) ?_
    · exact on_of_regs rfl
    exact (on_of_regs (s := t.w Reg.memMEM_STATE 3) rfl).trans (quiet_w t _ _ (by decide))
  unfold State.memWake
  split
  · exact (on_each _ _ _ fun d hd t => quiet_retrainAsk t d (List.mem_range.1 hd)).trans (start s)
  · rfl

theorem quiet_sendSettings (s : State) (h : Nat) (p : PSet) : (s.sendSettings h p).on quietKey = s.on quietKey := by
  unfold State.sendSettings
  split
  · rfl
  · split
    · rfl
    · exact (linkOnly_headSend _ _ _ _).quiet

theorem quiet_armSet (s : State) (h : Nat) (p : PSet) : (s.armSet h p).on quietKey = s.on quietKey := by
  unfold State.armSet
  extract_lets s1 x s2 y s3 s4
  have h1 : s1.on quietKey = s.on quietKey := by
    unfold s1
    split
    · exact (quiet_tagTimeout _ _ _).trans (on_when _ _ _ rfl)
    · rfl
  have h2 : s2.on quietKey = s1.on quietKey := quiet_w _ _ _ (by unfold Reg.hsARMED_TAG; omega)
  have h4 : s4.on quietKey = s.on quietKey := (quiet_sendSettings _ _ _).trans (h2.trans h1)
  split
  · exact (on_of_regs (regs_toPartner _ _)).trans h4
  · exact h4

theorem quiet_takeAttachSet (s : State) (h : Nat) : (s.takeAttachSet h).on quietKey = s.on quietKey := by
  refine on_wAll _ _ fun e he => ?_
  simp only [List.mem_cons, List.not_mem_nil, or_false] at he
  rcases he with rfl | rfl | rfl <;> refine quietKey_false ?_ <;>
    simp only [Reg.hsCURRENT_TAG, Reg.hsARMED_TAG, Reg.pkBOUND_SLOTS] <;> omega

theorem quiet_attachNine (s : State) (h : Nat) : (s.attachNine h).on quietKey = s.on quietKey := by
  unfold State.attachNine
  extract_lets x s1 s2
  have h1 : s1.on quietKey = s.on quietKey := (linkOnly_headCmd _ _ _ _).quiet
  have h2 : s2.on quietKey = s1.on quietKey := by
    unfold s2
    split
    · split
      · split
        · rfl
        · exact quiet_armSet _ _ _
      · rfl
    · split
      · exact on_when _ _ _ (quiet_takeAttachSet _ _)
      · exact (quiet_sendSettings _ _ _).trans (quiet_takeAttachSet _ _)
  split
  · exact h2.trans h1
  · exact (linkOnly_headCmd _ _ _ _).quiet.trans (h2.trans h1)

theorem quiet_nineGo (s : State) : s.nineGo.on quietKey = s.on quietKey := by
  unfold State.nineGo
  split
  · exact on_each _ _ _ fun h _ t => on_when _ _ _ (quiet_attachNine _ _)
  · rfl

theorem quiet_arrive (s : State) : s.arrive.on quietKey = s.on quietKey := quiet_actDone _ _ _ _ (by decide)

theorem quiet_enterRun (s : State) : s.enterRun.on quietKey = s.on quietKey :=
  (on_each _ _ _ fun st _ t => quiet_stationEnters (t.stStart st) st).trans <|
    (quiet_zonesEnd _).trans (quiet_w _ _ _ (by decide))

theorem quiet_stateSettle (s : State) : s.stateSettle.on quietKey = s.on quietKey := by
  have h0 : s.memWake.nineGo.on quietKey = s.on quietKey := (quiet_nineGo _).trans (quiet_memWake _)
  unfold State.stateSettle
  extract_lets t
  split
  · exact h0
  · extract_lets t1 d
    have h1 : t1.on quietKey = t.on quietKey := by
      unfold t1
      split
      · exact quiet_w _ _ _ (by decide)
      · rfl
    split
    · exact (quiet_arrive _).trans (h1.trans h0)
    · split
      · exact (quiet_arrive _).trans ((quiet_enterRun _).trans (h1.trans h0))
      · split
        · exact (quiet_arrive _).trans (h1.trans h0)
        · exact h1.trans h0

theorem quiet_wake (s : State) (t : Nat) : (s.wake t).on quietKey = s.on quietKey := by
  unfold State.wake
  rw [quiet_stateSettle]
  exact on_of_regs rfl

theorem quiet_startRun (s : State) : s.startRun.on quietKey = s.on quietKey := by
  unfold State.startRun
  rw [quiet_stateSettle]
  exact on_of_regs rfl

theorem quiet_started (s : State) : s.started.on quietKey = s.on quietKey := by
  unfold State.started
  extract_lets ms b s1 s2
  have h2 : s2.on quietKey = s.on quietKey := (quiet_event _ _ _ _).trans (quiet_w _ Reg.rstSTART_TIME ms (by decide))
  split
  · exact (quiet_event _ _ _ _).trans h2
  · exact h2

theorem quiet_startReady (s : State) : s.startReady.on quietKey = s.on quietKey := by
  unfold State.startReady
  extract_lets b s1
  have h1 : s1.on quietKey = s.on quietKey := quiet_w _ Reg.rstSTART_STEP 10 (by decide)
  split
  · exact (quiet_started _).trans h1
  · exact h1

theorem quiet_bootSettle (s : State) : s.bootSettle.on quietKey = s.on quietKey := by
  have hstep : Loud Reg.rstSTART_STEP := by decide
  unfold State.bootSettle
  extract_lets t w a b c
  have h0 : t.on quietKey = s.on quietKey := quiet_stateSettle s
  split
  · exact h0
  · have ha : a.on quietKey = t.on quietKey := by
      unfold a
      split
      · split
        · exact (quiet_wake _ _).trans (quiet_w t _ _ hstep)
        · exact quiet_w t _ _ hstep
      · rfl
    have hb : b.on quietKey = a.on quietKey := by
      unfold b
      split
      · exact quiet_startReady _
      · rfl
    have hc : c.on quietKey = b.on quietKey := by
      unfold c
      split
      · exact quiet_startRun _
      · rfl
    have h1 := hc.trans (hb.trans (ha.trans h0))
    split
    · exact (quiet_started _).trans ((quiet_w c _ _ hstep).trans h1)
    · exact h1

theorem quiet_watchStep (s : State) : s.watchStep.on quietKey = s.on quietKey := by
  have begin_ (i : Nat) : (s.watchBegin i).on quietKey = s.on quietKey := by
    unfold State.watchBegin
    dsimp only
    split
    · rfl
    · split
      · rfl
      · exact on_of_regs (regs_toPartner _ _)
  unfold State.watchStep
  split
  · split <;> rfl
  · split
    · rfl
    · split
      · split
        · rfl
        · exact begin_ _
      · exact begin_ _

/-- What follows a command leaves the quiet objects. -/
theorem done_r_quiet (s : State) {k : Nat} (hk : quietKey k = true) : s.done.r k = s.r k :=
  on_r ((quiet_watchStep _).trans ((quiet_bootSettle _).trans (quiet_settle s))) k hk

/-- What follows a command leaves every lane in its state. -/
theorem laneState_done (s : State) (l : Fin 96) : s.done.laneState l = s.laneState l :=
  done_r_quiet s (decide_eq_true (by unfold Reg.laneLANE_STATE; omega))

end Sys2Proof.Machine
end

section
/-! PROOFS. Bring-up, equalisation and return of lanes (O35-O37): the state on which a head lane does not come UP (R65, R126, R372, R376,
R381). -/

namespace Sys2Proof.Machine

/-! ## The state on which O35, O36 and O37 fail -/

/-- The results of a window name objects of the statistics, and no lane's state (R125). -/
theorem laneState_not_in_results (w : StatWin) (h cause : Nat) (l : Fin 96) : ∀ e ∈ w.results h cause, e.1 ≠ Reg.laneLANE_STATE l := by
  simp only [StatWin.results, List.forall_mem_cons, List.not_mem_nil, false_imp_iff, implies_true, and_true, Reg.pstSTAT_TAG,
    Reg.pstSTAT_CAUSE, Reg.pstFIRST_FRAME, Reg.pstFRAMES_USED, Reg.pstT_START, Reg.pstT_END, Reg.pstMEAN_T, Reg.pstMIN_T, Reg.pstMAX_T,
    Reg.pstSTD_T, Reg.pstSAMPLES, Reg.pstREPLACED, Reg.pstSATURATED, Reg.pstUNREPLACEABLE, Reg.laneLANE_STATE]
  and_intros <;> omega

/-- Head lane 0 is in state st of its bring-up or return with the words of each stage exchanged; its head still counts as streaming with
a statistics window open, and a result that names LANE_STATE waits to be published. The type of `Pipe.statWait` admits such a result,
though the model forms none (`laneState_not_in_results`). -/
def strayLane (st : Nat) : State :=
  { State.reset.wAll [(Reg.hdATTACH_STATE 0, atSTREAMING), (Reg.laneLANE_STATE 0, st), (Reg.laneRATE_ACTIVE 0, 1)] with
    lanes := [(0, { acks := 2, caps := 3, gos := 3, doneSent := true })]
    pipes := [(0, { stat := some ⟨0, 0, 0, 0, 0, 0, 0, 0, 0, 0, 0, 0, 0⟩, statWait := [[(Reg.laneLANE_STATE 0, 9)]] })] }

/-- A training word of a type with empty fields and the right check. -/
def emptyWord (ty : Nat) : TrainWord := ⟨ty, 0, 0, 0, 0, wordCrc ⟨ty, 0, 0, 0, 0, 0⟩⟩

/-! The lane comes UP, and the attach that begins with that ends the head's streaming: the window's close publishes the waiting result
with its own (R65, R126). -/

theorem strayLane_capAck : (((strayLane 2).advance 0).capAckIn 0 (emptyWord 0x02)).laneState 0 = 9 := by decide +kernel

theorem strayLane_eqDone : (((strayLane 3).advance 0).eqDoneIn 0 (emptyWord 0x12)).laneState 0 = 9 := by decide +kernel

theorem strayLane_cdrLock : (((strayLane 5).advance 0).cdrLock 0).laneState 0 = 9 := by decide +kernel

theorem quiet_dropWriteBack (s : State) (h : Nat) : (s.dropWriteBack h).on quietKey = s.on quietKey ∧
    (s.dropWriteBack h).attach h = s.attach h := by
  unfold State.dropWriteBack
  split
  · exact ⟨quiet_w (s.wHd h _) _ _ (by unfold Reg.hlWRITEBACK_STATE; omega),
      (State.w_r _ _ _ _).trans (if_neg (by unfold Reg.hdATTACH_STATE Reg.hlWRITEBACK_STATE; omega))⟩
  · exact ⟨rfl, rfl⟩

/-- A head that does not stream closes no window where its attach begins, and so no object of the lanes is written (R65). -/
theorem quiet_startAttach (s : State) (h : Nat) (ha : s.attach h ≠ atSTREAMING) : (s.startAttach h).on quietKey = s.on quietKey := by
  have hcmd (t : State) (code : Nat) (args : Bytes) : (t.headCmd h code args).on quietKey = t.on quietKey :=
    (linkOnly_headCmd _ _ _ _).quiet
  have hset (t : State) (y : Head) : ((t.wHd h y).wAll [(Reg.hdREFUSE_CAUSE h, 0), (Reg.hdTIME_RESID h, 0)]).on quietKey =
      t.on quietKey := by
    have hcause : quietKey (Reg.hdREFUSE_CAUSE h) = false := quietKey_false (by unfold Reg.hdREFUSE_CAUSE; omega)
    have hresid : quietKey (Reg.hdTIME_RESID h) = false := quietKey_false (by unfold Reg.hdTIME_RESID; omega)
    exact on_wAll (t.wHd h y) _ (by simp [hcause, hresid])
  obtain ⟨hdrop, hattach⟩ := quiet_dropWriteBack s h
  have hleave (x : Head) : (((s.dropWriteBack h).wHd h x).leaveStreaming h atATTACHING).on quietKey = s.on quietKey := by
    have hno : ((s.dropWriteBack h).wHd h x).attach h ≠ atSTREAMING := fun he => ha (hattach.symm.trans he)
    rw [State.leaveStreaming, if_neg hno]
    exact (quiet_w ((s.dropWriteBack h).wHd h x) _ _ (by unfold Reg.hdATTACH_STATE; omega)).trans hdrop
  exact (hcmd _ _ _).trans ((hcmd _ _ _).trans ((hset _ _).trans (hleave _)))

theorem quiet_laneTrained (s : State) (h : Nat) (ha : s.attach h ≠ atSTREAMING) : (s.laneTrained h).on quietKey = s.on quietKey :=
  quiet_startAttach _ h (show s.attach h ≠ atSTREAMING from ha)

/-- A head lane whose head does not stream does come UP: the waiting result is all that stands against the clauses refuted below. -/
theorem laneReady_head_up (s : State) (l : Nat) (hl : l < 32) (ha : s.attach l ≠ atSTREAMING) : (s.laneReady l).laneUp l = true := by
  have hclass : laneClass l = 0 := if_pos hl
  have hto (x : Lane) : (s.wLane l x).laneTo l 4 = (s.wLane l x).w (Reg.laneLANE_STATE l) 4 := by simp [State.laneTo, hclass]
  have hattach (x : Lane) : ((s.wLane l x).w (Reg.laneLANE_STATE l) 4).attach l ≠ atSTREAMING := by
    rw [State.attach, State.w_r, if_neg (by unfold Reg.hdATTACH_STATE Reg.laneLANE_STATE; omega)]
    exact ha
  have hup (x : Lane) : (((s.wLane l x).w (Reg.laneLANE_STATE l) 4).laneTrained l).laneUp l = true := by
    rw [State.laneUp, on_r (quiet_laneTrained _ l (hattach x)) _ (decide_eq_true (by unfold Reg.laneLANE_STATE; omega)), State.w_r,
      if_pos rfl]
    rfl
  unfold State.laneReady
  dsimp only
  rw [hclass, hto]
  exact hup _

/-- Where a command's own effect leaves a lane down, it stays down: what follows brings no lane UP. -/
theorem not_givesDone_of_down {c : Instr} {s t : State} {l : Fin 96} {P : State → Prop} (hexec : exec c s = .next t.done)
    (hdown : t.laneState l ≠ 4) (hP : ∀ u, P u → u.laneUp l = true) : ¬ GivesDone c s P := by
  rintro ⟨u, hu, hPu⟩
  have hdone : t.done = u.done := Host.Outcome.next.inj (hexec.symm.trans hu)
  have hsame : t.laneState l = u.laneState l := by rw [← laneState_done t l, hdone, laneState_done u l]
  exact hdown (hsame.trans (of_decide_eq_true (hP u hPu)))

end Sys2Proof.Machine

open Sys2Proof Sys2Proof.Machine

/-- Refutes O35 at `strayLane 2`: the clause on the third CAP_ACK has no premise on the statistics results that wait to be published, and
one that names LANE_STATE overwrites the UP of a head lane whose attach closes the window. -/
theorem not_laneBringUp : ¬ Obligations.LaneBringUp := by
  intro hall
  obtain ⟨-, -, -, -, hCapAck, -⟩ := hall 0 0 (emptyWord 0x02) false false (strayLane 2)
  obtain ⟨-, hThird⟩ := hCapAck (by decide +kernel) (by decide +kernel)
  obtain ⟨-, hUp⟩ := hThird (by decide +kernel) (by decide +kernel)
  exact not_givesDone_of_down (t := ((strayLane 2).advance 0).capAckIn 0 (emptyWord 0x02)) (l := 0) rfl
    (by rw [Fin.val_zero, strayLane_capAck]; decide) (fun u hu => hu.1) (hUp (by decide +kernel) (by decide))

/-- Refutes O36 at `strayLane 3`: so does the clause on EQ_DONE that ends the last step. -/
theorem not_laneEqualises : ¬ Obligations.LaneEqualises := by
  intro hall
  obtain ⟨-, -, -, -, hEqDone⟩ := hall 0 0 0 0 (emptyWord 0x12) (strayLane 3) (by decide +kernel)
  obtain ⟨-, hUp, -⟩ := hEqDone (by decide +kernel) (by decide +kernel)
  exact not_givesDone_of_down (t := ((strayLane 3).advance 0).eqDoneIn 0 (emptyWord 0x12)) (l := 0) rfl
    (by rw [Fin.val_zero, strayLane_eqDone]; decide) (fun u hu => hu) (hUp (.inr (by decide +kernel)) (by decide) (by decide +kernel))

/-- Refutes O37 at `strayLane 5`: so does the clause on a lock that ends the relocking. -/
theorem not_laneLossAndReturn : ¬ Obligations.LaneLossAndReturn := by
  intro hall
  obtain ⟨-, -, hRelock, -⟩ := hall 0 0 0 0 0 (emptyWord 0x30) ⟨0, 0⟩ (strayLane 5)
  obtain ⟨hUp, -⟩ := hRelock (by decide +kernel) (by decide +kernel)
  exact not_givesDone_of_down (t := ((strayLane 5).advance 0).cdrLock 0) (l := 0) rfl
    (by rw [Fin.val_zero, strayLane_cdrLock]; decide) (fun u hu => hu.1) (hUp (by decide))

end

section
/-! PROOFS. Every step answers a next state and keeps the stores canonical (O1-O5, O7): the lemmas of Laws/Kept*.lean, command by
command. -/

namespace Sys2Proof.Machine

/-- No command ends in a fault or a refusal. -/
theorem exec_next (c : Instr) (s : State) : ∃ t, exec c s = .next t := by
  cases c <;> exact ⟨_, rfl⟩

/-- A command outside `Instr.storage` leaves the queue and every byte store as they are. -/
theorem exec_kept (c : Instr) (s : State) (hc : c.storage = false) : OutKept (exec c s) s.kept := by
  cases c
  case tickStart => exact execTickStart_kept _ _ _
  case d2dHeartbeatTx => exact execD2dHeartbeatTx_kept _ _
  case d2dLoss => exact execD2dLoss_kept _ _
  case d2dRecovered => exact execD2dRecovered_kept _ _
  case stopNLow => exact execStopNLow_kept _ _ _
  case stopNRelease => exact execStopNRelease_kept _ _
  case vgateLow => exact execVgateLow_kept _ _ _
  case floatingSupplyLow => exact execFloatingSupplyLow_kept _ _ _ _ _ _
  case commit => exact execCommit_kept _ _ _ _ _
  case sof => exact execSof_kept _ _ _ _
  case line => exact execLine_kept _ _ _ _
  case eof => exact execEof_kept _ _ _ _
  case frameTimeout => exact execFrameTimeout_kept _ _ _
  case frameLate => exact execFrameLate_kept _ _ _
  case reply => exact execReply_kept _ _ _ _
  case tableData => exact execTableData_kept _ _ _ _
  case headEvent => exact execHeadEvent_kept _ _ _ _
  case timeProbe => exact execTimeProbe_kept _ _ _
  case cmdTimeout => exact execCmdTimeout_kept _ _ _
  case busyRetry => exact execBusyRetry_kept _ _ _
  case authRetry => exact execAuthRetry_kept _ _ _
  case attachRetry => exact execAttachRetry_kept _ _ _
  case streamMinute => exact execStreamMinute_kept _ _ _
  case lifeWriteDue => exact execLifeWriteDue_kept _ _ _
  case writebackPacket => exact execWritebackPacket_kept _ _ _
  case rebind => exact execRebind_kept _ _ _ _ _
  case coefFetchDone => exact execCoefFetchDone_kept _ _ _ _
  case persistClear => exact execPersistClear_kept _ _ _ _ _
  case tauCommit => exact execTauCommit_kept _ _ _ _ _
  case tableBlockWrite => exact execTableBlockWrite_kept _ _ _ _ _ _
  case driftConfUpdate => exact execDriftConfUpdate_kept _ _ _
  case foldTrigger => exact execFoldTrigger_kept _ _ _
  case foldNow => exact execFoldNow_kept _ _ _ _ _
  case foldClosingLimit => exact execFoldClosingLimit_kept _ _ _
  case foldCheckDone => exact execFoldCheckDone_kept _ _ _
  case shutterOpenRetry => exact execShutterOpenRetry_kept _ _ _
  case encEdge => exact execEncEdge_kept _ _ _ _ _
  case encLatch => exact execEncLatch_kept _ _
  case encCoarseCopy => exact execEncCoarseCopy_kept _ _
  case speed => exact execSpeed_kept _ _
  case coverage => exact execCoverage_kept _ _ _
  case headAbsent => exact execHeadAbsent_kept _ _ _ _
  case stationRun => exact execStationRun_kept _ _ _ _ _
  case slotHead => exact execSlotHead_kept _ _ _ _ _ _
  case slotMap => exact execSlotMap_kept _ _ _ _ _ _ _
  case covEnable => exact execCovEnable_kept _ _ _ _
  case zoneRun => exact execZoneRun_kept _ _ _ _ _
  case demands => exact execDemands_kept _ _ _ _ _
  case arm => exact execArm_kept _ _ _ _
  case disarm => exact execDisarm_kept _ _ _ _
  case testPulse => exact execTestPulse_kept _ _ _ _ _
  case requestEligible => exact execRequestEligible_kept _ _ _ _
  case requestDeadline => exact execRequestDeadline_kept _ _ _
  case boostEnd => exact execBoostEnd_kept _ _ _ _
  case fallEnd => exact execFallEnd_kept _ _ _ _
  case peakEnd => exact execPeakEnd_kept _ _ _ _
  case phDropEnd => exact execPhDropEnd_kept _ _ _ _
  case chopThreshold => exact execChopThreshold_kept _ _ _ _
  case durationEnd => exact execDurationEnd_kept _ _ _ _
  case tSlowEnd => exact execTSlowEnd_kept _ _ _
  case decayEnd => exact execDecayEnd_kept _ _ _ _ _
  case decayLong => exact execDecayLong_kept _ _ _
  case bankFree => exact execBankFree_kept _ _ _ _
  case railSample => exact execRailSample_kept _ _ _ _ _
  case pwmPeriod => exact execPwmPeriod_kept _ _ _ _
  case overcurrent => exact execOvercurrent_kept _ _ _ _ _
  case openCheck => exact execOpenCheck_kept _ _ _ _
  case offTestRound => exact execOffTestRound_kept _ _ _
  case railOffTestSample => exact execRailOffTestSample_kept _ _ _ _ _
  case railOnTestSample => exact execRailOnTestSample_kept _ _ _ _ _
  case diagClear => exact execDiagClear_kept _ _ _ _ _
  case bankDiagClear => exact execBankDiagClear_kept _ _ _ _ _
  case cdWindowOpen => exact execCdWindowOpen_kept _ _ _
  case cdWindowEnd => exact execCdWindowEnd_kept _ _ _ _
  case channelCalDone => exact execChannelCalDone_kept _ _ _ _ _ _ _
  case calOverdue => exact execCalOverdue_kept _ _ _
  case calNow => exact execCalNow_kept _ _ _ _
  case restore => exact execRestore_kept _ _
  case segmentCopyDone => exact execSegmentCopyDone_kept _ _ _
  case intentWrite => exact execIntentWrite_kept _ _ _ _ _ _ _
  case streamWrite => exact execStreamWrite_kept _ _ _ _ _ _
  case powerLimit => exact execPowerLimit_kept _ _ _ _
  case refreshDue => exact execRefreshDue_kept _ _ _ _ _
  case subchannelRetrain => exact execSubchannelRetrain_kept _ _ _ _ _
  case stageADone => exact execStageADone_kept _ _ _
  case stageTimeout => exact execStageTimeout_kept _ _ _ _
  case cap => exact execCap_kept _ _ _ _
  case capAck => exact execCapAck_kept _ _ _ _
  case rateGo => exact execRateGo_kept _ _ _ _
  case eqReq => exact execEqReq_kept _ _ _ _
  case eqStatus => exact execEqStatus_kept _ _ _ _
  case eqMeasure => exact execEqMeasure_kept _ _ _ _ _
  case ctleStep => exact execCtleStep_kept _ _ _ _ _
  case eqDone => exact execEqDone_kept _ _ _ _
  case lull => exact execLull_kept _ _ _ _
  case rxStatus => exact execRxStatus_kept _ _ _ _
  case rxStatusTimeout => exact execRxStatusTimeout_kept _ _ _
  case loss => exact execLoss_kept _ _ _ _
  case cdrLock => exact execCdrLock_kept _ _ _
  case relockTimeout => exact execRelockTimeout_kept _ _ _
  case absentRetry => exact execAbsentRetry_kept _ _ _
  case signalDetect => exact execSignalDetect_kept _ _ _
  case laneRetrain => exact execLaneRetrain_kept _ _ _ _ _
  case exportLaneFree => exact execExportLaneFree_kept _ _ _
  case stripeRejoin => exact execStripeRejoin_kept _ _ _
  case auxMode => exact execAuxMode_kept _ _ _ _ _
  case bitSlip => exact execBitSlip_kept _ _ _ _ _
  case captureArm => exact execCaptureArm_kept _ _ _ _ _
  case matchWrite => exact execMatchWrite_kept _ _ _ _ _ _
  case lullReq => exact execLullReq_kept _ _ _ _ _
  case frameInsert => exact execFrameInsert_kept _ _ _
  case ringStatus => exact execRingStatus_kept _ _ _
  case ringStatusTx => exact execRingStatusTx_kept _ _
  case ringStatusTimeout => exact execRingStatusTimeout_kept _ _ _
  case unwrap => exact execUnwrap_kept _ _ _
  case delayExchange => exact execDelayExchange_kept _ _ _
  case delayReq => exact execDelayReq_kept _ _ _ _ _
  case delayRsp => exact execDelayRsp_kept _ _ _ _
  case timeSync => exact execTimeSync_kept _ _ _ _
  case masterTimeLost => exact execMasterTimeLost_kept _ _
  case estop => exact execEstop_kept _ _ _
  case estopClear => exact execEstopClear_kept _ _ _
  case enum => exact execEnum_kept _ _ _
  case ringJoin => exact execRingJoin_kept _ _ _ _
  case grantTake => exact execGrantTake_kept _ _ _
  case grantRenew => exact execGrantRenew_kept _ _ _
  case grantRevoke => exact execGrantRevoke_kept _ _ _
  case blockRead => exact execBlockRead_kept _ _ _
  case blockWrite => exact execBlockWrite_kept _ _ _
  case rangeRead => exact execRangeRead_kept _ _ _
  case rangeWrite => exact execRangeWrite_kept _ _ _
  case blockData => exact execBlockData_kept _ _ _
  case xferTimeout => exact execXferTimeout_kept _ _ _ _
  case cyclic => exact execCyclic_kept _ _ _
  case mapEnable => exact execMapEnable_kept _ _ _ _ _
  case mirrorWrite => exact execMirrorWrite_kept _ _
  case heartbeat => exact execHeartbeat_kept _ _ _ _
  case partnerHeartbeatTx => exact execPartnerHeartbeatTx_kept _ _
  case partnerDown => exact execPartnerDown_kept _ _
  case armedSet => exact execArmedSet_kept _ _ _ _
  case offsets => exact execOffsets_kept _ _ _ _ _ _
  case diagState => exact execDiagState_kept _ _ _ _ _
  case candidate => exact execCandidate_kept _ _ _ _
  case verdict => exact execVerdict_kept _ _ _ _
  case verdictTimeout => exact execVerdictTimeout_kept _ _
  case configSync => exact execConfigSync_kept _ _ _ _ _ _
  case authorityRefresh => exact execAuthorityRefresh_kept _ _
  case claimLapsed => exact execClaimLapsed_kept _ _
  case peerClaimEdge => exact execPeerClaimEdge_kept _ _
  case peerClaimTimeout => exact execPeerClaimTimeout_kept _ _
  case claimSettle => exact execClaimSettle_kept _ _
  case claimBackoff => exact execClaimBackoff_kept _ _
  case leaseExpired => exact execLeaseExpired_kept _ _
  case handover => exact execHandover_kept _ _ _ _
  case clockCheck => exact execClockCheck_kept _ _ _ _ _ _
  case housekeepingRound => exact execHousekeepingRound_kept _ _ _
  case spiSel => exact execSpiSel_kept _ _ _ _
  case selTimeout => exact execSelTimeout_kept _ _
  case spiGo => exact execSpiGo_kept _ _ _ _
  case spiShiftDone => exact execSpiShiftDone_kept _ _ _
  case configSave => exact execConfigSave_kept _ _ _ _
  case configClear => exact execConfigClear_kept _ _ _ _
  case firmwareStart => exact execFirmwareStart_kept _ _ _
  case dramTrainingDone => exact execDramTrainingDone_kept _ _ _
  case dramWipeDone => exact execDramWipeDone_kept _ _
  case startTimeWait => exact execStartTimeWait_kept _ _
  case startWaitExpired => exact execStartWaitExpired_kept _ _
  case lcReq => exact execLcReq_kept _ _ _ _
  case ownerKey => exact execOwnerKey_kept _ _ _ _ _
  case tapReset => exact execTapReset_kept _ _
  case idcode => exact execIdcode_kept _ _
  case samplePreload => exact execSamplePreload_kept _ _ _ _
  case extest => exact execExtest_kept _ _ _ _
  case clamp => exact execClamp_kept _ _
  case highz => exact execHighz_kept _ _
  case bypass => exact execBypass_kept _ _
  case dbgStatus => exact execDbgStatus_kept _ _
  case dbgUnlock => exact execDbgUnlock_kept _ _ _
  case unlockLockoutEnd => exact execUnlockLockoutEnd_kept _ _
  case dbgRelock => exact execDbgRelock_kept _ _ _ _
  case dbgObjRead => exact execDbgObjRead_kept _ _ _ _
  case dbgObjBlockRead => exact execDbgObjBlockRead_kept _ _ _ _ _ _
  case dbgObjBlockApply => exact execDbgObjBlockApply_kept _ _ _ _ _
  case haltPipes => exact execHaltPipes_kept _ _ _ _
  case haltStations => exact execHaltStations_kept _ _ _ _
  case haltZones => exact execHaltZones_kept _ _ _ _
  case liveAct => exact execLiveAct_kept _ _ _ _
  case stepPipes => exact execStepPipes_kept _ _ _ _
  case stepStations => exact execStepStations_kept _ _ _ _
  case stepTick => exact execStepTick_kept _ _ _ _
  case auxReceivedWord => exact execAuxReceivedWord_kept _ _ _ _
  case watchdogService => exact execWatchdogService_kept _ _
  case decayLimit => exact execDecayLimit_kept _ _ _
  case gateReleaseAfterD2dLoss => exact execGateReleaseAfterD2dLoss_kept _ _
  all_goals exact Bool.noConfusion hc

/-- Every command leaves the queue and keeps the canonical form of every byte store. -/
theorem exec_good (q : List Instr) (c : Instr) (s : State) (hs : Good q s.kept) : OutGood q (exec c s) := by
  by_cases hc : c.storage = false
  · exact outKept_good q _ _ (exec_kept c s hc) hs
  cases c
  case memReadDone => exact execMemReadDone_good _ _ _ q hs
  case scrubRead => exact execScrubRead_good _ _ _ _ q hs
  case ringFrameForward => exact execRingFrameForward_good _ _ _ q hs
  case ringReset => exact execRingReset_good _ _ _ q hs
  case objReqRead => exact execObjReqRead_good _ _ _ q hs
  case objReqWrite => exact execObjReqWrite_good _ _ _ q hs
  case nvmWriteDone => exact execNvmWriteDone_good _ _ _ q hs
  case nvmProgramDone => exact execNvmProgramDone_good _ _ _ q hs
  case objFwd => exact execObjFwd_good _ _ _ _ _ q hs
  case stateReq => exact execStateReq_good _ _ _ _ q hs
  case domainSwitch => exact execDomainSwitch_good _ _ q hs
  case quadrantIdle => exact execQuadrantIdle_good _ _ _ q hs
  case orderlyStopEnd => exact execOrderlyStopEnd_good _ _ q hs
  case thermalRecovery => exact execThermalRecovery_good _ _ _ q hs
  case cutoff dt sensor => exact execCutoff_good dt sensor s q hs
  case flashPoll => exact execFlashPoll_good _ _ _ q hs
  case powerOn => exact execPowerOn_good _ _ _ _ q hs
  case rstN => exact execRstN_good _ _ _ q hs
  case watchdog => exact execWatchdog_good _ _ q hs
  case resetRelease => exact execResetRelease_good _ _ _ _ q hs
  case supplyRecheck => exact execSupplyRecheck_good _ _ _ q hs
  case nvmRecoveryDone => exact execNvmRecoveryDone_good _ _ _ _ q hs
  case debugReset => exact execDebugReset_good _ _ _ _ q hs
  case dbgObjWrite => exact execDbgObjWrite_good _ _ _ _ _ _ q hs
  case dbgObjBlockStage => exact execDbgObjBlockStage_good _ _ _ _ _ q hs
  case dbgMemRead => exact execDbgMemRead_good _ _ _ _ _ q hs
  case dbgMemWrite => exact execDbgMemWrite_good _ _ _ _ _ _ q hs
  case fullTrainingDone => exact execFullTrainingDone_good _ _ _ _ q hs
  all_goals exact absurd rfl hc

/-- The invariant is the canonical form of the five stores. -/
theorem storesInv_iff (s : State) : StoresInv s ↔ Good s.pending s.kept := by
  simp [StoresInv, State.storesWf, Memory.wf, Good, State.kept, and_assoc]

end Sys2Proof.Machine

open Sys2Proof Sys2Proof.Machine

/-- Settles O3: an empty queue changes nothing, and the front command runs on the queue's rest with the stores as they are. -/
theorem stepKeepsInvariant : Obligations.StepKeepsInvariant := by
  intro s hs
  cases hq : s.pending with
  | nil => exact ⟨s, by rw [step, hq], hs, hq⟩
  | cons c q =>
    have hrest : Good q { s with pending := q }.kept := (storesInv_iff { s with pending := q }).1 hs
    obtain ⟨t, ht⟩ := exec_next c { s with pending := q }
    have hgood : Good q t.kept := exec_good q c _ hrest t ht
    have hpending : t.pending = q := hgood.1
    exact ⟨t, (step_cons s c q hq).trans ht, (storesInv_iff t).2 (hpending.symm ▸ hgood), hpending⟩

/-- Settles O5: what a command outside the list keeps are the stores themselves, so each byte reads the same. -/
theorem storesKeptByOtherCommands : Obligations.StoresKeptByOtherCommands := by
  intro c s hc
  obtain ⟨t, ht⟩ := exec_next c s
  obtain ⟨hpending, hnvm, hflash, hdram, hpool, hstaging⟩ : t.pending = s.pending ∧ t.nvm.cells = s.nvm.cells ∧
      t.flash.cells = s.flash.cells ∧ t.mem.dram = s.mem.dram ∧ t.mem.pool = s.mem.pool ∧ t.tap.staging = s.tap.staging := by
    simpa [State.kept] using exec_kept c s hc t ht
  refine ⟨t, ht, fun k => ?_, fun k => ?_, fun k => ?_, fun k => ?_, fun k => ?_, hpending⟩
  · rw [hnvm]
  · rw [hflash]
  · rw [hdram]
  · rw [hpool]
  · rw [hstaging]

/-- Settles O1. -/
theorem stepRunsFront : Obligations.StepRunsFront := fun c q s h => step_cons s c q h

/-- Settles O2. -/
theorem emptyQueueIdles : Obligations.EmptyQueueIdles := fun s h => by rw [step, h]

/-- Settles O4: at reset the stores list no cell. -/
theorem resetInvariant : Obligations.ResetInvariant := by
  unfold Obligations.ResetInvariant StoresInv
  decide

/-- Settles O7: at reset the register file lists no object, so each reads its default. -/
theorem resetValues : Obligations.ResetValues := by
  refine ⟨fun k => rfl, ?_⟩
  decide
end

section
/-! PROOFS. Bytes and fields (R11, R12), and the record that survives a loss of supply (O6). -/

namespace Sys2Proof.Machine

/-! ## Bytes and fields -/

@[simp] theorem leBytes_length (n v : Nat) : (leBytes n v).length = n := by
  induction n generalizing v with
  | zero => rfl
  | succ n ih => simp [leBytes, ih]

theorem leNat_leBytes (n v : Nat) : leNat (leBytes n v) = v % 256 ^ n := by
  induction n generalizing v with
  | zero => simp [leBytes, leNat, Nat.mod_one]
  | succ n ih =>
    have hv : v % 2 ^ 8 + 256 * (v / 256 % 256 ^ n) = v % (256 * 256 ^ n) := (Nat.mod_mul).symm
    rw [leBytes, leNat, ih, BitVec.toNat_ofNat, hv, Nat.pow_succ']

theorem leNat_lt (b : Bytes) : leNat b < 256 ^ b.length := by
  induction b with
  | nil => exact Nat.one_pos
  | cons x b ih =>
    have hx : x.toNat < 256 := x.isLt
    rw [leNat, List.length_cons, Nat.pow_succ]
    omega

theorem fld_lt (o n : Nat) (b : Bytes) : fld o n b < 256 ^ n :=
  Nat.lt_of_lt_of_le (leNat_lt _) (Nat.pow_le_pow_right (by decide) (by rw [List.length_take]; exact Nat.min_le_left _ _))

/-- A field that lies in the first of two sequences. -/
theorem fld_append_left (o n : Nat) (a b : Bytes) (h : o + n ≤ a.length) : fld o n (a ++ b) = fld o n a := by
  rw [fld, fld, List.drop_append_of_le_length (by omega), List.take_append_of_le_length (by rw [List.length_drop]; omega)]

/-- A field that lies in the second of two sequences. -/
theorem fld_append_right (o n : Nat) (a b : Bytes) (h : a.length ≤ o) : fld o n (a ++ b) = fld (o - a.length) n b := by
  rw [fld, fld, List.drop_append, List.drop_eq_nil_of_le h, List.nil_append]

/-- A field that is a number's bytes. -/
theorem fld_leBytes (n v : Nat) (b : Bytes) : fld 0 n (leBytes n v ++ b) = v % 256 ^ n := by
  rw [fld_append_left _ _ _ _ (by simp), fld, List.drop_zero, List.take_of_length_le (by simp), leNat_leBytes]

@[simp] theorem padTo_length (n : Nat) (b : Bytes) : (padTo n b).length = n := by
  rw [padTo, List.length_take, List.length_append, List.length_replicate]
  omega

theorem padTo_of_le (n : Nat) (b : Bytes) (h : b.length ≤ n) : padTo n b = b ++ List.replicate (n - b.length) 0 :=
  List.take_of_length_le (by rw [List.length_append, List.length_replicate]; omega)

theorem padTo_of_eq (n : Nat) (b : Bytes) (h : b.length = n) : padTo n b = b := by
  rw [padTo_of_le n b h.le, h, Nat.sub_self, List.replicate_zero, List.append_nil]

theorem crcBit_lt (c : Nat) (h : c < 2 ^ 32) : crcBit c < 2 ^ 32 := by
  unfold crcBit
  split
  · exact Nat.xor_lt_two_pow (by omega) (by decide)
  · omega

theorem crcByte_lt (c : Nat) (b : Byte) (h : c < 2 ^ 32) : crcByte c b < 2 ^ 32 := by
  have hx : c ^^^ b.toNat < 2 ^ 32 := Nat.xor_lt_two_pow h (Nat.lt_of_lt_of_le b.isLt (by decide))
  unfold crcByte
  exact crcBit_lt _ (crcBit_lt _ (crcBit_lt _ (crcBit_lt _ (crcBit_lt _ (crcBit_lt _ (crcBit_lt _ (crcBit_lt _ hx)))))))

theorem crc32_lt (b : Bytes) : crc32 b < 2 ^ 32 := by
  have hfold (l : Bytes) (c : Nat) (hc : c < 2 ^ 32) : l.foldl crcByte c < 2 ^ 32 := by
    induction l generalizing c with
    | nil => exact hc
    | cons x l ih => exact ih _ (crcByte_lt c x hc)
  exact Nat.xor_lt_two_pow (hfold b _ (by decide)) (by decide)

/-! ## A run of cells -/

theorem tgetRun_length {α : Type} (d : α) (t : List (Nat × α)) (k n : Nat) : (tgetRun d t k n).length = n := by
  unfold tgetRun
  rw [List.length_map, List.length_range]

theorem tgetRun_tsetRun_same {α : Type} [DecidableEq α] (d : α) (t : List (Nat × α)) (k : Nat) (xs : List α) :
    tgetRun d (tsetRun d t k xs) k xs.length = xs := by
  refine List.ext_getElem (tgetRun_length _ _ _ _) fun i hi hx => (List.getElem_map _).trans ?_
  rw [List.getElem_range, tget_tsetRun, if_pos ⟨Nat.le_add_right _ _, by omega⟩, Nat.add_sub_cancel_left,
    List.getD_eq_getElem _ _ hx]

theorem tgetRun_tsetRun_ne {α : Type} [DecidableEq α] (d : α) (t : List (Nat × α)) (k j n : Nat) (xs : List α)
    (h : j + n ≤ k ∨ k + xs.length ≤ j) : tgetRun d (tsetRun d t k xs) j n = tgetRun d t j n := by
  unfold tgetRun
  refine List.map_congr_left fun i hi => ?_
  have hi : i < n := List.mem_range.1 hi
  rw [tget_tsetRun, if_neg (by omega)]

/-! ## A page of a record (R540-R542) -/

/-- What one copy of record id says that reads as the bytes img. -/
def copyOf (id k : Nat) (img : Bytes) : Option (Nat × Bytes) :=
  let len := fld 2 2 img
  let d := (img.drop 16).take len
  if fld 0 1 img = id ∧ fld 1 1 img = k ∧ len + 16 ≤ 256 * k ∧ fld 8 4 img = crc32 (img.take 8 ++ d) then some (fld 4 4 img, d) else none

theorem copy_eq (n : Nvm) (id : Nat) (b : Bool) :
    n.copy id b = copyOf id (recPages id).2.2 (n.run (if b then (recPages id).2.1 else (recPages id).1) (recPages id).2.2) := rfl

/-- A copy of one page reads back as its SEQ and data. -/
theorem copyOf_recImage (id seq : Nat) (d : Bytes) (hid : id < 256) (hk : (recPages id).2.2 = 1) (hd : d.length ≤ 240)
    (hseq : seq < 2 ^ 32) : copyOf id 1 (recImage id seq d) = some (seq, d) := by
  set h : Bytes := leBytes 1 id ++ leBytes 1 1 ++ leBytes 2 d.length ++ leBytes 4 seq with hh
  have hlen : h.length = 8 := by simp [hh]
  have himg : recImage id seq d = h ++ (leBytes 4 (crc32 (h ++ d)) ++ (leBytes 4 0 ++ (d ++ List.replicate (240 - d.length) 0))) := by
    unfold recImage
    dsimp only
    rw [hk, ← hh, padTo_of_le _ _ (by simp [hlen]; omega)]
    simp only [List.append_assoc, List.length_append, hlen, leBytes_length]
    congr 5
    omega
  have hid' : fld 0 1 (recImage id seq d) = id := by
    rw [himg, hh]; simp only [List.append_assoc]; rw [fld_leBytes]; omega
  have hk' : fld 1 1 (recImage id seq d) = 1 := by
    rw [himg, hh]; simp only [List.append_assoc]
    rw [fld_append_right _ _ _ _ (by simp), leBytes_length, fld_leBytes]
    rfl
  have hl' : fld 2 2 (recImage id seq d) = d.length := by
    rw [himg, hh]; simp only [List.append_assoc]
    rw [fld_append_right _ _ _ _ (by simp), fld_append_right _ _ _ _ (by simp), leBytes_length, leBytes_length, fld_leBytes]
    omega
  have hs' : fld 4 4 (recImage id seq d) = seq := by
    rw [himg, hh]; simp only [List.append_assoc]
    rw [fld_append_right _ _ _ _ (by simp), fld_append_right _ _ _ _ (by simp), fld_append_right _ _ _ _ (by simp),
      leBytes_length, leBytes_length, leBytes_length, fld_leBytes]
    omega
  have hc' : fld 8 4 (recImage id seq d) = crc32 (h ++ d) := by
    rw [himg, fld_append_right _ _ _ _ (by omega), hlen, fld_leBytes]
    exact Nat.mod_eq_of_lt (crc32_lt _)
  have ht' : (recImage id seq d).take 8 = h := by rw [himg]; exact List.take_left' hlen
  have hd' : ((recImage id seq d).drop 16).take d.length = d := by
    rw [himg, ← List.append_assoc, ← List.append_assoc, List.drop_left' (by simp [hlen]), List.take_left' rfl]
  unfold copyOf
  simp only [hid', hk', hl', hs', hc', ht', hd']
  exact if_pos ⟨trivial, trivial, by omega, trivial⟩

/-- Page p of a copy after a page write: the bytes written where it is that page, else what it was. -/
theorem run_page (n : Nvm) (p q : Nat) (d : Bytes) :
    Nvm.run { n with cells := (NvmOp.page p d).apply n.cells } q 1 = if q = p then padTo 256 d else n.run q 1 := by
  show tgetRun nvmErased (tsetRun nvmErased n.cells (256 * p) (padTo 256 d)) (256 * q) 256 = _
  split
  next h =>
    subst h
    conv_lhs => rw [← padTo_length 256 d, padTo_length 256 d]
    exact (congrArg _ (padTo_length 256 d).symm).trans (tgetRun_tsetRun_same _ _ _ _)
  next h => exact tgetRun_tsetRun_ne _ _ _ _ _ _ (by rw [padTo_length]; omega)

/-- A record of one page has its copies on two pages, and its number fits a byte. -/
theorem recPages_ne : ∀ id ∈ recIds, (recPages id).1 ≠ (recPages id).2.1 ∧ id < 256 := by decide

theorem padTo_run (n : Nvm) (p : Nat) : padTo 256 (n.run p 1) = n.run p 1 := padTo_of_eq 256 _ (tgetRun_length _ _ _ _)

/-- The recovery's copy from one page onto the other is a page write. -/
theorem copyOver_eq (n : Nvm) (id : Nat) (toB : Bool) (hk : (recPages id).2.2 = 1) :
    n.copyOver id toB = { n with cells := (NvmOp.page (if toB then (recPages id).2.1 else (recPages id).1)
      (n.run (if toB then (recPages id).1 else (recPages id).2.1) 1)).apply n.cells } := by
  unfold Nvm.copyOver NvmOp.apply
  simp only [hk, padTo_run]

/-- A record whose copy A checks keeps what copy A says (R542). -/
theorem record_data_first (r : Recovery) (id : Nat) (x : Nat × Bytes) (hk : (recPages id).2.2 = 1)
    (hne : (recPages id).1 ≠ (recPages id).2.1) (hA : r.nvm.copy id false = some x) : (r.record id).nvm.data id = some x.2 := by
  have hover : (r.nvm.copyOver id true).copy id false = some x := by
    rw [← hA, copyOver_eq _ _ _ hk, copy_eq, copy_eq, hk, run_page, if_neg (by simpa using hne)]
  have hdata (m : Nvm) (sq : List (Nat × Nat)) (h : m.copy id false = some x) : Nvm.data { m with recSeq := sq } id = some x.2 :=
    congrArg (Option.map Prod.snd) h
  unfold Recovery.record
  rw [hA]
  cases r.nvm.copy id true with
  | none => exact hdata _ _ hover
  | some y =>
    dsimp only
    split
    · exact hdata _ _ hA
    · exact hdata _ _ hover

/-- A record whose copy B alone checks takes what copy B says (R542). -/
theorem record_data_second (r : Recovery) (id : Nat) (x : Nat × Bytes) (hk : (recPages id).2.2 = 1)
    (hA : r.nvm.copy id false = none) (hB : r.nvm.copy id true = some x) : (r.record id).nvm.data id = some x.2 := by
  have hover : (r.nvm.copyOver id false).copy id false = some x := by
    rw [← hB, copyOver_eq _ _ _ hk, copy_eq, copy_eq, hk, run_page, if_pos rfl, padTo_run]
    rfl
  unfold Recovery.record
  rw [hA, hB]
  exact congrArg (Option.map Prod.snd) hover

end Sys2Proof.Machine

open Sys2Proof Sys2Proof.Machine

/-- Settles O6: before copy A is written copy B says the old data, and from then on copy A says the new. -/
theorem recordSurvivesCut : Obligations.RecordSurvivesCut := by
  intro n id seq k old new torn hid hk hnew hseq _ hB
  obtain ⟨hne, hid256⟩ := recPages_ne id hid
  have himg : padTo 256 (((recImage id (seq + 1) new).drop (256 * 0)).take 256) = recImage id (seq + 1) new := by
    have hlen : (recImage id (seq + 1) new).length = 256 := (padTo_length _ _).trans (by rw [hk])
    rw [Nat.mul_zero, List.drop_zero, List.take_of_length_le hlen.le, padTo_of_eq 256 _ hlen]
  have hfirst (c : Nvm) (hc : c.run (recPages id).1 1 = recImage id (seq + 1) new) : c.copy id false = some (seq + 1, new) := by
    rw [copy_eq, hk, ← copyOf_recImage id (seq + 1) new hid256 hk hnew hseq, ← hc]
    rfl
  have hwritten (c : Nvm) (x : Bytes) (hc : c.run (recPages id).1 1 = recImage id (seq + 1) new) :
      Nvm.run { c with cells := (NvmOp.page (recPages id).2.1 x).apply c.cells } (recPages id).1 1 = recImage id (seq + 1) new :=
    (run_page _ _ _ _).trans ((if_neg hne).trans hc)
  have hcopyA := (run_page n (recPages id).1 (recPages id).1 _).trans ((if_pos rfl).trans himg)
  match k with
  | 0 =>
    intro img ops cut m hcut
    have hBm : m.copy id true = some (seq, old) := by
      rw [← hB, copy_eq, copy_eq, hk]
      exact congrArg (copyOf id 1) ((run_page n _ (recPages id).2.1 _).trans (if_neg hne.symm))
    exact record_data_second { nvm := m } id (seq, old) hk (hcut (by decide)) hBm
  | 1 =>
    intro img ops cut m _
    exact record_data_first { nvm := m } id (seq + 1, new) hk hne (hfirst m (hwritten { n with cells := _ } torn hcopyA))
  | k + 2 =>
    intro img ops cut m _
    have hm : m = { n with cells := ops.foldl (fun c o => o.apply c) n.cells } := by
      have htake : ops.take (k + 2) = ops := List.take_of_length_le (Nat.le_add_left 2 k)
      have hdrop : ops.drop (k + 2) = [] := List.drop_eq_nil_of_le (Nat.le_add_left 2 k)
      simp only [m, cut, htake, hdrop]
      rfl
    exact record_data_first { nvm := m } id (seq + 1, new) hk hne
      (hfirst m (hm ▸ hwritten { n with cells := _ } _ hcopyA))
end

section
/-! PROOFS. TAP instructions (O57) and the hold-off of events (O60). -/

namespace Sys2Proof.Machine

/-- DBG_LOCK as one choice (R574, R579, R591). -/
theorem dbgLock_eq (s : State) : s.dbgLock = if s.fac.lifeCycle ≠ 2 then 0 else if s.tap.unlocked then 2
    else if s.tap.lockout.any (fun t => decide (s.up < t)) then 3 else 1 := by
  unfold State.dbgLock
  cases s.tap.lockout with
  | none => simp
  | some t => simp

theorem dbgOpen_of_locked (s : State) (h : s.dbgLock = 1 ∨ s.dbgLock = 3) : s.dbgOpen = false := by
  unfold State.dbgOpen
  rcases h with h | h <;> simp [h]

theorem boundaryOpen_iff (s : State) : s.boundaryOpen = true ↔ s.fac.lifeCycle ≠ 2 ∧ s.domUp 19 = false := by
  simp [State.boundaryOpen]

/-- While the port is locked DBG_OBJ captures DENIED, and no access is made. -/
theorem objAccess_denied (s : State) (q : ObjReq) (f : State → State) (h : s.dbgOpen = false) :
    s.objAccess q f = { s with tap := { s.tap with ir := 0x10, floating := false, objStatus := 0x18, objToken := 0 } } := by
  have hir : (s.wIr 0x10).dbgOpen = false := h
  exact if_pos (by rw [hir]; rfl)

/-- While the port is locked DBG_MEM captures DENIED, and no access is made. -/
theorem memAccess_denied (s : State) (op space : Nat) (inc : Bool) (f : State → State) (h : s.dbgOpen = false) :
    s.memAccess op space inc f = { s with tap := { s.tap with ir := 0x11, floating := false, memStatus := 0x18 } } := by
  have hir : (s.wIr 0x11).dbgOpen = false := h
  exact if_pos (by rw [hir]; rfl)

/-! ## The table of holds (R457) -/

theorem tdel_map {α β : Type} (f : α → β) (k : Nat) (t : List (Nat × α)) :
    (tdel k t).map (fun e => (e.1, f e.2)) = tdel k (t.map fun e => (e.1, f e.2)) := by
  induction t with
  | nil => rfl
  | cons e t ih =>
    simp only [tdel, List.map_cons]
    split <;> simp [ih]

theorem tins_map {α β : Type} (f : α → β) (k : Nat) (x : α) (t : List (Nat × α)) :
    (tins k x t).map (fun e => (e.1, f e.2)) = tins k (f x) (t.map fun e => (e.1, f e.2)) := by
  induction t with
  | nil => rfl
  | cons e t ih =>
    simp only [tins, List.map_cons]
    split <;> simp [ih]

/-- The hold-off of an event, by its key. -/
def State.holdOf (s : State) (k : Nat) : Option Hold := tget none (s.od.holds.map fun e => (e.1, some e.2)) k

/-- A hold that is entered is the one found under its key, and under no other. -/
theorem hold_entered (l : List (Nat × Hold)) (k j : Nat) (x : Hold) :
    tget none ((tins k x (tdel k l)).map fun e => (e.1, some e.2)) j =
      if j = k then some x else tget none (l.map fun e => (e.1, some e.2)) j := by
  rw [tins_map, tdel_map, tget_tins _ _ _ _ _ (tdel_ne _ k), tget_tdel]
  split <;> rfl

/-- Does an event of key k fall into the hold-off of one that has been logged? -/
def State.heldOff (s : State) (k : Nat) : Prop := ∃ x, s.holdOf k = some x ∧ s.up < x.at_ + s.r Reg.evEVENT_HOLDOFF * 1000000

/-- An event under hold-off is counted in its hold, and nothing else happens. -/
theorem event_held (s : State) (code inst data : Nat) (x : Hold) (hx : s.holdOf (code * 65536 + inst) = some x)
    (hup : s.up < x.at_ + s.r Reg.evEVENT_HOLDOFF * 1000000) :
    s.event code inst data = { s with od := { s.od with
      holds := tins (code * 65536 + inst) ⟨x.at_, x.merged + 1⟩ (tdel (code * 65536 + inst) s.od.holds) } } := by
  unfold State.holdOf at hx
  unfold State.event
  dsimp only
  rw [hx]
  exact if_pos (decide_eq_true hup)

/-- The entry that an event outside a hold-off makes. -/
def State.eventEntry (s : State) (code inst data : Nat) : Evt :=
  ⟨(s.r Reg.evEVENT_SEQ + 1) % 2 ^ 32, code, inst, data, min 65535 (((s.holdOf (code * 65536 + inst)).map Hold.merged).getD 0), s.now⟩

/-- An event outside a hold-off is logged under the next EVENT_SEQ, and sent while EVENT_ENABLE is 1. -/
theorem event_logs (s : State) (code inst data : Nat) (h : ¬ s.heldOff (code * 65536 + inst)) :
    let e := s.eventEntry code inst data
    let t := { s.w Reg.evEVENT_SEQ e.seq with od := { s.od with
      log := (e :: s.od.log).take 256, holds := tins (code * 65536 + inst) ⟨s.up, 0⟩ (tdel (code * 65536 + inst) s.od.holds) } }
    s.event code inst data = if s.r Reg.evEVENT_ENABLE = 1 then t.ringSend 0x60 0 0 e.bytes else t := by
  unfold State.event State.eventEntry
  cases hx : s.holdOf (code * 65536 + inst) with
  | none =>
    unfold State.holdOf at hx
    simp only [hx, Option.map_none, Option.getD_none]
    rfl
  | some x =>
    have hup : ¬ s.up < x.at_ + s.r Reg.evEVENT_HOLDOFF * 1000000 := fun hlt => h ⟨x, hx, hlt⟩
    unfold State.holdOf at hx
    simp only [hx, Option.map_some, Option.getD_some, decide_eq_false hup]
    rfl

end Sys2Proof.Machine

open Sys2Proof Sys2Proof.Machine

/-- Settles O57: each instruction by the register it selects; a locked port makes no access. -/
theorem tapInstructions : Obligations.TapInstructions := by
  intro dt i sub len off v sp inc pins update resp s a x sel bypass avail lock
  have hlock : a.dbgLock = lock := dbgLock_eq a
  have hopen : avail ↔ a.boundaryOpen = true := (boundaryOpen_iff a).symm
  refine ⟨⟨_, rfl, rfl⟩, ⟨_, rfl, rfl⟩, ⟨_, rfl, rfl⟩, ⟨_, rfl, ?_⟩, ⟨_, rfl, rfl⟩, fun havail => ?_, fun hnot => ?_, fun hcycle => ?_,
    fun hlocked => ?_⟩
  · rw [← hlock]; rfl
  · have h := hopen.1 havail
    exact ⟨⟨_, rfl, if_pos h⟩, ⟨_, rfl, congrArg a.selBypass (if_pos h)⟩, ⟨_, rfl, if_pos h⟩⟩
  · have h : ¬ a.boundaryOpen = true := fun h => hnot (hopen.2 h)
    exact ⟨⟨_, rfl, if_neg h⟩, ⟨_, rfl, congrArg a.selBypass (if_neg h)⟩, ⟨_, rfl, if_neg h⟩⟩
  · exact ⟨_, rfl, if_pos hcycle⟩
  · have hdenied : a.dbgOpen = false := dbgOpen_of_locked a (hlock ▸ hlocked)
    constructor
    · intro c hc
      simp only [List.mem_cons, List.not_mem_nil, or_false] at hc
      rcases hc with rfl | rfl | rfl | rfl | rfl <;> exact ⟨_, rfl, objAccess_denied a _ _ hdenied⟩
    · intro c hc
      simp only [List.mem_cons, List.not_mem_nil, or_false] at hc
      rcases hc with rfl | rfl <;> exact ⟨_, rfl, memAccess_denied a _ _ _ _ hdenied⟩

/-- Settles O60: an event is either merged into its hold or logged, and both enter a hold under its own key. -/
theorem eventHoldOff : Obligations.EventHoldOff := by
  intro code inst data s _ k t hold held
  refine ⟨fun x hx hup => ?_, fun hfree => ?_, fun c j _ hne => ?_⟩
  · have ht : t = _ := event_held s code inst data x hx hup
    rw [ht]
    exact ⟨rfl, (hold_entered _ _ _ _).trans (if_pos rfl)⟩
  · have ht : t = _ := event_logs s code inst data fun ⟨x, hx, hup⟩ => hfree x hx hup
    intro n seq e
    have hw (j : Nat) : (s.w Reg.evEVENT_SEQ seq).r j = if j = Reg.evEVENT_SEQ then seq else s.r j := State.w_r _ _ _ _
    have hentered : hold { s with od := { s.od with holds := tins k ⟨s.up, 0⟩ (tdel k s.od.holds) } } = some ⟨s.up, 0⟩ :=
      (hold_entered _ _ _ _).trans (if_pos rfl)
    by_cases hsend : s.r Reg.evEVENT_ENABLE = 1
    · rw [if_pos hsend] at ht
      rw [ht]
      exact ⟨rfl, (hw _).trans (if_pos rfl), fun j hj => (hw j).trans (if_neg (by simpa using hj)), hentered,
        fun _ => ⟨s.ring.txq, _, rfl, rfl, rfl, rfl⟩, fun h => absurd hsend h⟩
    · rw [if_neg hsend] at ht
      rw [ht]
      exact ⟨rfl, (hw _).trans (if_pos rfl), fun j hj => (hw j).trans (if_neg (by simpa using hj)), hentered,
        fun h => absurd h hsend, fun _ => rfl⟩
  · by_cases hup : s.heldOff k
    · obtain ⟨x, hx, hup⟩ := hup
      have ht : t = _ := event_held s code inst data x hx hup
      rw [ht]
      exact (hold_entered _ _ _ _).trans (if_neg hne)
    · have ht : t = _ := event_logs s code inst data hup
      rw [ht]
      split <;> exact (hold_entered _ _ _ _).trans (if_neg hne)
end

section
/-! PROOFS. The flash port, the select lines and the shift engine (O54). -/

namespace Sys2Proof.Machine

theorem flash_of_book {s t : State} (h : t.book = s.book) : t.flash = s.flash := (congrArg State.flash (book_eq h) :)

/-! ## The flash port (R553, R559) -/

/-- The idle port starts the next operation, and nothing else changes. -/
theorem flashKick_eq (s : State) : s.flashKick = { s with flash := { s.flash with pollSince := s.flashKick.flash.pollSince } } := by
  unfold State.flashKick
  cases s.flash.pollSince with
  | some t => rfl
  | none => dsimp only; split <;> rfl

@[simp] theorem flashKick_cells (s : State) : s.flashKick.flash.cells = s.flash.cells := by rw [flashKick_eq]
@[simp] theorem flashKick_jobs (s : State) : s.flashKick.flash.jobs = s.flash.jobs := by rw [flashKick_eq]
@[simp] theorem flashKick_shift (s : State) : s.flashKick.flash.shift = s.flash.shift := by rw [flashKick_eq]
@[simp] theorem flashKick_selSince (s : State) : s.flashKick.flash.selSince = s.flash.selSince := by rw [flashKick_eq]
@[simp] theorem flashKick_od (s : State) : s.flashKick.od = s.od := by rw [flashKick_eq]
@[simp] theorem flashKick_r' (s : State) (k : Nat) : s.flashKick.r k = s.r k := by rw [flashKick_eq]; rfl

/-- A port that polls nothing, or has no job, hears no status. -/
theorem flashPoll_idle (s : State) (busy : Bool) (h : s.flash.pollSince = none ∨ s.flash.jobs = []) : s.flashPoll busy = s := by
  unfold State.flashPoll
  rcases h with h | h
  · rw [h]
  · rw [h]
    cases s.flash.pollSince <;> rfl

/-- Polling while an operation runs: a clear status ends it, one busy beyond the limit ends it with a fault. -/
theorem flashPoll_runs (s : State) (busy : Bool) (t0 : Nat) (j : FlashJob) (q : List FlashJob) (p : FlashOp) (rest : List FlashOp)
    (ht : s.flash.pollSince = some t0) (hj : s.flash.jobs = j :: q) (hp : j.ops = p :: rest) :
    s.flashPoll busy = if !busy then s.flashEnd true else if t0 + p.limit < s.up then s.flashEnd false else s := by
  unfold State.flashPoll
  rw [ht, hj]
  dsimp only
  rw [hp]

/-- An operation that ends well is in the cells, and its job goes on. -/
theorem flashEnd_goesOn (s : State) (j : FlashJob) (q : List FlashJob) (p : FlashOp) (rest : List FlashOp)
    (hj : s.flash.jobs = j :: q) (hp : j.ops = p :: rest) (hrest : rest ≠ []) :
    (s.flashEnd true).flash.cells = p.apply s.flash.cells ∧ (s.flashEnd true).flash.jobs = { j with ops := rest } :: q := by
  unfold State.flashEnd
  rw [hj]
  dsimp only
  rw [hp]
  dsimp only
  rw [if_pos rfl, if_neg hrest, flashKick_cells, flashKick_jobs]
  exact ⟨by split <;> rfl, rfl⟩

/-- The last operation of a table's job ends it. -/
theorem flashEnd_last (s : State) (j : FlashJob) (q : List FlashJob) (p : FlashOp) (k : Nat)
    (hj : s.flash.jobs = j :: q) (hp : j.ops = [p]) (hk : j.for_ = .table k) :
    (s.flashEnd true).flash.cells = p.apply s.flash.cells ∧ (s.flashEnd true).flash.jobs = q := by
  unfold State.flashEnd
  rw [hj]
  dsimp only
  rw [hp]
  dsimp only
  rw [if_pos rfl, if_pos rfl, flashKick_cells, flashKick_jobs, hk]
  exact ⟨by split <;> rfl, rfl⟩

/-- An operation that fails takes the job of its table with it, and counts. -/
theorem flashEnd_fault (s : State) (j : FlashJob) (q : List FlashJob) (p : FlashOp) (rest : List FlashOp) (k : Nat)
    (hj : s.flash.jobs = j :: q) (hp : j.ops = p :: rest) (hk : j.for_ = .table k) :
    (s.flashEnd false).flash.cells = s.flash.cells ∧ (s.flashEnd false).flash.jobs = q ∧
      (s.flashEnd false).r Reg.flFLASH_FAULTS = min 0xFFFFFFFF (s.r Reg.flFLASH_FAULTS + 1) := by
  have hevent (u : State) (a b c : Nat) : (u.event a b c).flash = u.flash ∧
      (u.event a b c).r Reg.flFLASH_FAULTS = u.r Reg.flFLASH_FAULTS :=
    ⟨flash_of_book (book_event u a b c), book_r (book_event u a b c) _ (by decide)⟩
  unfold State.flashEnd
  rw [hj]
  dsimp only
  rw [hp]
  dsimp only
  rw [if_neg Bool.false_ne_true, flashKick_cells, flashKick_jobs, flashKick_r', hk]
  unfold State.flashDone
  dsimp only
  rw [(hevent _ _ _ _).1, (hevent _ _ _ _).2, State.bump_r, if_pos rfl]
  refine ⟨by split <;> rfl, rfl, ?_⟩
  have hstall (v : Nat) : (s.w Reg.flSTALL_MAX v).r Reg.flFLASH_FAULTS = s.r Reg.flFLASH_FAULTS :=
    (State.w_r _ _ _ _).trans (if_neg (by decide))
  split <;> exact congrArg (fun n => min 0xFFFFFFFF (n + 1)) (hstall _)

/-! ## A write by a command of its own (R620) -/

theorem writeBy_refused {s : State} {o : Origin} {key v e : Nat} {f : State → Nat ⊕ State}
    (hacc : s.accCheck o key (keySize key) v true = 0) (hf : f ((s.w key v).wrote o.src 1 key (keySize key) v) = .inl e) :
    s.writeBy o key v true f = s.answer e 0 := by
  unfold State.writeBy
  dsimp only
  rw [if_neg (not_not.2 hacc), hf]

theorem writeBy_accepted {s t : State} {o : Origin} {key v : Nat} {f : State → Nat ⊕ State}
    (hacc : s.accCheck o key (keySize key) v true = 0) (hf : f ((s.w key v).wrote o.src 1 key (keySize key) v) = .inr t) :
    s.writeBy o key v true f = (t.bpWrite key).answer 0 0 := by
  unfold State.writeBy
  dsimp only
  rw [if_neg (not_not.2 hacc), hf]

/-- What follows the effect of a write is bookkeeping, and its answer is OK. -/
theorem writeEnd_spec (t : State) (key : Nat) :
    ((t.bpWrite key).answer 0 0).book = t.book ∧ ((t.bpWrite key).answer 0 0).od.acts = t.od.acts ∧
      ((t.bpWrite key).answer 0 0).od.rsp = ⟨0, 0, []⟩ := by
  obtain ⟨-, hacts, -⟩ := toks_eq (toks_bpWrite t key)
  refine ⟨(book_answer _ _ _).trans (book_bpWrite _ _), ?_, ?_⟩
  · unfold State.answer
    dsimp only
    exact hacts
  · unfold State.answer
    rfl

/-- The entries of a write of an object off the A-die are bookkeeping. -/
theorem wrote_book (s : State) (src kind key len v : Nat) (h : key < 0x500000) : (s.wrote src kind key len v).book = s.book := by
  rw [book_wrote, State.toADie, State.when, if_neg (by simp; omega)]

/-! ## Select lines (R554) -/

/-- A line of its own is asserted while none is. -/
theorem spiSelect_assert (s : State) (v : Nat) (hv : v = 2 ∨ v = 4 ∨ v = 8) :
    s.spiSelect 0 v = .inr { s with flash := { s.flash with selSince := some s.up } } := by
  rcases hv with rfl | rfl | rfl <;> rfl

/-- Writing 0 releases the line. -/
theorem spiSelect_release (s : State) (old : Nat) (hold : old = 2 ∨ old = 4 ∨ old = 8) : s.spiSelect old 0 = .inr (s.spiRelease 1) := by
  rcases hold with rfl | rfl | rfl <;> rfl

/-- More than one line, a line that is none of the host's, or another line while one is asserted is refused. -/
theorem spiSelect_refused (s : State) (old v : Nat)
    (h : (v ≠ 0 ∧ v ≠ 2 ∧ v ≠ 4 ∧ v ≠ 8) ∨ ((old = 2 ∨ old = 4 ∨ old = 8) ∧ v ≠ 0 ∧ v ≠ old)) : s.spiSelect old v = .inl 0x15 := by
  have hsmall : ∀ v < 16, (v ≠ 0 ∧ v ≠ 2 ∧ v ≠ 4 ∧ v ≠ 8) → bit 0 v ∨ 1 < selCount v := by decide
  unfold State.spiSelect
  refine if_pos ?_
  by_cases hv : v < 16
  · by_cases hline : v ≠ 0 ∧ v ≠ 2 ∧ v ≠ 4 ∧ v ≠ 8
    · rcases hsmall v hv hline with h0 | h1
      · exact .inr (.inl h0)
      · exact .inr (.inr (.inl h1))
    · obtain ⟨hold, hv0, hne⟩ := h.resolve_left hline
      have hlines : v = 2 ∨ v = 4 ∨ v = 8 := by omega
      refine .inr (.inr (.inr ⟨?_, ?_, hne.symm⟩))
      · rcases hold with rfl | rfl | rfl <;> decide
      · rcases hlines with rfl | rfl | rfl <;> decide
  · exact .inl (by omega)

/-! ## The end of a shift (R555, R556) -/

theorem actDone_flash (s : State) (key v : Nat) (ok : Bool) : (s.actDone key v ok).flash = s.flash :=
  (congrArg State.flash (actDone_eq s key v ok) :)

/-- A running SPI_GO ends with its result. -/
theorem spiGo_result (s : State) (v : Nat) (ok : Bool) (h : s.actBusy Reg.spiSPI_GO = true) :
    (s.actDone Reg.spiSPI_GO v ok).r Reg.spiSPI_RESULT = v :=
  actDone_r_result s Reg.spiSPI_GO v ok Reg.spiSPI_RESULT (by decide) (by decide) (by decide +kernel) h

/-- The end of SPI_GO leaves every register but its result and those of the bookkeeping. -/
theorem spiGo_r (s : State) (v : Nat) (ok : Bool) (k : Nat) (hb : bookKey k = false) (hk : k ≠ Reg.spiSPI_RESULT) :
    (s.actDone Reg.spiSPI_GO v ok).r k = s.r k :=
  actDone_r_ne s Reg.spiSPI_GO v ok k hb fun h => hk (Option.some.inj (h.symm.trans (by decide)))

/-- The end of a shift: what SPI_RX holds, and the result of SPI_GO. -/
def State.shiftEnded (s : State) (rx result : Nat) (ok : Bool) : State :=
  (State.w { s with flash := { s.flash with shift := none } } Reg.spiSPI_RX rx).actDone Reg.spiSPI_GO result ok

/-- What the end of a shift leaves. -/
theorem shiftEnded_spec (s : State) (rx result : Nat) (ok : Bool) : let t := s.shiftEnded rx result ok
    t.flash = { s.flash with shift := none } ∧ t.r Reg.spiSPI_RX = rx ∧ t.od.rsp = s.od.rsp ∧
      (∀ k, bookKey k = false → k ≠ Reg.spiSPI_RESULT → k ≠ Reg.spiSPI_RX → t.r k = s.r k) ∧ t.actBusy Reg.spiSPI_GO = false ∧
      (s.actBusy Reg.spiSPI_GO = true → t.r Reg.spiSPI_RESULT = result) :=
  ⟨actDone_flash _ _ _ _, (spiGo_r _ _ _ _ (by decide) (by decide)).trans ((State.w_r _ _ _ _).trans (if_pos rfl)), actDone_rsp _ _ _ _,
    fun k hb hres hrx => (spiGo_r _ _ _ k hb hres).trans ((State.w_r _ _ _ _).trans (if_neg hrx)), actDone_idle _ _ _ _,
    fun h => spiGo_result _ _ _ h⟩

/-- Without a shift a release only deasserts the line. -/
theorem spiRelease_idle (s : State) (code : Nat) (h : s.flash.shift = none) :
    s.spiRelease code = State.flashKick { s with flash := { s.flash with selSince := none } } := by
  unfold State.spiRelease State.shiftAbort
  rw [h]

/-- A release ends the shift that runs. -/
theorem spiRelease_shifting (s : State) (code n tx : Nat) (h : s.flash.shift = some (n, tx)) : ∃ c,
    s.spiRelease code = State.flashKick { s.shiftEnded 0 (code + 256 * c) false with
      flash := { (s.shiftEnded 0 (code + 256 * c) false).flash with selSince := none } } := by
  unfold State.spiRelease State.shiftAbort
  rw [h]
  exact ⟨_, rfl⟩

/-- What a release leaves: no line asserted, no shift, and of the registers only the shift's own written. -/
theorem spiRelease_spec (s : State) (code : Nat) : let t := s.spiRelease code
    t.flash.selSince = none ∧ t.flash.shift = none ∧ t.od.rsp = s.od.rsp ∧
      ∀ k, bookKey k = false → k ≠ Reg.spiSPI_RESULT → k ≠ Reg.spiSPI_RX → t.r k = s.r k := by
  intro t
  cases hs : s.flash.shift with
  | none =>
    rw [show t = _ from spiRelease_idle s code hs, flashKick_selSince, flashKick_shift, flashKick_od]
    exact ⟨rfl, hs, rfl, fun k _ _ _ => flashKick_r' _ _⟩
  | some x =>
    obtain ⟨c, ht⟩ := spiRelease_shifting s code x.1 x.2 hs
    obtain ⟨hflash, -, hrsp, hregs, -⟩ := shiftEnded_spec s 0 (code + 256 * c) false
    rw [show t = _ from ht, flashKick_selSince, flashKick_shift, flashKick_od]
    exact ⟨rfl, congrArg Flash.shift hflash, hrsp, fun k hb hres hrx => (flashKick_r' _ _).trans (hregs k hb hres hrx)⟩

/-- What a release makes of the SPI_GO that runs. -/
theorem spiRelease_result (s : State) (code : Nat) (hshift : s.flash.shift.isSome = true) (hbusy : s.actBusy Reg.spiSPI_GO = true)
    (hcode : code < 256) : let t := s.spiRelease code
    t.r Reg.spiSPI_RESULT % 256 = code ∧ t.r Reg.spiSPI_RX = 0 ∧ t.actBusy Reg.spiSPI_GO = false := by
  intro t
  obtain ⟨x, hs⟩ := Option.isSome_iff_exists.1 hshift
  obtain ⟨c, ht⟩ := spiRelease_shifting s code x.1 x.2 hs
  obtain ⟨-, hrx, -, -, hidle, hresult⟩ := shiftEnded_spec s 0 (code + 256 * c) false
  rw [show t = _ from ht, flashKick_r', flashKick_r', State.actBusy, State.act, flashKick_od]
  refine ⟨(congrArg (· % 256) (hresult hbusy)).trans ?_, hrx, hidle⟩
  show (code + 256 * c) % 256 = code
  omega

/-- A select that has been held for 10 ms, and no shorter, is released; without a shift the result tells so itself (R554). -/
theorem selTimeout_eq (s : State) (t0 : Nat) (h : s.flash.selSince = some t0) : ∃ line, s.selTimeout =
    if s.since t0 10000000 then
      State.event (State.w (if s.flash.shift.isSome then s.spiRelease 3 else (s.spiRelease 3).w Reg.spiSPI_RESULT 3) Reg.spiSPI_SEL 0)
        0x0605 line 0
    else s := by
  unfold State.selTimeout
  rw [h]
  exact ⟨_, rfl⟩

/-! ## The commands -/

section
variable {dt v : Nat} {o : Origin} {s : State}

theorem exec_spiSel : exec (.spiSel dt o v) s =
    .next ((s.advance dt).writeBy o Reg.spiSPI_SEL v true fun t => t.spiSelect (s.r Reg.spiSPI_SEL) v) := rfl

/-- A write of SPI_SEL that is refused leaves only its answer. -/
theorem spiSel_refused (hacc : (s.advance dt).accCheck o Reg.spiSPI_SEL (keySize Reg.spiSPI_SEL) v true = 0)
    (h : ∀ t : State, t.spiSelect (s.r Reg.spiSPI_SEL) v = .inl 0x15) :
    exec (.spiSel dt o v) s = .next ((s.advance dt).answer 0x15 0) :=
  exec_spiSel.trans (congrArg Host.Outcome.next (writeBy_refused hacc (h _)))

/-- A write of SPI_SEL that is accepted acts on a state that differs from the one before it by bookkeeping and SPI_SEL itself, and its
answer is OK. -/
theorem spiSel_accepted {g : State → State} {P : State → Prop}
    (hacc : (s.advance dt).accCheck o Reg.spiSPI_SEL (keySize Reg.spiSPI_SEL) v true = 0)
    (h : ∀ t : State, t.spiSelect (s.r Reg.spiSPI_SEL) v = .inr (g t))
    (hP : ∀ t u : State, t.book = ((s.advance dt).w Reg.spiSPI_SEL v).book → t.od.acts = (s.advance dt).od.acts →
      u.book = (g t).book → u.od.acts = (g t).od.acts → u.od.rsp = ⟨0, 0, []⟩ → P u) : Gives (.spiSel dt o v) s P := by
  obtain ⟨-, hacts, -⟩ := toks_eq (toks_wrote ((s.advance dt).w Reg.spiSPI_SEL v) o.src 1 Reg.spiSPI_SEL (keySize Reg.spiSPI_SEL) v)
  have hbook := wrote_book ((s.advance dt).w Reg.spiSPI_SEL v) o.src 1 Reg.spiSPI_SEL (keySize Reg.spiSPI_SEL) v (by decide)
  refine ⟨_, exec_spiSel.trans (congrArg Host.Outcome.next (writeBy_accepted hacc (h _))), ?_⟩
  generalize ((s.advance dt).w Reg.spiSPI_SEL v).wrote o.src 1 Reg.spiSPI_SEL (keySize Reg.spiSPI_SEL) v = t at hacts hbook ⊢
  obtain ⟨hend, hkept, hrsp⟩ := writeEnd_spec (g t) Reg.spiSPI_SEL
  exact hP t _ hbook hacts hend hkept hrsp

end

end Sys2Proof.Machine

open Sys2Proof Sys2Proof.Machine

/-- Settles O54: each command by what its operation makes of the port, and an end of SPI_GO by its result. -/
theorem flashAndSpi : Obligations.FlashAndSpi := by
  intro dt v miso busy o s a x old end_
  refine ⟨fun h => ⟨_, rfl, flashPoll_idle a busy h⟩, fun t0 j q p rest ht hj hp => ?_, fun hacc => ?_, fun t0 ht0 => ?_, fun hacc => ?_,
    fun n tx hshift => ?_⟩
  · intro lim
    have hlim : p.limit = lim := by cases p <;> rfl
    have hpoll := flashPoll_runs a busy t0 j q p rest ht hj hp
    rw [hlim] at hpoll
    refine ⟨fun hb hup => ⟨_, rfl, ?_⟩, fun hb hrest => ⟨_, rfl, ?_⟩, fun hb hrest k hk => ⟨_, rfl, ?_⟩, fun hb hup k hk => ⟨_, rfl, ?_⟩⟩
    · subst hb
      exact hpoll.trans (if_neg (Nat.not_lt.2 hup))
    · subst hb
      exact hpoll ▸ flashEnd_goesOn a j q p rest hj hp hrest
    · subst hb
      exact hpoll ▸ flashEnd_last a j q p k hj (hrest ▸ hp) hk
    · subst hb
      have hfault : a.flashPoll true = a.flashEnd false := hpoll.trans (if_pos hup)
      exact hfault ▸ flashEnd_fault a j q p rest k hj hp hk
  · refine ⟨fun hv hold => ?_, fun hv hold => ?_, fun hbad => ?_⟩
    · refine spiSel_accepted hacc (fun t => (congrArg (t.spiSelect · v) hold).trans (spiSelect_assert t v hv))
        fun t u htb _ hub _ hrsp => ⟨hrsp, ?_, ?_⟩
      · exact (book_r hub _ (by decide)).trans ((book_r htb _ (by decide)).trans ((State.w_r _ _ _ _).trans (if_pos rfl)))
      · rw [flash_of_book hub]
        have hclk : t.clk = a.clk := (clk_of_book htb :)
        exact congrArg (fun c : Clk => some c.up) hclk
    · subst hv
      refine spiSel_accepted hacc (fun t => spiSelect_release t old hold) fun t u htb hta hub hua hrsp => ?_
      obtain ⟨hsel, hshift, -, hregs⟩ := spiRelease_spec t 1
      have hflash : t.flash = x := (flash_of_book htb :)
      refine ⟨hrsp, ?_, ?_, fun hrun hbusy => ?_⟩
      · exact (book_r hub _ (by decide)).trans ((hregs _ (by decide) (by decide) (by decide)).trans
          ((book_r htb _ (by decide)).trans ((State.w_r _ _ _ _).trans (if_pos rfl))))
      · rw [flash_of_book hub, hsel]
      · obtain ⟨hresult, hrx, hidle⟩ := spiRelease_result t 1 (hflash ▸ hrun) (by rw [State.actBusy, State.act, hta]; exact hbusy) (by decide)
        have hbusy' : u.actBusy Reg.spiSPI_GO = false := by rw [State.actBusy, State.act, hua]; exact hidle
        exact ⟨⟨rfl, hbusy', by rw [flash_of_book hub, hshift]⟩, (congrArg (· % 256) (book_r hub _ (by decide))).trans hresult,
          (book_r hub _ (by decide)).trans hrx⟩
    · exact ⟨_, spiSel_refused hacc fun t => spiSelect_refused t old v hbad, rfl⟩
  · obtain ⟨line, hsel⟩ := selTimeout_eq a t0 ht0
    refine ⟨fun h => ⟨_, rfl, hsel.trans (if_neg (by simp [h]))⟩, fun h => ⟨_, rfl, ?_⟩⟩
    rw [hsel, if_pos h]
    dsimp only
    rw [flash_of_book (book_event _ _ _ _), book_r (book_event _ _ _ _) _ (by decide : bookKey Reg.spiSPI_SEL = false),
      book_r (book_event _ _ _ _) _ (by decide : bookKey Reg.spiSPI_RESULT = false), State.w_r, State.w_r, if_pos rfl,
      if_neg (by decide : Reg.spiSPI_RESULT ≠ Reg.spiSPI_SEL)]
    obtain ⟨hsince, hnone, -, -⟩ := spiRelease_spec a 3
    cases hs : x.shift with
    | none =>
      rw [if_neg (show ¬ (none : Option (Nat × Nat)).isSome = true by decide)]
      exact ⟨rfl, hsince, hnone, fun _ => congrArg (· % 256) ((State.w_r _ _ _ _).trans (if_pos rfl))⟩
    | some y =>
      have hsome : a.flash.shift.isSome = true := by rw [show a.flash.shift = some y from hs]; rfl
      rw [if_pos (show (some y).isSome = true from rfl)]
      exact ⟨rfl, hsince, hnone, fun h => (spiRelease_result a 3 hsome (h.resolve_left (by simp)) (by decide)).1⟩
  · refine gives_actBy rfl hacc ?_
    obtain ⟨hrsp, -⟩ := actStart_spec a o.src Reg.spiSPI_GO v (keySize Reg.spiSPI_GO)
    have hbusy := actStart_busy a o.src Reg.spiSPI_GO v (keySize Reg.spiSPI_GO)
    have hbook := actStart_book a o.src Reg.spiSPI_GO v (keySize Reg.spiSPI_GO) (by decide)
    generalize a.actStart o.src Reg.spiSPI_GO v (keySize Reg.spiSPI_GO) = t at hrsp hbusy hbook ⊢
    have hflash : t.flash = x := flash_of_book hbook
    unfold State.spiGo
    rw [hflash]
    cases hs : x.selSince with
    | none =>
      rw [if_pos (show (none : Option Nat).isNone = true from rfl)]
      exact ⟨(actDone_rsp _ _ _ _).trans hrsp, fun _ => ⟨spiGo_result t 2 false hbusy, actDone_idle _ _ _ _, (actDone_flash _ _ _ _).trans hflash⟩,
        fun h => absurd h (by simp)⟩
    | some t0 =>
      rw [if_neg (by simp)]
      refine ⟨hrsp, fun h => absurd h (by simp), fun _ => ⟨?_, hbusy⟩⟩
      dsimp only
      rw [book_r hbook Reg.spiSPI_BITS (by decide), book_r hbook Reg.spiSPI_TX (by decide)]
      have hup : t.up = a.up := congrArg Clk.up (clk_of_book hbook)
      rw [hup, ← hs]
  · intro ready
    have hdone : a.shiftDone miso = if ready then a.shiftEnded (miso % 2 ^ n) (256 * n) true else a := by
      unfold State.shiftDone
      rw [show a.flash.shift = some (n, tx) from hshift]
      exact if_congr (and_congr_left' Option.isNone_iff_eq_none) rfl rfl
    refine ⟨fun h => ⟨_, rfl, hdone.trans (if_neg h)⟩, fun h => ⟨_, rfl, ?_⟩⟩
    obtain ⟨hflash, hrx, -, -, hidle, hresult⟩ := shiftEnded_spec a (miso % 2 ^ n) (256 * n) true
    rw [hdone, if_pos h]
    exact ⟨hrx, hflash, fun hb => ⟨hresult hb, hidle, congrArg Flash.shift hflash⟩⟩
end

section
/-! PROOFS. An own frame cut off while a statistics result waits to be published (O39). -/

namespace Sys2Proof.Machine

/-- Port 0 is up, a frame of the device's own waits to leave through it, and a result that names INSERT_ABORT waits to be published. The
type of `Pipe.statWait` admits such a result, though the model forms none. -/
def strayInsert : State :=
  { State.reset.wAll [(Reg.portPORT_STATE 0, 2), (Reg.nodeACTIVE_ADDR, 5)] with
    ring := { State.reset.ring with txq := [⟨0x60, 0, 0, 0, 0, [], none, none⟩] }
    pipes := [(0, { statWait := [[(Reg.portINSERT_ABORT 0, 9)]] })] }

/-- The frame's own way out, with the port still wrapped as at reset. -/
theorem strayInsert_leaves : (strayInsert.advance 0).leaves ⟨0x60, 0, 0, 0, 0, [], none, none⟩ = some (0, true) := by decide +kernel

/-- The publication overwrites the count of the frame that was cut off (R126, R408). -/
theorem strayInsert_count : (((strayInsert.advance 0).insertFrame true).statsDue).r (Reg.portINSERT_ABORT 0) = 9 := by decide +kernel

theorem strayInsert_before : (strayInsert.advance 0).r (Reg.portINSERT_ABORT 0) = 0 := by decide +kernel

end Sys2Proof.Machine

open Sys2Proof Sys2Proof.Machine

/-- Refutes O39 at `strayInsert`: the clause on a frame cut off has no premise on the statistics results that wait to be published, as the
one on a frame that leaves has, and one that names INSERT_ABORT overwrites its count. -/
theorem not_ringFrames : ¬ Obligations.RingFrames := by
  intro hall
  obtain ⟨-, -, -, -, -, -, hInsert⟩ := hall 0 ⟨0, 0, 0, false, 0, 0, 0, 0, 0, 0, 0, 0, [], 0, false, 0⟩ strayInsert
  obtain ⟨-, t, hexec, -, hcount, -⟩ := hInsert [] ⟨0x60, 0, 0, 0, 0, [], none, none⟩ [] 0 true rfl (by simp) strayInsert_leaves
  have hnext : ((strayInsert.advance 0).insertFrame true).statsDue = t := Host.Outcome.next.inj hexec
  rw [← hnext, strayInsert_count, strayInsert_before] at hcount
  exact absurd hcount (by decide)
end

section
/-! PROOFS. Lanes that go while a statistics result waits to be published (O51, O52). -/

namespace Sys2Proof.Machine

/-- Head lane 0 is UP with its head streaming, a statistics window open, and a result that gives an object another value waiting to be
published; the other objects are those of l. The type of `Pipe.statWait` admits such a result, though the model forms none. -/
def strayHead (l : List (Nat × Nat)) (key v : Nat) : State :=
  { State.reset.wAll ([(Reg.hdATTACH_STATE 0, atSTREAMING), (Reg.laneLANE_STATE 0, 4)] ++ l) with
    pipes := [(0, { stat := some ⟨0, 0, 0, 0, 0, 0, 0, 0, 0, 0, 0, 0, 0⟩, statWait := [[(key, v)]] })] }

/-- The device in STOPPING since the beginning, with the waiting result naming DEVICE_STATE. -/
def strayStop : State :=
  { strayHead [(Reg.opDEVICE_STATE, 4), (Reg.thmDOMAINS_UP, 0x3F)] Reg.opDEVICE_STATE 3 with pwr := { stopAt := some 0 } }

/-- The stop's end turns the lane off; the window's close then publishes the waiting result (R126, R525). -/
theorem strayStop_state : ((strayStop.advance 10000000).stopEnd).r Reg.opDEVICE_STATE = 3 := by decide +kernel

/-- The waiting result names LANE_STATE of the lane itself. -/
def strayClock : State := strayHead [] (Reg.laneLANE_STATE 0) 9

theorem strayClock_up : (strayClock.advance 0).laneUp 0 = true := by decide +kernel

theorem strayClock_state : ((strayClock.advance 0).clockCheck 100000000 0 156250000 32768).laneState 0 = 9 := by decide +kernel

end Sys2Proof.Machine

open Sys2Proof Sys2Proof.Machine

/-- Refutes O51 at `strayStop`: the clause on the stop's end has no premise on the statistics results that wait to be published, and one
that names DEVICE_STATE overwrites the 4 of STOPPING. -/
theorem not_deviceStates : ¬ Obligations.DeviceStates := by
  intro hall
  obtain ⟨-, -, -, hstop⟩ := hall 10000000 0 ⟨0, 0⟩ 0 strayStop
  obtain ⟨-, hend⟩ := hstop 0 rfl (by decide +kernel) rfl
  obtain ⟨t, hexec, -, -, hstate, -⟩ := hend (by decide +kernel)
  have hnext : (strayStop.advance 10000000).stopEnd = t := Host.Outcome.next.inj hexec
  rw [← hnext, strayStop_state] at hstate
  exact absurd hstate (by decide)

/-- Refutes O52 at `strayClock`: so does the clause on the lanes that a lost reference takes out, whose LANE_STATE the result names. -/
theorem not_houseAndClock : ¬ Obligations.HouseAndClock := by
  intro hall
  obtain ⟨-, -, u, hexec, -, hlanes, -⟩ := hall 0 100000000 0 156250000 32768 ⟨[], [], []⟩ strayClock
  have hdown : u.laneState 0 = 5 := hlanes 0 strayClock_up (.inl (by decide +kernel))
  have hdone : ((strayClock.advance 0).clockCheck 100000000 0 156250000 32768).done = u.done := Host.Outcome.next.inj hexec
  have hsame := (laneState_done _ 0).symm.trans ((congrArg (·.laneState 0) hdone).trans (laneState_done u 0))
  rw [Fin.val_zero, strayClock_state, hdown] at hsame
  exact absurd hsame (by decide)
end

section
/-! PROOFS. What the rules of R404-R409 make of a frame that arrives whole. -/

namespace Sys2Proof.Machine

/-! ## A whole frame passes the checks (R404) -/

theorem whole_iff (a : State) (f : RingFrame) : a.whole f = true ↔
    (portLanes f.port).all (fun l => a.laneUp l) = true ∧ (a.port f.port).deskewed = true ∧ f.skew ≤ 32 ∧ hcrcOk f = true ∧
      frameOk f = true ∧ f.aborted = false := by
  simp only [State.whole, Bool.and_eq_true, decide_eq_true_eq, Bool.not_eq_true']
  tauto

theorem deskew_of_whole {a : State} {f : RingFrame} (h : a.whole f = true) : a.deskew f = a := by
  obtain ⟨-, hdesk, hskew, -⟩ := (whole_iff a f).1 h
  unfold State.deskew
  rw [if_pos (hdesk.trans (decide_eq_true hskew).symm)]

theorem frameFault_of_whole {a : State} {f : RingFrame} (h : a.whole f = true) : a.frameFault f = a := by
  obtain ⟨-, -, -, -, hok, hab⟩ := (whole_iff a f).1 h
  simp [State.frameFault, hok, hab]

/-- A whole frame meets the rules of R406 as it is. -/
theorem ringIn_whole {a : State} {f : RingFrame} (h : a.whole f = true) (eff : Effect) : a.ringIn f eff =
    if neighbourTy f.ty then (eff a).1
    else if f.hops ≤ 1 then a.bump (Reg.portHOPS_EXPIRED f.port)
    else if a.addr = some f.src then a.when (decide (f.dst ≠ 0x7F)) fun t => t.bump (Reg.portUNDELIVERED f.port)
    else if a.consumes f then (eff (a.fromMaster f true)).1
    else
      let e := if f.dst = 0x7F ∧ ringTypes.contains f.ty then eff (a.fromMaster f false) else (a.fromMaster f false, f.payload)
      e.1.ringForward f e.2 false := by
  obtain ⟨hup, -, hskew, hhead, hok, hab⟩ := (whole_iff a f).1 h
  unfold State.ringIn
  simp [deskew_of_whole h, frameFault_of_whole h, hup, hhead, hok, hab, Nat.not_lt.2 hskew]

/-- A neighbour frame is the device's at once (R405). -/
theorem ringIn_neighbour {a : State} {f : RingFrame} (h : a.whole f = true) (hty : neighbourTy f.ty = true) (eff : Effect) :
    a.ringIn f eff = (eff a).1 := by
  rw [ringIn_whole h, if_pos hty]

theorem forMe_iff (a : State) (f : RingFrame) : a.forMe f = true ↔
    a.whole f = true ∧ 1 < f.hops ∧ a.addr = some f.dst ∧ f.src ≠ f.dst ∧ a.r Reg.nodeADDR_CONFLICT = 0 := by
  simp [State.forMe]

theorem forAll_iff (a : State) (f : RingFrame) : a.forAll f = true ↔
    a.whole f = true ∧ 1 < f.hops ∧ f.dst = 0x7F ∧ a.addr ≠ some f.src ∧ a.addr ≠ some 0x7F := by
  simp [State.forAll]

/-- A unicast frame for the device is consumed (R406). -/
theorem ringIn_forMe {a : State} {f : RingFrame} (h : a.forMe f = true) (hty : neighbourTy f.ty = false)
    (hring : ringTypes.contains f.ty = true) (eff : Effect) : a.ringIn f eff = (eff (a.fromMaster f true)).1 := by
  obtain ⟨hwhole, hhops, hdst, hsrc, hconf⟩ := (forMe_iff a f).1 h
  have hnot : a.addr ≠ some f.src := by rw [hdst]; exact fun he => hsrc (Option.some.inj he).symm
  have hcons : a.consumes f = true := by simp [State.consumes, hdst, hconf, List.contains_iff_mem.1 hring]
  rw [ringIn_whole hwhole, if_neg (by simp [hty]), if_neg (Nat.not_le.2 hhops), if_neg hnot, if_pos hcons]

/-- A broadcast frame has its effect and goes on (R406). -/
theorem ringIn_forAll {a : State} {f : RingFrame} (h : a.forAll f = true) (hty : neighbourTy f.ty = false)
    (hring : ringTypes.contains f.ty = true) (eff : Effect) : a.ringIn f eff =
      (eff (a.fromMaster f false)).1.ringForward f (eff (a.fromMaster f false)).2 false := by
  obtain ⟨hwhole, hhops, hdst, hsrc, hbroad⟩ := (forAll_iff a f).1 h
  have hcons : a.consumes f = false := by simp [State.consumes, hdst, hbroad]
  rw [ringIn_whole hwhole, if_neg (by simp [hty]), if_neg (Nat.not_le.2 hhops), if_neg hsrc, if_neg (by simp [hcons])]
  simp only [hdst, hring, and_self, if_true]

/-! ## A frame of node 0 shows that the master is there (R484, R492) -/

theorem epoch_le_known (a : State) : a.epoch ≤ a.known := by
  unfold State.known
  split
  · exact le_max_right _ _
  · exact le_rfl

/-- An epoch that is not above the device's own changes nothing (R484). -/
theorem seeEpoch_of_le {a : State} {e : Nat} (h : e ≤ a.epoch) (fromHead : Bool) : a.seeEpoch e fromHead = a :=
  if_pos (h.trans (epoch_le_known a))

/-- The state in which the newest frame of the master came at x. -/
def State.heard (a : State) (x : Option Nat) : State := { a with ring := { a.ring with lastMaster := x } }

theorem heard_r (a : State) (x : Option Nat) (k : Nat) : (a.heard x).r k = a.r k := rfl
theorem heard_epoch (a : State) (x : Option Nat) : (a.heard x).epoch = a.epoch := rfl

/-- A frame notes the time of the newest one of node 0, and nothing else, where it shows no newer epoch. -/
theorem fromMaster_heard {a : State} {f : RingFrame} {mine : Bool} (h : mine = true → f.epoch ≤ a.epoch) :
    a.fromMaster f mine = a.heard (if f.src = 0 then some a.up else a.ring.lastMaster) := by
  unfold State.fromMaster
  by_cases hsrc : f.src = 0
  · rw [if_pos hsrc, if_pos hsrc]
    cases mine with
    | false => rfl
    | true =>
      have hle : f.epoch ≤ (a.heard (some a.up)).epoch := (h rfl).trans (heard_epoch a _).ge
      exact seeEpoch_of_le hle false
  · rw [if_neg hsrc, if_neg hsrc]
    rfl

/-- Forwarding leaves through one port, or not at all, and counts. -/
theorem ringForward_r (s : State) (f : RingFrame) (p : Bytes) (bad : Bool) (k : Nat) (hk : k ≠ Reg.portFORWARDED f.port) :
    (s.ringForward f p bad).r k = s.r k := by
  unfold State.ringForward
  split
  · exact (State.bump_r _ _ _).trans (if_neg hk)
  · rfl

end Sys2Proof.Machine
end

section
/-! PROOFS. The ends of block transfers (O45). -/

namespace Sys2Proof.Machine

/-! ## Frames of the device's own -/

/-- A frame sent, ESTOP apart, is the newest that waits (R408). -/
theorem newestOwn_ringQueue (s : State) (via sop : Option Nat) (ty dst info : Nat) (p : Bytes) (hty : ty ≠ 0x40) :
    NewestOwn (s.ringQueue via sop ty dst info p) ty dst p := by
  unfold State.ringQueue
  dsimp only
  rw [if_neg hty]
  exact ⟨_, _, rfl, rfl, rfl, rfl⟩

theorem newestOwn_ringSend (s : State) (ty dst info : Nat) (p : Bytes) (hty : ty ≠ 0x40) : NewestOwn (s.ringSend ty dst info p) ty dst p :=
  newestOwn_ringQueue s none none ty dst info p hty

/-- Sending a frame moves the ring's part of the state only. -/
theorem ringSend_eq (s : State) (ty dst info : Nat) (p : Bytes) :
    s.ringSend ty dst info p = { s with ring := (s.ringSend ty dst info p).ring } := rfl

/-! ## BLOCK_REQ -/

/-- Segments move the ring's part only (R442). -/
theorem sendSegs_eq (n : Nat) : ∀ (s : State) (dst xfer seg pos : Nat) (d : Bytes),
    s.sendSegs dst xfer seg pos d n = { s with ring := (s.sendSegs dst xfer seg pos d n).ring } := by
  induction n with
  | zero => intros; rfl
  | succ n ih =>
    intro s dst xfer seg pos d
    unfold State.sendSegs
    split
    · rfl
    · dsimp only
      rw [ih]
      rfl

theorem sendRead_eq (s : State) (dst xfer key st : Nat) (d : Bytes) :
    s.sendRead dst xfer key st d = { s with ring := (s.sendRead dst xfer key st d).ring } := by
  unfold State.sendRead
  rw [ringSend_eq, sendSegs_eq]

/-- A write with bytes to come opens a transfer that none of them has reached. -/
theorem bytes_of_empty (x : Xfer) (hsegs : x.segs = []) (hlen : 0 < x.length) : x.bytes = none := by
  unfold Xfer.bytes
  rw [hsegs]
  exact if_neg (Nat.not_le.2 hlen)

/-- The transfer that a BLOCK_REQ of a write opens (R441). -/
def openedXfer (s : State) (f : RingFrame) : Xfer :=
  let p := f.payload
  ⟨f.src, fld 4 2 p, fld 0 1 p, fld 1 1 p, fld 2 2 p, fld 6 1 p, fld 8 4 p, fld 12 4 p, f.epoch, s.up, []⟩

/-- A fifth transfer is refused (R447). -/
theorem blockReq_busy (s : State) (f : RingFrame) (h : 4 ≤ (s.closeXfer f.src (fld 4 2 f.payload)).od.xfers.length) :
    s.blockReq f = (s.closeXfer f.src (fld 4 2 f.payload)).ringSend 0x05 f.src 0
      (blockPayload 0x1B (256 * fld 2 2 f.payload + fld 1 1 f.payload) (fld 4 2 f.payload) 0 0) := if_pos h

theorem blockReq_read (s : State) (f : RingFrame) (h : (s.closeXfer f.src (fld 4 2 f.payload)).od.xfers.length < 4)
    (hop : fld 0 1 f.payload = 1) : s.blockReq f =
      let c := s.closeXfer f.src (fld 4 2 f.payload)
      let key := 256 * fld 2 2 f.payload + fld 1 1 f.payload
      let r := c.readBlock f.src key (fld 8 4 f.payload) (fld 12 4 f.payload)
      c.sendRead f.src (fld 4 2 f.payload) key r.1 r.2 := by
  unfold State.blockReq
  dsimp only
  rw [if_neg (Nat.not_le.2 h), if_pos hop]

theorem blockReq_range (s : State) (f : RingFrame) (h : (s.closeXfer f.src (fld 4 2 f.payload)).od.xfers.length < 4)
    (hop : fld 0 1 f.payload = 3) : s.blockReq f =
      let c := s.closeXfer f.src (fld 4 2 f.payload)
      let r := c.readRange f.src (fld 2 2 f.payload) (fld 1 1 f.payload) (fld 6 1 f.payload)
      c.sendRead f.src (fld 4 2 f.payload) (256 * fld 2 2 f.payload + r.2.1) r.1 r.2.2 := by
  unfold State.blockReq
  dsimp only
  rw [if_neg (Nat.not_le.2 h), if_neg (by omega), if_pos hop]

theorem blockReq_write (s : State) (f : RingFrame) (h : (s.closeXfer f.src (fld 4 2 f.payload)).od.xfers.length < 4)
    (hop : fld 0 1 f.payload = 2 ∨ fld 0 1 f.payload = 4) (hlen : 0 < fld 12 4 f.payload) : s.blockReq f =
      let c := s.closeXfer f.src (fld 4 2 f.payload)
      { c with od := { c.od with xfers := c.od.xfers ++ [openedXfer s f] } } := by
  unfold State.blockReq
  dsimp only
  rw [if_neg (Nat.not_le.2 h), if_neg (by omega), if_neg (by omega), if_pos hop]
  unfold State.applyXfer
  rw [bytes_of_empty _ rfl hlen]
  rfl

/-- A BLOCK_REQ for the device, of the operation that its command names. -/
theorem blockFrame_forMe {a : State} {f : RingFrame} {op : Nat} (h : a.forMe f = true) (hty : f.ty = 3) (hop : fld 0 1 f.payload = op) :
    a.blockFrame f op = (a.fromMaster f true).blockReq f := by
  unfold State.blockFrame State.frameIn
  rw [if_pos (by simp [opFrame, hop]), if_pos hty, ringIn_forMe h (by rw [hty]; decide) (by rw [hty]; decide)]
  rfl

/-- The commands of BLOCK_REQ by their operations. -/
def blockCmds (dt : Nat) (f : RingFrame) : List (Nat × Instr) :=
  [(1, .blockRead dt f), (2, .blockWrite dt f), (3, .rangeRead dt f), (4, .rangeWrite dt f)]

theorem exec_blockCmds {dt : Nat} {f : RingFrame} {e : Nat × Instr} (he : e ∈ blockCmds dt f) (s : State) :
    exec e.2 s = .next ((s.advance dt).blockFrame f e.1) := by
  simp only [blockCmds, List.mem_cons, List.not_mem_nil, or_false] at he
  rcases he with rfl | rfl | rfl | rfl <;> rfl

theorem op_blockCmds {dt : Nat} {f : RingFrame} {e : Nat × Instr} (he : e ∈ blockCmds dt f) : e.1 = 1 ∨ e.1 = 3 ∨ e.1 = 2 ∨ e.1 = 4 := by
  simp only [blockCmds, List.mem_cons, List.not_mem_nil, or_false] at he
  rcases he with rfl | rfl | rfl | rfl <;> simp

/-- A read opens no transfer and ends none but the one whose XFER_ID it reuses. -/
theorem blockReq_xfers_of_read (s : State) (f : RingFrame) (h : (s.closeXfer f.src (fld 4 2 f.payload)).od.xfers.length < 4)
    (hop : fld 0 1 f.payload = 1 ∨ fld 0 1 f.payload = 3) :
    (s.blockReq f).od.xfers = (s.closeXfer f.src (fld 4 2 f.payload)).od.xfers := by
  rcases hop with hop | hop
  · rw [blockReq_read s f h hop]
    exact congrArg (·.od.xfers) (sendRead_eq _ _ _ _ _ _)
  · rw [blockReq_range s f h hop]
    exact congrArg (·.od.xfers) (sendRead_eq _ _ _ _ _ _)

theorem closeXfer_length_le (s : State) (src xfer : Nat) : (s.closeXfer src xfer).od.xfers.length ≤ s.od.xfers.length :=
  List.length_filter_le _ _

/-- At most 4 transfers are open (R447). -/
theorem blockReq_xfers_le (s : State) (f : RingFrame) (hle : s.od.xfers.length ≤ 4)
    (hop : fld 0 1 f.payload = 1 ∨ fld 0 1 f.payload = 3 ∨ fld 0 1 f.payload = 2 ∨ fld 0 1 f.payload = 4)
    (hlen : fld 0 1 f.payload = 1 ∨ fld 0 1 f.payload = 3 ∨ 0 < fld 12 4 f.payload) : (s.blockReq f).od.xfers.length ≤ 4 := by
  have hclose := (closeXfer_length_le s f.src (fld 4 2 f.payload)).trans hle
  rcases Nat.lt_or_ge (s.closeXfer f.src (fld 4 2 f.payload)).od.xfers.length 4 with h | h
  · by_cases hread : fld 0 1 f.payload = 1 ∨ fld 0 1 f.payload = 3
    · rw [blockReq_xfers_of_read s f h hread]
      exact hclose
    · rw [blockReq_write s f h (by omega) (by omega)]
      simpa using h
  · rw [blockReq_busy s f h]
    exact hclose

/-- A write's transfer is the only one under its XFER_ID, and new (R447). -/
theorem blockReq_opened (s : State) (f : RingFrame) (h : (s.closeXfer f.src (fld 4 2 f.payload)).od.xfers.length < 4)
    (hop : fld 0 1 f.payload = 2 ∨ fld 0 1 f.payload = 4) (hlen : 0 < fld 12 4 f.payload) :
    (s.blockReq f).od.xfers.filter (fun z => decide (z.src = f.src ∧ z.xfer = fld 4 2 f.payload)) = [openedXfer s f] := by
  rw [blockReq_write s f h hop hlen]
  show (_ ++ [_] : List Xfer).filter _ = _
  rw [List.filter_append, show (s.closeXfer f.src (fld 4 2 f.payload)).od.xfers = s.od.xfers.filter _ from rfl, List.filter_filter]
  simp [openedXfer]

/-! ## XFER_TIMEOUT -/

theorem xferTimeout_of_late {s : State} {src n : Nat} {x : Xfer} (hx : (s.od.xfers.find? fun z => decide (z.src = src ∧ z.xfer = n)) = some x)
    (h : s.since x.last 10000000 = true) : s.xferTimeout src n =
      (s.closeXfer src n).ringSend 0x05 src 0 (blockPayload 0x1C (256 * x.index + x.sub) n 0 0) := by
  unfold State.xferTimeout
  rw [hx]
  exact if_pos h

theorem xferTimeout_of_early {s : State} {src n : Nat} {x : Xfer} (hx : (s.od.xfers.find? fun z => decide (z.src = src ∧ z.xfer = n)) = some x)
    (h : s.since x.last 10000000 = false) : s.xferTimeout src n = s := by
  unfold State.xferTimeout
  rw [hx]
  exact if_neg (by simp [h])

/-! ## BLOCK_DATA -/

/-- A transfer after a segment (R442, R446). -/
def Xfer.took (x : Xfer) (up : Nat) (p : Bytes) : Xfer :=
  { x with last := up, segs := (x.segs.filter fun e => e.1 ≠ fld 4 4 p) ++ [(fld 4 4 p, (slice 12 (fld 8 2 p) p).take (x.length - fld 4 4 p))] }

/-- The transfers with one of them replaced. -/
def State.xferSet (s : State) (y : Xfer) : State :=
  { s with od := { s.od with xfers := s.od.xfers.map fun z => if z.src = y.src ∧ z.xfer = y.xfer then y else z } }

/-- A transfer under the key of the one that has been put in place is that one. -/
theorem eq_of_mem_xferSet {s : State} {y z : Xfer} (hz : z ∈ (s.xferSet y).od.xfers) (hkey : z.src = y.src ∧ z.xfer = y.xfer) : z = y := by
  obtain ⟨w, -, hw⟩ := List.mem_map.1 hz
  by_cases h : w.src = y.src ∧ w.xfer = y.xfer
  · rw [← hw, if_pos h]
  · rw [if_neg h] at hw
    exact absurd (hw ▸ hkey) h

theorem segIn_eq {s : State} {f : RingFrame} {x : Xfer}
    (hx : (s.od.xfers.find? fun z => decide (z.src = f.src ∧ z.xfer = fld 0 2 f.payload)) = some x) :
    s.segIn f = (s.xferSet (x.took s.up f.payload)).applyXfer (x.took s.up f.payload) := by
  unfold State.segIn
  dsimp only
  rw [hx]
  rfl

theorem applyXfer_of_none (s : State) {x : Xfer} (h : x.bytes = none) : s.applyXfer x = s := by
  unfold State.applyXfer
  rw [h]

/-- The bytes of a transfer do not hang on when its newest segment came. -/
theorem bytes_took (x : Xfer) (up : Nat) (p : Bytes) : (x.took up p).bytes = ({ x with segs := (x.took up p).segs } : Xfer).bytes := rfl

/-- A BLOCK_DATA for the device. -/
theorem blockData_forMe {a : State} {f : RingFrame} (h : a.forMe f = true) (hty : f.ty = 4) :
    a.frameIn f 0x04 (keepPayload f fun u => u.segIn f) = (a.fromMaster f true).segIn f := by
  unfold State.frameIn
  rw [if_pos hty, ringIn_forMe h (by rw [hty]; decide) (by rw [hty]; decide)]
  rfl

/-- What is found under a source and an XFER_ID bears them. -/
theorem key_of_find {l : List Xfer} {src n : Nat} {x : Xfer} (h : (l.find? fun z => decide (z.src = src ∧ z.xfer = n)) = some x) :
    x ∈ l ∧ x.src = src ∧ x.xfer = n :=
  ⟨List.mem_of_find?_eq_some h, by simpa using List.find?_some h⟩

end Sys2Proof.Machine

open Sys2Proof Sys2Proof.Machine

/-- Settles O45, by the cases of BLOCK_REQ, BLOCK_DATA and XFER_TIMEOUT. -/
theorem transferEnds : Obligations.TransferEnds := by
  intro dt f s a b p xf key
  refine ⟨fun src n x hx => ⟨fun hlate => ⟨_, rfl, ?_⟩, fun hearly => ⟨_, rfl, xferTimeout_of_early hx hearly⟩⟩, fun hme hep => ⟨?_, ?_⟩⟩
  · rw [xferTimeout_of_late hx hlate]
    exact ⟨newestOwn_ringSend _ _ _ _ _ (by decide), rfl, rfl⟩
  · have hb : b = a.heard (if f.src = 0 then some a.up else a.ring.lastMaster) := fromMaster_heard fun _ => hep
    have hxfers : b.od.xfers = a.od.xfers := by rw [hb]; rfl
    have hup : b.up = a.up := by rw [hb]; rfl
    intro hty e he hop
    have hexec : exec e.2 s = .next (b.blockReq f) := by rw [exec_blockCmds he s, blockFrame_forMe hme hty hop]
    refine ⟨fun hle hlen => ⟨_, hexec, blockReq_xfers_le b f (hxfers ▸ hle) (by rw [hop]; exact op_blockCmds he) (by rw [hop]; exact hlen)⟩,
      fun hfree hw hlen => ⟨_, hexec, openedXfer b f, blockReq_opened b f hfree (by rw [hop]; exact hw) hlen, rfl, hup, hop⟩,
      fun hfull => ⟨_, hexec, ?_⟩⟩
    rw [blockReq_busy b f hfull]
    exact ⟨newestOwn_ringSend _ _ _ _ _ (by decide), rfl⟩
  · have hb : b = a.heard (if f.src = 0 then some a.up else a.ring.lastMaster) := fromMaster_heard fun _ => hep
    have hup : b.up = a.up := by rw [hb]; rfl
    intro hty x hx off hnone
    have hxb : (b.od.xfers.find? fun z => decide (z.src = f.src ∧ z.xfer = fld 0 2 f.payload)) = some x := by rw [hb]; exact hx
    refine ⟨b.segIn f, congrArg Host.Outcome.next (blockData_forMe hme hty), ?_⟩
    obtain ⟨-, hsrc, hid⟩ := key_of_find hx
    rw [segIn_eq hxb, applyXfer_of_none _ ((bytes_took x b.up f.payload).trans hnone)]
    intro z hz hzs hzx
    rw [eq_of_mem_xferSet hz ⟨hzs.trans hsrc.symm, hzx.trans hid.symm⟩]
    exact hup
end

section
/-! PROOFS. What a write, an action and their responses come down to, whoever asks (R438, R443, R446, R448, R620). -/

namespace Sys2Proof.Machine

/-! ## Responses -/

theorem respond_regs (s : State) (r : Reply) (st tok : Nat) : (s.respond r st tok).regs = s.regs := by
  cases r <;> rfl

theorem respond_r (s : State) (r : Reply) (st tok k : Nat) : (s.respond r st tok).r k = s.r k := by
  cases r <;> rfl

theorem respond_blob (s : State) (r : Reply) (st tok k : Nat) : (s.respond r st tok).blob k = s.blob k := by
  cases r <;> rfl

theorem newestOwn_objRsp (s : State) (dst req : Nat) (p : Bytes) : NewestOwn (s.objRsp dst req p) 2 dst p :=
  newestOwn_ringSend _ _ _ _ _ (by decide)

theorem newestOwn_respond_obj (s : State) (dst key req st tok : Nat) :
    NewestOwn (s.respond (.obj dst key req) st tok) 2 dst (rspPayload st key req tok []) := newestOwn_objRsp _ _ _ _

theorem newestOwn_respond_block (s : State) (dst key xfer n crc st tok : Nat) :
    NewestOwn (s.respond (.block dst key xfer n crc) st tok) 5 dst
      (if st = 0 then blockPayload 0 key xfer n crc else blockPayload st key xfer 0 0) := newestOwn_ringSend _ _ _ _ _ (by decide)

/-- A response is kept for its request (R440). -/
theorem keptOf_objRsp (s : State) (dst req : Nat) (p : Bytes) : ((s.objRsp dst req p).keptOf dst req).isSome = true := by
  have hfirst : decide (dst = dst ∧ req = req ∧ s.up ≤ s.up + 1000000000) = true := decide_eq_true ⟨rfl, rfl, by omega⟩
  show (List.find? _ (_ :: _)).isSome = true
  rw [List.find?_cons_of_pos (by exact hfirst)]
  rfl

/-! ## Objects whose value does nothing but stand there -/

/-- An object without a rule of its own for what a value written to it does. -/
def Inert (key : Nat) : Prop := instOf 0x3400 16 8 1 key = none ∧ ∀ (s : State) (old v : Nat), hookFor (s.effectHooks old v) key = none

theorem instOf_none_of_sub {base stride count sub key : Nat} (h : key % 256 ≠ sub) : instOf base stride count sub key = none :=
  if_neg fun hk => h hk.1

theorem inert_syncExpect : Inert Reg.timeSYNC_EXPECT := ⟨rfl, fun _ _ _ => rfl⟩

theorem inert_maxOn (n : Fin 192) : Inert (Reg.chMAX_ON n) := by
  have hsub : Reg.chMAX_ON n % 256 = 6 := by unfold Reg.chMAX_ON; omega
  have hidx : Reg.chMAX_ON n / 256 = 0x5400 + 3 * n := by unfold Reg.chMAX_ON; omega
  refine ⟨instOf_none_of_sub (by omega), fun s old v => ?_⟩
  simp only [hookFor, State.effectHooks, List.findSome?_cons, instOf, hsub, hidx, List.findSome?_nil]
  simp only [show (6 : Nat) ≠ 1 from by decide, show (6 : Nat) ≠ 4 from by decide, show (6 : Nat) ≠ 5 from by decide,
    show (6 : Nat) ≠ 2 from by decide, show (6 : Nat) ≠ 3 from by decide, show (6 : Nat) ≠ 7 from by decide,
    show (6 : Nat) ≠ 13 from by decide, false_and, if_false, Option.map_none, true_and]
  rw [if_neg (by omega)]
  rfl

/-- What stands before the response to a write of an inert object: the value, its entry and the breakpoints (R435). -/
def State.putValue (s : State) (src kind key v : Nat) : State := ((s.w key v).wrote src kind key (keySize key) v).bpWrite key

theorem commitVals_of_not_admits {s : State} {src kind : Nat} {vals : List (Nat × Nat)} {r : Reply}
    (h : (vals.any fun e => s.admits e.1 e.2) = false) : s.commitVals src kind vals r = (s.stored vals).finish s src kind vals r := by
  unfold State.commitVals
  dsimp only
  rw [if_neg (by rw [h]; decide)]

/-- A write that is no admission event ends with its response. -/
theorem finish_responds (s old : State) (src kind : Nat) (vals : List (Nat × Nat)) (r : Reply) :
    ∃ t : State, s.finish old src kind vals r = t.respond r 0 0 := ⟨_, rfl⟩

theorem frees_of_inert {s : State} {key v : Nat} (h : Inert key) (hz : instOf 0x4000 6 192 1 key = none) (hc : key ≠ Reg.covCOV_ENABLE) :
    s.frees key v = false := by
  simp [State.frees, h.1, hz, hc]

theorem stored_of_inert (s : State) {key : Nat} (v : Nat) (h : Inert key) : s.stored [(key, v)] = s.w key v := by
  show (match instOf 0x3400 16 8 1 key with
    | some st => _
    | none => s.w key v) = _
  rw [h.1]

/-- A write of an inert object stores the value, and no more. -/
theorem finish_of_inert (t s : State) (src kind : Nat) {key : Nat} (v : Nat) (r : Reply) (h : Inert key)
    (hz : instOf 0x4000 6 192 1 key = none) (hc : key ≠ Reg.covCOV_ENABLE) :
    (t.w key v).finish s src kind [(key, v)] r = (t.putValue src kind key v).respond r 0 0 := by
  have hlast : lastVals [(key, v)] = [(key, v)] := rfl
  have heff (u : State) : u.applied key (s.r key) v = u := by
    unfold State.applied
    rw [h.2]
    rfl
  have hfree : ([(key, v)].any fun e => s.frees e.1 e.2) = false := by simp [frees_of_inert h hz hc]
  unfold State.finish
  simp only [hlast, hfree, State.each, List.foldl_cons, List.foldl_nil, heff, State.when, Bool.false_eq_true, if_false, State.putValue]

/-- The state but for its bookkeeping and the die-to-die link's traffic after the write. -/
theorem putValue_book (s : State) (src kind key v : Nat) : (s.putValue src kind key v).book = ((s.w key v).toADie key).book := by
  unfold State.putValue
  rw [book_bpWrite, book_wrote]

theorem putValue_r (s : State) (src kind key v k : Nat) (hk : bookKey k = false) :
    (s.putValue src kind key v).r k = if k = key then v else s.r k := by
  rw [book_r (putValue_book s src kind key v) k hk, toADie_eq]
  exact State.w_r _ _ _ _

/-! ## Single-object writes and actions -/

/-- An ACT object. -/
def actRow (key : Nat) : Bool := (rowAt key).any fun r => r.acc = .act

/-- ACT_BUSY comes from an ACT object only. -/
theorem accCheck_ne_busy {s : State} {o : Origin} {key len v : Nat} {rel : Bool} (h : actRow key = false) :
    s.accCheck o key len v rel ≠ 0x1A := by
  unfold State.accCheck
  unfold actRow at h
  (repeat' split) <;> simp_all

theorem putObj_eq (s : State) (o : Origin) (key len v : Nat) (r : Reply) :
    s.putObj o key len v r = if actRow key = true then s.actObj o key len v r else s.writeObj o 1 key len v r := rfl

/-- A refused write or action is answered with its status, and does nothing else. -/
theorem putObj_refused {s : State} {o : Origin} {key len v : Nat} (r : Reply)
    (h : s.accCheck o key len v (actRow key || s.relOk (s.w key v) key) ≠ 0) :
    s.putObj o key len v r = s.respond r (s.accCheck o key len v (actRow key || s.relOk (s.w key v) key))
      (if s.accCheck o key len v (actRow key || s.relOk (s.w key v) key) = 0x1A then (s.act key).tok else 0) := by
  rw [putObj_eq]
  cases hact : actRow key with
  | true =>
    rw [hact, Bool.true_or] at h
    rw [if_pos rfl, Bool.true_or]
    unfold State.actObj
    dsimp only
    split <;> rfl
  | false =>
    rw [hact, Bool.false_or] at h
    rw [if_neg (by decide), Bool.false_or, if_neg (accCheck_ne_busy hact)]
    exact if_pos h

/-- A write that its checks allow. -/
theorem putObj_write {s : State} {o : Origin} {key len v : Nat} (r : Reply) (hact : actRow key = false)
    (h : s.accCheck o key len v (s.relOk (s.w key v) key) = 0) : s.putObj o key len v r = s.commitVals o.src 1 [(key, v)] r := by
  rw [putObj_eq, if_neg (show ¬ actRow key = true by rw [hact]; decide)]
  exact if_neg (by simpa using h)

/-- An action that its checks allow. -/
theorem putObj_action {s : State} {o : Origin} {key len v : Nat} (r : Reply) (hact : actRow key = true)
    (h : s.accCheck o key len v true = 0) : s.putObj o key len v r =
      ((s.actStart o.src key v len).respond r 0 ((s.actStart o.src key v len).act key).tok).actRun o.src key v := by
  rw [putObj_eq, if_pos hact]
  unfold State.actObj
  dsimp only
  rw [h, if_neg (by decide), if_neg (by decide)]

/-- An accepted write that is no admission event ends with the response OK. -/
theorem putObj_responds {s : State} {o : Origin} {key len v : Nat} (r : Reply) (hact : actRow key = false)
    (h : s.accCheck o key len v (s.relOk (s.w key v) key) = 0) (ha : s.admits key v = false) :
    ∃ t : State, s.putObj o key len v r = t.respond r 0 0 := by
  rw [putObj_write r hact h, commitVals_of_not_admits (by simpa using ha)]
  exact finish_responds _ _ _ _ _ _

theorem admits_of_inert {s : State} {key v : Nat} (h : Inert key) (hz : instOf 0x4000 6 192 1 key = none) (hc : key ≠ Reg.covCOV_ENABLE)
    (hp : key ≠ Reg.opPOWER_LIMIT) (hr : key / 256 < 0x2110 ∨ 0x2180 ≤ key / 256) : s.admits key v = false := by
  have hr' : ¬ (0x2110 ≤ key / 256 ∧ key / 256 < 0x2180) := by omega
  simp only [State.admits, h.1, hz, hc, hp, hr', decide_false, Option.isSome_none, Bool.false_and, Bool.false_or]

/-- An accepted write of an inert object stores its value. -/
theorem putObj_inert {s : State} {o : Origin} {key len v : Nat} (r : Reply) (hact : actRow key = false) (h : Inert key)
    (hz : instOf 0x4000 6 192 1 key = none) (hc : key ≠ Reg.covCOV_ENABLE) (hp : key ≠ Reg.opPOWER_LIMIT)
    (hr : key / 256 < 0x2110 ∨ 0x2180 ≤ key / 256) (hst : s.accCheck o key len v (s.relOk (s.w key v) key) = 0) :
    s.putObj o key len v r = (s.putValue o.src 1 key v).respond r 0 0 := by
  rw [putObj_write r hact hst, commitVals_of_not_admits (by simpa using admits_of_inert h hz hc hp hr), stored_of_inert s v h,
    finish_of_inert s s _ _ v r h hz hc]

end Sys2Proof.Machine
end

section
/-! PROOFS. Frames that wait to be sent, and the ports' own update of the queue. -/

namespace Sys2Proof.Machine

/-! ## Bookkeeping sends no frame -/

theorem hwmStore_ring (s : State) (v : Nat) : (s.hwmStore v).ring = s.ring := rfl

theorem tlyNumber_ring (s : State) (e : TEntry) : (s.tlyNumber e).ring = s.ring := by
  unfold State.tlyNumber
  extract_lets q e1 tly s1 s2 s3
  have h1 : s2.ring = s.ring := rfl
  have h3 : s3.ring = s.ring := by
    rw [← h1]
    unfold s3
    clear_value s2
    unfold State.when
    by_cases hold : s2.r Reg.tlyOLDEST_SEQ + 65536 ≤ q
    · rw [decide_eq_true hold]
      exact State.w_ring s2 _ _
    · rw [decide_eq_false hold]
      rfl
  clear_value s3
  split
  · exact (hwmStore_ring _ _).trans h3
  · exact h3

theorem tlyAdd_ring (s : State) (src kind key result token value : Nat) : (s.tlyAdd src kind key result token value).ring = s.ring := by
  unfold State.tlyAdd State.tlyPut
  dsimp only
  split
  · exact tlyNumber_ring _ _
  · split
    · split <;> rfl
    · rfl

theorem actDone_ring (s : State) (key v : Nat) (ok : Bool) : (s.actDone key v ok).ring = s.ring := by
  unfold State.actDone
  dsimp only
  split
  · rw [tlyAdd_ring]
    cases resultOf key with
    | none => rfl
    | some k => dsimp only; split <;> rfl
  · rfl

/-! ## The ports' update of the queue: neighbour frames of a port that is no longer bonded are dropped -/

theorem each_txq {α : Type} (s : State) (l : List α) (f : α → State → State) (h : ∀ a t, (f a t).ring.txq = t.ring.txq) :
    (s.each l f).ring.txq = s.ring.txq := by
  unfold State.each
  induction l generalizing s with
  | nil => rfl
  | cons a l ih => exact (ih (f a s)).trans (h a s)

theorem portDown_txq (s : State) (p : Nat) : (s.portDown p).ring.txq = s.ring.txq := by
  unfold State.portDown State.when
  dsimp only
  split <;> rfl

/-- The queue as the ports' update leaves it. -/
theorem ringPub_txq (s : State) : ∃ keep : TxFrame → Bool, (∀ g, neighbourTy g.ty = false → keep g = true) ∧
    s.ringPub.ring.txq = s.ring.txq.filter keep := by
  unfold State.ringPub
  extract_lets s1 gone ring s2 s3
  have h1 : s1.ring.txq = s.ring.txq := by
    refine each_txq _ _ _ fun p t => ?_
    extract_lets v t1 ring t2
    have ht1 : t1.ring.txq = t.ring.txq := by
      unfold t1
      split
      · exact portDown_txq _ _
      · rfl
    have ht2 : t2.ring.txq = t1.ring.txq := by
      unfold t2 ring
      split <;> rfl
    exact ht2.trans ht1
  have h2 : s2.ring.txq = s1.ring.txq := by
    unfold s2 ring
    split <;> rfl
  refine ⟨fun g => !neighbourTy g.ty || s2.portBonded (g.via.getD 0), fun g hg => by simp [hg], ?_⟩
  show s3.ring.txq = _
  rw [← h1, ← h2]
  unfold s3
  clear_value s2
  exact each_txq s2.dropNeighbour _ _ fun _ _ => rfl

/-- A frame other than a neighbour frame stays. -/
theorem mem_ringPub {s : State} {g : TxFrame} (hg : g ∈ s.ring.txq) (hty : neighbourTy g.ty = false) : g ∈ s.ringPub.ring.txq := by
  obtain ⟨keep, hkeep, htxq⟩ := ringPub_txq s
  rw [htxq]
  exact List.mem_filter.2 ⟨hg, hkeep g hty⟩

theorem mem_stageA {s : State} {g : TxFrame} {l : Nat} (hl : 80 ≤ l ∧ l < 88) (hg : g ∈ s.ring.txq) (hty : neighbourTy g.ty = false) :
    g ∈ (s.stageA l).ring.txq := by
  unfold State.stageA
  extract_lets s1 sp
  rw [laneTo_ring _ _ _ hl]
  exact mem_ringPub hg hty

theorem mem_stageA_each {s : State} {g : TxFrame} {ls : List Nat} (h : ∀ l ∈ ls, 80 ≤ l ∧ l < 88) (hg : g ∈ s.ring.txq)
    (hty : neighbourTy g.ty = false) : g ∈ (s.each ls fun l t => (t.wLane l {}).stageA l).ring.txq := by
  unfold State.each
  induction ls generalizing s with
  | nil => exact hg
  | cons l ls ih =>
    exact ih (fun k hk => h k (List.mem_cons_of_mem l hk)) (mem_stageA (s := s.wLane l {}) (h l List.mem_cons_self) hg hty)

theorem ringLanes_bounds : ∀ l ∈ portLanes 0 ++ portLanes 1, 80 ≤ l ∧ l < 88 := fun l => (mem_ringLanes l).1

/-- RING_JOIN leaves what waits to be sent, neighbour frames apart (R414). -/
theorem mem_ringJoinRun {s : State} {g : TxFrame} (hg : g ∈ s.ring.txq) (hty : neighbourTy g.ty = false) :
    g ∈ s.ringJoinRun.ring.txq := by
  unfold State.ringJoinRun
  rw [actDone_ring]
  unfold State.ringBringUp
  split
  · exact hg
  · exact mem_ringPub (mem_stageA_each ringLanes_bounds hg hty) hty

/-- RING_JOIN brings every ring lane into Stage A where the ring ports may run (R412, R414). -/
theorem ringJoinRun_lane {s : State} (hmay : s.ringMay = true) {l : Nat} (hl : 80 ≤ l ∧ l < 88) : s.ringJoinRun.laneState l = 1 := by
  have hres : resultOf Reg.nodeRING_JOIN = none := by decide
  have hbook : bookKey (Reg.laneLANE_STATE l) = false := decide_eq_false (by unfold Reg.laneLANE_STATE; omega)
  unfold State.ringJoinRun State.ringBringUp
  rw [if_neg (by simp [hmay]), State.laneState, actDone_r_ne _ _ _ _ _ hbook (by rw [hres]; simp)]
  show State.laneState _ l = 1
  rw [aside_lane (aside_ringPub _ l (by omega)), (stageA_each s _ ringLanes_bounds).2 l (by omega), if_pos ((mem_ringLanes l).2 hl)]

end Sys2Proof.Machine
end

section
/-! PROOFS. Requests, block and range transfers (O44). -/

namespace Sys2Proof.Machine

/-! ## Reads of one object (R437-R439, R450) -/

theorem readObj_noIndex {s : State} {src key : Nat} (h : indexExists (key / 256) = false) : s.readObj src key = (0x10, 0, []) :=
  if_pos (by simp [h])

theorem readObj_noSub {s : State} {src key : Nat} (hi : indexExists (key / 256) = true) (h0 : key % 256 ≠ 0) (hr : rowAt key = none) :
    s.readObj src key = (0x11, 0, []) := by
  unfold State.readObj
  rw [if_neg (by simp [hi]), if_pos ⟨h0, by simp [hr]⟩]

/-- Subindex 0 of an index reads as the highest one (R429). -/
theorem readObj_sub0 {s : State} {src key : Nat} (hi : indexExists (key / 256) = true) (h0 : key % 256 = 0) (hr : rowAt key = none) :
    s.readObj src key = if s.mayRead src key then (0, 0, leBytes 1 (topSub (key / 256))) else (0x18, 0, []) := by
  unfold State.readObj
  rw [if_neg (by simp [hi]), if_neg (fun h => h.1 h0)]
  cases s.mayRead src key with
  | false => rfl
  | true =>
    rw [hr]
    simp [State.readBytes, hr, State.readVal, h0]

theorem readObj_row {s : State} {src key : Nat} {r : ObjRow} (hi : indexExists (key / 256) = true) (hr : rowAt key = some r) :
    s.readObj src key =
      if s.mayRead src key = false then (0x18, 0, [])
      else if r.acc = .wo ∨ r.acc = .act then (0x13, 0, [])
      else if r.ty = .block then (0x17, 0, [])
      else match s.resultReq key with
        | some q => if q.busy then (0x03, q.tok, []) else (0, q.tok, s.readBytes key)
        | none => (0, 0, s.readBytes key) := by
  unfold State.readObj
  rw [if_neg (by simp [hi]), if_neg (by simp [hr]), hr]
  cases s.mayRead src key <;> rfl

/-! ## OBJ_REQ (R437-R440) -/

theorem objReq_kept {s : State} {f : RingFrame} {k : Kept} (h : s.keptOf f.src (fld 4 2 f.payload) = some k) :
    s.objReq f = s.ringSend 0x02 f.src 0 k.payload := by
  unfold State.objReq
  dsimp only
  rw [h]

/-- The key that a request names. -/
abbrev reqKey (p : Bytes) : Nat := 256 * fld 2 2 p + fld 1 1 p

theorem objReq_read {s : State} {f : RingFrame} (hk : s.keptOf f.src (fld 4 2 f.payload) = none)
    (hp : s.reqPending f.src (fld 4 2 f.payload) = false) (hop : fld 0 1 f.payload = 1) : s.objReq f =
      let o := s.readObj f.src (reqKey f.payload)
      (s.toADie (reqKey f.payload)).objRsp f.src (fld 4 2 f.payload) (rspPayload o.1 (reqKey f.payload) (fld 4 2 f.payload) o.2.1 o.2.2) := by
  unfold State.objReq
  dsimp only
  rw [hk, hp]
  dsimp only
  rw [if_neg (by decide), if_pos hop]

/-- The data and the length of a write, with a length of 0 where bytes are missing. -/
def reqLen (p : Bytes) : Nat := if (slice 8 (fld 6 1 p) p).length = fld 6 1 p then fld 6 1 p else 0

theorem objReq_write {s : State} {f : RingFrame} (hk : s.keptOf f.src (fld 4 2 f.payload) = none)
    (hp : s.reqPending f.src (fld 4 2 f.payload) = false) (hop : fld 0 1 f.payload = 2) : s.objReq f =
      (s.putObj ⟨f.src, f.epoch⟩ (reqKey f.payload) (reqLen f.payload) (leNat (slice 8 (fld 6 1 f.payload) f.payload))
        (.obj f.src (reqKey f.payload) (fld 4 2 f.payload))).done := by
  unfold State.objReq
  dsimp only
  rw [hk, hp]
  dsimp only
  rw [if_neg (by decide), if_neg (by omega), if_pos hop]
  rfl

/-- A request for the device. -/
theorem objFrame_forMe {a : State} {f : RingFrame} (h : a.forMe f = true) (hty : f.ty = 1) :
    a.frameIn f 0x01 (keepPayload f fun u => u.objReq f) = (a.fromMaster f true).objReq f := by
  unfold State.frameIn
  rw [if_pos hty, ringIn_forMe h (by rw [hty]; decide) (by rw [hty]; decide)]
  rfl

/-- The two commands of OBJ_REQ by their operations. -/
theorem exec_objCmds {dt : Nat} {f : RingFrame} {s : State} (hme : (s.advance dt).forMe f = true) (hty : f.ty = 1) :
    ∀ c ∈ [(1, Instr.objReqRead dt f), (2, .objReqWrite dt f)], fld 0 1 f.payload = c.1 →
      exec c.2 s = .next (((s.advance dt).fromMaster f true).objReq f) := by
  intro c hc hop
  have hframe (op : Nat) (h : fld 0 1 f.payload = op) :
      (if opFrame f [op] then (s.advance dt).frameIn f 0x01 (keepPayload f fun u => u.objReq f) else s.advance dt) =
        ((s.advance dt).fromMaster f true).objReq f := by
    rw [if_pos (by simp [opFrame, h]), objFrame_forMe hme hty]
  simp only [List.mem_cons, List.not_mem_nil, or_false] at hc
  rcases hc with rfl | rfl
  · exact congrArg Host.Outcome.next (hframe 1 hop)
  · exact congrArg Host.Outcome.next (hframe 2 hop)

/-! ## RING_JOIN by a request (R414) -/

theorem actRun_ringJoin (s : State) (src v : Nat) : s.actRun src Reg.nodeRING_JOIN v = s.ringJoinRun := by
  unfold State.actRun
  rw [if_neg (by rintro ⟨-, h⟩; exact absurd h (by decide))]
  rfl

/-- The token of a request that has just been accepted (R448). -/
theorem act_actStart (s : State) (src key v len : Nat) : ((s.actStart src key v len).act key).tok = s.nextToken := by
  obtain ⟨-, -, hacts⟩ := actStart_spec s src key v len
  rw [State.act, hacts, tget_tset, if_pos rfl]

/-- RING_JOIN by a request: its response with the token waits to be sent. -/
theorem putObj_ringJoin {s : State} {o : Origin} {len v dst key req : Nat} (h : s.accCheck o Reg.nodeRING_JOIN len v true = 0) :
    ∃ g ∈ (s.putObj o Reg.nodeRING_JOIN len v (.obj dst key req)).ring.txq, g.ty = 2 ∧ g.dst = dst ∧
      g.payload = rspPayload 0 key req s.nextToken [] := by
  rw [putObj_action _ (by decide) h, actRun_ringJoin, act_actStart]
  obtain ⟨q, g, htxq, hty, hdst, hpay⟩ := newestOwn_respond_obj (s.actStart o.src Reg.nodeRING_JOIN v len) dst key req 0 s.nextToken
  exact ⟨g, mem_ringJoinRun (htxq ▸ List.mem_append_right q List.mem_cons_self) (by rw [hty]; decide), hty, hdst, hpay⟩

/-! ## What a read sends (R442, R443) -/

/-- The payload of a BLOCK_DATA segment. -/
def segPayload (xfer seg pos : Nat) (c : Bytes) : Bytes :=
  leBytes 2 xfer ++ leBytes 2 seg ++ leBytes 4 pos ++ leBytes 2 c.length ++ leBytes 2 0 ++ padTo ((c.length + 3) / 4 * 4) c

/-- A segment's fields, and the bytes that it carries. -/
theorem segPayload_fields (xfer seg pos : Nat) (c : Bytes) (hx : xfer < 65536) (hc : c.length ≤ 2036) :
    fld 0 2 (segPayload xfer seg pos c) = xfer ∧ fld 2 2 (segPayload xfer seg pos c) = seg % 65536 ∧
      fld 4 4 (segPayload xfer seg pos c) = pos % 2 ^ 32 ∧ fld 8 2 (segPayload xfer seg pos c) = c.length ∧
      slice 12 c.length (segPayload xfer seg pos c) = c := by
  have hpad : c.length ≤ (c.length + 3) / 4 * 4 := by omega
  unfold segPayload
  simp only [List.append_assoc]
  refine ⟨?_, ?_, ?_, ?_, ?_⟩
  · rw [fld_leBytes]
    exact Nat.mod_eq_of_lt hx
  · rw [fld_append_right _ _ _ _ (by simp), leBytes_length, fld_leBytes]
    norm_num
  · rw [fld_append_right _ _ _ _ (by simp), leBytes_length, fld_append_right _ _ _ _ (by simp), leBytes_length, fld_leBytes]
    norm_num
  · rw [fld_append_right _ _ _ _ (by simp), leBytes_length, fld_append_right _ _ _ _ (by simp), leBytes_length,
      fld_append_right _ _ _ _ (by simp), leBytes_length, fld_leBytes]
    exact Nat.mod_eq_of_lt (by omega)
  · rw [slice, padTo_of_le _ _ hpad]
    simp [← List.append_assoc, List.drop_append]

/-- Segments as a list of frames: sub-sequences of at most 2,036 bytes in order, numbered on from seg at byte pos (R442). -/
def SegList (dst xfer seg pos : Nat) (d : Bytes) (segs : List TxFrame) : Prop :=
  (segs.map fun z => slice 12 (fld 8 2 z.payload) z.payload).flatten = d ∧
    ∀ i, ∀ h : i < segs.length, segs[i].ty = 4 ∧ segs[i].dst = dst ∧ fld 0 2 segs[i].payload = xfer ∧
      fld 2 2 segs[i].payload = (seg + i) % 65536 ∧ fld 4 4 segs[i].payload = (pos + 2036 * i) % 2 ^ 32 ∧ fld 8 2 segs[i].payload ≤ 2036

theorem segList_nil (dst xfer seg pos : Nat) : SegList dst xfer seg pos [] [] := ⟨rfl, fun _ h => absurd h (Nat.not_lt_zero _)⟩

/-- A segment ahead of the rest, which begins 2,036 bytes on where there is any. -/
theorem segList_cons {dst xfer seg pos : Nat} {c d : Bytes} {segs : List TxFrame} {g : TxFrame} (hx : xfer < 65536) (hc : c.length ≤ 2036)
    (hty : g.ty = 4) (hdst : g.dst = dst) (hpay : g.payload = segPayload xfer seg pos c)
    (hrest : SegList dst xfer (seg + 1) (pos + 2036) d segs) : SegList dst xfer seg pos (c ++ d) (g :: segs) := by
  obtain ⟨hx0, hseg, hpos, hlen, hbytes⟩ := segPayload_fields xfer seg pos c hx hc
  obtain ⟨hflat, hall⟩ := hrest
  refine ⟨?_, fun i hi => ?_⟩
  · rw [List.map_cons, List.flatten_cons, hflat, hpay, hlen, hbytes]
  · cases i with
    | zero =>
      rw [List.getElem_cons_zero, hpay]
      exact ⟨hty, hdst, hx0, hseg, hpos, hlen.le.trans hc⟩
    | succ i =>
      obtain ⟨h1, h2, h3, h4, h5, h6⟩ := hall i (Nat.lt_of_succ_lt_succ hi)
      rw [List.getElem_cons_succ]
      exact ⟨h1, h2, h3, by rw [h4]; congr 1; omega, by rw [h5]; congr 1; omega, h6⟩

theorem sendSegs_nil (s : State) (dst xfer seg pos n : Nat) : s.sendSegs dst xfer seg pos [] n = s := by
  cases n <;> rfl

/-- The segments of a read wait to be sent, in order (R442). -/
theorem sendSegs_txq {dst xfer : Nat} (hx : xfer < 65536) (n : Nat) : ∀ (s : State) (seg pos : Nat) (d : Bytes), d.length ≤ 2036 * n →
    ∃ segs, (s.sendSegs dst xfer seg pos d n).ring.txq = s.ring.txq ++ segs ∧ SegList dst xfer seg pos d segs := by
  induction n with
  | zero =>
    intro s seg pos d hd
    obtain rfl : d = [] := List.length_eq_zero_iff.1 (by omega)
    exact ⟨[], (List.append_nil _).symm, segList_nil _ _ _ _⟩
  | succ n ih =>
    intro s seg pos d hd
    by_cases h0 : d = []
    · subst h0
      exact ⟨[], by rw [sendSegs_nil, List.append_nil], segList_nil _ _ _ _⟩
    · unfold State.sendSegs
      rw [if_neg h0]
      dsimp only
      have hcut : (d.take 2036).length ≤ 2036 := by rw [List.length_take]; exact Nat.min_le_left _ _
      have hlast : d.drop 2036 = [] ∨ (d.take 2036).length = 2036 := by
        rw [List.length_take, List.drop_eq_nil_iff]
        omega
      generalize ht : s.ringSend 0x04 dst 0 _ = t
      have htxq : ∃ g : TxFrame, t.ring.txq = s.ring.txq ++ [g] ∧ g.ty = 4 ∧ g.dst = dst ∧
          g.payload = segPayload xfer seg pos (d.take 2036) := by
        rw [← ht]
        exact ⟨_, rfl, rfl, rfl, rfl⟩
      obtain ⟨g, htxq, hty, hdst, hpay⟩ := htxq
      clear ht
      rcases hlast with hlast | hlast
      · rw [hlast, sendSegs_nil]
        refine ⟨[g], htxq, ?_⟩
        have hone := segList_cons hx hcut hty hdst hpay (segList_nil _ _ _ _)
        rwa [← hlast, List.take_append_drop] at hone
      · obtain ⟨segs, hsegs, hlist⟩ := ih t (seg + 1) (pos + (d.take 2036).length) (d.drop 2036) (by rw [List.length_drop]; omega)
        rw [hlast] at hlist
        refine ⟨g :: segs, by rw [hsegs, htxq, List.append_assoc]; rfl, ?_⟩
        have hone := segList_cons hx hcut hty hdst hpay hlist
        rwa [List.take_append_drop] at hone

theorem blockRsp_txq (s : State) (dst : Nat) (p : Bytes) :
    ∃ g, (s.ringSend 0x05 dst 0 p).ring.txq = s.ring.txq ++ [g] ∧ g.ty = 5 ∧ g.dst = dst ∧ g.payload = p := ⟨_, rfl, rfl, rfl, rfl⟩

/-- A read's segments and its BLOCK_RSP (R443). -/
theorem sendRead_txq (s : State) (dst xfer key st : Nat) (d : Bytes) (hx : xfer < 65536) : ∃ segs g,
    (s.sendRead dst xfer key st d).ring.txq = s.ring.txq ++ segs ++ [g] ∧ g.ty = 5 ∧ g.dst = dst ∧
      g.payload = blockPayload st key xfer d.length (crc32 d) ∧ SegList dst xfer 0 0 d segs := by
  obtain ⟨segs, htxq, hlist⟩ := sendSegs_txq (dst := dst) hx (d.length / 2036 + 1) s 0 0 d (by omega)
  obtain ⟨g, hg, hty, hdst, hpay⟩ := blockRsp_txq (s.sendSegs dst xfer 0 0 d (d.length / 2036 + 1)) dst (blockPayload st key xfer d.length (crc32 d))
  exact ⟨segs, g, hg.trans (congrArg (· ++ [g]) htxq), hty, hdst, hpay, hlist⟩

/-! ## Writes of blocks and ranges (R446, R620) -/

theorem putBlock_refused {s : State} {o : Origin} {key off : Nat} {d : Bytes} (r : Reply) (h : s.blockCheck o key off d.length ≠ 0) :
    s.putBlock o key off d r = s.respond r (s.blockCheck o key off d.length) 0 := if_pos h

theorem putBlock_failed {s : State} {o : Origin} {key off : Nat} {d : Bytes} (r : Reply) (h : s.blockCheck o key off d.length = 0)
    (he : (s.blockPut key off d).1 ≠ 0) : s.putBlock o key off d r = (s.blockPut key off d).2.respond r (s.blockPut key off d).1 0 := by
  unfold State.putBlock
  dsimp only
  rw [if_neg (by simp [h]), if_neg he]

theorem putBlock_done {s : State} {o : Origin} {key off : Nat} {d : Bytes} (r : Reply) (h : s.blockCheck o key off d.length = 0)
    (he : (s.blockPut key off d).1 = 0) :
    s.putBlock o key off d r = ((s.blockPut key off d).2.wroteBlock o.src key d).respond r 0 0 := by
  unfold State.putBlock
  dsimp only
  rw [if_neg (by simp [h]), if_pos he]

/-- ENTRIES of a map takes its bytes as they are (R455). -/
theorem blockPut_entries (s : State) (m : Fin 8) (off : Nat) (d : Bytes) :
    s.blockPut (Reg.mapENTRIES m) off d =
      (0, s.wBlob (Reg.mapENTRIES m) (patchBytes (padTo 128 (s.blob (Reg.mapENTRIES m))) off d)) := by
  have htab : tableOf (Reg.mapENTRIES m) = none := by revert m; decide +kernel
  have howner : Reg.mapENTRIES m ≠ Reg.lcOWNER_KEY := by revert m; decide +kernel
  have hslot : ¬ (0x3408 ≤ Reg.mapENTRIES m / 256 ∧ Reg.mapENTRIES m / 256 < 0x3480) := by unfold Reg.mapENTRIES; omega
  have hskim : ¬ (0x3000 ≤ Reg.mapENTRIES m / 256 ∧ Reg.mapENTRIES m / 256 < 0x3100 ∧ Reg.mapENTRIES m / 256 % 8 = 1) := by
    unfold Reg.mapENTRIES; omega
  have hsize : blockSize (Reg.mapENTRIES m) = 128 := by revert m; decide +kernel
  have hnow : s.blockNow (Reg.mapENTRIES m) = padTo 128 (s.blob (Reg.mapENTRIES m)) := by
    unfold State.blockNow
    rw [htab]
    dsimp only
    rw [if_neg hskim, if_neg hslot, hsize]
  unfold State.blockPut
  rw [htab]
  dsimp only
  rw [if_neg howner, if_neg hslot, hnow]

theorem putRange_badCount {s : State} {o : Origin} {idx sub n : Nat} {d : Bytes} (r : Nat → Reply) (h : n = 0 ∨ 255 < n) :
    s.putRange o idx sub n d r = s.respond (r (256 * idx + sub)) 0x15 0 := if_pos h

theorem putRange_refused {s : State} {o : Origin} {idx sub n : Nat} {d : Bytes} (r : Nat → Reply) (hn : 1 ≤ n ∧ n ≤ 255)
    (h : (s.rangeCheck o idx sub ((subsFrom idx sub).take n) d).1 ≠ 0) : s.putRange o idx sub n d r =
      s.respond (r (256 * idx + (s.rangeCheck o idx sub ((subsFrom idx sub).take n) d).2))
        (s.rangeCheck o idx sub ((subsFrom idx sub).take n) d).1 0 := by
  unfold State.putRange
  dsimp only
  rw [if_neg (by omega), if_pos h]

theorem putRange_allowed {s : State} {o : Origin} {idx sub n : Nat} {d : Bytes} (r : Nat → Reply) (hn : 1 ≤ n ∧ n ≤ 255)
    (h : (s.rangeCheck o idx sub ((subsFrom idx sub).take n) d).1 = 0) : s.putRange o idx sub n d r =
      s.commitVals o.src 2 (cutValues idx ((subsFrom idx sub).take n) d)
        (r (256 * idx + (s.rangeCheck o idx sub ((subsFrom idx sub).take n) d).2)) := by
  unfold State.putRange
  dsimp only
  rw [if_neg (by omega), if_neg (by simp [h])]

/-! ## The bytes of a write are all there -/

/-- A transfer put in place goes with the one whose place it took. -/
theorem closeXfer_xferSet (s : State) (y : Xfer) : (s.xferSet y).closeXfer y.src y.xfer = s.closeXfer y.src y.xfer := by
  have hfilter : (s.xferSet y).od.xfers.filter (fun x => !(decide (x.src = y.src ∧ x.xfer = y.xfer))) =
      s.od.xfers.filter fun x => !(decide (x.src = y.src ∧ x.xfer = y.xfer)) := by
    show (s.od.xfers.map _).filter _ = _
    induction s.od.xfers with
    | nil => rfl
    | cons z l ih =>
      by_cases hz : z.src = y.src ∧ z.xfer = y.xfer
      · rw [List.map_cons, if_pos hz, List.filter_cons_of_neg (by simp), List.filter_cons_of_neg (by simp [hz]), ih]
      · rw [List.map_cons, if_neg hz, List.filter_cons_of_pos (by rw [decide_eq_false hz]; rfl),
          List.filter_cons_of_pos (by rw [decide_eq_false hz]; rfl), ih]
  unfold State.closeXfer
  rw [hfilter]
  rfl

/-- What is told of a block or range write. -/
abbrev xferReply (x : Xfer) (d : Bytes) (key : Nat) : Reply := .block x.src key x.xfer d.length (crc32 d)

/-- The newest segment completes a block write. -/
theorem segIn_block {s : State} {f : RingFrame} {x : Xfer} {d : Bytes}
    (hx : (s.od.xfers.find? fun z => decide (z.src = f.src ∧ z.xfer = fld 0 2 f.payload)) = some x)
    (hd : (x.took s.up f.payload).bytes = some d) (hop : x.op = 2) : s.segIn f =
      ((s.closeXfer x.src x.xfer).putBlock ⟨x.src, x.epoch⟩ (256 * x.index + x.sub) x.offset d
        (xferReply x d (256 * x.index + x.sub))).done := by
  rw [segIn_eq hx]
  unfold State.applyXfer
  rw [hd]
  dsimp only
  rw [if_pos (by exact hop), closeXfer_xferSet]
  rfl

/-- The newest segment completes a range write. -/
theorem segIn_range {s : State} {f : RingFrame} {x : Xfer} {d : Bytes}
    (hx : (s.od.xfers.find? fun z => decide (z.src = f.src ∧ z.xfer = fld 0 2 f.payload)) = some x)
    (hd : (x.took s.up f.payload).bytes = some d) (hop : x.op ≠ 2) : s.segIn f =
      ((s.closeXfer x.src x.xfer).putRange ⟨x.src, x.epoch⟩ x.index x.sub x.count d (xferReply x d)).done := by
  rw [segIn_eq hx]
  unfold State.applyXfer
  rw [hd]
  dsimp only
  rw [if_neg (by exact hop), closeXfer_xferSet]
  rfl

end Sys2Proof.Machine
end

section
/-! PROOFS. Requests, block and range transfers: the clauses of O44. -/

namespace Sys2Proof.Machine

theorem reqKey_div (p : Bytes) : reqKey p / 256 = fld 2 2 p := by
  have := fld_lt 1 1 p
  unfold reqKey
  omega

/-- Where the newest segment leaves bytes missing. -/
theorem segIn_open {s : State} {f : RingFrame} {x : Xfer}
    (hx : (s.od.xfers.find? fun z => decide (z.src = f.src ∧ z.xfer = fld 0 2 f.payload)) = some x)
    (h : (x.took s.up f.payload).bytes = none) :
    s.segIn f = { s with od := (s.segIn f).od } ∧ x.took s.up f.payload ∈ (s.segIn f).od.xfers := by
  rw [segIn_eq hx, applyXfer_of_none _ h]
  obtain ⟨hmem, -, -⟩ := key_of_find hx
  exact ⟨rfl, List.mem_map.2 ⟨x, hmem, if_pos ⟨rfl, rfl⟩⟩⟩

theorem newestOwn_respond_failed (s : State) (dst key xfer n crc tok : Nat) {st : Nat} (h : st ≠ 0) :
    NewestOwn (s.respond (.block dst key xfer n crc) st tok) 5 dst (blockPayload st key xfer 0 0) := by
  have hnew := newestOwn_respond_block s dst key xfer n crc st tok
  rwa [if_neg h] at hnew

/-- A block write whose bytes are all there, as O44 tells it. -/
theorem putBlock_ends (c : State) (w : Origin) (x : Xfer) (k : Nat) (d : Bytes) {dst : Nat} (hdst : x.src = dst) :
    let u := c.putBlock w k x.offset d (xferReply x d k)
    let st := c.blockCheck w k x.offset d.length
    (st ≠ 0 → u = { c with ring := u.ring } ∧ NewestOwn u 5 dst (blockPayload st k x.xfer 0 0)) ∧
    (st = 0 → ((c.blockPut k x.offset d).1 ≠ 0 → u = { (c.blockPut k x.offset d).2 with ring := u.ring } ∧
        NewestOwn u 5 dst (blockPayload (c.blockPut k x.offset d).1 k x.xfer 0 0)) ∧
      ((c.blockPut k x.offset d).1 = 0 → NewestOwn u 5 dst (blockPayload 0 k x.xfer d.length (crc32 d))) ∧
      ∀ m : Fin 8, k = Reg.mapENTRIES m → u.blob k = patchBytes (padTo 128 (c.blob k)) x.offset d) := by
  subst hdst
  intro u st
  refine ⟨fun h => ?_, fun h => ⟨fun he => ?_, fun he => ?_, ?_⟩⟩
  · have hu : u = c.respond (xferReply x d k) st 0 := putBlock_refused _ h
    rw [hu]
    exact ⟨rfl, newestOwn_respond_failed _ _ _ _ _ _ _ h⟩
  · have hu : u = _ := putBlock_failed _ h he
    rw [hu]
    exact ⟨rfl, newestOwn_respond_failed _ _ _ _ _ _ _ he⟩
  · have hu : u = _ := putBlock_done _ h he
    rw [hu]
    exact newestOwn_respond_block _ _ _ _ _ _ 0 0
  · rintro m rfl
    have hu : u = _ := putBlock_done _ h (congrArg Prod.fst (blockPut_entries c m x.offset d))
    rw [hu, respond_blob, blob_of_book (book_wroteBlock _ _ _ _), blockPut_entries, State.wBlob_blob, if_pos rfl]

/-- A range write whose bytes are all there, as O44 tells it. -/
theorem putRange_ends (c : State) (w : Origin) (x : Xfer) (d : Bytes) {dst : Nat} (hdst : x.src = dst) :
    let u := c.putRange w x.index x.sub x.count d (xferReply x d)
    let q := c.rangeCheck w x.index x.sub ((subsFrom x.index x.sub).take x.count) d
    let vals := cutValues x.index ((subsFrom x.index x.sub).take x.count) d
    (x.count = 0 ∨ 255 < x.count → u = { c with ring := u.ring } ∧
      NewestOwn u 5 dst (blockPayload 0x15 (256 * x.index + x.sub) x.xfer 0 0)) ∧
    (1 ≤ x.count → x.count ≤ 255 →
      (q.1 ≠ 0 → u = { c with ring := u.ring } ∧ NewestOwn u 5 dst (blockPayload q.1 (256 * x.index + q.2) x.xfer 0 0)) ∧
      (q.1 = 0 → (vals.any fun e => c.admits e.1 e.2) = false →
        NewestOwn u 5 dst (blockPayload 0 (256 * x.index + q.2) x.xfer d.length (crc32 d)) ∧
        ∀ v, vals = [(Reg.timeSYNC_EXPECT, v)] → u.r Reg.timeSYNC_EXPECT = v)) := by
  subst hdst
  intro u q vals
  refine ⟨fun h => ?_, fun h1 h2 => ⟨fun hq => ?_, fun hq hadm => ⟨?_, fun v hv => ?_⟩⟩⟩
  · have hu : u = _ := putRange_badCount _ h
    rw [hu]
    exact ⟨rfl, newestOwn_respond_block _ _ _ _ _ _ 0x15 0⟩
  · have hu : u = _ := putRange_refused _ ⟨h1, h2⟩ hq
    rw [hu]
    exact ⟨rfl, newestOwn_respond_failed _ _ _ _ _ _ _ hq⟩
  · have hu : u = c.commitVals w.src 2 vals _ := putRange_allowed _ ⟨h1, h2⟩ hq
    rw [hu, commitVals_of_not_admits hadm]
    exact newestOwn_respond_block _ _ _ _ _ _ 0 0
  · have hu : u = c.commitVals w.src 2 vals _ := putRange_allowed _ ⟨h1, h2⟩ hq
    rw [hu, commitVals_of_not_admits hadm, hv, stored_of_inert c v inert_syncExpect,
      finish_of_inert c c _ _ v _ inert_syncExpect rfl (by decide), respond_r, putValue_r _ _ _ _ _ _ (by decide), if_pos rfl]

/-- A read, as O44 tells it: the frames that it sends, and nothing else. -/
theorem sendRead_sent (c : State) (dst req k st : Nat) (d : Bytes) (hreq : req < 65536) :
    let t := c.sendRead dst req k st d
    t = { c with ring := t.ring } ∧ ∃ segs g, t.ring.txq = c.ring.txq ++ segs ++ [g] ∧ g.ty = 5 ∧ g.dst = dst ∧
      g.payload = blockPayload st k req d.length (crc32 d) ∧ (segs.map fun z => slice 12 (fld 8 2 z.payload) z.payload).flatten = d ∧
      ∀ i, ∀ h : i < segs.length, segs[i].ty = 4 ∧ segs[i].dst = dst ∧ fld 0 2 segs[i].payload = req ∧
        fld 2 2 segs[i].payload = i % 65536 ∧ fld 4 4 segs[i].payload = 2036 * i % 2 ^ 32 ∧ fld 8 2 segs[i].payload ≤ 2036 := by
  obtain ⟨segs, g, htxq, hty, hdst, hpay, hflat, hall⟩ := sendRead_txq c dst req k st d hreq
  refine ⟨sendRead_eq _ _ _ _ _ _, segs, g, htxq, hty, hdst, hpay, hflat, fun i hi => ?_⟩
  have h := hall i hi
  rwa [Nat.zero_add, Nat.zero_add] at h

/-- A read of one object, as O44 tells it. -/
theorem readObj_cases (b : State) (src idx key : Nat) (P : Nat → Nat → Bytes → Prop) (hidx : key / 256 = idx)
    (hP : P (b.readObj src key).1 (b.readObj src key).2.1 (b.readObj src key).2.2) :
    (indexExists idx = false → P 0x10 0 []) ∧
    (indexExists idx = true → key % 256 ≠ 0 → rowAt key = none → P 0x11 0 []) ∧
    (indexExists idx = true → key % 256 = 0 → rowAt key = none → if b.mayRead src key then P 0 0 (leBytes 1 (topSub idx)) else P 0x18 0 []) ∧
    (indexExists idx = true → ∀ r, rowAt key = some r → (b.mayRead src key = false → P 0x18 0 []) ∧
      (b.mayRead src key = true → (r.acc = .wo ∨ r.acc = .act → P 0x13 0 []) ∧
        (r.acc ≠ .wo → r.acc ≠ .act → (r.ty = .block → P 0x17 0 []) ∧
          (r.ty ≠ .block → (b.resultReq key = none → P 0 0 (b.readBytes key)) ∧
            ∀ q, b.resultReq key = some q → if q.busy then P 3 q.tok [] else P 0 q.tok (b.readBytes key))))) := by
  subst hidx
  refine ⟨fun h => ?_, fun h h0 hr => ?_, fun h h0 hr => ?_, fun h r hr => ?_⟩
  · rwa [readObj_noIndex h] at hP
  · rwa [readObj_noSub h h0 hr] at hP
  · rw [readObj_sub0 h h0 hr] at hP
    split <;> simp_all
  · rw [readObj_row h hr] at hP
    refine ⟨fun hm => ?_, fun hm => ⟨fun ha => ?_, fun hwo hact => ⟨fun hb => ?_, fun hb => ⟨fun hq => ?_, fun q hq => ?_⟩⟩⟩⟩
    · rwa [if_pos hm] at hP
    · rwa [if_neg (by simp [hm]), if_pos ha] at hP
    · rwa [if_neg (by simp [hm]), if_neg (by simp [hwo, hact]), if_pos hb] at hP
    · rwa [if_neg (by simp [hm]), if_neg (by simp [hwo, hact]), if_neg hb, hq] at hP
    · rw [if_neg (by simp [hm]), if_neg (by simp [hwo, hact]), if_neg hb, hq] at hP
      dsimp only at hP
      cases hbusy : q.busy <;> simpa [hbusy] using hP

/-- A write of one object, as O44 tells it. -/
theorem putObj_cases (b : State) (o : Origin) (key len v dst req : Nat) :
    let u := b.putObj o key len v (.obj dst key req)
    let act := (rowAt key).any fun r => r.acc = .act
    let st := b.accCheck o key len v (act || b.relOk (b.w key v) key)
    (st ≠ 0 → u = { b with ring := u.ring, od := u.od } ∧
      NewestOwn u 2 dst (rspPayload st key req (if st = 0x1A then (b.act key).tok else 0) [])) ∧
    (st = 0 → act = false → b.admits key v = false → NewestOwn u 2 dst (rspPayload 0 key req 0 []) ∧
      (key = Reg.timeSYNC_EXPECT → u.r key = v)) ∧
    (st = 0 → key = Reg.nodeRING_JOIN → ∃ g ∈ u.ring.txq, g.ty = 2 ∧ g.dst = dst ∧ g.payload = rspPayload 0 key req b.nextToken []) := by
  intro u act st
  refine ⟨fun h => ?_, fun h hact hadm => ⟨?_, ?_⟩, ?_⟩
  · have hu : u = _ := putObj_refused _ h
    rw [hu]
    exact ⟨rfl, newestOwn_respond_obj _ _ _ _ _ _⟩
  · have hst : b.accCheck o key len v (b.relOk (b.w key v) key) = 0 := by rw [← h]; show _ = b.accCheck o key len v (act || _); rw [hact]; rfl
    obtain ⟨t, ht⟩ := putObj_responds (.obj dst key req) hact hst hadm
    have hu : u = t.respond (.obj dst key req) 0 0 := ht
    rw [hu]
    exact newestOwn_respond_obj _ _ _ _ _ _
  · rintro rfl
    have hst : b.accCheck o Reg.timeSYNC_EXPECT len v (b.relOk (b.w Reg.timeSYNC_EXPECT v) Reg.timeSYNC_EXPECT) = 0 := by
      rw [← h]; show _ = b.accCheck o _ len v (act || _); rw [hact]; rfl
    have hu : u = _ := putObj_inert _ hact inert_syncExpect rfl (by decide) (by decide) (by decide) hst
    rw [hu, respond_r, putValue_r _ _ _ _ _ _ (by decide), if_pos rfl]
  · rintro h rfl
    have hact : act = true := by decide
    rw [show st = b.accCheck o Reg.nodeRING_JOIN len v (act || b.relOk (b.w Reg.nodeRING_JOIN v) Reg.nodeRING_JOIN) from rfl, hact,
      Bool.true_or] at h
    exact putObj_ringJoin h

end Sys2Proof.Machine

open Sys2Proof Sys2Proof.Machine

/-- Settles O44: each request, read and write ends as its checks say. -/
theorem objectTransfers : Obligations.ObjectTransfers := by
  intro dt f s a b p idx key req o rsp brsp hme hep
  have hb : b = a.heard (if f.src = 0 then some a.up else a.ring.lastMaster) := fromMaster_heard fun _ => hep
  generalize hx0 : (if f.src = 0 then some a.up else a.ring.lastMaster) = x0 at hb
  have hobj : f.ty = 1 → ∀ c ∈ [(1, Instr.objReqRead dt f), (2, .objReqWrite dt f)], fld 0 1 f.payload = c.1 → exec c.2 s = .next (b.objReq f) :=
    exec_objCmds hme
  have hblock : f.ty = 3 → ∀ e ∈ blockCmds dt f, fld 0 1 f.payload = e.1 → exec e.2 s = .next (b.blockReq f) := fun hty e he hop => by
    rw [exec_blockCmds he s, blockFrame_forMe hme hty hop]
  have hseg : f.ty = 4 → exec (.blockData dt f) s = .next (b.segIn f) := fun hty => congrArg Host.Outcome.next (blockData_forMe hme hty)
  clear_value b
  subst hb
  refine ⟨fun hty k hk c hc hop => ⟨_, hobj hty c hc hop, ?_⟩, fun hty hk hp => ⟨fun hop => ?_, fun hop => ?_⟩, ?_, fun hty x hx => ?_⟩
  · rw [objReq_kept (s := a.heard x0) hk]
    exact ⟨newestOwn_ringSend _ _ _ _ _ (by decide), rfl⟩
  · refine ⟨_, hobj hty (1, .objReqRead dt f) List.mem_cons_self hop, ?_⟩
    rw [objReq_read (s := a.heard x0) hk hp hop]
    exact ⟨rfl, keptOf_objRsp _ _ _ _, readObj_cases (a.heard x0) f.src idx key (fun st tok d => rsp _ st tok d) (reqKey_div _)
      (newestOwn_objRsp _ _ _ _)⟩
  · intro n d act v len st
    have hexec := hobj hty (2, .objReqWrite dt f) (List.mem_cons_of_mem _ List.mem_cons_self) hop
    rw [objReq_write (s := a.heard x0) hk hp hop] at hexec
    obtain ⟨hno, hyes, hjoin⟩ := putObj_cases (a.heard x0) o key len v f.src req
    exact ⟨fun h => ⟨_, hexec, hno h⟩, fun h ha hadm => ⟨_, hexec, hyes h ha hadm⟩, fun h hk => ⟨_, hexec, hjoin h hk⟩⟩
  · intro hty c x sent hfree
    refine ⟨?_, ?_, ?_⟩
    · intro hop r
      refine ⟨_, hblock hty (1, .blockRead dt f) (by simp [blockCmds]) hop, ?_⟩
      rw [blockReq_read (a.heard x0) f hfree hop]
      exact sendRead_sent c f.src req key r.1 r.2 (fld_lt 4 2 p)
    · intro hop r
      refine ⟨_, hblock hty (3, .rangeRead dt f) (by simp [blockCmds]) hop, ?_⟩
      rw [blockReq_range (a.heard x0) f hfree hop]
      exact sendRead_sent c f.src req (256 * idx + r.2.1) r.1 r.2.2 (fld_lt 4 2 p)
    · intro e he hop hlen
      have hmem : e ∈ blockCmds dt f := by
        simp only [List.mem_cons, List.not_mem_nil, or_false] at he
        rcases he with rfl | rfl <;> simp [blockCmds]
      have hw : fld 0 1 f.payload = 2 ∨ fld 0 1 f.payload = 4 := by
        rw [show fld 0 1 f.payload = e.1 from hop]
        simp only [List.mem_cons, List.not_mem_nil, or_false] at he
        rcases he with rfl | rfl <;> simp
      refine ⟨_, hblock hty e hmem hop, ?_⟩
      rw [blockReq_write (a.heard x0) f hfree hw hlen]
      exact ⟨rfl, rfl⟩
  · intro off y c w
    obtain ⟨-, hsrc, -⟩ := key_of_find hx
    refine ⟨fun hnone => ⟨_, hseg hty, segIn_open (s := a.heard x0) hx hnone⟩, ?_⟩
    intro d hd ok no
    refine ⟨?_, ?_⟩
    · intro hop k st
      have hexec := hseg hty
      rw [segIn_block (s := a.heard x0) hx hd hop] at hexec
      obtain ⟨hno, hyes⟩ := putBlock_ends c w x k d hsrc
      refine ⟨fun h => ⟨_, hexec, hno h⟩, fun h => ?_⟩
      obtain ⟨hfail, hdone, hmap⟩ := hyes h
      exact ⟨fun he => ⟨_, hexec, hfail he⟩, fun he => ⟨_, hexec, hdone he⟩, fun m hm => ⟨_, hexec, hmap m hm⟩⟩
    · intro hop
      have hexec := hseg hty
      rw [segIn_range (s := a.heard x0) hx hd hop] at hexec
      obtain ⟨hbad, hall⟩ := putRange_ends c w x d hsrc
      refine ⟨fun h => ⟨_, hexec, hbad h⟩, fun h1 h2 => ?_⟩
      obtain ⟨hno, hyes⟩ := hall h1 h2
      exact ⟨fun h => ⟨_, hexec, hno h⟩, fun h hadm => ⟨_, hexec, hyes h hadm⟩⟩
end

section
/-! PROOFS. Enumeration (O42): the layout of ENUM (R416). -/

namespace Sys2Proof.Machine

/-! ## Bytes put in place -/

/-- Bytes put in place within a sequence keep its length. -/
theorem patchBytes_length {b : Bytes} {o : Nat} {d : Bytes} (h : o + d.length ≤ b.length) : (patchBytes b o d).length = b.length := by
  simp only [patchBytes, List.length_append, List.length_take, List.length_drop]
  omega

/-- A field of the bytes put in place. -/
theorem fld_patchBytes_in {b : Bytes} {o i n : Nat} {d : Bytes} (ho : o ≤ b.length) (h : i + n ≤ d.length) :
    fld (o + i) n (patchBytes b o d) = fld i n d := by
  have htake : (b.take o).length = o := List.length_take_of_le ho
  rw [patchBytes, List.append_assoc, fld_append_right _ _ _ _ (by omega), htake, Nat.add_sub_cancel_left, fld_append_left _ _ _ _ h]

/-- A byte outside of those put in place. -/
theorem getElem?_patchBytes {b : Bytes} {o i : Nat} {d : Bytes} (h : o + d.length ≤ b.length) (hi : i < o ∨ o + d.length ≤ i) :
    (patchBytes b o d)[i]? = b[i]? := by
  have htake : (b.take o).length = o := List.length_take_of_le (by omega)
  rw [patchBytes, List.append_assoc]
  rcases hi with hi | hi
  · rw [List.getElem?_append_left (by omega), List.getElem?_take_of_lt hi]
  · rw [List.getElem?_append_right (by omega), List.getElem?_append_right (by omega), List.getElem?_drop, htake]
    congr 1
    omega

/-- A field of one byte is that byte. -/
theorem fld_one (o : Nat) (b : Bytes) : fld o 1 b = (b[o]?.map BitVec.toNat).getD 0 := by
  rw [fld, ← List.head?_drop]
  cases b.drop o <;> rfl

theorem fld_one_patchBytes {b : Bytes} {o i : Nat} {d : Bytes} (h : o + d.length ≤ b.length) (hi : i < o ∨ o + d.length ≤ i) :
    fld i 1 (patchBytes b o d) = fld i 1 b := by
  rw [fld_one, fld_one, getElem?_patchBytes h hi]

/-- Two bytes. -/
theorem fld_pair (x y : Nat) : fld 0 1 (leBytes 1 x ++ leBytes 1 y) = x % 256 ∧ fld 1 1 (leBytes 1 x ++ leBytes 1 y) = y % 256 := by
  refine ⟨fld_leBytes 1 x _, ?_⟩
  rw [fld_append_right _ _ _ _ (by simp), leBytes_length, Nat.sub_self, ← List.append_nil (leBytes 1 y), fld_leBytes, pow_one]

/-! ## The record of a device -/

/-- The record that a device of an address writes into ENUM. -/
def enumRecord (addr clash : Nat) (serial : Bytes) : Bytes :=
  leBytes 1 addr ++ leBytes 1 1 ++ leBytes 1 clash ++ leBytes 1 0 ++ padTo 12 serial

theorem enumRecord_length (addr clash : Nat) (serial : Bytes) : (enumRecord addr clash serial).length = 16 := by
  simp [enumRecord]

theorem enumRecord_fields {addr clash : Nat} (serial : Bytes) (ha : addr < 256) (hc : clash < 256) :
    fld 0 1 (enumRecord addr clash serial) = addr ∧ fld 1 1 (enumRecord addr clash serial) = 1 ∧
      fld 2 1 (enumRecord addr clash serial) = clash ∧ fld 3 1 (enumRecord addr clash serial) = 0 ∧
      (enumRecord addr clash serial).drop 4 = padTo 12 serial := by
  have hbytes : enumRecord addr clash serial = BitVec.ofNat 8 addr :: 1 :: BitVec.ofNat 8 clash :: 0 :: padTo 12 serial := rfl
  have haddr : (BitVec.ofNat 8 addr).toNat = addr := by rw [BitVec.toNat_ofNat]; exact Nat.mod_eq_of_lt ha
  have hclash : (BitVec.ofNat 8 clash).toNat = clash := by rw [BitVec.toNat_ofNat]; exact Nat.mod_eq_of_lt hc
  simp only [hbytes, fld_one, List.getElem?_cons_zero, List.getElem?_cons_succ, List.drop_succ_cons, List.drop_zero, Option.map_some,
    Option.getD_some, haddr, hclash]
  decide

/-- The frame that goes on: NEXT and K anew, and the device's record. -/
def enumOut (p : Bytes) (next : Nat) (record : Bytes) : Bytes :=
  patchBytes (patchBytes p 0 (leBytes 1 ((fld 0 1 p + 1) % 256) ++ leBytes 1 next)) (4 + 16 * fld 0 1 p) record

section
variable {p record : Bytes} {next : Nat} (hp : p.length = 1028) (hk : fld 0 1 p < 64) (hrec : record.length = 16)
include hp hk hrec

omit hk hrec in
theorem enumHead_length : (patchBytes p 0 (leBytes 1 ((fld 0 1 p + 1) % 256) ++ leBytes 1 next)).length = 1028 := by
  rw [patchBytes_length (by simp; omega), hp]

theorem enumOut_length : (enumOut p next record).length = 1028 := by
  have hhead := enumHead_length (next := next) hp
  rw [enumOut, patchBytes_length (by omega), hhead]

theorem enumOut_head (hn : next < 256) : fld 0 1 (enumOut p next record) = fld 0 1 p + 1 ∧ fld 1 1 (enumOut p next record) = next := by
  have hhead := enumHead_length (next := next) hp
  have hin (i : Nat) (hi : i < 2) : fld i 1 (enumOut p next record) = fld i 1 (leBytes 1 ((fld 0 1 p + 1) % 256) ++ leBytes 1 next) := by
    have hfld := fld_patchBytes_in (b := p) (o := 0) (i := i) (n := 1) (d := leBytes 1 ((fld 0 1 p + 1) % 256) ++ leBytes 1 next)
      (Nat.zero_le _) (by simp; omega)
    rw [Nat.zero_add] at hfld
    rw [enumOut, fld_one_patchBytes (by omega) (by omega), hfld]
  obtain ⟨h0, h1⟩ := fld_pair ((fld 0 1 p + 1) % 256) next
  rw [hin 0 (by decide), hin 1 (by decide), h0, h1]
  omega

theorem enumOut_record (i : Nat) (hi : i < 16) : fld (4 + i + 16 * fld 0 1 p) 1 (enumOut p next record) = fld i 1 record := by
  have hhead := enumHead_length (next := next) hp
  rw [enumOut, show 4 + i + 16 * fld 0 1 p = 4 + 16 * fld 0 1 p + i by omega, fld_patchBytes_in (by omega) (by omega)]

theorem enumOut_serial : ((enumOut p next record).drop (8 + 16 * fld 0 1 p)).take 12 = record.drop 4 := by
  have hhead := enumHead_length (next := next) hp
  have htake : ((patchBytes p 0 (leBytes 1 ((fld 0 1 p + 1) % 256) ++ leBytes 1 next)).take (4 + 16 * fld 0 1 p)).length = 4 + 16 * fld 0 1 p :=
    List.length_take_of_le (by omega)
  rw [enumOut, patchBytes, List.append_assoc, List.drop_append, List.drop_eq_nil_of_le (by omega), List.nil_append, htake,
    show 8 + 16 * fld 0 1 p - (4 + 16 * fld 0 1 p) = 4 by omega, List.drop_append_of_le_length (by omega),
    List.take_append_of_le_length (by simp; omega), List.take_of_length_le (by simp; omega)]

theorem enumOut_rest (j : Nat) (hj : 4 ≤ j) (hout : j < 4 + 16 * fld 0 1 p ∨ 20 + 16 * fld 0 1 p ≤ j) :
    (enumOut p next record)[j]? = p[j]? := by
  have hhead := enumHead_length (next := next) hp
  rw [enumOut, getElem?_patchBytes (by omega) (by omega), getElem?_patchBytes (by simp; omega) (by simp; omega)]

end

/-! ## The device's part -/

/-- Does an address stand in one of the first k records? -/
def enumClash (p : Bytes) (k addr : Nat) : Bool := (List.range k).any fun i => decide (fld (4 + 16 * i) 1 p = addr)

theorem enumClash_iff (p : Bytes) (k addr : Nat) : enumClash p k addr = true ↔ ∃ i, i < k ∧ fld (4 + 16 * i) 1 p = addr := by
  simp [enumClash]

/-- What ENUM makes of the device and of the frame. -/
theorem enumIn_eq (s : State) (f : RingFrame) (hp : f.payload.length = 1028) (hk : fld 0 1 f.payload < 64) : s.enumIn f =
    let own := s.r Reg.nodeNODE_ADDR
    let addr := if 1 ≤ own ∧ own ≤ 63 then own else fld 1 1 f.payload
    let clash := b2n (enumClash f.payload (fld 0 1 f.payload) addr)
    ((s.wAll [(Reg.nodeACTIVE_ADDR, addr), (Reg.nodeADDR_CONFLICT, clash)]).done,
      enumOut f.payload (if 1 ≤ own ∧ own ≤ 63 then fld 1 1 f.payload else (fld 1 1 f.payload + 1) % 256)
        (enumRecord addr clash s.fac.serial)) := by
  have hmin : min (fld 0 1 f.payload) 64 = fld 0 1 f.payload := by omega
  unfold State.enumIn
  simp only [hmin, decide_eq_true_eq, if_pos (show fld 0 1 f.payload < 64 ∧ 4 + 16 * fld 0 1 f.payload + 16 ≤ f.payload.length by omega)]
  rfl

theorem wAll_pair_r (s : State) {k j : Nat} (v w i : Nat) : (s.wAll [(k, v), (j, w)]).r i = if i = j then w else if i = k then v else s.r i := by
  show ((s.w k v).w j w).r i = _
  rw [State.w_r, State.w_r]

end Sys2Proof.Machine

open Sys2Proof Sys2Proof.Machine

/-- Settles O42: the ENUM frame's fields are those put in place, and a device in conflict consumes nothing. -/
theorem enumeration : Obligations.Enumeration := by
  intro dt f s a p k own fixed addr clash
  have hheard : a.fromMaster f false = a.heard (if f.src = 0 then some a.up else a.ring.lastMaster) := fromMaster_heard (fun h => nomatch h)
  refine ⟨fun hty hall hp hk => ?_, fun hconf hwhole hnbr hhops haddr hsrc hdst => ?_⟩
  · have hexec : exec (.enum dt f) s = .next (((a.fromMaster f false).enumIn f).1.ringForward f ((a.fromMaster f false).enumIn f).2 false) := by
      refine congrArg Host.Outcome.next ?_
      unfold State.frameIn
      rw [if_pos hty, ringIn_forAll hall (by rw [hty]; decide) (by rw [hty]; decide)]
    rw [hheard, enumIn_eq _ f hp hk] at hexec
    have hnext := fld_lt 1 1 p
    have hle : addr < 256 := by
      show (if fixed then own else fld 1 1 p) < 256
      split <;> omega
    have hflag : enumClash p k addr = true ↔ clash := enumClash_iff p k addr
    obtain ⟨h0, h1, h2, h3, hser⟩ := enumRecord_fields (addr := addr) (clash := b2n (enumClash p k addr)) a.fac.serial hle
      (by cases enumClash p k addr <;> decide)
    have hlen := enumRecord_length addr (b2n (enumClash p k addr)) a.fac.serial
    obtain ⟨hk1, hn1⟩ := enumOut_head (next := if fixed then fld 1 1 p else (fld 1 1 p + 1) % 256) hp hk hlen (by split <;> omega)
    have hone : (b2n (enumClash p k addr) = 1 ↔ clash) ∧ (b2n (enumClash p k addr) = 0 ↔ ¬ clash) := by
      rw [← hflag]
      cases enumClash p k addr <;> decide
    have hflagOut := (enumOut_record (next := if fixed then fld 1 1 p else (fld 1 1 p + 1) % 256) hp hk hlen 2 (by decide)).trans h2
    refine ⟨_, _, hexec, ?_, ?_, ?_, ?_, enumOut_length hp hk hlen, hk1, hn1, ?_, ?_, ?_, ?_, ?_, ?_, enumOut_rest hp hk hlen⟩
    · exact wAll_pair_r _ _ _ _
    · rw [wAll_pair_r]; exact hone.1
    · rw [wAll_pair_r]; exact hone.2
    · intro i hi
      simp only [List.mem_cons, List.not_mem_nil, or_false, not_or] at hi
      rw [wAll_pair_r, if_neg hi.2, if_neg hi.1, heard_r]
    · exact (enumOut_record hp hk hlen 0 (by decide)).trans h0
    · exact (enumOut_record hp hk hlen 1 (by decide)).trans h1
    · exact (Eq.congr_left hflagOut).trans hone.1
    · exact (Eq.congr_left hflagOut).trans hone.2
    · exact (enumOut_record hp hk hlen 3 (by decide)).trans h3
    · exact (enumOut_serial hp hk hlen).trans hser
  · have hcons : a.consumes f = false := by simp [State.consumes, hconf]
    have hnot : a.addr ≠ some f.src := by rw [haddr]; exact fun he => hsrc (Option.some.inj he).symm
    refine congrArg Host.Outcome.next ?_
    rw [ringIn_whole hwhole, if_neg (by simp [hnbr]), if_neg (Nat.not_le.2 hhops), if_neg hnot, if_neg (by simp [hcons])]
    simp only [hdst, false_and, if_false]
end

section
/-! PROOFS. RING_STATUS, wrap and unwrap (O40): what a change of a port's lanes or neighbour makes of the port. -/

namespace Sys2Proof.Machine

/-! ## Steps over the two ports -/

/-- Of a step for each port only the one of port p changes a view of port p. -/
theorem each_port {α : Type} (view : State → α) (F : Nat → State → State) (s : State) {p : Nat} (hp : p < 2)
    (h : ∀ q t, q < 2 → q ≠ p → view (F q t) = view t) :
    ∃ t, view t = view s ∧ view (s.each (List.range 2) F) = view (F p t) := by
  show ∃ t, view t = view s ∧ view (F 1 (F 0 s)) = view (F p t)
  have hcase : p = 0 ∨ p = 1 := by omega
  rcases hcase with rfl | rfl
  · exact ⟨s, rfl, h 1 _ (by decide) (by decide)⟩
  · exact ⟨F 0 s, h 0 s (by decide) (by decide), rfl⟩

theorem port_wPort (s : State) (q : Nat) (x : Port) (p : Nat) : (s.wPort q x).port p = if p = q then x else s.port p :=
  tget_tset _ _ _ _ _

/-! ## The state of a port -/

/-- The registers by which a port goes: its own state and neighbour, and those of lanes. -/
def portKey (p k : Nat) : Bool := decide (k = Reg.portPORT_STATE p ∨ k = Reg.portNEIGHBOUR p ∨ k / 65536 = 0x23)

theorem portKey_lane {p l : Nat} (hl : l < 256) : portKey p (Reg.laneLANE_STATE l) = true ∧ portKey p (Reg.laneRATE_ACTIVE l) = true :=
  ⟨decide_eq_true (by unfold Reg.laneLANE_STATE; omega), decide_eq_true (by unfold Reg.laneRATE_ACTIVE; omega)⟩

/-- What of the state concerns port p. -/
def State.portSide (p : Nat) (s : State) : (Nat → Nat) × Clk × Port := (s.on (portKey p), s.clk, s.port p)

theorem portSide_iff {p : Nat} {s t : State} : t.portSide p = s.portSide p ↔
    t.on (portKey p) = s.on (portKey p) ∧ t.clk = s.clk ∧ t.port p = s.port p := by
  simp only [State.portSide, Prod.mk.injEq]

/-- A port is what its own lanes and its newest RING_STATUS make of it. -/
theorem portNow_congr {s t : State} {p : Nat} (hp : p < 2) (hr : t.on (portKey p) = s.on (portKey p)) (hclk : t.clk = s.clk)
    (hdesk : (t.port p).deskewed = (s.port p).deskewed) (hlast : (t.port p).lastStatus = (s.port p).lastStatus) :
    t.portNow p = s.portNow p := by
  have hlane : ∀ l ∈ portLanes p, l < 256 := by
    intro l hl
    obtain ⟨i, hi, rfl⟩ := List.mem_map.1 hl
    have := List.mem_range.1 hi
    omega
  have hst (l : Nat) (hl : l < 256) : t.r (Reg.laneLANE_STATE l) = s.r (Reg.laneLANE_STATE l) := on_r hr _ (portKey_lane hl).1
  have hrate (l : Nat) (hl : l < 256) : t.r (Reg.laneRATE_ACTIVE l) = s.r (Reg.laneRATE_ACTIVE l) := on_r hr _ (portKey_lane hl).2
  have hall (P Q : Nat → Bool) (h : ∀ l, l < 256 → P l = Q l) : (portLanes p).all P = (portLanes p).all Q := by
    rw [Bool.eq_iff_iff, List.all_eq_true, List.all_eq_true]
    exact forall₂_congr fun l hl => by rw [h l (hlane l hl)]
  have hany (P Q : Nat → Bool) (h : ∀ l, l < 256 → P l = Q l) : (portLanes p).any P = (portLanes p).any Q := by
    rw [Bool.eq_iff_iff, List.any_eq_true, List.any_eq_true]
    exact exists_congr fun l => and_congr_right fun hl => by rw [h l (hlane l hl)]
  have hbond : t.portBonded p = s.portBonded p := by
    unfold State.portBonded State.laneUp
    simp only [hdesk, hrate (80 + 4 * p) (by omega)]
    rw [hall _ _ fun l hl => by rw [hst l hl, hrate l hl]]
  have hheard : t.portHeard p = s.portHeard p := by
    unfold State.portHeard State.up
    rw [hlast, hclk]
  unfold State.portNow
  have hallSt (P : Nat → Bool) := hall (fun l => P (t.r (Reg.laneLANE_STATE l))) _ fun l hl => congrArg P (hst l hl)
  have hanySt (P : Nat → Bool) := hany (fun l => P (t.r (Reg.laneLANE_STATE l))) _ fun l hl => congrArg P (hst l hl)
  rw [hbond, hheard, hallSt fun v => decide (v = 6), hanySt fun v => decide (1 ≤ v) && decide (v ≤ 3),
    hallSt fun v => decide (1 ≤ v) && decide (v ≤ 4)]

theorem portSide_now {s t : State} {p : Nat} (hp : p < 2) (h : t.portSide p = s.portSide p) :
    t.portNow p = s.portNow p ∧ t.portUp p = s.portUp p ∧ t.port p = s.port p ∧
      t.r (Reg.portNEIGHBOUR p) = s.r (Reg.portNEIGHBOUR p) ∧ t.r (Reg.portPORT_STATE p) = s.r (Reg.portPORT_STATE p) ∧ t.clk = s.clk := by
  obtain ⟨hr, hclk, hport⟩ := portSide_iff.1 h
  have hstate := on_r hr (Reg.portPORT_STATE p) (decide_eq_true (.inl rfl))
  refine ⟨portNow_congr hp hr hclk (by rw [hport]) (by rw [hport]), ?_, hport, on_r hr _ (decide_eq_true (.inr (.inl rfl))), hstate, hclk⟩
  unfold State.portUp
  rw [hstate]

/-- A bonded port that has heard its neighbour within 300 us is up, one that has not is training. -/
theorem portNow_of_bonded {s : State} {p : Nat} (h : s.portBonded p = true) : s.portNow p = if s.portHeard p then 2 else 1 := if_pos h

/-! ## Publishing the ports (R401, R409) -/

/-- A port that has gone down. -/
def Port.downed (x : Port) : Port := { x with wrapped := true, unwrapAt := 0, nbrUp := false, nbrUnwrap := 0, lastStatus := none, t1 := none }

/-- What publishing the ports does for one of them. -/
def State.pubPort (p : Nat) (t : State) : State :=
  let v := t.portNow p
  let t1 := if t.portUp p ∧ v ≠ 2 then t.portDown p else t
  let t2 := if v = 2 then { t1 with ring := { t1.ring with joined := true } } else t1
  (t2.w (Reg.portPORT_STATE p) v).w (Reg.portSTILE p) (b2n (t2.stileState && decide (v = 1 ∨ v = 2)))

/-- An object of the ring that is neither state nor neighbour of port p. -/
theorem portSide_w (s : State) {p k : Nat} (v : Nat) (h : portKey p k = false) : (s.w k v).portSide p = s.portSide p :=
  portSide_iff.2 ⟨on_w s k v h, rfl, rfl⟩

theorem portDown_port (s : State) (q p : Nat) : (s.portDown q).port p = if p = q then (s.port q).downed else s.port p := by
  have hkeep : ((s.when (!(s.port q).wrapped) fun t => t.bump Reg.nodeWRAPS).w (Reg.portNEIGHBOUR q) 0xFF).port p = s.port p := by
    unfold State.when
    split <;> rfl
  exact (port_wPort _ _ _ _).trans (by rw [hkeep]; rfl)

theorem portDown_r (s : State) (q k : Nat) : (s.portDown q).r k =
    if k = Reg.portNEIGHBOUR q then 0xFF else (s.when (!(s.port q).wrapped) fun t => t.bump Reg.nodeWRAPS).r k :=
  State.w_r _ _ _ _

theorem portDown_clk (s : State) (q : Nat) : (s.portDown q).clk = s.clk := by
  unfold State.portDown State.when
  dsimp only
  split <;> rfl

theorem portKey_wraps (p : Nat) : portKey p Reg.nodeWRAPS = false :=
  decide_eq_false (by unfold Reg.portPORT_STATE Reg.portNEIGHBOUR Reg.nodeWRAPS; omega)

/-- Another port goes down. -/
theorem portSide_portDown (s : State) {p q : Nat} (hq : q < 2) (h : q ≠ p) : (s.portDown q).portSide p = s.portSide p := by
  refine portSide_iff.2 ⟨?_, portDown_clk _ _, (portDown_port _ _ _).trans (if_neg h.symm)⟩
  refine on_of_r fun k hk => (portDown_r _ _ _).trans ?_
  have hnbr : portKey p (Reg.portNEIGHBOUR q) = false :=
    decide_eq_false (by unfold Reg.portPORT_STATE Reg.portNEIGHBOUR; omega)
  rw [if_neg fun he => by rw [he, hnbr] at hk; cases hk]
  exact on_r (on_when _ _ _ (on_w _ _ _ (portKey_wraps p))) k hk

/-- Publishing one port leaves the other. -/
theorem portSide_pubPort (s : State) {p q : Nat} (hq : q < 2) (h : q ≠ p) : (s.pubPort q).portSide p = s.portSide p := by
  unfold State.pubPort
  extract_lets v t1 ring t2
  have h1 : t1.portSide p = s.portSide p := by
    unfold t1
    split
    · exact portSide_portDown s hq h
    · rfl
  have h2 : t2.portSide p = t1.portSide p := by
    unfold t2 ring
    clear_value t1
    split <;> rfl
  refine (portSide_w _ _ ?_).trans ((portSide_w _ _ ?_).trans (h2.trans h1))
  · exact decide_eq_false (by unfold Reg.portPORT_STATE Reg.portNEIGHBOUR Reg.portSTILE; omega)
  · exact decide_eq_false (by unfold Reg.portPORT_STATE Reg.portNEIGHBOUR; omega)

/-- Publishing a port: its state, and the end of one that was up. -/
theorem pubPort_own (s : State) (p : Nat) : let down := s.portUp p = true ∧ s.portNow p ≠ 2; let t := s.pubPort p
    t.r (Reg.portPORT_STATE p) = s.portNow p ∧ t.r (Reg.portNEIGHBOUR p) = (if down then 0xFF else s.r (Reg.portNEIGHBOUR p)) ∧
      t.port p = (if down then (s.port p).downed else s.port p) ∧ t.clk = s.clk := by
  intro down t
  unfold t State.pubPort
  extract_lets v t1 ring t2
  have h1 : t1.r (Reg.portNEIGHBOUR p) = (if down then 0xFF else s.r (Reg.portNEIGHBOUR p)) ∧
      t1.port p = (if down then (s.port p).downed else s.port p) ∧ t1.clk = s.clk := by
    unfold t1
    by_cases hd : down
    · rw [if_pos hd, if_pos hd, if_pos hd]
      exact ⟨(portDown_r _ _ _).trans (if_pos rfl), (portDown_port _ _ _).trans (if_pos rfl), portDown_clk _ _⟩
    · rw [if_neg hd, if_neg hd, if_neg hd]
      exact ⟨rfl, rfl, rfl⟩
  have h2 : t2.r (Reg.portNEIGHBOUR p) = t1.r (Reg.portNEIGHBOUR p) ∧ t2.port p = t1.port p ∧ t2.clk = t1.clk := by
    unfold t2 ring
    clear_value t1
    split <;> exact ⟨rfl, rfl, rfl⟩
  obtain ⟨hn1, hp1, hc1⟩ := h1
  obtain ⟨hn2, hp2, hc2⟩ := h2
  refine ⟨?_, ?_, hp2.trans hp1, hc2.trans hc1⟩
  · rw [State.w_r, if_neg (by unfold Reg.portPORT_STATE Reg.portSTILE; omega), State.w_r, if_pos rfl]
  · rw [State.w_r, if_neg (by unfold Reg.portNEIGHBOUR Reg.portSTILE; omega), State.w_r,
      if_neg (by unfold Reg.portNEIGHBOUR Reg.portPORT_STATE; omega), hn2, hn1]

/-- Publishing the ports takes each to what its lanes and neighbour make of it. -/
theorem ringPub_port (s : State) {p : Nat} (hp : p < 2) : let down := s.portUp p = true ∧ s.portNow p ≠ 2; let t := s.ringPub
    t.r (Reg.portPORT_STATE p) = s.portNow p ∧ t.r (Reg.portNEIGHBOUR p) = (if down then 0xFF else s.r (Reg.portNEIGHBOUR p)) ∧
      t.port p = (if down then (s.port p).downed else s.port p) ∧ t.clk = s.clk := by
  have hpub : s.ringPub.portSide p = (s.each (List.range 2) State.pubPort).portSide p := by
    unfold State.ringPub
    extract_lets s1 gone ring s2 s3
    have h1 : s.each (List.range 2) State.pubPort = s1 := rfl
    rw [h1]
    have h2 : s2.portSide p = s1.portSide p := by
      unfold s2 ring
      clear_value s1
      split <;> rfl
    have h3 : s3.portSide p = s2.portSide p := by
      unfold s3
      clear_value s2
      exact view_each (State.portSide p) s2.dropNeighbour _ (fun l t => t.wLane l { t.lane l with clock := t.laneClock l }) fun l _ t => rfl
    exact (portSide_w _ _ (decide_eq_false (by unfold Reg.portPORT_STATE Reg.portNEIGHBOUR Reg.nodeRING_STATE; omega))).trans (h3.trans h2)
  obtain ⟨t, ht, heach⟩ := each_port (State.portSide p) State.pubPort s hp fun q t hq hne => portSide_pubPort t hq hne
  obtain ⟨hnow, hup, hport, hnbr, -, hclk⟩ := portSide_now hp ht
  obtain ⟨-, -, hport', hnbr', hstate', hclk'⟩ := portSide_now hp (hpub.trans heach)
  obtain ⟨hs, hn, hpt, hc⟩ := pubPort_own t p
  rw [hnow, hup] at hn hpt
  rw [hport] at hpt
  rw [hnbr] at hn
  exact ⟨hstate'.trans (hs.trans hnow), hnbr'.trans hn, hport'.trans hpt, hclk'.trans (hc.trans hclk)⟩

/-- A port that stays up, or comes up, keeps what is known of it. -/
theorem ringPub_up (s : State) {p : Nat} (hp : p < 2) (h : s.portNow p = 2) : s.ringPub.r (Reg.portPORT_STATE p) = 2 ∧
    s.ringPub.r (Reg.portNEIGHBOUR p) = s.r (Reg.portNEIGHBOUR p) ∧ s.ringPub.port p = s.port p ∧ s.ringPub.clk = s.clk := by
  obtain ⟨hs, hn, hpt, hc⟩ := ringPub_port s hp
  rw [if_neg fun hd => hd.2 h] at hn hpt
  exact ⟨hs.trans h, hn, hpt, hc⟩

/-! ## RING_STATUS and the unwrap (R401, R410, R411) -/

/-- What a RING_STATUS tells of its port. -/
def Port.told (x : Port) (p up : Nat) (b : Bytes) : Port :=
  { x with lastStatus := some up, nbrUp := decide (nbrPort p (fld 1 1 b) = 2), nbrUnwrap := fld 8 8 b }

theorem planUnwrap_r (s : State) (p k : Nat) : (s.planUnwrap p).r k = s.r k := by
  unfold State.planUnwrap
  dsimp only
  split <;> rfl

/-- A wrapped port that is up at both ends plans its unwrap. -/
theorem planUnwrap_port {s : State} {p : Nat} (hup : s.portUp p = true) : (s.planUnwrap p).port p =
    if (s.port p).wrapped = true ∧ (s.port p).nbrUp = true then
      { s.port p with unwrapAt := max (if (s.port p).unwrapAt = 0 then (s.now + 1999999) / 1000000 * 1000000 else (s.port p).unwrapAt)
                                    (s.port p).nbrUnwrap }
    else s.port p := by
  unfold State.planUnwrap
  simp only [hup, true_and]
  split
  · exact (port_wPort _ _ _ _).trans (if_pos rfl)
  · rfl

/-- A neighbour frame that is whole has its effect, and nothing else. -/
theorem neighbourFrame {a : State} {f : RingFrame} {ty : Nat} (g : State → State) (hty : f.ty = ty) (hn : neighbourTy ty = true)
    (h : a.whole f = true) : a.frameIn f ty (keepPayload f g) = g a := by
  subst hty
  exact (if_pos rfl).trans (ringIn_neighbour h hn _)

/-- A valid RING_STATUS on a bonded port. -/
theorem statusIn_bonded {s : State} {f : RingFrame} (h : s.portBonded f.port = true) : let p := f.port.val; let u := s.statusIn f
    u.r (Reg.portPORT_STATE p) = 2 ∧ u.r (Reg.portNEIGHBOUR p) = fld 0 1 f.payload ∧ u.port p =
      let y := (s.port p).told p s.up f.payload
      if y.wrapped = true ∧ y.nbrUp = true then
        { y with unwrapAt := max (if y.unwrapAt = 0 then (s.now + 1999999) / 1000000 * 1000000 else y.unwrapAt) y.nbrUnwrap }
      else y := by
  intro p u
  have hp : p < 2 := f.port.isLt
  let s1 := (s.wPort p ((s.port p).told p s.up f.payload)).w (Reg.portNEIGHBOUR p) (fld 0 1 f.payload)
  have hport : s1.port p = (s.port p).told p s.up f.payload := (port_wPort _ _ _ _).trans (if_pos rfl)
  have hnow : s1.portNow p = 2 := by
    have hheard : s1.portHeard p = true := by
      unfold State.portHeard
      rw [hport]
      exact decide_eq_true (Nat.le_add_right s.up 300000)
    have hr (k : Nat) (hk : k ≠ Reg.portNEIGHBOUR p) : s1.r k = s.r k := (State.w_r _ _ _ _).trans (if_neg hk)
    have hbond : s1.portBonded p = s.portBonded p := by
      have hst (l : Nat) : s1.r (Reg.laneLANE_STATE l) = s.r (Reg.laneLANE_STATE l) :=
        hr _ (by unfold Reg.laneLANE_STATE Reg.portNEIGHBOUR; omega)
      have hrate (l : Nat) : s1.r (Reg.laneRATE_ACTIVE l) = s.r (Reg.laneRATE_ACTIVE l) :=
        hr _ (by unfold Reg.laneRATE_ACTIVE Reg.portNEIGHBOUR; omega)
      unfold State.portBonded State.laneUp
      simp only [hst, hrate, hport]
      rfl
    rw [portNow_of_bonded (hbond.trans h), if_pos hheard]
  obtain ⟨hstate, hnbr, hpt, hclk⟩ := ringPub_up s1 hp hnow
  have hup : s1.ringPub.portUp p = true := decide_eq_true hstate
  have hu : u = s1.ringPub.planUnwrap p := rfl
  rw [hu, planUnwrap_r, planUnwrap_r, planUnwrap_port hup, hpt, hport]
  refine ⟨hstate, hnbr.trans ((State.w_r _ _ _ _).trans (if_pos rfl)), ?_⟩
  have htime : s1.ringPub.now = s.now := by
    unfold State.now
    rw [hclk]
    rfl
  rw [htime]

/-! ## Neighbour frames that wait (R405, R410, R418) -/

/-- The frames of a type that wait for a port. -/
def State.waiting (s : State) (ty p : Nat) : List TxFrame := s.ring.txq.filter fun g => decide (g.ty = ty ∧ g.via = some p)

theorem ringQueue_txq (s : State) (via sop : Option Nat) {ty : Nat} (dst info : Nat) (b : Bytes) (hty : ty ≠ 0x40) :
    (s.ringQueue via sop ty dst info b).ring.txq = s.ring.txq ++ [⟨ty, dst, tget 0 s.ring.seqs ty, s.epoch, info, b, via, sop⟩] := by
  unfold State.ringQueue
  dsimp only
  rw [if_neg hty]

theorem sendPort_txq (s : State) (p : Nat) (sop : Option Nat) {ty : Nat} (b : Bytes) (hty : ty ≠ 0x40) :
    (s.sendPort p sop ty b).ring.txq = (s.ring.txq.filter fun g => !(decide (g.ty = ty ∧ g.via = some p))) ++
      [⟨ty, 0x7F, tget 0 s.ring.seqs ty, s.epoch, 0, b, some p, sop⟩] :=
  ringQueue_txq _ _ _ _ _ _ hty

/-- One frame of a type and port waits, the newest. -/
theorem waiting_sendPort (s : State) (p : Nat) (sop : Option Nat) (ty : Nat) (b : Bytes) (hty : ty ≠ 0x40) :
    (s.sendPort p sop ty b).waiting ty p = [⟨ty, 0x7F, tget 0 s.ring.seqs ty, s.epoch, 0, b, some p, sop⟩] := by
  unfold State.waiting
  rw [sendPort_txq _ _ _ _ hty]
  have hnone : (s.ring.txq.filter fun g => !(decide (g.ty = ty ∧ g.via = some p))).filter (fun g => decide (g.ty = ty ∧ g.via = some p)) = [] := by
    rw [List.filter_eq_nil_iff]
    intro g hg
    have hkeep := (List.mem_filter.1 hg).2
    rwa [Bool.not_eq_true', ← Bool.not_eq_true] at hkeep
  rw [List.filter_append, hnone, List.nil_append]
  exact List.filter_cons_of_pos (by simp)

/-- Those of another port stay. -/
theorem waiting_sendPort_ne (s : State) {p q : Nat} (sop : Option Nat) (ty : Nat) (b : Bytes) (hty : ty ≠ 0x40) (h : q ≠ p) :
    (s.sendPort q sop ty b).waiting ty p = s.waiting ty p := by
  unfold State.waiting
  rw [sendPort_txq _ _ _ _ hty]
  rw [List.filter_append, List.filter_cons_of_neg (by simpa using h), List.filter_nil, List.append_nil, List.filter_filter]
  refine List.filter_congr fun g _ => ?_
  by_cases hg : g.ty = ty ∧ g.via = some p
  · have hne : ¬ (g.ty = ty ∧ g.via = some q) := fun hq => h (Option.some.inj (hq.2.symm.trans hg.2))
    rw [decide_eq_true hg, decide_eq_false hne]
    rfl
  · rw [decide_eq_false hg, Bool.false_and]

/-- What a step of RING_STATUS_TX goes by. -/
def State.statusSide (p : Nat) (s : State) : List (Nat × Nat) × List (Nat × Port) × List TxFrame := (s.regs, s.ring.ports, s.waiting 0x50 p)

/-- A step of RING_STATUS_TX. -/
def State.statusPort (p : Nat) (t : State) : State :=
  t.when (t.portBonded p && decide (t.portCode p ≠ 0)) fun u => u.sendPort p none 0x50 (u.statusPayload p)

theorem statusSide_statusPort (t : State) {p q : Nat} (h : q ≠ p) : (t.statusPort q).statusSide p = t.statusSide p :=
  view_when (State.statusSide p) _ _ _ (Prod.ext rfl (Prod.ext rfl (waiting_sendPort_ne t _ _ _ (by decide) h)))

theorem statusPort_regs (t : State) (p : Nat) : (t.statusPort p).regs = t.regs := view_when State.regs _ _ _ rfl

theorem statusOut_port {s : State} (h : s.since s.ring.lastStatusTx 100000 = true) {p : Nat} (hp : p < 2) :
    if s.portBonded p = true ∧ s.portCode p ≠ 0 then
      ∃ g, s.statusOut.waiting 0x50 p = [g] ∧ g.dst = 0x7F ∧ g.payload = s.statusPayload p
    else s.statusOut.waiting 0x50 p = s.waiting 0x50 p := by
  have hout : s.statusOut = State.each { s with ring := { s.ring with lastStatusTx := s.up } } (List.range 2) State.statusPort := if_pos h
  obtain ⟨t, ht, heach⟩ := each_port (State.statusSide p) State.statusPort { s with ring := { s.ring with lastStatusTx := s.up } } hp
    fun q t _ hne => statusSide_statusPort t hne
  simp only [State.statusSide, Prod.mk.injEq] at ht heach
  obtain ⟨hregs, hports, hwait⟩ := ht
  obtain ⟨-, -, hlast⟩ := heach
  have hr (k : Nat) : t.r k = s.r k := by unfold State.r; rw [hregs]
  have hport (q : Nat) : t.port q = s.port q := by unfold State.port; rw [hports]
  have hbond : t.portBonded p = s.portBonded p := by
    unfold State.portBonded State.laneUp
    simp only [hr, hport]
  have hcode (q : Nat) : t.portCode q = s.portCode q := by
    unfold State.portCode
    simp only [hr]
  have hpay : t.statusPayload p = s.statusPayload p := by
    unfold State.statusPayload
    simp only [hr, hport, hcode]
  rw [hout, hlast]
  unfold State.statusPort
  by_cases hc : s.portBonded p = true ∧ s.portCode p ≠ 0
  · rw [if_pos hc, hbond, hcode, show (s.portBonded p && decide (s.portCode p ≠ 0)) = true by simp [hc]]
    exact ⟨_, waiting_sendPort t p none 0x50 _ (by decide), rfl, hpay⟩
  · rw [if_neg hc, hbond, hcode, show (s.portBonded p && decide (s.portCode p ≠ 0)) = false by simpa using hc]
    exact hwait

theorem statusOut_regs {s : State} (h : s.since s.ring.lastStatusTx 100000 = true) :
    s.statusOut.regs = s.regs ∧ s.statusOut.ring.lastStatusTx = s.up := by
  have hout : s.statusOut = State.each { s with ring := { s.ring with lastStatusTx := s.up } } (List.range 2) State.statusPort := if_pos h
  rw [hout]
  exact ⟨view_each State.regs _ _ _ fun p _ t => statusPort_regs t p,
    view_each (fun t => t.ring.lastStatusTx) _ _ _ fun p _ t => view_when (fun u => u.ring.lastStatusTx) t _ _ rfl⟩

/-- What is left of a port that has been told, its unwrap planned or not. -/
theorem told_spec (x : Port) (p up : Nat) (b : Bytes) (now : Nat) : let y := x.told p up b
    let z := if y.wrapped = true ∧ y.nbrUp = true then { y with unwrapAt := max (if y.unwrapAt = 0 then now else y.unwrapAt) y.nbrUnwrap } else y
    z.lastStatus = some up ∧ z.wrapped = x.wrapped ∧
      (x.wrapped = true → nbrPort p (fld 1 1 b) = 2 → z.unwrapAt = max (if x.unwrapAt = 0 then now else x.unwrapAt) (fld 8 8 b)) := by
  intro y z
  by_cases h : y.wrapped = true ∧ y.nbrUp = true
  · have hz : z = _ := if_pos h
    rw [hz]
    exact ⟨rfl, rfl, fun _ _ => rfl⟩
  · have hz : z = y := if_neg h
    rw [hz]
    exact ⟨rfl, rfl, fun hw hup => absurd ⟨hw, decide_eq_true hup⟩ h⟩

/-- At the adopted time a port that is up unwraps. -/
theorem unwrap_port {s : State} {p : Nat} (hp : p < 2) (hup : s.portUp p = true) (hnow : s.portNow p = 2) (hw : (s.port p).wrapped = true)
    (h0 : (s.port p).unwrapAt ≠ 0) (hdue : (s.port p).unwrapAt ≤ s.now) :
    (s.unwrap p).port p = { s.port p with wrapped := false, unwrapAt := 0 } ∧ (s.unwrap p).portUp p = true := by
  have hport (x : Port) : (s.wPort p x).port p = x := (port_wPort _ _ _ _).trans (if_pos rfl)
  have hnow1 (x : Port) (hdesk : x.deskewed = (s.port p).deskewed) (hlast : x.lastStatus = (s.port p).lastStatus) :
      (s.wPort p x).portNow p = 2 :=
    (portNow_congr (s := s) (t := s.wPort p x) hp rfl rfl (by rw [hport, hdesk]) (by rw [hport, hlast])).trans hnow
  obtain ⟨hstate, -, hpt, -⟩ := ringPub_up _ hp (hnow1 { s.port p with wrapped := false, unwrapAt := 0 } rfl rfl)
  unfold State.unwrap
  dsimp only
  rw [if_pos ⟨hup, hw, h0, hdue⟩]
  exact ⟨hpt.trans (hport _), decide_eq_true hstate⟩

end Sys2Proof.Machine

open Sys2Proof Sys2Proof.Machine

/-- Settles O40: publishing the ports keeps a port that is up, and takes one down that has heard nothing. -/
theorem ringStatusAndUnwrap : Obligations.RingStatusAndUnwrap := by
  intro dt s a
  refine ⟨?_, fun h => ?_, fun p hup hheard hbond => ?_, fun p hup hnow hw h0 hdue => ?_⟩
  · intro f hty hwhole hbond p x b
    have hin : a.frameIn f 0x50 (keepPayload f fun t => t.statusIn f) = a.statusIn f :=
      neighbourFrame (fun t => t.statusIn f) hty (by decide) hwhole
    have hexec : exec (.ringStatus dt f) s = .next (a.frameIn f 0x50 (keepPayload f fun t => t.statusIn f)).done := rfl
    rw [hin] at hexec
    obtain ⟨hstate, hnbr, hport⟩ := statusIn_bonded (s := a) hbond
    refine ⟨_, hexec, hstate, hnbr, ?_⟩
    generalize a.statusIn f = u at hport
    rw [hport]
    exact told_spec x p a.up b _
  · obtain ⟨hregs, hlast⟩ := statusOut_regs h
    exact ⟨_, rfl, hlast, hregs, fun p hp => statusOut_port h hp⟩
  · have hexec : exec (.ringStatusTimeout dt p) s = .next a.ringPub := by
      refine congrArg Host.Outcome.next (if_pos ⟨hup, ?_⟩)
      rw [hheard]
      rfl
    have hnow : a.portNow p = 1 := by rw [portNow_of_bonded hbond, hheard]; rfl
    obtain ⟨hstate, hnbr, hport, -⟩ := ringPub_port a p.isLt
    rw [if_pos ⟨hup, by rw [hnow]; decide⟩] at hnbr hport
    exact ⟨_, hexec, hstate.trans hnow, hnbr, by rw [hport]; rfl⟩
  · obtain ⟨hport, hup'⟩ := unwrap_port p.isLt hup hnow hw h0 hdue
    exact ⟨_, rfl, by rw [hport], by rw [hport], hup'⟩
end

section
/-! PROOFS. Cyclic maps (O46). -/

namespace Sys2Proof.Machine

/-! ## The bytes of an entry -/

theorem rows_sub_pos : ∀ g ∈ objGroups, ∀ r ∈ g.rows, r.sub ≠ 0 := by decide +kernel

theorem findGroup_mem {idx : Nat} {gs : List ObjGroup} {g : ObjGroup} {i : Nat} (h : findGroup idx gs = some (g, i)) : g ∈ gs := by
  induction gs with
  | nil => cases h
  | cons x gs ih =>
    unfold findGroup at h
    split at h
    · cases h
      exact List.mem_cons_self
    · exact List.mem_cons_of_mem _ (ih h)

/-- Subindex 0 has no row of its own (R429). -/
theorem rowAt_sub0 {key : Nat} (h : key % 256 = 0) : rowAt key = none := by
  unfold rowAt
  split
  · next g i hg =>
    rw [List.find?_eq_none]
    intro r hr
    rw [h, decide_eq_true_eq]
    exact rows_sub_pos g (findGroup_mem hg) r hr
  · rfl

theorem readStr_length (s : State) (key : Nat) : (s.readStr key).length = 12 := by
  unfold State.readStr
  split_ifs <;> exact padTo_length _ _

/-- A value read for a slot has the size of its place there. -/
theorem slotBytes_length (s : State) (key : Nat) : ((s.readBytes key).take (cycSize key)).length = cycSize key := by
  rw [List.length_take, Nat.min_eq_left]
  unfold State.readBytes cycSize keySize
  by_cases h0 : key % 256 = 0
  · rw [if_pos h0, rowAt_sub0 h0]
    dsimp only
    rw [leBytes_length]
    split <;> omega
  · rw [if_neg h0]
    cases rowAt key with
    | none => exact Nat.zero_le _
    | some r =>
      dsimp only
      split
      · next hstr => rw [hstr, readStr_length]; decide
      · rw [leBytes_length]

/-! ## The places of a map's entries (R453) -/

/-- Entries with their offsets from o on. -/
def placesFrom : Nat → List Nat → List (Nat × Nat)
  | _, [] => []
  | o, k :: ks => (k, o) :: placesFrom (o + cycSize k) ks

theorem mapPlaces_eq (s : State) (m : Nat) : s.mapPlaces m = placesFrom (s.r (Reg.mapSLOT_OFFSET m)) (s.mapKeys m) := by
  have hfold (ks : List Nat) (acc : List (Nat × Nat)) (o : Nat) :
      (ks.foldl (fun (a : List (Nat × Nat) × Nat) k => (a.1 ++ [(k, a.2)], a.2 + cycSize k)) (acc, o)).1 = acc ++ placesFrom o ks := by
    induction ks generalizing acc o with
    | nil => exact (List.append_nil _).symm
    | cons k ks ih => rw [List.foldl_cons, ih, List.append_assoc]; rfl
  exact hfold _ _ _

/-- Bytes of a run of entries. -/
def slotSum (ks : List Nat) : Nat := (ks.map cycSize).sum

theorem slotSum_cons (k : Nat) (ks : List Nat) : slotSum (k :: ks) = cycSize k + slotSum ks := List.sum_cons

theorem slotLen_eq (s : State) (m : Nat) : s.slotLen m = slotSum (s.mapKeys m) := List.sum_eq_foldl.symm

theorem mem_placesFrom {o : Nat} {ks : List Nat} {e : Nat × Nat} (h : e ∈ placesFrom o ks) : o ≤ e.2 := by
  induction ks generalizing o with
  | nil => cases h
  | cons k ks ih =>
    rcases List.mem_cons.1 h with rfl | h
    · exact Nat.le_refl _
    · exact (Nat.le_add_right _ _).trans (ih h)

/-! ## Output (R454) -/

/-- A slice is the bytes of its range. -/
theorem slice_congr {o n : Nat} {b d : Bytes} (h : ∀ j, o ≤ j → j < o + n → b[j]? = d[j]?) : slice o n b = slice o n d := by
  refine List.ext_getElem? fun i => ?_
  unfold slice
  by_cases hi : i < n
  · rw [List.getElem?_take_of_lt hi, List.getElem?_take_of_lt hi, List.getElem?_drop, List.getElem?_drop, h _ (by omega) (by omega)]
  · rw [List.getElem?_take_eq_none (by omega), List.getElem?_take_eq_none (by omega)]

theorem slice_patchBytes {b : Bytes} {o : Nat} {d : Bytes} (h : o ≤ b.length) : slice o d.length (patchBytes b o d) = d := by
  have htake : (b.take o).length = o := List.length_take_of_le h
  rw [slice, patchBytes, List.append_assoc, List.drop_append, List.drop_eq_nil_of_le (by omega), htake, Nat.sub_self, List.drop_zero,
    List.nil_append, List.take_left']
  rfl

/-- What one entry of an output map writes. -/
def State.slotWrite (s : State) (src : Nat) (b : Bytes) (e : Nat × Nat) : Bytes :=
  if s.mayRead src e.1 then patchBytes b e.2 ((s.readBytes e.1).take (cycSize e.1)) else b

/-- An entry's own place, and the bytes around it. -/
theorem slotWrite_spec (s : State) (src : Nat) {b : Bytes} {k o : Nat} (h : o + cycSize k ≤ b.length) :
    (s.slotWrite src b (k, o)).length = b.length ∧
      (∀ j, j < o ∨ o + cycSize k ≤ j → (s.slotWrite src b (k, o))[j]? = b[j]?) ∧
      slice o (cycSize k) (s.slotWrite src b (k, o)) =
        if s.mayRead src k then (s.readBytes k).take (cycSize k) else slice o (cycSize k) b := by
  have hlen := slotBytes_length s k
  unfold State.slotWrite
  dsimp only
  cases s.mayRead src k with
  | false => exact ⟨rfl, fun _ _ => rfl, rfl⟩
  | true =>
    refine ⟨patchBytes_length (by omega), fun j hj => getElem?_patchBytes (by omega) (by omega), ?_⟩
    have hslice := slice_patchBytes (b := b) (o := o) (d := (s.readBytes k).take (cycSize k)) (by omega)
    rwa [hlen] at hslice

/-- The entries of an output map write their own places, and nothing else. -/
theorem slotWrites_spec (s : State) (src : Nat) {ks : List Nat} : ∀ {b : Bytes} {o : Nat}, o + slotSum ks ≤ b.length →
    let out := (placesFrom o ks).foldl (s.slotWrite src) b
    out.length = b.length ∧ (∀ j, j < o ∨ o + slotSum ks ≤ j → out[j]? = b[j]?) ∧
      ∀ e ∈ placesFrom o ks, slice e.2 (cycSize e.1) out =
        if s.mayRead src e.1 then (s.readBytes e.1).take (cycSize e.1) else slice e.2 (cycSize e.1) b := by
  induction ks with
  | nil => exact fun _ => ⟨rfl, fun _ _ => rfl, fun _ he => by cases he⟩
  | cons k ks ih =>
    intro b o h out
    rw [slotSum_cons] at h ⊢
    obtain ⟨hlen1, hrest1, hown1⟩ := slotWrite_spec s src (b := b) (k := k) (o := o) (by omega)
    obtain ⟨hlen, hrest, hown⟩ := ih (b := s.slotWrite src b (k, o)) (o := o + cycSize k) (by omega)
    refine ⟨hlen.trans hlen1, fun j hj => (hrest j (by omega)).trans (hrest1 j (by omega)), fun e he => ?_⟩
    rcases List.mem_cons.1 he with rfl | he
    · exact (slice_congr fun j _ hj => hrest j (.inl hj)).trans hown1
    · have hafter := mem_placesFrom he
      refine (hown e he).trans ?_
      rw [slice_congr (b := s.slotWrite src b (k, o)) (d := b) fun j hj _ => hrest1 j (.inr (by omega))]

/-- What an output map makes of the payload. -/
theorem mapOut_spec (s : State) (m : Nat) (f : RingFrame) {p : Bytes} (h : s.r (Reg.mapSLOT_OFFSET m) + s.slotLen m ≤ p.length) :
    (s.mapOut m f p).length = p.length ∧
      (∀ j, j < s.r (Reg.mapSLOT_OFFSET m) ∨ s.r (Reg.mapSLOT_OFFSET m) + s.slotLen m ≤ j → (s.mapOut m f p)[j]? = p[j]?) ∧
      ∀ e ∈ s.mapPlaces m, slice e.2 (cycSize e.1) (s.mapOut m f p) =
        if s.mayRead f.src e.1 then (s.readBytes e.1).take (cycSize e.1) else slice e.2 (cycSize e.1) p := by
  have hout : s.mapOut m f p = (s.mapPlaces m).foldl (s.slotWrite f.src) p := rfl
  rw [slotLen_eq] at h ⊢
  rw [hout, mapPlaces_eq]
  exact slotWrites_spec s f.src h

/-! ## The frame of one map (R452) -/

/-- A new SEQ of an identifier has been seen. -/
def State.sawCyc (s : State) (f : RingFrame) : State := { s with od := { s.od with cycSeen := tset none s.od.cycSeen f.info (some f.seq) } }

/-- Is the copy the first one of its SEQ? -/
def State.cycFresh (s : State) (f : RingFrame) : Bool := newerSeq (tget none s.od.cycSeen f.info) f.seq

section
variable {s : State} {f : RingFrame} {m : Nat}
  (hm : ((List.range 8).filter fun j => decide (s.r (Reg.mapMAP_ENABLE j) = 1 ∧ s.r (Reg.mapMAP_ID j) = f.info)) = [m])
include hm

/-- A CYCLIC frame that one map takes part in. -/
theorem cyclicIn_one : s.cyclicIn f =
    let fits := decide (s.r (Reg.mapSLOT_OFFSET m) + s.slotLen m ≤ f.payload.length)
    let isIn := decide (s.r (Reg.mapDIRECTION m) = 0)
    let s1 := if s.cycFresh f then s.sawCyc f else s
    let s2 := if !fits then s1.bump (Reg.mapCYC_ERR m) else s1.when (s.cycFresh f || !isIn) fun u => u.bump (Reg.mapCYC_FRAMES m)
    ((s2.cycRun false ⟨f.src, f.epoch⟩ [] (if s.cycFresh f && isIn && fits then s.mapIn m f else [])).done,
      if fits && !isIn then s.mapOut m f f.payload else f.payload) := by
  unfold State.cyclicIn
  dsimp only
  rw [hm]
  have htaken (c : Nat → Bool) : (([m].filter c).map fun j => s.mapIn j f).flatten = if c m then s.mapIn m f else [] := by
    cases h : c m <;> simp [h]
  rw [htaken]
  rfl

end

theorem sawCyc_r (s : State) (f : RingFrame) (c : Bool) (k : Nat) : (if c then s.sawCyc f else s).r k = s.r k := by
  cases c <;> rfl

theorem cycRun_nil (s : State) (turn : Bool) (o : Origin) : s.cycRun turn o [] [] = s := rfl

/-- One entry: an equal value is no write. -/
theorem cycRun_equal {s : State} (o : Origin) {m k v : Nat} (h : s.readVal k = v) : s.cycRun false o [] [(m, k, v)] = s := by
  unfold State.cycRun
  exact if_pos h

/-- One entry: a refused one counts. -/
theorem cycRun_refused {s : State} {o : Origin} {m k v : Nat} (hne : s.readVal k ≠ v)
    (h : s.accCheck o k (cycSize k) v (s.relOk (s.w k v) k) ≠ 0) : s.cycRun false o [] [(m, k, v)] = s.bump (Reg.mapCYC_ERR m) := by
  unfold State.cycRun
  exact (if_neg hne).trans (if_pos h)

/-- One entry that is no admission event: its value is stored. -/
theorem cycRun_stored {s : State} {o : Origin} {m k v : Nat} (hne : s.readVal k ≠ v)
    (h : s.accCheck o k (cycSize k) v (s.relOk (s.w k v) k) = 0) (ha : s.admits k v = false) :
    s.cycRun false o [] [(m, k, v)] = s.cycDone o.src [(k, v)] := by
  unfold State.cycRun
  exact (if_neg hne).trans ((if_neg (not_not_intro h)).trans (if_pos (by rw [show s.stored [] = s from rfl, ha]; rfl)))

/-- What a map of one entry takes from its slot. -/
theorem mapIn_one {s : State} {m : Nat} (f : RingFrame) (h : s.r (Reg.mapENTRY_COUNT m) = 1) :
    s.mapIn m f = [(m, s.mapEntry m 0, fld (s.r (Reg.mapSLOT_OFFSET m)) (cycSize (s.mapEntry m 0)) f.payload)] := by
  have hkeys : s.mapKeys m = [s.mapEntry m 0] := by
    unfold State.mapKeys
    rw [h]
    rfl
  unfold State.mapIn
  rw [mapPlaces_eq, hkeys]
  rfl

/-- An inert object takes the value of its entry. -/
theorem cycDone_inert {s : State} {src key v : Nat} (h : Inert key) (hz : instOf 0x4000 6 192 1 key = none) (hc : key ≠ Reg.covCOV_ENABLE)
    (ha : s.admits key v = false) : s.cycDone src [(key, v)] = s.putValue src 4 key v := by
  have hany : ([(key, v)].any fun e => s.admits e.1 e.2) = false := by simpa using ha
  unfold State.cycDone
  dsimp only
  rw [hany, stored_of_inert s v h]
  exact (finish_of_inert s s src 4 v .nobody h hz hc).trans rfl

/-- SYNC_EXPECT as the only entry. -/
theorem cycRun_syncExpect {s : State} {o : Origin} {m k v : Nat} (hk : k = Reg.timeSYNC_EXPECT) (hne : s.readVal k ≠ v)
    (h : s.accCheck o k (cycSize k) v (s.relOk (s.w k v) k) = 0) (j : Nat) (hj : bookKey j = false) :
    (s.cycRun false o [] [(m, k, v)]).r j = if j = k then v else s.r j := by
  subst hk
  have ha : s.admits Reg.timeSYNC_EXPECT v = false := admits_of_inert inert_syncExpect rfl (by decide) (by decide) (by decide)
  rw [cycRun_stored hne h ha, cycDone_inert inert_syncExpect rfl (by decide) ha, putValue_r _ _ _ _ _ _ hj]

end Sys2Proof.Machine

open Sys2Proof Sys2Proof.Machine

/-- Settles O46: a map's entries stand side by side in its slot, and an input map judges them one by one. -/
theorem cyclicMaps : Obligations.CyclicMaps := by
  intro dt m f s a b p lo hi one hty hall hmaps
  have hb : b = a.heard (if f.src = 0 then some a.up else a.ring.lastMaster) := fromMaster_heard fun h => nomatch h
  generalize (if f.src = 0 then some a.up else a.ring.lastMaster) = x0 at hb
  have hexec : exec (.cyclic dt f) s = .next ((b.cyclicIn f).1.ringForward f (b.cyclicIn f).2 false) := by
    refine congrArg Host.Outcome.next ?_
    unfold State.frameIn
    rw [if_pos hty, ringIn_forAll hall (by rw [hty]; decide) (by rw [hty]; decide)]
  clear_value b
  subst hb
  have hm8 : m < 8 := by
    have hmem : m ∈ (List.range 8).filter fun j => decide (a.r (Reg.mapMAP_ENABLE j) = 1 ∧ a.r (Reg.mapMAP_ID j) = f.info) := by
      rw [hmaps]; exact List.mem_singleton_self m
    exact List.mem_range.1 (List.mem_filter.1 hmem).1
  have hfit : decide ((a.heard x0).r (Reg.mapSLOT_OFFSET m) + (a.heard x0).slotLen m ≤ f.payload.length) = decide (hi ≤ p.length) := rfl
  have hin : decide ((a.heard x0).r (Reg.mapDIRECTION m) = 0) = decide (a.r (Reg.mapDIRECTION m) = 0) := rfl
  have hfresh : (a.heard x0).cycFresh f = newerSeq (tget none a.od.cycSeen f.info) f.seq := rfl
  rw [cyclicIn_one (s := a.heard x0) hmaps, hfit, hin, hfresh] at hexec
  dsimp only at hexec
  have hone (c : Bool) (k : Nat) : one (State.bump (if c then (a.heard x0).sawCyc f else a.heard x0) k) k ∧
      SameRegsBut a (State.bump (if c then (a.heard x0).sawCyc f else a.heard x0) k) [k] := by
    have hr (j : Nat) : (if c then (a.heard x0).sawCyc f else a.heard x0).r j = a.r j := sawCyc_r _ _ _ _
    refine ⟨(State.bump_r _ _ _).trans ((if_pos rfl).trans (by rw [hr])), fun j hj => ?_⟩
    exact (State.bump_r _ _ _).trans ((if_neg (by simpa using hj)).trans (hr j))
  rcases Nat.lt_or_ge p.length hi with hshort | hlong
  · rw [decide_eq_false (Nat.not_le.2 hshort)] at hexec
    simp only [Bool.not_false, Bool.and_false, Bool.false_and, if_true, Bool.false_eq_true, if_false, cycRun_nil] at hexec
    exact ⟨_, _, hexec, fun _ => ⟨rfl, hone _ _⟩, fun h => absurd hshort (Nat.not_lt.2 h), fun h => absurd hshort (Nat.not_lt.2 h)⟩
  · rw [decide_eq_true hlong] at hexec
    by_cases hdir : a.r (Reg.mapDIRECTION m) = 0
    · rw [decide_eq_true hdir] at hexec
      simp only [Bool.not_true, Bool.and_true, Bool.or_false, Bool.and_false, Bool.false_eq_true, if_false] at hexec
      refine ⟨_, _, hexec, fun h => absurd h (Nat.not_lt.2 hlong), fun _ h => absurd hdir h, fun _ _ => ⟨rfl, fun hold => ?_, ?_⟩⟩
      · rw [hold]
        rfl
      · intro hnew c k v st hcount
        have hin1 : (a.heard x0).mapIn m f = [(m, k, v)] := mapIn_one f hcount
        rw [hnew, if_pos rfl, if_pos rfl, hin1]
        have hc : ((a.heard x0).sawCyc f).when true (fun u => u.bump (Reg.mapCYC_FRAMES m)) = c := rfl
        rw [hc]
        refine ⟨fun he => cycRun_equal _ he, fun hne => ⟨fun h => cycRun_refused hne h, ?_⟩⟩
        intro h hk
        have hr (j : Nat) := cycRun_syncExpect (m := m) hk hne h j
        have hframes : bookKey (Reg.mapCYC_FRAMES m) = false ∧ Reg.mapCYC_FRAMES m ≠ k := by
          rw [hk]; unfold bookKey Reg.mapCYC_FRAMES Reg.timeSYNC_EXPECT; exact ⟨decide_eq_false (by omega), by omega⟩
        have herr : bookKey (Reg.mapCYC_ERR m) = false ∧ Reg.mapCYC_ERR m ≠ k ∧ Reg.mapCYC_ERR m ∉ [Reg.mapCYC_FRAMES m] := by
          rw [hk, List.mem_singleton]
          unfold bookKey Reg.mapCYC_ERR Reg.mapCYC_FRAMES Reg.timeSYNC_EXPECT
          exact ⟨decide_eq_false (by omega), by omega, by omega⟩
        refine ⟨?_, ?_, ?_⟩
        · exact (hr _ hframes.1).trans ((if_neg hframes.2).trans (hone true (Reg.mapCYC_FRAMES m)).1)
        · exact (hr k (by rw [hk]; decide)).trans (if_pos rfl)
        · exact (hr _ herr.1).trans ((if_neg herr.2.1).trans ((hone true (Reg.mapCYC_FRAMES m)).2 _ herr.2.2))
    · rw [decide_eq_false hdir] at hexec
      simp only [Bool.not_false, Bool.and_true, Bool.or_true, Bool.and_false, Bool.not_true, Bool.false_eq_true, if_false, if_true, cycRun_nil] at hexec
      obtain ⟨hlen, hrest, hown⟩ := mapOut_spec (a.heard x0) m f (p := p) hlong
      refine ⟨_, _, hexec, fun h => absurd h (Nat.not_lt.2 hlong), fun _ _ => ?_, fun _ h => absurd h hdir⟩
      obtain ⟨h1, h2⟩ := hone (newerSeq (tget none a.od.cycSeen f.info) f.seq) (Reg.mapCYC_FRAMES m)
      exact ⟨h1, h2, hlen, hrest, hown⟩
end

section
/-! PROOFS. Link delay and ring time (O41). -/

namespace Sys2Proof.Machine

/-! ## Link delay (R418) -/

/-- A step of DELAY_EXCHANGE. -/
def State.delayPort (t1 : List Nat) (p : Nat) (t : State) : State :=
  t.when (t.portUp p) fun u => (u.wPort p { u.port p with t1 := none }).sendPort p t1[p]? 0x21 []

/-- What a step of DELAY_EXCHANGE goes by, for port p. -/
def State.delaySide (p : Nat) (s : State) : List (Nat × Nat) × Port × List TxFrame := (s.regs, s.port p, s.waiting 0x21 p)

theorem delaySide_delayPort (t : State) (t1 : List Nat) {p q : Nat} (h : q ≠ p) : (t.delayPort t1 q).delaySide p = t.delaySide p := by
  refine view_when (State.delaySide p) _ _ _ (Prod.ext rfl (Prod.ext ?_ ?_))
  · exact (port_wPort _ _ _ _).trans (if_neg h.symm)
  · exact waiting_sendPort_ne _ _ _ _ (by decide) h

theorem delayPort_regs (t : State) (t1 : List Nat) (p : Nat) : (t.delayPort t1 p).regs = t.regs := view_when State.regs _ _ _ rfl

section
variable {s : State} (h : s.since s.ring.lastDelay 100000000 = true) (t1 : List Nat)
include h

theorem delayOut_eq : s.delayOut t1 = State.each { s with ring := { s.ring with lastDelay := s.up } } (List.range 2) (State.delayPort t1) :=
  if_pos h

theorem delayOut_regs : (s.delayOut t1).regs = s.regs ∧ (s.delayOut t1).ring.lastDelay = s.up := by
  rw [delayOut_eq h]
  exact ⟨view_each State.regs _ _ _ fun p _ t => delayPort_regs t t1 p,
    view_each (fun t => t.ring.lastDelay) _ _ _ fun p _ t => view_when (fun u => u.ring.lastDelay) t _ _ rfl⟩

/-- A port that is up sends one DELAY_REQ. -/
theorem delayOut_port {p : Nat} (hp : p < 2) (hup : s.portUp p = true) :
    ((s.delayOut t1).port p).t1 = none ∧ ∃ g, (s.delayOut t1).waiting 0x21 p = [g] ∧ g.sop = t1[p]? := by
  obtain ⟨t, ht, heach⟩ := each_port (State.delaySide p) (State.delayPort t1) { s with ring := { s.ring with lastDelay := s.up } } hp
    fun q t _ hne => delaySide_delayPort t t1 hne
  simp only [State.delaySide, Prod.mk.injEq] at ht heach
  obtain ⟨hregs, -, -⟩ := ht
  obtain ⟨-, hport, hwait⟩ := heach
  have hup' : t.portUp p = true := by
    unfold State.portUp State.r at hup ⊢
    rw [hregs]
    exact hup
  have hstep : t.delayPort t1 p = (t.wPort p { t.port p with t1 := none }).sendPort p t1[p]? 0x21 [] := by
    unfold State.delayPort State.when
    exact if_pos hup'
  rw [delayOut_eq h, hport, hwait, hstep, waiting_sendPort _ _ _ _ _ (by decide)]
  refine ⟨?_, _, rfl, rfl⟩
  have hown : ((t.wPort p { t.port p with t1 := none }).sendPort p t1[p]? 0x21 []).port p = { t.port p with t1 := none } :=
    (port_wPort _ _ _ _).trans (if_pos rfl)
  rw [hown]

end

/-- A DELAY_RSP that comes in time. -/
theorem delayDone_valid {s : State} {f : RingFrame} {t4 t1 : Nat} (ht1 : (s.port f.port).t1 = some t1) (h : (t4 : Int) - t1 ≤ 480000) :
    let d : Int := (t4 : Int) - t1 - ((fld 8 8 f.payload : Int) - fld 0 8 f.payload) + 2 * s.ri 32 (Reg.portDELAY_ASYM f.port)
    let l := (d :: (s.port f.port).delays).take 8
    (s.delayDone f t4).port f.port = { s.port f.port with t1 := none, delays := l } ∧
      ∀ k, (s.delayDone f t4).r k = if k = Reg.portLINK_DELAY f.port then delayMean l else s.r k := by
  unfold State.delayDone
  dsimp only
  rw [ht1]
  dsimp only
  rw [if_neg (by omega)]
  exact ⟨(port_wPort _ _ _ _).trans (if_pos rfl), fun k => State.w_r _ _ _ _⟩

/-- One that comes late. -/
theorem delayDone_late {s : State} {f : RingFrame} {t4 t1 : Nat} (ht1 : (s.port f.port).t1 = some t1) (h : 480000 < (t4 : Int) - t1) :
    (s.delayDone f t4).port f.port = { s.port f.port with t1 := none } ∧ (s.delayDone f t4).regs = s.regs := by
  unfold State.delayDone
  dsimp only
  rw [ht1]
  dsimp only
  rw [if_pos h]
  exact ⟨(port_wPort _ _ _ _).trans (if_pos rfl), rfl⟩

/-! ## Ring time (R419, R420) -/

theorem stepTo_clk (s : State) (t : Nat) (count : Bool) :
    (s.stepTo t count).clk = { s.clk with ring16 := t, slew := 0, half := false } := by
  unfold State.stepTo State.when
  cases count <;> rfl

theorem stepTo_r (s : State) (t : Nat) (count : Bool) {k : Nat} (hk : k ≠ Reg.timeTICK_SKIP) : (s.stepTo t count).r k = s.r k := by
  unfold State.stepTo State.when
  cases count
  · rfl
  · exact (State.add32_r _ _ _ _).trans (if_neg hk)

/-- The correction of a time that is set: forward at once, backward at half the rate, or trimmed. -/
theorem correct_spec (s : State) (off : Int) : let t := s.correct off
    (16000 < off → t.clk = { s.clk with ring16 := s.clk.ring16 + off.toNat, slew := 0, half := false } ∧
      t.r Reg.timeTIME_STEPS = min 0xFFFFFFFF (s.r Reg.timeTIME_STEPS + 1)) ∧
    (off < -16000 → t.clk = { s.clk with slew := off, half := true } ∧
      t.r Reg.timeTIME_STEPS = min 0xFFFFFFFF (s.r Reg.timeTIME_STEPS + 1)) ∧
    (-16000 ≤ off → off ≤ 16000 → t.clk = { s.clk with slew := off, half := false } ∧ t.r Reg.timeTIME_STEPS = s.r Reg.timeTIME_STEPS) := by
  intro t
  refine ⟨fun h => ?_, fun h => ?_, fun h1 h2 => ?_⟩
  · have ht : t = _ := if_pos h
    rw [ht, stepTo_clk, stepTo_r _ _ _ (by decide)]
    exact ⟨rfl, (State.bump_r _ _ _).trans (if_pos rfl)⟩
  · have ht : t = _ := (if_neg (by omega)).trans (if_pos h)
    rw [ht]
    exact ⟨rfl, (State.bump_r _ _ _).trans (if_pos rfl)⟩
  · have ht : t = _ := (if_neg (by omega)).trans (if_neg (by omega))
    rw [ht]
    exact ⟨rfl, rfl⟩

/-- A correction counts nothing but its steps and the ticks passed over. -/
theorem correct_r (s : State) (off : Int) {k : Nat} (h : k ≠ Reg.timeTICK_SKIP ∧ k ≠ Reg.timeTIME_STEPS) : (s.correct off).r k = s.r k := by
  unfold State.correct
  split_ifs
  · exact (stepTo_r _ _ _ h.1).trans ((State.bump_r _ _ _).trans (if_neg h.2))
  · exact (State.bump_r _ _ _).trans (if_neg h.2)
  · rfl

theorem correct_good (s : State) (off : Int) : (s.correct off).clk.good = s.clk.good ∧ (s.correct off).clk.up = s.clk.up := by
  unfold State.correct
  split_ifs
  · rw [stepTo_clk]
    exact ⟨rfl, rfl⟩
  · exact ⟨rfl, rfl⟩
  · exact ⟨rfl, rfl⟩

/-- The syncs in a row and the time's state. -/
theorem timeState_spec (s : State) (off : Int) : let t := s.timeState off
    t.clk = { s.clk with good := if off.natAbs ≤ 800 then s.clk.good + 1 else 0, lastSync := s.up } ∧
    (∀ k, k ≠ Reg.timeTIME_STATE → t.r k = s.r k) ∧
    if off.natAbs ≤ 800 ∧ 7 ≤ s.clk.good then t.r Reg.timeTIME_STATE = 2
      else s.r Reg.timeTIME_STATE = 0 ∨ s.r Reg.timeTIME_STATE = 3 → t.r Reg.timeTIME_STATE = 1 := by
  intro t
  refine ⟨rfl, fun k hk => (State.w_r _ _ _ _).trans (if_neg hk), ?_⟩
  have hst : t.r Reg.timeTIME_STATE = if 8 ≤ (if off.natAbs ≤ 800 then s.clk.good + 1 else 0) then 2
      else if s.r Reg.timeTIME_STATE = 0 ∨ s.r Reg.timeTIME_STATE = 3 then 1 else s.r Reg.timeTIME_STATE :=
    (State.w_r _ _ _ _).trans (if_pos rfl)
  have hgood : 8 ≤ (if off.natAbs ≤ 800 then s.clk.good + 1 else 0) ↔ off.natAbs ≤ 800 ∧ 7 ≤ s.clk.good := by split_ifs <;> omega
  rw [hst]
  by_cases h : off.natAbs ≤ 800 ∧ 7 ≤ s.clk.good
  · rw [if_pos h, if_pos (hgood.2 h)]
  · rw [if_neg h, if_neg (mt hgood.1 h)]
    exact fun h0 => if_pos h0

/-- The counter is set, or corrected. -/
def State.clockTo (s : State) (rx : Nat) (off : Int) : State := if s.r Reg.timeTIME_STATE = 0 then s.stepTo rx false else s.correct off

theorem clockTo_r (s : State) (rx : Nat) (off : Int) {k : Nat} (h : k ≠ Reg.timeTICK_SKIP ∧ k ≠ Reg.timeTIME_STEPS) :
    (s.clockTo rx off).r k = s.r k := by
  unfold State.clockTo
  split
  · exact stepTo_r _ _ _ h.1
  · exact correct_r s off h

theorem clockTo_good (s : State) (rx : Nat) (off : Int) :
    (s.clockTo rx off).clk.good = s.clk.good ∧ (s.clockTo rx off).clk.up = s.clk.up := by
  unfold State.clockTo
  split
  · rw [stepTo_clk]
    exact ⟨rfl, rfl⟩
  · exact correct_good s off

/-- A TIME_SYNC taken: when it came, by how much the counter was off, and the correction. -/
theorem syncTime_eq (s : State) (f : RingFrame) :
    let rx := 16 * fld 0 8 f.payload + fld 8 8 f.payload + s.r (Reg.portLINK_DELAY f.port)
    let off : Int := (rx : Int) - s.clk.ring16
    s.syncTime f = (((s.bump Reg.timeSYNC_RX).w Reg.timeOFFSET (sat2 32 off)).clockTo rx off).timeState off := by
  intro rx off
  have hst : ((s.bump Reg.timeSYNC_RX).w Reg.timeOFFSET (sat2 32 off)).r Reg.timeTIME_STATE = s.r Reg.timeTIME_STATE :=
    ((State.w_r _ _ _ _).trans (if_neg (by decide))).trans ((State.bump_r _ _ _).trans (if_neg (by decide)))
  unfold State.syncTime State.clockTo
  dsimp only
  rw [hst]
  by_cases h : s.r Reg.timeTIME_STATE = 0
  · rw [decide_eq_true h, if_pos h, if_pos rfl]
  · rw [decide_eq_false h, if_neg h, if_neg (by decide)]

theorem syncTime_spec (s : State) (f : RingFrame) :
    let rx := 16 * fld 0 8 f.payload + fld 8 8 f.payload + s.r (Reg.portLINK_DELAY f.port)
    let off : Int := (rx : Int) - s.clk.ring16; let u := s.syncTime f
    u.r Reg.timeSYNC_RX = min 0xFFFFFFFF (s.r Reg.timeSYNC_RX + 1) ∧ u.r Reg.timeOFFSET = sat2 32 off ∧ u.clk.lastSync = s.up ∧
      (s.r Reg.timeTIME_STATE = 0 → u.clk.ring16 = rx) ∧
      (if off.natAbs ≤ 800 ∧ 7 ≤ s.clk.good then u.r Reg.timeTIME_STATE = 2
        else s.r Reg.timeTIME_STATE = 0 ∨ s.r Reg.timeTIME_STATE = 3 → u.r Reg.timeTIME_STATE = 1) ∧
      (s.r Reg.timeTIME_STATE ≠ 0 →
        (16000 < off → u.clk.ring16 = rx ∧ u.r Reg.timeTIME_STEPS = min 0xFFFFFFFF (s.r Reg.timeTIME_STEPS + 1)) ∧
        (off < -16000 → u.clk.ring16 = s.clk.ring16 ∧ u.clk.slew = off ∧ u.clk.half = true ∧
          u.r Reg.timeTIME_STEPS = min 0xFFFFFFFF (s.r Reg.timeTIME_STEPS + 1)) ∧
        (-16000 ≤ off → off ≤ 16000 → u.clk.ring16 = s.clk.ring16 ∧ u.clk.slew = off ∧ u.clk.half = false ∧
          u.r Reg.timeTIME_STEPS = s.r Reg.timeTIME_STEPS)) := by
  intro rx off u
  let s1 := (s.bump Reg.timeSYNC_RX).w Reg.timeOFFSET (sat2 32 off)
  have hu : u = (s1.clockTo rx off).timeState off := syncTime_eq s f
  have hr1 (k : Nat) : s1.r k = if k = Reg.timeOFFSET then sat2 32 off else if k = Reg.timeSYNC_RX then min 0xFFFFFFFF (s.r Reg.timeSYNC_RX + 1)
      else s.r k := by
    show State.r (State.w _ _ _) k = _
    rw [State.w_r, State.bump_r]
  have hclk1 : s1.clk = s.clk := rfl
  clear_value s1
  have hkeep (k : Nat) (h : k ≠ Reg.timeOFFSET ∧ k ≠ Reg.timeSYNC_RX) : s1.r k = s.r k := by rw [hr1, if_neg h.1, if_neg h.2]
  have hst : s1.r Reg.timeTIME_STATE = s.r Reg.timeTIME_STATE := hkeep _ (by decide)
  have hsteps : s1.r Reg.timeTIME_STEPS = s.r Reg.timeTIME_STEPS := hkeep _ (by decide)
  obtain ⟨hclk, hother, hstate⟩ := timeState_spec (s1.clockTo rx off) off
  obtain ⟨hgood, hup⟩ := clockTo_good s1 rx off
  rw [hgood, clockTo_r s1 rx off (by decide), hst, hclk1] at hstate
  rw [hu]
  refine ⟨?_, ?_, ?_, fun h0 => ?_, hstate, fun h0 => ?_⟩
  · rw [hother _ (by decide), clockTo_r s1 rx off (by decide), hr1]
    rfl
  · rw [hother _ (by decide), clockTo_r s1 rx off (by decide), hr1]
    rfl
  · rw [hclk]
    exact hup.trans (congrArg Clk.up hclk1)
  · have hset : s1.clockTo rx off = s1.stepTo rx false := if_pos (hst.trans h0)
    rw [hclk, hset, stepTo_clk]
  · have hset : s1.clockTo rx off = s1.correct off := if_neg (by rwa [hst])
    obtain ⟨hfar, hback, hnear⟩ := correct_spec s1 off
    rw [hclk1, hsteps] at hfar hback hnear
    rw [hother _ (by decide), hclk, hset]
    refine ⟨fun h => ?_, fun h => ?_, fun h1 h2 => ?_⟩
    · obtain ⟨hc, hs⟩ := hfar h
      rw [hc, hs]
      exact ⟨by show s.clk.ring16 + off.toNat = rx; omega, rfl⟩
    · obtain ⟨hc, hs⟩ := hback h
      rw [hc, hs]
      exact ⟨rfl, rfl, rfl, rfl⟩
    · obtain ⟨hc, hs⟩ := hnear h1 h2
      rw [hc, hs]
      exact ⟨rfl, rfl, rfl, rfl⟩

/-- A new SEQ of TIME_SYNC has been seen. -/
def State.sawSync (s : State) (f : RingFrame) : State := { s with ring := { s.ring with seen := tset none s.ring.seen 0x20 (some f.seq) } }

theorem sawSync_r (s : State) (f : RingFrame) (k : Nat) : (s.sawSync f).r k = s.r k := rfl
theorem sawSync_clk (s : State) (f : RingFrame) : (s.sawSync f).clk = s.clk := rfl
theorem sawSync_up (s : State) (f : RingFrame) : (s.sawSync f).up = s.up := rfl
theorem heard_clk (s : State) (x : Option Nat) : (s.heard x).clk = s.clk := rfl
theorem heard_up (s : State) (x : Option Nat) : (s.heard x).up = s.up := rfl

/-- The first copy of a TIME_SYNC is taken, and goes on with CORR brought up to date. -/
theorem syncIn_new {s : State} {f : RingFrame} (res : Nat) (h : newerSeq (tget none s.ring.seen 0x20) f.seq = true) :
    s.syncIn f res = (((s.sawSync f).syncTime f).done,
      patchBytes f.payload 8 (leBytes 8 (fld 8 8 f.payload + s.r (Reg.portLINK_DELAY f.port) + res))) := if_pos h

/-- A later copy is only forwarded. -/
theorem syncIn_old {s : State} {f : RingFrame} (res : Nat) (h : newerSeq (tget none s.ring.seen 0x20) f.seq = false) :
    s.syncIn f res = (s, f.payload) := if_neg (by rw [h]; decide)

end Sys2Proof.Machine

open Sys2Proof Sys2Proof.Machine

/-- Settles O41: the neighbours' delay exchange, and the first copy of a TIME_SYNC corrects the counter. -/
theorem ringTime : Obligations.RingTime := by
  intro dt f s a p x
  refine ⟨fun t1 h => ?_, fun t2 t3 hty hwhole => ?_, ?_, fun res hty hall => ?_, fun hst hlate => ?_⟩
  · obtain ⟨hregs, hlast⟩ := delayOut_regs h t1
    exact ⟨_, rfl, hlast, hregs, fun q hq hup => delayOut_port h t1 hq hup⟩
  · have hexec : exec (.delayReq dt f t2 t3) s = .next (a.delayAnswer f t2 t3) :=
      congrArg Host.Outcome.next (neighbourFrame (fun t => t.delayAnswer f t2 t3) hty (by decide) hwhole)
    refine ⟨_, hexec, rfl, _, ringQueue_txq _ _ _ _ _ _ (by decide), rfl, rfl, rfl, fld_leBytes 8 t2 _, ?_⟩
    dsimp only
    rw [fld_append_right _ _ _ _ (by simp), leBytes_length, Nat.sub_self, ← List.append_nil (leBytes 8 t3), fld_leBytes]
    rfl
  · intro t4 t1 hty hwhole ht1 d
    have hexec : exec (.delayRsp dt f t4) s = .next (a.delayDone f t4) :=
      congrArg Host.Outcome.next (neighbourFrame (fun t => t.delayDone f t4) hty (by decide) hwhole)
    refine ⟨fun h => ?_, fun h => ⟨_, hexec, delayDone_late ht1 h⟩⟩
    obtain ⟨hport, hr⟩ := delayDone_valid (s := a) ht1 h
    exact ⟨_, hexec, hport, (hr _).trans (if_pos rfl), fun k hk => (hr k).trans (if_neg (by simpa using hk))⟩
  · intro b
    have hb : b = a.heard (if f.src = 0 then some a.up else a.ring.lastMaster) := fromMaster_heard fun h => nomatch h
    generalize (if f.src = 0 then some a.up else a.ring.lastMaster) = x0 at hb
    have hexec : exec (.timeSync dt f res) s = .next ((b.syncIn f res).1.ringForward f (b.syncIn f res).2 false) := by
      refine congrArg Host.Outcome.next ?_
      unfold State.frameIn
      rw [if_pos hty, ringIn_forAll hall (by rw [hty]; decide) (by rw [hty]; decide)]
    clear_value b
    subst hb
    refine ⟨fun hold => ?_, ?_⟩
    · rw [syncIn_old res (show newerSeq (tget none (a.heard x0).ring.seen 0x20) f.seq = false from hold)] at hexec
      exact hexec
    · intro hnew rx off
      rw [syncIn_new res (show newerSeq (tget none (a.heard x0).ring.seen 0x20) f.seq = true from hnew)] at hexec
      have hspec := syncTime_spec ((a.heard x0).sawSync f) f
      simp only [sawSync_r, sawSync_clk, sawSync_up, heard_r, heard_clk, heard_up] at hspec
      exact ⟨_, hexec, hspec⟩
  · have hexec : exec (.masterTimeLost dt) s = .next ((State.w { a with clk := { a.clk with good := 0 } } Reg.timeTIME_STATE 3).event 0x0302 0 0) :=
      congrArg Host.Outcome.next (if_pos ⟨hst, hlate⟩)
    exact ⟨_, hexec, (book_r (book_event _ _ _ _) _ (by decide)).trans ((State.w_r _ _ _ _).trans (if_pos rfl)),
      clk_of_book (book_event _ _ _ _)⟩
end

section
/-! PROOFS. What a hard stop by RING_ESTOP, an event, a stored record and a wiping reset leave alone. -/

namespace Sys2Proof.Machine

/-! ## Events and records -/

/-- An event touches registers of its own group, the event log and the ring's queue. -/
theorem event_eq (s : State) (code inst data : Nat) : s.event code inst data =
    { s with regs := (s.event code inst data).regs, od := (s.event code inst data).od, ring := (s.event code inst data).ring } := by
  unfold State.event
  extract_lets k hd held merged seq e s1 s2
  split
  · rfl
  · split <;> rfl

theorem event_pair (s : State) (code inst data : Nat) : (s.event code inst data).pair = s.pair := by rw [event_eq]

theorem nvmRecord_pair (s : State) (id cls : Nat) (d : Bytes) (fin : NvmDone) : (s.nvmRecord id cls d fin).pair = s.pair := rfl

theorem event_r (s : State) (code inst data : Nat) {k : Nat} (hk : bookKey k = false) : (s.event code inst data).r k = s.r k :=
  book_r (book_event _ _ _ _) k hk

theorem nvmRecord_r (s : State) (id cls : Nat) (d : Bytes) (fin : NvmDone) {k : Nat} (hk : bookKey k = false) :
    (s.nvmRecord id cls d fin).r k = s.r k :=
  book_r (book_nvmRecord _ _ _ _ _) k hk

/-! ## What the banks' own operations leave alone -/

/-- Registers that neither bookkeeping nor the banks' own operations write. -/
def sideKey (k : Nat) : Bool := decide (k < 0x500000) && !bookKey k

/-- What the banks' own operations leave alone: the ring, the factory data, the pair's state but for the partner's SEQ, and registers. -/
def State.offBanks (s : State) : (Nat → Nat) × Ring × Fac × Pair := (s.on sideKey, s.ring, s.fac, { s.pair with txSeq := 0 })

theorem offBanks_ring {s t : State} (h : t.offBanks = s.offBanks) : t.ring = s.ring := (Prod.mk.inj (Prod.mk.inj h).2).1
theorem offBanks_fac {s t : State} (h : t.offBanks = s.offBanks) : t.fac = s.fac := (Prod.mk.inj (Prod.mk.inj (Prod.mk.inj h).2).2).1
theorem offBanks_pair {s t : State} (h : t.offBanks = s.offBanks) : t.pair = { s.pair with txSeq := t.pair.txSeq } := by
  have hpair := congrArg (fun p : Pair => { p with txSeq := t.pair.txSeq }) (Prod.mk.inj (Prod.mk.inj (Prod.mk.inj h).2).2).2
  exact hpair
theorem offBanks_r {s t : State} (h : t.offBanks = s.offBanks) (k : Nat) (hk : sideKey k = true) : t.r k = s.r k :=
  on_r (Prod.mk.inj h).1 k hk

theorem sideKey_above {k : Nat} (h : 0x500000 ≤ k) : sideKey k = false := by
  unfold sideKey
  rw [decide_eq_false (by omega), Bool.false_and]

theorem sideKey_not_book {k : Nat} (h : sideKey k = true) : bookKey k = false := by
  unfold sideKey at h
  rw [Bool.and_eq_true, Bool.not_eq_true'] at h
  exact h.2

/-- States that differ in neither, and in registers of the banks only. -/
theorem offBanks_of {s t : State} (hr : t.on sideKey = s.on sideKey)
    (h : (t.ring, t.fac, ({ t.pair with txSeq := 0 } : Pair)) = (s.ring, s.fac, { s.pair with txSeq := 0 })) : t.offBanks = s.offBanks :=
  Prod.ext hr h

theorem offBanks_w (s : State) (k v : Nat) (h : 0x500000 ≤ k) : (s.w k v).offBanks = s.offBanks :=
  offBanks_of (on_w _ _ _ (sideKey_above h)) rfl

theorem offBanks_wAll (s : State) (l : List (Nat × Nat)) (h : ∀ e ∈ l, 0x500000 ≤ e.1) : (s.wAll l).offBanks = s.offBanks := by
  refine offBanks_of (on_wAll _ _ fun e he => sideKey_above (h e he)) ?_
  rw [State.wAll_eq]

theorem offBanks_wBank (s : State) (b : Nat) (x : Bank) : (s.wBank b x).offBanks = s.offBanks := rfl
theorem offBanks_wChan (s : State) (n : Nat) (x : Chan) : (s.wChan n x).offBanks = s.offBanks := rfl

theorem offBanks_actDone (s : State) (key v : Nat) (ok : Bool) (h : 0x500000 ≤ key) : (s.actDone key v ok).offBanks = s.offBanks := by
  refine offBanks_of (on_of_r fun k hk => actDone_r_ne s key v ok k (sideKey_not_book hk) fun hj => ?_) ?_
  · have hbelow : k < 0x500000 := by
      by_contra hge
      rw [sideKey_above (Nat.not_lt.1 hge)] at hk
      cases hk
    unfold resultOf at hj
    dsimp only at hj
    have hstep : Reg.dbgSTEP_RESULT = 0x600008 := rfl
    split_ifs at hj <;> obtain rfl := Option.some.inj hj <;> omega
  · rw [actDone_ring, actDone_eq]

theorem offBanks_coil (s : State) (n r : Nat) (injector : Bool) : (s.coil n r injector).offBanks = s.offBanks := by
  unfold State.coil
  dsimp only
  split <;> simp (disch := omega) only [offBanks_w, State.wi, Reg.chsCOIL_RES, Reg.chsCOIL_T, Reg.chsVARIANT]

theorem offBanks_holdEst (s : State) (n : Nat) (r : Option Nat) : (s.holdEst n r).offBanks = s.offBanks := by
  unfold State.holdEst
  dsimp only
  split
  · cases r with
    | none => exact offBanks_coil _ _ _ _
    | some v => exact offBanks_coil _ _ _ _
  · rfl

theorem offBanks_lastOn (s : State) (n : Nat) : (s.lastOn n).offBanks = s.offBanks := by
  simp (disch := omega) only [State.lastOn, offBanks_w, Reg.chsLAST_ON]

theorem offBanks_eventCut (s : State) (b : Nat) : (s.eventCut b).offBanks = s.offBanks := by
  unfold State.eventCut
  dsimp only
  split
  · next n _ =>
    have hest : (if (s.bank b).freeAt = none then (s.holdEst n none).when (decide ((s.bank b).decayAt = none)) fun t => t.lastOn n
        else s : State).offBanks = s.offBanks := by
      split
      · exact (view_when State.offBanks _ _ _ (offBanks_lastOn _ _)).trans (offBanks_holdEst s n none)
      · rfl
    exact (offBanks_w _ _ _ (by unfold Reg.chsCH_STATE; omega)).trans hest
  · rfl

theorem offBanks_idle (s : State) (n : Nat) :
    (s.wAll [(Reg.chsCH_STATE n, 0), (Reg.chsI_SET n, 0), (Reg.chsDUTY n, 0)]).offBanks = s.offBanks := by
  refine offBanks_wAll _ _ ?_
  simp only [List.mem_cons, List.not_mem_nil, or_false, forall_eq_or_imp, forall_eq, Reg.chsCH_STATE, Reg.chsI_SET, Reg.chsDUTY]
  omega

theorem offBanks_hardReact (s : State) (b : Nat) : (s.hardReact b).offBanks = s.offBanks :=
  (view_each State.offBanks _ _ _ fun n _ t => view_when State.offBanks t _ _ (offBanks_idle t n)).trans (offBanks_eventCut (s.allOff b) b)

theorem offBanks_queuePub (s : State) (b : Nat) : (s.queuePub b).offBanks = s.offBanks := by
  refine (view_each State.offBanks _ _ _ fun n _ t => view_when State.offBanks t _ _ ?_).trans ?_
  · exact offBanks_w _ _ _ (by unfold Reg.chsCH_STATE; omega)
  · exact offBanks_w _ _ _ (by unfold Reg.bstQUEUE_DEPTH; omega)

theorem offBanks_leaveArmed (s : State) (b : Nat) : (s.leaveArmed b).offBanks = s.offBanks := by
  have htests : (s.each ((s.bank b).queue.filter fun q => q.test) fun q t => t.actDone (Reg.chTEST_PULSE q.ch) 4 false).offBanks = s.offBanks :=
    view_each State.offBanks _ _ _ fun q _ t => offBanks_actDone t _ _ _ (by unfold Reg.chTEST_PULSE; omega)
  unfold State.leaveArmed
  dsimp only
  generalize s.each ((s.bank b).queue.filter fun q => q.test) _ = t at htests
  refine (offBanks_queuePub _ b).trans ((view_each State.offBanks (t.wBank b _) _ _ ?_).trans htests)
  exact fun n _ u => offBanks_w u _ _ (by unfold Reg.chsCARRY; omega)

theorem offBanks_d2dTraffic (s : State) : s.d2dTraffic.offBanks = s.offBanks := by
  unfold State.d2dTraffic
  split <;> rfl

theorem offBanks_drive (s : State) (n : Nat) (ls hb hh : Bool) : (s.drive n ls hb hh).offBanks = s.offBanks := by
  unfold State.drive
  dsimp only
  split <;> rfl

theorem offBanks_startDecay (s : State) (n : Nat) : (s.startDecay n none).offBanks = s.offBanks := by
  unfold State.startDecay
  dsimp only
  rw [offBanks_drive, offBanks_w _ _ _ (by unfold Reg.chsCH_STATE; omega), offBanks_lastOn, offBanks_wBank]

theorem offBanks_softReact (s : State) (b : Nat) : (s.softReact b).offBanks = s.offBanks := by
  unfold State.softReact
  dsimp only
  split
  · split
    · exact offBanks_startDecay _ _
    · rfl
  · exact (view_each State.offBanks _ _ _ fun n _ t => offBanks_idle t n).trans rfl

/-- The reaction of a bank in use to a hard stop, and what an armed one leaves behind. -/
def State.haltBank (t : State) (b old : Nat) : State := (t.hardReact b).when (decide (old = 4)) fun u => u.leaveArmed b

theorem offBanks_haltBank (t : State) (b old : Nat) : (t.haltBank b old).offBanks = t.offBanks := by
  have hleave := view_when State.offBanks (t.hardReact b) (decide (old = 4)) (fun u => u.leaveArmed b) (offBanks_leaveArmed _ b)
  rw [offBanks_hardReact] at hleave
  exact hleave

/-- The bank's cause is set; a bank that does not run has no more. -/
def State.causeSet (s : State) (b c : Nat) : State :=
  let s1 := s.w (Reg.bkSTOP_CAUSE b) c
  s1.wBank b { s1.bank b with toArm := false, rearm := (s1.bank b).rearm }

/-- A hard stop by RING_ESTOP (R260): its message crosses the die-to-die link. -/
theorem bankStop_estop (s : State) (b : Nat) : s.bankStop b 1 true =
    let old := s.r (Reg.bkBANK_STATE b)
    let s2 := s.d2dTraffic.causeSet b (setBit 1 true (s.r (Reg.bkSTOP_CAUSE b)))
    if old = 0 then s2
    else
      let s4 := s2.haltBank b old
      let new := restState (s4.r (Reg.bkSTOP_CAUSE b))
      (s4.w (Reg.bkBANK_STATE b) new).when (decide (new = 2 ∧ old ≠ 2)) fun t => t.bump (Reg.bstSTOPS b) := by
  have hrearm (x : Bool) (old : Nat) : (x || (decide ((1 : Nat) = 2) && decide (3 ≤ old))) = x := by simp
  unfold State.bankStop State.causeSet State.haltBank
  simp only [hrearm]
  rfl

theorem offBanks_causeSet (s : State) (b c : Nat) : (s.causeSet b c).offBanks = s.offBanks :=
  offBanks_w s _ _ (by unfold Reg.bkSTOP_CAUSE; omega)

theorem offBanks_bankStop_estop (s : State) (b : Nat) : (s.bankStop b 1 true).offBanks = s.offBanks := by
  rw [bankStop_estop]
  dsimp only
  split
  · rw [offBanks_causeSet, offBanks_d2dTraffic]
  · rw [view_when State.offBanks _ _ _ (offBanks_w _ _ _ (by unfold Reg.bstSTOPS; omega)),
      offBanks_w _ _ _ (by unfold Reg.bkBANK_STATE; omega), offBanks_haltBank, offBanks_causeSet, offBanks_d2dTraffic]

theorem offBanks_stopAll_estop (s : State) : (s.stopAll 1 true).offBanks = s.offBanks :=
  view_each State.offBanks _ _ _ fun b _ t => offBanks_bankStop_estop t b

/-! ## A stop by RING_ESTOP (R260) -/

/-- A bank that is halted has its gates off, and its queue empty where it was ARMED. -/
theorem haltBank_steady (t : State) (b old : Nat) : (t.haltBank b old).steady = (t.wBank b ((t.bank b).halted old)).steady := by
  have hoff := hardReact_steady t b
  unfold State.haltBank State.when
  by_cases h : old = 4
  · rw [decide_eq_true h, if_pos rfl, leaveArmed_steady]
    have hx : { (t.hardReact b).bank b with queue := [] }.drives = ((t.bank b).halted old).drives := by
      have hbank := steady_bank hoff b
      simp_all [Bank.halted, Bank.drives, State.allOff]
    exact (steady_wBank_congr hoff b hx).trans (steady_wBank_wBank _ _ _ _)
  · rw [decide_eq_false h, if_neg (by decide), hoff]
    exact steady_wBank_congr rfl b (by simp [Bank.halted, Bank.drives, h])

theorem causeSet_steady (s : State) (b c : Nat) : (s.causeSet b c).steady = (s.w (Reg.bkSTOP_CAUSE b) c).steady :=
  steady_wBank _ _ _ (by rfl)

/-- What the die-to-die link's traffic leaves of the banks. -/
theorem sameStop_d2dTraffic (s : State) (b : Nat) : SameStop s s.d2dTraffic b := by
  unfold State.d2dTraffic
  split <;> exact ⟨rfl, rfl, rfl⟩

/-- A stop by RING_ESTOP stops its bank and leaves every other one as it was. -/
theorem bankStop_estop_hard (s : State) {b : Nat} (hb : b < 24) : HardStopped s (s.bankStop b 1 true) b 1 ∧
    ∀ j, j < 24 → j ≠ b → SameStop s (s.bankStop b 1 true) j := by
  rw [bankStop_estop]
  dsimp only
  generalize hc : setBit 1 true (s.r (Reg.bkSTOP_CAUSE b)) = c
  have hbit : bit 1 c = true := hc ▸ bit_setBit 1 _
  have hne (j : Nat) : Reg.bkBANK_STATE j ≠ Reg.bkSTOP_CAUSE b := by unfold Reg.bkBANK_STATE Reg.bkSTOP_CAUSE; omega
  obtain ⟨hst0, -, -⟩ := sameStop_d2dTraffic s b
  generalize hs2 : s.d2dTraffic.causeSet b c = s2
  have h2 : s2.steady = (s.d2dTraffic.w (Reg.bkSTOP_CAUSE b) c).steady := hs2 ▸ causeSet_steady _ _ _
  have hcause2 : s2.r (Reg.bkSTOP_CAUSE b) = c := (steady_r h2 (stopKey_cause hb)).trans ((State.w_r _ _ _ _).trans (if_pos rfl))
  have hother2 (j : Nat) (hj : j < 24) (hjb : j ≠ b) : SameStop s s2 j := by
    have hw : SameStop s.d2dTraffic (s.d2dTraffic.w (Reg.bkSTOP_CAUSE b) c) j :=
      ⟨(State.w_r _ _ _ _).trans (if_neg (hne j)), (State.w_r _ _ _ _).trans (if_neg (by unfold Reg.bkSTOP_CAUSE; omega)), rfl⟩
    exact ((sameStop_d2dTraffic s j).trans hw).trans (sameStop_of_steady h2 hj)
  by_cases h0 : s.r (Reg.bkBANK_STATE b) = 0
  · rw [if_pos h0]
    refine ⟨⟨by rw [State.rb, hcause2, hbit], .inl ?_, fun h4 => by omega⟩, hother2⟩
    exact ((steady_r h2 (stopKey_state hb)).trans ((State.w_r _ _ _ _).trans (if_neg (hne b)))).trans (hst0.trans h0)
  · rw [if_neg h0]
    generalize hs4 : s2.haltBank b (s.r (Reg.bkBANK_STATE b)) = s4
    have h4 : s4.steady = (s2.wBank b ((s2.bank b).halted (s.r (Reg.bkBANK_STATE b)))).steady := hs4 ▸ haltBank_steady _ _ _
    have hcause4 : s4.r (Reg.bkSTOP_CAUSE b) = c := (steady_r h4 (stopKey_cause hb)).trans hcause2
    rw [hcause4]
    generalize hs5 : ((s4.w (Reg.bkBANK_STATE b) (restState c)).when _ fun t => t.bump (Reg.bstSTOPS b)) = s5
    have h5 : s5.steady = (s4.w (Reg.bkBANK_STATE b) (restState c)).steady := by
      rw [← hs5]
      exact view_when State.steady _ _ _ (steady_w' _ _ _ (by unfold stopKey Reg.bstSTOPS Reg.opTICK_COUNT; exact decide_eq_false (by omega)))
    have hstate5 : s5.r (Reg.bkBANK_STATE b) = restState c := (steady_r h5 (stopKey_state hb)).trans ((State.w_r _ _ _ _).trans (if_pos rfl))
    have hcause5 : s5.r (Reg.bkSTOP_CAUSE b) = c :=
      (steady_r h5 (stopKey_cause hb)).trans ((State.w_r _ _ _ _).trans ((if_neg (hne b).symm).trans hcause4))
    have hbank5 (j : Nat) : (s5.bank j).drives = ((s2.wBank b ((s2.bank b).halted (s.r (Reg.bkBANK_STATE b)))).bank j).drives :=
      (steady_bank h5 j).trans (steady_bank h4 j)
    have hown := hbank5 b
    simp only [State.wBank_bank, if_pos, Bank.drives, Bank.halted, Prod.mk.injEq] at hown
    obtain ⟨hls, hhb, hhh, hq⟩ := hown
    refine ⟨⟨by rw [State.rb, hcause5, hbit], .inr ⟨hls, hhb, hhh⟩, fun h4 => ⟨?_, ?_⟩⟩, fun j hj hjb => (hother2 j hj hjb).trans ⟨?_, ?_, ?_⟩⟩
    · exact hstate5.trans (restState_of_bit (by decide) hbit)
    · rw [hq, if_pos h4]
    · refine (steady_r h5 (stopKey_state hj)).trans ((State.w_r _ _ _ _).trans ((if_neg ?_).trans (steady_r h4 (stopKey_state hj))))
      unfold Reg.bkBANK_STATE
      omega
    · exact (steady_r h5 (stopKey_cause hj)).trans ((State.w_r _ _ _ _).trans
        ((if_neg (by unfold Reg.bkBANK_STATE Reg.bkSTOP_CAUSE; omega)).trans (steady_r h4 (stopKey_cause hj))))
    · rw [hbank5 j, State.wBank_bank, if_neg hjb]

/-- RING_ESTOP stops every bank of a list without repetitions, and no other one. -/
theorem each_estop_hard (l : List Nat) (hl : l.Nodup) (h24 : ∀ b ∈ l, b < 24) (s : State) :
    let t := s.each l fun b t => t.bankStop b 1 true
    (∀ b ∈ l, HardStopped s t b 1) ∧ ∀ b, b < 24 → b ∉ l → SameStop s t b := by
  induction l generalizing s with
  | nil => exact ⟨fun b hb => absurd hb List.not_mem_nil, fun b _ _ => sameStop_refl s b⟩
  | cons b l ih =>
    obtain ⟨hbl, hnodup⟩ := List.nodup_cons.1 hl
    obtain ⟨hstop, hsame⟩ := bankStop_estop_hard s (h24 b List.mem_cons_self)
    obtain ⟨ihstop, ihsame⟩ := ih hnodup (fun j hj => h24 j (List.mem_cons_of_mem b hj)) (s.bankStop b 1 true)
    refine ⟨fun j hj => ?_, fun j hj24 hj => ?_⟩
    · rcases List.mem_cons.1 hj with rfl | hj
      · exact hstop.trans (ihsame j (h24 j List.mem_cons_self) hbl)
      · exact .of_same (hsame j (h24 j (List.mem_cons_of_mem b hj)) fun e => hbl (e ▸ hj)) (ihstop j hj)
    · rw [List.mem_cons, not_or] at hj
      obtain ⟨hjb, hjl⟩ := hj
      exact (hsame j hj24 hjb).trans (ihsame j hj24 hjl)

/-- RING_ESTOP stops every bank. -/
theorem stopAll_estop (s : State) {b : Nat} (hb : b < 24) : HardStopped s (s.stopAll 1 true) b 1 :=
  (each_estop_hard bankNos List.nodup_range (fun _ hb => List.mem_range.1 hb) s).1 b (List.mem_range.2 hb)

/-! ## A wiping reset (R567, R568) -/

theorem nvmCut_eq (s : State) (b : Nat) : s.nvmCut b = { s with nvm := (s.nvmCut b).nvm, free := (s.nvmCut b).free } := by
  unfold State.nvmCut
  split
  · rfl
  · split <;> rfl

/-- What a reset leaves of the storage is all that it takes from the storage first. -/
def State.sansStore (s : State) : State := { s with nvm := {}, flash := {}, free := 0 }

theorem nvmStop_sansStore (s : State) (cause : Nat) : (s.nvmStop cause).sansStore = s.sansStore := by
  unfold State.nvmStop
  split
  · exact view_each State.sansStore _ _ _ fun b _ t => by rw [nvmCut_eq]; rfl
  · rfl

theorem flashStop_sansStore (s : State) (cause : Nat) : (s.flashStop cause).sansStore = s.sansStore := by
  unfold State.flashStop
  split
  · split <;> rfl
  · rfl

/-- A state but for its storage. -/
theorem sansStore_eq {s t : State} (h : t.sansStore = s.sansStore) : t = { s with nvm := t.nvm, flash := t.flash, free := t.free } := by
  have hback : { t.sansStore with nvm := t.nvm, flash := t.flash, free := t.free } = { s.sansStore with nvm := t.nvm, flash := t.flash, free := t.free } := by
    rw [h]
  exact hback

theorem pairCounters_r (t : State) (r : Nat → Nat) (k : Nat) :
    (t.wAll (pairCounters.map fun j => (j, r j))).r k = if k ∈ pairCounters then r k else t.r k := by
  show ((((t.w _ _).w _ _).w _ _).w _ _).r k = _
  simp only [State.w_r, pairCounters, List.mem_cons, List.not_mem_nil, or_false]
  split_ifs <;> simp_all

/-- A wiping reset leaves what R567 says. -/
theorem wipe_wiped (s : State) (cause : Nat) : Wiped s (s.wipe cause) cause := by
  have hbase : ((s.nvmStop cause).flashStop cause).sansStore = s.sansStore :=
    (flashStop_sansStore _ _).trans (nvmStop_sansStore s cause)
  unfold State.wipe
  generalize (s.nvmStop cause).flashStop cause = x at hbase
  obtain ⟨nvm, flash, free, rfl⟩ : ∃ nvm flash free, x = { s with nvm := nvm, flash := flash, free := free } := ⟨_, _, _, sansStore_eq hbase⟩
  refine ⟨fun k hk => ?_, fun k hk => ?_, rfl, rfl, rfl, rfl, rfl, rfl, rfl, rfl, rfl, rfl, rfl, rfl, rfl, rfl⟩
  · exact (pairCounters_r _ _ k).trans (if_neg hk)
  · exact (pairCounters_r _ _ k).trans (if_pos hk)

end Sys2Proof.Machine
end

section
/-! PROOFS. Emergency stop, ring reset, RING_JOIN and grants (O43). -/

namespace Sys2Proof.Machine

/-! ## Frames that go on -/

theorem ringForward_parts (s : State) (f : RingFrame) (p : Bytes) (bad : Bool) : (s.ringForward f p bad).ring.estops = s.ring.estops ∧
    (s.ringForward f p bad).banks = s.banks ∧ (s.ringForward f p bad).chans = s.chans := by
  unfold State.ringForward
  split <;> exact ⟨rfl, rfl, rfl⟩

theorem portFORWARDED_below (f : RingFrame) {k : Nat} (h : 0x110400 ≤ k ∨ k < 0x110100) : k ≠ Reg.portFORWARDED f.port := by
  have := f.port.isLt
  unfold Reg.portFORWARDED
  omega

/-- Forwarding leaves the banks as they are. -/
theorem sameStop_ringForward (s : State) (f : RingFrame) (p : Bytes) (bad : Bool) (b : Nat) : SameStop s (s.ringForward f p bad) b := by
  refine ⟨ringForward_r _ _ _ _ _ (portFORWARDED_below f (.inl ?_)), ringForward_r _ _ _ _ _ (portFORWARDED_below f (.inl ?_)), ?_⟩
  · unfold Reg.bkBANK_STATE; omega
  · unfold Reg.bkSTOP_CAUSE; omega
  · unfold State.bank
    rw [(ringForward_parts s f p bad).2.1]

/-! ## ESTOP and ESTOP_CLEAR (R421-R423) -/

/-- A broadcast frame has its effect, and goes on as it came. -/
theorem broadcastFrame {a : State} {f : RingFrame} {ty : Nat} (g : State → State) (hty : f.ty = ty) (hn : neighbourTy ty = false)
    (hr : ringTypes.contains ty = true) (h : a.forAll f = true) :
    a.frameIn f ty (keepPayload f g) = (g (a.fromMaster f false)).ringForward f f.payload false := by
  subst hty
  exact (if_pos rfl).trans (ringIn_forAll h hn hr _)

/-- A unicast frame for the device has its effect. -/
theorem unicastFrame {a : State} {f : RingFrame} {ty : Nat} (g : State → State) (hty : f.ty = ty) (hn : neighbourTy ty = false)
    (hr : ringTypes.contains ty = true) (h : a.forMe f = true) : a.frameIn f ty (keepPayload f g) = g (a.fromMaster f true) := by
  subst hty
  exact (if_pos rfl).trans (ringIn_forMe h hn hr _)

/-- The first ESTOP with an ID. -/
theorem estopIn_new {s : State} {f : RingFrame} (h0 : fld 0 4 f.payload ≠ 0) (hnew : fld 0 4 f.payload ∉ s.ring.estops) :
    (s.estopIn f).ring.estops = s.ring.estops ++ [fld 0 4 f.payload] ∧
      (s.estopIn f).r Reg.nodeESTOP_ACTIVE = min 255 (s.ring.estops.length + 1) ∧
      ∀ b, b < 24 → HardStopped s (s.estopIn f) b 1 := by
  have hring := offBanks_ring (offBanks_stopAll_estop s)
  have hno : ¬ (fld 0 4 f.payload = 0 ∨ s.ring.estops.contains (fld 0 4 f.payload) = true) := by
    simpa [h0] using hnew
  have hstop (b : Nat) (hb : b < 24) := stopAll_estop s hb
  unfold State.estopIn
  dsimp only
  rw [if_neg hno]
  generalize s.stopAll 1 true = t at hring hstop
  rw [hring]
  refine ⟨rfl, ?_, fun b hb => (hstop b hb).trans ⟨?_, ?_, rfl⟩⟩
  · refine (State.w_r _ _ _ _).trans ((if_pos rfl).trans ?_)
    rw [List.length_append]
    rfl
  · exact (State.w_r _ _ _ _).trans (if_neg (by unfold Reg.bkBANK_STATE Reg.nodeESTOP_ACTIVE; omega))
  · exact (State.w_r _ _ _ _).trans (if_neg (by unfold Reg.bkSTOP_CAUSE Reg.nodeESTOP_ACTIVE; omega))

theorem estopIn_old {s : State} {f : RingFrame} (h : fld 0 4 f.payload ∈ s.ring.estops) : s.estopIn f = s :=
  if_pos (.inr (List.contains_iff_mem.2 h))

/-! ## RESET (R424, R485) -/

theorem resetIn_mine {s : State} {f : RingFrame} (h : f.payload.take 12 = padTo 12 s.fac.serial ∧ fld 12 1 f.payload = 1)
    (he : s.pair.mode = true → f.epoch = s.epoch) : s.resetIn f = if s.stopHeld then s else s.wipe 4 := by
  have hstale : (s.pair.mode && decide (f.epoch < s.epoch)) = false := by
    cases hm : s.pair.mode with
    | false => rfl
    | true => rw [he hm]; simp
  exact if_pos ⟨h.1, h.2, by rw [hstale]; rfl⟩

theorem resetIn_refused {s : State} {f : RingFrame} (h : ¬ (f.payload.take 12 = padTo 12 s.fac.serial ∧ fld 12 1 f.payload = 1) ∨
    (s.pair.mode = true ∧ f.epoch < s.epoch)) : s.resetIn f = s.bump Reg.nodeRESET_REFUSED := by
  refine if_neg fun hall => ?_
  obtain ⟨htake, hkind, hstale⟩ := hall
  rcases h with h | ⟨hm, he⟩
  · exact h ⟨htake, hkind⟩
  · rw [hm, decide_eq_true he] at hstale
    cases hstale

/-- A wiping reset of the state in which the newest frame of the master came is one of the state before. -/
theorem wiped_heard {a t : State} {x : Option Nat} {cause : Nat} (h : Wiped (a.heard x) t cause) : Wiped a t cause := h

/-! ## Grants (R488, R491) -/

section
variable {s : State} {f : RingFrame} (hsrc : f.src = 0) (hme : f.payload.take 12 = padTo 12 s.fac.serial)
include hsrc hme

/-- A grant that is current, on a device of a pair. -/
theorem grantIn_current (hmode : s.pair.mode = true) (h1 : fld 12 1 f.payload ≠ 0) (h3 : fld 12 1 f.payload ≤ 3)
    (he : if fld 12 1 f.payload = 1 then s.known < fld 16 4 f.payload else fld 16 4 f.payload = s.epoch) :
    s.grantIn f = if fld 12 1 f.payload = 1 then s.rightTo (fld 16 4 f.payload) else if fld 12 1 f.payload = 2 then s.grantRenew
      else s.leaseOver := by
  have hcur : (if fld 12 1 f.payload = 1 then decide (s.known < fld 16 4 f.payload) else decide (fld 16 4 f.payload = s.epoch)) = true := by
    split at he
    · next h => rw [if_pos h, decide_eq_true he]
    · next h => rw [if_neg h, decide_eq_true he]
  unfold State.grantIn
  dsimp only
  rw [if_neg (by simp [hsrc, hme, h1, h3]), hcur, if_neg (by decide), hmode, if_neg (by decide)]

/-- A TAKE that is not above the highest epoch taken is an event, and no more. -/
theorem grantIn_stale (h1 : fld 12 1 f.payload = 1) (he : fld 16 4 f.payload ≤ s.known) :
    s.grantIn f = s.event 0x0708 (fld 12 1 f.payload) (fld 16 4 f.payload) := by
  unfold State.grantIn
  dsimp only
  rw [if_neg (by simp [hsrc, hme, h1]), if_pos h1, if_pos (by simp [he])]

end

/-- Of a state with another right to claim the same claim may be made. -/
theorem mayClaim_right (s : State) (x : Option Nat) : State.mayClaim { s with pair := { s.pair with right := x } } = s.mayClaim := rfl

theorem rightTo_waits {s : State} {e : Nat} (hf : s.follower = true) (hmay : s.mayClaim = false) :
    s.rightTo e = { s with pair := { s.pair with right := some e } } := by
  unfold State.rightTo State.tryClaim
  rw [if_pos hf]
  refine if_neg fun h => ?_
  have hclaim := h.1
  rw [mayClaim_right, hmay] at hclaim
  cases hclaim

/-- A claim under a newer epoch waits for that epoch to be stored. -/
theorem startClaim_stores {s : State} {e : Nat} (he : s.epoch < e) (grant : Bool) : let t := s.startClaim e grant
    t.pair.claiming = true ∧ t.pair.storing = some (e, .claim) ∧ t.r Reg.prROLE = 2 ∧ t.pair.toggling = s.pair.toggling := by
  unfold State.startClaim
  dsimp only
  rw [if_neg (by exact Nat.not_le.2 he)]
  unfold State.setEpoch
  rw [nvmRecord_r _ _ _ _ _ (by decide)]
  refine ⟨rfl, rfl, ?_, rfl⟩
  exact (wAll_pair_r (k := Reg.prROLE) (j := Reg.prCLAIM_LAPSED) _ 2 0 Reg.prROLE).trans ((if_neg (by decide)).trans (if_pos rfl))

/-- The right of a TAKE starts the claim of a follower that may claim. -/
theorem rightTo_claims {s : State} {e : Nat} (hf : s.follower = true) (hmay : s.mayClaim = true) (he : s.known < e) :
    let t := s.rightTo e
    t.pair.claiming = true ∧ t.pair.storing = some (e, .claim) ∧ t.r Reg.prROLE = 2 ∧ t.pair.toggling = s.pair.toggling := by
  have hep : s.epoch < e := lt_of_le_of_lt (epoch_le_known s) he
  have heq : s.rightTo e = State.startClaim { s with pair := { s.pair with right := some e } } e true := by
    unfold State.rightTo State.tryClaim
    rw [if_pos hf]
    exact if_pos ⟨hmay, he⟩
  rw [heq]
  exact startClaim_stores (s := { s with pair := { s.pair with right := some e } }) hep true

theorem grantRenew_lease {s : State} (hmode : s.pair.mode = true) (ha : s.pair.authority = true) (hl : s.pair.leaseSafe = 0) :
    s.grantRenew = { s with pair := { s.pair with leaseEnd := some (s.up + 500000000), granted := true } } := by
  unfold State.grantRenew State.leaseRenew State.when
  rw [if_pos (by simp [hmode, ha, hl]), ha, Bool.or_true]
  rfl

theorem leaseOver_ends {s : State} (hmode : s.pair.mode = true) (ha : s.pair.authority = true) (hl : s.pair.leaseSafe = 0) :
    s.leaseOver.pair = { s.pair with leaseEnd := none, leaseSafe := 1 } ∧
      s.leaseOver.r Reg.prLEASE_EXPIRIES = min 0xFFFFFFFF (s.r Reg.prLEASE_EXPIRIES + 1) := by
  have heq : s.leaseOver = _ := if_pos ⟨hmode, ha, hl⟩
  rw [heq, event_pair, event_r _ _ _ _ (by decide)]
  exact ⟨rfl, (State.bump_r _ _ _).trans (if_pos rfl)⟩

/-! ## RING_JOIN by a command of its own (R414, R448) -/

theorem portDown_od (s : State) (p : Nat) : (s.portDown p).od = s.od := by
  unfold State.portDown State.when
  dsimp only
  split <;> rfl

theorem pubPort_od (s : State) (p : Nat) : (s.pubPort p).od = s.od := by
  have hdown : (if s.portUp p ∧ s.portNow p ≠ 2 then s.portDown p else s : State).od = s.od := by
    split
    · exact portDown_od s p
    · rfl
  unfold State.pubPort
  dsimp only
  generalize (if s.portUp p ∧ s.portNow p ≠ 2 then s.portDown p else s : State) = t at hdown
  split <;> exact hdown

theorem ringPub_od (s : State) : s.ringPub.od = s.od := by
  unfold State.ringPub
  extract_lets s1 gone ring s2 s3
  have hs1 : s1 = s.each (List.range 2) State.pubPort := rfl
  have h1 : s1.od = s.od := by
    rw [hs1]
    exact view_each State.od s _ State.pubPort fun p _ t => pubPort_od t p
  have h2 : s2.od = s1.od := by
    unfold s2 ring
    clear_value s1
    split <;> rfl
  have h3 : s3.od = s2.od := by
    unfold s3
    clear_value s2
    exact view_each State.od s2.dropNeighbour _ (fun l t => t.wLane l { t.lane l with clock := t.laneClock l }) fun _ _ _ => rfl
  exact (State.w_od s3 _ _).trans (h3.trans (h2.trans h1))

theorem stageA_od (s : State) {l : Nat} (hl : 80 ≤ l ∧ l < 88) : (s.stageA l).od = s.od := by
  unfold State.stageA
  dsimp only
  rw [laneTo_ring _ _ _ hl, ringPub_od, State.w_od, State.wAll_eq]
  rfl

theorem ringBringUp_od (s : State) : s.ringBringUp.od = s.od := by
  unfold State.ringBringUp
  split
  · rfl
  · rw [ringPub_od]
    exact view_each State.od s _ (fun l t => (t.wLane l {}).stageA l) fun l hl t => stageA_od (t.wLane l {}) (ringLanes_bounds l hl)

theorem ringJoinRun_rsp (s : State) : s.ringJoinRun.od.rsp = s.od.rsp := by
  unfold State.ringJoinRun
  rw [actDone_rsp, ringBringUp_od]

end Sys2Proof.Machine

open Sys2Proof Sys2Proof.Machine

/-- Settles O43: stop, withdrawal, reset, joining and grants, each by its own rule. -/
theorem ringCommands : Obligations.RingCommands := by
  intro dt f s a id
  refine ⟨fun hty hall => ?_, fun hty hsrc hall => ?_, fun hty hme hep => ?_, fun o v hst hmay => ?_, fun hty hme hep hsrc hmine hmode => ?_⟩
  · have hb : a.fromMaster f false = a.heard (if f.src = 0 then some a.up else a.ring.lastMaster) := fromMaster_heard fun h => nomatch h
    have hexec : exec (.estop dt f) s = .next (((a.fromMaster f false).estopIn f).ringForward f f.payload false) :=
      congrArg Host.Outcome.next (broadcastFrame (fun t => t.estopIn f) hty (by decide) (by decide) hall)
    rw [hb] at hexec
    generalize (if f.src = 0 then some a.up else a.ring.lastMaster) = x0 at hexec
    refine ⟨fun h0 hnew => ⟨_, hexec, ?_⟩, fun hold => ⟨_, hexec, ?_⟩⟩
    · obtain ⟨hlist, hcount, hstop⟩ := estopIn_new (s := a.heard x0) h0 hnew
      generalize (a.heard x0).estopIn f = u at hlist hcount hstop
      refine ⟨(ringForward_parts u f _ _).1.trans hlist, ?_, fun b hb => ?_⟩
      · exact (ringForward_r _ _ _ _ _ (portFORWARDED_below f (.inr (by decide)))).trans hcount
      · exact HardStopped.stopped (HardStopped.trans (hstop b hb) (sameStop_ringForward u f _ _ b))
    · rw [estopIn_old (s := a.heard x0) hold]
      exact ringForward_parts (a.heard x0) f _ _
  · have hb : a.fromMaster f false = a.heard (some a.up) := by
      have hheard : a.fromMaster f false = a.heard (if f.src = 0 then some a.up else a.ring.lastMaster) := fromMaster_heard fun h => nomatch h
      rwa [if_pos hsrc] at hheard
    have hexec : exec (.estopClear dt f) s = .next (((a.fromMaster f false).estopOut f).ringForward f f.payload false) :=
      congrArg Host.Outcome.next (broadcastFrame (fun t => t.estopOut f) hty (by decide) (by decide) hall)
    rw [hb, show (a.heard (some a.up)).estopOut f = _ from if_pos hsrc] at hexec
    have hparts := ringForward_parts ((a.heard (some a.up)).estopPub (a.ring.estops.filter fun i => i ≠ id)) f f.payload false
    refine ⟨_, hexec, hparts.1, ?_, hparts.2.1⟩
    have hcount : ((a.heard (some a.up)).estopPub (a.ring.estops.filter fun i => i ≠ id)).r Reg.nodeESTOP_ACTIVE =
        min 255 (a.ring.estops.filter fun i => i ≠ id).length := (State.w_r _ _ _ _).trans (if_pos rfl)
    have hlist := congrArg (fun l : List Nat => min 255 l.length) hparts.1
    exact ((ringForward_r _ _ _ _ _ (portFORWARDED_below f (.inr (by decide)))).trans hcount).trans hlist.symm
  · intro mine
    have hb : a.fromMaster f true = a.heard (if f.src = 0 then some a.up else a.ring.lastMaster) := fromMaster_heard fun _ => hep
    have hexec : exec (.ringReset dt f) s = .next ((a.fromMaster f true).resetIn f) :=
      congrArg Host.Outcome.next (unicastFrame (fun t => t.resetIn f) hty (by decide) (by decide) hme)
    rw [hb] at hexec
    generalize (if f.src = 0 then some a.up else a.ring.lastMaster) = x0 at hexec
    refine ⟨fun hm he => ⟨_, hexec, ?_⟩, fun hno => ⟨_, hexec, ?_⟩⟩
    · rw [resetIn_mine (s := a.heard x0) hm he]
      refine ⟨fun hheld => ?_, fun hheld => ?_⟩
      · rw [if_neg (show ¬ (a.heard x0).stopHeld = true from by rw [show (a.heard x0).stopHeld = false from hheld]; decide)]
        exact wiped_heard (wipe_wiped (a.heard x0) 4)
      · rw [if_pos (show (a.heard x0).stopHeld = true from hheld)]
        exact ⟨rfl, rfl, rfl⟩
    · rw [resetIn_refused (s := a.heard x0) hno]
      exact ⟨(State.bump_r _ _ _).trans (if_pos rfl), fun k hk => (State.bump_r _ _ _).trans (if_neg (by simpa using hk))⟩
  · have hexec : exec (.ringJoin dt o v) s = .next (a.actStart o.src Reg.nodeRING_JOIN v (keySize Reg.nodeRING_JOIN)).ringJoinRun := by
      refine congrArg Host.Outcome.next ?_
      unfold State.actBy
      dsimp only
      rw [hst, if_neg (by decide), if_neg (by decide)]
    have hstart := (actStart_spec a o.src Reg.nodeRING_JOIN v (keySize Reg.nodeRING_JOIN)).1
    have hbook : (a.actStart o.src Reg.nodeRING_JOIN v (keySize Reg.nodeRING_JOIN)).book = a.book := by
      rw [book_actStart]
      rfl
    have hmay' : (a.actStart o.src Reg.nodeRING_JOIN v (keySize Reg.nodeRING_JOIN)).ringMay = true := by
      unfold State.ringMay at hmay ⊢
      rw [book_r hbook Reg.rstSTART_STEP (by decide), book_eq hbook]
      exact hmay
    exact ⟨_, hexec, (ringJoinRun_rsp _).trans hstart, fun l h1 h2 => ringJoinRun_lane hmay' ⟨h1, h2⟩⟩
  · have hb : a.fromMaster f true = a.heard (some a.up) := by rw [fromMaster_heard fun _ => hep, if_pos hsrc]
    have hgrant (kind : Nat) (hk : fld 12 1 f.payload = kind) :
        a.grantFrame f kind = (a.heard (some a.up)).grantIn f := by
      unfold State.grantFrame
      rw [if_pos hk, unicastFrame (fun t => t.grantIn f) hty (by decide) (by decide) hme, hb]
    intro e lease
    refine ⟨fun h1 he hf => ?_, fun h1 he => ?_, fun h2 he hl => ?_, fun h3 he hl => ?_⟩
    · have hcur := grantIn_current (s := a.heard (some a.up)) hsrc hmine hmode (by omega) (by omega)
        (show if fld 12 1 f.payload = 1 then a.known < e else e = a.epoch by rwa [if_pos h1])
      rw [if_pos h1] at hcur
      have hexec : exec (.grantTake dt f) s = .next ((a.heard (some a.up)).rightTo e) :=
        congrArg Host.Outcome.next ((hgrant 1 h1).trans hcur)
      refine ⟨fun hmay => ⟨_, hexec, ?_⟩, fun hmay => ⟨_, hexec, ?_⟩⟩
      · exact rightTo_claims (s := a.heard (some a.up)) hf hmay he
      · rw [rightTo_waits (s := a.heard (some a.up)) hf hmay]
        rfl
    · have hexec : exec (.grantTake dt f) s = .next ((a.heard (some a.up)).event 0x0708 (fld 12 1 f.payload) (fld 16 4 f.payload)) :=
        congrArg Host.Outcome.next ((hgrant 1 h1).trans (grantIn_stale (s := a.heard (some a.up)) hsrc hmine h1 he))
      exact ⟨_, hexec, event_pair _ _ _ _⟩
    · have hcur := grantIn_current (s := a.heard (some a.up)) hsrc hmine hmode (by omega) (by omega)
        (show if fld 12 1 f.payload = 1 then a.known < e else e = a.epoch by rwa [if_neg (by omega)])
      rw [if_neg (by omega), if_pos h2, grantRenew_lease (s := a.heard (some a.up)) hmode hl.1 hl.2] at hcur
      exact ⟨_, congrArg Host.Outcome.next ((hgrant 2 h2).trans hcur), rfl, rfl⟩
    · have hcur := grantIn_current (s := a.heard (some a.up)) hsrc hmine hmode (by omega) (by omega)
        (show if fld 12 1 f.payload = 1 then a.known < e else e = a.epoch by rwa [if_neg (by omega)])
      rw [if_neg (by omega), if_neg (by omega)] at hcur
      exact ⟨_, congrArg Host.Outcome.next ((hgrant 3 h3).trans hcur), leaseOver_ends (s := a.heard (some a.up)) hmode hl.1 hl.2⟩
end

section
/-! PROOFS. Reset sources and the life cycle (O55). -/

namespace Sys2Proof.Machine

/-! ## Wiping resets (R564-R568) -/

/-- A wiping reset counts from what bookkeeping leaves alone. -/
theorem wiped_of_book {a b t : State} {cause : Nat} (h : b.book = a.book) (hw : Wiped b t cause) : Wiped a t cause := by
  have hb := book_eq h
  have hclamp : b.clampBanks = a.clampBanks := by
    have hup : b.r Reg.thmDOMAINS_UP = a.r Reg.thmDOMAINS_UP := book_r h _ (by decide)
    have htype (j : Nat) (hj : j ∈ List.range 24) : b.r (Reg.bkBANK_TYPE j) = a.r (Reg.bkBANK_TYPE j) :=
      book_r h _ (decide_eq_false (by have := List.mem_range.1 hj; unfold Reg.bkBANK_TYPE; omega))
    have hd2d : b.d2d = a.d2d := by rw [hb]
    unfold State.clampBanks State.rb
    rw [hup, hd2d]
    exact List.foldl_ext _ _ _ fun m j hj => by rw [htype j hj]
  obtain ⟨hother, hpair, hpend, hup, hfac, hmem, hod, htly, hheads, hbanks, hring, htap, hobj, hmemst, hd2d, hret⟩ := hw
  refine ⟨hother, fun k hk => (hpair k hk).trans (book_r h k ?_), hpend.trans (by rw [hb]), hup.trans ?_, hfac.trans (by rw [hb]), hmem, hod, htly,
    hheads, hbanks, hring, htap, hobj, hmemst, hd2d.trans hclamp, hret.trans (by rw [hb])⟩
  · unfold pairCounters at hk
    simp only [List.mem_cons, List.not_mem_nil, or_false] at hk
    rcases hk with rfl | rfl | rfl | rfl <;> decide
  · unfold State.up
    rw [clk_of_book h]

theorem wipeKept_wiped (s : State) (cause : Nat) : Wiped s (s.wipeKept cause) cause := wipe_wiped s cause

/-- A supply that has been low long enough, VAO among them or not. -/
theorem supplyLow_wiped {s : State} {dur : Nat} (h : 1000 ≤ dur) : Wiped s (s.supplyLow false dur) 1 := by
  have heq : s.supplyLow false dur = { s.wipe 1 with boot := { (s.wipe 1).boot with supplyAt := (s.wipe 1).up } } := if_neg (Nat.not_lt.2 h)
  have hw := wipe_wiped s 1
  rw [heq]
  generalize s.wipe 1 = t at hw
  exact hw

theorem supplyLow_vao {s : State} {dur : Nat} (h : 1000 ≤ dur) : let t := s.supplyLow true dur
    t.ret = {} ∧ t.d2d.clamps = 0 ∧ t.fac = s.fac ∧ t.mem = {} ∧ t.heads = [] ∧ (∀ j, j ∉ pairCounters → t.r j = State.reset.r j) ∧
      t.pending = s.pending := by
  have heq : s.supplyLow true dur = _ := if_neg (Nat.not_lt.2 h)
  obtain ⟨hother, -, hpend, -, hfac, hmem, -, -, hheads, -⟩ := wipe_wiped s 1
  rw [heq]
  dsimp only
  rw [if_pos rfl]
  exact ⟨rfl, rfl, hfac, hmem, hheads, hother, hpend⟩

/-- DEBUG_RESET (R564). -/
theorem debugReset_wiped {s : State} (h : s.stopHeld = false) : Wiped s s.debugReset 7 := by
  have heq : s.debugReset = s.wipe 7 := if_neg (by rw [h]; decide)
  rw [heq]
  exact wipe_wiped s 7

theorem debugReset_held {s : State} (h : s.stopHeld = true) : s.debugReset = s.actDone Reg.dbgDEBUG_RESET 0 false := if_pos h

theorem stopHeld_of_book {a b : State} (h : b.book = a.book) : b.stopHeld = a.stopHeld := by
  unfold State.stopHeld
  rw [book_r h Reg.opDEVICE_STATE (by decide), book_r h Reg.thmSTOP_CAUSE (by decide)]

/-- An action of a command of its own whose checks pass. -/
theorem actBy_starts {s : State} {o : Origin} {key v : Nat} (f : State → State) (h : s.accCheck o key (keySize key) v true = 0) :
    s.actBy o key v f = f (s.actStart o.src key v (keySize key)) := by
  unfold State.actBy
  dsimp only
  rw [h, if_neg (by decide), if_neg (by decide)]

/-- Accepting an action on an object of neither banks nor channels is bookkeeping. -/
theorem book_actStart_of (s : State) {src key v len : Nat} (h : ¬ (0x500000 ≤ key ∧ key < 0x564000)) :
    (s.actStart src key v len).book = s.book := by
  rw [book_actStart, State.toADie, decide_eq_false h]
  rfl

/-! ## Cut-off and recovery (R526, R528) -/

theorem cutOff_spec (s : State) : let t := s.cutOff
    t.pwr.cutoff = true ∧ t.r Reg.thmDOMAINS_UP = 1 ∧ t.ret = { s.ret with cutoffs := min 0xFFFFFFFF (s.ret.cutoffs + 1), cutoffOwed := true } ∧
      (∀ j, j ∉ Reg.thmDOMAINS_UP :: pairCounters → t.r j = State.reset.r j) ∧ t.fac = s.fac ∧ ∀ b, b < 24 → GatesOff t b := by
  have hfac := offBanks_fac (offBanks_stopAll_estop s)
  obtain ⟨hother, -, -, -, hfac', -⟩ := wipe_wiped (s.stopAll 1 true) 8
  unfold State.cutOff
  dsimp only
  generalize (s.stopAll 1 true).wipe 8 = t at hother hfac'
  have hup : (State.w { t with
      ret := { s.ret with cutoffs := min 0xFFFFFFFF (s.ret.cutoffs + 1), cutoffOwed := true }, pwr := { t.pwr with cutoff := true },
      d2d := { t.d2d with clamps := 0 } } Reg.thmDOMAINS_UP 1).r Reg.thmDOMAINS_UP = 1 := (State.w_r _ _ _ _).trans (if_pos rfl)
  refine ⟨rfl, hup, rfl, fun j hj => ?_, hfac'.trans hfac, fun b _ => .inl ?_⟩
  · rw [List.mem_cons, not_or] at hj
    exact (State.w_r _ _ _ _).trans ((if_neg hj.1).trans (hother j hj.2))
  · unfold State.gates
    refine if_pos ?_
    have hdown : State.domUp (State.w { t with
        ret := { s.ret with cutoffs := min 0xFFFFFFFF (s.ret.cutoffs + 1), cutoffOwed := true }, pwr := { t.pwr with cutoff := true },
        d2d := { t.d2d with clamps := 0 } } Reg.thmDOMAINS_UP 1) 19 = false := by
      unfold State.domUp State.rb
      rw [hup]
      decide
    rw [hdown]
    simp

theorem hotWait_iff (s : State) : s.hotWait = true ↔ s.pwr.cutoff = true ∨
    (s.r Reg.opDEVICE_STATE = 4 ∧ (s.r Reg.thmSTOP_CAUSE = 1 ∨ s.r Reg.thmSTOP_CAUSE = 2) ∧ s.pwr.stopOver = true) := by
  simp only [State.hotWait, Bool.or_eq_true, Bool.and_eq_true, decide_eq_true_eq]
  exact or_congr_right and_assoc

theorem cooled_idle {s : State} (ts : List Int) (h : s.hotWait = false) : s.cooled ts = s := if_pos (by rw [h]; rfl)

theorem cooled_hot {s : State} {ts : List Int} (h : s.hotWait = true) (hts : ∃ x ∈ ts, 950 < x) :
    s.cooled ts = { s with pwr := { s.pwr with recoverSince := none } } := by
  obtain ⟨x, hx, hlt⟩ := hts
  unfold State.cooled
  rw [if_neg (by rw [h]; decide), if_neg fun hall => ?_]
  have hle := of_decide_eq_true (List.all_eq_true.1 hall x hx)
  omega

theorem cooled_cool {s : State} {ts : List Int} (h : s.hotWait = true) (hts : ∀ x ∈ ts, x ≤ 950) : s.cooled ts =
    match s.pwr.recoverSince with
    | some t => if s.since t 10000000000 then s.wipe 8 else s
    | none => { s with pwr := { s.pwr with recoverSince := some s.up } } := by
  have hall : (ts.all fun t => t ≤ 950) = true := List.all_eq_true.2 fun x hx => decide_eq_true (hts x hx)
  exact (if_neg (by rw [h]; decide)).trans (if_pos hall)

/-! ## Life cycle (R575, R576) -/

/-- What LC_REQ answers, as R575 lists it. -/
def lcCode (s : State) (src v : Nat) : Nat :=
  if v = 0 ∨ 3 < v then 1 else if ¬ ((s.fac.lifeCycle, v) ∈ [(0, 1), (0, 2), (1, 2), (1, 3), (2, 1), (2, 3)]) then 2
  else if s.r Reg.opDEVICE_STATE ≠ 1 then 3 else if v = 2 ∧ s.fac.ownerKey = none then 4
  else if s.fac.lifeCycle = 2 ∧ ¬ (src = 0x40 ∧ s.tap.unlocked = true) then 5 else 0

theorem lcCheck_eq (s : State) (src v : Nat) : s.lcCheck src v = lcCode s src v := by
  have hstep : (!((decide (s.fac.lifeCycle = 0) && (decide (v = 1) || decide (v = 2))) || (decide (s.fac.lifeCycle = 1) && (decide (v = 2) || decide (v = 3))) ||
      (decide (s.fac.lifeCycle = 2) && (decide (v = 1) || decide (v = 3))))) = true ↔
      ¬ ((s.fac.lifeCycle, v) ∈ [(0, 1), (0, 2), (1, 2), (1, 3), (2, 1), (2, 3)]) := by
    rw [Bool.not_eq_true', ← Bool.not_eq_true]
    refine not_congr ?_
    simp only [Bool.or_eq_true, Bool.and_eq_true, decide_eq_true_eq, List.mem_cons, Prod.mk.injEq, List.not_mem_nil, or_false]
    omega
  have hopen : (s.fac.lifeCycle = 2 ∧ (!(decide (src = 0x40) && s.tap.unlocked)) = true) ↔
      s.fac.lifeCycle = 2 ∧ ¬ (src = 0x40 ∧ s.tap.unlocked = true) := by
    refine and_congr_right fun _ => ?_
    rw [Bool.not_eq_true', ← Bool.not_eq_true, Bool.and_eq_true, decide_eq_true_eq]
  unfold State.lcCheck lcCode
  dsimp only
  simp only [hstep, hopen, Option.isNone_iff_eq_none]
  rfl

/-- The parts of the state that start a life-cycle transition. -/
theorem event_acts (s : State) (code inst data : Nat) : (s.event code inst data).od.acts = s.od.acts ∧
    (s.event code inst data).od.rsp = s.od.rsp := by
  unfold State.event
  extract_lets k hd held merged seq e s1 s2
  split
  · exact ⟨rfl, rfl⟩
  · split <;> exact ⟨rfl, rfl⟩

theorem event_fac (s : State) (code inst data : Nat) : (s.event code inst data).fac = s.fac := by rw [event_eq]

theorem flashJob_parts (s : State) (j : FlashJob) : (s.flashJob j).od = s.od ∧ (s.flashJob j).fac = s.fac := by
  unfold State.flashJob State.flashKick
  split
  · exact ⟨rfl, rfl⟩
  · split <;> exact ⟨rfl, rfl⟩

/-- Step 2 of a transition: keys and flash areas go on the way to RETURN. -/
def State.lcKeys (t : State) (v : Nat) : State :=
  if v = 3 then State.flashJob { t with fac := { t.fac with kFleet := [], ownerKey := none } } lcFlashJob else t

theorem lcKeys_spec (t : State) (v : Nat) : (t.lcKeys v).od = t.od ∧
    (t.lcKeys v).fac = { t.fac with kFleet := if v = 3 then [] else t.fac.kFleet, ownerKey := if v = 3 then none else t.fac.ownerKey } := by
  unfold State.lcKeys
  by_cases h : v = 3
  · rw [if_pos h, if_pos h, if_pos h]
    exact flashJob_parts _ _
  · rw [if_neg h, if_neg h, if_neg h]
    exact ⟨rfl, rfl⟩

/-- An accepted transition: its record, and the jobs that erase the user area. -/
theorem lcStart_spec (s : State) (v : Nat) : (s.lcStart v).od.acts = s.od.acts ∧ (s.lcStart v).od.rsp = s.od.rsp ∧
    (s.lcStart v).fac = { s.fac with lifeCycle := v, wipePending := true, transitions := min 255 (s.fac.transitions + 1),
                                     kFleet := if v = 3 then [] else s.fac.kFleet, ownerKey := if v = 3 then none else s.fac.ownerKey } := by
  let s0 : State := { s with fac := { s.fac with lifeCycle := v, wipePending := true, transitions := min 255 (s.fac.transitions + 1) } }
  obtain ⟨hacts, hrsp⟩ := event_acts s0 0x0804 v s.fac.lifeCycle
  have hfac := event_fac s0 0x0804 v s.fac.lifeCycle
  have hjobs (b : Nat) (t : State) : (t.nvmJob (lcJob b)).od = t.od ∧ (t.nvmJob (lcJob b)).fac = t.fac := ⟨rfl, rfl⟩
  have hod := view_each State.od (s0.event 0x0804 v s.fac.lifeCycle) (List.range 4) (fun b t => t.nvmJob (lcJob b)) fun b _ t => (hjobs b t).1
  have hfac2 := view_each State.fac (s0.event 0x0804 v s.fac.lifeCycle) (List.range 4) (fun b t => t.nvmJob (lcJob b)) fun b _ t => (hjobs b t).2
  obtain ⟨hod3, hfac3⟩ := lcKeys_spec ((s0.event 0x0804 v s.fac.lifeCycle).each (List.range 4) fun b t => t.nvmJob (lcJob b)) v
  have hstart : s.lcStart v = ((s0.event 0x0804 v s.fac.lifeCycle).each (List.range 4) fun b t => t.nvmJob (lcJob b)).lcKeys v := rfl
  rw [hstart, hod3, hod, hacts, hrsp, hfac3, hfac2, hfac]
  exact ⟨rfl, rfl, rfl⟩

/-- A request that R575 refuses. -/
theorem lcRun_refused {s : State} {v : Nat} (h : lcCode s (s.act Reg.lcLC_REQ).src v ≠ 0) :
    s.lcRun v = s.actDone Reg.lcLC_REQ (lcCode s (s.act Reg.lcLC_REQ).src v) false := by
  rw [← lcCheck_eq] at h ⊢
  exact if_pos h

theorem lcRun_accepted {s : State} {v : Nat} (h : lcCode s (s.act Reg.lcLC_REQ).src v = 0) : s.lcRun v = s.lcStart v := by
  rw [← lcCheck_eq] at h
  exact if_neg (not_not_intro h)

/-- What LC_REQ answers depends on nothing that bookkeeping touches. -/
theorem lcCode_of_book {a b : State} (h : b.book = a.book) (src v : Nat) : lcCode b src v = lcCode a src v := by
  unfold lcCode
  rw [book_r h Reg.opDEVICE_STATE (by decide), book_eq h]

theorem src_actStart (s : State) (src key v len : Nat) : ((s.actStart src key v len).act key).src = src := by
  obtain ⟨-, -, hacts⟩ := actStart_spec s src key v len
  rw [State.act, hacts, tget_tset, if_pos rfl]

end Sys2Proof.Machine

open Sys2Proof Sys2Proof.Machine

/-- Settles O55: each reset source wipes or does nothing, and LC_REQ goes by R575. -/
theorem resetsAndLifeCycle : Obligations.ResetsAndLifeCycle := by
  intro dt n v vao k ts o s a f hot
  have hhot : a.hotWait = true ↔ hot := hotWait_iff a
  refine ⟨fun h => ⟨_, congrArg Host.Outcome.next (if_pos h), rfl⟩, fun h => ⟨?_, ?_⟩, fun h => ⟨_, congrArg Host.Outcome.next (if_pos h), rfl⟩,
    fun h => ?_, fun h1 h2 => ?_, fun h hheld => ?_, fun h => ?_, ⟨_, rfl, rfl⟩, fun hst => ?_, ⟨_, rfl, cutOff_spec a⟩, fun h => ?_, fun h => ?_, fun hst => ?_⟩
  · rintro rfl
    exact ⟨_, rfl, supplyLow_wiped h⟩
  · rintro rfl
    exact ⟨_, rfl, supplyLow_vao h⟩
  · have hlow : a.rstLow n = a.wipeKept 2 := (if_neg (by omega)).trans (if_pos h)
    exact ⟨_, congrArg Host.Outcome.next hlow, wipeKept_wiped a 2, rfl⟩
  · have hlow : a.rstLow n = if Config.freeBool a.free then a.used.wipeKept 2 else a.used := (if_neg (by omega)).trans (if_neg (by omega))
    refine ⟨_, congrArg Host.Outcome.next hlow, ?_⟩
    split
    · exact .inl (wipeKept_wiped a.used 2)
    · exact .inr rfl
  · have hover : a.watchdogOver = a.wipe 3 := if_pos ⟨h.1, h.2, by rw [hheld]; rfl⟩
    have hw := wipe_wiped a 3
    refine ⟨_, congrArg Host.Outcome.next hover, hw, ?_⟩
    obtain ⟨-, -, -, -, -, -, -, -, -, -, -, -, -, -, -, hret⟩ := hw
    rw [hret]
    rfl
  · refine ⟨_, congrArg Host.Outcome.next (if_neg ?_), rfl⟩
    rintro ⟨harm, hlate, hheld⟩
    rcases h with h | h | h
    · rw [harm] at h; cases h
    · rw [hlate] at h; cases h
    · rw [h] at hheld; cases hheld
  · have hbook : (a.actStart o.src Reg.dbgDEBUG_RESET v (keySize Reg.dbgDEBUG_RESET)).book = a.book := book_actStart_of a (by decide)
    refine ⟨_, congrArg Host.Outcome.next (actBy_starts _ hst), fun hheld => ?_, fun hheld => ?_⟩
    · exact wiped_of_book hbook (debugReset_wiped ((stopHeld_of_book hbook).trans hheld))
    · rw [debugReset_held ((stopHeld_of_book hbook).trans hheld), actDone_eq, book_eq hbook]
      exact ⟨rfl, rfl, rfl⟩
  · exact ⟨_, rfl, cooled_idle ts (Bool.eq_false_iff.2 fun hc => h (hhot.1 hc))⟩
  · have hc := hhot.2 h
    refine ⟨fun hts => ⟨_, rfl, cooled_hot hc hts⟩, fun hts => ⟨fun hnone => ⟨_, rfl, ?_⟩, fun t0 ht0 => ⟨fun hlate => ⟨_, rfl, ?_⟩, fun hlate => ⟨_, rfl, ?_⟩⟩⟩⟩
    · rw [cooled_cool hc hts, hnone]
    · rw [cooled_cool hc hts, ht0]
      dsimp only
      rw [if_pos hlate]
      exact wipe_wiped a 8
    · rw [cooled_cool hc hts, ht0]
      dsimp only
      rw [if_neg (by rw [hlate]; decide)]
  · have hbook : (a.actStart o.src Reg.lcLC_REQ v (keySize Reg.lcLC_REQ)).book = a.book := book_actStart_of a (by decide)
    have hcode := (lcCode_of_book hbook ((a.actStart o.src Reg.lcLC_REQ v (keySize Reg.lcLC_REQ)).act Reg.lcLC_REQ).src v)
    rw [src_actStart] at hcode
    have hsrc := src_actStart a o.src Reg.lcLC_REQ v (keySize Reg.lcLC_REQ)
    have hbusy := actStart_busy a o.src Reg.lcLC_REQ v (keySize Reg.lcLC_REQ)
    have hrsp := (actStart_spec a o.src Reg.lcLC_REQ v (keySize Reg.lcLC_REQ)).1
    have hexec : exec (.lcReq dt o v) s = .next ((a.actStart o.src Reg.lcLC_REQ v (keySize Reg.lcLC_REQ)).lcRun v) :=
      congrArg Host.Outcome.next (actBy_starts _ hst)
    generalize a.actStart o.src Reg.lcLC_REQ v (keySize Reg.lcLC_REQ) = u at *
    have hfac : u.fac = a.fac := by rw [book_eq hbook]
    by_cases hc : lcCode a o.src v = 0
    · obtain ⟨hacts, hrsp', hfac'⟩ := lcStart_spec u v
      rw [lcRun_accepted (by rw [hsrc, hcode, hc])] at hexec
      refine ⟨_, hexec, hrsp'.trans hrsp, fun hne => absurd hc hne, fun _ => ⟨?_, hfac'.trans (by rw [hfac])⟩⟩
      unfold State.actBusy State.act
      rw [hacts]
      exact hbusy
    · rw [lcRun_refused (by rw [hsrc, hcode]; exact hc), hsrc, hcode] at hexec
      refine ⟨_, hexec, (actDone_rsp _ _ _ _).trans hrsp, fun _ => ⟨?_, ?_, actDone_idle _ _ _ _⟩, fun h0 => absurd h0 hc⟩
      · exact actDone_r_result u Reg.lcLC_REQ _ false Reg.lcLC_RESULT (by decide) (by decide) (by decide) hbusy
      · rw [actDone_eq]
        exact hfac
end

section
/-! PROOFS. Claims, lease and handover (O50). -/

namespace Sys2Proof.Machine

/-! ## Steps over a list, each on its own part -/

/-- Of steps over a list without repetitions only the one of p changes a view of p. -/
theorem each_own {α : Type} (view : Nat → State → α) (F : Nat → State → State) {l : List Nat} (hl : l.Nodup)
    (h : ∀ q ∈ l, ∀ p ∈ l, p ≠ q → ∀ t, view p (F q t) = view p t) (s : State) {p : Nat} (hp : p ∈ l) :
    ∃ t, view p t = view p s ∧ view p (s.each l F) = view p (F p t) := by
  induction l generalizing s with
  | nil => cases hp
  | cons q l ih =>
    obtain ⟨hq, hnodup⟩ := List.nodup_cons.1 hl
    rcases List.mem_cons.1 hp with rfl | hp
    · refine ⟨s, rfl, view_each (view p) (F p s) l F fun r hr t => ?_⟩
      exact h r (List.mem_cons_of_mem p hr) p List.mem_cons_self (fun he => hq (he ▸ hr)) t
    · obtain ⟨t, ht, heach⟩ := ih hnodup (fun r hr j hj => h r (List.mem_cons_of_mem q hr) j (List.mem_cons_of_mem q hj)) (F q s) hp
      refine ⟨t, ht.trans (h q List.mem_cons_self p (List.mem_cons_of_mem q hp) (fun he => hq (he ▸ hp)) s), heach⟩

/-! ## Banks enter FOLLOW (R262) -/

theorem stopRegs_softReact (s : State) (b : Nat) : (s.softReact b).on stopKey = s.on stopKey := by
  have hdecay (t : State) (n : Nat) : (t.startDecay n none).on stopKey = t.on stopKey := by
    have hdrive (u : State) (ls hb hh : Bool) : (u.drive n ls hb hh).on stopKey = u.on stopKey := by
      unfold State.drive
      dsimp only
      split <;> rfl
    unfold State.startDecay
    dsimp only
    rw [hdrive, on_w _ _ _ (stopKey_above (by unfold Reg.chsCH_STATE; omega)), State.lastOn,
      on_w _ _ _ (stopKey_above (by unfold Reg.chsLAST_ON; omega))]
    rfl
  unfold State.softReact
  dsimp only
  split
  · split
    · exact hdecay _ _
    · rfl
  · refine (on_each _ _ _ fun n _ t => on_wAll _ _ ?_).trans rfl
    simp only [List.mem_cons, List.not_mem_nil, or_false, forall_eq_or_imp, forall_eq]
    exact ⟨stopKey_above (by unfold Reg.chsCH_STATE; omega), stopKey_above (by unfold Reg.chsI_SET; omega),
      stopKey_above (by unfold Reg.chsDUTY; omega)⟩

theorem stopRegs_of_steady {s t : State} (h : t.steady = s.steady) : t.on stopKey = s.on stopKey :=
  on_of_r fun _ hk => steady_r h hk

theorem stopRegs_leaveArmed (s : State) (b : Nat) : (s.leaveArmed b).on stopKey = s.on stopKey :=
  (stopRegs_of_steady (leaveArmed_steady s b)).trans rfl

theorem stopRegs_hardReact (s : State) (b : Nat) : (s.hardReact b).on stopKey = s.on stopKey :=
  (stopRegs_of_steady (hardReact_steady s b)).trans rfl

/-- An ARMED bank that loses its authority. -/
def State.followBank (b : Nat) (t : State) : State := t.when (decide (t.r (Reg.bkBANK_STATE b) = 4)) fun u =>
  let v := (u.softReact b).leaveArmed b
  (v.wBank b { v.bank b with test := none }).w (Reg.bkBANK_STATE b) 3

theorem toFollow_eq (s : State) : s.toFollow = s.each bankNos State.followBank := rfl

theorem offBanks_followBank (t : State) (b : Nat) : (t.followBank b).offBanks = t.offBanks := by
  refine view_when State.offBanks _ _ _ ?_
  dsimp only
  rw [offBanks_w _ _ _ (by unfold Reg.bkBANK_STATE; omega), offBanks_wBank, offBanks_leaveArmed, offBanks_softReact]

theorem offBanks_toFollow (s : State) : s.toFollow.offBanks = s.offBanks :=
  view_each State.offBanks _ _ _ fun b _ t => offBanks_followBank t b

theorem followBank_state (t : State) (b j : Nat) (hj : j < 24) :
    (t.followBank b).r (Reg.bkBANK_STATE j) = if j = b ∧ t.r (Reg.bkBANK_STATE b) = 4 then 3 else t.r (Reg.bkBANK_STATE j) := by
  unfold State.followBank State.when
  dsimp only
  by_cases h : t.r (Reg.bkBANK_STATE b) = 4
  · rw [decide_eq_true h, if_pos rfl, State.w_r, State.wBank_r,
      on_r ((stopRegs_leaveArmed (t.softReact b) b).trans (stopRegs_softReact t b)) _ (stopKey_state hj)]
    refine if_congr ⟨fun he => ⟨?_, h⟩, fun he => by rw [he.1]⟩ rfl rfl
    unfold Reg.bkBANK_STATE at he
    omega
  · rw [decide_eq_false h, if_neg (by decide), if_neg fun hc => h hc.2]

/-- Every ARMED bank enters FOLLOW, and no other changes its state. -/
theorem toFollow_state (s : State) {b : Nat} (hb : b < 24) :
    s.toFollow.r (Reg.bkBANK_STATE b) = if s.r (Reg.bkBANK_STATE b) = 4 then 3 else s.r (Reg.bkBANK_STATE b) := by
  obtain ⟨t, ht, heach⟩ := each_own (fun p t => t.r (Reg.bkBANK_STATE p)) State.followBank List.nodup_range
    (fun q _ p hp hne t => by rw [followBank_state t q p (List.mem_range.1 hp), if_neg fun hc => hne hc.1]) s (List.mem_range.2 hb)
  rw [toFollow_eq]
  refine heach.trans ?_
  rw [followBank_state t b b hb, ht]
  simp

/-! ## The authority ends (R262, R477) -/

/-- What LULL of the lanes to the host and the heads' commands leave alone. -/
def State.claimSide (s : State) : List (Nat × Nat) × Pair × List (Nat × Bank) × Fac := (s.regs, s.pair, s.banks, s.fac)

theorem claimSide_tw (s : State) (w : List (Nat × TrainWord)) : State.claimSide { s with tw := w } = s.claimSide := rfl

theorem claimSide_sendLull (s : State) (l : Nat) : (s.sendLull l).claimSide = s.claimSide :=
  (congrArg State.claimSide (sendLull_eq s l)).trans (claimSide_tw s _)

theorem claimSide_xLull (s : State) : s.xLull.claimSide = s.claimSide :=
  view_each _ _ _ _ fun x _ t => view_when State.claimSide (t.wLane (32 + x) _) _ _ (claimSide_sendLull _ _)

theorem claimSide_stream (s : State) (h a : Nat) : (s.stream h a).claimSide = s.claimSide := by
  have hlink : LinkOnly h s (s.stream h a) := linkOnly_headCmd s h 0x0B (leBytes 1 a)
  rw [hlink.1]
  rfl

theorem claimSide_r {s t : State} (h : t.claimSide = s.claimSide) (k : Nat) : t.r k = s.r k := by
  have hregs : t.regs = s.regs := (Prod.mk.inj h).1
  unfold State.r
  rw [hregs]

theorem claimSide_pair {s t : State} (h : t.claimSide = s.claimSide) : t.pair = s.pair := (Prod.mk.inj (Prod.mk.inj h).2).1
theorem claimSide_bank {s t : State} (h : t.claimSide = s.claimSide) (b : Nat) : t.bank b = s.bank b := by
  have hbanks : t.banks = s.banks := (Prod.mk.inj (Prod.mk.inj (Prod.mk.inj h).2).2).1
  unfold State.bank
  rw [hbanks]
theorem claimSide_fac {s t : State} (h : t.claimSide = s.claimSide) : t.fac = s.fac := (Prod.mk.inj (Prod.mk.inj (Prod.mk.inj h).2).2).2

/-- The pair's own state once the authority is gone. -/
def Pair.dropped (p : Pair) : Pair := { p with authority := false, toggling := false, claiming := false, leaseEnd := none, leaseSafe := 0 }

/-- The device as a follower without claim or lease. -/
def State.dropped (s : State) : State := (State.w { s with pair := s.pair.dropped } Reg.prROLE 1).w Reg.prLEASE_LEFT 0

theorem dropped_r (s : State) (k : Nat) : s.dropped.r k = if k = Reg.prLEASE_LEFT then 0 else if k = Reg.prROLE then 1 else s.r k := by
  unfold State.dropped
  rw [State.w_r, State.w_r]
  rfl

theorem dropAuthority_side (s : State) : s.dropAuthority.claimSide = s.toFollow.dropped.claimSide := claimSide_xLull _

/-- The authority ends: authority, claim and lease go, ARMED banks follow, and no other object of the pair changes. -/
theorem dropAuthority_spec (s : State) : let t := s.dropAuthority
    t.pair = { s.pair.dropped with txSeq := t.pair.txSeq } ∧ t.r Reg.prROLE = 1 ∧
    (∀ k, sideKey k = true → k ≠ Reg.prROLE → k ≠ Reg.prLEASE_LEFT → t.r k = s.r k) ∧
    (∀ b, b < 24 → t.r (Reg.bkBANK_STATE b) = if s.r (Reg.bkBANK_STATE b) = 4 then 3 else s.r (Reg.bkBANK_STATE b)) := by
  have hside := dropAuthority_side s
  have hfollow := offBanks_toFollow s
  have hstate (b : Nat) (hb : b < 24) := toFollow_state s hb
  dsimp only
  generalize s.dropAuthority = t at hside
  generalize s.toFollow = u at hside hfollow hstate
  have hr (k : Nat) : t.r k = if k = Reg.prLEASE_LEFT then 0 else if k = Reg.prROLE then 1 else u.r k := by
    rw [claimSide_r hside, dropped_r]
  have hpair : t.pair = { s.pair.dropped with txSeq := t.pair.txSeq } := by
    have ht : t.pair = u.pair.dropped := claimSide_pair hside
    rw [ht, offBanks_pair hfollow]
    rfl
  refine ⟨hpair, hr _, fun k hk h1 h2 => ?_, fun b hb => ?_⟩
  · rw [hr, if_neg h2, if_neg h1, offBanks_r hfollow k hk]
  · rw [hr, if_neg (by unfold Reg.bkBANK_STATE Reg.prLEASE_LEFT; omega), if_neg (by unfold Reg.bkBANK_STATE Reg.prROLE; omega), hstate b hb]

/-- A device of a pair that holds no authority drives no gate (R477). -/
theorem gates_released {s : State} (hmode : s.pair.mode = true) (h : s.pair.authority = false) (b : Nat) : s.gates b = .released := by
  unfold State.gates
  refine if_pos ?_
  unfold State.auth
  simp [hmode, h]

theorem gatesOff_side (s : State) : s.gatesOff.offBanks = s.offBanks ∧ s.gatesOff.on stopKey = s.on stopKey :=
  ⟨view_each State.offBanks _ _ _ fun b _ t => view_when State.offBanks t _ _ (offBanks_hardReact t b),
    on_each _ _ _ fun b _ t => on_when t _ _ (stopRegs_hardReact t b)⟩

/-- A lapse of the claim. -/
theorem lapse_spec {s : State} (hmode : s.pair.mode = true) (hq : s.pair.authority = true ∨ s.pair.toggling = true)
    (hlate : s.since s.pair.refreshed 1000000 = true) : let t := s.lapse
    t.pair.authority = false ∧ t.pair.toggling = false ∧ t.pair.claiming = false ∧ t.pair.leaseEnd = none ∧ t.r Reg.prROLE = 1 ∧
      t.r Reg.prCLAIM_LAPSED = 1 ∧ ∀ b, b < 24 → t.gates b = .released ∧ (s.r (Reg.bkBANK_STATE b) = 4 → t.r (Reg.bkBANK_STATE b) = 3) := by
  obtain ⟨hoff, hstop⟩ := gatesOff_side s
  obtain ⟨hpair, hrole, -, hstate⟩ := dropAuthority_spec s.gatesOff
  have hmode' : s.gatesOff.pair.mode = true := by rw [offBanks_pair hoff]; exact hmode
  have heq : s.lapse = State.w { s.gatesOff.dropAuthority with pair := { s.gatesOff.dropAuthority.pair with demotedSinceLapse := false } }
      Reg.prCLAIM_LAPSED 1 := if_pos ⟨hmode, hq, hlate⟩
  rw [heq]
  generalize s.gatesOff.dropAuthority = u at hpair hrole hstate
  clear heq
  generalize s.gatesOff = g at hoff hstop hpair hrole hstate hmode'
  have hparts : u.pair.authority = false ∧ u.pair.toggling = false ∧ u.pair.claiming = false ∧ u.pair.leaseEnd = none ∧ u.pair.mode = true := by
    rw [hpair]
    exact ⟨rfl, rfl, rfl, rfl, hmode'⟩
  obtain ⟨hauth, htog, hclaim, hlease, hm⟩ := hparts
  refine ⟨hauth, htog, hclaim, hlease, ?_, (State.w_r _ _ _ _).trans (if_pos rfl), fun b hb => ⟨?_, fun h4 => ?_⟩⟩
  · exact (State.w_r _ _ _ _).trans ((if_neg (by decide)).trans hrole)
  · refine gates_released ?_ ?_ b
    · exact hm
    · exact hauth
  · refine (State.w_r _ _ _ _).trans ((if_neg (by unfold Reg.bkBANK_STATE Reg.prCLAIM_LAPSED; omega)).trans ((hstate b hb).trans ?_))
    rw [on_r hstop _ (stopKey_state hb), if_pos h4]

/-! ## A collision (R489) -/

/-- A collision counts, and the device waits before it claims again. -/
theorem collide_spec (s : State) : let t := s.collide
    t.r Reg.prCOLLISIONS = min 0xFFFFFFFF (s.r Reg.prCOLLISIONS + 1) ∧ t.r Reg.prROLE = 4 ∧ t.r Reg.prPEER_CLAIM_STATE = s.r Reg.prPEER_CLAIM_STATE ∧
      t.pair.authority = false ∧ t.pair.toggling = false ∧ t.pair.claiming = false ∧
      t.pair.backoffEnd = some (s.up + if s.r Reg.prPAIR_ID = 0 then 2000000 else 20000000) := by
  obtain ⟨hpair, -, hkeep, -⟩ := dropAuthority_spec s
  unfold State.collide
  dsimp only
  rw [event_r _ _ _ _ (by decide), event_r _ _ _ _ (by decide), event_r _ _ _ _ (by decide), event_pair]
  generalize s.dropAuthority = u at hpair hkeep
  have hparts : u.pair.authority = false ∧ u.pair.toggling = false ∧ u.pair.claiming = false := by
    rw [hpair]
    exact ⟨rfl, rfl, rfl⟩
  have hcount := hkeep Reg.prCOLLISIONS (by decide) (by decide) (by decide)
  have hpeer := hkeep Reg.prPEER_CLAIM_STATE (by decide) (by decide) (by decide)
  refine ⟨?_, ?_, ?_, hparts.1, hparts.2.1, hparts.2.2, rfl⟩
  · rw [State.bump_r, if_pos rfl, State.w_r, if_neg (by decide), ← hcount]
    rfl
  · rw [State.bump_r, if_neg (by decide), State.w_r, if_pos rfl]
  · rw [State.bump_r, if_neg (by decide), State.w_r, if_neg (by decide), ← hpeer]
    rfl

end Sys2Proof.Machine
end

section
/-! PROOFS. The claim, its collision and its end in authority (O50). -/

namespace Sys2Proof.Machine

/-! ## What journal and breakpoints leave of the pair -/

theorem hwmStore_pair (s : State) (v : Nat) : (s.hwmStore v).pair = s.pair := rfl

theorem tlyNumber_pair (s : State) (e : TEntry) : (s.tlyNumber e).pair = s.pair := by
  unfold State.tlyNumber
  extract_lets q e1 tly s1 s2 s3
  have h2 : s2.pair = s.pair := rfl
  have h3 : s3.pair = s.pair := by
    rw [← h2]
    unfold s3
    clear_value s2
    exact view_when State.pair s2 _ _ (State.w_pair s2 _ _)
  clear_value s3
  split
  · exact (hwmStore_pair s3 _).trans h3
  · exact h3

theorem tlyAdd_pair (s : State) (src kind key result token value : Nat) : (s.tlyAdd src kind key result token value).pair = s.pair := by
  unfold State.tlyAdd State.tlyPut
  dsimp only
  split
  · exact tlyNumber_pair _ _
  · split
    · split <;> rfl
    · rfl

theorem bpWrite_pair (s : State) (key : Nat) : (s.bpWrite key).pair = s.pair :=
  view_each State.pair _ _ _ fun k _ t => view_when State.pair t _ (fun u => u.bpHit (u.bpAt k)) <| by
    unfold State.bpHit
    dsimp only
    rw [view_when State.pair _ _ _ rfl, event_pair]
    exact view_when State.pair _ _ (fun u => u.w Reg.dbgHALT_ZONES 1) rfl

/-- Accepting an action that the pair does not replicate leaves the pair as it is. -/
theorem actStart_pair (s : State) (src key v len : Nat) (h : replicated key = false) : (s.actStart src key v len).pair = s.pair := by
  have hforward (t : State) (tok : Nat) (d : Bytes) : t.forward src key tok d = t := if_neg fun hc => by
    rw [h] at hc
    exact absurd hc.2.2 (by decide)
  unfold State.actStart
  dsimp only
  rw [bpWrite_pair, hforward, tlyAdd_pair]
  refine view_when State.pair s _ _ ?_
  unfold State.d2dTraffic
  split <;> rfl

theorem actDone_pair (s : State) (key v : Nat) (ok : Bool) : (s.actDone key v ok).pair = s.pair := by
  unfold State.actDone
  dsimp only
  split
  · rw [tlyAdd_pair]
    cases resultOf key with
    | none => rfl
    | some k => dsimp only; split <;> rfl
  · rfl

/-- An event writes no register but EVENT_SEQ. -/
theorem event_r_ne (s : State) (code inst data : Nat) {k : Nat} (hk : k ≠ Reg.evEVENT_SEQ) : (s.event code inst data).r k = s.r k := by
  unfold State.event
  extract_lets key hd held merged seq e s1 s2
  split
  · rfl
  · have h2 : s2.r k = s.r k := (State.w_r _ _ _ _).trans (if_neg hk)
    split <;> exact h2

/-! ## A partner lost (R492) -/

theorem peerLost_eq (s : State) : s.peerLost = { s with
    regs := s.peerLost.regs, od := s.peerLost.od, ring := s.peerLost.ring
    pair := { s.pair with lostSaid := s.peerLost.pair.lostSaid } } := by
  unfold State.peerLost
  extract_lets lost p t
  split
  · have h := event_eq t 0x0707 0 t.epoch
    generalize t.event 0x0707 0 t.epoch = u at h
    rw [h]
  · rfl

theorem peerLost_pair (s : State) : s.peerLost.pair = { s.pair with lostSaid := s.peerLost.pair.lostSaid } :=
  congrArg State.pair (peerLost_eq s)

theorem peerLost_r (s : State) {k : Nat} (hk : k ≠ Reg.evEVENT_SEQ) : s.peerLost.r k = s.r k := by
  unfold State.peerLost
  extract_lets lost p t
  split
  · exact event_r_ne t _ _ _ hk
  · rfl

/-- A device that is no follower of a pair has lost no partner. -/
theorem peerLost_leader {s : State} (h : s.follower = false) : s.peerLost = { s with pair := { s.pair with lostSaid := false } } := by
  unfold State.peerLost
  rw [h]
  rfl

/-! ## The start of a claim (R488) -/

/-- The pair's own state once a claim has started at an own time. -/
def Pair.claims (p : Pair) (up : Nat) (grant : Bool) : Pair := { p with
  claiming := true, right := none, backoffEnd := none, refreshed := up, demotedSinceLapse := false, handover := 0, handoverEpoch := 0
  granted := grant }

theorem startClaim_pair (s : State) (e : Nat) (grant : Bool) : (s.startClaim e grant).pair =
    if e ≤ s.epoch then { s.pair.claims s.up grant with toggling := true, claimSince := s.up }
    else { s.pair.claims s.up grant with storing := some (e, .claim) } := by
  unfold State.startClaim
  dsimp only
  split <;> rfl

theorem startClaim_r (s : State) (e : Nat) (grant : Bool) {k : Nat} (hk : bookKey k = false) :
    (s.startClaim e grant).r k = if k = Reg.prCLAIM_LAPSED then 0 else if k = Reg.prROLE then 2 else s.r k := by
  have hall (t : State) : (t.wAll [(Reg.prROLE, 2), (Reg.prCLAIM_LAPSED, 0)]).r k =
      if k = Reg.prCLAIM_LAPSED then 0 else if k = Reg.prROLE then 2 else t.r k := wAll_pair_r _ _ _ _
  unfold State.startClaim
  dsimp only
  split
  · exact hall _
  · unfold State.setEpoch
    rw [nvmRecord_r _ _ _ _ _ hk]
    exact hall _

/-- Does a right to claim wait for nothing but the claim? -/
def State.claimWaits (s : State) : Prop := ∃ e, s.pair.right = some e ∧ s.known < e ∧ s.mayClaim = true

theorem tryClaim_waits {s : State} (h : ¬ s.claimWaits) : s.tryClaim = s := by
  unfold State.tryClaim
  split
  · next e he => exact if_neg fun hc => h ⟨e, he, hc.2, hc.1⟩
  · rfl

theorem tryClaim_claims {s : State} {e : Nat} (hr : s.pair.right = some e) (he : s.known < e) (hm : s.mayClaim = true) :
    s.tryClaim = s.startClaim e true := by
  unfold State.tryClaim
  rw [hr]
  exact if_pos ⟨hm, he⟩

/-- A claim that may start leaves the edges of PEER_CLAIM and its state. -/
theorem tryClaim_edges (s : State) : s.tryClaim.pair.edges = s.pair.edges ∧
    s.tryClaim.r Reg.prPEER_CLAIM_STATE = s.r Reg.prPEER_CLAIM_STATE := by
  unfold State.tryClaim
  split
  · split
    · refine ⟨?_, (startClaim_r _ _ _ (by decide)).trans rfl⟩
      rw [startClaim_pair]
      split <;> rfl
    · exact ⟨rfl, rfl⟩
  · exact ⟨rfl, rfl⟩

/-- What a right to claim goes by. -/
theorem mayClaim_congr {s t : State} (hp : t.pair = { s.pair with lostSaid := t.pair.lostSaid }) (hfac : t.fac = s.fac)
    (hr : ∀ k, bookKey k = false → t.r k = s.r k) : t.mayClaim = s.mayClaim ∧ t.known = s.known := by
  unfold State.mayClaim State.known State.follower State.epoch
  rw [hr Reg.opDEVICE_STATE (by decide), hr Reg.prPEER_CLAIM_STATE (by decide), hr Reg.prCLAIM_LAPSED (by decide),
    hr Reg.prPAIR_EPOCH (by decide), hp, hfac]
  exact ⟨rfl, rfl⟩

theorem mayClaim_peerLost (s : State) : s.peerLost.mayClaim = s.mayClaim ∧ s.peerLost.known = s.known :=
  mayClaim_congr (peerLost_pair s) (by rw [peerLost_eq]) fun k hk => peerLost_r s fun he => by rw [he] at hk; exact absurd hk (by decide)

theorem claimWaits_peerLost (s : State) : s.peerLost.claimWaits ↔ s.claimWaits := by
  obtain ⟨hmay, hknown⟩ := mayClaim_peerLost s
  unfold State.claimWaits
  rw [hmay, hknown, peerLost_pair]

/-! ## Refresh (R477, R488) -/

/-- The device has been refreshed. -/
def State.refreshedNow (s : State) : State := { s with pair := { s.pair with refreshed := s.up } }

theorem claimWaits_refreshed (s : State) : s.refreshedNow.claimWaits ↔ s.claimWaits := Iff.rfl

theorem refresh_waits {s : State} (h : ¬ s.claimWaits) : s.refresh = s.refreshedNow.peerLost :=
  tryClaim_waits fun hc => h ((claimWaits_peerLost s.refreshedNow).1 hc)

theorem refresh_claims {s : State} {e : Nat} (hr : s.pair.right = some e) (he : s.known < e) (hm : s.mayClaim = true) : let t := s.refresh
    t.pair.refreshed = s.up ∧ t.pair.claiming = true ∧ t.pair.storing = some (e, .claim) ∧ t.r Reg.prROLE = 2 ∧ t.pair.right = none := by
  obtain ⟨hmay, hknown⟩ := mayClaim_peerLost s.refreshedNow
  have hpair := peerLost_pair s.refreshedNow
  have hup : s.refreshedNow.peerLost.up = s.up := by
    rw [peerLost_eq]
    rfl
  have hright : s.refreshedNow.peerLost.pair.right = some e := by
    rw [hpair]
    exact hr
  have hclaim := tryClaim_claims hright (lt_of_eq_of_lt hknown he) (hmay.trans hm)
  have heq : s.refresh = s.refreshedNow.peerLost.startClaim e true := hclaim
  rw [heq]
  have hep : ¬ e ≤ s.refreshedNow.peerLost.epoch :=
    Nat.not_le.2 (lt_of_le_of_lt (epoch_le_known _) (lt_of_eq_of_lt hknown he))
  generalize s.refreshedNow.peerLost = u at hpair hup hep
  dsimp only
  rw [startClaim_pair, if_neg hep, startClaim_r _ _ _ (by decide), hup]
  exact ⟨rfl, rfl, rfl, rfl, rfl⟩

/-! ## PEER_CLAIM (R478, R489) -/

/-- The state in which an edge of PEER_CLAIM has come. -/
def State.edged (s : State) : State := { s with pair := { s.pair with edges := (s.up :: s.pair.edges).take 4 } }

/-- The partner claims: a collision where the device claims, and no fault of the line. -/
theorem peerPub_toggles {s : State} (h : s.peerToggles = true) : s.peerPub =
    State.claimCheck { s.w Reg.prPEER_CLAIM_STATE 1 with pair := { (s.w Reg.prPEER_CLAIM_STATE 1).pair with lineFault := false } } := by
  unfold State.peerPub
  rw [h]
  rfl

theorem peerPub_quiet {s : State} (h : s.peerToggles = false) : s.peerPub = (s.w Reg.prPEER_CLAIM_STATE 0).peerLost.tryClaim := by
  unfold State.peerPub
  rw [h]
  rfl

theorem peerPub_quiet_spec {s : State} (h : s.peerToggles = false) :
    s.peerPub.r Reg.prPEER_CLAIM_STATE = 0 ∧ s.peerPub.pair.edges = s.pair.edges := by
  rw [peerPub_quiet h]
  obtain ⟨hedges, hr⟩ := tryClaim_edges (s.w Reg.prPEER_CLAIM_STATE 0).peerLost
  rw [hedges, hr, peerLost_r _ (by decide), peerLost_pair]
  exact ⟨(State.w_r _ _ _ _).trans (if_pos rfl), rfl⟩

/-- Three intervals of 40-60 us that end with the newest edge. -/
theorem peerToggles_edged {s : State} {x y z : Nat} {rest : List Nat} (h : s.pair.edges = x :: y :: z :: rest) :
    s.edged.pair.edges = [s.up, x, y, z] ∧ (s.edged.peerToggles = true ↔
      (x + 40000 ≤ s.up ∧ s.up ≤ x + 60000) ∧ (y + 40000 ≤ x ∧ x ≤ y + 60000) ∧ (z + 40000 ≤ y ∧ y ≤ z + 60000)) := by
  have hedges : s.edged.pair.edges = [s.up, x, y, z] := by
    unfold State.edged
    rw [h]
    rfl
  refine ⟨hedges, ?_⟩
  have hup : s.edged.up = s.up := rfl
  unfold State.peerToggles
  rw [hedges, hup]
  simp

/-! ## The claim settles (R488, R496) -/

/-- A FOLLOW bank is to arm at the next tick start. -/
def State.armFollow (b : Nat) (t : State) : State :=
  t.when (decide (t.r (Reg.bkBANK_STATE b) = 3)) fun u => u.wBank b { u.bank b with toArm := true }

/-- What arming leaves alone. -/
theorem armFollow_parts (t : State) (b : Nat) : (t.armFollow b).regs = t.regs ∧ (t.armFollow b).pair = t.pair :=
  ⟨view_when State.regs t _ (fun u => u.wBank b { u.bank b with toArm := true }) rfl,
    view_when State.pair t _ (fun u => u.wBank b { u.bank b with toArm := true }) rfl⟩

theorem armFollow_r (t : State) (b k : Nat) : (t.armFollow b).r k = t.r k := by
  unfold State.r
  rw [(armFollow_parts t b).1]

/-- Every FOLLOW bank arms. -/
theorem armFollow_all (s : State) : let t := s.each bankNos State.armFollow
    t.pair = s.pair ∧ (∀ k, t.r k = s.r k) ∧ ∀ b, b < 24 → s.r (Reg.bkBANK_STATE b) = 3 → (t.bank b).toArm = true := by
  have hregs := view_each State.regs s bankNos State.armFollow fun b _ t => (armFollow_parts t b).1
  refine ⟨view_each State.pair s bankNos State.armFollow fun b _ t => (armFollow_parts t b).2, fun k => ?_, fun b hb h3 => ?_⟩
  · unfold State.r
    rw [hregs]
  · obtain ⟨t, ht, heach⟩ := each_own (fun b t => (t.r (Reg.bkBANK_STATE b), t.bank b)) State.armFollow List.nodup_range
      (fun q _ p _ hp t => by
        refine Prod.ext (armFollow_r t q _) (view_when (fun u => u.bank p) t _ (fun u => u.wBank q { u.bank q with toArm := true }) ?_)
        exact (State.wBank_bank _ _ _ _).trans (if_neg hp)) s (List.mem_range.2 hb)
    have hstate : t.r (Reg.bkBANK_STATE b) = 3 := (Prod.mk.inj ht).1.trans h3
    have hbank : (s.each bankNos State.armFollow).bank b = (t.armFollow b).bank b := (Prod.mk.inj heach).2
    rw [hbank]
    unfold State.armFollow State.when
    rw [decide_eq_true hstate, if_pos rfl, State.wBank_bank, if_pos rfl]

/-- The pair's own state once the device is bellwether. -/
def Pair.leads (p : Pair) (up : Nat) : Pair := { p with
  authority := true, claiming := false, leaseEnd := some (up + 500000000), right := none, handover := 0, handoverEpoch := 0, leaseSafe := 0
  again := none }

/-- The device that has become bellwether. -/
def State.leads (s : State) : State :=
  let s1 := State.wAll { s with pair := s.pair.leads s.up } [(Reg.prROLE, 3), (Reg.prLAST_TAKEOVER, s.now)]
  (s1.bump Reg.prTAKEOVERS).event 0x0701 0 s1.epoch

theorem takeAuthority_side (s : State) : s.takeAuthority.claimSide = (s.leads.each bankNos State.armFollow).claimSide := by
  have hstream (t : State) : (t.each headNos fun h t => t.when (decide (t.attach h = atSTREAMING)) fun u => u.stream h 2).claimSide =
      t.claimSide :=
    view_each State.claimSide t headNos _ fun h _ u => view_when State.claimSide u _ (fun u => u.stream h 2) (claimSide_stream u h 2)
  have heq : s.takeAuthority = ((s.leads.each bankNos State.armFollow).xLull.each headNos fun h t =>
      t.when (decide (t.attach h = atSTREAMING)) fun u => u.stream h 2) := rfl
  rw [heq, hstream, claimSide_xLull]

theorem leads_spec (s : State) : s.leads.pair = s.pair.leads s.up ∧ s.leads.r Reg.prROLE = 3 ∧
    s.leads.r Reg.prTAKEOVERS = min 0xFFFFFFFF (s.r Reg.prTAKEOVERS + 1) ∧ s.leads.r Reg.prLAST_TAKEOVER = s.now ∧
    ∀ b, s.leads.r (Reg.bkBANK_STATE b) = s.r (Reg.bkBANK_STATE b) := by
  have hr (k : Nat) (hk : k ≠ Reg.evEVENT_SEQ) : s.leads.r k =
      if k = Reg.prTAKEOVERS then min 0xFFFFFFFF (s.r Reg.prTAKEOVERS + 1) else if k = Reg.prLAST_TAKEOVER then s.now
        else if k = Reg.prROLE then 3 else s.r k := by
    have hall (j : Nat) : (State.wAll { s with pair := s.pair.leads s.up } [(Reg.prROLE, 3), (Reg.prLAST_TAKEOVER, s.now)]).r j =
        if j = Reg.prLAST_TAKEOVER then s.now else if j = Reg.prROLE then 3 else s.r j := wAll_pair_r _ _ _ _
    unfold State.leads
    dsimp only
    rw [event_r_ne _ _ _ _ hk, State.bump_r, hall, hall]
    rfl
  refine ⟨?_, hr _ (by decide), hr _ (by decide), hr _ (by decide), fun b => ?_⟩
  · unfold State.leads
    dsimp only
    rw [event_pair]
    rfl
  · have hge : 0x500000 ≤ Reg.bkBANK_STATE b := by unfold Reg.bkBANK_STATE; omega
    rw [hr _ (by unfold Reg.evEVENT_SEQ; omega), if_neg (by unfold Reg.prTAKEOVERS; omega), if_neg (by unfold Reg.prLAST_TAKEOVER; omega),
      if_neg (by unfold Reg.prROLE; omega)]

/-- A claim that has settled. -/
theorem takeAuthority_spec (s : State) : let t := s.takeAuthority
    t.pair.authority = true ∧ t.pair.claiming = false ∧ t.pair.leaseEnd = some (s.up + 500000000) ∧ t.r Reg.prROLE = 3 ∧
      t.r Reg.prTAKEOVERS = min 0xFFFFFFFF (s.r Reg.prTAKEOVERS + 1) ∧ t.r Reg.prLAST_TAKEOVER = s.now ∧
      ∀ b, b < 24 → s.r (Reg.bkBANK_STATE b) = 3 → (t.bank b).toArm = true := by
  have hside := takeAuthority_side s
  obtain ⟨hpair, hr, harm⟩ := armFollow_all s.leads
  obtain ⟨hlead, hrole, hcount, hlast, hstate⟩ := leads_spec s
  generalize s.takeAuthority = t at hside
  generalize s.leads.each bankNos State.armFollow = u at hside hpair hr harm
  have htp : t.pair = s.pair.leads s.up := (claimSide_pair hside).trans (hpair.trans hlead)
  dsimp only
  rw [htp, claimSide_r hside, claimSide_r hside, claimSide_r hside, hr, hr, hr]
  refine ⟨rfl, rfl, rfl, hrole, hcount, hlast, fun b hb h3 => ?_⟩
  rw [claimSide_bank hside]
  exact harm b hb ((hstate b).trans h3)

end Sys2Proof.Machine
end

section
/-! PROOFS. Lease, back-off and handover, and claims as a whole (O50). -/

namespace Sys2Proof.Machine

/-! ## The partner claims (R478, R489) -/

/-- The state in which PEER_CLAIM shows the partner's claim. -/
def State.partnerClaims (s : State) : State :=
  { s.w Reg.prPEER_CLAIM_STATE 1 with pair := { (s.w Reg.prPEER_CLAIM_STATE 1).pair with lineFault := false } }

theorem partnerClaims_r (s : State) (k : Nat) : s.partnerClaims.r k = if k = Reg.prPEER_CLAIM_STATE then 1 else s.r k :=
  State.w_r s Reg.prPEER_CLAIM_STATE 1 k

/-- It collides with the device's own claim, and with nothing else. -/
theorem peerPub_claimed {s : State} (h : s.peerToggles = true) : let t := s.peerPub
    t.r Reg.prPEER_CLAIM_STATE = 1 ∧ (s.pair.toggling = true → t = s.partnerClaims.collide) ∧
      (s.pair.toggling = false → t.pair = { s.pair with lineFault := false }) := by
  have hpeer : s.partnerClaims.r Reg.prPEER_CLAIM_STATE = 1 := (partnerClaims_r _ _).trans (if_pos rfl)
  have hpub : s.peerPub = s.partnerClaims.claimCheck := peerPub_toggles h
  rw [hpub]
  by_cases ht : s.pair.toggling = true
  · have hcheck : s.partnerClaims.claimCheck = s.partnerClaims.collide := if_pos ⟨ht, hpeer⟩
    obtain ⟨-, -, hkept, -⟩ := collide_spec s.partnerClaims
    rw [hcheck]
    exact ⟨hkept.trans hpeer, fun _ => rfl, fun hf => by rw [ht] at hf; cases hf⟩
  · have hcheck : s.partnerClaims.claimCheck = s.partnerClaims := if_neg fun hc => ht hc.1
    rw [hcheck]
    exact ⟨hpeer, fun hc => absurd hc ht, fun _ => rfl⟩

/-- A collision in which the partner's claim has just come. -/
theorem collide_partnerClaims (s : State) : let t := s.partnerClaims.collide
    t.r Reg.prCOLLISIONS = min 0xFFFFFFFF (s.r Reg.prCOLLISIONS + 1) ∧ t.r Reg.prROLE = 4 ∧ t.pair.authority = false ∧
      t.pair.toggling = false ∧ t.pair.claiming = false ∧
      t.pair.backoffEnd = some (s.up + if s.r Reg.prPAIR_ID = 0 then 2000000 else 20000000) := by
  obtain ⟨hcount, hrole, -, ha, ht, hc, hb⟩ := collide_spec s.partnerClaims
  have hid : s.partnerClaims.r Reg.prPAIR_ID = s.r Reg.prPAIR_ID := (partnerClaims_r _ _).trans (if_neg (by decide))
  have hcollisions : s.partnerClaims.r Reg.prCOLLISIONS = s.r Reg.prCOLLISIONS := (partnerClaims_r _ _).trans (if_neg (by decide))
  rw [hcollisions] at hcount
  rw [hid] at hb
  exact ⟨hcount, hrole, ha, ht, hc, hb⟩

/-! ## The back-off (R489) -/

/-- The device whose back-off is over. -/
def State.rested (s : State) : State := { s with pair := { s.pair with backoffEnd := none } }

theorem mayClaim_role (s : State) : (s.w Reg.prROLE 1).mayClaim = s.mayClaim ∧ (s.w Reg.prROLE 1).rightStands = s.rightStands ∧
    (s.w Reg.prROLE 1).epoch = s.epoch := by
  have hr (k : Nat) (hk : k ≠ Reg.prROLE) : (s.w Reg.prROLE 1).r k = s.r k := (State.w_r _ _ _ _).trans (if_neg hk)
  unfold State.mayClaim State.rightStands State.keepsEpoch State.partnerUp State.follower State.epoch
  rw [hr Reg.opDEVICE_STATE (by decide), hr Reg.prPEER_CLAIM_STATE (by decide), hr Reg.prCLAIM_LAPSED (by decide),
    hr Reg.prPAIR_EPOCH (by decide), hr Reg.prPARTNER_STATE (by decide)]
  exact ⟨rfl, rfl, rfl⟩

theorem backoffOver_early {s : State} {x : Nat} (hx : s.pair.backoffEnd = some x) (h : s.up < x) : s.backoffOver = s := by
  unfold State.backoffOver
  rw [hx]
  exact if_pos h

theorem backoffOver_due {s : State} {x : Nat} (hx : s.pair.backoffEnd = some x) (h : x ≤ s.up) : s.backoffOver =
    let t := s.rested.w Reg.prROLE 1
    if t.mayClaim ∧ t.rightStands then t.startClaim t.epoch t.pair.granted else t.tryClaim := by
  unfold State.backoffOver
  rw [hx]
  exact if_neg (Nat.not_lt.2 h)

/-- A right that still stands: the device claims again under its own epoch. -/
theorem backoffOver_claims {s : State} {x : Nat} (hx : s.pair.backoffEnd = some x) (h : x ≤ s.up) (hmay : s.rested.mayClaim = true)
    (hright : s.rested.rightStands = true) : let t := s.backoffOver
    t.pair.claiming = true ∧ t.pair.toggling = true ∧ t.pair.claimSince = s.up ∧ t.r Reg.prROLE = 2 := by
  obtain ⟨hm, hs, -⟩ := mayClaim_role s.rested
  rw [backoffOver_due hx h]
  have hup : (s.rested.w Reg.prROLE 1).up = s.up := rfl
  dsimp only
  rw [hm, hs, if_pos ⟨hmay, hright⟩]
  generalize s.rested.w Reg.prROLE 1 = u at hup
  rw [startClaim_pair, if_pos le_rfl, startClaim_r _ _ _ (by decide), hup]
  exact ⟨rfl, rfl, rfl, rfl⟩

/-- None: the device stays follower. -/
theorem backoffOver_rests {s : State} {x : Nat} (hx : s.pair.backoffEnd = some x) (h : x ≤ s.up)
    (hno : s.rested.mayClaim = false ∨ (s.rested.rightStands = false ∧ s.pair.right = none)) : s.backoffOver = s.rested.w Reg.prROLE 1 := by
  obtain ⟨hm, hs, -⟩ := mayClaim_role s.rested
  have hright : (s.rested.w Reg.prROLE 1).pair.right = s.pair.right := rfl
  rw [backoffOver_due hx h]
  dsimp only
  generalize s.rested.w Reg.prROLE 1 = u at hm hs hright
  rw [if_neg fun hc => ?_, tryClaim_waits fun hw => ?_]
  · obtain ⟨e, he, -, hmay⟩ := hw
    rcases hno with hno | ⟨-, hnone⟩
    · rw [hm, hno] at hmay
      cases hmay
    · rw [hright, hnone] at he
      cases he
  · rcases hno with hno | ⟨hno, -⟩
    · rw [hm, hno] at hc
      cases hc.1
    · rw [hs, hno] at hc
      cases hc.2

/-! ## Handover (R497) -/

theorem handoverCheck_of_book {s t : State} (hb : t.book = s.book) (hp : t.pair = s.pair) : t.handoverCheck = s.handoverCheck := by
  unfold State.handoverCheck State.partnerUp
  rw [hp, book_r hb Reg.prPARTNER_STATE (by decide)]

/-- What the check of a handover answers (R497). -/
theorem handoverCheck_eq (s : State) : s.handoverCheck =
    if ¬ (s.pair.mode = true ∧ s.pair.authority = true) then 3 else if s.partnerUp = false then 1
      else if (bit 2 s.pair.peer.flags && bit 1 s.pair.peer.flags) = true then 0 else 2 := by
  unfold State.handoverCheck
  simp only [Bool.not_eq_true', Bool.and_eq_true, ← Bool.not_eq_true (s.partnerUp), ← Bool.not_eq_true (s.pair.mode && s.pair.authority)]

/-- An offer starts a handover of a pair that is ready for it. -/
theorem offerHandover_eq (s : State) : s.offerHandover =
    if s.handoverCheck = 0 ∧ s.pair.handover = 0 then { s with pair := { s.pair with handover := 1 } } else s := by
  unfold State.offerHandover State.when
  simp only [Bool.and_eq_true, decide_eq_true_eq]

theorem offerHandover_parts (s : State) : s.offerHandover.od = s.od ∧
    (s.handoverCheck = 0 → s.pair.handover = 0 → s.offerHandover.pair = { s.pair with handover := 1 }) ∧
    (s.handoverCheck ≠ 0 → s.offerHandover.pair = s.pair) := by
  rw [offerHandover_eq]
  split
  · next h => exact ⟨rfl, fun _ _ => rfl, fun hne => absurd h.1 hne⟩
  · next h => exact ⟨rfl, fun h0 h1 => absurd ⟨h0, h1⟩ h, fun _ => rfl⟩

/-- An accepted HANDOVER is answered at once, and offered to a ready partner. -/
theorem handoverRun_spec (s : State) (src v len : Nat) : let u := s.actStart src Reg.prHANDOVER v len
    let t := u.handoverRun
    t.od.rsp = ⟨0, s.nextToken, []⟩ ∧ t.actBusy Reg.prHANDOVER = false ∧ t.r Reg.prHANDOVER_RESULT = s.handoverCheck ∧
      (s.handoverCheck = 0 → s.pair.handover = 0 → t.pair = { s.pair with handover := 1 }) ∧ (s.handoverCheck ≠ 0 → t.pair = s.pair) := by
  have hpair := actStart_pair s src Reg.prHANDOVER v len (by decide)
  have hcheck := handoverCheck_of_book (book_actStart_of s (src := src) (v := v) (len := len) (key := Reg.prHANDOVER) (by decide)) hpair
  have hbusy := actStart_busy s src Reg.prHANDOVER v len
  have hrsp := (actStart_spec s src Reg.prHANDOVER v len).1
  dsimp only
  generalize s.actStart src Reg.prHANDOVER v len = u at hpair hcheck hbusy hrsp
  obtain ⟨hod, hoffer, hkeep⟩ := offerHandover_parts u
  have hact : (u.offerHandover.act Reg.prHANDOVER).busy = true := by
    unfold State.act
    rw [hod]
    exact hbusy
  unfold State.handoverRun
  dsimp only
  rw [actDone_rsp, actDone_idle, actDone_pair, hod, hrsp,
    actDone_r_result _ _ _ _ Reg.prHANDOVER_RESULT (by decide) (by decide) (by decide) hact, hcheck]
  rw [hcheck] at hoffer hkeep
  rw [hpair] at hoffer hkeep
  exact ⟨rfl, rfl, rfl, hoffer, hkeep⟩

end Sys2Proof.Machine

open Sys2Proof Sys2Proof.Machine

/-- Settles O50: refresh and lapse, the edges of PEER_CLAIM, the claim's collision and settling, back-off, lease and handover in turn. -/
theorem claims : Obligations.Claims := by
  intro dt v o s a q mode one waits collided near
  refine ⟨fun h => ?_, fun e hr he hm => ?_, fun hmode hq hlate => ⟨_, rfl, lapse_spec hmode hq hlate⟩, fun h => ?_, fun hmode x y z rest hedges => ?_,
    fun hmode hquiet => ?_, fun h => ?_, fun hc ht hlate => ⟨fun hpeer => ?_, fun hpeer => ?_⟩, fun x hx => ⟨fun h => ?_, fun h => ⟨fun hmay hright => ?_, fun hno => ?_⟩⟩,
    fun x hx hup hmode hauth hsafe => ?_, fun hacc => ?_⟩
  · have hwaits : ¬ a.claimWaits := h
    refine ⟨_, congrArg Host.Outcome.next (refresh_waits hwaits), peerLost_pair a.refreshedNow, fun k hk => ?_, fun hf => ?_⟩
    · exact peerLost_r a.refreshedNow (by simpa using hk)
    · exact peerLost_leader (s := a.refreshedNow) hf
  · exact ⟨_, rfl, refresh_claims hr he hm⟩
  · refine ⟨_, congrArg Host.Outcome.next (if_neg ?_), rfl⟩
    rintro ⟨hmode, hq, hlate⟩
    rcases h with h | ⟨ha, ht⟩ | h
    · exact h hmode
    · rw [ha, ht] at hq
      simp at hq
    · rw [h] at hlate
      cases hlate
  · obtain ⟨hfour, htoggles⟩ := peerToggles_edged hedges
    have hexec : exec (.peerClaimEdge dt) s = .next a.edged.peerPub := congrArg Host.Outcome.next (if_pos hmode)
    refine ⟨_, hexec, fun hnear => ?_, fun hfar => ?_⟩
    · obtain ⟨hpeer, hcollide, hkeep⟩ := peerPub_claimed (htoggles.2 hnear)
      refine ⟨hpeer, fun ht => ?_, fun ht => ?_⟩
      · rw [hcollide ht]
        exact collide_partnerClaims a.edged
      · rw [hkeep ht, ← hfour]
        rfl
    · obtain ⟨hr, hedge⟩ := peerPub_quiet_spec (Bool.eq_false_iff.2 fun hc => hfar (htoggles.1 hc))
      exact ⟨hr, hedge.trans hfour⟩
  · have hexec : a.peerQuiet = a.peerPub := if_pos (by rw [hquiet, show a.pair.mode = true from hmode]; rfl)
    exact ⟨_, congrArg Host.Outcome.next hexec, (peerPub_quiet_spec hquiet).1⟩
  · refine ⟨_, congrArg Host.Outcome.next (if_neg ?_), rfl⟩
    rw [Bool.and_eq_true, Bool.not_eq_true', not_and, Bool.not_eq_false]
    exact fun hm => h.resolve_left fun hn => hn hm
  · have hsettle : a.settleClaim = a.collide := (if_pos ⟨hc, ht, hlate⟩).trans (if_pos hpeer)
    obtain ⟨hcount, hrole, -, ha, ht, hc, hb⟩ := collide_spec a
    exact ⟨_, congrArg Host.Outcome.next hsettle, hcount, hrole, ha, ht, hc, hb⟩
  · have hsettle : a.settleClaim = a.takeAuthority := (if_pos ⟨hc, ht, hlate⟩).trans (if_neg hpeer)
    exact ⟨_, congrArg Host.Outcome.next hsettle, takeAuthority_spec a⟩
  · exact ⟨_, congrArg Host.Outcome.next (backoffOver_early hx h), rfl⟩
  · exact ⟨_, rfl, backoffOver_claims hx h hmay hright⟩
  · exact ⟨_, congrArg Host.Outcome.next (backoffOver_rests hx h hno), rfl, (State.w_r _ _ _ _).trans (if_pos rfl)⟩
  · have hlease : a.leaseTime = a.leaseOver := by
      unfold State.leaseTime
      rw [show a.pair.leaseEnd = some x from hx]
      exact if_pos hup
    exact ⟨_, congrArg Host.Outcome.next hlease, leaseOver_ends hmode hauth hsafe⟩
  · have hexec : exec (.handover dt o v) s = .next (a.actStart o.src Reg.prHANDOVER v (keySize Reg.prHANDOVER)).handoverRun :=
      congrArg Host.Outcome.next (actBy_starts _ hacc)
    refine ⟨_, hexec, ?_⟩
    have hspec := handoverRun_spec a o.src v (keySize Reg.prHANDOVER)
    rw [handoverCheck_eq a] at hspec
    exact hspec
end

section
/-! PROOFS. What a re-placement leaves alone: the pair, what leaves for the partner, and the objects of the device, its lanes and the pair. -/

namespace Sys2Proof.Machine

/-- Registers that neither bookkeeping nor Shepherd's placements write; and REPLACEMENTS, which a re-placement counts up at its end. -/
def apartKey (k : Nat) : Bool :=
  decide ((0x200000 ≤ k ∧ k < 0x210000) ∨ k = 0x210010 ∨ (0x230000 ≤ k ∧ k < 0x300000 ∧ (k % 256 < 7 ∨ 10 < k % 256)) ∨
    (0x300000 ≤ k ∧ k < 0x600000 ∧ (k % 256 = 4 ∨ k % 256 = 11)) ∨ (0x540000 ≤ k ∧ k < 0x564000 ∧ k % 256 = 6)) && !bookKey k

/-- What a placement leaves alone besides registers. -/
def State.others (s : State) : Pair × List PartnerOut × Clk × Fac × List (Nat × Bytes) × List (Nat × HeadRx) × (Nat → Option PSet × Option PSet) :=
  (s.pair, s.ptx, s.clk, s.fac, s.blobs, s.hrx, fun h => ((s.pipe h).armed, (s.pipe h).cur))

/-- What a placement leaves alone. -/
def State.apart (s : State) : (Nat → Nat) × Pair × List PartnerOut × Clk × Fac × List (Nat × Bytes) × List (Nat × HeadRx) ×
    (Nat → Option PSet × Option PSet) := (s.on apartKey, s.others)

theorem apart_of {s t : State} (hr : t.on apartKey = s.on apartKey) (h : t.others = s.others) : t.apart = s.apart := Prod.ext hr h

theorem apart_r {s t : State} (h : t.apart = s.apart) (k : Nat) (hk : apartKey k = true) : t.r k = s.r k := on_r (Prod.mk.inj h).1 k hk

theorem apart_others {s t : State} (h : t.apart = s.apart) : t.others = s.others := (Prod.mk.inj h).2

theorem others_parts {s t : State} (h : t.others = s.others) : t.pair = s.pair ∧ t.ptx = s.ptx ∧ t.clk = s.clk ∧ t.fac = s.fac ∧
    t.blobs = s.blobs ∧ t.hrx = s.hrx ∧ ∀ h, (t.pipe h).armed = (s.pipe h).armed ∧ (t.pipe h).cur = (s.pipe h).cur := by
  obtain ⟨hpair, h⟩ := Prod.mk.inj h
  obtain ⟨hptx, h⟩ := Prod.mk.inj h
  obtain ⟨hclk, h⟩ := Prod.mk.inj h
  obtain ⟨hfac, h⟩ := Prod.mk.inj h
  obtain ⟨hblobs, h⟩ := Prod.mk.inj h
  obtain ⟨hhrx, h⟩ := Prod.mk.inj h
  exact ⟨hpair, hptx, hclk, hfac, hblobs, hhrx, fun i => Prod.mk.inj (congrFun h i)⟩

/-- Keys that placements write. -/
theorem apartKey_placed {k : Nat} (h : (0x210000 ≤ k ∧ k < 0x230000 ∧ k ≠ 0x210010) ∨
    (0x300000 ≤ k ∧ k % 256 ≠ 4 ∧ k % 256 ≠ 11 ∧ (k < 0x540000 ∨ k % 256 ≠ 6)) ∨
    (0x210011 ≤ k ∧ 7 ≤ k % 256 ∧ k % 256 ≤ 10)) : apartKey k = false := by
  unfold apartKey
  rw [decide_eq_false (by omega), Bool.false_and]

theorem apartKey_not_book {k : Nat} (h : apartKey k = true) : bookKey k = false := by
  unfold apartKey at h
  rw [Bool.and_eq_true, Bool.not_eq_true'] at h
  exact h.2

theorem apartKey_ne_eventSeq {k : Nat} (h : apartKey k = true) : k ≠ Reg.evEVENT_SEQ := by
  rintro rfl
  exact absurd h (by decide)

/-! ## Single steps -/

theorem apart_w (s : State) (k v : Nat) (h : apartKey k = false) : (s.w k v).apart = s.apart := apart_of (on_w _ _ _ h) rfl

theorem apart_wAll (s : State) (l : List (Nat × Nat)) (h : ∀ e ∈ l, apartKey e.1 = false) : (s.wAll l).apart = s.apart := by
  refine apart_of (on_wAll _ _ h) ?_
  rw [State.wAll_eq]
  rfl

theorem apart_event (s : State) (code inst data : Nat) : (s.event code inst data).apart = s.apart := by
  refine apart_of (on_of_r fun _ hk => event_r_ne s _ _ _ (apartKey_ne_eventSeq hk)) ?_
  rw [event_eq]
  rfl

/-- A pipeline with the sets that it had. -/
theorem apart_wPipe (s : State) (h : Nat) (x : Pipe) (ha : x.armed = (s.pipe h).armed) (hc : x.cur = (s.pipe h).cur) :
    (s.wPipe h x).apart = s.apart := by
  have hpipes : (fun i => (((s.wPipe h x).pipe i).armed, ((s.wPipe h x).pipe i).cur)) = fun i => ((s.pipe i).armed, (s.pipe i).cur) := by
    funext i
    rw [State.wPipe_pipe]
    split
    · next hi => rw [hi, ha, hc]
    · rfl
  exact apart_of rfl (congrArg (fun f => (s.pair, s.ptx, s.clk, s.fac, s.blobs, s.hrx, f)) hpipes)

theorem LinkOnly.apart {h : Nat} {s t : State} (hl : LinkOnly h s t) : t.apart = s.apart :=
  apart_of (on_of_r fun k _ => hl.r k) (by rw [hl.1]; rfl)

theorem apart_nvmRecord (s : State) (id cls : Nat) (d : Bytes) (fin : NvmDone) : (s.nvmRecord id cls d fin).apart = s.apart :=
  apart_of (on_of_r fun _ hk => nvmRecord_r s id cls d fin (apartKey_not_book hk)) rfl

theorem apart_hwmStore (s : State) (v : Nat) : (s.hwmStore v).apart = s.apart := apart_nvmRecord s 0x01 2 (leBytes 4 v) (.hwm v)

theorem apart_tlyNumber (s : State) (e : TEntry) : (s.tlyNumber e).apart = s.apart := by
  have hold (t : State) (c : Bool) (v : Nat) : (t.when c fun u => u.w Reg.tlyOLDEST_SEQ v).apart = t.apart :=
    view_when State.apart t c _ (apart_w _ _ _ (by decide))
  have hnext (t : State) (v : Nat) : (t.w Reg.tlyNEXT_SEQ v).apart = t.apart := apart_w _ _ _ (by decide)
  unfold State.tlyNumber
  dsimp only
  split
  · rw [apart_hwmStore, hold, hnext]
    rfl
  · rw [hold, hnext]
    rfl

theorem apart_tlyAdd (s : State) (src kind key result token value : Nat) : (s.tlyAdd src kind key result token value).apart = s.apart := by
  unfold State.tlyAdd State.tlyPut
  split
  · exact apart_tlyNumber _ _
  · split
    · dsimp only
      split
      · exact apart_hwmStore _ _
      · rfl
    · exact apart_w s Reg.tlyOVERRUN _ (by decide)

/-! ## Shedding (R321) -/

theorem apart_shedMark (s : State) (k i kind : Nat) (h : apartKey k = false) : ((s.wb k i true).event 0x0203 kind i).apart = s.apart :=
  (apart_event _ _ _ _).trans (apart_w _ _ _ h)

/-- A head that does not stream has nothing to close when it is shed. -/
theorem apart_headShed (s : State) {h : Nat} (hh : h < 32) (ha : s.attach h ≠ atSTREAMING) : (s.headShed h).apart = s.apart := by
  unfold State.headShed
  extract_lets shep s0 a s1 x y s2 pipe s3
  have h1 : s1.apart = s.apart := by
    refine view_when State.apart s0 _ _ ?_
    rw [State.leaveStreaming, if_neg (show s0.attach h ≠ atSTREAMING from ha)]
    exact apart_w _ _ _ (apartKey_placed (.inr (.inl (by unfold Reg.hdATTACH_STATE; omega))))
  have h3 : s3.apart = s1.apart := (apart_wPipe s2 h _ (by rfl) (by rfl)).trans (apart_of rfl rfl)
  exact (view_when State.apart _ _ _ (linkOnly_headCmd _ _ _ _).apart).trans (h3.trans h1)

/-- Sorting adds nothing. -/
theorem mem_sortBy {α : Type} {lt : α → α → Bool} {l : List α} {x : α} (h : x ∈ sortBy lt l) : x ∈ l := by
  have hinsert (y : α) (m : List α) : ∀ z ∈ insertBy lt y m, z = y ∨ z ∈ m := by
    intro z hz
    induction m with
    | nil => exact .inl (List.mem_singleton.1 hz)
    | cons w m ih =>
      unfold insertBy at hz
      split at hz
      · exact List.mem_cons.1 hz
      · rcases List.mem_cons.1 hz with rfl | hz
        · exact .inr List.mem_cons_self
        · exact (ih hz).imp_right (List.mem_cons_of_mem w)
  unfold sortBy at h
  induction l with
  | nil => exact h
  | cons y l ih =>
    rcases hinsert y _ x h with rfl | hx
    · exact List.mem_cons_self
    · exact List.mem_cons_of_mem y (ih hx)

theorem apart_shedOne (s t : State) (h : s.shedOne = some t) : t.apart = s.apart := by
  unfold State.shedOne at h
  dsimp only at h
  split at h
  · obtain rfl := Option.some.inj h
    split <;> exact apart_shedMark s _ _ _ (by decide)
  · split at h
    · obtain rfl := Option.some.inj h
      exact apart_shedMark s _ _ _ (by decide)
    · split at h
      · next h1 _ hsort =>
        have hmem : h1 ∈ headNos := List.mem_of_mem_filter (mem_sortBy (hsort ▸ List.mem_cons_self))
        have hmark := apart_shedMark s Reg.shpSHED_HEADS h1 1 (by decide)
        obtain rfl := Option.some.inj h
        split
        · exact hmark
        · next ha => exact (apart_headShed _ (List.mem_range.1 hmem) ha).trans hmark
      · cases h

theorem apart_shed (s : State) (n : Nat) : (s.shed n).apart = s.apart := by
  induction n generalizing s with
  | zero => rfl
  | succ n ih =>
    unfold State.shed
    dsimp only
    split
    · rfl
    · split
      · next t ht => exact (ih t).trans (apart_shedOne s t ht)
      · rfl

/-! ## Easing (R322) -/

theorem apartKey_stream (x : Nat) : apartKey (Reg.strmSTREAM_STATE x) = false ∧ apartKey (Reg.strmPLACED_GROUP x) = false ∧
    apartKey (Reg.strmPLACED_FORMAT x) = false ∧ apartKey (Reg.strmLOAD x) = false := by
  refine ⟨?_, ?_, ?_, ?_⟩ <;> refine apartKey_placed (.inr (.inr ?_)) <;>
    simp only [Reg.strmSTREAM_STATE, Reg.strmPLACED_GROUP, Reg.strmPLACED_FORMAT, Reg.strmLOAD] <;> omega

theorem apart_fold {α β : Type} (f : State × α → β → State × α) (h : ∀ a b, (f a b).1.apart = a.1.apart) (l : List β) (a : State × α) :
    (l.foldl f a).1.apart = a.1.apart := by
  induction l generalizing a with
  | nil => rfl
  | cons b l ih => exact (ih (f a b)).trans (h a b)

theorem apart_easeStream (s : State) (g step x : Nat) (p : Placing) : (s.easeStream g step x p).1.apart = s.apart := by
  obtain ⟨hstate, hgroup, hformat, -⟩ := apartKey_stream x
  unfold State.easeStream
  dsimp only
  split
  · rfl
  · split
    · split
      · exact (apart_w _ _ _ hstate).trans (apart_w _ _ _ hformat)
      · rfl
    · split
      · split <;> rfl
      · exact (apart_event _ _ _ _).trans (apart_wAll _ _ (by simp [hstate, hgroup]))

theorem apart_rePlaced (s : State) : s.rePlaced.1.apart = s.apart := by
  unfold State.rePlaced
  extract_lets p0 q
  split
  · refine apart_fold _ (fun a g => ?_) _ (s, p0)
    refine apart_fold _ (fun b step => ?_) _ (a.1, a.2)
    exact apart_fold _ (fun c x => apart_easeStream c.1 g step x c.2) _ b
  · rfl

/-! ## Publication (R322) -/

theorem apart_segmentMove (s : State) (h loc : Nat) : (s.segmentMove h loc).apart = s.apart := by
  have moved (t : State) : (t.w (Reg.pcSEG_LOCATION h) loc).apart = t.apart :=
    apart_w _ _ _ (apartKey_placed (.inr (.inl (by unfold Reg.pcSEG_LOCATION; omega))))
  unfold State.segmentMove
  dsimp only
  split
  · split
    · exact apart_wPipe s h _ (by rfl) (by rfl)
    · rfl
  · rw [moved]
    split
    · rfl
    · exact apart_wPipe s h _ (by rfl) (by rfl)

theorem apart_groupPublish (s : State) (pl : Placing) : (s.groupPublish pl).apart = s.apart := by
  refine view_each _ _ _ _ fun g hg t => apart_wAll _ _ ?_
  have hg := List.mem_range.1 hg
  have hkey (k : Nat) (h : 0x210000 ≤ k ∧ k < 0x230000 ∧ k ≠ 0x210010) : apartKey k = false := apartKey_placed (.inl h)
  simp only [List.mem_cons, List.not_mem_nil, or_false, forall_eq_or_imp, forall_eq]
  refine ⟨hkey _ ?_, hkey _ ?_, hkey _ ?_⟩ <;> simp only [Reg.grpLANES_UP, Reg.grpGROUP_CAP, Reg.grpGROUP_LOAD] <;> omega

theorem apart_tw (s : State) (w : List (Nat × TrainWord)) : State.apart { s with tw := w } = s.apart := rfl

theorem apart_sendLull (s : State) (l : Nat) : (s.sendLull l).apart = s.apart :=
  (congrArg State.apart (sendLull_eq s l)).trans (apart_tw s _)

theorem apart_xLull (s : State) : s.xLull.apart = s.apart :=
  view_each _ _ _ _ fun x _ t => view_when State.apart (t.wLane (32 + x) _) _ _ (apart_sendLull _ _)

theorem apart_mapNew (s : State) (c : Prop) [Decidable c] (seq cause : Nat) (x : Shep) :
    (if c then s else { (s.w Reg.shpMAP_SEQ seq).w Reg.shpLAST_CAUSE cause with shep := x } : State).apart = s.apart := by
  split
  · rfl
  · exact Eq.trans (apart_of (on_of_regs rfl) rfl) <|
      (apart_w _ Reg.shpLAST_CAUSE cause (by decide)).trans (apart_w s Reg.shpMAP_SEQ seq (by decide))

theorem apart_publish (s : State) (cause : Nat) (pl : Placing) (fmt : Nat → Nat) : (s.publish cause pl fmt).apart = s.apart := by
  have hloads (a b c d e : Nat) (t : State) : (t.wAll [(Reg.shpPOOL_SLOTS, a), (Reg.shpB_REQ, b), (Reg.shpC_REQ, c), (Reg.shpP_EST, d),
      (Reg.shpDRAM_LOAD, e)]).apart = t.apart := apart_wAll _ _ (by simp +decide)
  have hused (a b c : Nat) (t : State) : (t.wAll [(Reg.rgnUSED 0, a), (Reg.rgnUSED 1, b), (Reg.rgnUSED 2, c)]).apart = t.apart :=
    apart_wAll _ _ (by simp +decide)
  unfold State.publish
  extract_lets q hist shep s1 s2 s3 s5 b s6 s7 body s8 shep8 s9
  have h1 : s1.apart = s.apart := apart_of (on_of_regs rfl) rfl
  clear_value s1
  have h2 : s2.apart = s1.apart := view_each _ _ _ _ fun h _ t => apart_segmentMove _ _ _
  clear_value s2
  have h3 : s3.apart = s2.apart := by
    refine view_each _ _ _ _ fun x _ t => ?_
    obtain ⟨hstate, hgroup, hformat, hload⟩ := apartKey_stream x
    split
    · exact apart_wAll _ _ (by simp [hstate, hgroup, hformat, hload])
    · split <;> exact apart_wAll _ _ (by simp [hstate, hgroup, hformat, hload])
  have h7 : s7.apart = s.apart := (hused _ _ _ _).trans <| (hloads _ _ _ _ _ _).trans <| (apart_groupPublish _ _).trans <| h3.trans (h2.trans h1)
  have h9 : s9.apart = s7.apart := apart_mapNew s7 _ _ _ _
  exact (apart_xLull _).trans (h9.trans h7)

theorem bump_others (s : State) (k : Nat) : (s.bump k).others = s.others := rfl

theorem apart_bump {s t : State} (h : t.apart = s.apart) {k : Nat} (hk : apartKey k = true) : (t.bump k).apart = (s.bump k).apart := by
  refine apart_of (on_of_r fun j hj => ?_) ((bump_others t k).trans ((apart_others h).trans (bump_others s k).symm))
  rw [State.bump_r, State.bump_r, apart_r h j hj, apart_r h k hk]

theorem apart_shep (s : State) (x : Shep) : State.apart { s with shep := x } = s.apart := rfl

theorem shep_r (s : State) (x : Shep) (k : Nat) : State.r { s with shep := x } k = s.r k := rfl

theorem mapNewer_spec (s : State) (old : Nat) : (s.mapNewer old).apart = s.apart ∧
    (s.mapNewer old).r Reg.shpLAST_CAUSE = s.r Reg.shpLAST_CAUSE := by
  unfold State.mapNewer
  split
  · refine ⟨(apart_w _ Reg.shpMAP_SEQ _ (by decide)).trans (apart_shep s _), ?_⟩
    rw [State.w_r, if_neg (by decide), shep_r]
  · exact ⟨rfl, rfl⟩

/-- A re-placement counts, names its cause, and leaves the rest alone (R319). -/
theorem replaceWith_spec (s : State) (cause : Nat) (p : Placing) : (s.replaceWith cause p).apart = (s.bump Reg.shpREPLACEMENTS).apart ∧
    (s.replaceWith cause p).r Reg.shpLAST_CAUSE = cause := by
  have hpub := apart_publish s cause p s.runFormat
  unfold State.replaceWith
  dsimp only
  generalize s.publish cause p s.runFormat = t at hpub
  obtain ⟨hnewer, hcause⟩ := mapNewer_spec ((t.bump Reg.shpREPLACEMENTS).w Reg.shpLAST_CAUSE cause) (s.r Reg.shpMAP_SEQ)
  have hw : ((t.bump Reg.shpREPLACEMENTS).w Reg.shpLAST_CAUSE cause).apart = (s.bump Reg.shpREPLACEMENTS).apart :=
    (apart_w _ _ _ (by decide)).trans (apart_bump hpub (by decide))
  generalize (((t.bump Reg.shpREPLACEMENTS).w Reg.shpLAST_CAUSE cause).mapNewer (s.r Reg.shpMAP_SEQ)) = u at hnewer hcause
  refine ⟨(apart_tlyAdd _ _ _ _ _ _ _).trans (hnewer.trans hw), ?_⟩
  rw [book_r (book_tlyAdd u _ _ _ _ _ _) _ (by decide), hcause, State.w_r, if_pos rfl]

theorem replace_spec (s : State) (cause : Nat) : (s.replace cause).apart = (s.bump Reg.shpREPLACEMENTS).apart ∧
    (s.replace cause).r Reg.shpLAST_CAUSE = cause := by
  obtain ⟨hapart, hcause⟩ := replaceWith_spec (s.shed 72).rePlaced.1 cause (s.shed 72).rePlaced.2
  have hbefore : (s.shed 72).rePlaced.1.apart = s.apart := (apart_rePlaced _).trans (apart_shed _ _)
  exact ⟨hapart.trans (apart_bump hbefore (by decide)), hcause⟩

theorem replace_others (s : State) (cause : Nat) : (s.replace cause).others = s.others :=
  (apart_others (replace_spec s cause).1).trans (bump_others s _)

theorem replace_r (s : State) (cause : Nat) {k : Nat} (hk : apartKey k = true) :
    (s.replace cause).r k = if k = Reg.shpREPLACEMENTS then min 0xFFFFFFFF (s.r Reg.shpREPLACEMENTS + 1) else s.r k :=
  (apart_r (replace_spec s cause).1 k hk).trans (State.bump_r _ _ _)

end Sys2Proof.Machine
end

section
/-! PROOFS. The packet of a HEARTBEAT (R479, R481). -/

namespace Sys2Proof.Machine

/-! ## Words and bytes (R11, R12) -/

/-- The bytes of the number that some bytes stand for. -/
theorem leBytes_leNat (b : Bytes) : leBytes b.length (leNat b) = b := by
  induction b with
  | nil => rfl
  | cons x b ih =>
    have hx : x.toNat < 256 := x.isLt
    have hhead : BitVec.ofNat 8 (x.toNat + 256 * leNat b) = x := BitVec.eq_of_toNat_eq <| by
      rw [BitVec.toNat_ofNat]
      omega
    have htail : (x.toNat + 256 * leNat b) / 256 = leNat b := by omega
    rw [List.length_cons, leNat, leBytes, hhead, htail, ih]

theorem wordBytes_cons (w : Nat) (l : List Nat) : wordBytes (w :: l) = leBytes 4 w ++ wordBytes l := rfl

/-- A payload of whole words as words, and back. -/
theorem wordBytes_toWords (n : Nat) (b : Bytes) (h : b.length = 4 * n) : wordBytes (toWords b) = b ∧ (toWords b).length = n := by
  induction n generalizing b with
  | zero =>
    obtain rfl := List.length_eq_zero_iff.1 h
    exact ⟨rfl, rfl⟩
  | succ n ih =>
    match b, h with
    | w :: x :: y :: z :: u, h =>
      simp only [List.length_cons] at h
      obtain ⟨hu, hlen⟩ := ih u (by omega)
      have hword : leBytes 4 (leNat [w, x, y, z]) = [w, x, y, z] := leBytes_leNat [w, x, y, z]
      rw [toWords, wordBytes_cons, hu, hword, List.length_cons, hlen]
      exact ⟨rfl, rfl⟩

/-! ## The payload (R481) -/

section
variable (epoch : Nat) (x : HeartbeatIn)

theorem hbBytes_length : (hbBytes epoch x).length = 32 := by
  unfold hbBytes
  simp only [List.length_append, leBytes_length, padTo_length]

/-- A field of a payload behind some bytes of it. -/
theorem fld_behind (n : Nat) {o v : Nat} (a b : Bytes) (h : a.length = o) : fld o n (a ++ (leBytes n v ++ b)) = v % 256 ^ n := by
  rw [fld_append_right _ _ _ _ h.le, h, Nat.sub_self, fld_leBytes]

theorem hbBytes_epoch : fld 0 4 (hbBytes epoch x) = epoch % 2 ^ 32 := by
  unfold hbBytes
  simp only [List.append_assoc]
  exact fld_leBytes 4 epoch _

/-- What a HEARTBEAT's payload is read as (R481). -/
theorem hbOf_hbBytes : hbOf (hbBytes epoch x) =
    ⟨x.role % 2 ^ 8, x.flags % 2 ^ 8, x.leaseLeft % 2 ^ 16, x.tick % 2 ^ 64, x.handoverEpoch % 2 ^ 32, padTo 12 x.serial⟩ := by
  have hserial : ((hbBytes epoch x).drop 20).take 12 = padTo 12 x.serial := by
    unfold hbBytes
    rw [List.drop_append_of_le_length (by simp), List.drop_of_length_le (by simp), List.nil_append, List.take_of_length_le (by simp)]
  have hrole : fld 4 1 (hbBytes epoch x) = x.role % 2 ^ 8 := by
    unfold hbBytes
    simp only [List.append_assoc]
    exact fld_behind 1 (leBytes 4 epoch) _ (by simp)
  have hflags : fld 5 1 (hbBytes epoch x) = x.flags % 2 ^ 8 := by
    unfold hbBytes
    simp only [List.append_assoc]
    rw [← List.append_assoc]
    exact fld_behind 1 (leBytes 4 epoch ++ leBytes 1 x.role) _ (by simp)
  have hlease : fld 6 2 (hbBytes epoch x) = x.leaseLeft % 2 ^ 16 := by
    unfold hbBytes
    simp only [List.append_assoc]
    rw [← List.append_assoc, ← List.append_assoc]
    exact fld_behind 2 ((leBytes 4 epoch ++ leBytes 1 x.role) ++ leBytes 1 x.flags) _ (by simp)
  have htick : fld 8 8 (hbBytes epoch x) = x.tick % 2 ^ 64 := by
    unfold hbBytes
    simp only [List.append_assoc]
    rw [← List.append_assoc, ← List.append_assoc, ← List.append_assoc]
    exact fld_behind 8 (((leBytes 4 epoch ++ leBytes 1 x.role) ++ leBytes 1 x.flags) ++ leBytes 2 x.leaseLeft) _ (by simp)
  have hover : fld 16 4 (hbBytes epoch x) = x.handoverEpoch % 2 ^ 32 := by
    unfold hbBytes
    simp only [List.append_assoc]
    rw [← List.append_assoc, ← List.append_assoc, ← List.append_assoc, ← List.append_assoc]
    exact fld_behind 4 ((((leBytes 4 epoch ++ leBytes 1 x.role) ++ leBytes 1 x.flags) ++ leBytes 2 x.leaseLeft) ++ leBytes 8 x.tick) _ (by simp)
  unfold hbOf
  rw [hserial, hrole, hflags, hlease, htick, hover]

end

/-- Five flags in one byte. -/
theorem flags_bits (a b c d e : Bool) : let v := b2n a + 2 * b2n b + 4 * b2n c + 8 * b2n d + 16 * b2n e
    v % 2 ^ 8 = v ∧ bit 0 v = a ∧ bit 1 v = b ∧ bit 2 v = c ∧ bit 3 v = d ∧ bit 4 v = e := by
  revert a b c d e
  decide

/-- The packet of a HEARTBEAT checks, and carries its payload. -/
theorem hbPacket_spec (seq epoch : Nat) (x : HeartbeatIn) : let q := hbPacket seq (hbBytes epoch x)
    pktOk q 0xA1 = true ∧ q.len = 8 ∧ q.seq = seq ∧ pktData q = hbBytes epoch x := by
  obtain ⟨hwords, hlen⟩ := wordBytes_toWords 8 (hbBytes epoch x) (hbBytes_length epoch x)
  exact ⟨decide_eq_true ⟨rfl, rfl, rfl, rfl⟩, hlen, rfl, hwords⟩

/-! ## It leaves (R479) -/

/-- A message on a partner lane changes nothing but what leaves, and the number of the next one. -/
theorem partnerSend_spec (s : State) (m : PMsg) (hptx : s.ptx = []) : let u := s.partnerSend m
    u = { s with ptx := u.ptx, pair := { s.pair with txSeq := u.pair.txSeq } } ∧ SentPartner s u m := by
  unfold State.partnerSend SentPartner
  cases s.partnerLane? with
  | none => exact ⟨rfl, fun l hl => by cases hl⟩
  | some i =>
    refine ⟨rfl, fun l hl => ?_⟩
    obtain rfl := Option.some.inj hl
    exact ⟨by rw [hptx]; rfl, rfl⟩

/-- The state in which a HEARTBEAT leaves. -/
def State.beats (s : State) : State := { s with pair := { s.pair with lastHbTx := s.up } }

theorem heartbeatOut_due {s : State} (hmode : s.pair.mode = true) (hlane : s.partnerLane = true)
    (hdue : s.since s.pair.lastHbTx 100000 = true) :
    s.heartbeatOut = s.beats.partnerSend (.heartbeat (hbPacket s.pair.txSeq (hbBytes s.epoch s.ownBeat))) := if_pos ⟨hmode, hlane, hdue⟩

theorem heartbeatOut_idle {s : State} (h : ¬ (s.pair.mode = true ∧ s.partnerLane = true) ∨ s.since s.pair.lastHbTx 100000 = false) :
    s.heartbeatOut = s := by
  refine if_neg fun hc => ?_
  obtain ⟨hmode, hlane, hdue⟩ := hc
  rcases h with h | h
  · exact h ⟨hmode, hlane⟩
  · rw [hdue] at h
    cases h

theorem heartbeatOut_spec {s : State} (hmode : s.pair.mode = true) (hlane : s.partnerLane = true)
    (hdue : s.since s.pair.lastHbTx 100000 = true) (hptx : s.ptx = []) : let t := s.heartbeatOut
    let q := hbPacket s.pair.txSeq (hbBytes s.epoch s.ownBeat)
    t.regs = s.regs ∧ t.pair.lastHbTx = s.up ∧ SentPartner s t (.heartbeat q) := by
  obtain ⟨heq, hsent⟩ := partnerSend_spec s.beats (.heartbeat (hbPacket s.pair.txSeq (hbBytes s.epoch s.ownBeat))) hptx
  rw [heartbeatOut_due hmode hlane hdue]
  generalize s.beats.partnerSend (.heartbeat (hbPacket s.pair.txSeq (hbBytes s.epoch s.ownBeat))) = u at heq hsent
  have hregs : u.regs = s.regs := by rw [heq]; rfl
  have hlast : u.pair.lastHbTx = s.up := by rw [heq]; rfl
  exact ⟨hregs, hlast, hsent⟩

end Sys2Proof.Machine
end

section
/-! PROOFS. The partner connection (O47). -/

namespace Sys2Proof.Machine

/-! ## Sending to the partner -/

theorem toPartner_eq (s : State) (m : PMsg) : s.toPartner m =
    { s with ptx := (s.toPartner m).ptx, pair := { s.pair with txSeq := (s.toPartner m).pair.txSeq } } := by
  unfold State.toPartner State.partnerSend
  split
  · split <;> rfl
  · rfl

theorem partnerLane_find {s : State} (h : s.partnerLane = true) : ∃ l, s.partnerLane? = some l := by
  obtain ⟨i, hi, hup⟩ := List.any_eq_true.1 h
  exact Option.isSome_iff_exists.1 (List.find?_isSome.2 ⟨i, hi, hup⟩)

/-- A message leaves while the connection is up. -/
theorem toPartner_leaves {s : State} (m : PMsg) (hup : s.partnerUp = true) (hlane : s.partnerLane = true) :
    ∃ e ∈ (s.toPartner m).ptx, e.ty = m.type ∧ e.msg = m := by
  obtain ⟨l, hl⟩ := partnerLane_find hlane
  have heq : s.toPartner m = { s with
      ptx := s.ptx ++ [⟨l, m.type, s.pair.txSeq, m⟩], pair := { s.pair with txSeq := (s.pair.txSeq + 1) % 256 } } := by
    unfold State.toPartner State.partnerSend
    rw [if_pos hup, hl]
  rw [heq]
  exact ⟨_, List.mem_append_right _ (List.mem_singleton.2 rfl), rfl, rfl⟩

/-! ## The connection comes up (R479, R498) -/

/-- The connection as it comes up, before the placements are made afresh. -/
def State.joins (s : State) : State :=
  (State.w { s with pair := { s.pair with synced := decide (s.pair.peer.role ≠ 3) } } Reg.prPARTNER_STATE 1).event 0x0705 0 s.pair.peerEpoch

theorem joins_r (s : State) {k : Nat} (hk : k ≠ Reg.evEVENT_SEQ) : s.joins.r k = if k = Reg.prPARTNER_STATE then 1 else s.r k :=
  (event_r_ne _ _ _ _ hk).trans (State.w_r _ _ _ _)

theorem joins_parts (s : State) : s.joins.pair = { s.pair with synced := decide (s.pair.peer.role ≠ 3) } ∧ s.joins.clk = s.clk ∧
    s.joins.fac = s.fac ∧ s.joins.blobs = s.blobs := by
  unfold State.joins
  rw [event_eq]
  exact ⟨rfl, rfl, rfl, rfl⟩

/-- A bellwether tells its partner the configuration. -/
def State.tellsConfig (u : State) : State := if u.pair.authority then u.toPartner u.syncMsg else u

theorem connUp_down {s : State} (h0 : s.r Reg.prPARTNER_STATE = 0) (hmode : s.pair.mode = true) (hlane : s.partnerLane = true) :
    s.connUp = (s.joins.replace 4).tellsConfig := by
  unfold State.connUp State.joins
  exact if_pos ⟨hmode, h0, hlane⟩

theorem connUp_idle {s : State} (h : s.r Reg.prPARTNER_STATE ≠ 0) : s.connUp = s := if_neg fun hc => h hc.2.1

/-- What a connection that comes up leaves alone: the pair but for SYNCED and the partner's SEQ, and the pair's objects but
PARTNER_STATE. -/
structure Joined (s t : State) : Prop where
  pair : t.pair = { s.pair with synced := t.pair.synced, txSeq := t.pair.txSeq }
  clk : t.clk = s.clk
  fac : t.fac = s.fac
  blob : ∀ k, t.blob k = s.blob k
  reg : ∀ k, apartKey k = true → k ≠ Reg.prPARTNER_STATE → k ≠ Reg.shpREPLACEMENTS → t.r k = s.r k

theorem Joined.refl (s : State) : Joined s s := ⟨rfl, rfl, rfl, fun _ => rfl, fun _ _ _ _ => rfl⟩

theorem joined_replaced (s : State) : Joined s (s.joins.replace 4) ∧ (s.joins.replace 4).r Reg.prPARTNER_STATE = 1 := by
  obtain ⟨hpair, hclk, hfac, hblobs⟩ := joins_parts s
  obtain ⟨hpair', -, hclk', hfac', hblobs', -⟩ := others_parts (replace_others s.joins 4)
  have hr (k : Nat) (hk : apartKey k = true) : (s.joins.replace 4).r k = _ := replace_r s.joins 4 hk
  generalize s.joins.replace 4 = t at *
  refine ⟨⟨?_, hclk'.trans hclk, hfac'.trans hfac, fun k => ?_, fun k hk h1 h2 => ?_⟩, ?_⟩
  · rw [hpair', hpair]
  · unfold State.blob
    rw [hblobs', hblobs]
  · rw [hr k hk, if_neg h2, joins_r _ (apartKey_ne_eventSeq hk), if_neg h1]
  · rw [hr _ (by decide), if_neg (by decide), joins_r _ (by decide), if_pos rfl]

theorem partnerLane_of_reg {s t : State} (h : ∀ k, apartKey k = true → k ≠ Reg.prPARTNER_STATE → k ≠ Reg.shpREPLACEMENTS → t.r k = s.r k) :
    t.partnerLane = s.partnerLane := by
  have hlane (i : Nat) (hi : i < 4) : t.laneUp (88 + i) = s.laneUp (88 + i) := by
    have hkey : apartKey (Reg.laneLANE_STATE (88 + i)) = true := by
      interval_cases i <;> decide
    unfold State.laneUp
    rw [h _ hkey (by unfold Reg.laneLANE_STATE Reg.prPARTNER_STATE; omega) (by unfold Reg.laneLANE_STATE Reg.shpREPLACEMENTS; omega)]
  rw [Bool.eq_iff_iff]
  unfold State.partnerLane
  rw [List.any_eq_true, List.any_eq_true]
  exact exists_congr fun i => and_congr_right fun hi => by rw [hlane i (List.mem_range.1 hi)]

theorem syncMsg_shape (s : State) : ∃ v b c, s.syncMsg = .configSync s.epoch v b c := ⟨_, _, _, rfl⟩

theorem tellsConfig_eq (u : State) : u.tellsConfig =
    { u with ptx := u.tellsConfig.ptx, pair := { u.pair with txSeq := u.tellsConfig.pair.txSeq } } := by
  unfold State.tellsConfig
  split
  · exact toPartner_eq u _
  · rfl

theorem tellsConfig_leaves {u : State} (ha : u.pair.authority = true) (hup : u.partnerUp = true) (hlane : u.partnerLane = true) :
    ∃ e ∈ u.tellsConfig.ptx, e.ty = 0xA9 ∧ ∃ v b c, e.msg = .configSync u.epoch v b c := by
  obtain ⟨v, b, c, hsync⟩ := syncMsg_shape u
  unfold State.tellsConfig
  rw [if_pos ha]
  generalize u.syncMsg = m at hsync
  subst hsync
  obtain ⟨e, he, hty, hmsg⟩ := toPartner_leaves (.configSync u.epoch v b c) hup hlane
  exact ⟨e, he, hty, v, b, c, hmsg⟩

theorem joined_tellsConfig {s u : State} (h : Joined s u) : Joined s u.tellsConfig ∧ ∀ k, u.tellsConfig.r k = u.r k := by
  obtain ⟨hpair, hclk, hfac, hblob, hreg⟩ := h
  have heq := tellsConfig_eq u
  generalize u.tellsConfig = t at heq
  have hr (k : Nat) : t.r k = u.r k := by
    rw [heq]
    rfl
  refine ⟨⟨?_, ?_, ?_, fun k => ?_, fun k hk h1 h2 => (hr k).trans (hreg k hk h1 h2)⟩, hr⟩
  · have ht : t.pair = { u.pair with txSeq := t.pair.txSeq } := congrArg State.pair heq
    rw [ht, hpair]
  · rw [heq]; exact hclk
  · rw [heq]; exact hfac
  · rw [heq]; exact hblob k

/-- A connection that comes up; a bellwether's CONFIG_SYNC leaves. -/
theorem connUp_joins {s : State} (h0 : s.r Reg.prPARTNER_STATE = 0) (hmode : s.pair.mode = true) (hlane : s.partnerLane = true) :
    Joined s s.connUp ∧ s.connUp.r Reg.prPARTNER_STATE = 1 ∧
      (s.pair.authority = true → ∃ e ∈ s.connUp.ptx, e.ty = 0xA9 ∧ ∃ v b c, e.msg = .configSync s.epoch v b c) := by
  obtain ⟨hjoined, hup⟩ := joined_replaced s
  rw [connUp_down h0 hmode hlane]
  generalize s.joins.replace 4 = u at hjoined hup
  obtain ⟨htells, hr⟩ := joined_tellsConfig hjoined
  obtain ⟨hpair, -, -, -, hreg⟩ := hjoined
  have hmode' : u.pair.mode = true := by rw [hpair]; exact hmode
  have hpartner : u.partnerUp = true := by
    unfold State.partnerUp
    rw [hmode', hup]
    rfl
  have hepoch : u.epoch = s.epoch := hreg _ (by decide) (by decide) (by decide)
  refine ⟨htells, (hr _).trans hup, fun ha => ?_⟩
  rw [← hepoch]
  exact tellsConfig_leaves (by rw [hpair]; exact ha) hpartner ((partnerLane_of_reg hreg).trans hlane)

/-- A connection is up after a HEARTBEAT on a lane that is UP. -/
theorem connUp_spec {s : State} (hmode : s.pair.mode = true) (hlane : s.partnerLane = true) :
    Joined s s.connUp ∧ (s.r Reg.prPARTNER_STATE = 0 → s.connUp.r Reg.prPARTNER_STATE = 1 ∧
      (s.pair.authority = true → ∃ e ∈ s.connUp.ptx, e.ty = 0xA9 ∧ ∃ v b c, e.msg = .configSync s.epoch v b c)) ∧
    (s.r Reg.prPARTNER_STATE ≠ 0 → s.connUp = s) := by
  by_cases h0 : s.r Reg.prPARTNER_STATE = 0
  · obtain ⟨hjoined, hup⟩ := connUp_joins h0 hmode hlane
    exact ⟨hjoined, fun _ => hup, fun hne => absurd h0 hne⟩
  · rw [connUp_idle h0]
    exact ⟨Joined.refl s, fun h => absurd h h0, fun _ => rfl⟩

end Sys2Proof.Machine
end

section
/-! PROOFS. Messages of the partner, and its silence (O47). -/

namespace Sys2Proof.Machine

/-! ## Messages that arrive (R482, R484) -/

theorem laneUp_partnerLane {s : State} (i : Fin 4) (h : s.laneUp (88 + i) = true) : s.partnerLane = true :=
  List.any_eq_true.2 ⟨i, List.mem_range.2 i.isLt, h⟩

theorem partnerIn_deaf {s : State} {m : PartnerMsg} (h : m.valid = false ∨ ¬ (s.pair.mode = true ∧ s.laneUp (88 + m.lane) = true))
    (f : State → State) : s.partnerIn m f = s := by
  refine if_pos ?_
  rcases h with h | h
  · rw [h]
    rfl
  · rw [Bool.not_eq_true', Bool.and_assoc, Bool.and_eq_false_iff]
    exact .inr (Bool.eq_false_iff.2 fun hc => h (Bool.and_eq_true_iff.1 hc))

section
variable {s : State} {m : PartnerMsg} (hv : m.valid = true) (hlane : s.pair.mode = true ∧ s.laneUp (88 + m.lane) = true)
include hv hlane

theorem partnerIn_open (f : State → State) : s.partnerIn m f =
    if m.epoch < s.epoch then State.connUp { s with pair := { s.pair with lastHb := some s.up, peerEpoch := m.epoch } }
    else f (s.seeEpoch m.epoch false) := by
  refine if_neg ?_
  rw [hv, hlane.1, hlane.2]
  decide

/-- A stale message counts only as a heartbeat. -/
theorem partnerIn_stale (f : State → State) (he : m.epoch < s.epoch) : let t := s.partnerIn m f
    t.pair.lastHb = some s.up ∧ t.pair.peer = s.pair.peer ∧ t.pair.peerEpoch = m.epoch ∧ t.pair.authority = s.pair.authority ∧
      t.pair.storing = s.pair.storing ∧ (s.r Reg.prPARTNER_STATE = 0 → t.r Reg.prPARTNER_STATE = 1) ∧
      (s.r Reg.prPARTNER_STATE ≠ 0 → t.regs = s.regs) := by
  rw [partnerIn_open hv hlane, if_pos he]
  obtain ⟨hjoined, hdown, hidle⟩ := connUp_spec (s := { s with pair := { s.pair with lastHb := some s.up, peerEpoch := m.epoch } }) hlane.1
    (laneUp_partnerLane m.lane hlane.2)
  obtain ⟨hpair, -⟩ := hjoined
  refine ⟨?_, ?_, ?_, ?_, ?_, fun h => (hdown h).1, fun h => ?_⟩
  · rw [hpair]
  · rw [hpair]
  · rw [hpair]
  · rw [hpair]
  · rw [hpair]
  · rw [hidle h]

end

/-! ## A newer epoch (R484, R494) -/

theorem demote_spec (s : State) (e : Nat) : let t := s.demote e
    t.pair.authority = false ∧ t.pair.toggling = false ∧ t.pair.demotedSinceLapse = true ∧ t.r Reg.prROLE = 1 ∧
      t.r Reg.prDEMOTIONS = min 0xFFFFFFFF (s.r Reg.prDEMOTIONS + 1) ∧ t.epoch = s.epoch := by
  obtain ⟨hpair, hrole, hkeep, -⟩ := dropAuthority_spec s
  unfold State.demote State.epoch
  dsimp only
  rw [event_r _ _ _ _ (by decide), event_r _ _ _ _ (by decide), event_r _ _ _ _ (by decide), event_pair]
  have hdem := hkeep Reg.prDEMOTIONS (by decide) (by decide) (by decide)
  have hep := hkeep Reg.prPAIR_EPOCH (by decide) (by decide) (by decide)
  generalize s.dropAuthority = u at *
  have hparts : u.pair.authority = false ∧ u.pair.toggling = false := by
    rw [hpair]
    exact ⟨rfl, rfl⟩
  refine ⟨hparts.1, hparts.2, rfl, ?_, ?_, ?_⟩
  · rw [State.bump_r, if_neg (by decide), ← hrole]
    rfl
  · rw [State.bump_r, if_pos rfl, ← hdem]
    rfl
  · rw [State.bump_r, if_neg (by decide), ← hep]
    rfl

theorem setEpoch_spec (s : State) (e : Nat) (why : EpochFor) : (s.setEpoch e why).pair = { s.pair with storing := some (e, why) } ∧
    ∀ k, bookKey k = false → (s.setEpoch e why).r k = s.r k :=
  ⟨rfl, fun _ hk => nvmRecord_r { s with pair := { s.pair with storing := some (e, why) } } _ _ _ _ hk⟩

/-- An epoch above the highest taken is adopted, and demotes a device that holds authority or came back from a lapse. -/
theorem seeEpoch_newer {s : State} {e : Nat} (he : s.epoch < e) (hs : s.pair.storing = none) (hmode : s.pair.mode = true) :
    let t := s.seeEpoch e false
    t.pair.storing = some (e, .adopt) ∧ t.epoch = s.epoch ∧
      (s.pair.authority = true → t.pair.authority = false ∧ t.pair.toggling = false ∧ t.r Reg.prROLE = 1 ∧
        t.r Reg.prDEMOTIONS = min 0xFFFFFFFF (s.r Reg.prDEMOTIONS + 1)) ∧
      (s.r Reg.prCLAIM_LAPSED = 1 → s.pair.demotedSinceLapse = false → t.pair.demotedSinceLapse = true ∧
        t.r Reg.prDEMOTIONS = min 0xFFFFFFFF (s.r Reg.prDEMOTIONS + 1)) := by
  have hknown : s.known = s.epoch := by
    unfold State.known
    rw [hs]
  have hsee : s.seeEpoch e false = (if s.demotable then s.demote e else s).setEpoch e .adopt := by
    unfold State.seeEpoch
    rw [hknown, if_neg (Nat.not_le.2 he), hmode]
    rfl
  obtain ⟨hauth, htog, hlapse, hrole, hcount, hep⟩ := demote_spec s e
  rw [hsee]
  generalize s.demote e = d at *
  obtain ⟨hpair, hr⟩ := setEpoch_spec (if s.demotable then d else s) e .adopt
  generalize (if s.demotable then d else s).setEpoch e .adopt = t at hpair hr
  have hdem (hd : s.demotable = true) : t.pair = { d.pair with storing := some (e, .adopt) } ∧ ∀ k, bookKey k = false → t.r k = d.r k := by
    rw [if_pos hd] at hpair hr
    exact ⟨hpair, hr⟩
  refine ⟨by rw [hpair], ?_, fun ha => ?_, fun hl hd => ?_⟩
  · have hsame : (if s.demotable then d else s : State).epoch = s.epoch := by
      split
      · exact hep
      · rfl
    exact (hr _ (by decide)).trans hsame
  · obtain ⟨htp, htr⟩ := hdem (by unfold State.demotable; rw [ha]; rfl)
    rw [htp, htr _ (by decide), htr _ (by decide)]
    exact ⟨hauth, htog, hrole, hcount⟩
  · obtain ⟨htp, htr⟩ := hdem (by unfold State.demotable; rw [hl, hd]; simp)
    rw [htp, htr _ (by decide)]
    exact ⟨hlapse, hcount⟩

/-! ## HEARTBEAT (R481, R482) -/

/-- What a HEARTBEAT leaves alone once the connection is up, but for a claim that it starts. -/
structure Beaten (s t : State) : Prop where
  pair : t.pair = { s.pair with handover := t.pair.handover, handoverEpoch := t.pair.handoverEpoch, lineFault := t.pair.lineFault }
  clk : t.clk = s.clk
  ptx : t.ptx = s.ptx
  blob : ∀ k, t.blob k = s.blob k
  reg : ∀ k, bookKey k = false → t.r k = s.r k

theorem Beaten.refl (s : State) : Beaten s s := ⟨rfl, rfl, rfl, fun _ => rfl, fun _ _ => rfl⟩

theorem beaten_handover (s : State) (c : Bool) :
    Beaten s (s.when c fun t => { t with pair := { t.pair with handover := 0, handoverEpoch := 0 } }) := by
  unfold State.when
  split
  · exact ⟨rfl, rfl, rfl, fun _ => rfl, fun _ _ => rfl⟩
  · exact Beaten.refl s

theorem beaten_lineFault {s t : State} (h : Beaten s t) : Beaten s t.lineFaultCheck := by
  obtain ⟨hpair, hclk, hptx, hblob, hreg⟩ := h
  have hfault (x : Bool) : Beaten s { t with pair := { t.pair with lineFault := x } } := by
    refine ⟨?_, hclk, hptx, hblob, hreg⟩
    show ({ t.pair with lineFault := x } : Pair) = _
    rw [hpair]
  unfold State.lineFaultCheck
  split
  · split
    · obtain ⟨hpair, hclk, hptx, hblob, hreg⟩ := hfault true
      refine ⟨by rw [event_pair]; exact hpair, ?_, ?_, fun k => ?_, fun k hk => (event_r _ _ _ _ hk).trans (hreg k hk)⟩
      · rw [event_eq]; exact hclk
      · rw [event_eq]; exact hptx
      · rw [event_eq]; exact hblob k
    · exact ⟨hpair, hclk, hptx, hblob, hreg⟩
  · exact hfault false

/-- What a claim leaves of the partner's newest HEARTBEAT, and of what leaves for it. -/
theorem startClaim_keeps (s : State) (e : Nat) (grant : Bool) : let t := s.startClaim e grant
    (t.pair.lastHb, t.pair.peer, t.pair.peerEpoch, t.blobs, t.ptx) = (s.pair.lastHb, s.pair.peer, s.pair.peerEpoch, s.blobs, s.ptx) ∧
      t.r Reg.prPARTNER_STATE = s.r Reg.prPARTNER_STATE := by
  refine ⟨?_, (startClaim_r s e grant (by decide)).trans rfl⟩
  unfold State.startClaim
  dsimp only
  split <;> rfl

/-- The claim that a HEARTBEAT may start. -/
def State.claimBy (s : State) (yields : Bool) (e : Nat) : State :=
  if yields ∧ s.mayClaim ∧ s.pair.handover ≠ 3 then s.yieldClaim e else s.tryClaim

theorem claimBy_cases (s : State) (yields : Bool) (e : Nat) : s.claimBy yields e = s ∨ ∃ e' grant, s.claimBy yields e = s.startClaim e' grant := by
  unfold State.claimBy State.yieldClaim State.tryClaim
  split
  · exact .inr ⟨_, _, rfl⟩
  · split
    · split
      · exact .inr ⟨_, _, rfl⟩
      · exact .inl rfl
    · exact .inl rfl

/-- A device that may not claim starts no claim. -/
theorem claimBy_none {s : State} (yields : Bool) (e : Nat) (h : s.mayClaim = false) : s.claimBy yields e = s := by
  unfold State.claimBy
  rw [if_neg fun hc => by rw [h] at hc; cases hc.2.1]
  exact tryClaim_waits fun ⟨_, _, _, hm⟩ => by rw [h] at hm; cases hm

/-- The state in which a HEARTBEAT has come. -/
def State.hearsBeat (s : State) (m : PartnerMsg) (i : HeartbeatIn) : State :=
  State.wBlob { s with pair := { s.pair with lastHb := some s.up, peer := i, peerEpoch := m.epoch } } Reg.prPARTNER_SERIAL i.serial

theorem hearsBeat_serial (s : State) (m : PartnerMsg) (i : HeartbeatIn) : (s.hearsBeat m i).blob Reg.prPARTNER_SERIAL = i.serial := by
  refine (tget_tset _ _ _ _ _).trans ?_
  exact if_pos rfl

/-- A HEARTBEAT after the connection is up: one that has yielded, the fault of the line, and the lease of R493. -/
def State.beatTaken (s : State) (m : PartnerMsg) (i : HeartbeatIn) : State :=
  let s4 := (s.when (decide (i.role = 3 ∧ s.pair.handover = 3)) fun t => { t with pair := { t.pair with handover := 0, handoverEpoch := 0 } }).lineFaultCheck
  s4.when (bit 0 i.flags && decide (m.epoch = s4.epoch)) State.leaseRenew

theorem heartbeatIn_eq (s : State) (m : PartnerMsg) (i : HeartbeatIn) :
    s.heartbeatIn m i = ((s.hearsBeat m i).connUp.beatTaken m i).claimBy (bit 0 i.flags) m.epoch := rfl

theorem beatTaken_spec (s : State) (m : PartnerMsg) (i : HeartbeatIn) : let t := s.beatTaken m i
    (t.pair.lastHb, t.pair.peer, t.pair.peerEpoch, t.ptx) = (s.pair.lastHb, s.pair.peer, s.pair.peerEpoch, s.ptx) ∧
      (∀ k, t.blob k = s.blob k) ∧ t.r Reg.prPARTNER_STATE = s.r Reg.prPARTNER_STATE ∧ t.pair.authority = s.pair.authority ∧
      (bit 0 i.flags = true → m.epoch = s.epoch → s.pair.mode = true → s.pair.authority = true → s.pair.leaseSafe = 0 →
        t.pair.leaseEnd = some (s.up + 500000000)) := by
  have hbeaten : Beaten s _ := beaten_lineFault (beaten_handover s (decide (i.role = 3 ∧ s.pair.handover = 3)))
  unfold State.beatTaken
  dsimp only
  generalize State.lineFaultCheck _ = u at hbeaten
  obtain ⟨hpair, hclk, hptx, hblob, hreg⟩ := hbeaten
  have hepoch : u.epoch = s.epoch := hreg _ (by decide)
  have hup : u.up = s.up := congrArg Clk.up hclk
  have hrenew (v : State) : v.leaseRenew = v ∨ v.leaseRenew = { v with pair := { v.pair with leaseEnd := some (v.up + 500000000) } } := by
    unfold State.leaseRenew State.when
    split
    · exact .inr rfl
    · exact .inl rfl
  have hsteps : u.when (bit 0 i.flags && decide (m.epoch = u.epoch)) State.leaseRenew = u ∨
      u.when (bit 0 i.flags && decide (m.epoch = u.epoch)) State.leaseRenew = { u with pair := { u.pair with leaseEnd := some (u.up + 500000000) } } := by
    unfold State.when
    split
    · exact hrenew u
    · exact .inl rfl
  refine ⟨?_, fun k => ?_, ?_, ?_, fun hb he hm ha hs => ?_⟩
  · rcases hsteps with h | h <;> rw [h, hpair, hptx]
  · rcases hsteps with h | h <;> rw [h] <;> exact hblob k
  · rcases hsteps with h | h <;> rw [h] <;> exact hreg _ (by decide)
  · rcases hsteps with h | h <;> rw [h, hpair]
  · have hall : u.pair.mode = true ∧ u.pair.authority = true ∧ u.pair.leaseSafe = 0 := by
      rw [hpair]
      exact ⟨hm, ha, hs⟩
    have hlease : u.leaseRenew = { u with pair := { u.pair with leaseEnd := some (u.up + 500000000) } } := by
      unfold State.leaseRenew State.when
      rw [hall.1, hall.2.1, hall.2.2]
      rfl
    rw [hb, hepoch, he, decide_eq_true rfl]
    rw [show u.when (true && true) State.leaseRenew = u.leaseRenew from rfl, hlease, hup]

/-- A HEARTBEAT of the device's own epoch. -/
theorem heartbeatIn_spec {s : State} {m : PartnerMsg} (i : HeartbeatIn) (hmode : s.pair.mode = true) (hlane : s.partnerLane = true)
    (he : m.epoch = s.epoch) : let t := s.heartbeatIn m i
    t.pair.lastHb = some s.up ∧ t.pair.peer = i ∧ t.pair.peerEpoch = m.epoch ∧ t.blob Reg.prPARTNER_SERIAL = i.serial ∧
      (s.r Reg.prPARTNER_STATE = 0 → t.r Reg.prPARTNER_STATE = 1 ∧
        (s.pair.authority = true → ∃ e ∈ t.ptx, e.ty = 0xA9 ∧ ∃ v b c, e.msg = .configSync s.epoch v b c)) ∧
      (bit 0 i.flags = true → s.pair.authority = true → s.pair.leaseSafe = 0 → t.pair.leaseEnd = some (s.up + 500000000)) := by
  obtain ⟨hjoined, hdown, -⟩ := connUp_spec (s := s.hearsBeat m i) hmode hlane
  obtain ⟨hpair, hclk, -, hblob, hreg⟩ := hjoined
  have hserial := (hblob _).trans (hearsBeat_serial s m i)
  have hup : (s.hearsBeat m i).connUp.up = s.up := congrArg Clk.up hclk
  have hepoch : (s.hearsBeat m i).connUp.epoch = s.epoch := hreg Reg.prPAIR_EPOCH (by decide) (by decide) (by decide)
  have hdown' : s.r Reg.prPARTNER_STATE = 0 → (s.hearsBeat m i).connUp.r Reg.prPARTNER_STATE = 1 ∧
    (s.pair.authority = true → ∃ e ∈ (s.hearsBeat m i).connUp.ptx, e.ty = 0xA9 ∧ ∃ v b c, e.msg = .configSync s.epoch v b c) := hdown
  have hparts : (s.hearsBeat m i).connUp.pair.lastHb = some s.up ∧ (s.hearsBeat m i).connUp.pair.peer = i ∧
      (s.hearsBeat m i).connUp.pair.peerEpoch = m.epoch ∧ (s.hearsBeat m i).connUp.pair.mode = true ∧
      (s.hearsBeat m i).connUp.pair.authority = s.pair.authority ∧ (s.hearsBeat m i).connUp.pair.leaseSafe = s.pair.leaseSafe := by
    rw [hpair]
    exact ⟨rfl, rfl, rfl, hmode, rfl, rfl⟩
  rw [heartbeatIn_eq]
  generalize (s.hearsBeat m i).connUp = u at *
  obtain ⟨hlast, hpeer, hpe, hmode', hauth, hsafe⟩ := hparts
  obtain ⟨hbeat, hblob', hstate, hauth', hlease⟩ := beatTaken_spec u m i
  generalize u.beatTaken m i = v at *
  obtain ⟨hvlast, hvpeer, hvpe, hvptx⟩ : v.pair.lastHb = u.pair.lastHb ∧ v.pair.peer = u.pair.peer ∧ v.pair.peerEpoch = u.pair.peerEpoch ∧
      v.ptx = u.ptx := by simpa only [Prod.mk.injEq] using hbeat
  have hclaim : let t := v.claimBy (bit 0 i.flags) m.epoch
      (t.pair.lastHb, t.pair.peer, t.pair.peerEpoch, t.blobs, t.ptx) = (v.pair.lastHb, v.pair.peer, v.pair.peerEpoch, v.blobs, v.ptx) ∧
        t.r Reg.prPARTNER_STATE = v.r Reg.prPARTNER_STATE := by
    rcases claimBy_cases v (bit 0 i.flags) m.epoch with h | ⟨e', grant, h⟩ <;> rw [h]
    · exact ⟨rfl, rfl⟩
    · exact startClaim_keeps v e' grant
  have hnone (ha : s.pair.authority = true) : v.claimBy (bit 0 i.flags) m.epoch = v := claimBy_none _ _ <| by
    have hva : v.pair.authority = true := by rw [hauth', hauth, ha]
    unfold State.mayClaim State.follower
    rw [hva]
    simp
  generalize v.claimBy (bit 0 i.flags) m.epoch = t at hclaim hnone
  obtain ⟨hkept, htstate⟩ := hclaim
  obtain ⟨htlast, htpeer, htpe, htblobs, htptx⟩ : t.pair.lastHb = v.pair.lastHb ∧ t.pair.peer = v.pair.peer ∧ t.pair.peerEpoch = v.pair.peerEpoch ∧
      t.blobs = v.blobs ∧ t.ptx = v.ptx := by simpa only [Prod.mk.injEq] using hkept
  refine ⟨htlast.trans (hvlast.trans hlast), htpeer.trans (hvpeer.trans hpeer), htpe.trans (hvpe.trans hpe), ?_, fun h0 => ?_, fun hb ha hs => ?_⟩
  · have hblobs : t.blob Reg.prPARTNER_SERIAL = v.blob Reg.prPARTNER_SERIAL := by
      unfold State.blob
      rw [htblobs]
    exact hblobs.trans ((hblob' _).trans hserial)
  · obtain ⟨hone, hsync⟩ := hdown' h0
    refine ⟨htstate.trans (hstate.trans hone), fun ha => ?_⟩
    rw [htptx, hvptx]
    exact hsync ha
  · rw [hnone ha, hlease hb (he.trans hepoch.symm) hmode' (hauth.trans ha) (hsafe.trans hs), hup]

/-! ## Silence (R479) -/

theorem pair_r (s : State) (x : Pair) (k : Nat) : State.r { s with pair := x } k = s.r k := rfl

/-- The connection as it goes down, before the placements are made afresh. -/
def State.departs (s : State) : State := (State.w { s with pair := { s.pair with synced := false } } Reg.prPARTNER_STATE 0).event 0x0704 0 0

theorem departs_r (s : State) {k : Nat} (hk : k ≠ Reg.evEVENT_SEQ) : s.departs.r k = if k = Reg.prPARTNER_STATE then 0 else s.r k := by
  unfold State.departs
  rw [event_r_ne _ _ _ _ hk, State.w_r, pair_r]

theorem departs_pair (s : State) : s.departs.pair = { s.pair with synced := false } := event_pair _ _ _ _

theorem connDown_eq {s : State} (h1 : s.r Reg.prPARTNER_STATE = 1) : s.connDown = (s.departs.replace 4).peerLost := by
  unfold State.connDown State.departs
  exact if_pos h1

theorem connDown_spec {s : State} (h1 : s.r Reg.prPARTNER_STATE = 1) : s.connDown.r Reg.prPARTNER_STATE = 0 ∧
    s.connDown.pair = { s.pair with synced := false, lostSaid := s.connDown.pair.lostSaid } ∧
    s.connDown.r Reg.shpREPLACEMENTS = min 0xFFFFFFFF (s.r Reg.shpREPLACEMENTS + 1) := by
  have hstate := replace_r s.departs 4 (k := Reg.prPARTNER_STATE) (by decide)
  have hcount := replace_r s.departs 4 (k := Reg.shpREPLACEMENTS) (by decide)
  have hpair := (others_parts (replace_others s.departs 4)).1
  rw [if_neg (by decide), departs_r _ (by decide), if_pos rfl] at hstate
  rw [if_pos rfl, departs_r _ (by decide), if_neg (by decide)] at hcount
  rw [departs_pair] at hpair
  rw [connDown_eq h1, peerLost_r _ (by decide), peerLost_r _ (by decide)]
  have hlost := peerLost_pair (s.departs.replace 4)
  rw [hpair] at hlost
  exact ⟨hstate, hlost, hcount⟩

theorem partnerSilent_down {s : State} (h : ∀ x, s.pair.lastHb = some x → s.since x 1000000 = true) : s.partnerSilent = s.connDown := by
  unfold State.partnerSilent
  split
  · next x hx => exact if_pos (h x hx)
  · rfl

theorem partnerSilent_idle {s : State} {x : Nat} (hx : s.pair.lastHb = some x) (h : s.since x 1000000 = false) : s.partnerSilent = s := by
  unfold State.partnerSilent
  rw [hx]
  exact if_neg (by rw [h]; decide)

end Sys2Proof.Machine
end

section
/-! PROOFS. The partner connection as a whole (O47). -/

namespace Sys2Proof.Machine

/-- Each message of the partner is taken under its envelope. -/
theorem partner_exec (dt key tag tick code : Nat) (m : PartnerMsg) (p : HeadPkt) (j : SetIn) (h : Fin 32) (d : Bytes) (part : OffsPart)
    (l1 l2 : List DiagEntry) (vals zs : List (Nat × Nat)) (blocks : List (Nat × Bytes)) (sets : List SetIn) (s : State) :
    ∀ c ∈ [(Instr.heartbeat dt m p, hbEnvelope m p), (.demands dt m tick zs, m), (.objFwd dt m key d, m), (.armedSet dt m j, m),
      (.offsets dt m h tag part, m), (.diagState dt m l1 l2, m), (.candidate dt m vals, m), (.verdict dt m code, m),
      (.configSync dt m vals blocks sets, m)],
    c.2.lane = m.lane ∧ ∃ f, exec c.1 s = .next ((s.advance dt).partnerIn c.2 f) := by
  simp only [List.forall_mem_cons, List.not_mem_nil, false_imp_iff, implies_true, and_true, true_and]
  exact ⟨⟨rfl, _, rfl⟩, ⟨_, rfl⟩, ⟨_, rfl⟩, ⟨_, rfl⟩, ⟨_, rfl⟩, ⟨_, rfl⟩, ⟨_, rfl⟩, ⟨_, rfl⟩, ⟨_, rfl⟩⟩

/-- A CANDIDATE changes the pair only in the partner's SEQ. -/
theorem candidateIn_parts (s : State) (vals : List (Nat × Nat)) :
    (s.candidateIn vals).pair = { s.pair with txSeq := (s.candidateIn vals).pair.txSeq } ∧ ∀ k, (s.candidateIn vals).r k = s.r k := by
  have heq : s.candidateIn vals = { s with
      ptx := (s.candidateIn vals).ptx, pair := { s.pair with txSeq := (s.candidateIn vals).pair.txSeq } } := toPartner_eq s _
  generalize s.candidateIn vals = t at heq
  have hr (k : Nat) : t.r k = s.r k := by
    rw [heq]
    rfl
  exact ⟨congrArg State.pair heq, hr⟩

end Sys2Proof.Machine

open Sys2Proof Sys2Proof.Machine

/-- Settles O47: what is no message, a stale one, a newer epoch, HEARTBEAT in and out, and silence. -/
theorem partnerConnection : Obligations.PartnerConnection := by
  intro dt key tag tick code m p j h d part l1 l2 vals zs blocks sets s a hb i lane tx
  refine ⟨fun c hc => ?_, fun hv hlane he hs => ?_, fun hh => ?_, fun htx hdue => ?_, fun hidle => ?_, fun h1 hlate => ?_, fun x hx hearly => ?_⟩
  · obtain ⟨hport, f, hexec⟩ := partner_exec dt key tag tick code m p j h d part l1 l2 vals zs blocks sets s c hc
    refine ⟨fun hdeaf => ⟨_, hexec, partnerIn_deaf ?_ f⟩, fun hv hlane he => ⟨_, hexec, partnerIn_stale hv ?_ f he⟩⟩
    · rw [hport]
      exact hdeaf
    · rw [hport]
      exact hlane
  · have hin : a.partnerIn m (fun t => t.candidateIn vals) = (a.seeEpoch m.epoch false).candidateIn vals :=
      (partnerIn_open hv hlane _).trans (if_neg (Nat.not_lt.2 he.le))
    obtain ⟨hstore, hep, hauth, hlapse⟩ := seeEpoch_newer he hs hlane.1
    refine ⟨_, congrArg Host.Outcome.next hin, ?_⟩
    generalize a.seeEpoch m.epoch false = u at *
    obtain ⟨hpair, hr⟩ := candidateIn_parts u vals
    unfold State.epoch
    rw [hpair, hr, hr, hr]
    exact ⟨hstore, hep, hauth, hlapse⟩
  · have hin : a.partnerIn hb (fun t => t.heartbeatIn hb i) = a.heartbeatIn hb i := partnerIn_hears hh _
    obtain ⟨-, hmode, hlane, hep⟩ := hh
    exact ⟨_, congrArg Host.Outcome.next hin, heartbeatIn_spec i hmode (laneUp_partnerLane hb.lane hlane) hep⟩
  · obtain ⟨hregs, hlast, hsent⟩ := heartbeatOut_spec htx.1 htx.2 hdue rfl
    obtain ⟨hok, hlen, hseq, hdata⟩ := hbPacket_spec a.pair.txSeq a.epoch a.ownBeat
    obtain ⟨hflags, h0, h1, h2, h3, h4⟩ := flags_bits a.yields a.masterOk (decide (a.r Reg.opDEVICE_STATE = stRUN)) a.pair.toggling a.d2d.lost
    refine ⟨_, rfl, hregs, hlast, _, hsent, hok, hlen, hseq, ?_, ?_⟩
    · rw [hdata, hbBytes_epoch]
    · rw [hdata, hbOf_hbBytes]
      have hbits (n : Nat) : bit n (a.hbFlags % 2 ^ 8) = bit n a.hbFlags := congrArg (bit n) hflags
      exact ⟨rfl, (hbits 0).trans h0, (hbits 1).trans h1, (hbits 2).trans h2, (hbits 3).trans h3, (hbits 4).trans h4, rfl, rfl, rfl,
        padTo_of_eq 12 _ (padTo_length 12 _)⟩
  · exact ⟨_, congrArg Host.Outcome.next (heartbeatOut_idle hidle), rfl⟩
  · exact ⟨_, congrArg Host.Outcome.next (partnerSilent_down hlate), connDown_spec h1⟩
  · exact ⟨_, congrArg Host.Outcome.next (partnerSilent_idle hx hearly), rfl⟩
end

section
/-! PROOFS. What a soft stop leaves of faults, observations and causes, and DIAG_STATE (O48). -/

namespace Sys2Proof.Machine

/-- CH_FAULT of the channels, BANK_FAULT and STOP_CAUSE of the banks. -/
def diagKey (k : Nat) : Bool :=
  decide ((0x540000 ≤ k ∧ k < 0x564000 ∧ k % 768 = 513) ∨ (0x500000 ≤ k ∧ k < 0x540000 ∧ (k % 2048 = 0x609 ∨ k % 2048 = 5)))

/-- Faults, causes, observations and the authority of the device. -/
def State.diagSide (s : State) : (Nat → Nat) × (Nat → Nat × Nat × Nat) × (Nat → Nat × Nat) × Bool × Bool :=
  (s.on diagKey, (fun n => ((s.chan n).obs, (s.chan n).obsN, (s.chan n).curN)), (fun b => ((s.bank b).obs, (s.bank b).obsN)),
    s.pair.mode, s.pair.authority)

theorem diagSide_of {s t : State} (hr : t.on diagKey = s.on diagKey)
    (hc : ∀ n, ((t.chan n).obs, (t.chan n).obsN, (t.chan n).curN) = ((s.chan n).obs, (s.chan n).obsN, (s.chan n).curN))
    (hb : ∀ b, ((t.bank b).obs, (t.bank b).obsN) = ((s.bank b).obs, (s.bank b).obsN))
    (hp : (t.pair.mode, t.pair.authority) = (s.pair.mode, s.pair.authority)) : t.diagSide = s.diagSide :=
  Prod.ext hr (Prod.ext (funext hc) (Prod.ext (funext hb) hp))

theorem diagSide_r {s t : State} (h : t.diagSide = s.diagSide) (k : Nat) (hk : diagKey k = true) : t.r k = s.r k := on_r (Prod.mk.inj h).1 k hk

theorem diagSide_chan {s t : State} (h : t.diagSide = s.diagSide) (n : Nat) :
    ((t.chan n).obs, (t.chan n).obsN, (t.chan n).curN) = ((s.chan n).obs, (s.chan n).obsN, (s.chan n).curN) :=
  congrFun (Prod.mk.inj (Prod.mk.inj h).2).1 n

theorem diagSide_bank {s t : State} (h : t.diagSide = s.diagSide) (b : Nat) :
    ((t.bank b).obs, (t.bank b).obsN) = ((s.bank b).obs, (s.bank b).obsN) := congrFun (Prod.mk.inj (Prod.mk.inj (Prod.mk.inj h).2).2).1 b

theorem diagSide_pair {s t : State} (h : t.diagSide = s.diagSide) : (t.pair.mode, t.pair.authority) = (s.pair.mode, s.pair.authority) :=
  (Prod.mk.inj (Prod.mk.inj (Prod.mk.inj h).2).2).2

/-! ## Single steps -/

theorem diagSide_w (s : State) (k v : Nat) (h : diagKey k = false) : (s.w k v).diagSide = s.diagSide :=
  diagSide_of (on_w _ _ _ h) (fun _ => rfl) (fun _ => rfl) rfl

theorem diagSide_wAll (s : State) (l : List (Nat × Nat)) (h : ∀ e ∈ l, diagKey e.1 = false) : (s.wAll l).diagSide = s.diagSide := by
  refine diagSide_of (on_wAll _ _ h) ?_ ?_ ?_ <;> rw [State.wAll_eq]
  · exact fun _ => rfl
  · exact fun _ => rfl

/-- A bank with the observations that it had. -/
theorem diagSide_wBank (s : State) (b : Nat) (x : Bank) (h : (x.obs, x.obsN) = ((s.bank b).obs, (s.bank b).obsN)) :
    (s.wBank b x).diagSide = s.diagSide := by
  refine diagSide_of rfl (fun _ => rfl) (fun j => ?_) rfl
  rw [State.wBank_bank]
  split
  · next hj => rw [hj]; exact h
  · rfl

/-- A channel with the observations that it had. -/
theorem diagSide_wChan (s : State) (n : Nat) (x : Chan) (h : (x.obs, x.obsN, x.curN) = ((s.chan n).obs, (s.chan n).obsN, (s.chan n).curN)) :
    (s.wChan n x).diagSide = s.diagSide := by
  refine diagSide_of rfl (fun j => ?_) (fun _ => rfl) rfl
  rw [State.wChan_chan]
  split
  · next hj => rw [hj]; exact h
  · rfl

/-- The channels' own keys but CH_FAULT. -/
theorem diagKey_chan {k : Nat} (h : 0x540000 ≤ k ∧ k % 768 ≠ 513) : diagKey k = false := decide_eq_false (by omega)

theorem diagKey_not_book {k : Nat} (h : diagKey k = true) : bookKey k = false :=
  bookKey_of_mid (by have := of_decide_eq_true h; omega) (by have := of_decide_eq_true h; omega)

/-- The end of a test pulse. -/
theorem diagSide_testDone (s : State) (n v : Nat) (ok : Bool) : (s.actDone (Reg.chTEST_PULSE n) v ok).diagSide = s.diagSide := by
  refine diagSide_of (on_of_r fun k hk => actDone_r_ne s _ v ok k (diagKey_not_book hk) fun hj => ?_) ?_ ?_ ?_
  · have hrange := of_decide_eq_true hk
    have hstep : Reg.dbgSTEP_RESULT = 0x600008 := rfl
    unfold resultOf Reg.chTEST_PULSE at hj
    dsimp only at hj
    split_ifs at hj <;> obtain rfl := Option.some.inj hj <;> omega
  · rw [actDone_eq]
    exact fun _ => rfl
  · rw [actDone_eq]
    exact fun _ => rfl
  · rw [actDone_pair]

/-! ## A soft stop (R260) -/

theorem diagSide_queuePub (s : State) {b : Nat} (hb : b < 24) : (s.queuePub b).diagSide = s.diagSide := by
  refine (view_each State.diagSide _ _ _ fun n _ t => view_when State.diagSide t _ _ ?_).trans ?_
  · exact diagSide_w _ _ _ (diagKey_chan (by unfold Reg.chsCH_STATE; omega))
  · exact diagSide_w _ _ _ (decide_eq_false (by unfold Reg.bstQUEUE_DEPTH; omega))

theorem diagSide_leaveArmed (s : State) {b : Nat} (hb : b < 24) : (s.leaveArmed b).diagSide = s.diagSide := by
  have htests : (s.each ((s.bank b).queue.filter fun q => q.test) fun q t => t.actDone (Reg.chTEST_PULSE q.ch) 4 false).diagSide = s.diagSide :=
    view_each State.diagSide _ _ _ fun q _ t => diagSide_testDone t _ _ _
  unfold State.leaveArmed
  dsimp only
  generalize s.each ((s.bank b).queue.filter fun q => q.test) _ = t at htests
  refine (diagSide_queuePub _ hb).trans ((view_each State.diagSide (t.wBank b _) _ _ ?_).trans ((diagSide_wBank t b _ (by rfl)).trans htests))
  intro n _ u
  exact (diagSide_wChan (u.w (Reg.chsCARRY n) 0) n _ (by rfl)).trans (diagSide_w u _ _ (diagKey_chan (by unfold Reg.chsCARRY; omega)))

theorem diagSide_drive (s : State) (n : Nat) (ls hb hh : Bool) : (s.drive n ls hb hh).diagSide = s.diagSide := by
  have hbank (x : Bank) (h : (x.obs, x.obsN) = ((s.bank (n / 8)).obs, (s.bank (n / 8)).obsN)) := diagSide_wBank s (n / 8) x h
  unfold State.drive
  extract_lets b x hs y s1
  have h1 : s1.diagSide = s.diagSide := hbank y rfl
  clear_value s1
  split
  · exact (diagSide_wChan s1 n _ (by rfl)).trans h1
  · exact h1

theorem diagSide_startDecay (s : State) (n : Nat) : (s.startDecay n none).diagSide = s.diagSide := by
  unfold State.startDecay
  dsimp only
  rw [diagSide_drive, diagSide_w _ _ _ (diagKey_chan (by unfold Reg.chsCH_STATE; omega)), State.lastOn,
    diagSide_w _ _ _ (diagKey_chan (by unfold Reg.chsLAST_ON; omega))]
  exact diagSide_wBank _ _ _ (by rfl)

theorem diagSide_softReact (s : State) (b : Nat) : (s.softReact b).diagSide = s.diagSide := by
  unfold State.softReact
  dsimp only
  split
  · split
    · exact (diagSide_startDecay _ _).trans (diagSide_wBank _ _ _ (by rfl))
    · rfl
  · refine (view_each State.diagSide _ _ _ fun n _ t => diagSide_wAll t _ ?_).trans (diagSide_wBank s b _ (by rfl))
    simp only [List.mem_cons, List.not_mem_nil, or_false, forall_eq_or_imp, forall_eq]
    exact ⟨diagKey_chan (by unfold Reg.chsCH_STATE; omega), diagKey_chan (by unfold Reg.chsI_SET; omega),
      diagKey_chan (by unfold Reg.chsDUTY; omega)⟩

/-- A soft stop for another reason than a message of the die-to-die link sets its cause, and leaves every other fault, cause and
observation. -/
theorem diagSide_bankStop (s : State) {b : Nat} (hb : b < 24) :
    (s.bankStop b 5 false).diagSide = (s.w (Reg.bkSTOP_CAUSE b) (setBit 5 true (s.r (Reg.bkSTOP_CAUSE b)))).diagSide := by
  have hkey (k : Nat) (h : 0x500000 ≤ k ∧ k < 0x540000 ∧ k % 2048 ≠ 0x609 ∧ k % 2048 ≠ 5) : diagKey k = false :=
    decide_eq_false (by omega)
  unfold State.bankStop
  extract_lets old s0 s1 x s2 s3 s4 new s5
  have h2 : s2.diagSide = s1.diagSide := diagSide_wBank s1 b _ (by rfl)
  split
  · exact h2
  · have h3 : s3.diagSide = s2.diagSide := diagSide_softReact s2 b
    have h4 : s4.diagSide = s3.diagSide := view_when State.diagSide s3 _ _ (diagSide_leaveArmed s3 hb)
    have h5 : s5.diagSide = s4.diagSide := diagSide_w _ _ _ (hkey _ (by unfold Reg.bkBANK_STATE; omega))
    refine (view_when State.diagSide s5 _ _ (diagSide_w _ _ _ (hkey _ (by unfold Reg.bstSTOPS; omega)))).trans ?_
    exact h5.trans (h4.trans (h3.trans h2))

end Sys2Proof.Machine
end

section
/-! PROOFS. DIAG_STATE and OFFSETS on a follower (O48). -/

namespace Sys2Proof.Machine

/-! ## DIAG_STATE (R260, R263, R499) -/

/-- A channel takes the state of its entry. -/
def State.mirrorChan (chs : List DiagEntry) (n : Nat) (t : State) : State :=
  let e := diagEntry chs n
  (t.w (Reg.chdCH_FAULT n) e.fault).wChan n { t.chan n with obs := e.obs, obsN := e.obsN, curN := e.curN }

/-- A bank takes the fault and observations of its entry. -/
def State.mirrorBank (banks : List DiagEntry) (b : Nat) (t : State) : State :=
  let e := diagEntry banks b
  (t.w (Reg.bdgBANK_FAULT b) e.fault).wBank b { t.bank b with obs := e.obs, obsN := e.obsN }

/-- And stops where its fault is new. -/
def State.mirrorStop (banks : List DiagEntry) (b : Nat) (t : State) : State :=
  (t.mirrorBank banks b).when (decide (t.r (Reg.bdgBANK_FAULT b) = 0 ∧ (diagEntry banks b).fault ≠ 0)) fun v => v.bankStop b 5 false

theorem diagIn_follower {s : State} (hf : s.follower = true) (chs banks : List DiagEntry) :
    s.diagIn chs banks = (s.each (List.range 192) (State.mirrorChan chs)).each bankNos (State.mirrorStop banks) :=
  if_neg (by rw [hf]; decide)

/-- Fault and observations of a channel. -/
def State.chanDiag (n : Nat) (t : State) : Nat × Nat × Nat × Nat := (t.r (Reg.chdCH_FAULT n), (t.chan n).obs, (t.chan n).obsN, (t.chan n).curN)

/-- Fault, stop causes and observations of a bank, and the authority. -/
def State.bankDiag (b : Nat) (t : State) : Nat × Nat × (Nat × Nat) × Bool × Bool :=
  (t.r (Reg.bdgBANK_FAULT b), t.r (Reg.bkSTOP_CAUSE b), ((t.bank b).obs, (t.bank b).obsN), t.pair.mode, t.pair.authority)

theorem diagKey_chFault {n : Nat} (h : n < 192) : diagKey (Reg.chdCH_FAULT n) = true := decide_eq_true (by unfold Reg.chdCH_FAULT; omega)
theorem diagKey_bankFault {b : Nat} (h : b < 24) : diagKey (Reg.bdgBANK_FAULT b) = true :=
  decide_eq_true (by unfold Reg.bdgBANK_FAULT; omega)
theorem diagKey_stopCause {b : Nat} (h : b < 24) : diagKey (Reg.bkSTOP_CAUSE b) = true := decide_eq_true (by unfold Reg.bkSTOP_CAUSE; omega)

theorem chanDiag_of_diagSide {s t : State} (h : t.diagSide = s.diagSide) {n : Nat} (hn : n < 192) : t.chanDiag n = s.chanDiag n := by
  have hobs := diagSide_chan h n
  unfold State.chanDiag
  rw [diagSide_r h _ (diagKey_chFault hn)]
  exact congrArg _ hobs

theorem bankDiag_of_diagSide {s t : State} (h : t.diagSide = s.diagSide) {b : Nat} (hb : b < 24) : t.bankDiag b = s.bankDiag b := by
  have hobs := diagSide_bank h b
  obtain ⟨hmode, hauth⟩ := Prod.mk.inj (diagSide_pair h)
  unfold State.bankDiag
  rw [diagSide_r h _ (diagKey_bankFault hb), diagSide_r h _ (diagKey_stopCause hb), hobs, hmode, hauth]

/-! ### Channels -/

theorem chanDiag_mirrorChan (chs : List DiagEntry) (n p : Nat) (t : State) : (t.mirrorChan chs n).chanDiag p =
    if p = n then ((diagEntry chs n).fault, (diagEntry chs n).obs, (diagEntry chs n).obsN, (diagEntry chs n).curN) else t.chanDiag p := by
  have hr : (t.mirrorChan chs n).r (Reg.chdCH_FAULT p) = if p = n then (diagEntry chs n).fault else t.r (Reg.chdCH_FAULT p) :=
    (State.w_r t (Reg.chdCH_FAULT n) (diagEntry chs n).fault _).trans (if_congr ⟨fun h => by unfold Reg.chdCH_FAULT at h; omega, fun h => by rw [h]⟩ rfl rfl)
  have hc : (t.mirrorChan chs n).chan p = if p = n then { t.chan n with
      obs := (diagEntry chs n).obs, obsN := (diagEntry chs n).obsN, curN := (diagEntry chs n).curN } else t.chan p :=
    State.wChan_chan _ _ _ _
  unfold State.chanDiag
  rw [hr, hc]
  split <;> rfl

theorem bankDiag_mirrorChan (chs : List DiagEntry) (n : Nat) {b : Nat} (hb : b < 24) (t : State) :
    (t.mirrorChan chs n).bankDiag b = t.bankDiag b := by
  have hr (k : Nat) (hk : k < 0x540000) : (t.mirrorChan chs n).r k = t.r k :=
    (State.w_r t (Reg.chdCH_FAULT n) (diagEntry chs n).fault _).trans (if_neg (by unfold Reg.chdCH_FAULT; omega))
  unfold State.bankDiag
  rw [hr _ (by unfold Reg.bdgBANK_FAULT; omega), hr _ (by unfold Reg.bkSTOP_CAUSE; omega)]
  rfl

/-! ### Banks -/

theorem chanDiag_mirrorBank (banks : List DiagEntry) {b : Nat} (hb : b < 24) (n : Nat) (t : State) :
    (t.mirrorBank banks b).chanDiag n = t.chanDiag n := by
  have hr : (t.mirrorBank banks b).r (Reg.chdCH_FAULT n) = t.r (Reg.chdCH_FAULT n) :=
    (State.w_r t (Reg.bdgBANK_FAULT b) (diagEntry banks b).fault _).trans
      (if_neg (by have hlt := hb; unfold Reg.chdCH_FAULT Reg.bdgBANK_FAULT; omega))
  unfold State.chanDiag
  rw [hr]
  rfl

theorem bankDiag_mirrorBank (banks : List DiagEntry) (b p : Nat) (t : State) : (t.mirrorBank banks b).bankDiag p =
    if p = b then ((diagEntry banks b).fault, t.r (Reg.bkSTOP_CAUSE b), ((diagEntry banks b).obs, (diagEntry banks b).obsN), t.pair.mode,
      t.pair.authority) else t.bankDiag p := by
  have hr (k : Nat) : (t.mirrorBank banks b).r k = if k = Reg.bdgBANK_FAULT b then (diagEntry banks b).fault else t.r k :=
    State.w_r t (Reg.bdgBANK_FAULT b) (diagEntry banks b).fault _
  have hx : (t.mirrorBank banks b).bank p = if p = b then { t.bank b with obs := (diagEntry banks b).obs, obsN := (diagEntry banks b).obsN }
      else t.bank p := State.wBank_bank _ _ _ _
  have hp : (t.mirrorBank banks b).pair = t.pair := rfl
  unfold State.bankDiag
  rw [hr, hr (Reg.bkSTOP_CAUSE p), hx, hp, if_neg (show Reg.bkSTOP_CAUSE p ≠ Reg.bdgBANK_FAULT b by
    unfold Reg.bkSTOP_CAUSE Reg.bdgBANK_FAULT; omega)]
  by_cases h : p = b
  · subst h
    simp only [if_true]
  · rw [if_neg h, if_neg (by unfold Reg.bdgBANK_FAULT; omega), if_neg h]

theorem mirrorStop_chanDiag (banks : List DiagEntry) {b n : Nat} (hb : b < 24) (hn : n < 192) (t : State) :
    (t.mirrorStop banks b).chanDiag n = t.chanDiag n := by
  refine (view_when (State.chanDiag n) _ _ _ ?_).trans (chanDiag_mirrorBank banks hb n t)
  refine (chanDiag_of_diagSide (diagSide_bankStop _ hb) hn).trans ?_
  have hr (u : State) (v : Nat) : (u.w (Reg.bkSTOP_CAUSE b) v).r (Reg.chdCH_FAULT n) = u.r (Reg.chdCH_FAULT n) :=
    (State.w_r _ _ _ _).trans (if_neg (by unfold Reg.chdCH_FAULT Reg.bkSTOP_CAUSE; omega))
  unfold State.chanDiag
  rw [hr]
  rfl

theorem bankDiag_w_cause (u : State) (b p v : Nat) (h : p ≠ b) : (u.w (Reg.bkSTOP_CAUSE b) v).bankDiag p = u.bankDiag p := by
  unfold State.bankDiag
  rw [State.w_r, State.w_r, if_neg (by unfold Reg.bdgBANK_FAULT Reg.bkSTOP_CAUSE; omega), if_neg (by unfold Reg.bkSTOP_CAUSE; omega)]
  rfl

theorem mirrorStop_other (banks : List DiagEntry) {b p : Nat} (hb : b < 24) (hp : p < 24) (h : p ≠ b) (t : State) :
    (t.mirrorStop banks b).bankDiag p = t.bankDiag p := by
  refine (view_when (State.bankDiag p) _ _ _ ?_).trans ((bankDiag_mirrorBank banks b p t).trans (if_neg h))
  exact (bankDiag_of_diagSide (diagSide_bankStop _ hb) hp).trans (bankDiag_w_cause _ _ _ _ h)

/-- The bank's own fault and observations, and the cause where the fault is new. -/
theorem mirrorStop_own (banks : List DiagEntry) {b : Nat} (hb : b < 24) (t : State) : let u := t.mirrorStop banks b
    u.r (Reg.bdgBANK_FAULT b) = (diagEntry banks b).fault ∧ ((u.bank b).obs, (u.bank b).obsN) = ((diagEntry banks b).obs, (diagEntry banks b).obsN) ∧
      (u.pair.mode, u.pair.authority) = (t.pair.mode, t.pair.authority) ∧
      (t.r (Reg.bdgBANK_FAULT b) = 0 → (diagEntry banks b).fault ≠ 0 → u.rb (Reg.bkSTOP_CAUSE b) 5 = true) := by
  have hown := (bankDiag_mirrorBank banks b b t).trans (if_pos rfl)
  unfold State.mirrorStop
  generalize t.mirrorBank banks b = m at hown
  obtain ⟨hfault, -, hobs, hmode, hauth⟩ : m.r (Reg.bdgBANK_FAULT b) = (diagEntry banks b).fault ∧ _ ∧
      ((m.bank b).obs, (m.bank b).obsN) = ((diagEntry banks b).obs, (diagEntry banks b).obsN) ∧ m.pair.mode = t.pair.mode ∧
      m.pair.authority = t.pair.authority := by
    simpa only [State.bankDiag, Prod.mk.injEq] using hown
  by_cases hnew : t.r (Reg.bdgBANK_FAULT b) = 0 ∧ (diagEntry banks b).fault ≠ 0
  · have hstop := bankDiag_of_diagSide (diagSide_bankStop m hb) hb
    have hwhen : (m.when true fun v => v.bankStop b 5 false) = m.bankStop b 5 false := rfl
    rw [decide_eq_true hnew, hwhen]
    generalize m.bankStop b 5 false = u at hstop
    have hcause : ((m.w (Reg.bkSTOP_CAUSE b) (setBit 5 true (m.r (Reg.bkSTOP_CAUSE b)))).bankDiag b) =
        (m.r (Reg.bdgBANK_FAULT b), setBit 5 true (m.r (Reg.bkSTOP_CAUSE b)), ((m.bank b).obs, (m.bank b).obsN), m.pair.mode, m.pair.authority) := by
      unfold State.bankDiag
      rw [State.w_r, State.w_r, if_neg (by unfold Reg.bdgBANK_FAULT Reg.bkSTOP_CAUSE; omega), if_pos rfl]
      rfl
    rw [hcause] at hstop
    obtain ⟨hf, hc, ho, hm, ha⟩ : u.r (Reg.bdgBANK_FAULT b) = m.r (Reg.bdgBANK_FAULT b) ∧
        u.r (Reg.bkSTOP_CAUSE b) = setBit 5 true (m.r (Reg.bkSTOP_CAUSE b)) ∧ ((u.bank b).obs, (u.bank b).obsN) = ((m.bank b).obs, (m.bank b).obsN) ∧
        u.pair.mode = m.pair.mode ∧ u.pair.authority = m.pair.authority := by
      simpa only [State.bankDiag, Prod.mk.injEq] using hstop
    refine ⟨hf.trans hfault, ho.trans hobs, by rw [hm, ha, hmode, hauth], fun _ _ => ?_⟩
    rw [State.rb, hc]
    exact bit_setBit 5 _
  · rw [decide_eq_false hnew]
    exact ⟨hfault, hobs, Prod.ext hmode hauth, fun h1 h2 => absurd ⟨h1, h2⟩ hnew⟩

/-- DIAG_STATE on a follower (R499). -/
theorem diagIn_spec {s : State} (hf : s.follower = true) (chs banks : List DiagEntry) :
    (∀ n, n < 192 → (s.diagIn chs banks).chanDiag n =
      ((diagEntry chs n).fault, (diagEntry chs n).obs, (diagEntry chs n).obsN, (diagEntry chs n).curN)) ∧
    ∀ b, b < 24 → let t := s.diagIn chs banks
      t.r (Reg.bdgBANK_FAULT b) = (diagEntry banks b).fault ∧ ((t.bank b).obs, (t.bank b).obsN) = ((diagEntry banks b).obs, (diagEntry banks b).obsN) ∧
        (t.pair.mode, t.pair.authority) = (s.pair.mode, s.pair.authority) ∧
        (s.r (Reg.bdgBANK_FAULT b) = 0 → (diagEntry banks b).fault ≠ 0 → t.rb (Reg.bkSTOP_CAUSE b) 5 = true) := by
  rw [diagIn_follower hf]
  refine ⟨fun n hn => ?_, fun b hb => ?_⟩
  · obtain ⟨t, -, ht⟩ := each_own State.chanDiag (State.mirrorChan chs) List.nodup_range
      (fun q _ p _ hp t => (chanDiag_mirrorChan chs q p t).trans (if_neg hp)) s (List.mem_range.2 hn)
    generalize s.each (List.range 192) (State.mirrorChan chs) = s1 at ht
    have hbanks : (s1.each bankNos (State.mirrorStop banks)).chanDiag n = s1.chanDiag n :=
      view_each (State.chanDiag n) _ _ _ fun b hb t => mirrorStop_chanDiag banks (List.mem_range.1 hb) hn t
    exact (hbanks.trans ht).trans ((chanDiag_mirrorChan chs n n t).trans (if_pos rfl))
  · have hfirst : (s.each (List.range 192) (State.mirrorChan chs)).bankDiag b = s.bankDiag b :=
      view_each (State.bankDiag b) _ _ _ fun n _ t => bankDiag_mirrorChan chs n hb t
    generalize s.each (List.range 192) (State.mirrorChan chs) = s1 at hfirst
    obtain ⟨t, ht, hlast⟩ := each_own (l := bankNos) State.bankDiag (State.mirrorStop banks) List.nodup_range
      (fun q hq p hp hne t => mirrorStop_other banks (List.mem_range.1 hq) (List.mem_range.1 hp) hne t) s1 (List.mem_range.2 hb)
    obtain ⟨hfault, hobs, hpair, hcause⟩ := mirrorStop_own banks hb t
    have hbefore := ht.trans hfirst
    unfold State.bankDiag at hlast hbefore
    simp only [Prod.mk.injEq] at hlast hbefore hobs hpair
    dsimp only
    generalize s1.each bankNos (State.mirrorStop banks) = u at hlast
    generalize t.mirrorStop banks b = v at *
    obtain ⟨hf, hc, ⟨ho, hn⟩, hm, ha⟩ := hlast
    obtain ⟨hf0, -, -, hm0, ha0⟩ := hbefore
    refine ⟨hf.trans hfault, by rw [ho, hn, hobs.1, hobs.2], by rw [hm, ha, hpair.1, hpair.2, hm0, ha0], fun h0 hne => ?_⟩
    rw [State.rb, hc]
    exact hcause (hf0.trans h0) hne

end Sys2Proof.Machine
end

section
/-! PROOFS. Sets, offsets and writes that a follower takes over (O48). -/

namespace Sys2Proof.Machine

/-! ## A set is armed on a follower (R25, R480) -/

theorem follower_noAuthority {s : State} (h : s.follower = true) : s.pair.authority = false := by
  unfold State.follower at h
  rw [Bool.and_eq_true, Bool.not_eq_true'] at h
  exact h.2

/-- The armed set that another replaces is reported. -/
def State.supersede (s : State) (h : Nat) (p : PSet) : State := match (s.pipe h).armed with
  | some a => (s.when (a.offsets && !p.offsets) fun t => t.dropStage h).tagTimeout h a.tag
  | none => s

/-- Reporting a tag leaves the pair, the pipelines and the receivers, and counts in TAG_TIMEOUT. -/
theorem tagTimeout_spec (s : State) (h tag : Nat) : (s.tagTimeout h tag).pair = s.pair ∧ (s.tagTimeout h tag).pipes = s.pipes ∧
    (s.tagTimeout h tag).hrx = s.hrx ∧ (s.tagTimeout h tag).clk = s.clk ∧ ∀ k, k ≠ Reg.evEVENT_SEQ → (s.tagTimeout h tag).r k =
      if k = Reg.pkTAG_TIMEOUT h then min 0xFFFFFFFF (s.r (Reg.pkTAG_TIMEOUT h) + 1) else s.r k := by
  unfold State.tagTimeout
  refine ⟨event_pair _ _ _ _, ?_, ?_, ?_, fun k hk => (event_r_ne _ _ _ _ hk).trans (State.bump_r _ _ _)⟩ <;> rw [event_eq] <;> rfl

theorem supersede_spec (s : State) (h : Nat) (p : PSet) : (s.supersede h p).pair = s.pair ∧ (s.supersede h p).pipes = s.pipes ∧
    (s.supersede h p).hrx = s.hrx ∧ (s.supersede h p).clk = s.clk ∧
    (∀ k, k ≠ Reg.evEVENT_SEQ → k ≠ Reg.pkTAG_TIMEOUT h → (s.supersede h p).r k = s.r k) ∧
    ∀ a, (s.pipe h).armed = some a → (s.supersede h p).r (Reg.pkTAG_TIMEOUT h) = min 0xFFFFFFFF (s.r (Reg.pkTAG_TIMEOUT h) + 1) := by
  have hne : Reg.pkTAG_TIMEOUT h ≠ Reg.evEVENT_SEQ := by unfold Reg.pkTAG_TIMEOUT Reg.evEVENT_SEQ; omega
  unfold State.supersede
  cases harm : (s.pipe h).armed with
  | none => exact ⟨rfl, rfl, rfl, rfl, fun _ _ _ => rfl, fun a ha => nomatch ha⟩
  | some a =>
    have hdrop : ∃ u, (s.when (a.offsets && !p.offsets) fun t => t.dropStage h) = u ∧ u.pair = s.pair ∧ u.pipes = s.pipes ∧ u.hrx = s.hrx ∧
        u.clk = s.clk ∧ ∀ k, u.r k = s.r k := by
      refine ⟨_, rfl, ?_⟩
      unfold State.when
      split <;> exact ⟨rfl, rfl, rfl, rfl, fun _ => rfl⟩
    obtain ⟨u, hu, hpair, hpipes, hhrx, hclk, hr⟩ := hdrop
    obtain ⟨tpair, tpipes, thrx, tclk, tr⟩ := tagTimeout_spec u h a.tag
    dsimp only
    rw [hu]
    refine ⟨tpair.trans hpair, tpipes.trans hpipes, thrx.trans hhrx, tclk.trans hclk, fun k h1 h2 => ?_, fun _ _ => ?_⟩
    · rw [tr k h1, if_neg h2, hr]
    · rw [tr _ hne, if_pos rfl, hr]

/-- A follower's set in its place: armed, its tag published and noted. -/
def State.placeSet (u : State) (h : Nat) (p : PSet) (tag : Nat) : State :=
  let t := (u.wPipe h { u.pipe h with armed := some p }).w (Reg.hsARMED_TAG h) p.tag
  t.wHr h { t.hr h with lastTag := tag }

/-- A set armed over what the one before it has left. -/
def State.armOver (u : State) (h : Nat) (p : PSet) : State :=
  let t := (u.placeSet h p (if u.follower then laterTag p.tag (u.hr h).lastTag else p.tag)).sendSettings h p
  if t.pair.authority then t.toPartner (.armedSet t.epoch (p.toMsg h)) else t

theorem armSet_eq (s : State) (h : Nat) (p : PSet) : s.armSet h p = (s.supersede h p).armOver h p := rfl

theorem placeSet_follower (u : State) (h : Nat) (p : PSet) (tag : Nat) : (u.placeSet h p tag).follower = u.follower := rfl

theorem armOver_follower {u : State} (hf : u.follower = true) (h : Nat) (p : PSet) :
    u.armOver h p = u.placeSet h p (laterTag p.tag (u.hr h).lastTag) := by
  have hplaced := (placeSet_follower u h p (laterTag p.tag (u.hr h).lastTag)).trans hf
  unfold State.armOver
  rw [hf, if_pos rfl]
  generalize u.placeSet h p (laterTag p.tag (u.hr h).lastTag) = t at hplaced
  have hsend : t.sendSettings h p = t := if_pos hplaced
  rw [hsend]
  exact if_neg (by rw [follower_noAuthority hplaced]; decide)

theorem placeSet_spec (u : State) (h : Nat) (p : PSet) (tag : Nat) : ((u.placeSet h p tag).pipe h).armed = some p ∧
    ((u.placeSet h p tag).pipe h).cur = (u.pipe h).cur ∧ ((u.placeSet h p tag).hr h).lastTag = tag ∧
    (∀ k, (u.placeSet h p tag).r k = if k = Reg.hsARMED_TAG h then p.tag else u.r k) ∧ (u.placeSet h p tag).pair = u.pair ∧
    (u.placeSet h p tag).clk = u.clk := by
  have hpipe : (u.placeSet h p tag).pipe h = { u.pipe h with armed := some p } := (State.wPipe_pipe _ _ _ _).trans (if_pos rfl)
  have hlast : ((u.placeSet h p tag).hr h).lastTag = tag := by
    unfold State.placeSet
    rw [State.wHr_hr, if_pos rfl]
  exact ⟨by rw [hpipe], by rw [hpipe], hlast, fun k => State.w_r (u.wPipe h { u.pipe h with armed := some p }) _ _ _, rfl, rfl⟩

/-- Arming a set on a follower (R25, R27, R480). -/
theorem armSet_taken {s : State} (hf : s.follower = true) (h : Nat) (p : PSet) : let t := s.armSet h p
    (t.pipe h).armed = some p ∧ (t.pipe h).cur = (s.pipe h).cur ∧ (t.hr h).lastTag = laterTag p.tag (s.hr h).lastTag ∧
      t.r (Reg.hsARMED_TAG h) = p.tag ∧
      (∀ a, (s.pipe h).armed = some a → t.r (Reg.pkTAG_TIMEOUT h) = min 0xFFFFFFFF (s.r (Reg.pkTAG_TIMEOUT h) + 1)) ∧
      ∀ k, k ≠ Reg.evEVENT_SEQ → k ≠ Reg.pkTAG_TIMEOUT h → k ≠ Reg.hsARMED_TAG h → t.r k = s.r k := by
  obtain ⟨hpair, hpipes, hhrx, -, hr, hcount⟩ := supersede_spec s h p
  have hf' : (s.supersede h p).follower = true := by
    unfold State.follower at hf ⊢
    rw [hpair]
    exact hf
  rw [armSet_eq, armOver_follower hf']
  generalize s.supersede h p = u at *
  have hpipe : u.pipe h = s.pipe h := by unfold State.pipe; rw [hpipes]
  have hhr : u.hr h = s.hr h := by unfold State.hr; rw [hhrx]
  rw [hhr]
  obtain ⟨harm, hcur, hlast, hregs, -, -⟩ := placeSet_spec u h p (laterTag p.tag (s.hr h).lastTag)
  refine ⟨harm, hcur.trans (by rw [hpipe]), hlast, (hregs _).trans (if_pos rfl), fun a ha => ?_, fun k h1 h2 h3 => ?_⟩
  · rw [hregs, if_neg (by unfold Reg.pkTAG_TIMEOUT Reg.hsARMED_TAG; omega)]
    exact hcount a ha
  · rw [hregs, if_neg h3, hr k h1 h2]

/-! ## ARMED_SET (R325, R480) -/

/-- Placing a set that passes its checks leaves it armed. -/
theorem admitNow_others (s : State) : s.admitNow.apart = s.apart :=
  (apart_publish _ _ _ _).trans (apart_w s _ _ (by decide))

/-- The patches of a set join the persistent list, where that is asked for. -/
def State.joinPatches (s : State) (h : Nat) (p : PSet) : State :=
  if p.patches = [] then s
  else (s.w (Reg.pcPATCH_COUNT h) 0).when (decide ((s.w (Reg.pcPATCH_COUNT h) 0).r (Reg.pcPATCH_PERSIST h) = 1)) fun t =>
    t.wPersist h (persistAdd (t.persist h) p.patches)

theorem joinPatches_spec (s : State) (h : Nat) (p : PSet) : (s.joinPatches h p).pipes = s.pipes ∧ (s.joinPatches h p).hrx = s.hrx ∧
    ∀ k, bookKey k = false → k ≠ Reg.pcPATCH_COUNT h → k ≠ Reg.pcPERSIST_COUNT h → (s.joinPatches h p).r k = s.r k := by
  have hw (k : Nat) (h1 : k ≠ Reg.pcPATCH_COUNT h) : (s.w (Reg.pcPATCH_COUNT h) 0).r k = s.r k := (State.w_r _ _ _ _).trans (if_neg h1)
  have hpersist (t : State) (l : List Patch) : (t.wPersist h l).pipes = t.pipes ∧ (t.wPersist h l).hrx = t.hrx ∧
      ∀ k, bookKey k = false → k ≠ Reg.pcPERSIST_COUNT h → (t.wPersist h l).r k = t.r k := by
    refine ⟨rfl, rfl, fun k hk h2 => ?_⟩
    unfold State.wPersist
    rw [nvmRecord_r _ _ _ _ _ hk, State.w_r, if_neg h2]
    rfl
  unfold State.joinPatches State.when
  split
  · exact ⟨rfl, rfl, fun _ _ _ _ => rfl⟩
  · split
    · obtain ⟨hp, hx, hr⟩ := hpersist (s.w (Reg.pcPATCH_COUNT h) 0) (persistAdd ((s.w (Reg.pcPATCH_COUNT h) 0).persist h) p.patches)
      exact ⟨hp, hx, fun k hk h1 h2 => (hr k hk h2).trans (hw k h1)⟩
    · exact ⟨rfl, rfl, fun k _ h1 _ => hw k h1⟩

theorem armedSetIn_eq {s : State} (hf : s.follower = true) (i : SetIn) : s.armedSetIn i =
    let t := s.armSet i.head (s.setOf i)
    if i.inner then t else (if t.check.1 = 0 then t.admitNow else t.replace 0).joinPatches i.head (s.setOf i) := by
  unfold State.armedSetIn
  exact if_neg (show ¬ (!s.follower) = true by rw [hf]; decide)

/-- What stands of an armed set and of its report. -/
def State.armedSide (s : State) (h : Nat) : Option PSet × Option PSet × HeadRx × Nat × Nat :=
  ((s.pipe h).armed, (s.pipe h).cur, s.hr h, s.r (Reg.hsARMED_TAG h), s.r (Reg.pkTAG_TIMEOUT h))

theorem armedSide_admitNow (s : State) (h : Fin 32) : s.admitNow.armedSide h = s.armedSide h := by
  have hapart := admitNow_others s
  obtain ⟨-, -, -, -, -, hhrx, hpipe⟩ := others_parts (apart_others hapart)
  have htag : apartKey (Reg.hsARMED_TAG h) = true := by revert h; decide
  have hcount : apartKey (Reg.pkTAG_TIMEOUT h) = true := by revert h; decide
  unfold State.armedSide State.hr
  rw [(hpipe h).1, (hpipe h).2, hhrx, apart_r hapart _ htag, apart_r hapart _ hcount]

theorem armedSide_joinPatches (s : State) (h : Fin 32) (p : PSet) : (s.joinPatches h p).armedSide h = s.armedSide h := by
  obtain ⟨hpipes, hhrx, hr⟩ := joinPatches_spec s h p
  have hkey (off : Nat) (ho : off < 0x800) (h4 : off ≠ 0x504) (h7 : off ≠ 0x507) :
      (s.joinPatches h p).r (0x300000 + off + 2048 * h) = s.r (0x300000 + off + 2048 * h) :=
    hr _ (bookKey_headKey h ho) (by unfold Reg.pcPATCH_COUNT; omega) (by unfold Reg.pcPERSIST_COUNT; omega)
  have htag : (s.joinPatches h p).r (Reg.hsARMED_TAG h) = s.r (Reg.hsARMED_TAG h) := hkey 0x10B (by decide) (by decide) (by decide)
  have hcount : (s.joinPatches h p).r (Reg.pkTAG_TIMEOUT h) = s.r (Reg.pkTAG_TIMEOUT h) := hkey 0x704 (by decide) (by decide) (by decide)
  unfold State.armedSide State.pipe State.hr
  rw [hpipes, hhrx, htag, hcount]

/-- A set of an internal commit, and one that the follower's own checks pass, is armed. -/
theorem armedSetIn_taken {s : State} (hf : s.follower = true) (i : SetIn)
    (hpass : i.inner = true ∨ (s.armSet i.head (s.setOf i)).check.1 = 0) :
    (s.armedSetIn i).armedSide i.head = (s.armSet i.head (s.setOf i)).armedSide i.head := by
  rw [armedSetIn_eq hf]
  dsimp only
  generalize s.armSet i.head (s.setOf i) = t at hpass
  by_cases hi : i.inner = true
  · rw [if_pos hi]
  · rw [if_neg hi, if_pos (hpass.resolve_left hi)]
    exact (armedSide_joinPatches _ _ _).trans (armedSide_admitNow _ _)

/-- One that they do not pass has the configuration placed afresh. -/
theorem armedSetIn_replaced {s : State} (hf : s.follower = true) (i : SetIn) (hi : i.inner = false)
    (hc : (s.armSet i.head (s.setOf i)).check.1 ≠ 0) : (s.armedSetIn i).r Reg.shpLAST_CAUSE = 0 ∧
      (s.armedSetIn i).r Reg.shpREPLACEMENTS = min 0xFFFFFFFF (s.r Reg.shpREPLACEMENTS + 1) := by
  obtain ⟨-, -, -, -, -, hr⟩ := armSet_taken hf i.head (s.setOf i)
  have hkeep := hr Reg.shpREPLACEMENTS (by decide) (by unfold Reg.shpREPLACEMENTS Reg.pkTAG_TIMEOUT; omega)
    (by unfold Reg.shpREPLACEMENTS Reg.hsARMED_TAG; omega)
  rw [armedSetIn_eq hf]
  dsimp only
  generalize s.armSet i.head (s.setOf i) = t at hc hkeep
  have hcause := (replace_spec t 0).2
  have hcount := replace_r t 0 (k := Reg.shpREPLACEMENTS) (by decide)
  rw [if_pos rfl, hkeep] at hcount
  rw [hi, if_neg (by decide), if_neg hc]
  generalize t.replace 0 = u at hcause hcount
  obtain ⟨-, -, hjoin⟩ := joinPatches_spec u i.head (s.setOf i)
  rw [hjoin _ (by decide) (by unfold Reg.shpLAST_CAUSE Reg.pcPATCH_COUNT; omega) (by unfold Reg.shpLAST_CAUSE Reg.pcPERSIST_COUNT; omega),
    hjoin _ (by decide) (by unfold Reg.shpREPLACEMENTS Reg.pcPATCH_COUNT; omega) (by unfold Reg.shpREPLACEMENTS Reg.pcPERSIST_COUNT; omega)]
  exact ⟨hcause, hcount⟩

/-! ## OFFSETS (R115, R480) -/

theorem offsetsIn_armed {s : State} (hf : s.follower = true) {h tag : Nat} {p : PSet} (part : OffsPart) (ha : (s.pipe h).armed = some p)
    (ht : p.tag = tag) : s.offsetsIn h tag part =
      (s.wPipe h { s.pipe h with armed := some { p with kind := .fold, offsets := true } }).stagePart h part := by
  unfold State.offsetsIn
  rw [if_neg (show ¬ (!s.follower) = true by rw [hf]; decide), ha]
  exact if_pos ht

/-- A part of the offsets stands where it is staged. -/
theorem stagePart_stage (s : State) (h : Nat) (part : OffsPart) (k : Nat) (v : Int) (hv : part.offs[k]? = some v)
    (hk : part.first + k < s.factCount h) : tget 0x10000 (s.stagePart h part).px.stage (pxKey h (part.first + k)) = enc2 16 v := by
  have hlen : k < part.offs.length := (List.getElem?_eq_some_iff.1 hv).1
  refine (tget_tsetRun _ _ _ _ _).trans ?_
  rw [List.length_map, List.length_take, if_pos (by unfold pxKey; omega)]
  have hat : pxKey h (part.first + k) - pxKey h part.first = k := by unfold pxKey; omega
  rw [hat, List.getD_eq_getElem?_getD, List.getElem?_map, List.getElem?_take_of_lt (by omega), hv]
  rfl

/-! ## OBJ_FWD (R480) -/

theorem objFwdIn_object {s : State} (hf : s.follower = true) (m : PartnerMsg) {key : Nat} (d : Bytes)
    (hb : ((rowAt key).any fun r => r.ty = .block) = false) :
    s.objFwdIn m key d = (s.putObj ⟨0x41, m.epoch⟩ key d.length (leNat d) .nobody).done := by
  unfold State.objFwdIn
  rw [if_neg (show ¬ (!s.follower) = true by rw [hf]; decide), if_neg (by rw [hb]; decide)]

theorem respond_nobody (s : State) (st tok : Nat) : s.respond .nobody st tok = s := rfl

theorem maxOn_row : ∀ n : Fin 192, (actRow (Reg.chMAX_ON n), syncable (Reg.chMAX_ON n)) = (false, true) := by decide +kernel

/-- What a write of MAX_ON goes by. -/
theorem maxOn_plain (n : Fin 192) : actRow (Reg.chMAX_ON n) = false ∧ instOf 0x4000 6 192 1 (Reg.chMAX_ON n) = none ∧
    bookKey (Reg.chMAX_ON n) = false := by
  refine ⟨(Prod.mk.inj (maxOn_row n)).1, instOf_none_of_sub (by unfold Reg.chMAX_ON; omega), bookKey_of_mid ?_ ?_⟩ <;>
    unfold Reg.chMAX_ON <;> omega

/-- A forwarded write of MAX_ON is made. -/
theorem putObj_maxOn {s : State} {o : Origin} {len v : Nat} (n : Fin 192)
    (h : s.accCheck o (Reg.chMAX_ON n) len v (s.relOk (s.w (Reg.chMAX_ON n) v) (Reg.chMAX_ON n)) = 0) :
    (s.putObj o (Reg.chMAX_ON n) len v .nobody).r (Reg.chMAX_ON n) = v := by
  obtain ⟨hact, hz, hbook⟩ := maxOn_plain n
  have hput := putObj_inert (s := s) (o := o) (len := len) (v := v) .nobody hact (inert_maxOn n) hz
    (by unfold Reg.chMAX_ON Reg.covCOV_ENABLE; omega) (by unfold Reg.chMAX_ON Reg.opPOWER_LIMIT; omega) (.inr (by unfold Reg.chMAX_ON; omega)) h
  rw [hput, respond_nobody, putValue_r _ _ _ _ _ _ hbook, if_pos rfl]

/-! ## CONFIG_SYNC (R480, R498) -/

/-- The values of CONFIG_SYNC that differ take effect. -/
def State.syncVals (s : State) (vals : List (Nat × Nat)) : State :=
  let news := vals.filter fun e => syncable e.1 && decide (s.r e.1 ≠ e.2)
  (s.stored news).each news fun e t => t.applied e.1 (s.r e.1) e.2

/-- The configuration is admitted again, or placed afresh. -/
def State.admitAgain (s : State) : State := if s.check.1 = 0 then s.admitNow else s.replace 4

theorem admitAgain_r (s : State) {k : Nat} (hk : apartKey k = true) (hne : k ≠ Reg.shpREPLACEMENTS) : s.admitAgain.r k = s.r k := by
  unfold State.admitAgain
  split
  · exact apart_r (admitNow_others s) k hk
  · exact (replace_r s 4 hk).trans (if_neg hne)

theorem syncConfig_follower {s : State} (hf : s.follower = true) (vals : List (Nat × Nat)) (blocks : List (Nat × Bytes)) (sets : List SetIn) :
    ∃ u : State, s.syncConfig vals blocks sets = u.done ∧ u.pair.synced = true ∧
      (blocks = [] → sets = [] → ∀ k, u.r k = (s.syncVals vals).admitAgain.r k) := by
  unfold State.syncConfig
  rw [if_neg (show ¬ (!s.follower) = true by rw [hf]; decide)]
  refine ⟨_, rfl, rfl, ?_⟩
  rintro rfl rfl k
  rfl

theorem syncVals_maxOn (s : State) (n : Fin 192) (v : Nat) : (s.syncVals [(Reg.chMAX_ON n, v)]).r (Reg.chMAX_ON n) = v := by
  have hsync : syncable (Reg.chMAX_ON n) = true := (Prod.mk.inj (maxOn_row n)).2
  unfold State.syncVals
  by_cases h : s.r (Reg.chMAX_ON n) = v
  · have hnone : ([(Reg.chMAX_ON n, v)].filter fun e => syncable e.1 && decide (s.r e.1 ≠ e.2)) = [] := by simp [h]
    rw [hnone]
    exact h
  · have hone : ([(Reg.chMAX_ON n, v)].filter fun e => syncable e.1 && decide (s.r e.1 ≠ e.2)) = [(Reg.chMAX_ON n, v)] := by simp [h, hsync]
    have hinert := inert_maxOn n
    dsimp only
    rw [hone, stored_of_inert s v hinert]
    have heff : ((s.w (Reg.chMAX_ON n) v).each [(Reg.chMAX_ON n, v)] fun e t => t.applied e.1 (s.r e.1) e.2) = s.w (Reg.chMAX_ON n) v := by
      show (s.w (Reg.chMAX_ON n) v).applied (Reg.chMAX_ON n) (s.r (Reg.chMAX_ON n)) v = _
      unfold State.applied
      rw [hinert.2]
      rfl
    rw [heff, State.w_r, if_pos rfl]

theorem apartKey_maxOn (n : Fin 192) : apartKey (Reg.chMAX_ON n) = true := by
  obtain ⟨-, -, hbook⟩ := maxOn_plain n
  unfold apartKey
  rw [hbook, decide_eq_true (by unfold Reg.chMAX_ON; omega)]
  rfl

end Sys2Proof.Machine

open Sys2Proof Sys2Proof.Machine

/-- Settles O48: what a follower takes of each message, and that no other device takes any. -/
theorem followers : Obligations.Followers := by
  intro dt key tag m j h d part l1 l2 vals blocks sets s a hears
  refine ⟨fun hf c hc => ?_, fun hf => ⟨fun hb => ?_, ?_, fun p ha ht => ?_, ?_, ?_⟩⟩
  · have hskip (f : State → State) (hid : f a = a) : a.partnerIn m f = a := (partnerIn_hears hears f).trans hid
    have hno : (!a.follower) = true := by rw [hf]; rfl
    simp only [List.mem_cons, List.not_mem_nil, or_false] at hc
    rcases hc with rfl | rfl | rfl | rfl | rfl
    · exact ⟨_, congrArg Host.Outcome.next (hskip _ (if_pos hno)), rfl⟩
    · exact ⟨_, congrArg Host.Outcome.next (hskip _ (if_pos hno)), rfl⟩
    · exact ⟨_, congrArg Host.Outcome.next (hskip _ (if_pos hno)), rfl⟩
    · exact ⟨_, congrArg Host.Outcome.next (hskip _ (if_pos hno)), rfl⟩
    · exact ⟨_, congrArg Host.Outcome.next (hskip _ (if_pos hno)), rfl⟩
  · have hexec : exec (.objFwd dt m key d) s = .next (a.putObj ⟨0x41, m.epoch⟩ key d.length (leNat d) .nobody).done :=
      congrArg Host.Outcome.next ((partnerIn_hears hears _).trans (objFwdIn_object hf m d hb))
    intro act st
    refine ⟨fun hst => ⟨_, hexec, ?_⟩, fun hst hkey => ⟨_, hexec, ?_⟩⟩
    · exact (putObj_refused .nobody hst).trans (respond_nobody a _ _)
    · obtain ⟨n, rfl⟩ := hkey
      have hact : act = false := (maxOn_plain n).1
      have hst' : a.accCheck ⟨0x41, m.epoch⟩ (Reg.chMAX_ON n) d.length (leNat d)
          (act || a.relOk (a.w (Reg.chMAX_ON n) (leNat d)) (Reg.chMAX_ON n)) = 0 := hst
      rw [hact, Bool.false_or] at hst'
      exact putObj_maxOn n hst'
  · have hexec : exec (.armedSet dt m j) s = .next (a.armedSetIn j) := congrArg Host.Outcome.next (partnerIn_hears hears _)
    refine ⟨fun hi hc => ⟨_, hexec, armedSetIn_replaced hf j hi hc⟩, fun hpass => ⟨_, hexec, ?_⟩⟩
    have hside := armedSetIn_taken hf j hpass
    obtain ⟨harm, hcur, hlast, htag, hcount, -⟩ := armSet_taken hf j.head (a.setOf j)
    unfold State.armedSide at hside
    simp only [Prod.mk.injEq] at hside
    obtain ⟨sarm, scur, shr, stag, scount⟩ := hside
    refine ⟨stag.trans htag, by rw [shr]; exact hlast, ⟨a.setOf j, sarm.trans harm, rfl, rfl, rfl, rfl, rfl, fun c0 hc0 hi => ?_, fun hi => ?_⟩,
      fun p hp => scount.trans (hcount p hp), scur.trans hcur⟩
    · unfold State.setOf
      dsimp only
      rw [hi, if_pos rfl, hc0]
      rfl
    · unfold State.setOf
      dsimp only
      rw [hi, if_neg (by decide)]
  · have hexec : exec (.offsets dt m h tag part) s = .next ((a.wPipe h { a.pipe h with armed := some { p with kind := .fold, offsets := true } }).stagePart h part) :=
      congrArg Host.Outcome.next ((partnerIn_hears hears _).trans (offsetsIn_armed hf part ha ht))
    refine ⟨_, hexec, ?_, rfl, fun k v hv hk => stagePart_stage _ h part k v hv hk⟩
    exact congrArg Pipe.armed ((State.wPipe_pipe _ _ _ _).trans (if_pos rfl))
  · have hexec : exec (.diagState dt m l1 l2) s = .next (a.diagIn l1 l2) := congrArg Host.Outcome.next (partnerIn_hears hears _)
    obtain ⟨hchans, hbanks⟩ := diagIn_spec hf l1 l2
    refine ⟨_, hexec, fun n hn => ?_, fun b hb => ?_⟩
    · simpa only [State.chanDiag, Prod.mk.injEq] using hchans n hn
    · obtain ⟨hfault, hobs, hpair, hcause⟩ := hbanks b hb
      simp only [Prod.mk.injEq] at hobs hpair
      have hmode : a.pair.mode = true := hears.2.1
      exact ⟨hfault, hobs.1, hobs.2, fun h0 hne => ⟨hcause h0 hne, .inl (gates_released (hpair.1.trans hmode)
        (hpair.2.trans (follower_noAuthority hf)) b)⟩⟩
  · obtain ⟨u, hu, hsynced, hregs⟩ := syncConfig_follower hf vals blocks sets
    refine ⟨u, congrArg Host.Outcome.next ((partnerIn_hears hears _).trans hu), hsynced, fun n v hv hb hs => ?_⟩
    rw [hregs hb hs, hv, admitAgain_r _ (apartKey_maxOn n) (by unfold Reg.chMAX_ON Reg.shpREPLACEMENTS; omega)]
    exact syncVals_maxOn a n v
end

section
/-! PROOFS. Objects through the debug port: what is read and checked does not depend on the port's registers, but for its lock
(R580, R591). -/

namespace Sys2Proof.Machine

/-- The state with other registers of the debug port. -/
def State.withTap (s : State) (x : Tap) : State := { s with tap := x }

theorem dbgLock_withTap (s : State) {x : Tap} (hu : x.unlocked = s.tap.unlocked) (hl : x.lockout = s.tap.lockout) :
    (s.withTap x).dbgLock = s.dbgLock := by
  rw [dbgLock_eq, dbgLock_eq]
  show (if s.fac.lifeCycle ≠ 2 then 0 else if x.unlocked then 2 else if x.lockout.any (fun t => decide (s.up < t)) then 3 else 1) = _
  rw [hu, hl]

section
variable {s : State} {x : Tap} (h : (s.withTap x).dbgLock = s.dbgLock)
include h

theorem dbgOpen_withTap : (s.withTap x).dbgOpen = s.dbgOpen := by
  unfold State.dbgOpen
  rw [h]

theorem mayRead_withTap (src key : Nat) : (s.withTap x).mayRead src key = s.mayRead src key := by
  unfold State.mayRead
  rw [dbgOpen_withTap h]

theorem mayWrite_withTap (src key : Nat) : (s.withTap x).mayWrite src key = s.mayWrite src key := by
  unfold State.mayWrite
  rw [dbgOpen_withTap h]
  rfl

theorem readHooks_withTap : (s.withTap x).readHooks = s.readHooks := by
  unfold State.readHooks
  rw [h]
  rfl

theorem readBytes_withTap (key : Nat) : (s.withTap x).readBytes key = s.readBytes key := by
  have hval : (s.withTap x).readVal key = s.readVal key := by
    unfold State.readVal
    rw [readHooks_withTap h]
    rfl
  unfold State.readBytes
  rw [hval]
  rfl

theorem readObj_withTap (src key : Nat) : (s.withTap x).readObj src key = s.readObj src key := by
  unfold State.readObj
  rw [mayRead_withTap h, readBytes_withTap h]
  rfl

theorem readBlock_withTap (src key off n : Nat) : (s.withTap x).readBlock src key off n = s.readBlock src key off n := by
  unfold State.readBlock
  rw [mayRead_withTap h]
  rfl

theorem accCheck_withTap (o : Origin) (key len v : Nat) (rel : Bool) :
    (s.withTap x).accCheck o key len v rel = s.accCheck o key len v rel := by
  unfold State.accCheck
  rw [mayWrite_withTap h]
  rfl

theorem blockCheck_withTap (o : Origin) (key off len : Nat) : (s.withTap x).blockCheck o key off len = s.blockCheck o key off len := by
  unfold State.blockCheck
  rw [mayWrite_withTap h]
  rfl

end

theorem spiSelect_withTap (s : State) (x : Tap) (j k : Nat) : ((s.withTap x).spiSelect j k).isRight = (s.spiSelect j k).isRight := by
  unfold State.spiSelect
  split
  · rfl
  · split
    · rfl
    · split <;> rfl

theorem relHooks_withTap (s u : State) (x : Tap) : (s.withTap x).relHooks (u.withTap x) = s.relHooks u := by
  have hspi := spiSelect_withTap s x (s.r Reg.spiSPI_SEL) (u.r Reg.spiSPI_SEL)
  unfold State.relHooks
  rw [show (fun _ : Nat => ((s.withTap x).spiSelect ((s.withTap x).r Reg.spiSPI_SEL) ((u.withTap x).r Reg.spiSPI_SEL)).isRight) =
    fun _ => (s.spiSelect (s.r Reg.spiSPI_SEL) (u.r Reg.spiSPI_SEL)).isRight from funext fun _ => hspi]
  rfl

theorem relOk_withTap (s u : State) (x : Tap) (key : Nat) : (s.withTap x).relOk (u.withTap x) key = s.relOk u key := by
  unfold State.relOk
  rw [relHooks_withTap]

/-- The status of a block write (R151, R455). -/
theorem blockPut_withTap (s : State) (x : Tap) (key off : Nat) (d : Bytes) : ((s.withTap x).blockPut key off d).1 = (s.blockPut key off d).1 := by
  have htable (t : Nat) : ((s.withTap x).tableWrite t off d).1 = (s.tableWrite t off d).1 := by
    have hslot : (s.withTap x).writeSlot t = s.writeSlot t := rfl
    unfold State.tableWrite
    rw [hslot]
    split
    · rfl
    · dsimp only
      rw [show (s.withTap x).slot t = s.slot t from rfl]
      split
      · rfl
      · split <;> rfl
  have hmap (k : Nat) : ((s.withTap x).mapPut k d).1 = (s.mapPut k d).1 := by
    unfold State.mapPut
    split <;> rfl
  unfold State.blockPut
  split
  · exact htable _
  · split
    · rfl
    · split
      · exact hmap _
      · rfl

/-! ## Accesses to an open port (R580) -/

section
variable {s : State} (q : ObjReq) (f : State → State) (h : s.dbgOpen = true)
include h

/-- An access while one is running is ignored. -/
theorem objAccess_running (hrun : s.tap.objStatus = 0xFE) :
    s.objAccess q f = { s with tap := { s.tap with ir := 0x10, floating := false } } := by
  have hopen : (s.wIr 0x10).dbgOpen = true := h
  have hrun : (s.wIr 0x10).tap.objStatus = 0xFE := hrun
  unfold State.objAccess
  dsimp only
  rw [if_neg (by rw [hopen]; decide), if_pos hrun]
  rfl

/-- Any other access is made on the fields that it sets. -/
theorem objAccess_open (hidle : s.tap.objStatus ≠ 0xFE) :
    s.objAccess q f = f (s.withTap (({ s.tap with ir := 0x10, floating := false } : Tap).objSet q)) := by
  have hopen : (s.wIr 0x10).dbgOpen = true := h
  have hidle : (s.wIr 0x10).tap.objStatus ≠ 0xFE := hidle
  unfold State.objAccess
  dsimp only
  rw [if_neg (by rw [hopen]; decide), if_neg hidle]
  rfl

end

theorem dbgLock_objSet (s : State) (q : ObjReq) :
    (s.withTap (({ s.tap with ir := 0x10, floating := false } : Tap).objSet q)).dbgLock = s.dbgLock := dbgLock_withTap s rfl rfl

theorem toADie_withTap (s : State) (x : Tap) (key : Nat) : (s.withTap x).toADie key = (s.toADie key).withTap x := by
  unfold State.toADie State.when State.d2dTraffic
  split
  · show (if s.domUp 18 then _ else _) = _
    split <;> rfl
  · rfl

/-- DBG_OBJ read: status, token and the first 8 bytes (R580). -/
theorem objRead_withTap {s : State} {x : Tap} (h : (s.withTap x).dbgLock = s.dbgLock) (key : Nat) : (s.withTap x).objRead key =
    { s.toADie key with tap := { x with
      objStatus := (s.readObj 0x40 key).1, objToken := (s.readObj 0x40 key).2.1
      objData := leNat ((s.readObj 0x40 key).2.2.take 8) } } := by
  unfold State.objRead
  rw [readObj_withTap h, toADie_withTap]
  rfl

/-- DBG_OBJ block read of a length out of range. -/
theorem objBlock_refused {s : State} {len : Nat} (key off : Nat) (h : len = 0 ∨ 8 < len) : s.objBlock key len off = s.objEnd 0x16 0 := if_pos h

/-- DBG_OBJ block read: status, bytes and the OFFSET after them. -/
theorem objBlock_withTap {s : State} {x : Tap} (h : (s.withTap x).dbgLock = s.dbgLock) (key off : Nat) {len : Nat} (h1 : 1 ≤ len) (h8 : len ≤ 8) :
    (s.withTap x).objBlock key len off = { s with tap := { x with
      objStatus := (s.readBlock 0x40 key off len).1, objToken := 0
      objData := leNat (s.readBlock 0x40 key off len).2, objOffset := off + (s.readBlock 0x40 key off len).2.length } } := by
  unfold State.objBlock
  rw [if_neg (by omega), readBlock_withTap h]
  rfl

/-- DBG_OBJ block stage of bytes out of range. -/
theorem objStage_refused {s : State} {len off : Nat} (v : Nat) (h : len = 0 ∨ 8 < len ∨ 65536 < off + len) :
    s.objStage len off v = s.objEnd 0x16 0 := if_pos h

/-- DBG_OBJ block stage: the bytes stand in the staging buffer, and nothing else changes there. -/
theorem objStage_stages {s : State} {len off : Nat} (v : Nat) (h1 : 1 ≤ len) (h8 : len ≤ 8) (hoff : off + len ≤ 65536) :
    let t := s.objStage len off v
    t.tap.objStatus = 0 ∧ t.tap.objOffset = off + len ∧ tgetRun 0 t.tap.staging off len = leBytes len v ∧
      ∀ j, j < off ∨ off + len ≤ j → tget 0 t.tap.staging j = tget 0 s.tap.staging j := by
  intro t
  have ht : t.tap = { (s.objEnd 0 0).tap with
      staging := tsetRun 0 s.tap.staging off (leBytes len v), objOffset := off + len } := by
    show (s.objStage len off v).tap = _
    unfold State.objStage
    rw [if_neg (by omega)]
    rfl
  have hlen : (leBytes len v).length = len := leBytes_length len v
  rw [ht]
  refine ⟨rfl, rfl, ?_, fun j hj => ?_⟩
  · have hrun := tgetRun_tsetRun_same 0 s.tap.staging off (leBytes len v)
    rwa [hlen] at hrun
  · show tget 0 (tsetRun 0 s.tap.staging off (leBytes len v)) j = _
    rw [tget_tsetRun, if_neg (by rw [hlen]; omega)]

/-- The state in which DBG_OBJ writes: the access is running. -/
abbrev Tap.running (x : Tap) : Tap := { x with objStatus := 0xFE, objToken := 0 }

/-- A write through DBG_OBJ ends with the status of its checks (R580, R620). -/
theorem putObj_debug {s : State} {x : Tap} (h : (s.withTap x).dbgLock = s.dbgLock) (o : Origin) (key len v : Nat) :
    let act := (rowAt key).any fun r => r.acc = .act
    let st := s.accCheck o key len v (act || s.relOk (s.w key v) key)
    let u := (s.withTap x).putObj o key len v .debug
    (st ≠ 0 → u.tap.objStatus = st ∧ u.regs = s.regs) ∧
    (st = 0 → act = false → s.admits key v = false → u.tap.objStatus = 0 ∧ (key = Reg.timeSYNC_EXPECT → u.r key = v)) := by
  intro act st u
  have hrel : (s.withTap x).relOk ((s.withTap x).w key v) key = s.relOk (s.w key v) key := relOk_withTap s (s.w key v) x key
  have hst : (s.withTap x).accCheck o key len v (act || (s.withTap x).relOk ((s.withTap x).w key v) key) = st := by
    rw [accCheck_withTap h, hrel]
  refine ⟨fun hno => ?_, fun hyes hact hadm => ?_⟩
  · have hu : u = _ := putObj_refused .debug (hst ▸ hno)
    rw [hu]
    exact ⟨hst, rfl⟩
  · rw [hact, Bool.false_or, hyes] at hst
    obtain ⟨t, ht⟩ := putObj_responds .debug hact hst hadm
    have hu : u = t.respond .debug 0 0 := ht
    refine ⟨by rw [hu]; rfl, ?_⟩
    rintro rfl
    have hu : u = _ := putObj_inert .debug hact inert_syncExpect rfl (by decide) (by decide) (by decide) hst
    rw [hu, respond_r, putValue_r _ _ _ _ _ _ (by decide), if_pos rfl]

/-- A block write through DBG_OBJ ends with the status of its checks, else with that of its chapter. -/
theorem putBlock_debug {s : State} {x : Tap} (h : (s.withTap x).dbgLock = s.dbgLock) (o : Origin) (key off : Nat) (d : Bytes) :
    let st := s.blockCheck o key off d.length
    let u := (s.withTap x).putBlock o key off d .debug
    (st ≠ 0 → u.tap.objStatus = st ∧ u.regs = s.regs) ∧ (st = 0 → u.tap.objStatus = (s.blockPut key off d).1) := by
  intro st u
  have hst : (s.withTap x).blockCheck o key off d.length = st := blockCheck_withTap h o key off d.length
  refine ⟨fun hno => ?_, fun hyes => ?_⟩
  · have hu : u = _ := putBlock_refused .debug (hst ▸ hno)
    rw [hu]
    exact ⟨hst, rfl⟩
  · rw [← blockPut_withTap s x key off d]
    by_cases he : ((s.withTap x).blockPut key off d).1 = 0
    · have hu : u = _ := putBlock_done .debug (hst.trans hyes) he
      rw [hu]
      exact he.symm
    · have hu : u = _ := putBlock_failed .debug (hst.trans hyes) he
      rw [hu]
      rfl

end Sys2Proof.Machine
end

section
/-! PROOFS. Memory through the debug port (R581): what the checks let through, the copies of a write to DRAM, and a block that is
lost (R336, R354). -/

namespace Sys2Proof.Machine

/-- The address that an access goes to. -/
abbrev memWord (addr : Nat) : Nat := addr % 2 ^ 40 / 8 * 8

/-! ## Reads and writes by their checks -/

section
variable {s : State} {space addr : Nat} (inc : Bool)

theorem memLook_range (h : s.memEnd space (memWord addr) ≤ memWord addr) :
    s.memLook space addr inc = s.memDone 0x02 (addr % 2 ^ 40) 0 false := if_pos h

theorem memLook_down (h : memWord addr < s.memEnd space (memWord addr)) (hdown : s.memDown space (memWord addr) = true) :
    s.memLook space addr inc = s.used.memDone 0x20 (memWord addr) (s.freeNat % 2 ^ 64) false :=
  (if_neg (Nat.not_le.2 h)).trans (if_pos hdown)

theorem memLook_lost (h : memWord addr < s.memEnd space (memWord addr)) (hup : s.memDown space (memWord addr) = false)
    (hlost : space = 0 ∧ (s.dramCopy (memWord addr)).1 = none) :
    s.memLook space addr inc = (s.memLost (memWord addr) (s.freeNat % 2 ^ 64) false).used :=
  (if_neg (Nat.not_le.2 h)).trans ((if_neg (by rw [hup]; decide)).trans (if_pos ⟨hlost.1, by rw [hlost.2]; rfl⟩))

theorem memLook_reads (h : memWord addr < s.memEnd space (memWord addr)) (hup : s.memDown space (memWord addr) = false)
    (hfound : ¬ (space = 0 ∧ (s.dramCopy (memWord addr)).1 = none)) : s.memLook space addr inc =
      (s.spaceRead space (memWord addr)).2.memDone 0 (memWord addr) (s.spaceRead space (memWord addr)).1 inc :=
  (if_neg (Nat.not_le.2 h)).trans ((if_neg (by rw [hup]; decide)).trans (if_neg fun hc => hfound ⟨hc.1, Option.isNone_iff_eq_none.1 hc.2⟩))

variable (v : Nat)

theorem memStore_readOnly (h : 2 ≤ space) : s.memStore space addr v inc = s.memDone 0x12 (addr % 2 ^ 40) (v % 2 ^ 64) false := if_pos h

variable (hspace : space < 2)
include hspace

theorem memStore_range (h : s.memEnd space (memWord addr) ≤ memWord addr) :
    s.memStore space addr v inc = s.memDone 0x02 (addr % 2 ^ 40) (v % 2 ^ 64) false := (if_neg (Nat.not_le.2 hspace)).trans (if_pos h)

theorem memStore_down (h : memWord addr < s.memEnd space (memWord addr)) (hdown : s.memDown space (memWord addr) = true) :
    s.memStore space addr v inc = s.memDone 0x20 (memWord addr) (v % 2 ^ 64) false :=
  (if_neg (Nat.not_le.2 hspace)).trans ((if_neg (Nat.not_le.2 h)).trans (if_pos hdown))

theorem memStore_lost (h : memWord addr < s.memEnd space (memWord addr)) (hup : s.memDown space (memWord addr) = false)
    (hlost : space = 0 ∧ (s.dramCopy (memWord addr)).1 = none) :
    s.memStore space addr v inc = s.memLost (memWord addr) (v % 2 ^ 64) true :=
  (if_neg (Nat.not_le.2 hspace)).trans ((if_neg (Nat.not_le.2 h)).trans
    ((if_neg (by rw [hup]; decide)).trans (if_pos ⟨hlost.1, by rw [hlost.2]; rfl⟩)))

theorem memStore_writes (h : memWord addr < s.memEnd space (memWord addr)) (hup : s.memDown space (memWord addr) = false)
    (hfound : ¬ (space = 0 ∧ (s.dramCopy (memWord addr)).1 = none)) : s.memStore space addr v inc =
      (s.spaceWrite space (memWord addr) (v % 2 ^ 64)).memDone 0 (memWord addr) (v % 2 ^ 64) inc :=
  (if_neg (Nat.not_le.2 hspace)).trans ((if_neg (Nat.not_le.2 h)).trans
    ((if_neg (by rw [hup]; decide)).trans (if_neg fun hc => hfound ⟨hc.1, Option.isNone_iff_eq_none.1 hc.2⟩)))

end

/-- The registers of the port after an access that ended OK. -/
abbrev Tap.memOk (x : Tap) (a data : Nat) (inc : Bool) : Tap :=
  { x with memStatus := 0, memAddr := if inc then (a + 8) % 2 ^ 40 else a, memData := data }

theorem memDone_ok (s : State) (a data : Nat) (inc : Bool) : s.memDone 0 a data inc = s.withTap (s.tap.memOk a data inc) := by
  unfold State.memDone State.withTap
  simp only [true_and]

/-- An access to an open port is made on the fields that it sets. -/
theorem memAccess_open {s : State} (op space : Nat) (inc : Bool) (f : State → State) (h : s.dbgOpen = true) : s.memAccess op space inc f =
    f (s.withTap { s.tap with ir := 0x11, floating := false, memOp := op, memInc := inc, memSpace := space }) := by
  have hopen : (s.wIr 0x11).dbgOpen = true := h
  unfold State.memAccess
  dsimp only
  rw [if_neg (by rw [hopen]; decide)]
  rfl

/-! ## Reads -/

theorem spaceRead_nvm (s : State) (a : Nat) :
    s.spaceRead 3 a = (if a < 2048 then 0 else leNat (tgetRun nvmErased (s.nvm.seen (a / 256)) a 8), s) := rfl

theorem spaceRead_tables (s : State) (a : Nat) :
    s.spaceRead 2 a = (fld (a % 32768) 8 (padTo 32768 (tget [] s.rad (a / 32768))), s) := rfl

/-- Bytes that debug has written read as written, whatever was there. -/
theorem cellRead_seen {s : State} {cells : List Host.Cell} {seen : List (Nat × Bool)} {a : Nat} (zero : Bool)
    (h : ∀ j, j < 8 → tget false seen (a + j) = true) : (s.cellRead cells seen a zero).1 = leNat (tgetRun 0 cells a 8) ∧
      (s.cellRead cells seen a zero).2 = if zero then s else s.used := by
  unfold State.cellRead
  cases zero with
  | true => exact ⟨rfl, rfl⟩
  | false =>
    refine ⟨congrArg leNat ?_, rfl⟩
    exact List.map_congr_left fun i hi => if_pos (h i (List.mem_range.1 hi))

/-! ## Writes of DRAM: every copy in service (R339) -/

/-- The 8 bytes of copy e of a block at l. -/
def inCopy (l e j : Nat) : Prop := e * 2 ^ 33 + l ≤ j ∧ j < e * 2 ^ 33 + l + 8

/-- Copies do not overlap. -/
theorem inCopy_unique {l d e j : Nat} (hd : inCopy l d j) (he : inCopy l e j) : d = e := by
  obtain ⟨h1, h2⟩ := hd
  obtain ⟨h3, h4⟩ := he
  omega

theorem dramWrite_eq (s : State) (d l v : Nat) : s.dramWrite d l v = { s with mem := { s.mem with
    dram := tsetRun 0 s.mem.dram (d * 2 ^ 33 + l) (leBytes 8 v)
    dramSet := tsetRun false s.mem.dramSet (d * 2 ^ 33 + l) (List.replicate 8 true)
    check := (s.dramWrite d l v).mem.check } } := rfl

theorem dramWrite_in (s : State) {d l j : Nat} (v : Nat) (h : inCopy l d j) :
    tget 0 (s.dramWrite d l v).mem.dram j = (leBytes 8 v).getD (j - (d * 2 ^ 33 + l)) 0 ∧
      tget false (s.dramWrite d l v).mem.dramSet j = true := by
  obtain ⟨h1, h2⟩ := h
  rw [dramWrite_eq]
  dsimp only
  rw [tget_tsetRun, tget_tsetRun, leBytes_length, List.length_replicate, if_pos ⟨h1, h2⟩, if_pos ⟨h1, h2⟩]
  exact ⟨rfl, List.getD_replicate _ (by omega)⟩

theorem dramWrite_out (s : State) {d l j : Nat} (v : Nat) (h : ¬ inCopy l d j) :
    tget 0 (s.dramWrite d l v).mem.dram j = tget 0 s.mem.dram j ∧ tget false (s.dramWrite d l v).mem.dramSet j = tget false s.mem.dramSet j := by
  rw [dramWrite_eq]
  dsimp only
  have h : ¬ (d * 2 ^ 33 + l ≤ j ∧ j < d * 2 ^ 33 + l + 8) := h
  rw [tget_tsetRun, tget_tsetRun, leBytes_length, List.length_replicate, if_neg h, if_neg h]
  exact ⟨rfl, rfl⟩

/-- A write of some copies. -/
def State.dramWrites (s : State) (l v : Nat) (ds : List Nat) : State := s.each ds fun d t => t.dramWrite d l v

theorem dramWrites_cons (s : State) (l v d : Nat) (ds : List Nat) :
    s.dramWrites l v (d :: ds) = (s.dramWrite d l v).dramWrites l v ds := rfl

theorem dramWrites_eq (l v : Nat) (ds : List Nat) (s : State) : s.dramWrites l v ds = { s with mem := { s.mem with
    dram := (s.dramWrites l v ds).mem.dram, dramSet := (s.dramWrites l v ds).mem.dramSet, check := (s.dramWrites l v ds).mem.check } } := by
  induction ds generalizing s with
  | nil => rfl
  | cons d ds ih =>
    rw [dramWrites_cons]
    refine (ih (s.dramWrite d l v)).trans ?_
    generalize (s.dramWrite d l v).dramWrites l v ds = t
    rw [dramWrite_eq]

theorem dramWrites_out {l v j : Nat} (ds : List Nat) (s : State) (h : ∀ e ∈ ds, ¬ inCopy l e j) :
    tget 0 (s.dramWrites l v ds).mem.dram j = tget 0 s.mem.dram j ∧
      tget false (s.dramWrites l v ds).mem.dramSet j = tget false s.mem.dramSet j := by
  induction ds generalizing s with
  | nil => exact ⟨rfl, rfl⟩
  | cons d ds ih =>
    obtain ⟨hdram, hset⟩ := ih (s.dramWrite d l v) fun e he => h e (List.mem_cons_of_mem d he)
    obtain ⟨hdram', hset'⟩ := dramWrite_out s v (h d List.mem_cons_self)
    exact ⟨hdram.trans hdram', hset.trans hset'⟩

/-- The bytes of every copy written are those of the value. -/
theorem dramWrites_in {l v e j : Nat} (ds : List Nat) (s : State) (he : e ∈ ds) (hj : inCopy l e j) :
    tget 0 (s.dramWrites l v ds).mem.dram j = (leBytes 8 v).getD (j - (e * 2 ^ 33 + l)) 0 ∧
      tget false (s.dramWrites l v ds).mem.dramSet j = true := by
  induction ds generalizing s with
  | nil => cases he
  | cons d ds ih =>
    rw [dramWrites_cons]
    by_cases hin : e ∈ ds
    · exact ih _ hin
    · obtain rfl : e = d := (List.mem_cons.1 he).resolve_right hin
      obtain ⟨hdram, hset⟩ := dramWrites_out (v := v) (j := j) ds (s.dramWrite e l v) fun d hd hc =>
        hin (inCopy_unique hc hj ▸ hd)
      obtain ⟨hdram', hset'⟩ := dramWrite_in s v hj
      exact ⟨hdram.trans hdram', hset.trans hset'⟩

theorem dramWrites_run {l v e : Nat} (ds : List Nat) (s : State) (he : e ∈ ds) :
    tgetRun 0 (s.dramWrites l v ds).mem.dram (e * 2 ^ 33 + l) 8 = leBytes 8 v := by
  refine List.ext_getElem (by rw [tgetRun_length, leBytes_length]) fun i hi hx => ?_
  have hi8 : i < 8 := by rwa [tgetRun_length] at hi
  obtain ⟨hdram, -⟩ := dramWrites_in (v := v) (l := l) (j := e * 2 ^ 33 + l + i) ds s he ⟨Nat.le_add_right _ _, by omega⟩
  refine (List.getElem_map _).trans ?_
  rw [List.getElem_range, hdram, Nat.add_sub_cancel_left, List.getD_eq_getElem _ _ hx]

/-- The bytes of a value are those of its lowest 64 bits. -/
theorem leBytes_mod (n v : Nat) : leBytes n (v % 256 ^ n) = leBytes n v := by
  induction n generalizing v with
  | zero => rfl
  | succ n ih =>
    have hhead : BitVec.ofNat 8 (v % 256 ^ (n + 1)) = BitVec.ofNat 8 v := by
      refine BitVec.eq_of_toNat_eq ?_
      rw [BitVec.toNat_ofNat, BitVec.toNat_ofNat]
      exact Nat.mod_mod_of_dvd v ⟨256 ^ n, pow_succ' 256 n⟩
    have htail : v % 256 ^ (n + 1) / 256 = v / 256 % 256 ^ n := by
      rw [pow_succ', Nat.mod_mul_right_div_self]
    unfold leBytes
    rw [hhead, htail, ih]

theorem leBytes_eight (v : Nat) : leBytes 8 (v % 2 ^ 64) = leBytes 8 v := leBytes_mod 8 v

theorem spaceWrite_dram (s : State) (a v : Nat) : s.spaceWrite 0 a v =
    s.dramWrites (s.dramPlace (a / 2 ^ 38) (a % 2 ^ 38)).2 v
      ((s.dramPlace (a / 2 ^ 38) (a % 2 ^ 38)).1.filter fun d => s.rb Reg.memIN_SERVICE d) := rfl

/-- A write to a pool address without records. -/
theorem spaceWrite_pool {s : State} {a : Nat} (v : Nat) (h : s.slotOwner (a / 4194304) = none) : s.spaceWrite 1 a v = s.poolWrite a v := by
  unfold State.spaceWrite
  rw [if_neg (by decide), h]

theorem poolWrite_run (s : State) (a v : Nat) : tgetRun 0 (s.poolWrite a v).mem.pool a 8 = leBytes 8 v := by
  have hrun := tgetRun_tsetRun_same 0 s.mem.pool a (leBytes 8 v)
  rwa [leBytes_length] at hrun

/-! ## A block that is lost (R336, R351, R353, R354) -/

/-- The objects of the memory and of its subchannels. -/
def memObj (k : Nat) : Bool := decide (0x220000 ≤ k ∧ k < 0x224000)

/-- The state but for the memory's objects, its subchannels and its log of errors. -/
def State.sansMem (s : State) : (Nat → Nat) × State :=
  (s.on fun k => !memObj k, { s with regs := [], mem := { s.mem with subs := [], log := [] } })

theorem sansMem_eq {s t : State} (h : t.sansMem = s.sansMem) :
    t = { s with regs := t.regs, mem := { s.mem with subs := t.mem.subs, log := t.mem.log } } := by
  have hstate : ({ t with regs := [], mem := { t.mem with subs := [], log := [] } } : State) =
      { s with regs := [], mem := { s.mem with subs := [], log := [] } } := congrArg Prod.snd h
  exact congrArg (fun u : State => { u with regs := t.regs, mem := { u.mem with subs := t.mem.subs, log := t.mem.log } }) hstate

theorem sansMem_r {s t : State} (h : t.sansMem = s.sansMem) {k : Nat} (hk : memObj k = false) : t.r k = s.r k :=
  on_r (congrArg Prod.fst h) k (by rw [hk]; rfl)

theorem sansMem_w (s : State) {k : Nat} (v : Nat) (hk : memObj k = true) : (s.w k v).sansMem = s.sansMem :=
  Prod.ext (on_w s k v (by rw [hk]; rfl)) rfl

theorem sansMem_memLog (s : State) (d kind symbols source row block : Nat) : (s.memLog d kind symbols source row block).sansMem = s.sansMem := by
  unfold State.memLog
  exact sansMem_w _ _ (by decide)

theorem sansMem_retrainNext (s : State) : s.retrainNext.sansMem = s.sansMem := by
  unfold State.retrainNext
  split
  · rfl
  · split
    · next d hd =>
      have hd := List.mem_range.1 (List.mem_of_find?_eq_some hd)
      dsimp only
      split
      · rfl
      · exact sansMem_w (s.wSubCh d _) _ (decide_eq_true (by unfold Reg.subSUB_STATE; omega))
    · rfl

theorem sansMem_retrainAsk (s : State) {d : Nat} (hd : d < 16) : (s.retrainAsk d).sansMem = s.sansMem := by
  unfold State.retrainAsk
  split
  · rfl
  · exact (sansMem_retrainNext _).trans (sansMem_w (s.wSubCh d _) _ (decide_eq_true (by unfold Reg.subSUB_STATE; omega)))

theorem sansMem_uncorrected (s : State) {d : Nat} (l src : Nat) (hd : d < 16) : (s.uncorrected d l src).sansMem = s.sansMem := by
  have hlog : ((s.bump (Reg.subUE_BLOCKS d)).memLog d 2 0 src (rowOf l).1 (rowOf l).2).sansMem = s.sansMem :=
    (sansMem_memLog _ _ _ _ _ _ _).trans (sansMem_w _ _ (decide_eq_true (by unfold Reg.subUE_BLOCKS; omega)))
  unfold State.uncorrected
  dsimp only
  split
  · exact (sansMem_retrainAsk _ hd).trans hlog
  · exact hlog

/-- A block of a subchannel is counted and entered as lost. -/
def State.lostIn (s : State) (addr : Nat) (write : Bool) (d : Nat) : State :=
  (s.uncorrected d (s.dramPlace (addr / 2 ^ 38) (addr % 2 ^ 38)).2 (sourceOf 3 (addr / 2 ^ 38) false false)).when write fun t =>
    t.partialLost d (s.dramPlace (addr / 2 ^ 38) (addr % 2 ^ 38)).2 (sourceOf 3 (addr / 2 ^ 38) false false)

theorem sansMem_lostIn (s : State) (addr : Nat) (write : Bool) {d : Nat} (hd : d < 16) : (s.lostIn addr write d).sansMem = s.sansMem :=
  (view_when State.sansMem _ write _ (sansMem_memLog _ _ _ _ _ _ _)).trans (sansMem_uncorrected s _ _ hd)

/-- The subchannel in service, if any, that an access to a lost block meets. -/
def State.lostAt (s : State) (addr : Nat) : Option Nat :=
  (s.dramPlace (addr / 2 ^ 38) (addr % 2 ^ 38)).1.find? fun d => s.rb Reg.memIN_SERVICE d

theorem dramLost_none {s : State} {addr : Nat} (write : Bool) (h : s.lostAt addr = none) : s.dramLost addr write = s := by
  unfold State.lostAt at h
  unfold State.dramLost
  dsimp only
  rw [h]

theorem dramLost_some {s : State} {addr d : Nat} (write : Bool) (h : s.lostAt addr = some d) :
    s.dramLost addr write = if addr / 2 ^ 38 = 3 then (s.lostIn addr write d).memFatal else s.lostIn addr write d := by
  unfold State.lostAt at h
  unfold State.dramLost
  dsimp only
  rw [h]
  rfl

/-- Subchannels are 0 to 15. -/
theorem dramPlace_lt (s : State) (r off : Nat) : ∀ d ∈ (s.dramPlace r off).1, d < 16 := by
  have hgetD (l : List Nat) (n m : Nat) (hn : 0 < n) (h : ∀ x ∈ l, x < n) : l.getD m 0 < n := by
    rw [List.getD_eq_getElem?_getD]
    cases hm : l[m]? with
    | none => exact hn
    | some x => exact h x (List.mem_of_getElem? hm)
  have hmirror : ∀ x ∈ s.mirrorChannels, x < 8 := fun x hx => List.mem_range.1 (List.mem_filter.1 hx).1
  have hinter : ∀ x ∈ s.interleave, x < 16 := fun x hx => by
    have hx := (List.mem_filter.1 hx).1
    simp only [List.mem_append, List.mem_map, List.mem_range] at hx
    omega
  intro d hd
  unfold State.dramPlace State.dramUnit at hd
  dsimp only at hd
  by_cases hr : r = 3
  · rw [if_pos hr, if_pos hr] at hd
    have hu := hgetD s.mirrorChannels 8 (off / 2 ^ s.r (Reg.rgnGRAIN_ACTIVE r) % max 1 s.mirrorChannels.length) (by decide) hmirror
    simp only [List.mem_cons, List.not_mem_nil, or_false] at hd
    omega
  · rw [if_neg hr, if_neg hr] at hd
    have hu := hgetD s.interleave 16 (off / 2 ^ s.r (Reg.rgnGRAIN_ACTIVE r) % max 1 s.interleave.length) (by decide) hinter
    simp only [List.mem_cons, List.not_mem_nil, or_false] at hd
    omega

theorem lostAt_lt {s : State} {addr d : Nat} (h : s.lostAt addr = some d) : d < 16 := dramPlace_lt s _ _ d (List.mem_of_find?_eq_some h)

/-- A lost block outside region 3 ends the access with MEM_ERROR, and leaves the port's registers and the cells alone. -/
theorem memLost_error (s : State) {a : Nat} (data : Nat) (write : Bool) (h : a / 2 ^ 38 ≠ 3) :
    (s.memLost a data write).tap = { s.tap with memStatus := 0x20, memAddr := a, memData := data } ∧
      (s.memLost a data write).mem.dram = s.mem.dram := by
  have heq : s.memLost a data write = (s.dramLost a write).memDone 0x20 a data false := if_neg fun hc => h hc.1
  have hsans : (s.dramLost a write).sansMem = s.sansMem := by
    cases hat : s.lostAt a with
    | none => rw [dramLost_none write hat]
    | some d =>
      rw [dramLost_some write hat, if_neg h]
      exact sansMem_lostIn s a write (lostAt_lt hat)
  rw [heq, sansMem_eq hsans]
  exact ⟨rfl, rfl⟩

/-- A wiping reset counts from what the loss of a block leaves alone. -/
theorem wiped_of_sansMem {a b t : State} {cause : Nat} (h : b.sansMem = a.sansMem) (hw : Wiped b t cause) : Wiped a t cause := by
  have hb := sansMem_eq h
  have hclamp : b.clampBanks = a.clampBanks := by
    have htype (j : Nat) (hj : j ∈ List.range 24) : b.r (Reg.bkBANK_TYPE j) = a.r (Reg.bkBANK_TYPE j) :=
      sansMem_r h (decide_eq_false (by have := List.mem_range.1 hj; unfold Reg.bkBANK_TYPE; omega))
    unfold State.clampBanks State.rb
    rw [sansMem_r h (k := Reg.thmDOMAINS_UP) (by decide), show b.d2d = a.d2d by rw [hb]]
    exact List.foldl_ext _ _ _ fun m j hj => by rw [htype j hj]
  obtain ⟨hother, hpair, hpend, hup, hfac, hmem, hod, htly, hheads, hbanks, hring, htap, hobj, hmemst, hd2d, hret⟩ := hw
  refine ⟨hother, fun k hk => (hpair k hk).trans (sansMem_r h ?_), hpend.trans (by rw [hb]), hup.trans (by rw [hb]; rfl),
    hfac.trans (by rw [hb]), hmem, hod, htly, hheads, hbanks, hring, htap, hobj, hmemst, hd2d.trans hclamp, hret.trans (by rw [hb])⟩
  unfold pairCounters at hk
  simp only [List.mem_cons, List.not_mem_nil, or_false] at hk
  rcases hk with rfl | rfl | rfl | rfl <;> decide

/-- A lost block of region 3 resets the device (R354). -/
theorem memLost_wiped {s : State} {a : Nat} (data : Nat) (write : Bool) (h : a / 2 ^ 38 = 3) (hheld : s.stopHeld = false)
    (hin : ∃ e ∈ (s.dramPlace (a / 2 ^ 38) (a % 2 ^ 38)).1, s.rb Reg.memIN_SERVICE e = true) : Wiped s (s.memLost a data write) 5 := by
  obtain ⟨e, he, hserv⟩ := hin
  obtain ⟨d, hat⟩ : ∃ d, s.lostAt a = some d := Option.isSome_iff_exists.1 (List.find?_isSome.2 ⟨e, he, hserv⟩)
  have heq : s.memLost a data write = s.dramLost a write :=
    if_pos ⟨h, by rw [hheld]; rfl, List.any_eq_true.2 ⟨e, h ▸ he, hserv⟩⟩
  have hsans := sansMem_lostIn s a write (lostAt_lt hat)
  have hheld' : (s.lostIn a write d).stopHeld = false := by
    rw [← hheld]
    unfold State.stopHeld
    rw [sansMem_r hsans (k := Reg.opDEVICE_STATE) (by decide), sansMem_r hsans (k := Reg.thmSTOP_CAUSE) (by decide)]
  rw [heq, dramLost_some write hat, if_pos h, State.memFatal, if_neg (by rw [hheld']; decide)]
  exact wiped_of_sansMem hsans (wipe_wiped _ 5)

theorem wiped_used {a t : State} {cause : Nat} (h : Wiped a t cause) : Wiped a t.used cause := h

end Sys2Proof.Machine
end

section
/-! PROOFS. Unlocking (R579) and the steps of halted blocks (R585). -/

namespace Sys2Proof.Machine

/-! ## Unlocking (R579) -/

theorem event_tap (s : State) (code inst data : Nat) : (s.event code inst data).tap = s.tap := by rw [event_eq]

theorem event_ret (s : State) (code inst data : Nat) : (s.event code inst data).ret = s.ret := by rw [event_eq]

/-- The registers of the port as DBG_UNLOCK captures the challenge. -/
abbrev Tap.unlocking (x : Tap) : Tap := { x with ir := 0x13, floating := false, dr := leNat x.challenge }

/-- A lockout ignores the response. -/
theorem unlock_locked {s : State} (resp : Bytes) (hlc : s.fac.lifeCycle = 2) (h : s.dbgLock = 3) :
    s.unlock resp = s.withTap s.tap.unlocking := by
  have hlock : (s.withTap s.tap.unlocking).dbgLock = 3 := h
  exact (if_neg (not_not_intro hlc)).trans (if_pos hlock)

theorem unlock_tries {s : State} (resp : Bytes) (hlc : s.fac.lifeCycle = 2) (h : s.dbgLock ≠ 3) :
    s.unlock resp = (s.withTap s.tap.unlocking).unlockTry resp := by
  have hlock : (s.withTap s.tap.unlocking).dbgLock ≠ 3 := h
  exact (if_neg (not_not_intro hlc)).trans (if_neg hlock)

/-- A match unlocks the port and clears the count. -/
theorem unlockTry_match {s : State} {resp : Bytes} (hlc : s.fac.lifeCycle = 2) (h : s.unlockWord = some resp) :
    (s.unlockTry resp).tap.unlocked = true ∧ (s.unlockTry resp).ret.unlockFails = 0 ∧ (s.unlockTry resp).tap.dr = s.tap.dr ∧
      (s.unlockTry resp).dbgLock = 2 := by
  have heq : s.unlockTry resp = _ := if_pos h
  rw [heq, dbgLock_eq, event_tap, event_ret, event_fac]
  exact ⟨rfl, rfl, rfl, (if_neg (not_not_intro hlc)).trans (if_pos rfl)⟩

/-- A mismatch counts, and the third in a row locks out for 60 s. -/
theorem unlockTry_mismatch {s : State} {resp : Bytes} (h : s.unlockWord ≠ some resp) :
    (s.unlockTry resp).tap.unlocked = s.tap.unlocked ∧ (s.unlockTry resp).ret.unlockFails = min 255 (s.ret.unlockFails + 1) ∧
      (s.unlockTry resp).tap.lockout = if 2 ≤ s.ret.unlockFails then some (s.up + 60000000000) else s.tap.lockout := by
  have heq : s.unlockTry resp = _ := if_neg h
  have hthird : 3 ≤ min 255 (s.ret.unlockFails + 1) ↔ 2 ≤ s.ret.unlockFails := by omega
  rw [heq]
  simp only [event_tap, event_ret]
  by_cases h3 : 2 ≤ s.ret.unlockFails
  · rw [if_pos (hthird.2 h3), if_pos h3]
    exact ⟨rfl, rfl, rfl⟩
  · rw [if_neg (mt hthird.1 h3), if_neg h3]
    exact ⟨rfl, rfl, rfl⟩

/-- The end of a lockout (R579). -/
theorem lockoutOver_eq {s : State} {t0 : Nat} (h : s.tap.lockout = some t0) :
    s.lockoutOver = if t0 ≤ s.up then s.withTap { s.tap with lockout := none } else s := by
  unfold State.lockoutOver
  rw [h]
  rfl

/-! ## What accepting an action leaves of the halts -/

/-- What is halted (R582). -/
def haltedKey (k : Nat) : Bool := decide (k = 0x600009 ∨ k = 0x60000A ∨ k = 0x60000B)

theorem plainKey_halted {k : Nat} (h : haltedKey k = true) : plainKey k = true :=
  decide_eq_true (by have := of_decide_eq_true h; omega)

/-- A hit asks for halts; what is halted is left to the blocks. -/
theorem halted_bpHit (s : State) (b : Bp) : (s.bpHit b).on haltedKey = s.on haltedKey := by
  have hevent (t : State) (code inst data : Nat) : (t.event code inst data).on haltedKey = t.on haltedKey :=
    on_of_r fun k hk => on_r (plain_event t code inst data) k (plainKey_halted hk)
  have hask {k : Nat} (hk : k < 0x600004) : haltedKey k = false := decide_eq_false (by omega)
  have hbp {k : Nat} (hk : 0x601000 ≤ k) : haltedKey k = false := decide_eq_false (by omega)
  unfold State.bpHit
  refine (on_when _ _ _ (on_w _ _ _ (hbp (by unfold Reg.bpBP_KIND; omega)))).trans ((hevent _ _ _ _).trans ?_)
  refine (on_w _ _ _ (hbp (by unfold Reg.bpBP_LAST; omega))).trans ((on_w _ _ _ (hbp (by unfold Reg.bpBP_HITS; omega))).trans ?_)
  refine (on_when _ _ _ (on_w _ _ _ (hask (by decide)))).trans ?_
  exact (on_w _ _ _ (hask (by decide))).trans (on_w _ _ _ (hask (by decide)))

theorem halted_actStart (s : State) (src key v len : Nat) : (s.actStart src key v len).on haltedKey = s.on haltedKey := by
  have hentry (t : State) (kind result token value : Nat) : (t.tlyAdd src kind key result token value).on haltedKey = t.on haltedKey :=
    on_of_r fun k hk => on_r (plain_tlyAdd t src kind key result token value) k (plainKey_halted hk)
  have htoken : haltedKey Reg.actLAST_TOKEN = false := by decide
  unfold State.actStart
  refine (on_each _ _ _ fun _ _ t => on_when t _ _ (halted_bpHit _ _)).trans ((on_of_regs (regs_forward _ _ _ _ _)).trans ?_)
  exact (hentry _ _ _ _ _).trans ((on_w (s.toADie key) _ _ htoken).trans (on_of_regs (regs_toADie s key)))

/-! ## Steps (R585) -/

/-- The ends of the step actions. -/
def stepKey (k : Nat) : Bool := decide (k = Reg.dbgSTEP_PIPES ∨ k = Reg.dbgSTEP_STATIONS ∨ k = Reg.dbgSTEP_TICK)

/-- A running step ends with its result; the token stands in the response, and the blocks are left as they are. -/
theorem stepDone_spec {s : State} {key : Nat} (v : Nat) (ok : Bool) (hkey : stepKey key = true) (hbusy : (s.act key).busy = true) :
    (s.actDone key v ok).od.rsp = s.od.rsp ∧ (s.actDone key v ok).r Reg.dbgSTEP_RESULT = v ∧ (s.actDone key v ok).boot = s.boot := by
  have hresult : resultOf key = some Reg.dbgSTEP_RESULT := by
    rcases of_decide_eq_true hkey with rfl | rfl | rfl <;> rfl
  have hrow : (rowAt Reg.dbgSTEP_RESULT).any (fun (r : ObjRow) => decide (r.ty = Ty.str)) = false := by decide
  have hplain : plainKey Reg.dbgSTEP_RESULT = true := by decide
  refine ⟨actDone_rsp s key v ok, ?_, by rw [actDone_eq]⟩
  unfold State.actDone
  dsimp only
  rw [if_pos hbusy, on_r (plain_tlyAdd _ _ _ _ _ _ _) _ hplain, hresult]
  dsimp only
  rw [if_neg (by rw [hrow]; decide)]
  exact (State.w_r s _ v _).trans (if_pos rfl)

/-- The state in which an accepted step acts: its token is answered, it runs, and the blocks are as they were. -/
theorem stepStart_spec (s : State) (src v len : Nat) {key : Nat} (hkey : stepKey key = true) : let u := s.actStart src key v len
    u.od.rsp = ⟨0, s.nextToken, []⟩ ∧ (u.act key).busy = true ∧ u.book = s.book ∧ u.on haltedKey = s.on haltedKey := by
  obtain ⟨hrsp, -, hacts⟩ := actStart_spec s src key v len
  refine ⟨hrsp, by rw [State.act, hacts, tget_tset, if_pos rfl], book_actStart_of s ?_, halted_actStart s src key v len⟩
  rcases of_decide_eq_true hkey with rfl | rfl | rfl <;> decide

/-- The blocks that a mask names are all halted. -/
theorem maskBits_all (n v : Nat) (p : Nat → Bool) : (maskBits n v).all p = (List.range n).all fun h => !bit h v || p h := by
  unfold maskBits
  exact List.all_filter

theorem stepPipesRun_spec {s : State} (v : Nat) (hbusy : (s.act Reg.dbgSTEP_PIPES).busy = true) :
    let all_ := (List.range 32).all fun h => !bit h v || s.rb Reg.dbgHALTED_PIPES h
    (s.stepPipesRun v).od.rsp = s.od.rsp ∧ (s.stepPipesRun v).r Reg.dbgSTEP_RESULT = (if v = 0 then 2 else if all_ = true then 0 else 1) ∧
      (s.stepPipesRun v).boot.stepPipes = if v ≠ 0 ∧ all_ = true then s.boot.stepPipes ||| v else s.boot.stepPipes := by
  intro all_
  have hkey : stepKey Reg.dbgSTEP_PIPES = true := by decide
  unfold State.stepPipesRun
  rw [maskBits_all]
  by_cases hv : v = 0
  · obtain ⟨hrsp, hr, hboot⟩ := stepDone_spec 2 false hkey hbusy
    rw [if_pos hv, if_pos hv, if_neg (fun hc => hc.1 hv), hrsp, hr, hboot]
    exact ⟨rfl, rfl, rfl⟩
  · rw [if_neg hv, if_neg hv]
    by_cases hall : all_ = true
    · obtain ⟨hrsp, hr, hboot⟩ := stepDone_spec (s := { s with boot := { s.boot with stepPipes := s.boot.stepPipes ||| v } }) 0 true hkey hbusy
      rw [if_neg (show ¬ (!all_) = true by rw [hall]; decide), if_pos hall, if_pos ⟨hv, hall⟩, hrsp, hr, hboot]
      exact ⟨rfl, rfl, rfl⟩
    · obtain ⟨hrsp, hr, hboot⟩ := stepDone_spec 1 false hkey hbusy
      rw [if_pos (show (!all_) = true by rw [Bool.eq_false_iff.2 hall]; rfl), if_neg hall, if_neg (fun hc => hall hc.2), hrsp, hr, hboot]
      exact ⟨rfl, rfl, rfl⟩

/-- Stations that take one step, with the heads present now. -/
def State.stationSteps (s : State) (l : List Nat) : State :=
  s.each l fun st t => { t with boot := { t.boot with stepStations := tset 0 t.boot.stepStations st (t.presentHeads st) } }

theorem stationSteps_spec (l : List Nat) (s : State) : s.stationSteps l = { s with boot := (s.stationSteps l).boot } ∧
    ∀ h, tget 0 (s.stationSteps l).boot.stepStations h = if h ∈ l then s.presentHeads h else tget 0 s.boot.stepStations h := by
  induction l generalizing s with
  | nil => exact ⟨rfl, fun h => (if_neg List.not_mem_nil).symm⟩
  | cons st l ih =>
    generalize ht : ({ s with boot := { s.boot with stepStations := tset 0 s.boot.stepStations st (s.presentHeads st) } } : State) = t
    have hcons : s.stationSteps (st :: l) = t.stationSteps l := congrArg (fun u : State => u.stationSteps l) ht
    have hheads (h : Nat) : t.presentHeads h = s.presentHeads h := by rw [← ht]; rfl
    have hone (h : Nat) : tget 0 t.boot.stepStations h = if h = st then s.presentHeads st else tget 0 s.boot.stepStations h := by
      rw [← ht]
      exact tget_tset _ _ _ _ _
    obtain ⟨hstate, hall⟩ := ih t
    rw [hcons]
    refine ⟨hstate.trans (by rw [← ht]), fun h => ?_⟩
    rw [hall h, hheads, hone]
    by_cases hin : h ∈ l
    · rw [if_pos hin, if_pos (List.mem_cons_of_mem st hin)]
    · rw [if_neg hin]
      by_cases hst : h = st
      · rw [if_pos hst, if_pos (hst ▸ List.mem_cons_self), hst]
      · rw [if_neg hst, if_neg (by simp [hst, hin])]

theorem stepStationsRun_spec {s : State} (v : Nat) (hbusy : (s.act Reg.dbgSTEP_STATIONS).busy = true) :
    let all_ := (List.range 8).all fun h => !bit h v || s.rb Reg.dbgHALTED_STATIONS h
    (s.stepStationsRun v).od.rsp = s.od.rsp ∧
      (s.stepStationsRun v).r Reg.dbgSTEP_RESULT = (if v = 0 then 2 else if all_ = true then 0 else 1) ∧
      ∀ h, h < 8 → tget 0 (s.stepStationsRun v).boot.stepStations h =
        if all_ = true ∧ bit h v = true then s.presentHeads h else tget 0 s.boot.stepStations h := by
  intro all_
  have hkey : stepKey Reg.dbgSTEP_STATIONS = true := by decide
  have hmem (h : Nat) (h8 : h < 8) : h ∈ maskBits 8 v ↔ bit h v = true := by
    unfold maskBits
    rw [List.mem_filter, List.mem_range]
    exact ⟨fun hc => hc.2, fun hb => ⟨h8, hb⟩⟩
  unfold State.stepStationsRun
  rw [maskBits_all]
  by_cases hv : v = 0
  · have hbit (h : Nat) : bit h v = false := by rw [hv]; unfold bit; simp
    obtain ⟨hrsp, hr, hboot⟩ := stepDone_spec 2 false hkey hbusy
    rw [if_pos hv, if_pos hv, hrsp, hr, hboot]
    exact ⟨rfl, rfl, fun h _ => (if_neg fun hc => by rw [hbit h] at hc; exact absurd hc.2 (by decide)).symm⟩
  · rw [if_neg hv, if_neg hv]
    by_cases hall : all_ = true
    · obtain ⟨hstate, hsteps⟩ := stationSteps_spec (maskBits 8 v) s
      have hact : ((s.stationSteps (maskBits 8 v)).act Reg.dbgSTEP_STATIONS).busy = true := by rw [hstate]; exact hbusy
      obtain ⟨hrsp, hr, hboot⟩ := stepDone_spec 0 true hkey hact
      rw [if_neg (show ¬ (!all_) = true by rw [hall]; decide), if_pos hall]
      refine ⟨hrsp.trans (by rw [hstate]), hr, fun h h8 => ?_⟩
      refine (congrArg (fun b : Boot => tget 0 b.stepStations h) hboot).trans ((hsteps h).trans ?_)
      by_cases hb : bit h v = true
      · rw [if_pos ((hmem h h8).2 hb), if_pos ⟨hall, hb⟩]
      · rw [if_neg (mt (hmem h h8).1 hb), if_neg fun hc => hb hc.2]
    · obtain ⟨hrsp, hr, hboot⟩ := stepDone_spec 1 false hkey hbusy
      rw [if_pos (show (!all_) = true by rw [Bool.eq_false_iff.2 hall]; rfl), if_neg hall, hrsp, hr, hboot]
      exact ⟨rfl, rfl, fun h _ => (if_neg fun hc => hall hc.1).symm⟩

theorem stepTickRun_spec {s : State} (hbusy : (s.act Reg.dbgSTEP_TICK).busy = true) :
    s.stepTickRun.od.rsp = s.od.rsp ∧ s.stepTickRun.r Reg.dbgSTEP_RESULT = (if s.r Reg.dbgZONES_HALTED = 0 then 1 else 0) ∧
      s.stepTickRun.boot.stepTick = (s.boot.stepTick || decide (s.r Reg.dbgZONES_HALTED ≠ 0)) := by
  have hkey : stepKey Reg.dbgSTEP_TICK = true := by decide
  unfold State.stepTickRun
  by_cases hz : s.r Reg.dbgZONES_HALTED = 0
  · obtain ⟨hrsp, hr, hboot⟩ := stepDone_spec 1 false hkey hbusy
    rw [if_pos hz, if_pos hz, hrsp, hr, hboot, decide_eq_false (not_not_intro hz), Bool.or_false]
    exact ⟨rfl, rfl, rfl⟩
  · obtain ⟨hrsp, hr, hboot⟩ := stepDone_spec (s := { s with boot := { s.boot with stepTick := true } }) 0 true hkey hbusy
    rw [if_neg hz, if_neg hz, hrsp, hr, hboot, decide_eq_true hz, Bool.or_true]
    exact ⟨rfl, rfl, rfl⟩

/-- The heads present at a station do not depend on bookkeeping. -/
theorem presentHeads_of_book {s t : State} (h : t.book = s.book) {st : Nat} (hst : st < 8) : t.presentHeads st = s.presentHeads st := by
  have heq := book_eq h
  have hblob (k : Nat) : t.blob k = s.blob k := by rw [heq]; rfl
  have hstn (k : Nat) : t.slotRun k = s.slotRun k := by rw [heq]; rfl
  unfold State.presentHeads
  refine List.foldl_ext _ _ _ fun m j hj => ?_
  have hj := List.mem_range.1 hj
  have hhead : t.slotHead (8 * st + j) = s.slotHead (8 * st + j) :=
    book_r h _ (decide_eq_false (by unfold Reg.slotHEAD; omega))
  dsimp only
  rw [hhead]
  by_cases h32 : s.slotHead (8 * st + j) < 32
  · have hkey {k : Nat} (h1 : 0x300000 ≤ k) (h2 : k < 0x500000) : t.r k = s.r k := book_r h k (decide_eq_false (by omega))
    have hpresent : t.slotPresent (8 * st + j) = s.slotPresent (8 * st + j) := by
      unfold State.slotPresent State.slotMismatch State.slotMap State.attach
      dsimp only
      rw [hhead, hblob, hstn, hkey (k := Reg.hdATTACH_STATE _) (by unfold Reg.hdATTACH_STATE; omega) (by unfold Reg.hdATTACH_STATE; omega),
        hkey (k := Reg.hdNATIVE_W _) (by unfold Reg.hdNATIVE_W; omega) (by unfold Reg.hdNATIVE_W; omega),
        hkey (k := Reg.hdNATIVE_H _) (by unfold Reg.hdNATIVE_H; omega) (by unfold Reg.hdNATIVE_H; omega)]
    rw [hpresent]
  · rw [if_neg fun hc => h32 hc.1, if_neg fun hc => h32 hc.1]

end Sys2Proof.Machine
end

section
/-! PROOFS. Unlocking and debug accesses (O58). -/

namespace Sys2Proof.Machine

/-! ## Accesses through DBG_OBJ (R580) -/

section
variable (dt i sub len off v : Nat) (s : State)

/-- The accesses of DBG_OBJ. -/
abbrev objCmds : List Instr := [.dbgObjRead dt i sub, .dbgObjWrite dt i sub len v, .dbgObjBlockRead dt i sub len off,
  .dbgObjBlockStage dt len off v, .dbgObjBlockApply dt i sub off]

/-- The state in which an access is made: the port's registers with the fields that the access sets. -/
def State.asked (s : State) (q : ObjReq) : State := s.withTap (({ s.tap with ir := 0x10, floating := false } : Tap).objSet q)

theorem dbgLock_asked (s : State) (q : ObjReq) : (s.asked q).dbgLock = s.dbgLock := dbgLock_objSet s q

theorem objCmds_running {c : Instr} (hc : c ∈ objCmds dt i sub len off v) (hopen : (s.advance dt).dbgOpen = true)
    (hrun : (s.advance dt).tap.objStatus = 0xFE) :
    exec c s = .next ((s.advance dt).withTap { (s.advance dt).tap with ir := 0x10, floating := false }) := by
  simp only [List.mem_cons, List.not_mem_nil, or_false] at hc
  rcases hc with rfl | rfl | rfl | rfl | rfl <;> exact congrArg Host.Outcome.next (objAccess_running _ _ hopen hrun)

end

/-- A single-object write through the port, once its access is made. -/
theorem objWrite_asked (s : State) (q : ObjReq) (key len v : Nat) : (s.asked q).objWrite key len v =
    ((s.withTap (s.asked q).tap.running).putObj ⟨0x40, s.epoch⟩ key len (if len ≤ 8 then v % 256 ^ len else v) .debug).done := rfl

theorem dbgLock_running (s : State) (q : ObjReq) : (s.withTap (s.asked q).tap.running).dbgLock = s.dbgLock := dbgLock_withTap s rfl rfl

/-- The block write of the staged bytes. -/
def State.stagedWrite (s : State) (q : ObjReq) (key off : Nat) : State :=
  (s.withTap (s.asked q).tap.running).putBlock ⟨0x40, s.epoch⟩ key 0 (tgetRun 0 s.tap.staging 0 (min off 65536)) .debug

theorem objApply_asked (s : State) (q : ObjReq) (key off : Nat) : (s.asked q).objApply key off =
    if (rowAt key).any fun (r : ObjRow) => decide (r.ty ≠ Ty.block) then (s.stagedWrite q key off).done
    else { (s.stagedWrite q key off).done with tap := { (s.stagedWrite q key off).done.tap with objOffset := 0 } } := rfl

/-- DBG_RELOCK keeps the response with its token, and locks the port (R591). -/
theorem relockRun_spec (s : State) : s.relockRun.od.rsp = s.od.rsp ∧ s.relockRun.tap.unlocked = false := by
  unfold State.relockRun
  exact ⟨actDone_rsp _ _ _ _, by rw [actDone_eq]⟩

/-! ## Accesses through DBG_MEM (R581) -/

theorem memDone_failed (s : State) {status : Nat} (a data : Nat) (h : status ≠ 0) :
    s.memDone status a data false = s.withTap { s.tap with memStatus := status, memAddr := a, memData := data } := by
  unfold State.memDone State.withTap
  simp only [h, Bool.false_eq_true, and_self, if_false]

/-- The copies of an address that are in service. -/
def State.liveCopies (s : State) (a : Nat) : List Nat :=
  (s.dramPlace (a / 2 ^ 38) (a % 2 ^ 38)).1.filter fun d => s.rb Reg.memIN_SERVICE d

theorem mem_liveCopies (s : State) (a e : Nat) : e ∈ s.liveCopies a ↔
    e ∈ (s.dramPlace (a / 2 ^ 38) (a % 2 ^ 38)).1 ∧ s.rb Reg.memIN_SERVICE e = true := List.mem_filter

section
variable {s : State} {addr d l : Nat} (inc : Bool) (v : Nat) (h : memWord addr < s.memEnd 0 (memWord addr))
  (hup : s.memDown 0 (memWord addr) = false) (hcopy : s.dramCopy (memWord addr) = (some d, l))
include h hup hcopy

/-- A write to DRAM goes to every copy in service. -/
theorem memStore_dram : s.memStore 0 addr v inc = ((s.dramWrites l (v % 2 ^ 64) (s.liveCopies (memWord addr))).withTap
    (s.tap.memOk (memWord addr) (v % 2 ^ 64) inc)) := by
  have hl : (s.dramPlace (memWord addr / 2 ^ 38) (memWord addr % 2 ^ 38)).2 = l := congrArg Prod.snd hcopy
  have htap : (s.dramWrites l (v % 2 ^ 64) (s.liveCopies (memWord addr))).tap = s.tap := by rw [dramWrites_eq]
  rw [memStore_writes inc v (by decide) h hup (by rw [hcopy]; simp), memDone_ok, spaceWrite_dram, hl]
  exact congrArg (fun x : Tap => State.withTap _ (x.memOk _ _ _)) htap

/-- A read from DRAM of bytes that debug has written. -/
theorem memLook_dram (hset : ∀ j, j < 8 → tget false s.mem.dramSet (d * 2 ^ 33 + l + j) = true) :
    (s.memLook 0 addr inc).tap = s.tap.memOk (memWord addr) (leNat (tgetRun 0 s.mem.dram (d * 2 ^ 33 + l) 8)) inc ∧
      (s.memLook 0 addr inc).mem = s.mem ∧ (s.memLook 0 addr inc).regs = s.regs := by
  obtain ⟨hval, hstate⟩ := cellRead_seen (s := s) (cells := s.mem.dram) (s.dramZero (memWord addr / 2 ^ 38)) hset
  have hread : s.spaceRead 0 (memWord addr) =
      s.cellRead s.mem.dram s.mem.dramSet (d * 2 ^ 33 + l) (s.dramZero (memWord addr / 2 ^ 38)) := by
    show s.cellRead _ _ ((s.dramCopy (memWord addr)).1.getD 0 * 2 ^ 33 + (s.dramCopy (memWord addr)).2) _ = _
    rw [hcopy]
    rfl
  rw [memLook_reads inc h hup (by rw [hcopy]; simp), memDone_ok, hread, hval, hstate]
  split <;> exact ⟨rfl, rfl, rfl⟩

end

/-- A write to a pool address without records. -/
theorem memStore_pool {s : State} {addr : Nat} (inc : Bool) (v : Nat) (h : memWord addr < 33554432) (hup : s.domUp 15 = true)
    (hfree : s.slotOwner (memWord addr / 4194304) = none) : s.memStore 1 addr v inc =
      (s.poolWrite (memWord addr) (v % 2 ^ 64)).withTap (s.tap.memOk (memWord addr) (v % 2 ^ 64) inc) := by
  have hdown : s.memDown 1 (memWord addr) = false := by
    show (decide (1 = 1) && !s.domUp 15) = false
    rw [hup]
    rfl
  rw [memStore_writes inc v (by decide) h hdown (by simp), memDone_ok, spaceWrite_pool _ hfree]
  rfl

/-- What a write to DRAM leaves: the value in every copy in service, and all else as it was. -/
theorem dramWrites_copies (s : State) (l v a : Nat) :
    let t := s.dramWrites l (v % 2 ^ 64) (s.liveCopies a)
    let ds := (s.dramPlace (a / 2 ^ 38) (a % 2 ^ 38)).1
    let in_ := fun (j : Nat) => ∃ e, e ∈ ds ∧ s.rb Reg.memIN_SERVICE e = true ∧ e * 2 ^ 33 + l ≤ j ∧ j < e * 2 ^ 33 + l + 8
    (∀ e, e ∈ ds → s.rb Reg.memIN_SERVICE e = true → tgetRun 0 t.mem.dram (e * 2 ^ 33 + l) 8 = leBytes 8 v) ∧
      ∀ j, (in_ j → tget false t.mem.dramSet j = true) ∧
        (¬ in_ j → tget 0 t.mem.dram j = tget 0 s.mem.dram j ∧ tget false t.mem.dramSet j = tget false s.mem.dramSet j) := by
  intro t ds in_
  refine ⟨fun e he hserv => ?_, fun j => ⟨?_, fun hout => ?_⟩⟩
  · rw [← leBytes_eight v]
    exact dramWrites_run _ _ ((mem_liveCopies s a e).2 ⟨he, hserv⟩)
  · rintro ⟨e, he, hserv, hj⟩
    exact (dramWrites_in _ _ ((mem_liveCopies s a e).2 ⟨he, hserv⟩) hj).2
  · refine dramWrites_out _ _ fun e he hj => ?_
    obtain ⟨hds, hserv⟩ := (mem_liveCopies s a e).1 he
    exact hout ⟨e, hds, hserv, hj⟩

/-- A write to DRAM: the port's registers, the state but for the cells, and the cells. -/
theorem memStore_copies {s : State} {addr d l : Nat} (inc : Bool) (v : Nat) (h : memWord addr < s.memEnd 0 (memWord addr))
    (hup : s.memDown 0 (memWord addr) = false) (hcopy : s.dramCopy (memWord addr) = (some d, l)) :
    let t := s.memStore 0 addr v inc
    let ds := (s.dramPlace (memWord addr / 2 ^ 38) (memWord addr % 2 ^ 38)).1
    let in_ := fun (j : Nat) => ∃ e, e ∈ ds ∧ s.rb Reg.memIN_SERVICE e = true ∧ e * 2 ^ 33 + l ≤ j ∧ j < e * 2 ^ 33 + l + 8
    t.tap = s.tap.memOk (memWord addr) (v % 2 ^ 64) inc ∧
      t = { s with tap := t.tap, mem := { s.mem with dram := t.mem.dram, dramSet := t.mem.dramSet, check := t.mem.check } } ∧
      (∀ e, e ∈ ds → s.rb Reg.memIN_SERVICE e = true → tgetRun 0 t.mem.dram (e * 2 ^ 33 + l) 8 = leBytes 8 v) ∧
      ∀ j, (in_ j → tget false t.mem.dramSet j = true) ∧
        (¬ in_ j → tget 0 t.mem.dram j = tget 0 s.mem.dram j ∧ tget false t.mem.dramSet j = tget false s.mem.dramSet j) := by
  intro t ds in_
  have ht : t = _ := memStore_dram inc v h hup hcopy
  have hstate := dramWrites_eq l (v % 2 ^ 64) (s.liveCopies (memWord addr)) s
  obtain ⟨hrun, hcells⟩ := dramWrites_copies s l v (memWord addr)
  generalize s.dramWrites l (v % 2 ^ 64) (s.liveCopies (memWord addr)) = u at ht hstate hrun hcells
  rw [ht]
  exact ⟨rfl, congrArg (State.withTap · _) hstate, hrun, hcells⟩

end Sys2Proof.Machine

open Sys2Proof Sys2Proof.Machine

/-- Settles O58: each access by what its checks let through, each step by what is halted. -/
theorem debugAccess : Obligations.DebugAccess := by
  intro dt i sub len off v addr sp inc resp o s a x key w acc tok sel
  refine ⟨fun hlc => ?_, fun t0 ht => ?_, fun hacc => ?_, fun hopen => ?_, fun hopen => ?_, fun hacc => ?_, fun hacc => ?_, fun hacc => ?_⟩
  · refine ⟨fun hlock => ⟨_, rfl, unlock_locked resp hlc hlock⟩, fun hlock => ?_⟩
    have hexec : exec (.dbgUnlock dt resp) s = .next ((a.withTap a.tap.unlocking).unlockTry resp) :=
      congrArg Host.Outcome.next (unlock_tries resp hlc hlock)
    exact ⟨fun hword => ⟨_, hexec, unlockTry_match (s := a.withTap a.tap.unlocking) hlc hword⟩,
      fun hword => ⟨_, hexec, unlockTry_mismatch (s := a.withTap a.tap.unlocking) hword⟩⟩
  · have hexec : exec (.unlockLockoutEnd dt) s = .next a.lockoutOver := rfl
    have hover := lockoutOver_eq ht
    split
    · next h => exact ⟨_, hexec, hover.trans (if_pos h)⟩
    · next h => exact ⟨_, hexec, hover.trans (if_neg h)⟩
  · have hexec : exec (.dbgRelock dt o v) s = .next (a.actStart o.src Reg.dbgDBG_RELOCK v (keySize Reg.dbgDBG_RELOCK)).relockRun :=
      congrArg Host.Outcome.next (actBy_starts (fun t => t.relockRun) hacc)
    obtain ⟨hrsp, -, -⟩ := actStart_spec a o.src Reg.dbgDBG_RELOCK v (keySize Reg.dbgDBG_RELOCK)
    exact ⟨_, hexec, (relockRun_spec _).1.trans hrsp, (relockRun_spec _).2⟩
  · refine ⟨fun hrun c hc => ⟨_, objCmds_running dt i sub len off v s hc hopen hrun, rfl⟩, fun hidle => ?_⟩
    intro r bl n act st d bst z3 z4
    have hask (q : ObjReq) (f : State → State) : a.objAccess q f = f (a.asked q) := objAccess_open q f hopen hidle
    have hread : exec (.dbgObjRead dt i sub) s = _ := congrArg Host.Outcome.next (hask _ _)
    have hwrite : exec (.dbgObjWrite dt i sub len v) s = _ := congrArg Host.Outcome.next (hask _ _)
    have hblock : exec (.dbgObjBlockRead dt i sub len off) s = _ := congrArg Host.Outcome.next (hask _ _)
    have hstage : exec (.dbgObjBlockStage dt len off v) s = _ := congrArg Host.Outcome.next (hask _ _)
    have happly : exec (.dbgObjBlockApply dt i sub off) s = _ := congrArg Host.Outcome.next (hask _ _)
    obtain ⟨hno, hyes⟩ := putObj_debug (dbgLock_running a { op := 2, index := some i, sub := some sub, len := some len, data := some v })
      w key len n
    obtain ⟨hbno, hbyes⟩ := putBlock_debug (dbgLock_running a { op := 5, index := some i, sub := some sub, off := some off }) w key 0 d
    exact ⟨⟨_, hread, objRead_withTap (dbgLock_asked a _) key⟩,
      fun h => ⟨_, hwrite.trans (congrArg _ (objWrite_asked a _ key len v)), hno h⟩,
      fun h hact hadm => ⟨_, hwrite.trans (congrArg _ (objWrite_asked a _ key len v)), hyes h hact hadm⟩,
      fun h => ⟨_, hblock, objBlock_refused key off h⟩, fun h1 h8 => ⟨_, hblock, objBlock_withTap (dbgLock_asked a _) key off h1 h8⟩,
      fun h => ⟨_, hstage, objStage_refused v h⟩, fun h1 h8 hoff => ⟨_, hstage, objStage_stages v h1 h8 hoff⟩,
      _, happly.trans (congrArg _ (objApply_asked a _ key off)), hbno, hbyes⟩
  · intro b y ok err
    have hread : exec (.dbgMemRead dt sp addr inc) s = .next ((a.withTap (y 1)).memLook sp addr inc) :=
      congrArg Host.Outcome.next (memAccess_open 1 sp inc _ hopen)
    have hwrite : exec (.dbgMemWrite dt sp addr inc v) s = .next ((a.withTap (y 2)).memStore sp addr v inc) :=
      congrArg Host.Outcome.next (memAccess_open 2 sp inc _ hopen)
    refine ⟨fun hend => ⟨_, hread, (memLook_range (s := a.withTap (y 1)) inc hend).trans (memDone_failed _ _ _ (by decide))⟩,
      fun hb hsp => ?_, fun hb hsp => ?_,
      fun hsp => ⟨_, hwrite, (memStore_readOnly (s := a.withTap (y 2)) inc v hsp).trans (memDone_failed _ _ _ (by decide))⟩,
      fun hsp hend => ⟨_, hwrite, (memStore_range (s := a.withTap (y 2)) inc v hsp hend).trans (memDone_failed _ _ _ (by decide))⟩,
      fun hsp hend hdown =>
        ⟨⟨_, hwrite, (memStore_down (s := a.withTap (y 2)) inc v hsp hend hdown).trans (memDone_failed _ _ _ (by decide))⟩, ?_⟩,
      fun hsp hend hup => ?_, fun hsp hb hup hfree => ?_⟩
    · rw [hsp] at hread
      exact ⟨_, hread, (memLook_reads (s := a.withTap (y 1)) inc hb rfl (by simp)).trans (memDone_ok _ _ _ _)⟩
    · rw [hsp] at hread
      exact ⟨_, hread, (memLook_reads (s := a.withTap (y 1)) inc hb rfl (by simp)).trans (memDone_ok _ _ _ _)⟩
    · refine ⟨_, hread, ?_⟩
      rw [memLook_down (s := a.withTap (y 1)) inc hend hdown, memDone_failed _ _ _ (by decide)]
      exact ⟨rfl, rfl, rfl, rfl⟩
    · rw [hsp] at hread hwrite
      intro ds
      refine ⟨fun d l hcopy => ?_, fun hnone => ?_⟩
      · exact ⟨⟨_, hwrite, memStore_copies (s := a.withTap (y 2)) inc v hend hup hcopy⟩,
          fun hset => ⟨_, hread, memLook_dram (s := a.withTap (y 1)) inc hend hup hcopy hset⟩⟩
      · refine ⟨fun hr => ⟨⟨_, hwrite, ?_⟩, ⟨_, hread, ?_⟩⟩, fun hr hheld hin => ⟨⟨_, hwrite, ?_⟩, ⟨_, hread, ?_⟩⟩⟩
        · rw [memStore_lost (s := a.withTap (y 2)) inc v (by decide) hend hup ⟨rfl, hnone⟩]
          exact memLost_error (a.withTap (y 2)) _ true hr
        · rw [memLook_lost (s := a.withTap (y 1)) inc hend hup ⟨rfl, hnone⟩]
          obtain ⟨htap, hdram⟩ := memLost_error (a.withTap (y 1)) ((a.withTap (y 1)).freeNat % 2 ^ 64) false hr
          exact ⟨congrArg Tap.memStatus htap, congrArg Tap.memAddr htap, hdram⟩
        · rw [memStore_lost (s := a.withTap (y 2)) inc v (by decide) hend hup ⟨rfl, hnone⟩]
          exact memLost_wiped (s := a.withTap (y 2)) _ true hr hheld hin
        · rw [memLook_lost (s := a.withTap (y 1)) inc hend hup ⟨rfl, hnone⟩]
          exact wiped_used (memLost_wiped (s := a.withTap (y 1)) _ false hr hheld hin)
    · rw [hsp] at hwrite
      refine ⟨_, hwrite, ?_⟩
      rw [memStore_pool (s := a.withTap (y 2)) inc v hb hup hfree]
      exact ⟨rfl, (poolWrite_run _ _ _).trans (leBytes_eight v)⟩
  · have hexec : exec (.stepPipes dt o v) s = .next ((a.actStart o.src Reg.dbgSTEP_PIPES v (keySize Reg.dbgSTEP_PIPES)).stepPipesRun v) :=
      congrArg Host.Outcome.next (actBy_starts (fun t => t.stepPipesRun v) hacc)
    obtain ⟨hrsp, hbusy, hbook, hhalt⟩ := stepStart_spec a o.src v (keySize Reg.dbgSTEP_PIPES) (key := Reg.dbgSTEP_PIPES) (by decide)
    refine ⟨_, hexec, ?_⟩
    obtain ⟨hend, hresult, hpipes⟩ := stepPipesRun_spec v hbusy
    unfold State.rb at hresult hpipes
    rw [on_r hhalt Reg.dbgHALTED_PIPES (by decide)] at hresult hpipes
    refine ⟨hend.trans hrsp, hresult, hpipes.trans ?_⟩
    rw [book_eq hbook]
    rfl
  · have hexec : exec (.stepStations dt o v) s =
        .next ((a.actStart o.src Reg.dbgSTEP_STATIONS v (keySize Reg.dbgSTEP_STATIONS)).stepStationsRun v) :=
      congrArg Host.Outcome.next (actBy_starts (fun t => t.stepStationsRun v) hacc)
    obtain ⟨hrsp, hbusy, hbook, hhalt⟩ := stepStart_spec a o.src v (keySize Reg.dbgSTEP_STATIONS) (key := Reg.dbgSTEP_STATIONS) (by decide)
    refine ⟨_, hexec, ?_⟩
    obtain ⟨hend, hresult, hsteps⟩ := stepStationsRun_spec v hbusy
    unfold State.rb at hresult hsteps
    rw [on_r hhalt Reg.dbgHALTED_STATIONS (by decide)] at hresult hsteps
    refine ⟨hend.trans hrsp, hresult, fun h h8 => (hsteps h h8).trans ?_⟩
    rw [presentHeads_of_book hbook h8, show (a.actStart _ _ _ _).boot = a.boot by rw [book_eq hbook]]
    rfl
  · have hexec : exec (.stepTick dt o v) s = .next (a.actStart o.src Reg.dbgSTEP_TICK v (keySize Reg.dbgSTEP_TICK)).stepTickRun :=
      congrArg Host.Outcome.next (actBy_starts (fun t => t.stepTickRun) hacc)
    obtain ⟨hrsp, hbusy, hbook, hhalt⟩ := stepStart_spec a o.src v (keySize Reg.dbgSTEP_TICK) (key := Reg.dbgSTEP_TICK) (by decide)
    refine ⟨_, hexec, ?_⟩
    obtain ⟨hend, hresult, htick⟩ := stepTickRun_spec hbusy
    rw [on_r hhalt Reg.dbgZONES_HALTED (by decide)] at hresult htick
    refine ⟨hend.trans hrsp, hresult, htick.trans ?_⟩
    rw [book_eq hbook]
end

section
/-! PROOFS. A running action refuses its object (O59). -/

namespace Sys2Proof.Machine

/-- An ACT object. -/
def isAct (key : Nat) : Bool := (rowAt key).any fun r => decide (r.acc = .act)

theorem row_of_isAct {key : Nat} (h : isAct key = true) : ∃ row, rowAt key = some row ∧ row.acc = .act := by
  unfold isAct at h
  cases hr : rowAt key with
  | none => simp [hr] at h
  | some row => exact ⟨row, rfl, by simpa [hr] using h⟩

/-- ACT_BUSY comes only from an ACT object whose request is executing (R449). -/
theorem busy_of_accCheck {s : State} {o : Origin} {key len v : Nat} {rel : Bool} (h : s.accCheck o key len v rel = 0x1A) :
    s.actBusy key = true := by
  unfold State.accCheck at h
  (repeat' split at h) <;> simp_all

/-- A write of an ACT object whose checks pass finds it idle. -/
theorem idle_of_accCheck {s : State} {o : Origin} {key len v : Nat} {rel : Bool} (h : s.accCheck o key len v rel = 0)
    (hact : isAct key = true) : s.actBusy key = false := by
  obtain ⟨row, hrow, hacc⟩ := row_of_isAct hact
  unfold State.accCheck at h
  rw [hrow] at h
  (repeat' split at h) <;> simp_all

/-- A command that triggers an action answers ACT_BUSY with the running token, or finds the object idle. -/
theorem actBusy_answers {c : Instr} {s a : State} {o : Origin} {key v : Nat} {f : State → State}
    (hexec : exec c s = .next (a.actBy o key v f)) (hact : isAct key = true) :
    (a.accCheck o key (keySize key) v true = 0x1A → a.actBusy key = true ∧ Gives c s (· = a.answer 0x1A (a.act key).tok)) ∧
      (a.accCheck o key (keySize key) v true = 0 → a.actBusy key = false) := by
  refine ⟨fun h => ⟨busy_of_accCheck h, _, hexec, ?_⟩, fun h => idle_of_accCheck h hact⟩
  unfold State.actBy
  dsimp only
  rw [if_pos h, h]

theorem actBy_busy {a : State} {o : Origin} {key v : Nat} {f : State → State} (h : a.accCheck o key (keySize key) v true = 0x1A) :
    a.actBy o key v f = a.answer 0x1A (a.act key).tok := by
  unfold State.actBy
  dsimp only
  rw [if_pos h, h]

/-! ## The ACT objects of the groups -/

/-- The ACT objects of banks, channels, heads and of the rest, as far as commands trigger them. -/
def bankActs (i : Nat) : List Nat := [Reg.bkARM i, Reg.bdgBANK_DIAG_CLEAR i]
def channelActs (i : Nat) : List Nat := [Reg.chTEST_PULSE i, Reg.chdDIAG_CLEAR i]
def headActs (i : Nat) : List Nat := [Reg.hdREBIND i, Reg.hsCOMMIT i, Reg.pcTAU_COMMIT i, Reg.pcPERSIST_CLEAR i, Reg.hlFOLD_NOW i]
def auxActs (i : Nat) : List Nat := [Reg.auxBIT_SLIP i, Reg.auxCAPTURE_ARM i]
def singleActs : List Nat := [Reg.dbgDBG_RELOCK, Reg.dbgSTEP_PIPES, Reg.dbgSTEP_STATIONS, Reg.dbgSTEP_TICK, Reg.prHANDOVER, Reg.calCAL_NOW,
  Reg.nodeRING_JOIN, Reg.dbgDEBUG_RESET, Reg.lcLC_REQ, Reg.cfgCONFIG_SAVE, Reg.cfgCONFIG_CLEAR, Reg.spiSPI_GO]

/-- All of them, checked against the table of objects at once. -/
theorem isAct_all : (∀ i < 24, ∀ k ∈ bankActs i, isAct k = true) ∧ (∀ i < 192, ∀ k ∈ channelActs i, isAct k = true) ∧
    (∀ i < 32, ∀ k ∈ headActs i, isAct k = true) ∧ (∀ i < 4, ∀ k ∈ auxActs i, isAct k = true) ∧
    (∀ i < 16, isAct (Reg.subRETRAIN i) = true) ∧ ∀ k ∈ singleActs, isAct k = true := by decide +kernel

/-- Accepting an action leaves the requests of every other object. -/
theorem actStart_act_ne (s : State) (src key v len j : Nat) (h : j ≠ key) : (s.actStart src key v len).act j = s.act j := by
  obtain ⟨-, -, hacts⟩ := actStart_spec s src key v len
  rw [State.act, hacts, tget_tset, if_neg h]
  rfl

end Sys2Proof.Machine

open Sys2Proof Sys2Proof.Machine

/-- Settles O59: each command triggers its ACT object by `State.actBy`. -/
theorem actBusy : Obligations.ActBusy := by
  intro dt v b n h l d i o s a busy chk
  refine ⟨fun e he => ?_, fun hl => ⟨_, rfl, actBy_busy hl⟩, fun hst => ⟨_, rfl, actBy_busy hst⟩,
    fun src k x len => ⟨actStart_busy _ _ _ _ _, fun j hj => actStart_act_ne _ _ _ _ _ _ hj⟩⟩
  obtain ⟨hbank, hchan, hhead, haux, hsub, hone⟩ := isAct_all
  simp only [List.mem_cons, List.not_mem_nil, or_false] at he
  rcases he with rfl | rfl | rfl | rfl | rfl | rfl | rfl | rfl | rfl | rfl | rfl | rfl | rfl | rfl | rfl | rfl | rfl | rfl | rfl | rfl |
    rfl | rfl | rfl | rfl | rfl
  · exact actBusy_answers rfl (hbank b b.isLt _ (by simp [bankActs]))
  · exact actBusy_answers rfl (hbank b b.isLt _ (by simp [bankActs]))
  · exact actBusy_answers rfl (hchan n n.isLt _ (by simp [channelActs]))
  · exact actBusy_answers rfl (hchan n n.isLt _ (by simp [channelActs]))
  · exact actBusy_answers rfl (hbank b b.isLt _ (by simp [bankActs]))
  · exact actBusy_answers rfl (hone _ (by simp [singleActs]))
  · exact actBusy_answers rfl (hone _ (by simp [singleActs]))
  · exact actBusy_answers rfl (hone _ (by simp [singleActs]))
  · exact actBusy_answers rfl (hone _ (by simp [singleActs]))
  · exact actBusy_answers rfl (hhead h h.isLt _ (by simp [headActs]))
  · exact actBusy_answers rfl (hhead h h.isLt _ (by simp [headActs]))
  · exact actBusy_answers rfl (hhead h h.isLt _ (by simp [headActs]))
  · exact actBusy_answers rfl (hhead h h.isLt _ (by simp [headActs]))
  · exact actBusy_answers rfl (hhead h h.isLt _ (by simp [headActs]))
  · exact actBusy_answers rfl (haux i i.isLt _ (by simp [auxActs]))
  · exact actBusy_answers rfl (haux i i.isLt _ (by simp [auxActs]))
  · exact actBusy_answers rfl (hsub d d.isLt)
  · exact actBusy_answers rfl (hone _ (by simp [singleActs]))
  · exact actBusy_answers rfl (hone _ (by simp [singleActs]))
  · exact actBusy_answers rfl (hone _ (by simp [singleActs]))
  · exact actBusy_answers rfl (hone _ (by simp [singleActs]))
  · exact actBusy_answers rfl (hone _ (by simp [singleActs]))
  · exact actBusy_answers rfl (hone _ (by simp [singleActs]))
  · exact actBusy_answers rfl (hone _ (by simp [singleActs]))
  · exact actBusy_answers rfl (hone _ (by simp [singleActs]))
end
